-- ==== Sys2Proof/Word.lean ====
section
/-! DEFINITION. The words of the module: bytes, 32-bit words, 64-bit accumulators, and their plainest arithmetic. -/

namespace Sys2Proof

/-- A byte of a memory, a frame or a dictionary value (R115). -/
abbrev Byte := BitVec 8

/-- A 32-bit word: a register of a core, a dictionary window word, the bit pattern of a binary32 value. -/
abbrev Word := BitVec 32

/-- The low `n` bits of a natural number. -/
def lowBits (n x : Nat) : Nat := x % 2 ^ n

/-- The field [hi:lo] of a natural number (the manual's bit-field notation). -/
def field (x hi lo : Nat) : Nat := (x / 2 ^ lo) % 2 ^ (hi + 1 - lo)

/-- Bit `n` of a natural number. -/
def bit (x n : Nat) : Bool := x.testBit n

/-- 1 or 0, for the bits of status words. -/
def b2n (b : Bool) : Nat := if b then 1 else 0

/-- A natural number as `n` bytes, little-endian (R639: every multi-byte value travels little-endian). -/
def leBytes : Nat → Nat → List Byte
  | 0, _ => []
  | n + 1, x => BitVec.ofNat 8 x :: leBytes n (x / 256)

/-- The number little-endian bytes spell. -/
def leNat : List Byte → Nat
  | [] => 0
  | b :: bs => b.toNat + 256 * leNat bs

/-- The number big-endian bytes spell. -/
def beNat (bs : List Byte) : Nat := bs.foldl (fun a b => a * 256 + b.toNat) 0

/-- A natural number as `n` bytes, big-endian. -/
def beBytes (n x : Nat) : List Byte := (leBytes n x).reverse

/-- Two's complement: the signed value of the low `n` bits of `x`. -/
def signedOf (n x : Nat) : Int :=
  if x % 2 ^ n < 2 ^ (n - 1) then Int.ofNat (x % 2 ^ n) else Int.ofNat (x % 2 ^ n) - Int.ofNat (2 ^ n)

/-- The low `n` bits of an integer in two's complement. -/
def unsignedOf (n : Nat) (x : Int) : Nat := (x % Int.ofNat (2 ^ n)).toNat

/-- `x` held between `lo` and `hi`. -/
def clampInt (lo hi x : Int) : Int := if x < lo then lo else if hi < x then hi else x

/-- A saturating count in `n` bits: one more than `x`, at most all ones. -/
def satSucc (n x : Nat) : Nat := if x + 1 < 2 ^ n then x + 1 else 2 ^ n - 1

/-- A saturating sum in `n` bits. -/
def satAdd (n x y : Nat) : Nat := if x + y < 2 ^ n then x + y else 2 ^ n - 1

end Sys2Proof
end

