-- ==== Sys2Proof/Config.lean ====
section
/-! DEFINITION. What an implementation fixes and the manual does not: the free values (opaque: nothing can be proved of
them) and the family parameters of the FDA6448 (R3). -/

namespace Sys2Proof.Config

/-- A free value for each use, taken with the counter `State.free` (log 1): where the manual leaves a value open and the
machine goes on. -/
opaque freeNat : Nat → Nat

/-- A free binary32 word for each use (log 1). -/
opaque freeWord : Nat → BitVec 32

/-- A free byte for each use (log 1). -/
opaque freeByte : Nat → BitVec 8

/-- The normal deviate Kelsis draws for a column's seed, a member, a quantity and a draw number (R293, R302, R319 fix
the distribution and that the same seed gives the same draws, not the values; log 30). -/
opaque normalDeviate : (seed member quantity draw : Nat) → BitVec 32

/-- By how many units in the last place an entry of a Kelsis table is off its nearest value, which R307 bounds to 4 without fixing it, for
the values the entry is formed from (log 31); the meaning keeps the bound. -/
opaque tableOffset : List (BitVec 32) → Nat

/-- What the grain-type file of R310 holds, its layout not being given (log 53): how many entries, an entry's name, and the word
of an entry for subindex 02-0F of the grain type. -/
opaque grainFileEntries : List (BitVec 8) → Nat
opaque grainFileName : List (BitVec 8) → Nat → List (BitVec 8)
opaque grainFileWord : List (BitVec 8) → (entry sub : Nat) → BitVec 32

/-- The grain-type file that Rylys supplies, of which the manual prints no byte (R310, R637; log 53). -/
opaque suppliedGrainFile : List (BitVec 8)

/-- What the configuration image of 0x2300:12 holds, its layout not being given (log 62): the base values of an image (keys of
numeric subindexes and their values), its VIS and DOM contents, and the bytes an image of the present contents reads as. -/
opaque configImageValues : List (BitVec 8) → List (Nat × Int)
opaque configImageBlocks : List (BitVec 8) → List (Nat × List (BitVec 8))
opaque configImageOf : List (Nat × Int) → List (Nat × List (BitVec 8)) → List (BitVec 8)

/-- The firmware version word that an image carries, the layout of a firmware image not being given (log 77). -/
opaque firmwareVersion : List (BitVec 8) → Nat

/-- What a memory holds at an address where the manual gives no layout or no content, for the contents that stand in it (log 72): boot
ROM, Kelsis's shared SRAM, flash outside what R30 and R593 lay out, the configuration copies and the last 64 KiB of FRAM (R28). Equal
contents give equal bytes. -/
opaque memoryByte {α : Type} (content : α) (address : Nat) : BitVec 8

/-- ECDSA P-256 with SHA-256, left to its own standard (log 69): the answer to a vendor challenge verifies (R119); an image's
signature verifies against the owner key of a hash (R458); a debug challenge is answered (R43). -/
opaque vendorAnswers : (challenge response : List (BitVec 8)) → Bool
opaque imageSigned : (ownerHash body signature : List (BitVec 8)) → Bool

/-- The factor by which a channel's factory calibration corrects the set current of R160, which R197 applies and the manual does not
give; for the 3-wire swap that of the mean of the two sources (log 14). -/
opaque excitationFactor : (channel setting : Nat) → (swap : Bool) → BitVec 32

/-- The draw `r` of the 16-bit LFSR of R478 for a core's interval number, whose polynomial and seed the manual does not
give (log 32); the meaning keeps its bound, 0 to 2^J - 1. -/
opaque samplingDraw : (core interval : Nat) → Nat

/-- Octets of Flue frames that the manual does not lay out, each a function of the frame's kind, its fields and its place (R524,
R554; log 100): payloads with their length, the padding, the tag of a link without a site key, the destination of a frame sent
before any HELLO, where a link's frame counter starts, and what an invalid FCS differs by. -/
opaque flueOctet : (kind : Nat) → (fields : List Nat) → (place : Nat) → BitVec 8
opaque flueLength : (kind : Nat) → (fields : List Nat) → Nat
opaque fluePadding : Nat → BitVec 8
opaque keylessTag : List (BitVec 8) → BitVec 64
opaque unknownMac : (port : Nat) → BitVec 48
opaque frameCounterStart : (own neighbour : Nat) → BitVec 48
opaque spoiledFcs : BitVec 32 → Nat

/-- The 16-bit code to which a current output sets its target in mA: R417 gives the resolution, not the scale (log 177). -/
opaque currentCode : BitVec 32 → BitVec 16

/-- Whether the coil energy of R397, n / d µJ, is rounded up where d does not divide n (log 34). -/
opaque energyRoundsUp : (n d : Nat) → Bool

/-- Channel count, converter cores, loops, columns, actuators, switches, drives, Flue ports, CAN buses (R3, FDA6448). -/
abbrev channels : Nat := 64
abbrev converterCores : Nat := 8
abbrev loops : Nat := 64
abbrev columns : Nat := 4
abbrev actuators : Nat := 20
abbrev switches : Nat := 10
abbrev drives : Nat := 16
abbrev currentOutputs : Nat := 8
abbrev pulseInputs : Nat := 8
abbrev fluePorts : Nat := 4
abbrev canBuses : Nat := 2
abbrev cores : Nat := 4

end Sys2Proof.Config
end

