-- ==== Sys2Proof/Syntax.lean ====
section
/-! DEFINITION. The block's commands: one constructor per row of the spec's table of operations and events. Operands carry
what the outside world supplies: the path and value of a dictionary access, the item an event happens to, and what is
measured, received or found at that moment. -/

namespace Sys2Proof

/-- The eight ways into the dictionary, with their writer codes (R120). -/
inductive Writer where
  | hearth | flue | canA | canB | core1 | core2 | core3 | service
deriving DecidableEq, Repr

/-- The writer code of R120. -/
def Writer.code : Writer → Nat
  | .hearth => 0 | .flue => 1 | .canA => 2 | .canB => 3 | .core1 => 4 | .core2 => 5 | .core3 => 6 | .service => 7

/-- A path: the writer and, for Flue, the client's source address (R118); 0 otherwise. -/
structure Path where
  writer : Writer
  addr   : Nat
deriving DecidableEq, Repr

/-- The four power states (R75). -/
inductive PowerState where
  | blaze | simmer | banked | ember
deriving DecidableEq, Repr

/-- A power state's code in 0x2200 (R85). -/
def PowerState.code : PowerState → Nat
  | .blaze => 0 | .simmer => 1 | .banked => 2 | .ember => 3

/-- What one conversion gives (R164, R169): the signed code (for IMP the quadrature component) and, for IMP, the in-phase
code; the modulator's overrange report; and the slot's excitation check. -/
structure Reading where
  code      : Int
  inPhase   : Int
  overrange : Bool
  circuitOpen : Bool
deriving DecidableEq, Repr

/-- What a Bellows tick meets from outside: lane disagreements (R252), double-bit errors found by a lane read or by the
scrubber, with their word addresses (R256), single-bit errors corrected (R255), the self-check's outcome (R254), measured
quantities with the subindexes that report them, loop currents read back by the current outputs (R421), fault causes seen present or
gone (0-19 channels, 20-29 switches; R396), and whether the filtered WAKE input is active (R426). -/
structure TickInput where
  mismatches : List (Fin 64)
  eccRead    : List (Fin 64 × Nat)
  eccScrub   : List Nat
  corrected  : Nat
  selfFails  : Bool
  measured   : List (Nat × Int)
  loops      : List (Fin 8 × BitVec 32)
  causes     : List (Nat × Bool)
  wake       : Bool
deriving DecidableEq, Repr

/-- What a thermal conversion gives: the reading in °C as binary32, and whether the sensor is found open or shorted (R606). -/
structure ThermalReading where
  value   : BitVec 32
  isOpen  : Bool
  isShort : Bool
deriving DecidableEq, Repr

/-- What an error in a frame counts as in the fault confinement of ISO 11898-1: as transmitter (8 up), as transmitter under one
of its exceptions (none), as receiver (1 up), as receiver in its severe cases (8 up). -/
inductive ErrorClass where
  | transmit | transmitExempt | receive | receiveSevere
deriving DecidableEq, Repr

/-- A frame as received: the ID word of R492 ([31] IDE, [30] FDF, [29] BRS, [28:0] identifier), DLC, remote frame, data. -/
structure CanFrame where
  id     : Nat
  dlc    : Nat
  remote : Bool
  data   : List Byte
deriving DecidableEq, Repr

/-- Where the frame that a controller has on the bus came from: the time reference slot, the urgent slot, or the head of the queue (R490). -/
inductive CanSlot where
  | reference | urgent | head
deriving DecidableEq, Repr

/-- A controller and the frame that is on the bus: a slot that fills meanwhile does not change which frame that is (R490). -/
structure OnWire where
  port : Fin 2
  slot : CanSlot
deriving DecidableEq, Repr

/-- What a HELLO carries (R534, R554). Unique IDs are 64-bit numbers. -/
structure Hello where
  uid      : Nat
  addr     : Nat
  role     : Nat
  group    : Nat
  priority : Nat
  nonce    : Nat
  banking  : Bool
  auth     : Bool
deriving DecidableEq, Repr

/-- A LINK_STATE (R535): origin, sequence number, adjacencies, summaries of neighbouring groups; with what the election of R536
needs to know of the origin (log 44): its address, priority, the groups it is a candidate in and those it heads, a leaf in
Kindling mode. -/
structure LinkState where
  origin   : Nat
  addr     : Nat
  priority : Nat
  seq      : Nat
  groups   : List Nat
  heads    : List Nat
  adjacent : List Nat
  borders  : List Nat
  leaf     : Bool
deriving DecidableEq, Repr

/-- A head and deputy announcement (R526). -/
structure HeadInfo where
  group  : Nat
  head   : Nat
  deputy : Nat
deriving DecidableEq, Repr

/-- A STATUS (R543): status, alarm word, severe records and the last one's code, and per channel: number, value, state, age. -/
structure StatusInfo where
  status     : Nat
  alarm      : Nat
  severe     : Nat
  lastSevere : Nat
  channels   : List (Nat × BitVec 32 × Nat × Nat)
deriving DecidableEq, Repr

/-- A DICT_REQ (R541). -/
structure DictReq where
  tid    : Nat
  op     : Nat
  index  : Nat
  sub    : Nat
  length : Nat
  data   : List Byte
deriving DecidableEq, Repr

/-- A DICT_RSP (R541). -/
structure DictRsp where
  tid    : Nat
  op     : Nat
  status : Nat
  abort  : Nat
  length : Nat
  data   : List Byte
deriving DecidableEq, Repr

/-- A segment of a DOM transfer, or its acknowledgement (R541). -/
structure DomSeg where
  tid    : Nat
  number : Nat
  last   : Bool
  ack    : Bool
  data   : List Byte
deriving DecidableEq, Repr

/-- A boundary or transport message of Kelsis (R318). -/
structure Boundary where
  step         : Nat
  up           : Bool
  sending      : Fin 4
  receiving    : Fin 4
  width        : Nat
  flags        : Nat
  grain        : Nat
  displacement : BitVec 32
  period       : Nat
  values       : List (BitVec 32 × BitVec 32 × BitVec 32 × BitVec 32)
deriving DecidableEq, Repr

/-- A forwarded Ash record (R551): code, source, severity, data words. -/
structure LogInfo where
  code     : Nat
  source   : Nat
  severity : Nat
  w4       : Nat
  w5       : Nat
  w6       : Nat
deriving DecidableEq, Repr

/-- The bodies of Flue frames (R526), and gPTP messages, which share the egress queues (R523). -/
inductive FlueBody where
  | hello (h : Hello)
  | linkState (l : LinkState)
  | head (h : HeadInfo)
  | seat (uid addr : Nat) (ack : Bool)
  | status (st : StatusInfo)
  /-- A banking notice with its wake time, or the head's answer. -/
  | banking (wake : Nat)
  | bankingAnswer (accept : Bool) (maximum : Nat)
  | awake
  /-- A slice of a plan part: its number, whether it is the last (log 99). -/
  | plan (group number : Nat) (last : Bool) (bytes : List Byte)
  | dictReq (r : DictReq)
  | dictRsp (r : DictRsp)
  | domSeg (d : DomSeg)
  | boundary (b : Boundary)
  | log (r : LogInfo)
  | map (channels : List Nat)
  /-- 0 Sync, 1 Follow_Up, 2 peer-delay request, 3 peer-delay response. -/
  | gptp (kind : Fin 4) (time : Nat)
deriving DecidableEq, Repr

/-- What an arriving frame says of itself: VERSION, TYPE, the CLASS octet, LENGTH; and the payload octets that it has (R525, R526). -/
structure FlueHead where
  version : Nat
  ftype   : Nat
  fclass  : Nat
  length  : Nat
  octets  : Nat
deriving DecidableEq, Repr

/-- How a frame arrives: port, EtherType (R521), header fields (R525), whether its FCS and the trailer's check value are right (R567), whether its
tag is (R554), whether the switch's queue to the hearth core has room for it (R523). -/
structure FlueMsg where
  port  : Fin 4
  ether : Nat
  head  : FlueHead
  hop   : Nat
  dst   : Nat
  src   : Nat
  seq   : Nat
  alive : Nat
  fcs   : Bool
  check : Bool
  tagOk : Bool
  room  : Bool
deriving DecidableEq, Repr

/-- How far a port's PHY has come: auto-negotiation is done and it trains, or it is trained (R521, R561). -/
structure PhyStep where
  port    : Fin 4
  trained : Bool
deriving DecidableEq, Repr

/-- A tick in which nothing unusual is met. -/
def TickInput.quiet : TickInput :=
  { mismatches := [], eccRead := [], eccScrub := [], corrected := 0, selfFails := false, measured := [], loops := [], causes := [], wake := false }

/-- A publication of a channel's slot result: the channel, and the SENSE cycle it falls in (R20). -/
structure Publication where
  chan : Fin 64
  time : Nat
deriving DecidableEq, Repr

/-- The start of a Kelsis step: the column, and the ensemble members whose LPDDR4 state reads back with an uncorrectable error
(R290, R291). -/
structure StepStart where
  column : Fin 4
  lost : List Nat
deriving DecidableEq, Repr

/-- Which slice of which plan part a frame carries: the group, the slice's number from 0, and whether it is the last (R539, log 99). -/
structure PlanSlice where
  group : Nat
  number : Nat
  last : Bool
deriving DecidableEq, Repr

/-- What a start finds (R68, R71, R72, R73, R89, R91, R94, R96, R99, R104, R192, R594, R601): AON counts since the reset with P1 below
and above its brown-out threshold, the AON contents lost with the cell, the crystal running, the cell's voltage, the banks' images
verifying, the self-tests (0 passed, 1 BIST, RAM or reference check failed, 2 LPDDR4 training failed), what the six thermal sensors
read, the deviation each converter core's reference check finds in ppm, whether copy A and copy B come out of FRAM sound (0), with
their check value damaged (1) or their data (2), the Ash header (0 valid, 1 invalid, 2 unreadable), the retention record passing its
check. -/
structure StartEnv where
  off      : Nat
  held     : Nat
  aonLost  : Bool
  crystal  : Bool
  cellMv   : BitVec 16
  bankAOk  : Bool
  bankBOk  : Bool
  selfTest : Fin 3
  thermal  : Vector ThermalReading 6
  deviations : Vector (BitVec 32) 8
  copyA    : Fin 3
  copyB    : Fin 3
  header   : Fin 3
  recordOk : Bool
deriving DecidableEq, Repr

/-- A start that finds nothing wrong: 25 °C everywhere. -/
def StartEnv.sound : StartEnv :=
  { off := 0, held := 0, aonLost := false, crystal := true, cellMv := 3000, bankAOk := true, bankBOk := true, selfTest := 0,
    thermal := Vector.replicate 6 ⟨0x41C80000, false, false⟩, deviations := Vector.replicate 8 0, copyA := 0, copyB := 0, header := 0,
    recordOk := true }

/-- A command of the module. -/
inductive Instr where
  /-- PLL_LOCK_LOSS: The AON clock monitor resets the module within 10 µs of PLL loss of lock, with all outputs taken to the reset state (R19). -/
  | pllLockLoss
  /-- P1_BROWN_OUT: P1 stays below 16.5 V for 200 µs in BLAZE or SIMMER; all outputs go to the reset state and the hold-up sequence runs (R65). -/
  | p1BrownOut
  /-- P1_BROWN_OUT_ASLEEP: P1 falls below 16.5 V in BANKED or EMBER; AON moves to the backup cell and sets wake cause P1_RESTORED (R68). -/
  | p1BrownOutAsleep (aon : Nat)
  /-- P1_LOW_SET: P1 held between 16.5 and 18.0 V for 100 ms sets status bit P1_LOW (R70). -/
  | p1LowSet
  /-- P1_LOW_CLEAR: P1 held above 18.0 V for 100 ms clears P1_LOW (R70). -/
  | p1LowClear
  /-- P2_LOSS: P2 stays below 9.0 V for 1 ms; actuators open, tach supervision is suspended and 0x0102 is logged (R69). -/
  | p2Loss
  /-- P2_RESTORED: P2 above 10.0 V for 100 ms after a loss; actuators are released without restarting any activation and 0x0105 is logged (R69). -/
  | p2Restored
  /-- CELL_CHECK: The hourly backup cell check measures the cell and sets or clears CELL_LOW, logging 0x0106 when low (R70). -/
  | cellCheck (mv : BitVec 16)
  /-- CRYSTAL_STOPPED: The 32.768 kHz crystal stops; AON continues on its RC oscillator and sets AON_RC (R73). -/
  | crystalStopped
  /-- OPERATING_TIME_SAVE: Every 60 s in BLAZE and SIMMER the hearth core copies the operating-time counter to FRAM (R72). -/
  | operatingTimeSave
  /-- POWER_STATE_EVALUATION: With all cores in WAIT and no transaction pending, or on an input change, the power manager selects the deepest allowed state from t_next (R79). -/
  | powerStateEvaluation
  /-- SLEEP_ENTRY_COMMIT: Entry into BANKED or EMBER reaches its commit point and the PLL stops (R82). -/
  | sleepEntryCommit
  /-- RTC_ALARM: The RTC alarm or the wake schedule fires and wakes the module (R85). -/
  | rtcAlarm (aon : Nat)
  /-- WAKE_INPUT: The WAKE input on X1 becomes active and wakes the module (R76). -/
  | wakeInput (aon : Nat)
  /-- CAN_WAKE: A wake pattern or matching wake frame on CAN A or CAN B wakes the module from BANKED (R509). -/
  | canWake (b : Fin 2) (frame : Option CanFrame) (aon : Nat)
  /-- WAKE_FROM_BANKED: Wake from BANKED completes; program execution resumes and the front end, actuators and drives are powered again (R77). -/
  | wakeFromBanked
  /-- CONTACT_TIME_REACHED: The declared next host contact time arrives; the module wakes to BLAZE and opens the contact window (R88). -/
  | contactTimeReached (aon : Nat)
  /-- CONTACT_WINDOW_END: The host contact window ends and 0x2201:01 reads 0 (R88). -/
  | contactWindowEnd
  /-- USB_VBUS_CHANGE: USB VBUS appears or disappears on SV, setting or clearing the USB cap (R80). -/
  | usbVbusChange (present : Bool)
  /-- SLEEP_REFUSAL_HOLD_END: 60 s after a banking REFUSE the power manager may again select BANKED or EMBER (R548). -/
  | sleepRefusalHoldEnd
  /-- POWER_STATISTICS_CLEAR: Writing 0x01 to 0x2200:0E clears the power-state statistics (R85). -/
  | powerStatisticsClear (p : Path)
  /-- SUPPLY_COUNTERS_CLEAR: Writing 0x01 to 0x3B00:0A clears the brown-out and P2 loss counters (R89). -/
  | supplyCountersClear (p : Path)
  /-- COLD_START: After reset release the boot ROM and firmware run the ordered cold start to STOPPED, Kindling or CONFIG_INVALID (R91). -/
  | coldStart (e : StartEnv)
  /-- WARM_BOOT: Wake from EMBER with a valid retention record boots without signature check and restores process state and mode after confirmation (R94). -/
  | warmBoot (e : StartEnv)
  /-- CONFIRM: Writing 0x5A to 0x2300:02 in HOST mode confirms the start and clears the start counter (R101). -/
  | confirm (p : Path)
  /-- CONFIRMATION_DEADLINE: The confirmation deadline passes unconfirmed; a cause is recorded and the module performs a watchdog reset (R102). -/
  | confirmationDeadline
  /-- WATCHDOG_RESET: A watchdog reset during start ends the start, recorded as cause WATCHDOG at the next start (R103). -/
  | watchdogReset
  /-- HOT_START_RECHECK: After cause 0x07 the thermal sensors are measured every 1 s and the module starts again once all are below restart levels (R104). -/
  | hotStartRecheck (e : StartEnv)
  /-- KINDLING_EXIT: EXIT written to 0x2300:0A sets the counter to 0 and cold-starts (R107). -/
  | kindlingExit (p : Path)
  /-- KINDLING_TRIAL: TRIAL written to 0x2300:0A sets the counter to threshold − 2 and cold-starts (R107). -/
  | kindlingTrial (p : Path)
  /-- AUTOMATIC_TRIAL: The automatic trial interval expires in Kindling mode and a trial start runs (R107). -/
  | automaticTrial
  /-- ARM: Command ARM moves STOPPED to ARMED (R108). -/
  | arm (p : Path)
  /-- START: Command START moves ARMED to RUNNING (R108). -/
  | start (p : Path)
  /-- HALT: Command HALT moves RUNNING to ARMED (R108). -/
  | halt (p : Path)
  /-- STOP: Command STOP moves ARMED or RUNNING to STOPPED (R108). -/
  | stop (p : Path)
  /-- RESET_FAULT: Command RESET_FAULT moves FAULT to STOPPED once every cause has cleared (R108). -/
  | resetFault (p : Path)
  /-- NMT_START_REMOTE_NODE: NMT Start Remote Node enables PDOs without arming (R110). -/
  | nmtStartRemoteNode (node : Fin 128)
  /-- NMT_STOP_REMOTE_NODE: NMT Stop Remote Node stops PDOs and SDO, process state unchanged (R110). -/
  | nmtStopRemoteNode (node : Fin 128)
  /-- NMT_ENTER_PRE_OPERATIONAL: NMT Enter Pre-operational puts CAN A into pre-operational (R110). -/
  | nmtEnterPreOperational (node : Fin 128)
  /-- NMT_RESET_NODE: NMT Reset Node causes a cold start (R110). -/
  | nmtResetNode (node : Fin 128)
  /-- NMT_RESET_COMMUNICATION: NMT Reset Communication restores CAN A communication objects and sends the boot-up message (R110). -/
  | nmtResetCommunication (node : Fin 128)
  /-- DICT_WRITE: A write to a subindex without behaviour of its own is checked in order and staged for commit (R117). -/
  | dictWrite (p : Path) (index : BitVec 16) (sub : BitVec 8) (data : List Byte)
  /-- SERVICE_PORT_REQUEST: A dictionary request arrives over the USB service port and is served one at a time (R120). -/
  | servicePortRequest (index : BitVec 16) (sub : BitVec 8) (data : Option (List Byte))
  /-- LEVEL_REQUEST: A passcode written to 0x2000:18 raises the path to Service, drops it with 0, or counts a wrong passcode toward a lock (R119). -/
  | levelRequest (p : Path) (code : Nat)
  /-- PASSCODE_LOCK_END: The 300 s passcode lock of a path ends (R119). -/
  | passcodeLockEnd (p : Path)
  /-- LEVEL_IDLE_TIMEOUT: A path without dictionary access for 600 s falls back to Operator (R119). -/
  | levelIdleTimeout (p : Path)
  /-- VENDOR_CHALLENGE: A read of 0x2000:1A returns a new 32-byte challenge (R131). -/
  | vendorChallenge (p : Path)
  /-- VENDOR_RESPONSE: A signature written to 0x2000:1B that answers the challenge raises the path to Vendor (R119). -/
  | vendorResponse (p : Path) (data : List Byte)
  /-- SERVICE_PASSCODE_WRITE: A new Service passcode is written at once to its own FRAM place and DEFAULT_PASSCODE updated (R133). -/
  | servicePasscodeWrite (p : Path) (code : Nat)
  /-- STORE_PARAMETERS: Writing 'save' to 0x1010 starts writing the configuration part to both FRAM copies (R134). -/
  | storeParameters (p : Path) (part : Fin 3) (value : Nat)
  /-- STORE_DONE: The store completes, the response is sent and 0x0A03 logged (R134). -/
  | storeDone
  /-- RESTORE_DEFAULTS: Writing 'load' to 0x1011 starts writing defaults of the part to both FRAM copies (R134). -/
  | restoreDefaults (p : Path) (part : Fin 3) (value : Nat)
  /-- RESTORE_DONE: The restore completes, the response is sent and 0x0A04 logged (R134). -/
  | restoreDone
  /-- CHECK_VALUE_RECOMPUTE: The running base configuration check value is recomputed within 100 ms of a change (R135). -/
  | checkValueRecompute
  /-- HEARTBEAT: A committed write to 0x2010:01 from an enabled path restarts the host watchdog, or returns outputs in AUTO recovery (R136). -/
  | heartbeat (p : Path) (v : BitVec 16)
  /-- HOST_PATHS_WRITE: A commit to 0x2011:02 switches the host watchdog on or off (R136). -/
  | hostPathsWrite (p : Path) (v : BitVec 8)
  /-- HOST_WATCHDOG_EXPIRY: The host watchdog expires; state LOST, 0x0703 logged and policies applied (R137). -/
  | hostWatchdogExpiry
  /-- HOST_ACKNOWLEDGE: Writing 0x01 to 0x2012:05 in AWAIT_ACK returns the outputs and restarts the watchdog (R139). -/
  | hostAcknowledge (p : Path)
  /-- OVERLAY_ENTRY_LIST_WRITE: An overlay entry list is checked whole against the base and stored or refused (R145). -/
  | overlayEntryListWrite (p : Path) (m : Fin 16) (data : List Byte)
  /-- MODE_SWITCH_REQUEST: A write to 0x2100:01 is checked and sets the switch PENDING for tick k + 32 (R149). -/
  | modeSwitchRequest (p : Path) (m : BitVec 8)
  /-- MODE_SWITCH_SWAP: At tick k + 32 all new running values take force together, the mode is saved and 0x0A01 logged (R149). -/
  | modeSwitchSwap
  /-- SCAN_DUE: A channel's scan due time arrives and it becomes pending on its core (R178). -/
  | scanDue (n : Fin 64) (t : Nat)
  /-- LEAD_CHECK_END: The 40 µs lead test ends, the sense paths are judged and the excitation switched on (R206). -/
  | leadCheckEnd (v : Fin 8) (fail : Bool)
  /-- CONVERSION_START: Settling or gain settling ends and a conversion starts (R158). -/
  | conversionStart (v : Fin 8)
  /-- CONVERSION_END: A conversion ends; the source swaps or reverses, a retake starts, or excitation goes off and the slot ends (R159). -/
  | conversionEnd (v : Fin 8) (r : Reading) (t : Nat)
  /-- RESULT_PUBLISH: The slot result is linearised and published with Q15 value, age stamp and channel state (R20), in the SENSE cycle named. -/
  | resultPublish (p : Publication)
  /-- TXSUP_READY: 100 ms after TXSUP switches on, the transmitter channel's slots may begin (R163). -/
  | txsupReady (n : Fin 64) (t : Nat)
  /-- FRONT_END_READY: 1.0 ms after front-end power-up the cores may start slots (R184). -/
  | frontEndReady (t : Nat)
  /-- CONVERT_NOW: Writing 0x01 to 0x2400+n:13 requests an on-demand conversion due at its commit tick (R180). -/
  | convertNow (p : Path) (n : Fin 64) (t : Nat)
  /-- REFERENCE_CHECK: Writing 0x2480+c:09 requests a reference check ordered as an on-demand slot (R192). -/
  | referenceCheck (p : Path) (v : Fin 8) (t : Nat)
  /-- REFERENCE_CHECK_END: The 10 ms reference check ends and REF_FAIL is set or cleared (R192). -/
  | referenceCheckEnd (v : Fin 8) (ppm : Int) (t : Nat)
  /-- BLANK_INPUT_CHANGE: BLANK0 or BLANK1 changes level after its filter, starting or ending blanking (R426). -/
  | blankInputChange (i : Fin 2) (high : Bool) (t : Nat)
  /-- BLANK_MAX_DURATION: A source in effect for its maximum stops blanking and logs 0x0303 (R188). -/
  | blankMaxDuration (src : Fin 38) (t : Nat)
  /-- CORE_COUNTERS_CLEAR: Writing 0x01 to 0x2480+c:0B clears the core's and its channels' counters (R194). -/
  | coreCountersClear (p : Path) (v : Fin 8)
  /-- CHANNEL_STATISTICS_CLEAR: Writing 0x01 to 0x2400+n:3C clears the channel statistics (R218). -/
  | channelStatisticsClear (p : Path) (n : Fin 64)
  /-- BELLOWS_TICK: At each 62.5 µs tick Bellows snapshots inputs, computes due loops, runs the self-check and writes outputs at cycle 4,800 (R225). -/
  | bellowsTick (i : TickInput)
  /-- ECC_WORD_REWRITE: The hearth core rewrites an uncorrectable word of a disabled loop from its copy within 1 ms (R256). -/
  | eccWordRewrite (word : Nat)
  /-- LOOP_FAULT_RESET: Writing 0x01 to 0x2600+l:2B ends FAULT, SAFE or FE HOLD at the next sample (R243). -/
  | loopFaultReset (p : Path) (l : Fin 64)
  /-- HOLD_REQUEST_SET: Writing 1 to 0x2600+l:2A holds the loop (R239). -/
  | holdRequestSet (p : Path) (l : Fin 64)
  /-- HOLD_REQUEST_CLEAR: Writing 0 to 0x2600+l:2A ends HOLD on request with a bumpless hand-over (R239). -/
  | holdRequestClear (p : Path) (l : Fin 64)
  /-- LOOP_MODE_MANUAL: Mode command MANUAL is taken at the loop's next due sample (R265). -/
  | loopModeManual (p : Path) (l : Fin 64)
  /-- LOOP_MODE_AUTO: Mode command AUTO is taken at the next due sample with a hand-over (R265). -/
  | loopModeAuto (p : Path) (l : Fin 64)
  /-- LOOP_MODE_CASCADE: Mode command CASCADE is taken at the next due sample with a hand-over (R265). -/
  | loopModeCascade (p : Path) (l : Fin 64)
  /-- LOOP_MODE_PREDICTIVE: Mode command PREDICTIVE is taken at the next due sample with a hand-over (R265). -/
  | loopModePredictive (p : Path) (l : Fin 64)
  /-- TRACE_ARM: Trace command ARM clears the buffers and enters FILLING (R249). -/
  | traceArm (p : Path)
  /-- TRACE_TRIGGER: Trace command TRIGGER triggers an ARMED trace (R249). -/
  | traceTrigger (p : Path)
  /-- TRACE_STOP: Trace command STOP returns the trace to IDLE (R249). -/
  | traceStop (p : Path)
  /-- LOOP_STATISTICS_CLEAR: Writing 0x01 to 0x2600+l:44 clears loop statistics (R259). -/
  | loopStatisticsClear (p : Path) (l : Fin 64)
  /-- BELLOWS_COUNTERS_CLEAR: Writing 0x01 to 0x2680:0D clears Bellows counters and ECC_IDLE (R261). -/
  | bellowsCountersClear (p : Path)
  /-- TICK_COUNT_READ: Reading 0x2680:01 latches the high word of the tick count (R261). -/
  | tickCountRead (p : Path)
  /-- LEARNER_CLEAR_MEMORY: Writing 0x01 to 0x2700+l:0C makes the learner region read 0 from the next sample (R279). -/
  | learnerClearMemory (p : Path) (l : Fin 64)
  /-- KELSIS_STEP_START: At a whole multiple of the step period a column latches inputs and runs transport, drying pass and assimilation (R291). -/
  | kelsisStepStart (k : StepStart)
  /-- KELSIS_STEP_END: A step completes; health is evaluated, outputs published and boundary messages sent (R291). -/
  | kelsisStepEnd (c : Fin 4)
  /-- STEP_DEADLINE: A step not complete at its deadline is abandoned, outputs held and 0x0501 logged (R327). -/
  | stepDeadline (c : Fin 4)
  /-- COLUMN_REINITIALISE: Writing 0x01 to 0x3010+c:14 initialises the column at its next step start (R292). -/
  | columnReinitialise (p : Path) (c : Fin 4)
  /-- TABLE_BUILD_START: A triggered build of a grain type starts on a free engine (R308). -/
  | tableBuildStart (g : Fin 16)
  /-- TABLE_BUILD_DONE: A table build finishes ready, out of date or failed with 0x0505 (R307). -/
  | tableBuildDone
  /-- TABLE_REBUILD: Writing 0x3020:07 triggers rebuilds (R308). -/
  | tableRebuild (p : Path)
  /-- LOAD_FROM_FILE: Writing 0x3040+g:10 copies a grain-type file record into the grain type and triggers a build (R310). -/
  | loadFromFile (p : Path) (g : Fin 16) (e : Nat)
  /-- LAB_VALUE_SUBMIT: Writing 0x3010+c:55 queues a lab value with its timestamp (R313). -/
  | labValueSubmit (p : Path) (c : Fin 4) (v : Word)
  /-- MAP_SNAPSHOT: Writing 0x01 to 0x3070:05 requests a moisture map snapshot (R324). -/
  | mapSnapshot (p : Path)
  /-- MAP_CELL_READ: Reading cell W − 1 of the map window advances the layer cursor (R340). -/
  | mapCellRead (p : Path)
  /-- SHEDDING_EVALUATION: At the update start or every 20 s the shedding stage advances or retreats (R328). -/
  | sheddingEvaluation
  /-- PREDICTION_UPDATE_START: At a multiple of the update interval an update latches its inputs and starts its work units (R344). -/
  | predictionUpdateStart (c : Fin 4)
  /-- PREDICTION_UPDATE_DONE: The last work unit ends; the plan is chosen and handed over (R347). -/
  | predictionUpdateDone (c : Fin 4)
  /-- ENTER_FEEDBACK: Predictor command ENTER_FEEDBACK enters FEEDBACK and sets FORCED (R358). -/
  | enterFeedback (p : Path) (c : Fin 4)
  /-- RETURN: Predictor command RETURN clears FORCED and starts a return (R358). -/
  | returnToPredictive (p : Path) (c : Fin 4)
  /-- KELSIS_COUNTERS_CLEAR: Writing 0x01 to 0x3000:0E clears Kelsis counters (R332). -/
  | kelsisCountersClear (p : Path)
  /-- COLUMN_STATISTICS_CLEAR: Writing 0x01 to 0x3010+c:57 clears column statistics (R334). -/
  | columnStatisticsClear (p : Path) (c : Fin 4)
  /-- PREDICTIVE_COUNTERS_CLEAR: Writing 0x01 to 0x3100:09 clears predictive counters (R364). -/
  | predictiveCountersClear (p : Path)
  /-- ACTUATOR_COMMAND_OFF: Command OFF ends an activation or cancels a deferred one (R372). -/
  | actuatorCommandOff (p : Path) (a : Fin 20)
  /-- ACTUATOR_COMMAND_ON: Command ON requests an activation, checked by the regulator (R372). -/
  | actuatorCommandOn (p : Path) (a : Fin 20)
  /-- ACTUATOR_COMMAND_PULSE: Command PULSE starts an activation or extends a running pulse (R372). -/
  | actuatorCommandPulse (p : Path) (a : Fin 20)
  /-- ACTIVATION_START: The low-side switch closes at t_a and the rise begins (R375). -/
  | activationStart (a : Fin 20)
  /-- PEAK_REACHED: A current sample reaches I_pk; the window is judged and the dwell begins (R384). -/
  | peakReached (a : Fin 20) (us : Nat) (samples : List (Nat × Nat))
  /-- PEAK_TIME_MAXIMUM: t_max passes without I_pk; the channel opens with PEAK_LONG (R384). -/
  | peakTimeMaximum (a : Fin 20)
  /-- DWELL_END: The peak dwell ends and the channel enters hold (R375). -/
  | dwellEnd (a : Fin 20)
  /-- DEFERRAL_TIMEOUT: t_defer_max passes with the partner not in hold; OVERLAP_REFUSED and 0x0604 (R381). -/
  | deferralTimeout (a : Fin 20)
  /-- PULSE_END: The pulse time ends and the channel turns off (R372). -/
  | pulseEnd (a : Fin 20)
  /-- MAXIMUM_ON_TIME: The maximum on-time ends the activation (R372). -/
  | maximumOnTime (a : Fin 20)
  /-- DECAY_COMPLETE: Diode current falls below 5 % and the decay time is reported (R378). -/
  | decayComplete (a : Fin 20) (us : Nat)
  /-- MOVEMENT_WINDOW_END: The movement window ends with no dip; NO_MOVE and 0x0602 (R385). -/
  | movementWindowEnd (a : Fin 20)
  /-- PROPORTIONAL_SETPOINT_APPLY: A new PROPORTIONAL setpoint is applied to the regulator (R374). -/
  | proportionalSetpointApply (a : Fin 20)
  /-- DUTY_UPDATE: The 1 ms duty update sets or clears DUTY_LIMITED (R387). -/
  | dutyUpdate
  /-- P2_CURRENT_LIMIT_EVALUATION: The 1 s mean P2 current enters or leaves the limit condition (R389). -/
  | p2CurrentLimitEvaluation (mean : Nat)
  /-- PERMIT_LOST: SAFETY_OK or HEAT_PERMIT goes absent after its filter; channels and heat outputs of that class are forced off (R390). -/
  | permitLost (which : Fin 2)
  /-- PERMIT_RESTORED: The permit input returns; nothing restarts (R390). -/
  | permitRestored (which : Fin 2)
  /-- HS_OVERCURRENT: High-side current above 15 A trips the switch and both channels (R396). -/
  | hsOvercurrent (h : Fin 10)
  /-- COMMON_SHORT: High-side current exceeds the channel sum by 1 A; FAULT COMMON_SHORT (R396). -/
  | commonShort (h : Fin 10)
  /-- STUCK_ON: Common node above 2 V with the switch off; FAULT STUCK_ON (R396). -/
  | stuckOn (h : Fin 10)
  /-- HS_OVERTEMP: High-side switch over-temperature; FAULT OVERTEMP (R396). -/
  | hsOvertemp (h : Fin 10)
  /-- LS_OVERCURRENT: Low-side current above 7.5 A opens the channel (R396). -/
  | lsOvercurrent (a : Fin 20)
  /-- LS_STUCK: Switch current after turn-off opens the high-side switch; FAULT LS_STUCK (R396). -/
  | lsStuck (a : Fin 20)
  /-- OPEN_LOAD: Current below half the target for 1 ms opens the channel (R396). -/
  | openLoad (a : Fin 20)
  /-- ACTUATOR_FAULT_RESET: Writing 0x2800+a:19 resets a channel fault (R396). -/
  | actuatorFaultReset (p : Path) (a : Fin 20)
  /-- SWITCH_FAULT_RESET: Writing 0x2820+h:06 resets a switch fault (R396). -/
  | switchFaultReset (p : Path) (h : Fin 10)
  /-- ACTUATOR_STATISTICS_CLEAR: Writing 0x01 to 0x2800+a:30 clears channel statistics (R397). -/
  | actuatorStatisticsClear (p : Path) (a : Fin 20)
  /-- SWITCH_STATISTICS_CLEAR: Writing 0x01 to 0x2820+h:0B clears switch statistics (R401). -/
  | switchStatisticsClear (p : Path) (h : Fin 10)
  /-- START_TIMEOUT: No tach pulse within the start timeout; RETRY_WAIT or BLOCKED with 0x0701 (R408). -/
  | startTimeout (d : Fin 16)
  /-- RETRY_BACKOFF_END: The back-off ends and the next start attempt begins (R408). -/
  | retryBackoffEnd (d : Fin 16)
  /-- TACH_PULSE: A tach edge completes a period measurement and may enter RUNNING (R409). -/
  | tachPulse (d : Fin 16) (period : Option Nat)
  /-- TACH_LOSS: No tach pulse for the loss time; OPEN_LOOP or STALL and 0x0702 (R410). -/
  | tachLoss (d : Fin 16)
  /-- DRIVE_FAULT_RESET: Writing 0x2900+d:11 returns BLOCKED to IDLE and re-enables the supply pin (R408). -/
  | driveFaultReset (p : Path) (d : Fin 16)
  /-- SENSOR_SUPPLY_OVERCURRENT: A sensor supply pin above 150 mA for 1 ms is switched off (R412). -/
  | sensorSupplyOvercurrent (d : Fin 16) (mA : Nat)
  /-- DRIVE_STATISTICS_CLEAR: Writing 0x01 to 0x2900+d:2C clears drive statistics (R429). -/
  | driveStatisticsClear (p : Path) (d : Fin 16)
  /-- CURRENT_OUTPUT_LOOP_FAULT: Readback off target for 100 ms sets OPEN_LOOP or DEVIATION and logs 0x0705 (R421). -/
  | currentOutputLoopFault (k : Fin 8) (mA : Word)
  /-- CURRENT_OUTPUT_STATISTICS_CLEAR: Writing 0x01 to 0x2920+k:26 clears output statistics (R432). -/
  | currentOutputStatisticsClear (p : Path) (k : Fin 8)
  /-- PULSE_EDGE: A filtered edge on a pulse input is counted or timed, or marks an index (R422). -/
  | pulseEdge (p8 : Fin 8) (high : Bool) (period : Option Nat)
  /-- FREQUENCY_GATE_END: The gate time ends and the frequency is published (R423). -/
  | frequencyGateEnd (p8 : Fin 8)
  /-- PULSE_ZERO_TIME: No edge for the zero time sets the frequency to 0 (R423). -/
  | pulseZeroTime (p8 : Fin 8)
  /-- COUNT_RESET: Writing 0x01 to 0x2930+p:08 sets the count to 0 (R423). -/
  | countReset (p : Path) (p8 : Fin 8)
  /-- SETPOINT_INPUT_FAULT: A CURRENT setpoint input outside 3.6–21.0 mA for 10 ms holds its last value and logs 0x0707 (R425). -/
  | setpointInputFault (i : Fin 2)
  /-- ADD: Adds two registers (R447). -/
  | add (c : Fin 4) (d : Fin 16) (a : Fin 16) (b : Fin 16)
  /-- SUB: Subtracts two registers (R447). -/
  | sub (c : Fin 4) (d : Fin 16) (a : Fin 16) (b : Fin 16)
  /-- AND: Bitwise AND of two registers (R447). -/
  | and (c : Fin 4) (d : Fin 16) (a : Fin 16) (b : Fin 16)
  /-- OR: Bitwise OR of two registers (R447). -/
  | or (c : Fin 4) (d : Fin 16) (a : Fin 16) (b : Fin 16)
  /-- XOR: Bitwise XOR of two registers (R447). -/
  | xor (c : Fin 4) (d : Fin 16) (a : Fin 16) (b : Fin 16)
  /-- SHL: Logical left shift by register (R447). -/
  | shl (c : Fin 4) (d : Fin 16) (a : Fin 16) (b : Fin 16)
  /-- SHR: Logical right shift by register (R447). -/
  | shr (c : Fin 4) (d : Fin 16) (a : Fin 16) (b : Fin 16)
  /-- SAR: Arithmetic right shift by register (R447). -/
  | sar (c : Fin 4) (d : Fin 16) (a : Fin 16) (b : Fin 16)
  /-- SLT: Signed set-less-than (R447). -/
  | slt (c : Fin 4) (d : Fin 16) (a : Fin 16) (b : Fin 16)
  /-- SLTU: Unsigned set-less-than (R447). -/
  | sltu (c : Fin 4) (d : Fin 16) (a : Fin 16) (b : Fin 16)
  /-- MUL: Low 32 bits of a product (R447). -/
  | mul (c : Fin 4) (d : Fin 16) (a : Fin 16) (b : Fin 16)
  /-- MULHS: High 32 bits of a signed product (R447). -/
  | mulhs (c : Fin 4) (d : Fin 16) (a : Fin 16) (b : Fin 16)
  /-- MULHU: High 32 bits of an unsigned product (R447). -/
  | mulhu (c : Fin 4) (d : Fin 16) (a : Fin 16) (b : Fin 16)
  /-- DIV: Signed division with defined results for zero and overflow (R447). -/
  | div (c : Fin 4) (d : Fin 16) (a : Fin 16) (b : Fin 16)
  /-- DIVU: Unsigned division (R447). -/
  | divu (c : Fin 4) (d : Fin 16) (a : Fin 16) (b : Fin 16)
  /-- REM: Signed remainder (R447). -/
  | rem (c : Fin 4) (d : Fin 16) (a : Fin 16) (b : Fin 16)
  /-- REMU: Unsigned remainder (R447). -/
  | remu (c : Fin 4) (d : Fin 16) (a : Fin 16) (b : Fin 16)
  /-- MIN: Signed minimum (R447). -/
  | min (c : Fin 4) (d : Fin 16) (a : Fin 16) (b : Fin 16)
  /-- MAX: Signed maximum (R447). -/
  | max (c : Fin 4) (d : Fin 16) (a : Fin 16) (b : Fin 16)
  /-- QMUL: Q15 multiply with rounding and saturation (R447). -/
  | qmul (c : Fin 4) (d : Fin 16) (a : Fin 16) (b : Fin 16)
  /-- QADD: Saturating Q15 add (R447). -/
  | qadd (c : Fin 4) (d : Fin 16) (a : Fin 16) (b : Fin 16)
  /-- QSUB: Saturating Q15 subtract (R447). -/
  | qsub (c : Fin 4) (d : Fin 16) (a : Fin 16) (b : Fin 16)
  /-- ADDI: Adds a sign-extended immediate (R447). -/
  | addi (c : Fin 4) (d : Fin 16) (a : Fin 16) (imm : BitVec 18)
  /-- ANDI: AND with a zero-extended immediate (R447). -/
  | andi (c : Fin 4) (d : Fin 16) (a : Fin 16) (imm : BitVec 18)
  /-- ORI: OR with a zero-extended immediate (R447). -/
  | ori (c : Fin 4) (d : Fin 16) (a : Fin 16) (imm : BitVec 18)
  /-- XORI: XOR with a zero-extended immediate (R447). -/
  | xori (c : Fin 4) (d : Fin 16) (a : Fin 16) (imm : BitVec 18)
  /-- SHLI: Left shift by immediate (R447). -/
  | shli (c : Fin 4) (d : Fin 16) (a : Fin 16) (imm : BitVec 18)
  /-- SHRI: Logical right shift by immediate (R447). -/
  | shri (c : Fin 4) (d : Fin 16) (a : Fin 16) (imm : BitVec 18)
  /-- SARI: Arithmetic right shift by immediate (R447). -/
  | sari (c : Fin 4) (d : Fin 16) (a : Fin 16) (imm : BitVec 18)
  /-- SLTI: Signed compare with immediate (R447). -/
  | slti (c : Fin 4) (d : Fin 16) (a : Fin 16) (imm : BitVec 18)
  /-- SLTIU: Unsigned compare with sign-extended immediate (R447). -/
  | sltiu (c : Fin 4) (d : Fin 16) (a : Fin 16) (imm : BitVec 18)
  /-- LUI: Loads an immediate into bits [31:14] (R447). -/
  | lui (c : Fin 4) (d : Fin 16) (a : Fin 16) (imm : BitVec 18)
  /-- LDW: Loads a word, through the dictionary guard in the window (R447). -/
  | ldw (c : Fin 4) (d : Fin 16) (a : Fin 16) (imm : BitVec 18) (ecc : Fin 3)
  /-- LDH: Loads a sign-extended half-word (R447). -/
  | ldh (c : Fin 4) (d : Fin 16) (a : Fin 16) (imm : BitVec 18) (ecc : Fin 3)
  /-- LDHU: Loads a zero-extended half-word (R447). -/
  | ldhu (c : Fin 4) (d : Fin 16) (a : Fin 16) (imm : BitVec 18) (ecc : Fin 3)
  /-- LDB: Loads a sign-extended byte (R447). -/
  | ldb (c : Fin 4) (d : Fin 16) (a : Fin 16) (imm : BitVec 18) (ecc : Fin 3)
  /-- LDBU: Loads a zero-extended byte (R447). -/
  | ldbu (c : Fin 4) (d : Fin 16) (a : Fin 16) (imm : BitVec 18) (ecc : Fin 3)
  /-- STW: Stores a word, staging a dictionary write in the window (R447). -/
  | stw (c : Fin 4) (d : Fin 16) (a : Fin 16) (imm : BitVec 18)
  /-- STH: Stores a half-word (R447). -/
  | sth (c : Fin 4) (d : Fin 16) (a : Fin 16) (imm : BitVec 18)
  /-- STB: Stores a byte (R447). -/
  | stb (c : Fin 4) (d : Fin 16) (a : Fin 16) (imm : BitVec 18)
  /-- XCHG: Atomically exchanges a register with a word in DTCM or shared SRAM (R447). -/
  | xchg (c : Fin 4) (d : Fin 16) (a : Fin 16) (imm : BitVec 18) (ecc : Fin 3)
  /-- BEQ: Branches when equal (R447). -/
  | beq (c : Fin 4) (a : Fin 16) (b : Fin 16) (imm : BitVec 18)
  /-- BNE: Branches when not equal (R447). -/
  | bne (c : Fin 4) (a : Fin 16) (b : Fin 16) (imm : BitVec 18)
  /-- BLT: Branches when less, signed (R447). -/
  | blt (c : Fin 4) (a : Fin 16) (b : Fin 16) (imm : BitVec 18)
  /-- BGE: Branches when greater or equal, signed (R447). -/
  | bge (c : Fin 4) (a : Fin 16) (b : Fin 16) (imm : BitVec 18)
  /-- BLTU: Branches when less, unsigned (R447). -/
  | bltu (c : Fin 4) (a : Fin 16) (b : Fin 16) (imm : BitVec 18)
  /-- BGEU: Branches when greater or equal, unsigned (R447). -/
  | bgeu (c : Fin 4) (a : Fin 16) (b : Fin 16) (imm : BitVec 18)
  /-- JL: Jumps and links (R447). -/
  | jl (c : Fin 4) (d : Fin 16) (imm : BitVec 22)
  /-- JLR: Jumps to a register target and links (R447). -/
  | jlr (c : Fin 4) (d : Fin 16) (a : Fin 16) (imm : BitVec 18)
  /-- SRD: Reads a system register (R447). -/
  | srd (c : Fin 4) (d : Fin 16) (imm : BitVec 18)
  /-- SWR: Writes a system register, privileged (R447). -/
  | swr (c : Fin 4) (a : Fin 16) (imm : BitVec 18)
  /-- WAIT: Waits for a masked pending level or a timeout (R449). -/
  | wait (c : Fin 4) (d : Fin 16) (a : Fin 16) (imm : BitVec 18)
  /-- WAIT_END: A masked pending bit ends a WAIT and its value is written (R449). -/
  | waitEnd (c : Fin 4) (waited : Nat)
  /-- WAIT_TIMEOUT: The WAIT timeout elapses and WAIT ends with 0 (R449). -/
  | waitTimeout (c : Fin 4)
  /-- SIGNAL: Raises inter-core event source 252 + k (R447). -/
  | signal (c : Fin 4) (imm : BitVec 18)
  /-- BRK: Traps BREAK, or halts for debug when unlocked (R447). -/
  | brk (c : Fin 4) (imm : BitVec 18)
  /-- ERET: Returns from a trap, restoring IE and PM (R451). -/
  | eret (c : Fin 4)
  /-- FENCE: Stalls until every earlier store is complete (R447). -/
  | fence (c : Fin 4)
  /-- INTERRUPT_ENTRY: An enabled pending level is taken between instructions (R451). -/
  | interruptEntry (c : Fin 4)
  /-- SVC_EXIT: Supervisor call EXIT sets the program state STOPPED (R454). -/
  | svcExit (c : Fin 4)
  /-- SVC_EVENT_RETURN: Supervisor call EVENT_RETURN ends the event handler and resumes the program (R454). -/
  | svcEventReturn (c : Fin 4)
  /-- SVC_LOG: Supervisor call LOG queues a program Ash record (R454). -/
  | svcLog (c : Fin 4)
  /-- SVC_DOM_READ: Supervisor call DOM_READ copies a DOM or VIS into the program buffer (R454). -/
  | svcDomRead (c : Fin 4)
  /-- SVC_DOM_WRITE: Supervisor call DOM_WRITE writes a whole DOM or VIS value (R454). -/
  | svcDomWrite (c : Fin 4)
  /-- SVC_SET_LEVELS: Supervisor call SET_LEVELS sets PRIO_MASK within the program's levels (R454). -/
  | svcSetLevels (c : Fin 4)
  /-- SVC_UNLISTED: An unlisted supervisor call returns 0xFFFF_FFFF (R454). -/
  | svcUnlisted (c : Fin 4) (num : BitVec 12)
  /-- PROGRAM_START: Core command START verifies the slot, loads the image and enters user mode (R460). -/
  | programStart (p : Path) (c : Fin 4) (intact : Bool)
  /-- PROGRAM_STOP: Core command STOP holds the core in privileged WAIT (R461). -/
  | programStop (p : Path) (c : Fin 4)
  /-- PROGRAM_RESTART: Core command RESTART starts the program again from its image (R464). -/
  | programRestart (p : Path) (c : Fin 4) (intact : Bool)
  /-- PROGRAM_IMAGE_WRITE: A program image is checked at its last segment and stored in both banks (R459). -/
  | programImageWrite (p : Path) (c : Fin 4) (data : List Byte)
  /-- ERASE_SLOT: Writing 0x3410:02 empties a program slot (R465). -/
  | eraseSlot (p : Path) (slot : Nat)
  /-- FIRMWARE_IMAGE_WRITE: A firmware image is written into the bank not running, INCOMPLETE until checked (R30). -/
  | firmwareImageWrite (p : Path) (data : List Byte) (done : Bool)
  /-- CONFIGURATION_IMAGE_WRITE: A whole configuration image is written to both copies (R112). -/
  | configurationImageWrite (p : Path) (data : List Byte)
  /-- CORE_STATISTICS_CLEAR: Writing 0x01 to 0x3400+n:0F clears core statistics (R464). -/
  | coreStatisticsClear (p : Path) (c : Fin 4)
  /-- DEBUG_UNLOCK: A successful signed challenge unlocks the SV debug pins and logs 0x0D02 (R43). -/
  | debugUnlock
  /-- ROUTE_CHANGE: A route commit clears the source's pending bit at its old core (R469). -/
  | routeChange (p : Path) (i : Fin 128) (v : BitVec 32)
  /-- SRC_PEND_CLEAR: A W1C write to SRC_PEND clears served source bits (R470). -/
  | srcPendClear (c : Fin 4) (i : Fin 8) (mask : BitVec 32)
  /-- TIMER_RUN: Setting RUN loads COUNT from RELOAD and starts the timer (R472). -/
  | timerRun (c : Fin 4) (t : Fin 2) (periodic : Bool)
  /-- TIMER_STOP: Clearing RUN stops the timer with no expiry (R472). -/
  | timerStop (c : Fin 4) (t : Fin 2)
  /-- TIMER_EXPIRY: COUNT steps from 1 to 0, raising local source 248 + t and reloading or stopping (R472). -/
  | timerExpiry (c : Fin 4) (t : Fin 2)
  /-- EVENT_ROUTER_COUNTERS_CLEAR: Writing 0x01 to 0x3480:84 clears router counters and MERGED (R473). -/
  | eventRouterCountersClear (p : Path)
  /-- COUNTER_OVERFLOW: A PMC wraps, setting OVF and raising source 250 when enabled (R476). -/
  | counterOverflow (c : Fin 4) (j : Fin 8)
  /-- PMOVF_CLEAR: A W1C write to PMOVF clears overflow bits (R476). -/
  | pmovfClear (c : Fin 4) (mask : BitVec 8)
  /-- CYCLE_LO_READ: Reading CYCLE_LO latches CYCLE_HI (R474). -/
  | cycleLoRead (c : Fin 4)
  /-- SAMPLE_INTERVAL_END: The sampling interval ends and the next fetched instruction is tagged (R478). -/
  | sampleIntervalEnd (c : Fin 4)
  /-- SAMPLE_RECORD_READY: The tagged instruction retires or is flushed; its record is ready and source 251 raised (R478). -/
  | sampleRecordReady (c : Fin 4)
  /-- SAMPLE_RECORD_LOCK: Reading 0x231 locks the sample record (R479). -/
  | sampleRecordLock (c : Fin 4)
  /-- SAMPLE_RECORD_RELEASE: Reading 0x236 clears VALID and unlocks the record (R479). -/
  | sampleRecordRelease (c : Fin 4)
  /-- PERFORMANCE_COUNTERS_CLEAR: Writing 0x01 to 0x3500+n:17 zeroes PMC0–7, PMOVF and records lost (R480). -/
  | performanceCountersClear (p : Path) (c : Fin 4)
  /-- CAN_CONTROLLER_RESTART: A committed write to the controller settings takes it OFF, cancels entries and restarts integration (R484). -/
  | canControllerRestart (b : Fin 2)
  /-- BUS_INTEGRATED: 11 recessive bits seen; the controller joins the bus ERROR_ACTIVE (R483). -/
  | busIntegrated (b : Fin 2)
  /-- TRANSMIT_PORT_WRITE: A transmit entry is checked and queued (R491). -/
  | transmitPortWrite (p : Path) (b : Fin 2) (data : List Byte)
  /-- TRANSMIT_CANCEL: A tag written to 0x36x0:21 cancels matching entries (R497). -/
  | transmitCancel (p : Path) (b : Fin 2) (tag : Nat) (headSof : Bool) (urgentSof : Bool)
  /-- NOT_BEFORE_REACHED: Module time reaches the head entry's NOT_BEFORE and it contends (R496). -/
  | notBeforeReached (b : Fin 2)
  /-- FRAME_TRANSMITTED: A frame is sent and acknowledged and its completion recorded (R498). -/
  | frameTransmitted (w : OnWire) (t : Nat) (delay : Option (Fin 128))
  /-- ARBITRATION_LOST: The head frame loses arbitration; a one-shot entry completes LOST_ARB (R495). -/
  | arbitrationLost (w : OnWire)
  /-- FRAME_ERROR: An error in a frame updates the counters per ISO 11898-1 (R499). -/
  | frameError (w : OnWire) (kind : Fin 7) (c : ErrorClass)
  /-- BUS_OFF_RECOVERED: 128 × 11 recessive bits end bus-off; ERROR_ACTIVE and 0x0804 (R500). -/
  | busOffRecovered (b : Fin 2)
  /-- BUS_OFF_RECOVER: Writing 0x01 to 0x36x0:08 starts manual bus-off recovery (R500). -/
  | busOffRecover (p : Path) (b : Fin 2)
  /-- COMPLETION_READ: Reading 0x36x0:22 returns and removes the oldest completion (R498). -/
  | completionRead (p : Path) (b : Fin 2)
  /-- FRAME_RECEIVED: A valid CAN frame is timestamped and stored in an object or the FIFO (R502). -/
  | frameReceived (b : Fin 2) (f : CanFrame) (t : Nat)
  /-- FIFO_READ: Reading 0x36x2:03 returns and removes the oldest FIFO record (R505). -/
  | fifoRead (p : Path) (b : Fin 2)
  /-- OBJECT_STATUS_CLEAR: Writing 1 to NEWDAT or LOST of an object status clears it (R504). -/
  | objectStatusClear (p : Path) (b : Fin 2) (k : Fin 64) (v : Nat)
  /-- TIME_REFERENCE_DUE: At a period boundary CAN A places a time reference message in its slot (R506). -/
  | timeReferenceDue
  /-- CAN_STATISTICS_CLEAR: Writing 0x01 to 0x36x0:2F clears controller statistics (R516). -/
  | canStatisticsClear (p : Path) (b : Fin 2)
  /-- SDO_INITIATE_DOWNLOAD: An SDO initiate download request is served (R510). -/
  | sdoInitiateDownload (d : List Byte)
  /-- SDO_DOWNLOAD_SEGMENT: An SDO download segment is received (R510). -/
  | sdoDownloadSegment (d : List Byte)
  /-- SDO_INITIATE_UPLOAD: An SDO initiate upload request is served (R510). -/
  | sdoInitiateUpload (d : List Byte)
  /-- SDO_UPLOAD_SEGMENT: An SDO upload segment request is served (R510). -/
  | sdoUploadSegment (d : List Byte)
  /-- SDO_BLOCK_DOWNLOAD: An SDO block download exchange is served (R510). -/
  | sdoBlockDownload (d : List Byte)
  /-- SDO_BLOCK_UPLOAD: An SDO block upload exchange is served (R510). -/
  | sdoBlockUpload (d : List Byte)
  /-- SDO_ABORT: An SDO abort ends the transfer (R510). -/
  | sdoAbort (d : List Byte)
  /-- RPDO_RECEIVED: An RPDO is received and its mapped writes committed as writer code 2 (R510). -/
  | rpdoReceived (k : Fin 8) (data : List Byte)
  /-- TPDO_TRANSMIT: A TPDO is sent by its transmission type, event timer or SYNC (R510). -/
  | tpdoTransmit (k : Fin 8) (inhibitEnd : Bool)
  /-- SYNC_RECEIVED: A SYNC message is consumed (R510). -/
  | syncReceived (f : CanFrame)
  /-- HEARTBEAT_PRODUCE: The heartbeat producer time expires and a heartbeat is sent (R510). -/
  | heartbeatProduce
  /-- HEARTBEAT_CONSUMER_TIMEOUT: A consumed heartbeat is absent for its time; 0x0806 logged (R511). -/
  | heartbeatConsumerTimeout (i : Fin 4)
  /-- HELLO_SEND: Every 10 ms each enabled port sends a HELLO (R534). -/
  | helloSend
  /-- HELLO_RECEIVED: A HELLO is received and the adjacency advanced or brought up (R534). -/
  | helloReceived (m : FlueMsg) (h : Hello)
  /-- ADJACENCY_TIMEOUT: 30 ms without a HELLO takes the adjacency down and logs 0x0901 (R534). -/
  | adjacencyTimeout (port : Fin 4)
  /-- PHY_LINK_LOSS: Loss of the PHY link takes the adjacency down (R534). -/
  | phyLinkLoss (port : Fin 4)
  /-- LINK_STATE_RECEIVED: A LINK_STATE is received, passed on and routes recomputed (R535). -/
  | linkStateReceived (m : FlueMsg) (l : LinkState)
  /-- LINK_STATE_REFRESH: Every 10 s a node floods its LINK_STATE (R535). -/
  | linkStateRefresh
  /-- ELECTION: After 200 ms of stable link state the group elects head and deputy (R536). -/
  | election (g : Nat)
  /-- HEAD_ANNOUNCE: Every 1 s the head floods a HEAD announcement (R526). -/
  | headAnnounce
  /-- HEAD_RECEIVED: A HEAD announcement is received (R526). -/
  | headReceived (m : FlueMsg) (h : HeadInfo)
  /-- SEAT_RECEIVED: A module adopts the address of a SEAT, stores it and acknowledges (R538). -/
  | seatReceived (m : FlueMsg) (uid : Nat) (addr : Nat)
  /-- SEAT_ACKNOWLEDGE_RECEIVED: The head receives a SEAT acknowledgement (R538). -/
  | seatAcknowledgeReceived (m : FlueMsg) (uid : Nat) (addr : Nat)
  /-- STATUS_SEND: Each status period a member sends STATUS to its head (R543). -/
  | statusSend
  /-- STATUS_RECEIVED: The head takes a member STATUS and updates group status and map (R543). -/
  | statusReceived (m : FlueMsg) (st : StatusInfo)
  /-- MEMBER_ABSENT: Three missed status periods mark a member ABSENT and log 0x0904 (R543). -/
  | memberAbsent (g : Nat) (seat : Fin 15)
  /-- BANKING_RECEIVED: A head answers a banking notice with ACCEPT or REFUSE (R548). -/
  | bankingReceived (m : FlueMsg) (wake : Nat)
  /-- BANKING_ANSWER_RECEIVED: A member receives ACCEPT or REFUSE; REFUSE abandons the entry (R548). -/
  | bankingAnswerReceived (m : FlueMsg) (accept : Bool) (maximum : Nat)
  /-- BANKING_ANSWER_TIMEOUT: No answer within 20 ms; the member proceeds without acceptance (R548). -/
  | bankingAnswerTimeout
  /-- AWAKE_RECEIVED: A woken member's AWAKE makes the head deliver its mailbox (R550). -/
  | awakeReceived (m : FlueMsg)
  /-- WAKE_TIME_OVERDUE: No AWAKE by wake time plus 10 s marks the member ABSENT (R549). -/
  | wakeTimeOverdue (g : Nat) (seat : Fin 15)
  /-- SITE_PLAN_WRITE: A site plan written at the root head is checked and distributed (R539). -/
  | sitePlanWrite (p : Path) (data : List Byte)
  /-- PLAN_RECEIVED: A head receives its plan part and re-seats changed nodes (R539). -/
  | planReceived (m : FlueMsg) (part : PlanSlice) (bytes : List Byte)
  /-- DICT_REQ_RECEIVED: A DICT_REQ is served, queued, stored in a mailbox or answered from cache (R541). -/
  | dictReqReceived (m : FlueMsg) (r : DictReq)
  /-- DICT_RSP_RECEIVED: A DICT_RSP answering this node's request is received (R541). -/
  | dictRspReceived (m : FlueMsg) (r : DictRsp)
  /-- DOM_SEG_RECEIVED: A DOM segment is received and acknowledged every 8 segments (R541). -/
  | domSegReceived (m : FlueMsg) (d : DomSeg)
  /-- BOUNDARY_RECEIVED: A Kelsis boundary or transport message is received and judged fresh or discarded (R319). -/
  | boundaryReceived (m : FlueMsg) (b : Boundary)
  /-- LOG_FRAME_RECEIVED: The head writes a forwarded media-failure record into its own log (R551). -/
  | logFrameReceived (m : FlueMsg) (r : LogInfo)
  /-- MAP_RECEIVED: A member receives the list of channels wanted for the group map (R546). -/
  | mapReceived (m : FlueMsg) (channels : List Nat)
  /-- FRAME_FORWARD: A transit frame is routed, its hop count decremented and queued by class (R529). -/
  | frameForward (m : FlueMsg) (body : FlueBody)
  /-- FAN_OUT_WRITE: A write to a fan-out value is sent to each member in the mask (R547). -/
  | fanOutWrite (p : Path) (e : Fin 16) (v : BitVec 32)
  /-- FAN_OUT_ANSWER_TIMEOUT: A member not answering within 1 s sets its failed bit (R547). -/
  | fanOutAnswerTimeout (e : Fin 16) (seat : Fin 15)
  /-- GPTP_SYNC_RECEIVED: A gPTP Sync and Follow_Up adjust Flue time (R552). -/
  | gptpSyncReceived (port : Fin 4) (offset : Int) (gm : Nat)
  /-- PEER_DELAY_MEASURE: Every 1 s each port measures peer delay (R552). -/
  | peerDelayMeasure (port : Fin 4)
  /-- SYNC_MISSED: Three missed sync intervals put the module in HOLDOVER (R553). -/
  | syncMissed
  /-- HOLDOVER_TIMEOUT: 10 s of HOLDOVER makes the module UNSYNCED and logs 0x0906 (R553). -/
  | holdoverTimeout
  /-- SITE_KEY_WRITE: A site key written over the service port is stored (R555). -/
  | siteKeyWrite (p : Path) (data : List Byte)
  /-- FLUE_TIME_READ: Reading 0x3730:08 latches the nanoseconds (R562). -/
  | flueTimeRead (p : Path)
  /-- FLUE_NODE_STATISTICS_CLEAR: Writing 0x01 to 0x3700:14 clears node statistics (R559). -/
  | flueNodeStatisticsClear (p : Path)
  /-- PORT_STATISTICS_CLEAR: Writing 0x01 to a port's clear subindex clears its statistics (R561). -/
  | portStatisticsClear (p : Path) (port : Fin 4)
  /-- TIME_STATISTICS_CLEAR: Writing 0x01 to 0x3730:0B clears sync losses (R562). -/
  | timeStatisticsClear (p : Path)
  /-- COWL_COMPUTE: Data written to 0x3800:D1 are checked by the selected unit and the result stored (R577). -/
  | cowlCompute (p : Path) (data : List Byte)
  /-- COWL_CONTEXT_TIMEOUT: A receive context silent beyond T enters TIMEOUT (R573). -/
  | cowlContextTimeout (u : Fin 4) (i : Fin 16)
  /-- COWL_UNIT_START: A write to START loads the unit register with INIT (R575). -/
  | cowlUnitStart (u : Fin 4)
  /-- COWL_UNIT_DATA: A write to DATA feeds bytes into the unit's check (R575). -/
  | cowlUnitData (u : Fin 4) (data : List Byte)
  /-- ASH_RECORD_WRITE: The queue head is written as a new record or merge in one FRAM write and read back (R584). -/
  | ashRecordWrite (result : Fin 3)
  /-- ASH_CLEAR: Writing 0xC1EA to 0x3900:0D starts a log clear (R596). -/
  | ashClear (p : Path) (value : Nat)
  /-- ASH_CLEAR_DONE: The clear completes and LOG_CLEARED is written in slot 0 (R596). -/
  | ashClearDone (result : Fin 3)
  /-- ASH_RECORD_LATCH: Reading 0x3900:02 latches the record at the path's cursor (R595). -/
  | ashRecordLatch (p : Path)
  /-- ASH_CURSOR_ADVANCE: Reading 0x3900:09 advances the path's cursor (R595). -/
  | ashCursorAdvance (p : Path)
  /-- THERMAL_SCHEDULE: The schedule period expires and a demand for all sensors is raised (R601). -/
  | thermalSchedule
  /-- THERMAL_READ: A read of 0x3A00:01–06 raises a demand and is answered once it is met (R603). -/
  | thermalRead (p : Path) (i : Fin 6)
  /-- THERMAL_CONVERSION_END: A sensor conversion ends and its reading is compared with the levels (R602). -/
  | thermalConversionEnd (r : ThermalReading)
  /-- BANK_ENABLE: Writing a bank number to 0x3A00:10 enables the bank again (R610). -/
  | bankEnable (p : Path) (bank : Nat)
  /-- THERMAL_RESTART: Writing 0x01 to 0x3A00:0B performs the restoring cold start (R613). -/
  | thermalRestart (p : Path)
  /-- THERMAL_STATISTICS_CLEAR: Writing 0x01 to 0x3A00:16 clears thermal statistics (R618). -/
  | thermalStatisticsClear (p : Path)
  /-- PHY_LINK_UP: A 10BASE-T1L PHY completes auto-negotiation and training and its link comes up (DOWN to TRAINING to UP in 0x3720) (R534). -/
  | phyLinkUp (i : PhyStep)
  /-- GPTP_SYNC_SEND: Every 125 ms the grandmaster sends a two-step Sync with Follow_Up on its ports (R552). -/
  | gptpSyncSend
  /-- PEER_DELAY_FRAME_RECEIVED: A peer-delay request or response frame from a neighbour arrives on a port and is answered or completes the delay measurement (R552). -/
  | peerDelayFrameReceived (port : Fin 4) (delay : Option Nat)
  /-- SETPOINT_INPUT_UPDATE: Each 1 ms averaging period of SP0 or SP1 ends and its raw, engineering and Q15 values are published (R425). -/
  | setpointInputUpdate (i : Fin 2) (raw : Word)
  /-- EMCY_INHIBIT_END: The EMCY inhibit time expires and an EMCY held back by it is queued on CAN A (R510). -/
  | emcyInhibitEnd
deriving DecidableEq, Repr

end Sys2Proof
end

