-- ==== Sys2Proof/Machine/Crc.lean ====
section
/-! DEFINITION. Check values over bit streams, as the Cowl units compute them (R567, R568): CRC of width up to 32 with
polynomial, initial value, final XOR, and reflection of the input bytes and of the result. -/

namespace Sys2Proof.Machine

/-- The low `n` bits of `x` in reverse order. -/
def reflect : Nat → Nat → Nat
  | 0, _ => 0
  | n + 1, x => (x % 2) * 2 ^ n + reflect n (x / 2)

/-- One bit, most significant first, through a CRC register of `w` bits. -/
def crcBit (w poly : Nat) (reg : Nat) (b : Bool) : Nat :=
  let top := reg.testBit (w - 1)
  let sh := (reg * 2) % 2 ^ w
  if top != b then sh ^^^ poly else sh

/-- The `n` low bits of `x`, most significant first. -/
def crcBits (w poly : Nat) : Nat → Nat → Nat → Nat
  | 0, _, reg => reg
  | n + 1, x, reg => crcBits w poly n x (crcBit w poly reg (x.testBit n))

/-- One byte through the register; `refin` takes its least significant bit first. -/
def crcByte (w poly : Nat) (refin : Bool) (reg : Nat) (b : Byte) : Nat :=
  crcBits w poly 8 (if refin then reflect 8 b.toNat else b.toNat) reg

/-- The parameters of a check value (R568, R575). -/
structure CrcParams where
  width  : Nat
  poly   : Nat
  init   : Nat
  refin  : Bool
  refout : Bool
  xorOut : Nat
deriving DecidableEq, Repr

/-- The check value of a byte string. -/
def crcOf (p : CrcParams) (bs : List Byte) : Nat :=
  let reg := bs.foldl (crcByte p.width p.poly p.refin) (p.init % 2 ^ p.width)
  ((if p.refout then reflect p.width reg else reg) ^^^ p.xorOut) % 2 ^ p.width

end Sys2Proof.Machine
end

