-- ==== Sys2Proof/Machine/Float.lean ====
section
/-! DEFINITION. IEEE 754 arithmetic on bit patterns: binary32 as the linearisation unit (R201) and Kelsis (R289) use it,
and binary64 for the Q15 formation of R203. Every operation is computed exactly in integers and rounded once, to nearest
with ties to even; a subnormal binary32 result is set to +0.0. -/

namespace Sys2Proof.Machine

/-- What a bit pattern stands for: (-1)^neg * m * 2^e when finite. -/
inductive FVal where
  | nan
  | inf (neg : Bool)
  | fin (neg : Bool) (m : Nat) (e : Int)
deriving DecidableEq, Repr

/-- A binary format: `p` bits of precision and the exponent bias. -/
structure FloatFormat where
  p    : Nat
  bias : Nat
deriving DecidableEq, Repr

/-- binary32. -/
abbrev fmt32 : FloatFormat := ⟨24, 127⟩

/-- binary64. -/
abbrev fmt64 : FloatFormat := ⟨53, 1023⟩

/-- Decode a pattern of the format. Subnormal patterns decode to +0.0 (R116, R201, R289). -/
def FloatFormat.decode (f : FloatFormat) (x : Nat) : FVal :=
  let frac := x % 2 ^ (f.p - 1)
  let ex := (x / 2 ^ (f.p - 1)) % (2 * f.bias + 2)
  let neg := x / (2 ^ (f.p - 1) * (2 * f.bias + 2)) % 2 == 1
  if ex = 2 * f.bias + 1 then (if frac = 0 then .inf neg else .nan)
  else if ex = 0 then .fin (neg && frac == 0) 0 0
  else .fin neg (frac + 2 ^ (f.p - 1)) (Int.ofNat ex - Int.ofNat f.bias - Int.ofNat (f.p - 1))

/-- The sign bit's weight. -/
def FloatFormat.signBit (f : FloatFormat) : Nat := 2 ^ (f.p - 1) * (2 * f.bias + 2)

/-- The pattern of an infinity. -/
def FloatFormat.infBits (f : FloatFormat) (neg : Bool) : Nat :=
  (2 * f.bias + 1) * 2 ^ (f.p - 1) + (if neg then f.signBit else 0)

/-- The pattern used for a NaN. -/
def FloatFormat.nanBits (f : FloatFormat) : Nat := (2 * f.bias + 1) * 2 ^ (f.p - 1) + 2 ^ (f.p - 2)

/-- Round m * 2^e (plus a little, when `sticky`) to the format: nearest, ties to even; a subnormal result is +0.0. -/
def FloatFormat.round (f : FloatFormat) (neg : Bool) (m : Nat) (e : Int) (sticky : Bool) : Nat :=
  if m = 0 then (if neg && !sticky then f.signBit else 0)
  else
    let bl := m.log2 + 1
    let q0 := if bl ≤ f.p then m * 2 ^ (f.p - bl) else m / 2 ^ (bl - f.p)
    let rem := if bl ≤ f.p then 0 else m % 2 ^ (bl - f.p)
    let half := if bl ≤ f.p then 1 else 2 ^ (bl - f.p - 1)
    let up := if bl ≤ f.p then false
      else decide (half < rem) || (rem == half && (sticky || q0 % 2 == 1))
    let q1 := if up then q0 + 1 else q0
    let ex := e + (Int.ofNat bl - Int.ofNat f.p)
    let q := if q1 = 2 ^ f.p then 2 ^ (f.p - 1) else q1
    let ex' := if q1 = 2 ^ f.p then ex + 1 else ex
    let biased := ex' + Int.ofNat f.bias + Int.ofNat (f.p - 1)
    -- below the least normal value: that value where the nearest number of subnormal spacing is it, else a subnormal
    let low := 1 - Int.ofNat f.bias - Int.ofNat f.p
    let reaches := if low ≤ e then decide (2 ^ f.p - 1 ≤ m * 2 ^ (e - low).toNat) else decide ((2 ^ f.p - 1) * 2 ^ (low - e).toNat ≤ m)
    if biased ≤ 0 then (if reaches then 2 ^ (f.p - 1) + (if neg then f.signBit else 0) else 0)
    else if Int.ofNat (2 * f.bias + 1) ≤ biased then f.infBits neg
    else (biased.toNat * 2 ^ (f.p - 1) + (q - 2 ^ (f.p - 1))) + (if neg then f.signBit else 0)

/-- The exact sum of two finite values. -/
def finAdd (n1 : Bool) (m1 : Nat) (e1 : Int) (n2 : Bool) (m2 : Nat) (e2 : Int) : Bool × Nat × Int :=
  let e := if e1 ≤ e2 then e1 else e2
  let a : Int := Int.ofNat (m1 * 2 ^ (e1 - e).toNat) * (if n1 then -1 else 1)
  let b : Int := Int.ofNat (m2 * 2 ^ (e2 - e).toNat) * (if n2 then -1 else 1)
  let t := a + b
  (if t = 0 then n1 && n2 else decide (t < 0), t.natAbs, e)

/-- a + b. -/
def FloatFormat.add (f : FloatFormat) (x y : Nat) : Nat :=
  match f.decode x, f.decode y with
  | .nan, _ => f.nanBits
  | _, .nan => f.nanBits
  | .inf a, .inf b => if a = b then f.infBits a else f.nanBits
  | .inf a, .fin .. => f.infBits a
  | .fin .., .inf b => f.infBits b
  | .fin n1 m1 e1, .fin n2 m2 e2 =>
    let r := finAdd n1 m1 e1 n2 m2 e2
    f.round r.1 r.2.1 r.2.2 false

/-- -a. -/
def FloatFormat.neg (f : FloatFormat) (x : Nat) : Nat :=
  if x / f.signBit % 2 = 1 then x - f.signBit else x + f.signBit

/-- a - b. -/
def FloatFormat.sub (f : FloatFormat) (x y : Nat) : Nat := f.add x (f.neg y)

/-- a * b. -/
def FloatFormat.mul (f : FloatFormat) (x y : Nat) : Nat :=
  match f.decode x, f.decode y with
  | .nan, _ => f.nanBits
  | _, .nan => f.nanBits
  | .inf a, .inf b => f.infBits (a != b)
  | .inf a, .fin b m _ => if m = 0 then f.nanBits else f.infBits (a != b)
  | .fin a m _, .inf b => if m = 0 then f.nanBits else f.infBits (a != b)
  | .fin n1 m1 e1, .fin n2 m2 e2 => f.round (n1 != n2) (m1 * m2) (e1 + e2) false

/-- a * b + c, rounded once. -/
def FloatFormat.fma (f : FloatFormat) (x y z : Nat) : Nat :=
  match f.decode x, f.decode y, f.decode z with
  | .fin n1 m1 e1, .fin n2 m2 e2, .fin n3 m3 e3 =>
    let r := finAdd (n1 != n2) (m1 * m2) (e1 + e2) n3 m3 e3
    f.round r.1 r.2.1 r.2.2 false
  | .fin .., .fin .., .inf b => f.infBits b
  | _, _, _ => f.add (f.mul x y) z

/-- a / b. -/
def FloatFormat.div (f : FloatFormat) (x y : Nat) : Nat :=
  match f.decode x, f.decode y with
  | .nan, _ => f.nanBits
  | _, .nan => f.nanBits
  | .inf _, .inf _ => f.nanBits
  | .inf a, .fin b _ _ => f.infBits (a != b)
  | .fin a _ _, .inf b => f.round (a != b) 0 0 false
  | .fin n1 m1 e1, .fin n2 m2 e2 =>
    if m2 = 0 then (if m1 = 0 then f.nanBits else f.infBits (n1 != n2))
    else
      let k := f.p + 3 + (m2.log2 + 1)
      let q := (m1 * 2 ^ k) / m2
      let r := (m1 * 2 ^ k) % m2
      f.round (n1 != n2) q (e1 - e2 - Int.ofNat k) (decide (r ≠ 0))

/-- The integer square root's bits from `i` down, by trial. -/
def isqrtFrom : Nat → Nat → Nat → Nat
  | 0, n, r => if (r + 1) * (r + 1) ≤ n then r + 1 else r
  | i + 1, n, r =>
    let t := r + 2 ^ (i + 1)
    isqrtFrom i n (if t * t ≤ n then t else r)

/-- The integer part of the square root. -/
def isqrt (n : Nat) : Nat := isqrtFrom (n.log2 / 2 + 1) n 0

/-- The square root, correctly rounded; of a negative number, NaN. -/
def FloatFormat.sqrt (f : FloatFormat) (x : Nat) : Nat :=
  match f.decode x with
  | .nan => f.nanBits
  | .inf n => if n then f.nanBits else f.infBits false
  | .fin n m e =>
    if m = 0 then f.round n 0 0 false
    else if n then f.nanBits
    else
      let k := 2 * (f.p + 3)
      let odd := e % 2 ≠ 0
      let m' := if odd then m * 2 ^ (k + 1) else m * 2 ^ k
      let e' := if odd then (e - 1 - Int.ofNat k) / 2 else (e - Int.ofNat k) / 2
      let q := isqrt m'
      f.round false q e' (decide (q * q ≠ m'))

/-- The series of atanh z / z terms: sum over k from `k` on of z^(2k+1) / (2k+1), in units of 2^-w, `fuel` terms;
`t` is z^(2k+1). -/
def atanhSum (w : Nat) (z2 : Int) : Nat → Nat → Int → Int
  | 0, _, _ => 0
  | n + 1, k, t => t / Int.ofNat (2 * k + 1) + atanhSum w z2 n (k + 1) (t * z2 / Int.ofNat (2 ^ w))

/-- 2 * atanh of the ratio a / b, in units of 2^-w. -/
def lnRatio (w : Nat) (a b : Int) : Int :=
  let z := a * Int.ofNat (2 ^ w) / b
  2 * atanhSum w (z * z / Int.ofNat (2 ^ w)) 64 0 z

/-- The natural logarithm, to 192 fraction bits before its one rounding (R201: correctly rounded, log 33). -/
def FloatFormat.ln (f : FloatFormat) (x : Nat) : Nat :=
  match f.decode x with
  | .nan => f.nanBits
  | .inf n => if n then f.nanBits else f.infBits false
  | .fin n m e =>
    if m = 0 then f.infBits true
    else if n then f.nanBits
    else
      let w := 192
      let bl := m.log2
      let one := Int.ofNat (2 ^ w)
      -- the fraction in [1, 2), folded into [3/4, 3/2)
      let fr := Int.ofNat (m * 2 ^ w / 2 ^ bl)
      let big := decide (3 * one / 2 ≤ fr)
      let fr' := if big then fr / 2 else fr
      let ex := e + Int.ofNat bl + (if big then 1 else 0)
      let ln2 := lnRatio w 1 3
      let r := ex * ln2 + lnRatio w (fr' - one) (fr' + one)
      f.round (decide (r < 0)) r.natAbs (-Int.ofNat w) (decide (r ≠ 0) && decide (fr' ≠ one))

/-- The series of exp r in units of 2^-w: `n` terms from term `k` on; `t` is r^k / k!. -/
def expSum (w : Nat) (r : Int) : Nat → Nat → Int → Int
  | 0, _, _ => 0
  | n + 1, k, t => t + expSum w r n (k + 1) (t * r / Int.ofNat (2 ^ w * (k + 1)))

/-- The exponential, to 192 fraction bits before its one rounding (log 33). -/
def FloatFormat.exp (f : FloatFormat) (x : Nat) : Nat :=
  match f.decode x with
  | .nan => f.nanBits
  | .inf n => if n then 0 else f.infBits false
  | .fin n m e =>
    let w := 192
    if m = 0 then f.round false 1 0 false
    else if 20 < e + Int.ofNat m.log2 then (if n then 0 else f.infBits false)
    else
      let mag : Int := if 0 ≤ e + Int.ofNat w then Int.ofNat (m * 2 ^ (e + Int.ofNat w).toNat) else Int.ofNat (m / 2 ^ (-(e + Int.ofNat w)).toNat)
      let v := if n then -mag else mag
      let ln2 := lnRatio w 1 3
      let k := v / ln2
      f.round false (expSum w (v - k * ln2) 64 0 (Int.ofNat (2 ^ w))).toNat (k - Int.ofNat w) true

/-- The power of a base: by its logarithm where that is positive; of a negative base for a whole exponent only. -/
def FloatFormat.pow (f : FloatFormat) (b y : Nat) : Nat :=
  match f.decode b, f.decode y with
  | .nan, _ => f.nanBits
  | _, .nan => f.nanBits
  | _, .inf _ => f.nanBits
  | .inf n, .fin yn ym _ => if n then f.nanBits else if ym = 0 then f.round false 1 0 false else if yn then 0 else f.infBits false
  | .fin n m _, .fin yn ym ye =>
    if ym = 0 then f.round false 1 0 false
    else if m = 0 then (if yn then f.infBits false else 0)
    else if n = false then f.exp (f.mul y (f.ln b))
    else
      let whole := decide (0 ≤ ye) || ym % 2 ^ (-ye).toNat == 0
      let odd := if 0 ≤ ye then ye == 0 && ym % 2 == 1 else ym / 2 ^ (-ye).toNat % 2 == 1
      if whole = false then f.nanBits
      else
        let r := f.exp (f.mul y (f.ln (f.neg b)))
        if odd then f.neg r else r

/-- A format wide enough for the formulas whose results alone are rounded to binary32 (R307). -/
abbrev fmtWide : FloatFormat := ⟨128, 16383⟩

/-- A finite pattern of one format in another, rounded; an infinity or a NaN stays one. -/
def FloatFormat.convert (f g : FloatFormat) (x : Nat) : Nat :=
  match f.decode x with
  | .nan => g.nanBits
  | .inf n => g.infBits n
  | .fin n m e => g.round n m e false

/-- binary32 operations on words. -/
def fadd (x y : Word) : Word := BitVec.ofNat 32 (fmt32.add x.toNat y.toNat)
def fsub (x y : Word) : Word := BitVec.ofNat 32 (fmt32.sub x.toNat y.toNat)
def fmul (x y : Word) : Word := BitVec.ofNat 32 (fmt32.mul x.toNat y.toNat)
def fdiv (x y : Word) : Word := BitVec.ofNat 32 (fmt32.div x.toNat y.toNat)
def ffma (x y z : Word) : Word := BitVec.ofNat 32 (fmt32.fma x.toNat y.toNat z.toNat)
def fsqrt (x : Word) : Word := BitVec.ofNat 32 (fmt32.sqrt x.toNat)
def fln (x : Word) : Word := BitVec.ofNat 32 (fmt32.ln x.toNat)
def fexp (x : Word) : Word := BitVec.ofNat 32 (fmt32.exp x.toNat)
def fneg (x : Word) : Word := BitVec.ofNat 32 (fmt32.neg x.toNat)
def fabs (x : Word) : Word := BitVec.ofNat 32 (x.toNat % 2 ^ 31)

/-- Neither a NaN nor an infinity. -/
def fisFinite (x : Word) : Bool :=
  match fmt32.decode x.toNat with
  | .fin .. => true
  | _ => false

/-- A subnormal is set to +0.0 (R116). -/
def fflush (x : Word) : Word := if x.toNat / 2 ^ 23 % 256 = 0 then (if x.toNat % 2 ^ 31 = 0 then x else 0) else x

/-- The order of finite binary32 values, as an integer key. -/
def fkey (x : Word) : Int :=
  if x.toNat < 2 ^ 31 then Int.ofNat x.toNat else - Int.ofNat (x.toNat - 2 ^ 31)

/-- x < y, x <= y and x = y of finite values (the two zeros are equal). -/
def flt (x y : Word) : Bool := decide (fkey x < fkey y)
def fle (x y : Word) : Bool := decide (fkey x ≤ fkey y)
def feq (x y : Word) : Bool := decide (fkey x = fkey y)
def fmin (x y : Word) : Word := if flt y x then y else x
def fmax (x y : Word) : Word := if flt x y then y else x

/-- An integer as binary32. -/
def fofInt (x : Int) : Word := BitVec.ofNat 32 (fmt32.round (decide (x < 0)) x.natAbs 0 false)

/-- A natural number as binary32. -/
def fofNat (x : Nat) : Word := BitVec.ofNat 32 (fmt32.round false x 0 false)

/-- The binary32 value nearest the ratio n / d (a constant written in decimal, R201). -/
def fofRatio (n : Int) (d : Nat) : Word :=
  let k := 64 + (d.log2 + 1)
  BitVec.ofNat 32 (fmt32.round (decide (n < 0)) (n.natAbs * 2 ^ k / d) (- Int.ofNat k) (decide (n.natAbs * 2 ^ k % d ≠ 0)))

/-- m * 2^e to the nearest integer, ties away from zero. -/
def roundAway (neg : Bool) (m : Nat) (e : Int) : Int :=
  let mag : Nat := if 0 ≤ e then m * 2 ^ e.toNat else (m + 2 ^ ((-e).toNat - 1)) / 2 ^ (-e).toNat
  if neg then - Int.ofNat mag else Int.ofNat mag

/-- m * 2^e to an integer, towards minus infinity. -/
def floorVal (neg : Bool) (m : Nat) (e : Int) : Int :=
  if 0 ≤ e then (if neg then - Int.ofNat (m * 2 ^ e.toNat) else Int.ofNat (m * 2 ^ e.toNat))
  else if neg then - Int.ofNat ((m + (2 ^ (-e).toNat - 1)) / 2 ^ (-e).toNat) else Int.ofNat (m / 2 ^ (-e).toNat)

/-- A binary32 value to the nearest integer, ties away from zero (0 for a NaN or an infinity). -/
def fround (x : Word) : Int :=
  match fmt32.decode x.toNat with
  | .fin n m e => roundAway n m e
  | _ => 0

/-- A binary32 value to an integer, towards minus infinity. -/
def ffloor (x : Word) : Int :=
  match fmt32.decode x.toNat with
  | .fin n m e => floorVal n m e
  | _ => 0

/-- A binary32 value as a binary64 pattern (exact). -/
def f32to64 (x : Word) : Nat :=
  match fmt32.decode x.toNat with
  | .fin n m e => fmt64.round n m e false
  | .inf n => fmt64.infBits n
  | .nan => fmt64.nanBits

/-- A binary64 pattern to the nearest integer, ties away from zero. -/
def f64round (x : Nat) : Int :=
  match fmt64.decode x with
  | .fin n m e => roundAway n m e
  | _ => 0

/-- Round a binary64 pattern to binary32 once. -/
def f64to32 (x : Nat) : Word :=
  match fmt64.decode x with
  | .fin n m e => BitVec.ofNat 32 (fmt32.round n m e false)
  | .inf n => BitVec.ofNat 32 (fmt32.infBits n)
  | .nan => BitVec.ofNat 32 fmt32.nanBits

/-- A finite binary32 value as an exact fraction (numerator, denominator); 0 for an infinity or a NaN. -/
def ratioOf (x : Word) : Int × Nat :=
  match fmt32.decode x.toNat with
  | .fin n m e =>
    let s : Int := if n then - Int.ofNat m else Int.ofNat m
    if 0 ≤ e then (s * Int.ofNat (2 ^ e.toNat), 1) else (s, 2 ^ (-e).toNat)
  | _ => (0, 1)

/-- The Q15 value of y in the span lo-hi: ((y - lo) / (hi - lo)) * 32,768 in binary64, each operation rounded, then to the
nearest integer with ties away from zero and saturated (R203, R354). -/
def q15OfSpan (y lo hi : Word) : Int :=
  let y' := f32to64 y
  let lo' := f32to64 lo
  let hi' := f32to64 hi
  let q := fmt64.mul (fmt64.div (fmt64.sub y' lo') (fmt64.sub hi' lo')) (fmt64.round false 32768 0 false)
  clampInt (-32768) 32767 (f64round q)

end Sys2Proof.Machine
end

