-- ==== Sys2Proof/Machine/State.lean ====
section
/-! DEFINITION. The machine's state: everything the spec gives the module, as plain data. The dictionary's numeric values
live in one canonical keyed store (`obj`), their base configuration in a second one (`base`, R148), strings and domains in
a third (`blk`); what the dictionary does not show stands in typed records, one group per chapter. Reset is the module as
it leaves manufacture (R637), at reset release. -/

namespace Sys2Proof.Machine

/-- The level of a right and of a path (R118). -/
inductive Level where
  | operator | service | vendor
deriving DecidableEq, Repr

/-- A level's code in 0x2000:10-17 (R131). -/
def Level.code : Level → Nat
  | .operator => 0
  | .service => 1
  | .vendor => 2

/-- Why the machine stops with a fault. No command of this block does: every command the spec gives an effect has one,
and an event that cannot occur in a state leaves it unchanged (log 2); so the type has one reason that no meaning raises. -/
inductive Fault where
  /-- Raised by nobody. Safe. -/
  | none
deriving DecidableEq, Repr

/-- Why a command is refused by the model. -/
inductive Refusal where
  /-- Raised by an arm of `exec` whose command has no meaning yet. Safe. -/
  | notModelled (mnemonic : String)
deriving DecidableEq, Repr

/-! ### Supplies, clocks and power states -/

/-- Where the power manager stands between the decision to sleep and the wake (R75, R82). -/
inductive PowerPhase where
  | awake
  /-- Entry into BANKED or EMBER decided, the PLL still running (R82). -/
  | entering (to_ : PowerState)
  /-- Past the commit point: the PLL is stopped. -/
  | asleep (at_ : PowerState)
  /-- P1 lost in BANKED or EMBER: AON runs on the backup cell (R68). -/
  | onCell (at_ : PowerState)
  /-- Reset held, or the module waits for its start (R19, R66, R67, R102). -/
  | inReset
deriving DecidableEq, Repr

/-- The retention record of the hearth core (R77): what a warm boot restores. -/
structure Retention where
  process      : Nat
  mode         : Nat
  checkValue   : Nat
  bank         : Nat
  /-- The host watchdog's state, and whether its policies are in force (R136). -/
  host         : Nat
  policies     : Bool
deriving DecidableEq, Repr

/-- The power manager and the always-on domain (chapter 03). -/
structure Power where
  state        : PowerState
  phase        : PowerPhase
  /-- Events the AON latched after the commit point (R82): bits of R86. -/
  latchedWake  : Nat
  /-- VBUS present on SV (R80). -/
  vbus         : Bool
  /-- Operating seconds at which the declared contact falls due (R88; log 63). -/
  contactDue   : Option Nat
  /-- The host contact window is open (R80, R88). -/
  contactOpen  : Bool
  /-- The power manager may not select BANKED or EMBER after a banking REFUSE (R548). -/
  refusalHold  : Bool
  /-- The banking notice of the entry under way is unanswered (R81, R548). -/
  noticeOut    : Bool
  /-- The member has announced its sleep to its head: HELLO says so, and AWAKE follows (R534, R548, R550). -/
  banking      : Bool
  /-- An entry into EMBER has been logged since the start or the last write of 0x2200:01 (R84). -/
  emberLogged  : Bool
  /-- The flash controller's bank-modified flag: the bank started has been programmed or erased since the last cold start (R94,
  R459). -/
  bankModified : Bool
  /-- The retention record kept in EMBER (R77). -/
  retention    : Option Retention
  /-- Sleep state in which P1 was lost, for the record 0x0101 of the next start (R68). -/
  p1LostIn     : Option PowerState
  /-- Operating time at the last wake or abandoned entry: a further source of the same AON cycle joins it (R82). -/
  wokenAt      : Option Nat
  /-- A crystal stop while no log could take its record (R70, R73). -/
  crystalDue   : Bool
  /-- Clock units spent in SIMMER, BANKED and EMBER since the last clear (R85). -/
  inSimmer     : Nat
  inBanked     : Nat
  inEmber      : Nat
deriving DecidableEq, Repr

def Power.reset : Power :=
  { state := .blaze, phase := .inReset, latchedWake := 0, vbus := false, contactDue := none, contactOpen := false,
    refusalHold := false, noticeOut := false, banking := false, emberLogged := false, bankModified := false, retention := none, p1LostIn := none,
    wokenAt := none, crystalDue := false, inSimmer := 0, inBanked := 0, inEmber := 0 }

/-- Module time. One unit of `op` and `rtcSub` is 1/4,096,000 s, so a tick is 256 units and an AON count 125 (R17, R72). -/
structure Clock where
  /-- Ticks since the start (R261). -/
  tick      : Nat
  /-- The operating-time counter (R72). -/
  op        : Nat
  /-- Its copy in FRAM (R72). -/
  opFram    : Nat
  /-- Units into the present RTC second. -/
  rtcSub    : Nat
  /-- Flue time less the operating time, in ns, while Flue time is held (R178, R553). -/
  flueOffset : Int
  /-- High word latched by a read of the tick count's low word (R261). -/
  tickLatch : Nat
deriving DecidableEq, Repr

def Clock.reset : Clock := { tick := 0, op := 0, opFram := 0, rtcSub := 0, flueOffset := 0, tickLatch := 0 }

/-! ### Start-up and Kindling mode -/

/-- What the firmware area of a flash bank holds (R30, R96). -/
structure FlashBank where
  /-- An image of this length is there, complete. -/
  image      : Option Nat
  /-- Marked INCOMPLETE by an update under way or interrupted (R98). -/
  incomplete : Bool
  /-- The firmware version the image reports in 0x2000:06. -/
  version    : Nat
  /-- The bytes an update has written (R30); none of the manufacturer's image, which the manual does not give. -/
  bytes      : List Byte
deriving DecidableEq, Repr

structure Startup where
  bankA       : FlashBank
  bankB       : FlashBank
  /-- The present start is confirmed (R101). -/
  confirmed   : Bool
  /-- Cause recorded for the present start, if any (R103). -/
  cause       : Option Nat
  /-- Kind of start under way: as 0x2300:10. -/
  kind        : Nat
  /-- A trial start is under way (R107). -/
  trial       : Bool
  /-- Held in INIT after cause HOT (R104). -/
  hotHold     : Bool
  /-- A self-test has failed: the start has stopped (R91, R104). -/
  halted      : Bool
  /-- What a warm boot restores at its confirmation (R95). -/
  restore     : Option Retention
  /-- SV debug pins unlocked (R43). -/
  debugOpen   : Bool
  /-- The process state has been STOPPED since the start (R101, R184, R461). -/
  stoppedOnce : Bool
  /-- Fault events (0x0203, 0x0406, 0x0407) logged since FAULT was entered (R108). -/
  faultEvents : List Nat
  /-- A start whose cause word has still to move down (R103), with its power-cycle count and bank (R113). -/
  opened      : Bool
  cycle       : Nat
  bank        : Nat
deriving DecidableEq, Repr

/-- Both banks hold the manufacturer's image (R637); its length and version are not given (log 3). -/
def Startup.reset : Startup :=
  { bankA := ⟨some 0, false, 0, []⟩, bankB := ⟨some 0, false, 0, []⟩, confirmed := false, cause := none, kind := 0, trial := false,
    hotHold := false, halted := false, restore := none, debugOpen := false, stoppedOnce := false, faultEvents := [], opened := false, cycle := 0, bank := 0 }

/-! ### The dictionary and Damper overlays -/

/-- A checked value on its way to commit (R123, R126): a number of a numeric type, or the whole of a VIS or DOM. -/
inductive DVal where
  | num (v : Int)
  | blk (bs : List Byte)
deriving DecidableEq, Repr

/-- A write that has passed its checks and waits for a tick start (R123). `stage` is the tick count at its check. -/
structure Staged where
  path  : Path
  key   : Nat
  value : DVal
deriving DecidableEq, Repr

/-- A Flue client that holds Service level (R118, R119). -/
structure FlueSession where
  addr : Nat
  level : Level
  lastAccess : Nat
deriving DecidableEq, Repr

/-- The level of a path other than a core, with the tick of its last dictionary access (R119). -/
structure PathLevel where
  level      : Level
  lastAccess : Nat
deriving DecidableEq, Repr

/-- Wrong passcodes of one path, newest first, as ticks; and its lock (R119). -/
structure PasscodeGuard where
  path   : Path
  wrong  : List Nat
  locked : Bool
deriving DecidableEq, Repr

/-- A mode switch on its way to the swap at tick `at_` (R149). -/
structure PendingSwitch where
  mode    : Nat
  at_     : Nat
  /-- The new overlay's entries as committed at the request. -/
  entries : List (Nat × Int)
deriving DecidableEq, Repr

/-- A store or restore in progress (R134): `part` is 1 all, 2 communication, 3 device. -/
structure SaveOp where
  restore : Bool
  part    : Nat
  path    : Path
  /-- The configuration as committed when the request committed. -/
  values  : List (Nat × Int)
  blocks  : List (Nat × List Byte)
deriving DecidableEq, Repr

/-- One configuration copy in FRAM (R99, R134): base values that differ from their defaults, blocks (overlays and names),
the active mode and the save sequence number; `torn` when a reset interrupted its writing, so that its check fails. -/
structure FramCopy where
  values : List (Nat × Int)
  blocks : List (Nat × List Byte)
  mode   : Nat
  seq    : Nat
  torn   : Bool
deriving DecidableEq, Repr

/-- The host watchdog's count (R136): running, the tick it started and the timeout it started with, in ms. -/
structure Watchdog where
  running : Bool
  started : Nat
  timeout : Nat
  /-- Tick of the last write that restarted it, or of reset release (R142). -/
  lastBeat : Nat
deriving DecidableEq, Repr

/-- The answer last given on a path (R127): done, an abort code, a number read, or a block read. -/
inductive Answer where
  | none
  | done
  | abort (code : Nat)
  | value (v : Int)
  | block (bs : List Byte)
deriving DecidableEq, Repr

structure Dict where
  staged     : List Staged
  canA       : PathLevel
  canB       : PathLevel
  service    : PathLevel
  sessions   : List FlueSession
  guards     : List PasscodeGuard
  /-- Challenges outstanding per path (R119, R131). -/
  challenges : List (Path × List Byte)
  pending    : Option PendingSwitch
  /-- Entries of the overlay of the active mode, as put in force (R148). -/
  active     : List (Nat × Int)
  saveOp     : Option SaveOp
  copyA      : FramCopy
  copyB      : FramCopy
  /-- The configuration as last saved or loaded, which the hearth core keeps (R134). -/
  saved      : FramCopy
  watchdog   : Watchdog
  /-- Outputs are under their host-lost policies (R137, R139). -/
  policies   : Bool
  /-- The answer last given on each of the eight paths. -/
  answers    : Vector Answer 8
  /-- Answers to CAN A and Flue clients that have still to become frames (R510, R541). -/
  replies    : List (Path × Answer)
  /-- A base value has changed since the running check value was computed (R135). -/
  crcDirty   : Bool
deriving DecidableEq, Repr

def FramCopy.manufacture : FramCopy := { values := [], blocks := [], mode := 0, seq := 0, torn := false }

def Dict.reset : Dict :=
  { staged := [], canA := ⟨.operator, 0⟩, canB := ⟨.operator, 0⟩, service := ⟨.operator, 0⟩, sessions := [], guards := [],
    challenges := [], pending := none, active := [], saveOp := none, copyA := .manufacture, copyB := .manufacture, saved := .manufacture,
    watchdog := { running := false, started := 0, timeout := 5000, lastBeat := 0 }, policies := false,
    answers := Vector.replicate 8 .none, replies := [], crcDirty := false }

/-! ### Sensor channels and converter cores -/

/-- A pending due time of a channel (R179, R180), in microseconds of module time. -/
structure Due where
  at_     : Nat
  /-- Scan due times that passed unserved while this one was pending (R182). -/
  missed  : Nat
  /-- The channel's next due time has passed (R182). -/
  late    : Bool
  /-- A selected blanking source was in effect since the due time, or a slot for it was aborted (R174). -/
  delayed : Bool
  /-- A scan due time is among those it serves; on-demand requests merged into it are not counted (R180). -/
  scan    : Bool
  /-- Blanking kept a slot for it from starting or completing (R189). -/
  held    : Bool
deriving DecidableEq, Repr

/-- A finished slot's raw words, waiting for publication (R20, R174, R177). -/
structure RawResult where
  primary   : Word
  secondary : Word
  ratio     : Word
  /-- A swap or reversal sense failure seen by the lead check of this slot (R206). -/
  leadFail  : Bool
  /-- Tick count at the end of the last conversion (R20), and its module time in microseconds. -/
  endTick   : Nat
  endTime   : Nat
  /-- The values in force at the slot's start (R196): coefficient set, type, excitation, companion. -/
  frozen    : List (Nat × Int)
deriving DecidableEq, Repr

/-- What the front end keeps for a channel. -/
structure Channel where
  due        : Option Due
  /-- Time of the last scan due time taken up (R178). -/
  lastScan   : Option Nat
  /-- The next slot starts at the range of sub 0D (R171). -/
  rangeReset : Bool
  /-- Consecutive low results (R171). -/
  lowCount   : Nat
  /-- The next slot ignores blanking (R189). -/
  ignoreBlank : Bool
  /-- 0x0304 has been logged and no slot completed without R189 since. -/
  starvedLogged : Bool
  /-- Source that last held or aborted the channel (R189). -/
  lastBlank  : Nat
  /-- TXSUP has been on for 100 ms (R163). -/
  txReady    : Bool
  /-- Excitation-on intervals of the last 10 s: end time and length in microseconds (R165). -/
  excitation : List (Nat × Nat)
  result     : Option RawResult
  /-- The lead check of the next or present slot failed (R206). -/
  leadFail   : Bool
  /-- Tick and module time of the conversion end of the last result published as measured since the enable (R204, R207). -/
  lastTick   : Option Nat
  lastTime   : Nat
  /-- A measured value has been published since the enable (R210), and since the last clear of the statistics (R218). -/
  measured   : Bool
  extremes   : Bool
  /-- Operating time at which the channel became BROKEN (R216). -/
  brokenAt   : Nat
  /-- SENSE cycle of the last publication; the value, and whether it was good, before it (R202). -/
  published  : Option Nat
  prior      : Word × Bool
  /-- What that publication counted for the statistics: an entry into BROKEN, a measured value, a linearisation error (R215, R218). -/
  counted    : Bool × Bool × Bool
deriving DecidableEq, Repr

def Channel.reset : Channel :=
  { due := none, lastScan := none, rangeReset := true, lowCount := 0, ignoreBlank := false, starvedLogged := false, lastBlank := 0,
    txReady := false, excitation := [], result := none, leadFail := false, lastTick := none,
    lastTime := 0, measured := false, extremes := false, brokenAt := 0, published := none, prior := (0, false), counted := (false, false, false) }

/-- A slot under way (R157, R159): module time in microseconds at its start; the channel's blanking selection, and whether the lead
check is on, as its values stood then. -/
structure Slot where
  chan      : Fin 64
  due       : Due
  start     : Nat
  mask      : Nat
  leadCheck : Bool
  range     : Nat
  /-- Values the slot runs on (R190: a commit does not touch a running slot). -/
  kind      : Nat
  lead      : Nat
  convs     : Nat
  convUs    : Nat
  auto      : Bool
  downCount : Nat
  dual      : Bool
  /-- Conversion under way: 0 while settling, else 1 or 2. -/
  phase     : Nat
  retaken   : Bool
  /-- First conversion of a pair: code and in-phase code. -/
  first     : Option (Int × Int)
  openSeen  : Bool
  clipSeen  : Bool
  stale     : Bool
  unblanked : Bool
  /-- Microseconds of settling and conversions so far. -/
  length    : Nat
  /-- The values in force at the slot's start (R196). -/
  frozen    : List (Nat × Int)
  /-- The channel was disabled during the slot: its result is discarded (R211). -/
  discard   : Bool
deriving DecidableEq, Repr

/-- A converter core (R153). -/
structure Converter where
  slot       : Option Slot
  /-- Gain of the previous conversion; none after power-up (R158). -/
  lastGain   : Option Nat
  /-- A reference check waits with this due time, or runs (R192). -/
  refDue     : Option Nat
  refRunning : Bool
deriving DecidableEq, Repr

structure FrontEnd where
  channels   : Vector Channel 64
  converters : Vector Converter 8
  /-- The front end is powered (R184) and its first 1.0 ms have passed. -/
  ready      : Bool
  /-- Scanning has started (R184). -/
  scanning   : Bool
  /-- Module time in microseconds of the last event of the front end that carries one. -/
  now        : Nat
  /-- Blanking sources in effect, and those past their maximum duration: bit masks of the codes of R185. -/
  inEffect   : Nat
  timedOut   : Nat
  /-- Module time in microseconds of the last commit to a channel or a coefficient set, and the values it replaced, with the range at which
  a slot would have started: what a slot of that moment still takes (R190, R196, R215). -/
  laidAt     : Nat
  replaced   : List (Nat × Int)
deriving DecidableEq, Repr

def FrontEnd.reset : FrontEnd :=
  { channels := Vector.replicate 64 .reset, converters := Vector.replicate 8 ⟨none, none, none, false⟩, ready := false,
    scanning := false, now := 0, inEffect := 0, timedOut := 0, laidAt := 0, replaced := [] }

/-! ### Bellows loops, learners, trace -/

/-- Why a loop is in FAULT (R252, R256). -/
inductive LoopFault where
  | none | lockstep | ecc
deriving DecidableEq, Repr

/-- A loop's own state, beside its objects (R233-R282). -/
structure LoopUnit where
  /-- Mode in force: 0 MANUAL, 1 AUTO, 2 CASCADE, 3 PREDICTIVE (R264). -/
  mode    : Nat
  /-- Integrator in Q30, derivative state, previous process value, last output, effective setpoint, learner term (R233). -/
  acc     : Int
  d       : Int
  pvPrev  : Int
  uLast   : Int
  spEff   : Int
  uRc     : Int
  /-- Output as written at the last output phase (R224), and as last computed by the law (R248). -/
  out     : Int
  uLaw    : Int
  /-- Q30 terms of the last sample, for the trace (R248). -/
  pTerm   : Int
  fTerm   : Int
  /-- Value last written to the destination (R259). -/
  applied : Int
  /-- The next sample is the first since the loop came on (R229, R235). -/
  fresh   : Bool
  /-- The law's next sample sets pv_prev to pv first (R235). -/
  noKick  : Bool
  fault   : LoopFault
  /-- SAFE and FE HOLD, until fault reset (R238). -/
  safe    : Bool
  feHold  : Bool
  /-- A fault reset waits for the next sample (R243). -/
  resetReq : Bool
  /-- Hand-over waiting: its cause (R268), and the outgoing loop for the record (R271). -/
  cause   : Nat
  outgoing : Nat
  /-- The earliest tick for a takeover's hand-over (R276), and the commit tick of the loop's last takeover by command (R284). -/
  notBefore : Nat
  tookOver : Nat
  /-- ARM or HALT: the safe output is written at the next sample (R267); START: the run mode is entered. -/
  toManual : Bool
  toRun   : Bool
  /-- Size of the residual that a hand-over's ramp removes (R270); 0 with no ramp. -/
  ramp    : Nat
  standby : Bool
  /-- Took over by PARTNER_FE since the last command (R277). -/
  byFe    : Bool
  tracking : Bool
  /-- Setpoint last handed over by Kelsis since the entry into PREDICTIVE (R278). -/
  kelsisSp : Option Int
  /-- The following-error count had reached its time at the last sample (R242). -/
  feDone  : Bool
  /-- Learner: index, first sample pending, index lost, window open and hit, pulse latched, samples since a pulse (R282). -/
  index   : Nat
  learnFresh : Bool
  lost    : Bool
  winOpen : Bool
  winHit  : Bool
  pulse   : Bool
  gap     : Option Nat
deriving DecidableEq, Repr

def LoopUnit.reset : LoopUnit :=
  { mode := 0, acc := 0, d := 0, pvPrev := 0, uLast := 0, spEff := 0, uRc := 0, out := 0, uLaw := 0, pTerm := 0, fTerm := 0,
    applied := 0, fresh := true, noKick := true, fault := .none, safe := false, feHold := false, resetReq := false, cause := 0,
    outgoing := 0xFF, notBefore := 0, tookOver := 0, toManual := false, toRun := false, ramp := 0, standby := false, byFe := false,
    tracking := false, kelsisSp := none, feDone := false, index := 0, learnFresh := true, lost := false, winOpen := false,
    winHit := false, pulse := false, gap := none }

/-- A trace channel: samples newest first, samples skipped by the decimation, the sample before (R249). -/
structure TraceChannel where
  samples : List Int
  skip    : Nat
  before  : Option Int
deriving DecidableEq, Repr

structure Bellows where
  loops    : Vector LoopUnit 64
  /-- Learner pool cells that are not 0 (R279). -/
  pool     : List (Nat × Int)
  /-- Ticks of the mismatches of the last 16,000 ticks, newest first (R253). -/
  mismatches : List Nat
  /-- Next self-check vector, and vectors passed since the last failure (R254). -/
  vector   : Nat
  passes   : Nat
  trace    : Vector TraceChannel 4
  /-- A TRIGGER command waits (R249); the buffers hold a completed trace (R250). -/
  traceManual : Bool
  traceReady  : Bool
  /-- Words of disabled loops that the hearth core has yet to rewrite (R256). -/
  rewrites : List Nat
deriving DecidableEq, Repr

def Bellows.reset : Bellows :=
  { loops := Vector.replicate 64 .reset, pool := [], mismatches := [], vector := 0, passes := 0,
    trace := Vector.replicate 4 ⟨[], 0, none⟩, traceManual := false, traceReady := false, rewrites := [] }

/-! ### Kelsis -/

/-- The state of one cell of one member (R296): grain moisture (dry basis), grain temperature, humidity ratio and temperature of
the air as it leaves the cell, all binary32. -/
structure KCell where
  m  : Word
  tg : Word
  wa : Word
  ta : Word
deriving DecidableEq, Repr

/-- One member of an ensemble: its cells layer by layer, cell 0 first; its noise states (R302); its boundary deviate (R319). -/
structure KMember where
  cells : List KCell
  nk    : Word
  na    : Word
  nt    : Word
  nm    : Word
  zeta  : Word
deriving DecidableEq, Repr

/-- The tables of a grain type with the constants they were built beside (R304, R309): Me and k by 64 * i + j, VAP by n. -/
structure KTable where
  me       : List Word
  k        : List Word
  vap      : List Word
  pressure : Word
  cg       : Word
  rho      : Word
  hv       : Word
  flat     : Word
deriving DecidableEq, Repr

/-- The table pair of a grain type: in force, ready for its swap; a build is wanted; the last build failed (R307-R309). -/
structure KGrain where
  active : Option KTable
  ready  : Option KTable
  want   : Bool
  failed : Bool
deriving DecidableEq, Repr

/-- The build under way: its grain type, out of date, the pressure it takes (R308). -/
structure KBuild where
  grain    : Fin 16
  outdated : Bool
  pressure : Word
deriving DecidableEq, Repr

/-- A LAB value with its module time in ns (R313), and the tick of its submission (R330). -/
structure KLab where
  time  : Int
  value : Word
  tick  : Nat
deriving DecidableEq, Repr

/-- The model values of the delayed bindings at one step end: its module time, and per binding one value a member (R314). -/
structure KHistory where
  time   : Nat
  values : List (Nat × List Word)
deriving DecidableEq, Repr

/-- What a step works on, and what an abandoned step leaves as it was (R327): members, transport accumulator, per binding the
result sequence last assimilated, innovation mean. -/
structure KEnsemble where
  members : List KMember
  acc     : Word
  seqs    : List (Nat × Nat)
  innov   : Word
deriving DecidableEq, Repr

/-- The shape an ensemble was initialised with (R292): layers, cells, members, seed. -/
structure KShape where
  layers  : Nat
  width   : Nat
  members : Nat
  seed    : Nat
deriving DecidableEq, Repr

/-- A step under way, its outcome computed from what it latched at its start (R291). -/
structure KWork where
  number    : Nat
  initial   : Bool
  ens       : KEnsemble
  /-- Layers discharged, the cap of R297, the displacement in m. -/
  shifted   : Nat
  capped    : Bool
  distance  : Word
  /-- Per member the mean of what each cell column discharged; the last layer where nothing was (R311, R318). -/
  outlet    : List (List KCell)
  /-- Ensemble means of the step: heat taken in (kJ), water released (kg); its length in s. -/
  heat      : Word
  water     : Word
  dt        : Nat
  nus       : List (Nat × Word)
  accepted  : Nat
  rejected  : Nat
  tooOld    : Nat
  clamped   : Nat
  replaced  : Nat
  ruined    : Bool
  lab       : List KLab
  /-- Module time (ns) of its start, the shape it ran in (R292), the model values to keep (R314). -/
  start     : Nat
  shape     : KShape
  kept      : List (Nat × List Word)
deriving DecidableEq, Repr

/-- A column of the estimator (R287-R324). -/
structure KColumn where
  /-- The ensemble of the last completed step, in the store, with its shape. -/
  ens       : Option KEnsemble
  shape     : KShape
  work      : Option KWork
  /-- Module time (ns) of the last step start (R291); number of the last step completed; module time of the last step end. -/
  started   : Option Nat
  completed : Option Nat
  lastEnd   : Nat
  /-- Module time (ns) of the start of the last completed step (R292, R298). -/
  doneStart : Nat
  /-- A completed step whose outputs the next dictionary tick publishes (R291). -/
  publish   : Option KWork
  /-- Module time (ns) of the last initialisation and of the last assimilation or initialisation. -/
  initAt    : Nat
  assimAt   : Nat
  /-- An initialisation is ordered, by a commit at this tick (R292, R330); 0 where the estimator orders it itself (R303). -/
  reinit    : Option Nat
  /-- Grain type in force (R309). -/
  grain     : Option (Fin 16)
  /-- Per forcing input: the value last used, and since when (ns) it is held (R301). -/
  used      : Vector (Option Word) 8
  held      : Vector (Option Nat) 8
  lab       : List KLab
  history   : List KHistory
  /-- The steps of the last 600 s: time, heat, water (R322). -/
  window    : List (Nat × Word × Word)
  /-- Deviates drawn from the generator (R302). -/
  draws     : Nat
  /-- Messages taken as fresh for the next step; the last fresh boundary; the last displacement used (R319-R321). -/
  down      : Option Boundary
  up        : Option Boundary
  boundary  : Option (List (Word × Word × Word × Word))
  distance  : Option Word
deriving DecidableEq, Repr

/-- A moisture map snapshot (R324): step, layers, cells; mean, sigma and one member, in the units of reading. -/
structure KSnapshot where
  step   : Nat
  layers : Nat
  width  : Nat
  mean   : List KCell
  sigma  : List KCell
  member : List KCell
deriving DecidableEq, Repr

/-- A chain column as an update latches it (R343, R344): its members of the step-start buffer, accumulator, tables, forcing
values, and its inflow from a boundary where it has one. -/
structure KChain where
  col      : Fin 4
  grain    : Fin 16
  members  : List KMember
  acc      : Word
  table    : KTable
  forcing  : List Word
  boundary : Option (List (Word × Word × Word × Word))
deriving DecidableEq, Repr

/-- An update under way (R344): its start in ns, the step number, shedding stage, whether it is the returning update (R357); the
dictionary, the chain (column c first) and the operating point as latched. -/
structure KUpdate where
  start     : Nat
  number    : Nat
  stage     : Nat
  returning : Bool
  obj       : List (Nat × Int)
  chain     : List KChain
  spQ       : Int
  spT       : Int
deriving DecidableEq, Repr

/-- A predictor beside its object (R341-R361). -/
structure KPredictor where
  update     : Option KUpdate
  /-- The plan last handed over since the entry into PREDICTIVE: (q, T) of the three blocks. -/
  plan       : Option (List (Word × Word))
  /-- Module time (ns) since which no masked reason is set (R357). -/
  healthy    : Option Nat
  /-- Module time of the last BIN decision change, and their count (R360). -/
  changedAt  : Option Nat
  changes    : Nat
deriving DecidableEq, Repr

structure Kelsis where
  columns  : Vector KColumn 4
  grains   : Vector KGrain 16
  building : Option KBuild
  /-- Snapshot requested: column and member (R324). -/
  request  : Option (Fin 4 × Nat)
  snapshot : Option KSnapshot
  /-- An overrun since the last evaluation (R328). -/
  overrun  : Bool
  preds    : Vector KPredictor 4
deriving DecidableEq, Repr

def KColumn.reset : KColumn :=
  { ens := none, shape := ⟨0, 0, 0, 0⟩, work := none, started := none, completed := none, lastEnd := 0, doneStart := 0, publish := none, initAt := 0, assimAt := 0,
    reinit := none, grain := none, used := Vector.replicate 8 none, held := Vector.replicate 8 none, lab := [], history := [],
    window := [], draws := 0, down := none, up := none, boundary := none, distance := none }

def Kelsis.reset : Kelsis :=
  { columns := Vector.replicate 4 .reset, grains := Vector.replicate 16 ⟨none, none, false, false⟩, building := none, request := none,
    snapshot := none, overrun := false, preds := Vector.replicate 4 ⟨none, none, none, none, 0⟩ }

/-! ### Actuator channels and high-side switches -/

/-- Phase of a channel's activation (R375, R381): `starting` is the request taken, the low-side switch not yet closed. -/
inductive ActPhase where
  | idle | starting | deferred | rise | dwell | hold | regulating
deriving DecidableEq, Repr

/-- An actuator channel, beside its object (R371-R399). -/
structure ActUnit where
  phase    : ActPhase
  /-- Turned off, decay not complete (R378). -/
  decaying : Bool
  /-- The activation ends at its pulse time (R372). -/
  pulse    : Bool
  /-- The activation was made or is held by a safe state (R391, R392). -/
  bySafe   : Bool
  /-- Movement found in the last activation, and judged in the present one (R385). -/
  moved    : Bool
  judged   : Bool
  /-- Object values the activation runs on (R151). -/
  frozen   : List (Nat × Int)
  /-- Tick at which the deferral began (R381). -/
  deferredAt : Nat
  /-- Target of a PROPORTIONAL channel, in 1/3,276,800,000 mA (R374, R377, R383), and whether R383 limits it. -/
  target   : Nat
  limited  : Bool
  /-- Target as asked for before caps. -/
  asked    : Nat
  /-- What it follows from: the setpoint (false), or a policy's or safe state's target (true); a refused change to active holds 0 until
  this changes (R374). -/
  setpoint : Bool × Int
  blocked  : Bool
  /-- Output a loop last wrote to this channel. -/
  loopOut  : Int
  /-- Policy last applied, and the target its HOLD keeps (R138, R391). -/
  policy   : Option Nat
  held     : Nat
  /-- Milliseconds active and inactive, newest run first (R387). -/
  duty     : List (Bool × Nat)
  dutyLimited : Bool
  /-- The cause of the channel's fault is still present (R396). -/
  present  : Bool
deriving DecidableEq, Repr

def ActUnit.reset : ActUnit :=
  { phase := .idle, decaying := false, pulse := false, bySafe := false, moved := false, judged := false, frozen := [],
    deferredAt := 0, target := 0, limited := false, asked := 0, setpoint := (false, 0), blocked := false, loopOut := 0, policy := none, held := 0,
    duty := [], dutyLimited := false, present := false }

structure Actuators where
  units    : Vector ActUnit 20
  /-- The cause of a switch's fault is still present (R396). -/
  present  : Vector Bool 10
  /-- The P2 current limit is in force (R389). -/
  supplyLimited : Bool
deriving DecidableEq, Repr

def Actuators.reset : Actuators :=
  { units := Vector.replicate 20 .reset, present := Vector.replicate 10 false, supplyLimited := false }

/-! ### Drive channels, outputs and inputs -/

/-- What the command pin of a drive channel drives (R403-R405). -/
inductive DrivePin where
  /-- Open drain off, or 0 V (R403). -/
  | released
  /-- Open-drain PWM: period and on-time in DRIVE cycles, and whether the output sinks during the on-time or during the rest (R404). -/
  | pwm (period onTime : Nat) (sinksOn : Bool)
  /-- The code of the 12-bit 0-10 V output; 4,095 is 10.000 V (R405). -/
  | volts (code : Nat)
deriving DecidableEq, Repr

/-- A drive channel, beside its object (R404-R416). -/
structure DriveUnit where
  /-- What pin 1 or 5 of its connector drives: a PWM output from its next period start on (R404). -/
  pin      : DrivePin
  /-- Tick of the last completed tach measurement (R409). -/
  tachTick : Option Nat
  /-- Output a loop last wrote to this drive at its output phase (R406). -/
  loopOut  : Int
  /-- Policy last applied, of a host-lost policy in force or of state STALL (R138, R406). -/
  policy   : Option Nat
  /-- Command held by policy HOLD. -/
  held     : Int
  /-- The Draught table is in use (R414). -/
  inTable  : Bool
deriving DecidableEq, Repr

/-- What a current output's pins carry for a 16-bit code (R417): nothing, a current sourced from P1, or a regulated current of the
external loop. -/
inductive LoopPin where
  | off
  | sources (code : BitVec 16)
  | regulates (code : BitVec 16)
deriving DecidableEq, Repr

/-- A current output, beside its object (R417-R421). -/
structure OutputUnit where
  /-- What X2 pins 2k+1 and 2k+2 carry. -/
  pin     : LoopPin
  loopOut : Int
  policy  : Option Nat
  /-- Target held by policy HOLD. -/
  held    : Word
deriving DecidableEq, Repr

/-- A pulse input, beside its object (R422, R423). -/
structure PulseUnit where
  /-- Edges counted in the present gate. -/
  gate    : Nat
  /-- Tick of the last gate end or completed period (R423). -/
  ageTick : Option Nat
deriving DecidableEq, Repr

structure Outputs where
  drives   : Vector DriveUnit 16
  currents : Vector OutputUnit 8
  pulses   : Vector PulseUnit 8
deriving DecidableEq, Repr

def Outputs.reset : Outputs :=
  { drives := Vector.replicate 16 ⟨.released, none, 0, none, 0, false⟩, currents := Vector.replicate 8 ⟨.off, 0, none, 0⟩,
    pulses := Vector.replicate 8 ⟨0, none⟩ }

/-! ### Cores, event router, timers and counters -/

/-- A general timer of a core (R472). -/
structure Timer where
  run      : Bool
  periodic : Bool
  reload   : Word
  /-- COUNT while stopped, or as loaded. -/
  count    : Word
  /-- The core's cycle count at the load, and cycles of its first microsecond already past (R472; log 71). -/
  since    : Nat
  phase    : Nat
deriving DecidableEq, Repr

/-- A WAIT in progress (R449). -/
structure Waiting where
  dest    : Fin 16
  mask    : Word
  /-- Cycles of the timeout; 0 waits without limit. -/
  timeout : Nat
  /-- Cycle count at which the WAIT began. -/
  since   : Nat
deriving DecidableEq, Repr

/-- What the monitor saved when it delivered an interrupt to the user handler (R455). -/
structure HandlerFrame where
  regs : Vector Word 16
  pc   : Word
  ie   : Bool
deriving DecidableEq, Repr

/-- The fields of a program image's header that the monitor uses (R458). -/
structure ImageHeader where
  level        : Nat
  coresMask    : Nat
  imageId      : Nat
  build        : Nat
  codeSize     : Nat
  dataSize     : Nat
  bssSize      : Nat
  stackSize    : Nat
  entry        : Nat
  handler      : Nat
  placement    : Nat
  guardMode    : Nat
  sharedKib    : Nat
  sharedOffset : Nat
deriving DecidableEq, Repr

/-- A stored program image: the header read, and all its bytes (R458, R459). -/
structure ProgramImage where
  header : ImageHeader
  raw    : List Byte
  /-- The slot has been found not to read back as stored (R463). -/
  damaged : Bool
deriving DecidableEq, Repr

/-- The sample record of a core (R478, R479). -/
structure SampleRecord where
  pc      : Word
  word    : Word
  cycleLo : Word
  stages  : Word
  stall   : Word
  valid   : Bool
  retired : Bool
  flushed : Bool
  trapped : Bool
  seq     : Nat
deriving DecidableEq, Repr

def SampleRecord.reset : SampleRecord :=
  { pc := 0, word := 0, cycleLo := 0, stages := 0, stall := 0, valid := false, retired := false, flushed := false,
    trapped := false, seq := 0 }

structure Core where
  regs       : Vector Word 16
  pc         : Word
  status     : Word
  epc        : Word
  ecause     : Word
  eval       : Word
  vbase      : Word
  prioMask   : Word
  regionBase : Vector Word 8
  regionAttr : Vector Word 8
  cycle      : Nat
  /-- CYCLE_HI as latched by the core's last read of CYCLE_LO, and by the last dictionary read of 0x3500+n:13. -/
  cycleHi    : Nat
  cycleHiDict : Nat
  pmc        : Vector Word 8
  pmsel      : Vector Nat 8
  pmovf      : BitVec 8
  pmctl      : Word
  sampleCtl  : Word
  sample     : SampleRecord
  sampleLocked : Bool
  sampleLost : Nat
  /-- Instructions left in the present sampling interval, and the interval's number. -/
  sampleLeft : Nat
  sampleNo   : Nat
  /-- The next instruction fetched is tagged (R478). -/
  sampleTag  : Bool
  /-- The tagged instruction's record, on its way to being ready (R478). -/
  flight     : Option SampleRecord
  /-- SRC_PEND0-7 (R470). -/
  srcPend    : Vector Word 8
  localCtrl  : Word
  merged     : Nat
  timers     : Vector Timer 2
  waiting    : Option Waiting
  itcm       : List Host.Cell
  dtcm       : List Host.Cell
  /-- The core's AON retention slot (R440): the hearth core's 1 KiB record for core 0. -/
  retention  : List Host.Cell
  /-- The hearth core's slot: the record the slot was last written with, under what has been stored since (R77, R440). -/
  record     : Option Retention
  /-- STOP of a user program: the cycle it came in, and STATUS as the program ran (R462). -/
  stopped    : Option (Nat × Word)
  /-- Held by the monitor in privileged WAIT, or halted, or without a program (R456, R461). -/
  held       : Bool
  /-- Debug halt (R447, BRK). -/
  debugHalt  : Bool
  running    : Option ProgramImage
  frame      : Option HandlerFrame
  /-- Operating units of the program's restarts by its trap action (R456). -/
  restarts   : List Nat
  /-- The destination of a TCM load that was the last instruction (R450). -/
  loadDest   : Option (Fin 16)
  /-- A stack sample has been taken since the start or the last clear (R464). -/
  stackSeen  : Bool
  /-- Cycle count in WAIT over the present second, for 0x3400+n:0C. -/
  waitCycles : Nat
deriving DecidableEq, Repr

/-- A core at reset: registers the spec gives no reset value are 0 (log 4). -/
def Core.reset : Core :=
  { regs := Vector.replicate 16 0, pc := 0, status := 4, epc := 0, ecause := 0, eval := 0, vbase := 0, prioMask := 0,
    regionBase := Vector.replicate 8 0, regionAttr := Vector.replicate 8 0, cycle := 0, cycleHi := 0, cycleHiDict := 0,
    pmc := Vector.replicate 8 0, pmsel := Vector.replicate 8 0, pmovf := 0, pmctl := 0, sampleCtl := 0, sample := .reset,
    sampleLocked := false, sampleLost := 0, sampleLeft := 0, sampleNo := 0, sampleTag := false, flight := none,
    srcPend := Vector.replicate 8 0, localCtrl := 0, merged := 0,
    timers := Vector.replicate 2 ⟨false, false, 0, 0, 0, 0⟩, waiting := none, itcm := [], dtcm := [], retention := [], record := none, stopped := none,
    held := false, debugHalt := false, running := none, frame := none, restarts := [], loadDest := none, stackSeen := false, waitCycles := 0 }

structure Router where
  /-- Bellows triggers latched until the next tick start, and those that the present tick has seen at its start (R471). -/
  bellowsLatch : List Nat
  bellowsSeen  : List Nat
  /-- A Kelsis trigger waits for the next dictionary tick (R471). -/
  kelsisLatch  : Bool
deriving DecidableEq, Repr

/-! ### CAN ports and CANopen -/

/-- A transmit entry (R492), with what becomes of it on the way. -/
structure CanEntry where
  /-- ID word: [31] IDE, [30] FDF, [29] BRS, [28:0] identifier. -/
  id        : Nat
  control   : Nat
  tag       : Nat
  notBefore : Nat
  data      : List Byte
  /-- Placed by the CANopen slave (R490): its tag is nobody's choice. -/
  own       : Bool
  /-- NOT_BEFORE has been reached (R496). -/
  released  : Bool
  /-- A cancel came in the SOF clock or later (R497). -/
  cancelled : Bool
deriving DecidableEq, Repr

/-- A CAN controller, beside its objects (R483-R507). -/
structure CanPort where
  queue     : List CanEntry
  /-- Frames of the slave that wait for a place in the queue (log 41). -/
  backlog   : List CanEntry
  /-- Urgent slot (CAN B) and time reference slot (CAN A). -/
  urgent    : Option CanEntry
  reference : Option CanEntry
  /-- What contended when a slot ahead of it filled: its frame may have been on the bus already, until a frame ends (R490). -/
  begun     : Option CanSlot
  /-- Completion records, oldest first (R498), and the next sequence number. -/
  ring      : List Nat
  seq       : Nat
  /-- FIFO records, oldest first (R505), and the next receive sequence number (R503). -/
  fifo      : List (List Byte)
  rxSeq     : Nat
  /-- A discard has been logged since the FIFO was last empty (R505). -/
  fullLogged : Bool
  /-- A recovery has been commanded (R500). -/
  recovering : Bool
  /-- An entry has been moved in this bus-off episode (R501). -/
  moved     : Bool
  /-- SOF of the previous reference message in ns, where known (R506). -/
  lastSof   : Option Nat
deriving DecidableEq, Repr

def CanPort.reset : CanPort :=
  { queue := [], backlog := [], urgent := none, reference := none, begun := none, ring := [], seq := 0, fifo := [], rxSeq := 0, fullLogged := false,
    recovering := false, moved := false, lastSof := none }

/-- What the SDO server is doing (R510). -/
inductive SdoPhase where
  | idle | download | upload | blockDownload | blockDownloadEnd | blockUploadStart | blockUpload | blockUploadEnd
deriving DecidableEq, Repr

/-- The SDO server's transfer. -/
structure Sdo where
  phase  : SdoPhase
  key    : Nat
  toggle : Bool
  /-- Size the client indicated. -/
  size   : Option Nat
  /-- Download: bytes received. Upload: the whole value. -/
  bytes  : List Byte
  /-- Upload: bytes acknowledged or sent. -/
  sent   : Nat
  /-- Segments per block, segments of this block received, CRC agreed. -/
  blksize : Nat
  seqno  : Nat
  crc    : Bool
  /-- A request waits for its answer: to be downloaded or read (R510). -/
  asked  : Bool
deriving DecidableEq, Repr

def Sdo.idle : Sdo := { phase := .idle, key := 0, toggle := false, size := none, bytes := [], sent := 0, blksize := 0, seqno := 0, crc := false, asked := false }

/-- A TPDO (R510): SYNCs counted, inhibit time running, an event waiting for its end or for the SYNC, its last data, started by
the SYNC start value. -/
structure Tpdo where
  syncs     : Nat
  inhibited : Bool
  waiting   : Bool
  last      : List Byte
  started   : Bool
deriving DecidableEq, Repr

/-- The CANopen slave of CAN A (R510-R512). -/
structure Canopen where
  /-- NMT state: 0 initialisation, 4 stopped, 5 operational, 127 pre-operational. -/
  nmt       : Nat
  sdo       : Sdo
  /-- EMCYs held back by the inhibit time, oldest first; the inhibit time runs. -/
  emcyHeld  : List (List Byte)
  emcyInhibited : Bool
  /-- Consumers whose node is absent (R511). -/
  absent    : List (Fin 4)
  tpdos     : Vector Tpdo 8
  /-- Synchronous RPDOs that wait for the SYNC. -/
  rpdos     : Vector (Option (List Byte)) 8
  /-- Counter of the last SYNC. -/
  syncCount : Nat
deriving DecidableEq, Repr

def Canopen.reset : Canopen :=
  { nmt := 0, sdo := .idle, emcyHeld := [], emcyInhibited := false, absent := [],
    tpdos := Vector.replicate 8 ⟨0, false, false, [], false⟩, rpdos := Vector.replicate 8 none, syncCount := 0 }

/-! ### Flue -/

/-- A frame in an egress queue or a mailbox (R525). -/
structure FlueFrame where
  hop   : Nat
  dst   : Nat
  src   : Nat
  seq   : Nat
  alive : Nat
  body  : FlueBody
  /-- Cut through with a bad FCS: the switch ends it with an invalid one (R523). -/
  spoiled : Bool
deriving DecidableEq, Repr

/-- A port, beside its object (R523, R534, R554). -/
structure FluePort where
  /-- Egress queues in the order of R523: SYNC, gPTP, CTRL, DICT, BULK. -/
  queues    : Vector (List FlueFrame) 5
  /-- Ticks of the last HELLO and of the first of its gap-free run. -/
  lastHello : Option Nat
  runStart  : Option Nat
  /-- The neighbour's last HELLO. -/
  neighbour : Option Hello
  /-- Tick of the last 0x0905 of this port. -/
  authLog   : Option Nat
  /-- The link nonce of the last HELLO sent, and the frame counter of this direction (R554). -/
  nonce     : Nat
  counter   : Nat
  /-- The octets of the frame last sent, from the destination MAC to the FCS (R524). -/
  wire      : List Byte
deriving DecidableEq, Repr

/-- A seat of a group this module heads (R543, R550, R564). -/
structure FlueMember where
  addr     : Nat
  uid      : Nat
  isGroup  : Bool
  /-- 0 EMPTY, 1 PRESENT, 2 SLEEPING, 3 ABSENT. -/
  state    : Nat
  status   : Nat
  alarm    : Nat
  statusTick : Option Nat
  wake     : Nat
  mailbox  : List FlueFrame
  /-- A discard has been logged in this sleep. -/
  fullLogged : Bool
  lastSevere : Nat
  severe   : Nat
  /-- Channel reports of the last STATUS: number, value, state, age in ms. -/
  channels : List (Nat × Word × Nat × Nat)
deriving DecidableEq, Repr

def FlueMember.empty : FlueMember :=
  { addr := 0, uid := 0, isGroup := false, state := 0, status := 0, alarm := 0, statusTick := none, wake := 0, mailbox := [],
    fullLogged := false, lastSevere := 0, severe := 0, channels := [] }

/-- A group this module is a candidate in (R536, R563). -/
structure FlueGroup where
  addr    : Nat
  /-- Unique IDs of head and deputy; 0 none. -/
  head    : Nat
  deputy  : Nat
  /-- Seats 1-15. -/
  members : Vector FlueMember 15
  /-- Plan part of this group: unique ID and address (R539). -/
  part    : List (Nat × Nat)
  /-- Channels of this group that the head of the group above wants (R546). -/
  wanted  : List Nat
deriving DecidableEq, Repr

/-- A dictionary request in service, or its answer kept for 1 s (R541). -/
structure DictServe where
  src : Nat
  dst : Nat
  req : DictReq
deriving DecidableEq, Repr

structure DictCache where
  src  : Nat
  rsp  : DictRsp
  tick : Nat
deriving DecidableEq, Repr

/-- A DOM transfer in segments (R541). -/
structure DomTransfer where
  src   : Nat
  dst   : Nat
  req   : DictReq
  next  : Nat
  bytes : List Byte
deriving DecidableEq, Repr

/-- The values 0x3790-0x37A0 of a group this module heads, where they are not those of the lowest one, and the writes to them that wait for
the tick (R542). -/
structure FlueInstance where
  addr   : Nat
  values : List (Nat × Int)
  staged : List Staged
deriving DecidableEq, Repr

/-- A fan-out request of a group's entry on its way to a seat (R547). -/
structure FanRequest where
  group : Nat
  entry : Nat
  seat  : Nat
  dst   : Nat
  tid   : Nat
deriving DecidableEq, Repr

structure Flue where
  ports   : Vector FluePort 4
  /-- Newest LINK_STATE of each origin, and this node's own sequence number. -/
  lsdb    : List LinkState
  lsSeq   : Nat
  groups  : List FlueGroup
  /-- Values of the groups above the lowest one that this module heads (R542). -/
  instances : List FlueInstance
  /-- Sequence per destination, alive counter per data ID, last alive counter accepted per source and data ID (R525, R527). -/
  txSeq   : List (Nat × Nat)
  txAlive : List (Nat × Nat)
  rxAlive : List (Nat × Nat × Nat)
  /-- Unique IDs of unseated nodes the root head has seen (R533). -/
  seen    : List Nat
  /-- Unique IDs whose SEAT acknowledgement this node has taken as head (0x3700:10). -/
  acked   : List Nat
  /-- Consecutive syncs (R553), and nanoseconds latched by a read of 0x3730:08. -/
  syncs   : Nat
  nsLatch : Nat
  siteKey : List Byte
  /-- Module seconds of the next beacon duty (R549). -/
  beacon  : Option Nat
  /-- Channels the head wants of this member (R546). -/
  wanted  : List Nat
  serving : List DictServe
  waiting : List DictServe
  cache   : List DictCache
  doms    : List DomTransfer
  fans    : List FanRequest
  /-- Next TID of this node's own requests. -/
  tid     : Nat
  /-- The group whose instance a transaction at its address reaches (R542); between steps none. -/
  shown   : Option Nat
  /-- A plan part of which slices are to come: its group, the next slice's number, the octets so far (R539; log 99). -/
  planIn  : Option (Nat × Nat × List Byte)
deriving DecidableEq, Repr

def Flue.reset : Flue :=
  { ports := Vector.replicate 4 ⟨Vector.replicate 5 [], none, none, none, none, 0, 0, []⟩, lsdb := [], lsSeq := 0, groups := [], instances := [], txSeq := [],
    txAlive := [], rxAlive := [], seen := [], acked := [], syncs := 0, nsLatch := 0, siteKey := [], beacon := none, wanted := [], serving := [],
    waiting := [], cache := [], doms := [], fans := [], tid := 0, shown := none, planIn := none }

/-! ### Cowl units -/

/-- The receive or transmit state of one context of a Cowl unit (R571, R573, R577). -/
structure CowlContext where
  aLast   : Nat
  k       : Nat
  result  : Nat
  timeout : Bool
  /-- Tick of the last message with a good check. -/
  lastGood : Nat
deriving DecidableEq, Repr

structure CowlUnit where
  contexts : Vector CowlContext 16
  /-- Transmit counter shared by data IDs without a transmit context (R570). -/
  spare    : Nat
  /-- The unit's register (R575). -/
  reg      : Nat
  /-- The hearth core's cycle in which the data written to the unit are taken (R575). -/
  busy     : Nat
deriving DecidableEq, Repr

def CowlUnit.reset : CowlUnit :=
  { contexts := Vector.replicate 16 ⟨0, 0, 0, false, 0⟩, spare := 0, reg := 0, busy := 0 }

/-! ### The Ash log -/

/-- An event for the Ash log, stamped when it was raised (R588). -/
structure AshEvent where
  code      : Nat
  source    : Nat
  severity  : Nat
  w4        : Nat
  w5        : Nat
  w6        : Nat
  cycle     : Nat
  forwarded : Bool
deriving DecidableEq, Repr

/-- A queue entry: the event, its first and last stamp in ms, and its tally (R590). -/
structure AshQueued where
  event : AshEvent
  first : Nat
  last  : Nat
  tally : Nat
deriving DecidableEq, Repr

/-- A record (R582); word 7 follows from the others. -/
structure AshRecord where
  event    : AshEvent
  cycleSat : Bool
  repeats  : Nat
  /-- Whole seconds of the first occurrence. -/
  first    : Nat
  /-- Milliseconds from those whole seconds to the last occurrence. -/
  offset   : Nat
deriving DecidableEq, Repr

structure Ash where
  /-- Written slots, newest first. -/
  slots     : List AshRecord
  queue     : List AshQueued
  /-- Losses of the present episode (R590). -/
  episode   : Nat
  /-- Header fields (R581). -/
  clears    : Nat
  clearTime : Nat
  headerLost : Nat
  /-- Reserve records in flash bank A, oldest first (R593). -/
  reserve   : List AshRecord
  /-- The log memory has failed (R592). -/
  failed    : Bool
  /-- A clear in progress: records found and lost count before it, writer code (R596). -/
  clearing  : Option (Nat × Nat × Nat)
  /-- Cursor and latched words of each writer code (R595). -/
  cursors   : Vector Nat 8
  latched   : Vector (List Word) 8
  /-- Reads of 0x3900:09 by each writer code since the last tick start (R599). -/
  advanced  : Vector Nat 8
deriving DecidableEq, Repr

def Ash.reset : Ash :=
  { slots := [], queue := [], episode := 0, clears := 0, clearTime := 0, headerLost := 0, reserve := [], failed := false,
    clearing := none, cursors := Vector.replicate 8 0, latched := Vector.replicate 8 [], advanced := Vector.replicate 8 0 }

/-! ### Thermal management -/

/-- A reader of 0x3A00:01-06 whose demand is not met yet (R603): sensors whose conversion has still to begin, and to end. -/
structure ThermalReader where
  path   : Path
  sensor : Fin 6
  begin_ : List (Fin 6)
  end_   : List (Fin 6)
deriving DecidableEq, Repr

/-- A thermal record of FRAM (R609). -/
structure ThermalRecord where
  sensor  : Nat
  reading : Word
  process : Nat
  mode    : Nat
  /-- The base configuration check value then in force (R95, R613). -/
  check   : Nat
deriving DecidableEq, Repr

/-- What the manager keeps of a sensor (R606). -/
structure ThermalSensor where
  /-- Last conversion's reading, and the last reading taken as valid. -/
  last  : Word
  valid : Word
  /-- A valid reading has been taken since the start. -/
  known : Bool
  /-- Consecutive good conversions while broken. -/
  good  : Nat
deriving DecidableEq, Repr

/-- The thermal manager (R601-R619). -/
structure Thermal where
  /-- Sensors with a pending demand (R602). -/
  demand   : Vector Bool 6
  /-- Tick of each sensor's last conversion (R601). -/
  lastTick : Vector (Option Nat) 6
  /-- Conversion under way, and the sensor last converted (R602). -/
  converting : Option (Fin 6)
  latest   : Fin 6
  sensors  : Vector ThermalSensor 6
  readers  : List ThermalReader
  /-- Ticks throttled since the last clear: EST, either bank (R618). -/
  estTicks  : Nat
  bankTicks : Nat
  /-- The four newest thermal records, newest first (R609). -/
  records  : List ThermalRecord
  /-- The restart levels of the last shutdown are not yet met (R103, R612): kept with the records. -/
  shut     : Bool
  /-- Operating units at the automatic restarts of the last 60 min (R613). -/
  restarts : List Nat
  /-- A restoring cold start restores this (R613). -/
  restore  : Option Retention
deriving DecidableEq, Repr

def Thermal.reset : Thermal :=
  { demand := Vector.replicate 6 false, lastTick := Vector.replicate 6 none, converting := none, latest := 5,
    sensors := Vector.replicate 6 ⟨0, 0, false, 0⟩, readers := [], estTicks := 0, bankTicks := 0, records := [], shut := false, restarts := [],
    restore := none }

/-! ### The state -/

structure State where
  /-- Running values of numeric subindexes that differ from their defaults (keys: index * 256 + subindex). -/
  obj     : List (Nat × Int)
  /-- Base values of configuration subindexes that differ from their defaults (R148). -/
  base    : List (Nat × Int)
  /-- Contents of VIS and DOM subindexes that are not empty (or not at their default). -/
  blk     : List (Nat × List Byte)
  clock   : Clock
  power   : Power
  startup : Startup
  dict    : Dict
  cores   : Vector Core 4
  /-- The 2 MiB of shared SRAM (R439). -/
  sram    : List Host.Cell
  /-- What the hearth core's own stores have left in FRAM (R439; log 72). -/
  fram    : List Host.Cell
  /-- Program slots 1-3 (R459). -/
  images  : Vector (Option ProgramImage) 3
  front   : FrontEnd
  router  : Router
  cowl    : Vector CowlUnit 4
  ash     : Ash
  outputs : Outputs
  acts    : Actuators
  thermal : Thermal
  bellows : Bellows
  kelsis  : Kelsis
  can     : Vector CanPort 2
  canopen : Canopen
  flue    : Flue
  /-- The model's own: how many free values have been drawn (log 1). -/
  free    : Nat
  /-- The commands that wait, first in, first out. -/
  pending : List Instr
deriving DecidableEq, Repr

/-- The module at reset release, as it leaves manufacture (R637). -/
def State.reset : State :=
  { obj := [], base := [], blk := [], clock := .reset, power := .reset, startup := .reset, dict := .reset,
    cores := Vector.replicate 4 .reset, sram := [], fram := [], images := Vector.replicate 3 none,
    front := .reset,
    router := { bellowsLatch := [], bellowsSeen := [], kelsisLatch := false }, cowl := Vector.replicate 4 .reset, ash := .reset,
    outputs := .reset, acts := .reset, thermal := .reset, bellows := .reset, kelsis := .reset,
    can := Vector.replicate 2 .reset, canopen := .reset, flue := .reset,
    free := 0, pending := [] }

end Sys2Proof.Machine
end

