-- ==== Sys2Proof/Machine/Keys.lean ====
section
/-! DEFINITION. Names for the dictionary's subindexes: the key of index:subindex is index * 256 + subindex, the word
number of R121. One abbreviation per row of the spec's object tables, with the item's number (and the row's position
within a range of subindexes) as arguments. -/

namespace Sys2Proof.Machine.Key

/-- 0x2002:01 Sensor channels (R4 U8). -/
abbrev familySensorChannels : Nat := 0x2002 * 256 + 0x1
/-- 0x2002:02 Converter cores (R4 U8). -/
abbrev familyConverterCores : Nat := 0x2002 * 256 + 0x2
/-- 0x2002:03 Bellows loops (R4 U8). -/
abbrev familyBellowsLoops : Nat := 0x2002 * 256 + 0x3
/-- 0x2002:04 Kelsis engines (R4 U8). -/
abbrev familyKelsisEngines : Nat := 0x2002 * 256 + 0x4
/-- 0x2002:05 Actuator channels (R4 U8). -/
abbrev familyActuatorChannels : Nat := 0x2002 * 256 + 0x5
/-- 0x2002:06 Drive channels (R4 U8). -/
abbrev familyDriveChannels : Nat := 0x2002 * 256 + 0x6
/-- 0x2002:07 Flue ports (R4 U8). -/
abbrev familyFluePorts : Nat := 0x2002 * 256 + 0x7
/-- 0x2002:08 CAN ports (R4 U8). -/
abbrev familyCANPorts : Nat := 0x2002 * 256 + 0x8
/-- 0x2002:09 CAN buses (R4 U8). -/
abbrev familyCANBuses : Nat := 0x2002 * 256 + 0x9
/-- 0x2002:0A Connectors (R4 U8). -/
abbrev familyConnectors : Nat := 0x2002 * 256 + 0xA
/-- 0x2200:01 Deepest state allowed (R85 U8). -/
abbrev powerDeepestStateAllowed : Nat := 0x2200 * 256 + 0x1
/-- 0x2200:02 Guard time (R85 U16). -/
abbrev powerGuardTime : Nat := 0x2200 * 256 + 0x2
/-- 0x2200:03 Wake-source enable (R85 U16). -/
abbrev powerWakeSourceEnable : Nat := 0x2200 * 256 + 0x3
/-- 0x2200:04 Last wake cause (R85 U16). -/
abbrev powerLastWakeCause : Nat := 0x2200 * 256 + 0x4
/-- 0x2200:05 Previous state (R85 U8). -/
abbrev powerPreviousState : Nat := 0x2200 * 256 + 0x5
/-- 0x2200:06 Cap reasons (R85 U16). -/
abbrev powerCapReasons : Nat := 0x2200 * 256 + 0x6
/-- 0x2200:07 Last decision: state (R85 U8). -/
abbrev powerLastDecisionState : Nat := 0x2200 * 256 + 0x7
/-- 0x2200:08 Last decision: t_next (R85 U32). -/
abbrev powerLastDecisionTNext : Nat := 0x2200 * 256 + 0x8
/-- 0x2200:09 Last decision: source (R85 U8). -/
abbrev powerLastDecisionSource : Nat := 0x2200 * 256 + 0x9
/-- 0x2200:0A Time in SIMMER (R85 U32). -/
abbrev powerTimeInSIMMER : Nat := 0x2200 * 256 + 0xA
/-- 0x2200:0B Time in BANKED (R85 U32). -/
abbrev powerTimeInBANKED : Nat := 0x2200 * 256 + 0xB
/-- 0x2200:0C Time in EMBER (R85 U32). -/
abbrev powerTimeInEMBER : Nat := 0x2200 * 256 + 0xC
/-- 0x2200:0D EMBER entries (R85 U32). -/
abbrev powerEMBEREntries : Nat := 0x2200 * 256 + 0xD
/-- 0x2200:0E Clear statistics (R85 U8). -/
abbrev powerClearStatistics : Nat := 0x2200 * 256 + 0xE
/-- 0x2200:0F RTC (R85 U32). -/
abbrev powerRTC : Nat := 0x2200 * 256 + 0xF
/-- 0x2200:10 Wake period (R85 U32). -/
abbrev powerWakePeriod : Nat := 0x2200 * 256 + 0x10
/-- 0x2200:11 Wake phase (R85 U32). -/
abbrev powerWakePhase : Nat := 0x2200 * 256 + 0x11
/-- 0x2201:01 Next contact (R88 U32). -/
abbrev contactNextContact : Nat := 0x2201 * 256 + 0x1
/-- 0x2201:02 Remaining (R88 U32). -/
abbrev contactRemaining : Nat := 0x2201 * 256 + 0x2
/-- 0x2201:03 Contact window (R88 U16). -/
abbrev contactContactWindow : Nat := 0x2201 * 256 + 0x3
/-- 0x3B00:01 P1 voltage (R89 U16). -/
abbrev supplyP1Voltage : Nat := 0x3B00 * 256 + 0x1
/-- 0x3B00:02 P2 voltage (R89 U16). -/
abbrev supplyP2Voltage : Nat := 0x3B00 * 256 + 0x2
/-- 0x3B00:03 P2 current (R89 U16). -/
abbrev supplyP2Current : Nat := 0x3B00 * 256 + 0x3
/-- 0x3B00:04 Backup cell voltage (R89 U16). -/
abbrev supplyBackupCellVoltage : Nat := 0x3B00 * 256 + 0x4
/-- 0x3B00:05 Supply status (R89 U16). -/
abbrev supplySupplyStatus : Nat := 0x3B00 * 256 + 0x5
/-- 0x3B00:06 P1 brown-outs (R89 U16). -/
abbrev supplyP1BrownOuts : Nat := 0x3B00 * 256 + 0x6
/-- 0x3B00:07 P2 losses (R89 U16). -/
abbrev supplyP2Losses : Nat := 0x3B00 * 256 + 0x7
/-- 0x3B00:08 Operating seconds (R89 U32). -/
abbrev supplyOperatingSeconds : Nat := 0x3B00 * 256 + 0x8
/-- 0x3B00:09 Power-cycle count (R89 U16). -/
abbrev supplyPowerCycleCount : Nat := 0x3B00 * 256 + 0x9
/-- 0x3B00:0A Clear counters (R89 U8). -/
abbrev supplyClearCounters : Nat := 0x3B00 * 256 + 0xA
/-- 0x2001:01 Process state (R111 U8). -/
abbrev procProcessState : Nat := 0x2001 * 256 + 0x1
/-- 0x2001:02 Command (R111 U8). -/
abbrev procCommand : Nat := 0x2001 * 256 + 0x2
/-- 0x2001:03 Fault cause (R111 U16). -/
abbrev procFaultCause : Nat := 0x2001 * 256 + 0x3
/-- 0x2300:01 Start counter (R112 U8). -/
abbrev startStartCounter : Nat := 0x2300 * 256 + 0x1
/-- 0x2300:02 Confirm (R112 U8). -/
abbrev startConfirm : Nat := 0x2300 * 256 + 0x2
/-- 0x2300:03 Confirmation mode (R112 U8). -/
abbrev startConfirmationMode : Nat := 0x2300 * 256 + 0x3
/-- 0x2300:04 Confirmation deadline (R112 U16). -/
abbrev startConfirmationDeadline : Nat := 0x2300 * 256 + 0x4
/-- 0x2300:05 Kindling threshold (R112 U8). -/
abbrev startKindlingThreshold : Nat := 0x2300 * 256 + 0x5
/-- 0x2300:06 Cause, last start (R112 U32). -/
abbrev startCauseLastStart : Nat := 0x2300 * 256 + 0x6
/-- 0x2300:07 Cause, second last (R112 U32). -/
abbrev startCauseSecondLast : Nat := 0x2300 * 256 + 0x7
/-- 0x2300:08 Cause, third last (R112 U32). -/
abbrev startCauseThirdLast : Nat := 0x2300 * 256 + 0x8
/-- 0x2300:09 Kindling active (R112 BOOL). -/
abbrev startKindlingActive : Nat := 0x2300 * 256 + 0x9
/-- 0x2300:0A Kindling command (R112 U16). -/
abbrev startKindlingCommand : Nat := 0x2300 * 256 + 0xA
/-- 0x2300:0B Automatic trial interval (R112 U32). -/
abbrev startAutomaticTrialInterval : Nat := 0x2300 * 256 + 0xB
/-- 0x2300:0C Boot order (R112 U8). -/
abbrev startBootOrder : Nat := 0x2300 * 256 + 0xC
/-- 0x2300:0D Bank A status (R112 U8). -/
abbrev startBankAStatus : Nat := 0x2300 * 256 + 0xD
/-- 0x2300:0E Bank B status (R112 U8). -/
abbrev startBankBStatus : Nat := 0x2300 * 256 + 0xE
/-- 0x2300:0F Bank started (R112 U8). -/
abbrev startBankStarted : Nat := 0x2300 * 256 + 0xF
/-- 0x2300:10 Start type (R112 U8). -/
abbrev startStartType : Nat := 0x2300 * 256 + 0x10
/-- 0x2300:11 Firmware image (R112 DOM). -/
abbrev startFirmwareImage : Nat := 0x2300 * 256 + 0x11
/-- 0x2300:12 Configuration image (R112 DOM). -/
abbrev startConfigurationImage : Nat := 0x2300 * 256 + 0x12
/-- 0x2300:13 Warm boots (R112 U32). -/
abbrev startWarmBoots : Nat := 0x2300 * 256 + 0x13
/-- 0x2003:01-08 Detail, writer 0–7 (R128 U32). -/
abbrev abortDetail (i : Nat) : Nat := 0x2003 * 256 + (0x1 + i)
/-- 0x2003:09 Superseded writes (R128 U32). -/
abbrev abortSupersededWrites : Nat := 0x2003 * 256 + 0x9
/-- 0x2000:01 Part number (R131 VIS). -/
abbrev identPartNumber : Nat := 0x2000 * 256 + 0x1
/-- 0x2000:02 Serial number (R131 U32). -/
abbrev identSerialNumber : Nat := 0x2000 * 256 + 0x2
/-- 0x2000:03 Unique ID, high word (R131 U32). -/
abbrev identUniqueIDHighWord : Nat := 0x2000 * 256 + 0x3
/-- 0x2000:04 Unique ID, low word (R131 U32). -/
abbrev identUniqueIDLowWord : Nat := 0x2000 * 256 + 0x4
/-- 0x2000:05 Hardware issue (R131 U16). -/
abbrev identHardwareIssue : Nat := 0x2000 * 256 + 0x5
/-- 0x2000:06 Firmware version (R131 U32). -/
abbrev identFirmwareVersion : Nat := 0x2000 * 256 + 0x6
/-- 0x2000:07 Boot ROM version (R131 U32). -/
abbrev identBootROMVersion : Nat := 0x2000 * 256 + 0x7
/-- 0x2000:10-17 Level, writer 0–7 (R131 U8). -/
abbrev identLevel (i : Nat) : Nat := 0x2000 * 256 + (0x10 + i)
/-- 0x2000:18 Level request (R131 U32). -/
abbrev identLevelRequest : Nat := 0x2000 * 256 + 0x18
/-- 0x2000:19 Service passcode (R131 U32). -/
abbrev identServicePasscode : Nat := 0x2000 * 256 + 0x19
/-- 0x2000:1A Vendor challenge (R131 DOM). -/
abbrev identVendorChallenge : Nat := 0x2000 * 256 + 0x1A
/-- 0x2000:1B Vendor response (R131 DOM). -/
abbrev identVendorResponse : Nat := 0x2000 * 256 + 0x1B
/-- 0x2101:01 Saved check value (R135 U32). -/
abbrev cfgSavedCheckValue : Nat := 0x2101 * 256 + 0x1
/-- 0x2101:02 Running check value (R135 U32). -/
abbrev cfgRunningCheckValue : Nat := 0x2101 * 256 + 0x2
/-- 0x2101:03 Unsaved changes (R135 BOOL). -/
abbrev cfgUnsavedChanges : Nat := 0x2101 * 256 + 0x3
/-- 0x2101:04 Configuration status (R135 U16). -/
abbrev cfgConfigurationStatus : Nat := 0x2101 * 256 + 0x4
/-- 0x2010:01 Heartbeat (R140 U16). -/
abbrev hbeatHeartbeat : Nat := 0x2010 * 256 + 0x1
/-- 0x2010:02 Last heartbeat writer (R140 U8). -/
abbrev hbeatLastHeartbeatWriter : Nat := 0x2010 * 256 + 0x2
/-- 0x2011:01 Timeout (R141 U32). -/
abbrev hostTimeout : Nat := 0x2011 * 256 + 0x1
/-- 0x2011:02 Host paths (R141 U8). -/
abbrev hostHostPaths : Nat := 0x2011 * 256 + 0x2
/-- 0x2011:03 Recovery mode (R141 U8). -/
abbrev hostRecoveryMode : Nat := 0x2011 * 256 + 0x3
/-- 0x2012:01 State (R142 U8). -/
abbrev lostState : Nat := 0x2012 * 256 + 0x1
/-- 0x2012:02 Time since heartbeat (R142 U32). -/
abbrev lostTimeSinceHeartbeat : Nat := 0x2012 * 256 + 0x2
/-- 0x2012:03 Time remaining (R142 U32). -/
abbrev lostTimeRemaining : Nat := 0x2012 * 256 + 0x3
/-- 0x2012:04 Expiries (R142 U16). -/
abbrev lostExpiries : Nat := 0x2012 * 256 + 0x4
/-- 0x2012:05 Acknowledge (R142 U8). -/
abbrev lostAcknowledge : Nat := 0x2012 * 256 + 0x5
/-- 0x2013:01-14 Actuator (R143 U8). -/
abbrev policyActuator (i : Nat) : Nat := 0x2013 * 256 + (0x1 + i)
/-- 0x2013:15-24 Drive (R143 U8). -/
abbrev policyDrive (i : Nat) : Nat := 0x2013 * 256 + (0x15 + i)
/-- 0x2013:25-2C Current output (R143 U8). -/
abbrev policyCurrentOutput (i : Nat) : Nat := 0x2013 * 256 + (0x25 + i)
/-- 0x2110+n:01 Mode name (R147 VIS). -/
abbrev overlayModeName (n : Nat) : Nat := (0x2110 + n) * 256 + 0x1
/-- 0x2110+n:02 Entry count (R147 U16). -/
abbrev overlayEntryCount (n : Nat) : Nat := (0x2110 + n) * 256 + 0x2
/-- 0x2110+n:03 Entry list (R147 DOM). -/
abbrev overlayEntryList (n : Nat) : Nat := (0x2110 + n) * 256 + 0x3
/-- 0x2110+n:04 Check value (R147 U32). -/
abbrev overlayCheckValue (n : Nat) : Nat := (0x2110 + n) * 256 + 0x4
/-- 0x2100:01 Requested mode (R152 U8). -/
abbrev modeRequestedMode : Nat := 0x2100 * 256 + 0x1
/-- 0x2100:02 Switch status (R152 U8). -/
abbrev modeSwitchStatus : Nat := 0x2100 * 256 + 0x2
/-- 0x2100:03 Active mode (R152 U8). -/
abbrev modeActiveMode : Nat := 0x2100 * 256 + 0x3
/-- 0x2100:04 Previous mode (R152 U8). -/
abbrev modePreviousMode : Nat := 0x2100 * 256 + 0x4
/-- 0x2100:05 Switches (R152 U32). -/
abbrev modeSwitches : Nat := 0x2100 * 256 + 0x5
/-- 0x2400+n:01 Enable (R193 BOOL). -/
abbrev chanEnable (n : Nat) : Nat := (0x2400 + n) * 256 + 0x1
/-- 0x2400+n:02 Sensor type (R193 U8). -/
abbrev chanSensorType (n : Nat) : Nat := (0x2400 + n) * 256 + 0x2
/-- 0x2400+n:03 Lead mode (R193 U8). -/
abbrev chanLeadMode (n : Nat) : Nat := (0x2400 + n) * 256 + 0x3
/-- 0x2400+n:04 Scan period (R193 U32). -/
abbrev chanScanPeriod (n : Nat) : Nat := (0x2400 + n) * 256 + 0x4
/-- 0x2400+n:05 Scan phase (R193 U32). -/
abbrev chanScanPhase (n : Nat) : Nat := (0x2400 + n) * 256 + 0x5
/-- 0x2400+n:06 Settling delay (R193 U16). -/
abbrev chanSettlingDelay (n : Nat) : Nat := (0x2400 + n) * 256 + 0x6
/-- 0x2400+n:07 Conversion time (R193 U8). -/
abbrev chanConversionTime (n : Nat) : Nat := (0x2400 + n) * 256 + 0x7
/-- 0x2400+n:08 Excitation current (R193 U8). -/
abbrev chanExcitationCurrent (n : Nat) : Nat := (0x2400 + n) * 256 + 0x8
/-- 0x2400+n:09 IMP frequency (R193 U8). -/
abbrev chanIMPFrequency (n : Nat) : Nat := (0x2400 + n) * 256 + 0x9
/-- 0x2400+n:0A IMP second frequency (R193 U8). -/
abbrev chanIMPSecondFrequency (n : Nat) : Nat := (0x2400 + n) * 256 + 0xA
/-- 0x2400+n:0B IMP drive amplitude (R193 U16). -/
abbrev chanIMPDriveAmplitude (n : Nat) : Nat := (0x2400 + n) * 256 + 0xB
/-- 0x2400+n:0C Range mode (R193 U8). -/
abbrev chanRangeMode (n : Nat) : Nat := (0x2400 + n) * 256 + 0xC
/-- 0x2400+n:0D Range (R193 U8). -/
abbrev chanRange (n : Nat) : Nat := (0x2400 + n) * 256 + 0xD
/-- 0x2400+n:0E Down-range count (R193 U8). -/
abbrev chanDownRangeCount (n : Nat) : Nat := (0x2400 + n) * 256 + 0xE
/-- 0x2400+n:0F Blank inputs (R193 U8). -/
abbrev chanBlankInputs (n : Nat) : Nat := (0x2400 + n) * 256 + 0xF
/-- 0x2400+n:10 Blank actuators (R193 U32). -/
abbrev chanBlankActuators (n : Nat) : Nat := (0x2400 + n) * 256 + 0x10
/-- 0x2400+n:11 Blank drives (R193 U16). -/
abbrev chanBlankDrives (n : Nat) : Nat := (0x2400 + n) * 256 + 0x11
/-- 0x2400+n:12 Companion channel (R193 U8). -/
abbrev chanCompanionChannel (n : Nat) : Nat := (0x2400 + n) * 256 + 0x12
/-- 0x2400+n:13 Convert now (R193 U8). -/
abbrev chanConvertNow (n : Nat) : Nat := (0x2400 + n) * 256 + 0x13
/-- 0x2400+n:14 Raw sample (R193 U32). -/
abbrev chanRawSample (n : Nat) : Nat := (0x2400 + n) * 256 + 0x14
/-- 0x2400+n:15 Raw secondary (R193 U32). -/
abbrev chanRawSecondary (n : Nat) : Nat := (0x2400 + n) * 256 + 0x15
/-- 0x2400+n:16 Raw ratio (R193 U32). -/
abbrev chanRawRatio (n : Nat) : Nat := (0x2400 + n) * 256 + 0x16
/-- 0x2400+n:17 Range now (R193 U8). -/
abbrev chanRangeNow (n : Nat) : Nat := (0x2400 + n) * 256 + 0x17
/-- 0x2400+n:18 Slot length, nominal (R193 U32). -/
abbrev chanSlotLengthNominal (n : Nat) : Nat := (0x2400 + n) * 256 + 0x18
/-- 0x2400+n:19 Slot length, maximum (R193 U32). -/
abbrev chanSlotLengthMaximum (n : Nat) : Nat := (0x2400 + n) * 256 + 0x19
/-- 0x2400+n:1A Last slot length (R193 U32). -/
abbrev chanLastSlotLength (n : Nat) : Nat := (0x2400 + n) * 256 + 0x1A
/-- 0x2400+n:1B Excitation duty (R193 U16). -/
abbrev chanExcitationDuty (n : Nat) : Nat := (0x2400 + n) * 256 + 0x1B
/-- 0x2400+n:1C Results (R193 U32). -/
abbrev chanResults (n : Nat) : Nat := (0x2400 + n) * 256 + 0x1C
/-- 0x2400+n:1D Retakes (R193 U32). -/
abbrev chanRetakes (n : Nat) : Nat := (0x2400 + n) * 256 + 0x1D
/-- 0x2400+n:1E Range changes (R193 U32). -/
abbrev chanRangeChanges (n : Nat) : Nat := (0x2400 + n) * 256 + 0x1E
/-- 0x2400+n:1F Blank delays (R193 U32). -/
abbrev chanBlankDelays (n : Nat) : Nat := (0x2400 + n) * 256 + 0x1F
/-- 0x2400+n:20 Missed due times (R193 U32). -/
abbrev chanMissedDueTimes (n : Nat) : Nat := (0x2400 + n) * 256 + 0x20
/-- 0x2400+n:30 Value (R218 F32). -/
abbrev chanValue (n : Nat) : Nat := (0x2400 + n) * 256 + 0x30
/-- 0x2400+n:31 Value, Q15 (R218 Q15). -/
abbrev chanValueQ15 (n : Nat) : Nat := (0x2400 + n) * 256 + 0x31
/-- 0x2400+n:32 Age (R218 U16). -/
abbrev chanAge (n : Nat) : Nat := (0x2400 + n) * 256 + 0x32
/-- 0x2400+n:33 State (R218 U8). -/
abbrev chanState (n : Nat) : Nat := (0x2400 + n) * 256 + 0x33
/-- 0x2400+n:34 Reasons (R218 U16). -/
abbrev chanReasons (n : Nat) : Nat := (0x2400 + n) * 256 + 0x34
/-- 0x2400+n:35 Hard count (R218 U8). -/
abbrev chanHardCount (n : Nat) : Nat := (0x2400 + n) * 256 + 0x35
/-- 0x2400+n:36 Clean count (R218 U8). -/
abbrev chanCleanCount (n : Nat) : Nat := (0x2400 + n) * 256 + 0x36
/-- 0x2400+n:37 Last measured value (R218 F32). -/
abbrev chanLastMeasuredValue (n : Nat) : Nat := (0x2400 + n) * 256 + 0x37
/-- 0x2400+n:38 BROKEN entries (R218 U32). -/
abbrev chanBROKENEntries (n : Nat) : Nat := (0x2400 + n) * 256 + 0x38
/-- 0x2400+n:39 Minimum (R218 F32). -/
abbrev chanMinimum (n : Nat) : Nat := (0x2400 + n) * 256 + 0x39
/-- 0x2400+n:3A Maximum (R218 F32). -/
abbrev chanMaximum (n : Nat) : Nat := (0x2400 + n) * 256 + 0x3A
/-- 0x2400+n:3B Linearisation errors (R218 U32). -/
abbrev chanLinearisationErrors (n : Nat) : Nat := (0x2400 + n) * 256 + 0x3B
/-- 0x2400+n:3C Clear statistics (R218 U8). -/
abbrev chanClearStatistics (n : Nat) : Nat := (0x2400 + n) * 256 + 0x3C
/-- 0x2400+n:3D Input quantity (R218 F32). -/
abbrev chanInputQuantity (n : Nat) : Nat := (0x2400 + n) * 256 + 0x3D
/-- 0x2400+n:3E Companion value used (R218 F32). -/
abbrev chanCompanionValueUsed (n : Nat) : Nat := (0x2400 + n) * 256 + 0x3E
/-- 0x2400+n:3F Result sequence (R218 U32). -/
abbrev chanResultSequence (n : Nat) : Nat := (0x2400 + n) * 256 + 0x3F
/-- 0x2480+n:01 First channel (R194 U8). -/
abbrev convFirstChannel (n : Nat) : Nat := (0x2480 + n) * 256 + 0x1
/-- 0x2480+n:02 Nominal load (R194 U16). -/
abbrev convNominalLoad (n : Nat) : Nat := (0x2480 + n) * 256 + 0x2
/-- 0x2480+n:03 Worst-case load (R194 U16). -/
abbrev convWorstCaseLoad (n : Nat) : Nat := (0x2480 + n) * 256 + 0x3
/-- 0x2480+n:04 Sum of slot maxima (R194 U32). -/
abbrev convSumOfSlotMaxima (n : Nat) : Nat := (0x2480 + n) * 256 + 0x4
/-- 0x2480+n:05 Core status (R194 U8). -/
abbrev convCoreStatus (n : Nat) : Nat := (0x2480 + n) * 256 + 0x5
/-- 0x2480+n:06 Slots (R194 U32). -/
abbrev convSlots (n : Nat) : Nat := (0x2480 + n) * 256 + 0x6
/-- 0x2480+n:07 Slots aborted (R194 U32). -/
abbrev convSlotsAborted (n : Nat) : Nat := (0x2480 + n) * 256 + 0x7
/-- 0x2480+n:08 Overranges (R194 U32). -/
abbrev convOverranges (n : Nat) : Nat := (0x2480 + n) * 256 + 0x8
/-- 0x2480+n:09 Reference check (R194 U8). -/
abbrev convReferenceCheck (n : Nat) : Nat := (0x2480 + n) * 256 + 0x9
/-- 0x2480+n:0A Reference error (R194 I32). -/
abbrev convReferenceError (n : Nat) : Nat := (0x2480 + n) * 256 + 0xA
/-- 0x2480+n:0B Clear counters (R194 U8). -/
abbrev convClearCounters (n : Nat) : Nat := (0x2480 + n) * 256 + 0xB
/-- 0x2500+n:01 Form (R217 U8). -/
abbrev coefForm (n : Nat) : Nat := (0x2500 + n) * 256 + 0x1
/-- 0x2500+n:02 IMP input word (R217 U8). -/
abbrev coefIMPInputWord (n : Nat) : Nat := (0x2500 + n) * 256 + 0x2
/-- 0x2500+n:03 Offset (R217 F32). -/
abbrev coefOffset (n : Nat) : Nat := (0x2500 + n) * 256 + 0x3
/-- 0x2500+n:04 Scale (R217 F32). -/
abbrev coefScale (n : Nat) : Nat := (0x2500 + n) * 256 + 0x4
/-- 0x2500+n:05 Unit (R217 U8). -/
abbrev coefUnit (n : Nat) : Nat := (0x2500 + n) * 256 + 0x5
/-- 0x2500+n:07 Q15 span low (R217 F32). -/
abbrev coefQ15SpanLow (n : Nat) : Nat := (0x2500 + n) * 256 + 0x7
/-- 0x2500+n:08 Q15 span high (R217 F32). -/
abbrev coefQ15SpanHigh (n : Nat) : Nat := (0x2500 + n) * 256 + 0x8
/-- 0x2500+n:09 Plausible low (R217 F32). -/
abbrev coefPlausibleLow (n : Nat) : Nat := (0x2500 + n) * 256 + 0x9
/-- 0x2500+n:0A Plausible high (R217 F32). -/
abbrev coefPlausibleHigh (n : Nat) : Nat := (0x2500 + n) * 256 + 0xA
/-- 0x2500+n:0B Rate limit (R217 F32). -/
abbrev coefRateLimit (n : Nat) : Nat := (0x2500 + n) * 256 + 0xB
/-- 0x2500+n:0C Lead check (R217 BOOL). -/
abbrev coefLeadCheck (n : Nat) : Nat := (0x2500 + n) * 256 + 0xC
/-- 0x2500+n:0D Confirmation count (R217 U8). -/
abbrev coefConfirmationCount (n : Nat) : Nat := (0x2500 + n) * 256 + 0xD
/-- 0x2500+n:0E Recovery count (R217 U8). -/
abbrev coefRecoveryCount (n : Nat) : Nat := (0x2500 + n) * 256 + 0xE
/-- 0x2500+n:0F Substitute mode (R217 U8). -/
abbrev coefSubstituteMode (n : Nat) : Nat := (0x2500 + n) * 256 + 0xF
/-- 0x2500+n:10 Companion fallback (R217 F32). -/
abbrev coefCompanionFallback (n : Nat) : Nat := (0x2500 + n) * 256 + 0x10
/-- 0x2500+n:11-24 Coefficients c00–c43 (R217 F32). -/
abbrev coefCoefficient (n : Nat) (i : Nat) : Nat := (0x2500 + n) * 256 + (0x11 + i)
/-- 0x2500+n:25 Substitute value (R217 F32). -/
abbrev coefSubstituteValue (n : Nat) : Nat := (0x2500 + n) * 256 + 0x25
/-- 0x2600+n:01 Enable (R259 BOOL). -/
abbrev loopEnable (n : Nat) : Nat := (0x2600 + n) * 256 + 0x1
/-- 0x2600+n:02 Run mode (R259 U8). -/
abbrev loopRunMode (n : Nat) : Nat := (0x2600 + n) * 256 + 0x2
/-- 0x2600+n:03 Mode command (R259 U8). -/
abbrev loopModeCommand (n : Nat) : Nat := (0x2600 + n) * 256 + 0x3
/-- 0x2600+n:04 Period (R259 U16). -/
abbrev loopPeriod (n : Nat) : Nat := (0x2600 + n) * 256 + 0x4
/-- 0x2600+n:05 Phase (R259 U16). -/
abbrev loopPhase (n : Nat) : Nat := (0x2600 + n) * 256 + 0x5
/-- 0x2600+n:06 PV source type (R259 U8). -/
abbrev loopPVSourceType (n : Nat) : Nat := (0x2600 + n) * 256 + 0x6
/-- 0x2600+n:07 PV source number (R259 U8). -/
abbrev loopPVSourceNumber (n : Nat) : Nat := (0x2600 + n) * 256 + 0x7
/-- 0x2600+n:08 SP source type (R259 U8). -/
abbrev loopSPSourceType (n : Nat) : Nat := (0x2600 + n) * 256 + 0x8
/-- 0x2600+n:09 SP source number (R259 U8). -/
abbrev loopSPSourceNumber (n : Nat) : Nat := (0x2600 + n) * 256 + 0x9
/-- 0x2600+n:0A FF source type (R259 U8). -/
abbrev loopFFSourceType (n : Nat) : Nat := (0x2600 + n) * 256 + 0xA
/-- 0x2600+n:0B FF source number (R259 U8). -/
abbrev loopFFSourceNumber (n : Nat) : Nat := (0x2600 + n) * 256 + 0xB
/-- 0x2600+n:0C PV dictionary object (R259 U32). -/
abbrev loopPVDictionaryObject (n : Nat) : Nat := (0x2600 + n) * 256 + 0xC
/-- 0x2600+n:0D SP dictionary object (R259 U32). -/
abbrev loopSPDictionaryObject (n : Nat) : Nat := (0x2600 + n) * 256 + 0xD
/-- 0x2600+n:0E FF dictionary object (R259 U32). -/
abbrev loopFFDictionaryObject (n : Nat) : Nat := (0x2600 + n) * 256 + 0xE
/-- 0x2600+n:0F Constant setpoint (R259 Q15). -/
abbrev loopConstantSetpoint (n : Nat) : Nat := (0x2600 + n) * 256 + 0xF
/-- 0x2600+n:10 Setpoint rate limit (R259 Q15). -/
abbrev loopSetpointRateLimit (n : Nat) : Nat := (0x2600 + n) * 256 + 0x10
/-- 0x2600+n:11 Kp (R259 Q15). -/
abbrev loopKp (n : Nat) : Nat := (0x2600 + n) * 256 + 0x11
/-- 0x2600+n:12 Kp shift (R259 U8). -/
abbrev loopKpShift (n : Nat) : Nat := (0x2600 + n) * 256 + 0x12
/-- 0x2600+n:13 Ki (R259 Q15). -/
abbrev loopKi (n : Nat) : Nat := (0x2600 + n) * 256 + 0x13
/-- 0x2600+n:14 Ki shift (R259 U8). -/
abbrev loopKiShift (n : Nat) : Nat := (0x2600 + n) * 256 + 0x14
/-- 0x2600+n:15 Kd (R259 Q15). -/
abbrev loopKd (n : Nat) : Nat := (0x2600 + n) * 256 + 0x15
/-- 0x2600+n:16 Kd shift (R259 U8). -/
abbrev loopKdShift (n : Nat) : Nat := (0x2600 + n) * 256 + 0x16
/-- 0x2600+n:17 Derivative filter α (R259 Q15). -/
abbrev loopDerivativeFilterAlpha (n : Nat) : Nat := (0x2600 + n) * 256 + 0x17
/-- 0x2600+n:18 Kff (R259 Q15). -/
abbrev loopKff (n : Nat) : Nat := (0x2600 + n) * 256 + 0x18
/-- 0x2600+n:19 Kff shift (R259 U8). -/
abbrev loopKffShift (n : Nat) : Nat := (0x2600 + n) * 256 + 0x19
/-- 0x2600+n:1A Imin (R259 Q15). -/
abbrev loopImin (n : Nat) : Nat := (0x2600 + n) * 256 + 0x1A
/-- 0x2600+n:1B Imax (R259 Q15). -/
abbrev loopImax (n : Nat) : Nat := (0x2600 + n) * 256 + 0x1B
/-- 0x2600+n:1C Umin (R259 Q15). -/
abbrev loopUmin (n : Nat) : Nat := (0x2600 + n) * 256 + 0x1C
/-- 0x2600+n:1D Umax (R259 Q15). -/
abbrev loopUmax (n : Nat) : Nat := (0x2600 + n) * 256 + 0x1D
/-- 0x2600+n:1E Output rate limit (R259 Q15). -/
abbrev loopOutputRateLimit (n : Nat) : Nat := (0x2600 + n) * 256 + 0x1E
/-- 0x2600+n:1F Safe output (R259 Q15). -/
abbrev loopSafeOutput (n : Nat) : Nat := (0x2600 + n) * 256 + 0x1F
/-- 0x2600+n:20 Destination type (R259 U8). -/
abbrev loopDestinationType (n : Nat) : Nat := (0x2600 + n) * 256 + 0x20
/-- 0x2600+n:21 Destination number (R259 U8). -/
abbrev loopDestinationNumber (n : Nat) : Nat := (0x2600 + n) * 256 + 0x21
/-- 0x2600+n:22 Destination dictionary object (R259 U32). -/
abbrev loopDestinationDictionaryObject (n : Nat) : Nat := (0x2600 + n) * 256 + 0x22
/-- 0x2600+n:23 FE limit (R259 Q15). -/
abbrev loopFELimit (n : Nat) : Nat := (0x2600 + n) * 256 + 0x23
/-- 0x2600+n:24 FE time (R259 U16). -/
abbrev loopFETime (n : Nat) : Nat := (0x2600 + n) * 256 + 0x24
/-- 0x2600+n:25 FE action (R259 U8). -/
abbrev loopFEAction (n : Nat) : Nat := (0x2600 + n) * 256 + 0x25
/-- 0x2600+n:26 Input age limit (R259 U16). -/
abbrev loopInputAgeLimit (n : Nat) : Nat := (0x2600 + n) * 256 + 0x26
/-- 0x2600+n:27 Input fault action (R259 U8). -/
abbrev loopInputFaultAction (n : Nat) : Nat := (0x2600 + n) * 256 + 0x27
/-- 0x2600+n:28 Partner loop (R259 U8). -/
abbrev loopPartnerLoop (n : Nat) : Nat := (0x2600 + n) * 256 + 0x28
/-- 0x2600+n:29 Manual output (R259 Q15). -/
abbrev loopManualOutput (n : Nat) : Nat := (0x2600 + n) * 256 + 0x29
/-- 0x2600+n:2A Hold request (R259 BOOL). -/
abbrev loopHoldRequest (n : Nat) : Nat := (0x2600 + n) * 256 + 0x2A
/-- 0x2600+n:2B Fault reset (R259 U8). -/
abbrev loopFaultReset (n : Nat) : Nat := (0x2600 + n) * 256 + 0x2B
/-- 0x2600+n:30 Status (R259 U16). -/
abbrev loopStatus (n : Nat) : Nat := (0x2600 + n) * 256 + 0x30
/-- 0x2600+n:31 Mode in force (R259 U8). -/
abbrev loopModeInForce (n : Nat) : Nat := (0x2600 + n) * 256 + 0x31
/-- 0x2600+n:32 Condition (R259 U8). -/
abbrev loopCondition (n : Nat) : Nat := (0x2600 + n) * 256 + 0x32
/-- 0x2600+n:33 Setpoint (R259 Q15). -/
abbrev loopSetpoint (n : Nat) : Nat := (0x2600 + n) * 256 + 0x33
/-- 0x2600+n:34 Process value (R259 Q15). -/
abbrev loopProcessValue (n : Nat) : Nat := (0x2600 + n) * 256 + 0x34
/-- 0x2600+n:35 Error (R259 Q15). -/
abbrev loopError (n : Nat) : Nat := (0x2600 + n) * 256 + 0x35
/-- 0x2600+n:36 P term (R259 Q15). -/
abbrev loopPTerm (n : Nat) : Nat := (0x2600 + n) * 256 + 0x36
/-- 0x2600+n:37 Integrator (R259 Q15). -/
abbrev loopIntegrator (n : Nat) : Nat := (0x2600 + n) * 256 + 0x37
/-- 0x2600+n:38 Derivative (R259 Q15). -/
abbrev loopDerivative (n : Nat) : Nat := (0x2600 + n) * 256 + 0x38
/-- 0x2600+n:39 Learner term (R259 Q15). -/
abbrev loopLearnerTerm (n : Nat) : Nat := (0x2600 + n) * 256 + 0x39
/-- 0x2600+n:3A FF term (R259 Q15). -/
abbrev loopFFTerm (n : Nat) : Nat := (0x2600 + n) * 256 + 0x3A
/-- 0x2600+n:3B Output before clamp (R259 Q15). -/
abbrev loopOutputBeforeClamp (n : Nat) : Nat := (0x2600 + n) * 256 + 0x3B
/-- 0x2600+n:3C Output (R259 Q15). -/
abbrev loopOutput (n : Nat) : Nat := (0x2600 + n) * 256 + 0x3C
/-- 0x2600+n:3D Output applied (R259 Q15). -/
abbrev loopOutputApplied (n : Nat) : Nat := (0x2600 + n) * 256 + 0x3D
/-- 0x2600+n:3E FE count (R259 U16). -/
abbrev loopFECount (n : Nat) : Nat := (0x2600 + n) * 256 + 0x3E
/-- 0x2600+n:3F Samples (R259 U32). -/
abbrev loopSamples (n : Nat) : Nat := (0x2600 + n) * 256 + 0x3F
/-- 0x2600+n:40 FE events (R259 U32). -/
abbrev loopFEEvents (n : Nat) : Nat := (0x2600 + n) * 256 + 0x40
/-- 0x2600+n:41 HOLD entries (R259 U32). -/
abbrev loopHOLDEntries (n : Nat) : Nat := (0x2600 + n) * 256 + 0x41
/-- 0x2600+n:42 Lockstep mismatches (R259 U32). -/
abbrev loopLockstepMismatches (n : Nat) : Nat := (0x2600 + n) * 256 + 0x42
/-- 0x2600+n:43 Last sample tick (R259 U32). -/
abbrev loopLastSampleTick (n : Nat) : Nat := (0x2600 + n) * 256 + 0x43
/-- 0x2600+n:44 Clear statistics (R259 U8). -/
abbrev loopClearStatistics (n : Nat) : Nat := (0x2600 + n) * 256 + 0x44
/-- 0x2680:01 Tick count, low (R261 U32). -/
abbrev bellowsTickCountLow : Nat := 0x2680 * 256 + 0x1
/-- 0x2680:02 Tick count, high (R261 U32). -/
abbrev bellowsTickCountHigh : Nat := 0x2680 * 256 + 0x2
/-- 0x2680:03 Loops enabled (R261 U8). -/
abbrev bellowsLoopsEnabled : Nat := 0x2680 * 256 + 0x3
/-- 0x2680:04 Busy cycles, last tick (R261 U16). -/
abbrev bellowsBusyCyclesLastTick : Nat := 0x2680 * 256 + 0x4
/-- 0x2680:05 Busy cycles, maximum (R261 U16). -/
abbrev bellowsBusyCyclesMaximum : Nat := 0x2680 * 256 + 0x5
/-- 0x2680:06 Global status (R261 U16). -/
abbrev bellowsGlobalStatus : Nat := 0x2680 * 256 + 0x6
/-- 0x2680:07 Mismatches (R261 U32). -/
abbrev bellowsMismatches : Nat := 0x2680 * 256 + 0x7
/-- 0x2680:08 Mismatches in window (R261 U8). -/
abbrev bellowsMismatchesInWindow : Nat := 0x2680 * 256 + 0x8
/-- 0x2680:09 ECC corrections (R261 U32). -/
abbrev bellowsECCCorrections : Nat := 0x2680 * 256 + 0x9
/-- 0x2680:0A ECC uncorrectable (R261 U32). -/
abbrev bellowsECCUncorrectable : Nat := 0x2680 * 256 + 0xA
/-- 0x2680:0B Self-check passes (R261 U32). -/
abbrev bellowsSelfCheckPasses : Nat := 0x2680 * 256 + 0xB
/-- 0x2680:0C Self-check failures (R261 U32). -/
abbrev bellowsSelfCheckFailures : Nat := 0x2680 * 256 + 0xC
/-- 0x2680:0D Clear counters (R261 U8). -/
abbrev bellowsClearCounters : Nat := 0x2680 * 256 + 0xD
/-- 0x2681:01 Command (R263 U8). -/
abbrev traceCommand : Nat := 0x2681 * 256 + 0x1
/-- 0x2681:02 State (R263 U8). -/
abbrev traceState : Nat := 0x2681 * 256 + 0x2
/-- 0x2681:03-06 Channel 0–3 select (R263 U16). -/
abbrev traceChannelSelect (i : Nat) : Nat := 0x2681 * 256 + (0x3 + i)
/-- 0x2681:07 Decimation (R263 U16). -/
abbrev traceDecimation : Nat := 0x2681 * 256 + 0x7
/-- 0x2681:08 Trigger type (R263 U8). -/
abbrev traceTriggerType : Nat := 0x2681 * 256 + 0x8
/-- 0x2681:09 Threshold channel (R263 U8). -/
abbrev traceThresholdChannel : Nat := 0x2681 * 256 + 0x9
/-- 0x2681:0A Threshold level (R263 Q15). -/
abbrev traceThresholdLevel : Nat := 0x2681 * 256 + 0xA
/-- 0x2681:0B Threshold edge (R263 U8). -/
abbrev traceThresholdEdge : Nat := 0x2681 * 256 + 0xB
/-- 0x2681:0C Trigger event source (R263 U8). -/
abbrev traceTriggerEventSource : Nat := 0x2681 * 256 + 0xC
/-- 0x2681:0D Pre-trigger (R263 U8). -/
abbrev tracePreTrigger : Nat := 0x2681 * 256 + 0xD
/-- 0x2681:0E Trigger tick, low (R263 U32). -/
abbrev traceTriggerTickLow : Nat := 0x2681 * 256 + 0xE
/-- 0x2681:0F Trigger tick, high (R263 U32). -/
abbrev traceTriggerTickHigh : Nat := 0x2681 * 256 + 0xF
/-- 0x2681:10 Trigger position (R263 U16). -/
abbrev traceTriggerPosition : Nat := 0x2681 * 256 + 0x10
/-- 0x2681:11 Data (R263 DOM). -/
abbrev traceData : Nat := 0x2681 * 256 + 0x11
/-- 0x2700+n:01 Learner enable (R286 BOOL). -/
abbrev learnLearnerEnable (n : Nat) : Nat := (0x2700 + n) * 256 + 0x1
/-- 0x2700+n:02 Period (R286 U16). -/
abbrev learnPeriod (n : Nat) : Nat := (0x2700 + n) * 256 + 0x2
/-- 0x2700+n:03 Pool offset (R286 U32). -/
abbrev learnPoolOffset (n : Nat) : Nat := (0x2700 + n) * 256 + 0x3
/-- 0x2700+n:04 Learning gain (R286 Q15). -/
abbrev learnLearningGain (n : Nat) : Nat := (0x2700 + n) * 256 + 0x4
/-- 0x2700+n:05 Q-filter centre (R286 Q15). -/
abbrev learnQFilterCentre (n : Nat) : Nat := (0x2700 + n) * 256 + 0x5
/-- 0x2700+n:06 Q-filter side (R286 Q15). -/
abbrev learnQFilterSide (n : Nat) : Nat := (0x2700 + n) * 256 + 0x6
/-- 0x2700+n:07 Phase lead (R286 U8). -/
abbrev learnPhaseLead (n : Nat) : Nat := (0x2700 + n) * 256 + 0x7
/-- 0x2700+n:08 Learner limit (R286 Q15). -/
abbrev learnLearnerLimit (n : Nat) : Nat := (0x2700 + n) * 256 + 0x8
/-- 0x2700+n:09 Index mode (R286 U8). -/
abbrev learnIndexMode (n : Nat) : Nat := (0x2700 + n) * 256 + 0x9
/-- 0x2700+n:0A Index input (R286 U8). -/
abbrev learnIndexInput (n : Nat) : Nat := (0x2700 + n) * 256 + 0xA
/-- 0x2700+n:0B Index tolerance (R286 U8). -/
abbrev learnIndexTolerance (n : Nat) : Nat := (0x2700 + n) * 256 + 0xB
/-- 0x2700+n:0C Clear memory (R286 U8). -/
abbrev learnClearMemory (n : Nat) : Nat := (0x2700 + n) * 256 + 0xC
/-- 0x2700+n:0D Hand-over ramp (R286 U16). -/
abbrev learnHandOverRamp (n : Nat) : Nat := (0x2700 + n) * 256 + 0xD
/-- 0x2700+n:10 Learner state (R286 U8). -/
abbrev learnLearnerState (n : Nat) : Nat := (0x2700 + n) * 256 + 0x10
/-- 0x2700+n:11 Index (R286 U16). -/
abbrev learnIndex (n : Nat) : Nat := (0x2700 + n) * 256 + 0x11
/-- 0x2700+n:12 Index pulses (R286 U32). -/
abbrev learnIndexPulses (n : Nat) : Nat := (0x2700 + n) * 256 + 0x12
/-- 0x2700+n:13 Index losses (R286 U32). -/
abbrev learnIndexLosses (n : Nat) : Nat := (0x2700 + n) * 256 + 0x13
/-- 0x2700+n:14 Learner memory (R286 DOM). -/
abbrev learnLearnerMemory (n : Nat) : Nat := (0x2700 + n) * 256 + 0x14
/-- 0x2700+n:20 Hand-over state (R286 U8). -/
abbrev learnHandOverState (n : Nat) : Nat := (0x2700 + n) * 256 + 0x20
/-- 0x2700+n:21 Last hand-over cause (R286 U8). -/
abbrev learnLastHandOverCause (n : Nat) : Nat := (0x2700 + n) * 256 + 0x21
/-- 0x2700+n:22 Last residual (R286 Q15). -/
abbrev learnLastResidual (n : Nat) : Nat := (0x2700 + n) * 256 + 0x22
/-- 0x2700+n:23 Hand-overs (R286 U32). -/
abbrev learnHandOvers (n : Nat) : Nat := (0x2700 + n) * 256 + 0x23
/-- 0x2700+n:24 Ramp active (R286 BOOL). -/
abbrev learnRampActive (n : Nat) : Nat := (0x2700 + n) * 256 + 0x24
/-- 0x3000:01 Peak in force (R332 U32). -/
abbrev kelsisPeakInForce : Nat := 0x3000 * 256 + 0x1
/-- 0x3000:02 Load limit (R332 U32). -/
abbrev kelsisLoadLimit : Nat := 0x3000 * 256 + 0x2
/-- 0x3000:03 Estimator load (R332 U32). -/
abbrev kelsisEstimatorLoad : Nat := 0x3000 * 256 + 0x3
/-- 0x3000:04 Predictor load (R332 U32). -/
abbrev kelsisPredictorLoad : Nat := 0x3000 * 256 + 0x4
/-- 0x3000:05 Total load (R332 U32). -/
abbrev kelsisTotalLoad : Nat := 0x3000 * 256 + 0x5
/-- 0x3000:06 Load share (R332 U16). -/
abbrev kelsisLoadShare : Nat := 0x3000 * 256 + 0x6
/-- 0x3000:07 Shedding stage (R332 U8). -/
abbrev kelsisSheddingStage : Nat := 0x3000 * 256 + 0x7
/-- 0x3000:08 Clean evaluations (R332 U8). -/
abbrev kelsisCleanEvaluations : Nat := 0x3000 * 256 + 0x8
/-- 0x3000:09 Overruns (R332 U32). -/
abbrev kelsisOverruns : Nat := 0x3000 * 256 + 0x9
/-- 0x3000:0A Stage changes (R332 U32). -/
abbrev kelsisStageChanges : Nat := 0x3000 * 256 + 0xA
/-- 0x3000:0B Global status (R332 U16). -/
abbrev kelsisGlobalStatus : Nat := 0x3000 * 256 + 0xB
/-- 0x3000:0C Busiest engine share (R332 U16). -/
abbrev kelsisBusiestEngineShare : Nat := 0x3000 * 256 + 0xC
/-- 0x3000:0D Table pressure (R332 F32). -/
abbrev kelsisTablePressure : Nat := 0x3000 * 256 + 0xD
/-- 0x3000:0E Clear counters (R332 U8). -/
abbrev kelsisClearCounters : Nat := 0x3000 * 256 + 0xE
/-- 0x3010+n:01 Enable (R334 BOOL). -/
abbrev colEnable (n : Nat) : Nat := (0x3010 + n) * 256 + 0x1
/-- 0x3010+n:02 Model type (R334 U8). -/
abbrev colModelType (n : Nat) : Nat := (0x3010 + n) * 256 + 0x2
/-- 0x3010+n:03 Layers (R334 U16). -/
abbrev colLayers (n : Nat) : Nat := (0x3010 + n) * 256 + 0x3
/-- 0x3010+n:04 Cells across (R334 U8). -/
abbrev colCellsAcross (n : Nat) : Nat := (0x3010 + n) * 256 + 0x4
/-- 0x3010+n:05 Members (R334 U8). -/
abbrev colMembers (n : Nat) : Nat := (0x3010 + n) * 256 + 0x5
/-- 0x3010+n:06 Step period (R334 U8). -/
abbrev colStepPeriod (n : Nat) : Nat := (0x3010 + n) * 256 + 0x6
/-- 0x3010+n:07 Grain type (R334 U8). -/
abbrev colGrainType (n : Nat) : Nat := (0x3010 + n) * 256 + 0x7
/-- 0x3010+n:08 Row pitch (R334 U8). -/
abbrev colRowPitch (n : Nat) : Nat := (0x3010 + n) * 256 + 0x8
/-- 0x3010+n:09 Section height (R334 F32). -/
abbrev colSectionHeight (n : Nat) : Nat := (0x3010 + n) * 256 + 0x9
/-- 0x3010+n:0A Column thickness (R334 F32). -/
abbrev colColumnThickness (n : Nat) : Nat := (0x3010 + n) * 256 + 0xA
/-- 0x3010+n:0B Face width (R334 F32). -/
abbrev colFaceWidth (n : Nat) : Nat := (0x3010 + n) * 256 + 0xB
/-- 0x3010+n:0C Localisation half-width (R334 U8). -/
abbrev colLocalisationHalfWidth (n : Nat) : Nat := (0x3010 + n) * 256 + 0xC
/-- 0x3010+n:0D Inflation (R334 F32). -/
abbrev colInflation (n : Nat) : Nat := (0x3010 + n) * 256 + 0xD
/-- 0x3010+n:0E Innovation gate (R334 F32). -/
abbrev colInnovationGate (n : Nat) : Nat := (0x3010 + n) * 256 + 0xE
/-- 0x3010+n:0F Innovation limit (R334 F32). -/
abbrev colInnovationLimit (n : Nat) : Nat := (0x3010 + n) * 256 + 0xF
/-- 0x3010+n:10 No-data time (R334 U16). -/
abbrev colNoDataTime (n : Nat) : Nat := (0x3010 + n) * 256 + 0x10
/-- 0x3010+n:11 Warm-up time (R334 U16). -/
abbrev colWarmUpTime (n : Nat) : Nat := (0x3010 + n) * 256 + 0x11
/-- 0x3010+n:12 Re-initialisation gap (R334 U16). -/
abbrev colReInitialisationGap (n : Nat) : Nat := (0x3010 + n) * 256 + 0x12
/-- 0x3010+n:13 Seed (R334 U32). -/
abbrev colSeed (n : Nat) : Nat := (0x3010 + n) * 256 + 0x13
/-- 0x3010+n:14 Reinitialise (R334 U8). -/
abbrev colReinitialise (n : Nat) : Nat := (0x3010 + n) * 256 + 0x14
/-- 0x3010+n:15 Forcing hold limit (R334 U16). -/
abbrev colForcingHoldLimit (n : Nat) : Nat := (0x3010 + n) * 256 + 0x15
/-- 0x3010+n:16-1D Forcing source f = 0–7 (R334 U16). -/
abbrev colForcingSource (n : Nat) (i : Nat) : Nat := (0x3010 + n) * 256 + (0x16 + i)
/-- 0x3010+n:1E Forcing constant, f = 0 (R334 F32). -/
abbrev colForcingConstantF0 (n : Nat) : Nat := (0x3010 + n) * 256 + 0x1E
/-- 0x3010+n:1F Forcing constant, f = 1 (R334 F32). -/
abbrev colForcingConstantF1 (n : Nat) : Nat := (0x3010 + n) * 256 + 0x1F
/-- 0x3010+n:20 Forcing constant, f = 2 (R334 F32). -/
abbrev colForcingConstantF2 (n : Nat) : Nat := (0x3010 + n) * 256 + 0x20
/-- 0x3010+n:21 Forcing constant, f = 3 (R334 F32). -/
abbrev colForcingConstantF3 (n : Nat) : Nat := (0x3010 + n) * 256 + 0x21
/-- 0x3010+n:22 Forcing constant or factor, f = 4 (R334 F32). -/
abbrev colForcingConstantF4 (n : Nat) : Nat := (0x3010 + n) * 256 + 0x22
/-- 0x3010+n:23 Forcing constant or factor, f = 5 (R334 F32). -/
abbrev colForcingConstantF5 (n : Nat) : Nat := (0x3010 + n) * 256 + 0x23
/-- 0x3010+n:24 Forcing constant, f = 6 (R334 F32). -/
abbrev colForcingConstantF6 (n : Nat) : Nat := (0x3010 + n) * 256 + 0x24
/-- 0x3010+n:25 Forcing constant, f = 7 (R334 F32). -/
abbrev colForcingConstantF7 (n : Nat) : Nat := (0x3010 + n) * 256 + 0x25
/-- 0x3010+n:26 Added humidity (R334 F32). -/
abbrev colAddedHumidity (n : Nat) : Nat := (0x3010 + n) * 256 + 0x26
/-- 0x3010+n:27 Initial moisture (R334 F32). -/
abbrev colInitialMoisture (n : Nat) : Nat := (0x3010 + n) * 256 + 0x27
/-- 0x3010+n:28 Initial moisture σ (R334 F32). -/
abbrev colInitialMoistureSigma (n : Nat) : Nat := (0x3010 + n) * 256 + 0x28
/-- 0x3010+n:29 Initial grain temperature (R334 F32). -/
abbrev colInitialGrainTemperature (n : Nat) : Nat := (0x3010 + n) * 256 + 0x29
/-- 0x3010+n:2A Initial temperature σ (R334 F32). -/
abbrev colInitialTemperatureSigma (n : Nat) : Nat := (0x3010 + n) * 256 + 0x2A
/-- 0x3010+n:2B Kinetics noise σ (R334 F32). -/
abbrev colKineticsNoiseSigma (n : Nat) : Nat := (0x3010 + n) * 256 + 0x2B
/-- 0x3010+n:2C Airflow noise σ (R334 F32). -/
abbrev colAirflowNoiseSigma (n : Nat) : Nat := (0x3010 + n) * 256 + 0x2C
/-- 0x3010+n:2D Entering air temperature noise σ (R334 F32). -/
abbrev colEnteringAirTemperatureNoiseSigma (n : Nat) : Nat := (0x3010 + n) * 256 + 0x2D
/-- 0x3010+n:2E Inlet moisture noise σ (R334 F32). -/
abbrev colInletMoistureNoiseSigma (n : Nat) : Nat := (0x3010 + n) * 256 + 0x2E
/-- 0x3010+n:2F Noise time constant (R334 U16). -/
abbrev colNoiseTimeConstant (n : Nat) : Nat := (0x3010 + n) * 256 + 0x2F
/-- 0x3010+n:40 Status (R334 U16). -/
abbrev colStatus (n : Nat) : Nat := (0x3010 + n) * 256 + 0x40
/-- 0x3010+n:41 Health reasons (R334 U16). -/
abbrev colHealthReasons (n : Nat) : Nat := (0x3010 + n) * 256 + 0x41
/-- 0x3010+n:42 Outlet moisture (R334 F32). -/
abbrev colOutletMoisture (n : Nat) : Nat := (0x3010 + n) * 256 + 0x42
/-- 0x3010+n:43 Outlet moisture σ (R334 F32). -/
abbrev colOutletMoistureSigma (n : Nat) : Nat := (0x3010 + n) * 256 + 0x43
/-- 0x3010+n:44 Outlet grain temperature (R334 F32). -/
abbrev colOutletGrainTemperature (n : Nat) : Nat := (0x3010 + n) * 256 + 0x44
/-- 0x3010+n:45 Maximum grain temperature (R334 F32). -/
abbrev colMaximumGrainTemperature (n : Nat) : Nat := (0x3010 + n) * 256 + 0x45
/-- 0x3010+n:46 Maximum location (R334 U16). -/
abbrev colMaximumLocation (n : Nat) : Nat := (0x3010 + n) * 256 + 0x46
/-- 0x3010+n:47 Heat per kg water (R334 F32). -/
abbrev colHeatPerKgWater (n : Nat) : Nat := (0x3010 + n) * 256 + 0x47
/-- 0x3010+n:48 Water removal rate (R334 F32). -/
abbrev colWaterRemovalRate (n : Nat) : Nat := (0x3010 + n) * 256 + 0x48
/-- 0x3010+n:49 Innovation mean (R334 F32). -/
abbrev colInnovationMean (n : Nat) : Nat := (0x3010 + n) * 256 + 0x49
/-- 0x3010+n:4A Last step (R334 U32). -/
abbrev colLastStep (n : Nat) : Nat := (0x3010 + n) * 256 + 0x4A
/-- 0x3010+n:4B Steps (R334 U32). -/
abbrev colSteps (n : Nat) : Nat := (0x3010 + n) * 256 + 0x4B
/-- 0x3010+n:4C Overruns (R334 U32). -/
abbrev colOverruns (n : Nat) : Nat := (0x3010 + n) * 256 + 0x4C
/-- 0x3010+n:4D Members in force (R334 U8). -/
abbrev colMembersInForce (n : Nat) : Nat := (0x3010 + n) * 256 + 0x4D
/-- 0x3010+n:4E Pending steps (R334 U8). -/
abbrev colPendingSteps (n : Nat) : Nat := (0x3010 + n) * 256 + 0x4E
/-- 0x3010+n:4F Assimilated (R334 U32). -/
abbrev colAssimilated (n : Nat) : Nat := (0x3010 + n) * 256 + 0x4F
/-- 0x3010+n:50 Rejected (R334 U32). -/
abbrev colRejected (n : Nat) : Nat := (0x3010 + n) * 256 + 0x50
/-- 0x3010+n:51 Too old (R334 U32). -/
abbrev colTooOld (n : Nat) : Nat := (0x3010 + n) * 256 + 0x51
/-- 0x3010+n:52 Member replacements (R334 U32). -/
abbrev colMemberReplacements (n : Nat) : Nat := (0x3010 + n) * 256 + 0x52
/-- 0x3010+n:53 Lookups clamped (R334 U32). -/
abbrev colLookupsClamped (n : Nat) : Nat := (0x3010 + n) * 256 + 0x53
/-- 0x3010+n:54 LAB timestamp (R334 U32). -/
abbrev colLABTimestamp (n : Nat) : Nat := (0x3010 + n) * 256 + 0x54
/-- 0x3010+n:55 LAB value (R334 F32). -/
abbrev colLABValue (n : Nat) : Nat := (0x3010 + n) * 256 + 0x55
/-- 0x3010+n:56 LAB queue (R334 U8). -/
abbrev colLABQueue (n : Nat) : Nat := (0x3010 + n) * 256 + 0x56
/-- 0x3010+n:57 Clear statistics (R334 U8). -/
abbrev colClearStatistics (n : Nat) : Nat := (0x3010 + n) * 256 + 0x57
/-- 0x3010+n:60-7F Binding word b (R334 U32). -/
abbrev colBindingWord (n : Nat) (i : Nat) : Nat := (0x3010 + n) * 256 + (0x60 + i)
/-- 0x3010+n:80-9F Binding σ b (R334 F32). -/
abbrev colBindingSigma (n : Nat) (i : Nat) : Nat := (0x3010 + n) * 256 + (0x80 + i)
/-- 0x3010+n:A0-BF Binding delay b (R334 U16). -/
abbrev colBindingDelay (n : Nat) (i : Nat) : Nat := (0x3010 + n) * 256 + (0xA0 + i)
/-- 0x3010+n:C0-DF Last ν of binding b (R334 F32). -/
abbrev colBindingLastNu (n : Nat) (i : Nat) : Nat := (0x3010 + n) * 256 + (0xC0 + i)
/-- 0x3020:01 Builder state (R337 U8). -/
abbrev tablesBuilderState : Nat := 0x3020 * 256 + 0x1
/-- 0x3020:02 Grain type building (R337 U8). -/
abbrev tablesGrainTypeBuilding : Nat := 0x3020 * 256 + 0x2
/-- 0x3020:03 Builds (R337 U32). -/
abbrev tablesBuilds : Nat := 0x3020 * 256 + 0x3
/-- 0x3020:04 Build failures (R337 U32). -/
abbrev tablesBuildFailures : Nat := 0x3020 * 256 + 0x4
/-- 0x3020:05 Last build time (R337 U32). -/
abbrev tablesLastBuildTime : Nat := 0x3020 * 256 + 0x5
/-- 0x3020:06 Tables in force (R337 U16). -/
abbrev tablesTablesInForce : Nat := 0x3020 * 256 + 0x6
/-- 0x3020:07 Rebuild (R337 U8). -/
abbrev tablesRebuild : Nat := 0x3020 * 256 + 0x7
/-- 0x3020:08 File entries (R337 U8). -/
abbrev tablesFileEntries : Nat := 0x3020 * 256 + 0x8
/-- 0x3020:09 File directory (R337 DOM). -/
abbrev tablesFileDirectory : Nat := 0x3020 * 256 + 0x9
/-- 0x3020:0A File image (R337 DOM). -/
abbrev tablesFileImage : Nat := 0x3020 * 256 + 0xA
/-- 0x3040+n:01 Name (R338 VIS). -/
abbrev grainName (n : Nat) : Nat := (0x3040 + n) * 256 + 0x1
/-- 0x3040+n:02 Equilibrium form (R338 U8). -/
abbrev grainEquilibriumForm (n : Nat) : Nat := (0x3040 + n) * 256 + 0x2
/-- 0x3040+n:03-05 e1, e2, e3 (R338 F32). -/
abbrev grainE (n : Nat) (i : Nat) : Nat := (0x3040 + n) * 256 + (0x3 + i)
/-- 0x3040+n:06 Kinetic form (R338 U8). -/
abbrev grainKineticForm (n : Nat) : Nat := (0x3040 + n) * 256 + 0x6
/-- 0x3040+n:07 k1 (R338 F32). -/
abbrev grainK1 (n : Nat) : Nat := (0x3040 + n) * 256 + 0x7
/-- 0x3040+n:08 k2 (R338 F32). -/
abbrev grainK2 (n : Nat) : Nat := (0x3040 + n) * 256 + 0x8
/-- 0x3040+n:09 k3 (R338 F32). -/
abbrev grainK3 (n : Nat) : Nat := (0x3040 + n) * 256 + 0x9
/-- 0x3040+n:0A k4 (R338 F32). -/
abbrev grainK4 (n : Nat) : Nat := (0x3040 + n) * 256 + 0xA
/-- 0x3040+n:0B Specific heat of dry matter (R338 F32). -/
abbrev grainSpecificHeatOfDryMatter (n : Nat) : Nat := (0x3040 + n) * 256 + 0xB
/-- 0x3040+n:0C Dry bulk density (R338 F32). -/
abbrev grainDryBulkDensity (n : Nat) : Nat := (0x3040 + n) * 256 + 0xC
/-- 0x3040+n:0D Heat-transfer coefficient (R338 F32). -/
abbrev grainHeatTransferCoefficient (n : Nat) : Nat := (0x3040 + n) * 256 + 0xD
/-- 0x3040+n:0E Latent heat factor (R338 F32). -/
abbrev grainLatentHeatFactor (n : Nat) : Nat := (0x3040 + n) * 256 + 0xE
/-- 0x3040+n:0F Grain temperature limit (R338 F32). -/
abbrev grainGrainTemperatureLimit (n : Nat) : Nat := (0x3040 + n) * 256 + 0xF
/-- 0x3040+n:10 Load from file (R338 U8). -/
abbrev grainLoadFromFile (n : Nat) : Nat := (0x3040 + n) * 256 + 0x10
/-- 0x3040+n:11 Check value (R338 U32). -/
abbrev grainCheckValue (n : Nat) : Nat := (0x3040 + n) * 256 + 0x11
/-- 0x3040+n:12 Table state (R338 U8). -/
abbrev grainTableState (n : Nat) : Nat := (0x3040 + n) * 256 + 0x12
/-- 0x3060:10 Upstream kind (R339 U8). -/
abbrev boundUpstreamKind (n : Nat) : Nat := 0x3060 * 256 + (16 * (n + 1) + 0x0)
/-- 0x3060:11 Upstream column (R339 U8). -/
abbrev boundUpstreamColumn (n : Nat) : Nat := 0x3060 * 256 + (16 * (n + 1) + 0x1)
/-- 0x3060:12 Upstream address (R339 U32). -/
abbrev boundUpstreamAddress (n : Nat) : Nat := 0x3060 * 256 + (16 * (n + 1) + 0x2)
/-- 0x3060:13 Downstream address (R339 U32). -/
abbrev boundDownstreamAddress (n : Nat) : Nat := 0x3060 * 256 + (16 * (n + 1) + 0x3)
/-- 0x3060:14 Downstream column (R339 U8). -/
abbrev boundDownstreamColumn (n : Nat) : Nat := 0x3060 * 256 + (16 * (n + 1) + 0x4)
/-- 0x3060:15 Fallback moisture channel (R339 U8). -/
abbrev boundFallbackMoistureChannel (n : Nat) : Nat := 0x3060 * 256 + (16 * (n + 1) + 0x5)
/-- 0x3060:16 Fallback temperature channel (R339 U8). -/
abbrev boundFallbackTemperatureChannel (n : Nat) : Nat := 0x3060 * 256 + (16 * (n + 1) + 0x6)
/-- 0x3060:17 Link state (R339 U8). -/
abbrev boundLinkState (n : Nat) : Nat := 0x3060 * 256 + (16 * (n + 1) + 0x7)
/-- 0x3060:18 Consecutive stale steps (R339 U8). -/
abbrev boundConsecutiveStaleSteps (n : Nat) : Nat := 0x3060 * 256 + (16 * (n + 1) + 0x8)
/-- 0x3060:19 Stale steps (R339 U32). -/
abbrev boundStaleSteps (n : Nat) : Nat := 0x3060 * 256 + (16 * (n + 1) + 0x9)
/-- 0x3060:1A Messages accepted (R339 U32). -/
abbrev boundMessagesAccepted (n : Nat) : Nat := 0x3060 * 256 + (16 * (n + 1) + 0xA)
/-- 0x3060:1B Messages discarded (R339 U32). -/
abbrev boundMessagesDiscarded (n : Nat) : Nat := 0x3060 * 256 + (16 * (n + 1) + 0xB)
/-- 0x3060:1C GAP messages (R339 U32). -/
abbrev boundGAPMessages (n : Nat) : Nat := 0x3060 * 256 + (16 * (n + 1) + 0xC)
/-- 0x3060:1D Last step received (R339 U32). -/
abbrev boundLastStepReceived (n : Nat) : Nat := 0x3060 * 256 + (16 * (n + 1) + 0xD)
/-- 0x3060:1E Consecutive held transports (R339 U8). -/
abbrev boundConsecutiveHeldTransports (n : Nat) : Nat := 0x3060 * 256 + (16 * (n + 1) + 0xE)
/-- 0x3070:01 Column (R340 U8). -/
abbrev mapColumn : Nat := 0x3070 * 256 + 0x1
/-- 0x3070:02 Statistic (R340 U8). -/
abbrev mapStatistic : Nat := 0x3070 * 256 + 0x2
/-- 0x3070:03 Member (R340 U8). -/
abbrev mapMember : Nat := 0x3070 * 256 + 0x3
/-- 0x3070:04 Quantity (R340 U8). -/
abbrev mapQuantity : Nat := 0x3070 * 256 + 0x4
/-- 0x3070:05 Snapshot (R340 U8). -/
abbrev mapSnapshot : Nat := 0x3070 * 256 + 0x5
/-- 0x3070:06 Snapshot state (R340 U8). -/
abbrev mapSnapshotState : Nat := 0x3070 * 256 + 0x6
/-- 0x3070:07 Snapshot step (R340 U32). -/
abbrev mapSnapshotStep : Nat := 0x3070 * 256 + 0x7
/-- 0x3070:08 Layer cursor (R340 U16). -/
abbrev mapLayerCursor : Nat := 0x3070 * 256 + 0x8
/-- 0x3070:09 Snapshot layers (R340 U16). -/
abbrev mapSnapshotLayers : Nat := 0x3070 * 256 + 0x9
/-- 0x3070:0A Snapshot cells (R340 U8). -/
abbrev mapSnapshotCells : Nat := 0x3070 * 256 + 0xA
/-- 0x3070:10-1F Cell 0–15 (R340 F32). -/
abbrev mapCell (i : Nat) : Nat := 0x3070 * 256 + (0x10 + i)
/-- 0x3070:20 Map (R340 DOM). -/
abbrev mapMap : Nat := 0x3070 * 256 + 0x20
/-- 0x3100:01 Predictors running (R364 U8). -/
abbrev predgPredictorsRunning : Nat := 0x3100 * 256 + 0x1
/-- 0x3100:02 Shortest update interval (R364 U8). -/
abbrev predgShortestUpdateInterval : Nat := 0x3100 * 256 + 0x2
/-- 0x3100:03 Sub-ensemble divisor (R364 U8). -/
abbrev predgSubEnsembleDivisor : Nat := 0x3100 * 256 + 0x3
/-- 0x3100:04 Candidates in force (R364 U8). -/
abbrev predgCandidatesInForce : Nat := 0x3100 * 256 + 0x4
/-- 0x3100:05 Horizon halved (R364 BOOL). -/
abbrev predgHorizonHalved : Nat := 0x3100 * 256 + 0x5
/-- 0x3100:06 Updates (R364 U32). -/
abbrev predgUpdates : Nat := 0x3100 * 256 + 0x6
/-- 0x3100:07 Abandoned updates (R364 U32). -/
abbrev predgAbandonedUpdates : Nat := 0x3100 * 256 + 0x7
/-- 0x3100:08 Feedback entries (R364 U32). -/
abbrev predgFeedbackEntries : Nat := 0x3100 * 256 + 0x8
/-- 0x3100:09 Clear counters (R364 U8). -/
abbrev predgClearCounters : Nat := 0x3100 * 256 + 0x9
/-- 0x3110+n:01 Enable (R365 BOOL). -/
abbrev predEnable (n : Nat) : Nat := (0x3110 + n) * 256 + 0x1
/-- 0x3110+n:02 Mode (R365 U8). -/
abbrev predMode (n : Nat) : Nat := (0x3110 + n) * 256 + 0x2
/-- 0x3110+n:03 Update interval (R365 U8). -/
abbrev predUpdateInterval (n : Nat) : Nat := (0x3110 + n) * 256 + 0x3
/-- 0x3110+n:04 Horizon (R365 U16). -/
abbrev predHorizon (n : Nat) : Nat := (0x3110 + n) * 256 + 0x4
/-- 0x3110+n:05 Block 2 end (R365 U16). -/
abbrev predBlock2End (n : Nat) : Nat := (0x3110 + n) * 256 + 0x5
/-- 0x3110+n:06 Sub-ensemble (R365 U8). -/
abbrev predSubEnsemble (n : Nat) : Nat := (0x3110 + n) * 256 + 0x6
/-- 0x3110+n:07 Moisture target (R365 F32). -/
abbrev predMoistureTarget (n : Nat) : Nat := (0x3110 + n) * 256 + 0x7
/-- 0x3110+n:08 Risk weight (R365 F32). -/
abbrev predRiskWeight (n : Nat) : Nat := (0x3110 + n) * 256 + 0x8
/-- 0x3110+n:09 Moisture weight (R365 F32). -/
abbrev predMoistureWeight (n : Nat) : Nat := (0x3110 + n) * 256 + 0x9
/-- 0x3110+n:0A Heat weight (R365 F32). -/
abbrev predHeatWeight (n : Nat) : Nat := (0x3110 + n) * 256 + 0xA
/-- 0x3110+n:0B Discharge move weight (R365 F32). -/
abbrev predDischargeMoveWeight (n : Nat) : Nat := (0x3110 + n) * 256 + 0xB
/-- 0x3110+n:0C Temperature move weight (R365 F32). -/
abbrev predTemperatureMoveWeight (n : Nat) : Nat := (0x3110 + n) * 256 + 0xC
/-- 0x3110+n:0D Discharge grid step (R365 F32). -/
abbrev predDischargeGridStep (n : Nat) : Nat := (0x3110 + n) * 256 + 0xD
/-- 0x3110+n:0E Temperature grid step (R365 F32). -/
abbrev predTemperatureGridStep (n : Nat) : Nat := (0x3110 + n) * 256 + 0xE
/-- 0x3110+n:0F Discharge minimum (R365 F32). -/
abbrev predDischargeMinimum (n : Nat) : Nat := (0x3110 + n) * 256 + 0xF
/-- 0x3110+n:10 Discharge maximum (R365 F32). -/
abbrev predDischargeMaximum (n : Nat) : Nat := (0x3110 + n) * 256 + 0x10
/-- 0x3110+n:11 Temperature minimum (R365 F32). -/
abbrev predTemperatureMinimum (n : Nat) : Nat := (0x3110 + n) * 256 + 0x11
/-- 0x3110+n:12 Temperature maximum (R365 F32). -/
abbrev predTemperatureMaximum (n : Nat) : Nat := (0x3110 + n) * 256 + 0x12
/-- 0x3110+n:13 Discharge span low (R365 F32). -/
abbrev predDischargeSpanLow (n : Nat) : Nat := (0x3110 + n) * 256 + 0x13
/-- 0x3110+n:14 Discharge span high (R365 F32). -/
abbrev predDischargeSpanHigh (n : Nat) : Nat := (0x3110 + n) * 256 + 0x14
/-- 0x3110+n:15 Temperature span low (R365 F32). -/
abbrev predTemperatureSpanLow (n : Nat) : Nat := (0x3110 + n) * 256 + 0x15
/-- 0x3110+n:16 Temperature span high (R365 F32). -/
abbrev predTemperatureSpanHigh (n : Nat) : Nat := (0x3110 + n) * 256 + 0x16
/-- 0x3110+n:17 Discharge response time (R365 U16). -/
abbrev predDischargeResponseTime (n : Nat) : Nat := (0x3110 + n) * 256 + 0x17
/-- 0x3110+n:18 Plenum response time (R365 U16). -/
abbrev predPlenumResponseTime (n : Nat) : Nat := (0x3110 + n) * 256 + 0x18
/-- 0x3110+n:19 Discharge loop (R365 U8). -/
abbrev predDischargeLoop (n : Nat) : Nat := (0x3110 + n) * 256 + 0x19
/-- 0x3110+n:1A Plenum loop (R365 U8). -/
abbrev predPlenumLoop (n : Nat) : Nat := (0x3110 + n) * 256 + 0x1A
/-- 0x3110+n:1B Feedback loop, discharge (R365 U8). -/
abbrev predFeedbackLoopDischarge (n : Nat) : Nat := (0x3110 + n) * 256 + 0x1B
/-- 0x3110+n:1C Feedback loop, plenum (R365 U8). -/
abbrev predFeedbackLoopPlenum (n : Nat) : Nat := (0x3110 + n) * 256 + 0x1C
/-- 0x3110+n:1D Fallback mask (R365 U16). -/
abbrev predFallbackMask (n : Nat) : Nat := (0x3110 + n) * 256 + 0x1D
/-- 0x3110+n:1E Return mode (R365 U8). -/
abbrev predReturnMode (n : Nat) : Nat := (0x3110 + n) * 256 + 0x1E
/-- 0x3110+n:1F Healthy time (R365 U16). -/
abbrev predHealthyTime (n : Nat) : Nat := (0x3110 + n) * 256 + 0x1F
/-- 0x3110+n:20 Command (R365 U8). -/
abbrev predCommand (n : Nat) : Nat := (0x3110 + n) * 256 + 0x20
/-- 0x3110+n:21 Cooling time (R365 U16). -/
abbrev predCoolingTime (n : Nat) : Nat := (0x3110 + n) * 256 + 0x21
/-- 0x3110+n:22 Fan airflow (R365 F32). -/
abbrev predFanAirflow (n : Nat) : Nat := (0x3110 + n) * 256 + 0x22
/-- 0x3110+n:23 Fan temperature rise (R365 F32). -/
abbrev predFanTemperatureRise (n : Nat) : Nat := (0x3110 + n) * 256 + 0x23
/-- 0x3110+n:24 Fan power (R365 F32). -/
abbrev predFanPower (n : Nat) : Nat := (0x3110 + n) * 256 + 0x24
/-- 0x3110+n:25 BIN hysteresis (R365 F32). -/
abbrev predBINHysteresis (n : Nat) : Nat := (0x3110 + n) * 256 + 0x25
/-- 0x3110+n:26 Minimum window (R365 U16). -/
abbrev predMinimumWindow (n : Nat) : Nat := (0x3110 + n) * 256 + 0x26
/-- 0x3110+n:27 Fan-on value (R365 Q15). -/
abbrev predFanOnValue (n : Nat) : Nat := (0x3110 + n) * 256 + 0x27
/-- 0x3110+n:30 State (R365 U8). -/
abbrev predState (n : Nat) : Nat := (0x3110 + n) * 256 + 0x30
/-- 0x3110+n:31 Status (R365 U16). -/
abbrev predStatus (n : Nat) : Nat := (0x3110 + n) * 256 + 0x31
/-- 0x3110+n:32 Chosen candidate (R365 U8). -/
abbrev predChosenCandidate (n : Nat) : Nat := (0x3110 + n) * 256 + 0x32
/-- 0x3110+n:33 Chosen cost (R365 F32). -/
abbrev predChosenCost (n : Nat) : Nat := (0x3110 + n) * 256 + 0x33
/-- 0x3110+n:34-39 Plan q, T of blocks 1–3 (R365 F32). -/
abbrev predPlan (n : Nat) (i : Nat) : Nat := (0x3110 + n) * 256 + (0x34 + i)
/-- 0x3110+n:3A Predicted outlet moisture (R365 F32). -/
abbrev predPredictedOutletMoisture (n : Nat) : Nat := (0x3110 + n) * 256 + 0x3A
/-- 0x3110+n:3B Predicted outlet σ (R365 F32). -/
abbrev predPredictedOutletSigma (n : Nat) : Nat := (0x3110 + n) * 256 + 0x3B
/-- 0x3110+n:3C Predicted maximum grain temperature (R365 F32). -/
abbrev predPredictedMaximumGrainTemperature (n : Nat) : Nat := (0x3110 + n) * 256 + 0x3C
/-- 0x3110+n:3D Discarded candidates (R365 U8). -/
abbrev predDiscardedCandidates (n : Nat) : Nat := (0x3110 + n) * 256 + 0x3D
/-- 0x3110+n:3E Time to target (R365 U32). -/
abbrev predTimeToTarget (n : Nat) : Nat := (0x3110 + n) * 256 + 0x3E
/-- 0x3110+n:3F Last update step (R365 U32). -/
abbrev predLastUpdateStep (n : Nat) : Nat := (0x3110 + n) * 256 + 0x3F
/-- 0x3110+n:40 Updates (R365 U32). -/
abbrev predUpdates (n : Nat) : Nat := (0x3110 + n) * 256 + 0x40
/-- 0x3110+n:41 Abandoned updates (R365 U32). -/
abbrev predAbandonedUpdates (n : Nat) : Nat := (0x3110 + n) * 256 + 0x41
/-- 0x3110+n:42 Feedback entries (R365 U32). -/
abbrev predFeedbackEntries (n : Nat) : Nat := (0x3110 + n) * 256 + 0x42
/-- 0x3110+n:43 Healthy time elapsed (R365 U16). -/
abbrev predHealthyTimeElapsed (n : Nat) : Nat := (0x3110 + n) * 256 + 0x43
/-- 0x3110+n:44 Reasons at last entry (R365 U16). -/
abbrev predReasonsAtLastEntry (n : Nat) : Nat := (0x3110 + n) * 256 + 0x44
/-- 0x3110+n:45 Candidate costs (R365 DOM). -/
abbrev predCandidateCosts (n : Nat) : Nat := (0x3110 + n) * 256 + 0x45
/-- 0x2800+n:01 Mode (R397 U8). -/
abbrev actMode (n : Nat) : Nat := (0x2800 + n) * 256 + 0x1
/-- 0x2800+n:02 Command (R397 U8). -/
abbrev actCommand (n : Nat) : Nat := (0x2800 + n) * 256 + 0x2
/-- 0x2800+n:03 Class (R397 U8). -/
abbrev actClass (n : Nat) : Nat := (0x2800 + n) * 256 + 0x3
/-- 0x2800+n:04 Parallel (R397 BOOL). -/
abbrev actParallel (n : Nat) : Nat := (0x2800 + n) * 256 + 0x4
/-- 0x2800+n:05 Peak current (R397 U16). -/
abbrev actPeakCurrent (n : Nat) : Nat := (0x2800 + n) * 256 + 0x5
/-- 0x2800+n:06 Hold current (R397 U16). -/
abbrev actHoldCurrent (n : Nat) : Nat := (0x2800 + n) * 256 + 0x6
/-- 0x2800+n:07 Peak dwell (R397 U16). -/
abbrev actPeakDwell (n : Nat) : Nat := (0x2800 + n) * 256 + 0x7
/-- 0x2800+n:08 Chop frequency (R397 U8). -/
abbrev actChopFrequency (n : Nat) : Nat := (0x2800 + n) * 256 + 0x8
/-- 0x2800+n:09 Peak time minimum (R397 U32). -/
abbrev actPeakTimeMinimum (n : Nat) : Nat := (0x2800 + n) * 256 + 0x9
/-- 0x2800+n:0A Peak time maximum (R397 U32). -/
abbrev actPeakTimeMaximum (n : Nat) : Nat := (0x2800 + n) * 256 + 0xA
/-- 0x2800+n:0B Movement window start (R397 U32). -/
abbrev actMovementWindowStart (n : Nat) : Nat := (0x2800 + n) * 256 + 0xB
/-- 0x2800+n:0C Movement window end (R397 U32). -/
abbrev actMovementWindowEnd (n : Nat) : Nat := (0x2800 + n) * 256 + 0xC
/-- 0x2800+n:0D Dip threshold (R397 U16). -/
abbrev actDipThreshold (n : Nat) : Nat := (0x2800 + n) * 256 + 0xD
/-- 0x2800+n:0E Movement action (R397 U8). -/
abbrev actMovementAction (n : Nat) : Nat := (0x2800 + n) * 256 + 0xE
/-- 0x2800+n:0F Maximum on-time (R397 U32). -/
abbrev actMaximumOnTime (n : Nat) : Nat := (0x2800 + n) * 256 + 0xF
/-- 0x2800+n:10 Pulse time (R397 U32). -/
abbrev actPulseTime (n : Nat) : Nat := (0x2800 + n) * 256 + 0x10
/-- 0x2800+n:11 Duty window (R397 U16). -/
abbrev actDutyWindow (n : Nat) : Nat := (0x2800 + n) * 256 + 0x11
/-- 0x2800+n:12 Duty limit (R397 U8). -/
abbrev actDutyLimit (n : Nat) : Nat := (0x2800 + n) * 256 + 0x12
/-- 0x2800+n:13 Duty hysteresis (R397 U8). -/
abbrev actDutyHysteresis (n : Nat) : Nat := (0x2800 + n) * 256 + 0x13
/-- 0x2800+n:14 Deferral maximum (R397 U8). -/
abbrev actDeferralMaximum (n : Nat) : Nat := (0x2800 + n) * 256 + 0x14
/-- 0x2800+n:15 Coil inductance (R397 F32). -/
abbrev actCoilInductance (n : Nat) : Nat := (0x2800 + n) * 256 + 0x15
/-- 0x2800+n:16 Safe state (R397 U8). -/
abbrev actSafeState (n : Nat) : Nat := (0x2800 + n) * 256 + 0x16
/-- 0x2800+n:17 Proportional setpoint (R397 Q15). -/
abbrev actProportionalSetpoint (n : Nat) : Nat := (0x2800 + n) * 256 + 0x17
/-- 0x2800+n:18 Maximum blank duration (R397 U16). -/
abbrev actMaximumBlankDuration (n : Nat) : Nat := (0x2800 + n) * 256 + 0x18
/-- 0x2800+n:19 Fault reset (R397 U8). -/
abbrev actFaultReset (n : Nat) : Nat := (0x2800 + n) * 256 + 0x19
/-- 0x2800+n:20 State (R397 U8). -/
abbrev actState (n : Nat) : Nat := (0x2800 + n) * 256 + 0x20
/-- 0x2800+n:21 Status (R397 U16). -/
abbrev actStatus (n : Nat) : Nat := (0x2800 + n) * 256 + 0x21
/-- 0x2800+n:22 Current (R397 U16). -/
abbrev actCurrent (n : Nat) : Nat := (0x2800 + n) * 256 + 0x22
/-- 0x2800+n:23 Last rise time (R397 U32). -/
abbrev actLastRiseTime (n : Nat) : Nat := (0x2800 + n) * 256 + 0x23
/-- 0x2800+n:24 Last movement time (R397 U32). -/
abbrev actLastMovementTime (n : Nat) : Nat := (0x2800 + n) * 256 + 0x24
/-- 0x2800+n:25 Last decay time (R397 U32). -/
abbrev actLastDecayTime (n : Nat) : Nat := (0x2800 + n) * 256 + 0x25
/-- 0x2800+n:26 Last deferral (R397 U32). -/
abbrev actLastDeferral (n : Nat) : Nat := (0x2800 + n) * 256 + 0x26
/-- 0x2800+n:27 Duty (R397 U16). -/
abbrev actDuty (n : Nat) : Nat := (0x2800 + n) * 256 + 0x27
/-- 0x2800+n:28 Effective duty limit (R397 U16). -/
abbrev actEffectiveDutyLimit (n : Nat) : Nat := (0x2800 + n) * 256 + 0x28
/-- 0x2800+n:29 Coil energy (R397 U32). -/
abbrev actCoilEnergy (n : Nat) : Nat := (0x2800 + n) * 256 + 0x29
/-- 0x2800+n:2A Last refusal (R397 U8). -/
abbrev actLastRefusal (n : Nat) : Nat := (0x2800 + n) * 256 + 0x2A
/-- 0x2800+n:2B Fault cause (R397 U8). -/
abbrev actFaultCause (n : Nat) : Nat := (0x2800 + n) * 256 + 0x2B
/-- 0x2800+n:2C Activations (R397 U32). -/
abbrev actActivations (n : Nat) : Nat := (0x2800 + n) * 256 + 0x2C
/-- 0x2800+n:2D Refusals (R397 U32). -/
abbrev actRefusals (n : Nat) : Nat := (0x2800 + n) * 256 + 0x2D
/-- 0x2800+n:2E Peak-time faults (R397 U32). -/
abbrev actPeakTimeFaults (n : Nat) : Nat := (0x2800 + n) * 256 + 0x2E
/-- 0x2800+n:2F Movement failures (R397 U32). -/
abbrev actMovementFailures (n : Nat) : Nat := (0x2800 + n) * 256 + 0x2F
/-- 0x2800+n:30 Clear statistics (R397 U8). -/
abbrev actClearStatistics (n : Nat) : Nat := (0x2800 + n) * 256 + 0x30
/-- 0x2820+n:01 Peak budget (R401 U16). -/
abbrev hsPeakBudget (n : Nat) : Nat := (0x2820 + n) * 256 + 0x1
/-- 0x2820+n:02 State (R401 U8). -/
abbrev hsState (n : Nat) : Nat := (0x2820 + n) * 256 + 0x2
/-- 0x2820+n:03 Status (R401 U8). -/
abbrev hsStatus (n : Nat) : Nat := (0x2820 + n) * 256 + 0x3
/-- 0x2820+n:04 Current (R401 U16). -/
abbrev hsCurrent (n : Nat) : Nat := (0x2820 + n) * 256 + 0x4
/-- 0x2820+n:05 Fault cause (R401 U8). -/
abbrev hsFaultCause (n : Nat) : Nat := (0x2820 + n) * 256 + 0x5
/-- 0x2820+n:06 Fault reset (R401 U8). -/
abbrev hsFaultReset (n : Nat) : Nat := (0x2820 + n) * 256 + 0x6
/-- 0x2820+n:07 Deferrals (R401 U32). -/
abbrev hsDeferrals (n : Nat) : Nat := (0x2820 + n) * 256 + 0x7
/-- 0x2820+n:08 Overlap refusals (R401 U32). -/
abbrev hsOverlapRefusals (n : Nat) : Nat := (0x2820 + n) * 256 + 0x8
/-- 0x2820+n:09 Faults (R401 U32). -/
abbrev hsFaults (n : Nat) : Nat := (0x2820 + n) * 256 + 0x9
/-- 0x2820+n:0A Bank (R401 U8). -/
abbrev hsBank (n : Nat) : Nat := (0x2820 + n) * 256 + 0xA
/-- 0x2820+n:0B Clear statistics (R401 U8). -/
abbrev hsClearStatistics (n : Nat) : Nat := (0x2820 + n) * 256 + 0xB
/-- 0x2900+n:01 Mode (R429 U8). -/
abbrev driveMode (n : Nat) : Nat := (0x2900 + n) * 256 + 0x1
/-- 0x2900+n:02 Class (R429 U8). -/
abbrev driveClass (n : Nat) : Nat := (0x2900 + n) * 256 + 0x2
/-- 0x2900+n:03 Command source (R429 U8). -/
abbrev driveCommandSource (n : Nat) : Nat := (0x2900 + n) * 256 + 0x3
/-- 0x2900+n:04 PWM frequency (R429 U8). -/
abbrev drivePWMFrequency (n : Nat) : Nat := (0x2900 + n) * 256 + 0x4
/-- 0x2900+n:05 PWM polarity (R429 U8). -/
abbrev drivePWMPolarity (n : Nat) : Nat := (0x2900 + n) * 256 + 0x5
/-- 0x2900+n:06 Manual command (R429 Q15). -/
abbrev driveManualCommand (n : Nat) : Nat := (0x2900 + n) * 256 + 0x6
/-- 0x2900+n:07 Safe command (R429 Q15). -/
abbrev driveSafeCommand (n : Nat) : Nat := (0x2900 + n) * 256 + 0x7
/-- 0x2900+n:08 Start duty (R429 Q15). -/
abbrev driveStartDuty (n : Nat) : Nat := (0x2900 + n) * 256 + 0x8
/-- 0x2900+n:09 Start timeout (R429 U16). -/
abbrev driveStartTimeout (n : Nat) : Nat := (0x2900 + n) * 256 + 0x9
/-- 0x2900+n:0A Start retries (R429 U8). -/
abbrev driveStartRetries (n : Nat) : Nat := (0x2900 + n) * 256 + 0xA
/-- 0x2900+n:0B Pulses per revolution (R429 U8). -/
abbrev drivePulsesPerRevolution (n : Nat) : Nat := (0x2900 + n) * 256 + 0xB
/-- 0x2900+n:0C Tach loss time (R429 U16). -/
abbrev driveTachLossTime (n : Nat) : Nat := (0x2900 + n) * 256 + 0xC
/-- 0x2900+n:0D Speed full scale (R429 F32). -/
abbrev driveSpeedFullScale (n : Nat) : Nat := (0x2900 + n) * 256 + 0xD
/-- 0x2900+n:0E RUNNING input (R429 U8). -/
abbrev driveRUNNINGInput (n : Nat) : Nat := (0x2900 + n) * 256 + 0xE
/-- 0x2900+n:0F RUNNING polarity (R429 U8). -/
abbrev driveRUNNINGPolarity (n : Nat) : Nat := (0x2900 + n) * 256 + 0xF
/-- 0x2900+n:10 Maximum blank duration (R429 U16). -/
abbrev driveMaximumBlankDuration (n : Nat) : Nat := (0x2900 + n) * 256 + 0x10
/-- 0x2900+n:11 Fault reset (R429 U8). -/
abbrev driveFaultReset (n : Nat) : Nat := (0x2900 + n) * 256 + 0x11
/-- 0x2900+n:20 State (R429 U8). -/
abbrev driveState (n : Nat) : Nat := (0x2900 + n) * 256 + 0x20
/-- 0x2900+n:21 Status (R429 U16). -/
abbrev driveStatus (n : Nat) : Nat := (0x2900 + n) * 256 + 0x21
/-- 0x2900+n:22 Command applied (R429 Q15). -/
abbrev driveCommandApplied (n : Nat) : Nat := (0x2900 + n) * 256 + 0x22
/-- 0x2900+n:23 Speed (R429 F32). -/
abbrev driveSpeed (n : Nat) : Nat := (0x2900 + n) * 256 + 0x23
/-- 0x2900+n:24 Speed, Q15 (R429 Q15). -/
abbrev driveSpeedQ15 (n : Nat) : Nat := (0x2900 + n) * 256 + 0x24
/-- 0x2900+n:25 Tach age (R429 U16). -/
abbrev driveTachAge (n : Nat) : Nat := (0x2900 + n) * 256 + 0x25
/-- 0x2900+n:26 Tach frequency (R429 F32). -/
abbrev driveTachFrequency (n : Nat) : Nat := (0x2900 + n) * 256 + 0x26
/-- 0x2900+n:27 Last good duty (R429 Q15). -/
abbrev driveLastGoodDuty (n : Nat) : Nat := (0x2900 + n) * 256 + 0x27
/-- 0x2900+n:28 Start attempt (R429 U8). -/
abbrev driveStartAttempt (n : Nat) : Nat := (0x2900 + n) * 256 + 0x28
/-- 0x2900+n:29 BLOCKED entries (R429 U32). -/
abbrev driveBLOCKEDEntries (n : Nat) : Nat := (0x2900 + n) * 256 + 0x29
/-- 0x2900+n:2A Tach losses (R429 U32). -/
abbrev driveTachLosses (n : Nat) : Nat := (0x2900 + n) * 256 + 0x2A
/-- 0x2900+n:2B Sensor supply current (R429 U16). -/
abbrev driveSensorSupplyCurrent (n : Nat) : Nat := (0x2900 + n) * 256 + 0x2B
/-- 0x2900+n:2C Clear statistics (R429 U8). -/
abbrev driveClearStatistics (n : Nat) : Nat := (0x2900 + n) * 256 + 0x2C
/-- 0x2910+n:01 Table channel (R431 U8). -/
abbrev draughtTableChannel (n : Nat) : Nat := (0x2910 + n) * 256 + 0x1
/-- 0x2910+n:02 Points used (R431 U8). -/
abbrev draughtPointsUsed (n : Nat) : Nat := (0x2910 + n) * 256 + 0x2
/-- 0x2910+n:03 Base duty (R431 Q15). -/
abbrev draughtBaseDuty (n : Nat) : Nat := (0x2910 + n) * 256 + 0x3
/-- 0x2910+n:04 Level (R431 U8). -/
abbrev draughtLevel (n : Nat) : Nat := (0x2910 + n) * 256 + 0x4
/-- 0x2910+n:05 Table duty (R431 Q15). -/
abbrev draughtTableDuty (n : Nat) : Nat := (0x2910 + n) * 256 + 0x5
/-- 0x2910+n:06 Table status (R431 U8). -/
abbrev draughtTableStatus (n : Nat) : Nat := (0x2910 + n) * 256 + 0x6
/-- 0x2910+n:10-1F Rise threshold, point 0–15 (R431 F32). -/
abbrev draughtRise (n : Nat) (i : Nat) : Nat := (0x2910 + n) * 256 + (0x10 + i)
/-- 0x2910+n:20-2F Fall threshold, point 0–15 (R431 F32). -/
abbrev draughtFall (n : Nat) (i : Nat) : Nat := (0x2910 + n) * 256 + (0x20 + i)
/-- 0x2910+n:30-3F Duty, point 0–15 (R431 Q15). -/
abbrev draughtPointDuty (n : Nat) (i : Nat) : Nat := (0x2910 + n) * 256 + (0x30 + i)
/-- 0x2920+n:01 Mode (R432 U8). -/
abbrev coutMode (n : Nat) : Nat := (0x2920 + n) * 256 + 0x1
/-- 0x2920+n:02 Class (R432 U8). -/
abbrev coutClass (n : Nat) : Nat := (0x2920 + n) * 256 + 0x2
/-- 0x2920+n:03 Source type (R432 U8). -/
abbrev coutSourceType (n : Nat) : Nat := (0x2920 + n) * 256 + 0x3
/-- 0x2920+n:04 Source number (R432 U8). -/
abbrev coutSourceNumber (n : Nat) : Nat := (0x2920 + n) * 256 + 0x4
/-- 0x2920+n:05 Span low (R432 F32). -/
abbrev coutSpanLow (n : Nat) : Nat := (0x2920 + n) * 256 + 0x5
/-- 0x2920+n:06 Span high (R432 F32). -/
abbrev coutSpanHigh (n : Nat) : Nat := (0x2920 + n) * 256 + 0x6
/-- 0x2920+n:07 Manual value (R432 F32). -/
abbrev coutManualValue (n : Nat) : Nat := (0x2920 + n) * 256 + 0x7
/-- 0x2920+n:08 Failure level (R432 U8). -/
abbrev coutFailureLevel (n : Nat) : Nat := (0x2920 + n) * 256 + 0x8
/-- 0x2920+n:09 Safe value mode (R432 U8). -/
abbrev coutSafeValueMode (n : Nat) : Nat := (0x2920 + n) * 256 + 0x9
/-- 0x2920+n:0A Safe fixed value (R432 F32). -/
abbrev coutSafeFixedValue (n : Nat) : Nat := (0x2920 + n) * 256 + 0xA
/-- 0x2920+n:20 State (R432 U8). -/
abbrev coutState (n : Nat) : Nat := (0x2920 + n) * 256 + 0x20
/-- 0x2920+n:21 Status (R432 U8). -/
abbrev coutStatus (n : Nat) : Nat := (0x2920 + n) * 256 + 0x21
/-- 0x2920+n:22 Target (R432 F32). -/
abbrev coutTarget (n : Nat) : Nat := (0x2920 + n) * 256 + 0x22
/-- 0x2920+n:23 Readback (R432 F32). -/
abbrev coutReadback (n : Nat) : Nat := (0x2920 + n) * 256 + 0x23
/-- 0x2920+n:24 Loop faults (R432 U32). -/
abbrev coutLoopFaults (n : Nat) : Nat := (0x2920 + n) * 256 + 0x24
/-- 0x2920+n:25 Permit forcings (R432 U32). -/
abbrev coutPermitForcings (n : Nat) : Nat := (0x2920 + n) * 256 + 0x25
/-- 0x2920+n:26 Clear statistics (R432 U8). -/
abbrev coutClearStatistics (n : Nat) : Nat := (0x2920 + n) * 256 + 0x26
/-- 0x2930+n:01 Mode (R434 U8). -/
abbrev pulseMode (n : Nat) : Nat := (0x2930 + n) * 256 + 0x1
/-- 0x2930+n:02 Edge (R434 U8). -/
abbrev pulseEdge (n : Nat) : Nat := (0x2930 + n) * 256 + 0x2
/-- 0x2930+n:03 Filter time (R434 U16). -/
abbrev pulseFilterTime (n : Nat) : Nat := (0x2930 + n) * 256 + 0x3
/-- 0x2930+n:04 Frequency full scale (R434 F32). -/
abbrev pulseFrequencyFullScale (n : Nat) : Nat := (0x2930 + n) * 256 + 0x4
/-- 0x2930+n:05 Gate time (R434 U16). -/
abbrev pulseGateTime (n : Nat) : Nat := (0x2930 + n) * 256 + 0x5
/-- 0x2930+n:06 Zero time (R434 U32). -/
abbrev pulseZeroTime (n : Nat) : Nat := (0x2930 + n) * 256 + 0x6
/-- 0x2930+n:07 Count full scale (R434 U32). -/
abbrev pulseCountFullScale (n : Nat) : Nat := (0x2930 + n) * 256 + 0x7
/-- 0x2930+n:08 Count reset (R434 U8). -/
abbrev pulseCountReset (n : Nat) : Nat := (0x2930 + n) * 256 + 0x8
/-- 0x2930+n:09 Level (R434 BOOL). -/
abbrev pulseLevel (n : Nat) : Nat := (0x2930 + n) * 256 + 0x9
/-- 0x2930+n:20 Frequency (R434 F32). -/
abbrev pulseFrequency (n : Nat) : Nat := (0x2930 + n) * 256 + 0x20
/-- 0x2930+n:21 Period (R434 U32). -/
abbrev pulsePeriod (n : Nat) : Nat := (0x2930 + n) * 256 + 0x21
/-- 0x2930+n:22 Count (R434 U32). -/
abbrev pulseCount (n : Nat) : Nat := (0x2930 + n) * 256 + 0x22
/-- 0x2930+n:23 Frequency, Q15 (R434 Q15). -/
abbrev pulseFrequencyQ15 (n : Nat) : Nat := (0x2930 + n) * 256 + 0x23
/-- 0x2930+n:24 Count, Q15 (R434 Q15). -/
abbrev pulseCountQ15 (n : Nat) : Nat := (0x2930 + n) * 256 + 0x24
/-- 0x2930+n:25 Age (R434 U16). -/
abbrev pulseAge (n : Nat) : Nat := (0x2930 + n) * 256 + 0x25
/-- 0x2938:01 Mode (R435 U8). -/
abbrev setpMode (n : Nat) : Nat := 0x2938 * 256 + (0x1 + 16 * n)
/-- 0x2938:02 Span low (R435 F32). -/
abbrev setpSpanLow (n : Nat) : Nat := 0x2938 * 256 + (0x2 + 16 * n)
/-- 0x2938:03 Span high (R435 F32). -/
abbrev setpSpanHigh (n : Nat) : Nat := 0x2938 * 256 + (0x3 + 16 * n)
/-- 0x2938:04 Raw value (R435 F32). -/
abbrev setpRawValue (n : Nat) : Nat := 0x2938 * 256 + (0x4 + 16 * n)
/-- 0x2938:05 Value (R435 F32). -/
abbrev setpValue (n : Nat) : Nat := 0x2938 * 256 + (0x5 + 16 * n)
/-- 0x2938:06 Value, Q15 (R435 Q15). -/
abbrev setpValueQ15 (n : Nat) : Nat := 0x2938 * 256 + (0x6 + 16 * n)
/-- 0x2938:07 Fault (R435 BOOL). -/
abbrev setpFault (n : Nat) : Nat := 0x2938 * 256 + (0x7 + 16 * n)
/-- 0x2940:01 BLANK0 polarity (R436 U8). -/
abbrev inputsBLANK0Polarity : Nat := 0x2940 * 256 + 0x1
/-- 0x2940:02 BLANK1 polarity (R436 U8). -/
abbrev inputsBLANK1Polarity : Nat := 0x2940 * 256 + 0x2
/-- 0x2940:03 BLANK0 maximum duration (R436 U16). -/
abbrev inputsBLANK0MaximumDuration : Nat := 0x2940 * 256 + 0x3
/-- 0x2940:04 BLANK1 maximum duration (R436 U16). -/
abbrev inputsBLANK1MaximumDuration : Nat := 0x2940 * 256 + 0x4
/-- 0x2940:05 BLANK filter (R436 U16). -/
abbrev inputsBLANKFilter : Nat := 0x2940 * 256 + 0x5
/-- 0x2940:06 Permit filter (R436 U8). -/
abbrev inputsPermitFilter : Nat := 0x2940 * 256 + 0x6
/-- 0x2940:07 Input levels (R436 U8). -/
abbrev inputsInputLevels : Nat := 0x2940 * 256 + 0x7
/-- 0x2940:08 SAFETY_OK losses (R436 U32). -/
abbrev inputsSAFETYOKLosses : Nat := 0x2940 * 256 + 0x8
/-- 0x2940:09 HEAT_PERMIT losses (R436 U32). -/
abbrev inputsHEATPERMITLosses : Nat := 0x2940 * 256 + 0x9
/-- 0x3400+n:01 Program state (R464 U8). -/
abbrev coreProgramState (n : Nat) : Nat := (0x3400 + n) * 256 + 0x1
/-- 0x3400+n:02 Command (R464 U8). -/
abbrev coreCommand (n : Nat) : Nat := (0x3400 + n) * 256 + 0x2
/-- 0x3400+n:03 Autostart (R464 BOOL). -/
abbrev coreAutostart (n : Nat) : Nat := (0x3400 + n) * 256 + 0x3
/-- 0x3400+n:04 Trap action (R464 U8). -/
abbrev coreTrapAction (n : Nat) : Nat := (0x3400 + n) * 256 + 0x4
/-- 0x3400+n:05 Image ID (R464 U32). -/
abbrev coreImageID (n : Nat) : Nat := (0x3400 + n) * 256 + 0x5
/-- 0x3400+n:06 Level granted (R464 U8). -/
abbrev coreLevelGranted (n : Nat) : Nat := (0x3400 + n) * 256 + 0x6
/-- 0x3400+n:07 Last ECAUSE (R464 U32). -/
abbrev coreLastECAUSE (n : Nat) : Nat := (0x3400 + n) * 256 + 0x7
/-- 0x3400+n:08 Last EPC (R464 U32). -/
abbrev coreLastEPC (n : Nat) : Nat := (0x3400 + n) * 256 + 0x8
/-- 0x3400+n:09 Last EVAL (R464 U32). -/
abbrev coreLastEVAL (n : Nat) : Nat := (0x3400 + n) * 256 + 0x9
/-- 0x3400+n:0A Traps (R464 U32). -/
abbrev coreTraps (n : Nat) : Nat := (0x3400 + n) * 256 + 0xA
/-- 0x3400+n:0B Restarts in the last hour (R464 U8). -/
abbrev coreRestartsInTheLastHour (n : Nat) : Nat := (0x3400 + n) * 256 + 0xB
/-- 0x3400+n:0C WAIT share (R464 U16). -/
abbrev coreWAITShare (n : Nat) : Nat := (0x3400 + n) * 256 + 0xC
/-- 0x3400+n:0D Stack low water (R464 U32). -/
abbrev coreStackLowWater (n : Nat) : Nat := (0x3400 + n) * 256 + 0xD
/-- 0x3400+n:0E Guard refusals skipped (R464 U32). -/
abbrev coreGuardRefusalsSkipped (n : Nat) : Nat := (0x3400 + n) * 256 + 0xE
/-- 0x3400+n:0F Clear statistics (R464 U8). -/
abbrev coreClearStatistics (n : Nat) : Nat := (0x3400 + n) * 256 + 0xF
/-- 0x3410:01 Owner key hash (R465 DOM). -/
abbrev imagesOwnerKeyHash : Nat := 0x3410 * 256 + 0x1
/-- 0x3410:02 Erase slot (R465 U8). -/
abbrev imagesEraseSlot : Nat := 0x3410 * 256 + 0x2
/-- 0x3410:11-13 Image, core 1–3 (R465 DOM). -/
abbrev imagesImage (i : Nat) : Nat := 0x3410 * 256 + (0x11 + i)
/-- 0x3410:21-23 Slot status, core 1–3 (R465 U8). -/
abbrev imagesSlotStatus (i : Nat) : Nat := 0x3410 * 256 + (0x21 + i)
/-- 0x3410:31-33 Slot image ID, core 1–3 (R465 U32). -/
abbrev imagesSlotId (i : Nat) : Nat := 0x3410 * 256 + (0x31 + i)
/-- 0x3480:01-80 Route pair (R473 U32). -/
abbrev routerRoutePair (i : Nat) : Nat := 0x3480 * 256 + (0x1 + i)
/-- 0x3480:81 Raises delivered (R473 U32). -/
abbrev routerRaisesDelivered : Nat := 0x3480 * 256 + 0x81
/-- 0x3480:82 Bellows triggers (R473 U32). -/
abbrev routerBellowsTriggers : Nat := 0x3480 * 256 + 0x82
/-- 0x3480:83 Kelsis triggers (R473 U32). -/
abbrev routerKelsisTriggers : Nat := 0x3480 * 256 + 0x83
/-- 0x3480:84 Clear counters (R473 U8). -/
abbrev routerClearCounters : Nat := 0x3480 * 256 + 0x84
/-- 0x3500+n:01 PMCTL (R480 U32). -/
abbrev pmPMCTL (n : Nat) : Nat := (0x3500 + n) * 256 + 0x1
/-- 0x3500+n:02-09 PMSEL0–7 (R480 U8). -/
abbrev pmPmsel (n : Nat) (i : Nat) : Nat := (0x3500 + n) * 256 + (0x2 + i)
/-- 0x3500+n:0A-11 PMC0–7 (R480 U32). -/
abbrev pmPmc (n : Nat) (i : Nat) : Nat := (0x3500 + n) * 256 + (0xA + i)
/-- 0x3500+n:12 PMOVF (R480 U8). -/
abbrev pmPMOVF (n : Nat) : Nat := (0x3500 + n) * 256 + 0x12
/-- 0x3500+n:13 CYCLE low (R480 U32). -/
abbrev pmCYCLELow (n : Nat) : Nat := (0x3500 + n) * 256 + 0x13
/-- 0x3500+n:14 CYCLE high (R480 U32). -/
abbrev pmCYCLEHigh (n : Nat) : Nat := (0x3500 + n) * 256 + 0x14
/-- 0x3500+n:15 SAMPLE_CTL (R480 U32). -/
abbrev pmSAMPLECTL (n : Nat) : Nat := (0x3500 + n) * 256 + 0x15
/-- 0x3500+n:16 Records lost (R480 U32). -/
abbrev pmRecordsLost (n : Nat) : Nat := (0x3500 + n) * 256 + 0x16
/-- 0x3500+n:17 Clear counters (R480 U8). -/
abbrev pmClearCounters (n : Nat) : Nat := (0x3500 + n) * 256 + 0x17
/-- 0x3500+n:18 MERGED (R480 U32). -/
abbrev pmMERGED (n : Nat) : Nat := (0x3500 + n) * 256 + 0x18
/-- 0x3600:01 Enable (R516 BOOL). -/
abbrev canEnable (b : Nat) : Nat := (0x3600 + 0x40 * b) * 256 + 0x1
/-- 0x3600:02 Role (R516 U8). -/
abbrev canRole (b : Nat) : Nat := (0x3600 + 0x40 * b) * 256 + 0x2
/-- 0x3600:03 Operating mode (R516 U8). -/
abbrev canOperatingMode (b : Nat) : Nat := (0x3600 + 0x40 * b) * 256 + 0x3
/-- 0x3600:04 Termination (R516 BOOL). -/
abbrev canTermination (b : Nat) : Nat := (0x3600 + 0x40 * b) * 256 + 0x4
/-- 0x3600:05 Receive mode (R516 U8). -/
abbrev canReceiveMode (b : Nat) : Nat := (0x3600 + 0x40 * b) * 256 + 0x5
/-- 0x3600:06 One-shot all (R516 BOOL). -/
abbrev canOneShotAll (b : Nat) : Nat := (0x3600 + 0x40 * b) * 256 + 0x6
/-- 0x3600:07 Bus-off recovery (R516 U8). -/
abbrev canBusOffRecovery (b : Nat) : Nat := (0x3600 + 0x40 * b) * 256 + 0x7
/-- 0x3600:08 Recover (R516 U8). -/
abbrev canRecover (b : Nat) : Nat := (0x3600 + 0x40 * b) * 256 + 0x8
/-- 0x3600:0A Node-ID (R516 U8). -/
abbrev canNodeID (b : Nat) : Nat := (0x3600 + 0x40 * b) * 256 + 0xA
/-- 0x3600:0B EMCY severity (R516 U8). -/
abbrev canEMCYSeverity (b : Nat) : Nat := (0x3600 + 0x40 * b) * 256 + 0xB
/-- 0x3600:0C Safety check unit (R516 U8). -/
abbrev canSafetyCheckUnit (b : Nat) : Nat := (0x3600 + 0x40 * b) * 256 + 0xC
/-- 0x3600:0D Wake mode (R516 U8). -/
abbrev canWakeMode (b : Nat) : Nat := (0x3600 + 0x40 * b) * 256 + 0xD
/-- 0x3600:0E Wake identifier (R516 U32). -/
abbrev canWakeIdentifier (b : Nat) : Nat := (0x3600 + 0x40 * b) * 256 + 0xE
/-- 0x3600:0F Wake identifier mask (R516 U32). -/
abbrev canWakeIdentifierMask (b : Nat) : Nat := (0x3600 + 0x40 * b) * 256 + 0xF
/-- 0x3600:10 Wake DLC (R516 U8). -/
abbrev canWakeDLC (b : Nat) : Nat := (0x3600 + 0x40 * b) * 256 + 0x10
/-- 0x3600:11 Wake data mask, bytes 0–3 (R516 U32). -/
abbrev canWakeDataMaskBytes03 (b : Nat) : Nat := (0x3600 + 0x40 * b) * 256 + 0x11
/-- 0x3600:12 Wake data mask, bytes 4–7 (R516 U32). -/
abbrev canWakeDataMaskBytes47 (b : Nat) : Nat := (0x3600 + 0x40 * b) * 256 + 0x12
/-- 0x3600:13 Tag of last refusal (R516 U16). -/
abbrev canTagOfLastRefusal (b : Nat) : Nat := (0x3600 + 0x40 * b) * 256 + 0x13
/-- 0x3600:14 Queue limit reached (R516 U32). -/
abbrev canQueueLimitReached (b : Nat) : Nat := (0x3600 + 0x40 * b) * 256 + 0x14
/-- 0x3600:20 Transmit port (R516 DOM). -/
abbrev canTransmitPort (b : Nat) : Nat := (0x3600 + 0x40 * b) * 256 + 0x20
/-- 0x3600:21 Cancel (R516 U16). -/
abbrev canCancel (b : Nat) : Nat := (0x3600 + 0x40 * b) * 256 + 0x21
/-- 0x3600:22 Completion (R516 U32). -/
abbrev canCompletion (b : Nat) : Nat := (0x3600 + 0x40 * b) * 256 + 0x22
/-- 0x3600:23 Queue fill (R516 U8). -/
abbrev canQueueFill (b : Nat) : Nat := (0x3600 + 0x40 * b) * 256 + 0x23
/-- 0x3600:24 Completions waiting (R516 U8). -/
abbrev canCompletionsWaiting (b : Nat) : Nat := (0x3600 + 0x40 * b) * 256 + 0x24
/-- 0x3600:25 Bus state (R516 U8). -/
abbrev canBusState (b : Nat) : Nat := (0x3600 + 0x40 * b) * 256 + 0x25
/-- 0x3600:26 TEC (R516 U16). -/
abbrev canTEC (b : Nat) : Nat := (0x3600 + 0x40 * b) * 256 + 0x26
/-- 0x3600:27 REC (R516 U8). -/
abbrev canREC (b : Nat) : Nat := (0x3600 + 0x40 * b) * 256 + 0x27
/-- 0x3600:28 Last error (R516 U8). -/
abbrev canLastError (b : Nat) : Nat := (0x3600 + 0x40 * b) * 256 + 0x28
/-- 0x3600:29 Status (R516 U16). -/
abbrev canStatus (b : Nat) : Nat := (0x3600 + 0x40 * b) * 256 + 0x29
/-- 0x3600:2A Frames sent (R516 U32). -/
abbrev canFramesSent (b : Nat) : Nat := (0x3600 + 0x40 * b) * 256 + 0x2A
/-- 0x3600:2B Frames received (R516 U32). -/
abbrev canFramesReceived (b : Nat) : Nat := (0x3600 + 0x40 * b) * 256 + 0x2B
/-- 0x3600:2C Bus-off events (R516 U32). -/
abbrev canBusOffEvents (b : Nat) : Nat := (0x3600 + 0x40 * b) * 256 + 0x2C
/-- 0x3600:2D Completions lost (R516 U32). -/
abbrev canCompletionsLost (b : Nat) : Nat := (0x3600 + 0x40 * b) * 256 + 0x2D
/-- 0x3600:2E Mirror moves (R516 U32). -/
abbrev canMirrorMoves (b : Nat) : Nat := (0x3600 + 0x40 * b) * 256 + 0x2E
/-- 0x3600:2F Clear statistics (R516 U8). -/
abbrev canClearStatistics (b : Nat) : Nat := (0x3600 + 0x40 * b) * 256 + 0x2F
/-- 0x3640:09 CAN B server core (R516 U8). -/
abbrev canCANBServerCore (b : Nat) : Nat := (0x3600 + 0x40 * b) * 256 + 0x9
/-- 0x3601:01 Nominal prescaler (R518 U8). -/
abbrev canbitNominalPrescaler (b : Nat) : Nat := (0x3601 + 0x40 * b) * 256 + 0x1
/-- 0x3601:02 Nominal TSEG1 (R518 U16). -/
abbrev canbitNominalTSEG1 (b : Nat) : Nat := (0x3601 + 0x40 * b) * 256 + 0x2
/-- 0x3601:03 Nominal TSEG2 (R518 U8). -/
abbrev canbitNominalTSEG2 (b : Nat) : Nat := (0x3601 + 0x40 * b) * 256 + 0x3
/-- 0x3601:04 Nominal SJW (R518 U8). -/
abbrev canbitNominalSJW (b : Nat) : Nat := (0x3601 + 0x40 * b) * 256 + 0x4
/-- 0x3601:05 FD enable (R518 BOOL). -/
abbrev canbitFDEnable (b : Nat) : Nat := (0x3601 + 0x40 * b) * 256 + 0x5
/-- 0x3601:06 Data TSEG1 (R518 U8). -/
abbrev canbitDataTSEG1 (b : Nat) : Nat := (0x3601 + 0x40 * b) * 256 + 0x6
/-- 0x3601:07 Data TSEG2 (R518 U8). -/
abbrev canbitDataTSEG2 (b : Nat) : Nat := (0x3601 + 0x40 * b) * 256 + 0x7
/-- 0x3601:08 Data SJW (R518 U8). -/
abbrev canbitDataSJW (b : Nat) : Nat := (0x3601 + 0x40 * b) * 256 + 0x8
/-- 0x3601:09 TDC offset (R518 U8). -/
abbrev canbitTDCOffset (b : Nat) : Nat := (0x3601 + 0x40 * b) * 256 + 0x9
/-- 0x3601:0A Nominal rate (R518 U32). -/
abbrev canbitNominalRate (b : Nat) : Nat := (0x3601 + 0x40 * b) * 256 + 0xA
/-- 0x3601:0B Data rate (R518 U32). -/
abbrev canbitDataRate (b : Nat) : Nat := (0x3601 + 0x40 * b) * 256 + 0xB
/-- 0x3601:0C Nominal sample point (R518 U16). -/
abbrev canbitNominalSamplePoint (b : Nat) : Nat := (0x3601 + 0x40 * b) * 256 + 0xC
/-- 0x3601:0D Data sample point (R518 U16). -/
abbrev canbitDataSamplePoint (b : Nat) : Nat := (0x3601 + 0x40 * b) * 256 + 0xD
/-- 0x3601:0E Measured transmitter delay (R518 U8). -/
abbrev canbitMeasuredTransmitterDelay (b : Nat) : Nat := (0x3601 + 0x40 * b) * 256 + 0xE
/-- 0x3602:01 Filter list (R519 DOM). -/
abbrev canfiltFilterList (b : Nat) : Nat := (0x3602 + 0x40 * b) * 256 + 0x1
/-- 0x3602:02 Filter count (R519 U8). -/
abbrev canfiltFilterCount (b : Nat) : Nat := (0x3602 + 0x40 * b) * 256 + 0x2
/-- 0x3602:03 FIFO read (R519 DOM). -/
abbrev canfiltFIFORead (b : Nat) : Nat := (0x3602 + 0x40 * b) * 256 + 0x3
/-- 0x3602:04 FIFO fill (R519 U8). -/
abbrev canfiltFIFOFill (b : Nat) : Nat := (0x3602 + 0x40 * b) * 256 + 0x4
/-- 0x3602:05 FIFO discards (R519 U32). -/
abbrev canfiltFIFODiscards (b : Nat) : Nat := (0x3602 + 0x40 * b) * 256 + 0x5
/-- 0x3602:06 Unmatched action (R519 U8). -/
abbrev canfiltUnmatchedAction (b : Nat) : Nat := (0x3602 + 0x40 * b) * 256 + 0x6
/-- 0x3602:10-4F Object identifier k (R519 U32). -/
abbrev canfiltObjectId (b : Nat) (i : Nat) : Nat := (0x3602 + 0x40 * b) * 256 + (0x10 + i)
/-- 0x3602:50-8F Object status k (R519 U16). -/
abbrev canfiltObjectStatus (b : Nat) (i : Nat) : Nat := (0x3602 + 0x40 * b) * 256 + (0x50 + i)
/-- 0x3602:90-CF Object data k (R519 DOM). -/
abbrev canfiltObjectData (b : Nat) (i : Nat) : Nat := (0x3602 + 0x40 * b) * 256 + (0x90 + i)
/-- 0x3610:01 Reference role (R520 U8). -/
abbrev cantimeReferenceRole (b : Nat) : Nat := (0x3610 + 0x40 * b) * 256 + 0x1
/-- 0x3610:02 Reference period (R520 U16). -/
abbrev cantimeReferencePeriod (b : Nat) : Nat := (0x3610 + 0x40 * b) * 256 + 0x2
/-- 0x3610:03 Reference identifier (R520 U32). -/
abbrev cantimeReferenceIdentifier (b : Nat) : Nat := (0x3610 + 0x40 * b) * 256 + 0x3
/-- 0x3610:04 References sent (R520 U32). -/
abbrev cantimeReferencesSent (b : Nat) : Nat := (0x3610 + 0x40 * b) * 256 + 0x4
/-- 0x3610:05 References dropped (R520 U32). -/
abbrev cantimeReferencesDropped (b : Nat) : Nat := (0x3610 + 0x40 * b) * 256 + 0x5
/-- 0x3610:06 Last reference SOF, seconds (R520 U32). -/
abbrev cantimeLastReferenceSOFSeconds (b : Nat) : Nat := (0x3610 + 0x40 * b) * 256 + 0x6
/-- 0x3610:07 Last reference SOF, nanoseconds (R520 U32). -/
abbrev cantimeLastReferenceSOFNanoseconds (b : Nat) : Nat := (0x3610 + 0x40 * b) * 256 + 0x7
/-- 0x3700:01 Enable (R559 BOOL). -/
abbrev flueEnable : Nat := 0x3700 * 256 + 0x1
/-- 0x3700:02 Stored address (R559 U32). -/
abbrev flueStoredAddress : Nat := 0x3700 * 256 + 0x2
/-- 0x3700:03 Address in force (R559 U32). -/
abbrev flueAddressInForce : Nat := 0x3700 * 256 + 0x3
/-- 0x3700:04 Seat state (R559 U8). -/
abbrev flueSeatState : Nat := 0x3700 * 256 + 0x4
/-- 0x3700:05 Head priority (R559 U8). -/
abbrev flueHeadPriority : Nat := 0x3700 * 256 + 0x5
/-- 0x3700:06 Role (R559 U8). -/
abbrev flueRole : Nat := 0x3700 * 256 + 0x6
/-- 0x3700:07 Group address (R559 U32). -/
abbrev flueGroupAddress : Nat := 0x3700 * 256 + 0x7
/-- 0x3700:08 Level (R559 U8). -/
abbrev flueLevel : Nat := 0x3700 * 256 + 0x8
/-- 0x3700:09 Head unique ID, high (R559 U32). -/
abbrev flueHeadUniqueIDHigh : Nat := 0x3700 * 256 + 0x9
/-- 0x3700:0A Head unique ID, low (R559 U32). -/
abbrev flueHeadUniqueIDLow : Nat := 0x3700 * 256 + 0xA
/-- 0x3700:0B Status period (R559 U16). -/
abbrev flueStatusPeriod : Nat := 0x3700 * 256 + 0xB
/-- 0x3700:0C Maximum banking time (R559 U32). -/
abbrev flueMaximumBankingTime : Nat := 0x3700 * 256 + 0xC
/-- 0x3700:0D Alarm word (R559 U16). -/
abbrev flueAlarmWord : Nat := 0x3700 * 256 + 0xD
/-- 0x3700:0E Site key (R559 DOM). -/
abbrev flueSiteKey : Nat := 0x3700 * 256 + 0xE
/-- 0x3700:0F Key check value (R559 U32). -/
abbrev flueKeyCheckValue : Nat := 0x3700 * 256 + 0xF
/-- 0x3700:10 Nodes seated (R559 U16). -/
abbrev flueNodesSeated : Nat := 0x3700 * 256 + 0x10
/-- 0x3700:11 Unseated nodes (R559 U8). -/
abbrev flueUnseatedNodes : Nat := 0x3700 * 256 + 0x11
/-- 0x3700:12 Unreachable frames (R559 U32). -/
abbrev flueUnreachableFrames : Nat := 0x3700 * 256 + 0x12
/-- 0x3700:13 Hop limit discards (R559 U32). -/
abbrev flueHopLimitDiscards : Nat := 0x3700 * 256 + 0x13
/-- 0x3700:14 Clear statistics (R559 U8). -/
abbrev flueClearStatistics : Nat := 0x3700 * 256 + 0x14
/-- 0x3710:01 Plan (R560 DOM). -/
abbrev planPlan : Nat := 0x3710 * 256 + 0x1
/-- 0x3710:02 Entries (R560 U16). -/
abbrev planEntries : Nat := 0x3710 * 256 + 0x2
/-- 0x3710:03 Check value (R560 U32). -/
abbrev planCheckValue : Nat := 0x3710 * 256 + 0x3
/-- 0x3710:04 Part held (R560 U32). -/
abbrev planPartHeld : Nat := 0x3710 * 256 + 0x4
/-- 0x3720:10 Enable (R561 BOOL). -/
abbrev portEnable (n : Nat) : Nat := 0x3720 * 256 + (16 * (n + 1) + 0x0)
/-- 0x3720:11 Amplitude (R561 U8). -/
abbrev portAmplitude (n : Nat) : Nat := 0x3720 * 256 + (16 * (n + 1) + 0x1)
/-- 0x3720:12 Authentication (R561 BOOL). -/
abbrev portAuthentication (n : Nat) : Nat := 0x3720 * 256 + (16 * (n + 1) + 0x2)
/-- 0x3720:13 Link state (R561 U8). -/
abbrev portLinkState (n : Nat) : Nat := 0x3720 * 256 + (16 * (n + 1) + 0x3)
/-- 0x3720:14 Neighbour unique ID, high (R561 U32). -/
abbrev portNeighbourUniqueIDHigh (n : Nat) : Nat := 0x3720 * 256 + (16 * (n + 1) + 0x4)
/-- 0x3720:15 Neighbour unique ID, low (R561 U32). -/
abbrev portNeighbourUniqueIDLow (n : Nat) : Nat := 0x3720 * 256 + (16 * (n + 1) + 0x5)
/-- 0x3720:16 Neighbour address (R561 U32). -/
abbrev portNeighbourAddress (n : Nat) : Nat := 0x3720 * 256 + (16 * (n + 1) + 0x6)
/-- 0x3720:17 Peer delay (R561 U32). -/
abbrev portPeerDelay (n : Nat) : Nat := 0x3720 * 256 + (16 * (n + 1) + 0x7)
/-- 0x3720:18 Frames sent (R561 U32). -/
abbrev portFramesSent (n : Nat) : Nat := 0x3720 * 256 + (16 * (n + 1) + 0x8)
/-- 0x3720:19 Frames received (R561 U32). -/
abbrev portFramesReceived (n : Nat) : Nat := 0x3720 * 256 + (16 * (n + 1) + 0x9)
/-- 0x3720:1A Check errors (R561 U32). -/
abbrev portCheckErrors (n : Nat) : Nat := 0x3720 * 256 + (16 * (n + 1) + 0xA)
/-- 0x3720:1B Queue discards (R561 U32). -/
abbrev portQueueDiscards (n : Nat) : Nat := 0x3720 * 256 + (16 * (n + 1) + 0xB)
/-- 0x3720:1C Authentication failures (R561 U32). -/
abbrev portAuthenticationFailures (n : Nat) : Nat := 0x3720 * 256 + (16 * (n + 1) + 0xC)
/-- 0x3720:1D Adjacency losses (R561 U32). -/
abbrev portAdjacencyLosses (n : Nat) : Nat := 0x3720 * 256 + (16 * (n + 1) + 0xD)
/-- 0x3720:1E Clear statistics (R561 U8). -/
abbrev portClearStatistics (n : Nat) : Nat := 0x3720 * 256 + (16 * (n + 1) + 0xE)
/-- 0x3730:01 Grandmaster choice (R562 U8). -/
abbrev ftimeGrandmasterChoice : Nat := 0x3730 * 256 + 0x1
/-- 0x3730:02 Named grandmaster, high (R562 U32). -/
abbrev ftimeNamedGrandmasterHigh : Nat := 0x3730 * 256 + 0x2
/-- 0x3730:03 Named grandmaster, low (R562 U32). -/
abbrev ftimeNamedGrandmasterLow : Nat := 0x3730 * 256 + 0x3
/-- 0x3730:04 Sync state (R562 U8). -/
abbrev ftimeSyncState : Nat := 0x3730 * 256 + 0x4
/-- 0x3730:05 Offset (R562 I32). -/
abbrev ftimeOffset : Nat := 0x3730 * 256 + 0x5
/-- 0x3730:06 Grandmaster, high (R562 U32). -/
abbrev ftimeGrandmasterHigh : Nat := 0x3730 * 256 + 0x6
/-- 0x3730:07 Grandmaster, low (R562 U32). -/
abbrev ftimeGrandmasterLow : Nat := 0x3730 * 256 + 0x7
/-- 0x3730:08 Flue time, seconds (R562 U32). -/
abbrev ftimeFlueTimeSeconds : Nat := 0x3730 * 256 + 0x8
/-- 0x3730:09 Flue time, nanoseconds (R562 U32). -/
abbrev ftimeFlueTimeNanoseconds : Nat := 0x3730 * 256 + 0x9
/-- 0x3730:0A Sync losses (R562 U32). -/
abbrev ftimeSyncLosses : Nat := 0x3730 * 256 + 0xA
/-- 0x3730:0B Clear statistics (R562 U8). -/
abbrev ftimeClearStatistics : Nat := 0x3730 * 256 + 0xB
/-- 0x3780:01 Group address (R563 U32). -/
abbrev groupGroupAddress : Nat := 0x3780 * 256 + 0x1
/-- 0x3780:02 Level (R563 U8). -/
abbrev groupLevel : Nat := 0x3780 * 256 + 0x2
/-- 0x3780:03 Head unique ID, high (R563 U32). -/
abbrev groupHeadUniqueIDHigh : Nat := 0x3780 * 256 + 0x3
/-- 0x3780:04 Head unique ID, low (R563 U32). -/
abbrev groupHeadUniqueIDLow : Nat := 0x3780 * 256 + 0x4
/-- 0x3780:05 Deputy unique ID, high (R563 U32). -/
abbrev groupDeputyUniqueIDHigh : Nat := 0x3780 * 256 + 0x5
/-- 0x3780:06 Deputy unique ID, low (R563 U32). -/
abbrev groupDeputyUniqueIDLow : Nat := 0x3780 * 256 + 0x6
/-- 0x3780:07 Members seated (R563 U8). -/
abbrev groupMembersSeated : Nat := 0x3780 * 256 + 0x7
/-- 0x3780:08 Members present (R563 U8). -/
abbrev groupMembersPresent : Nat := 0x3780 * 256 + 0x8
/-- 0x3780:09 Worst status (R563 U8). -/
abbrev groupWorstStatus : Nat := 0x3780 * 256 + 0x9
/-- 0x3780:0A Alarm OR (R563 U16). -/
abbrev groupAlarmOR : Nat := 0x3780 * 256 + 0xA
/-- 0x3780:0B Severe records (R563 U32). -/
abbrev groupSevereRecords : Nat := 0x3780 * 256 + 0xB
/-- 0x3780+n:01 Address (R564 U32). -/
abbrev memberAddress (n : Nat) : Nat := (0x3780 + n) * 256 + 0x1
/-- 0x3780+n:02 Unique ID, high (R564 U32). -/
abbrev memberUniqueIDHigh (n : Nat) : Nat := (0x3780 + n) * 256 + 0x2
/-- 0x3780+n:03 Unique ID, low (R564 U32). -/
abbrev memberUniqueIDLow (n : Nat) : Nat := (0x3780 + n) * 256 + 0x3
/-- 0x3780+n:04 Kind (R564 U8). -/
abbrev memberKind (n : Nat) : Nat := (0x3780 + n) * 256 + 0x4
/-- 0x3780+n:05 State (R564 U8). -/
abbrev memberState (n : Nat) : Nat := (0x3780 + n) * 256 + 0x5
/-- 0x3780+n:06 Status (R564 U8). -/
abbrev memberStatus (n : Nat) : Nat := (0x3780 + n) * 256 + 0x6
/-- 0x3780+n:07 Alarm word (R564 U16). -/
abbrev memberAlarmWord (n : Nat) : Nat := (0x3780 + n) * 256 + 0x7
/-- 0x3780+n:08 Since last STATUS (R564 U32). -/
abbrev memberSinceLastSTATUS (n : Nat) : Nat := (0x3780 + n) * 256 + 0x8
/-- 0x3780+n:09 Wake time (R564 U32). -/
abbrev memberWakeTime (n : Nat) : Nat := (0x3780 + n) * 256 + 0x9
/-- 0x3780+n:0A Mailbox frames (R564 U8). -/
abbrev memberMailboxFrames (n : Nat) : Nat := (0x3780 + n) * 256 + 0xA
/-- 0x3780+n:0B Last severe Ash code (R564 U16). -/
abbrev memberLastSevereAshCode (n : Nat) : Nat := (0x3780 + n) * 256 + 0xB
/-- 0x3780+n:0C Severe records (R564 U32). -/
abbrev memberSevereRecords (n : Nat) : Nat := (0x3780 + n) * 256 + 0xC
/-- 0x3790+n:01 Target object (R565 U32). -/
abbrev fanoutTargetObject (n : Nat) : Nat := (0x3790 + n) * 256 + 0x1
/-- 0x3790+n:02 Member mask (R565 U16). -/
abbrev fanoutMemberMask (n : Nat) : Nat := (0x3790 + n) * 256 + 0x2
/-- 0x3790+n:03 Value (R565 U32). -/
abbrev fanoutValue (n : Nat) : Nat := (0x3790 + n) * 256 + 0x3
/-- 0x3790+n:04 Pending mask (R565 U16). -/
abbrev fanoutPendingMask (n : Nat) : Nat := (0x3790 + n) * 256 + 0x4
/-- 0x3790+n:05 Failed mask (R565 U16). -/
abbrev fanoutFailedMask (n : Nat) : Nat := (0x3790 + n) * 256 + 0x5
/-- 0x3790+n:06 Last abort (R565 U32). -/
abbrev fanoutLastAbort (n : Nat) : Nat := (0x3790 + n) * 256 + 0x6
/-- 0x37A0:01-80 Map entry (R566 U32). -/
abbrev gmap0MapEntry (i : Nat) : Nat := 0x37A0 * 256 + (0x1 + i)
/-- 0x37A1:01-80 Value (R566 F32). -/
abbrev gmap1Value (i : Nat) : Nat := 0x37A1 * 256 + (0x1 + i)
/-- 0x37A2:01-80 State (R566 U8). -/
abbrev gmap2State (i : Nat) : Nat := 0x37A2 * 256 + (0x1 + i)
/-- 0x37A3:01-80 Age (R566 U16). -/
abbrev gmap3Age (i : Nat) : Nat := 0x37A3 * 256 + (0x1 + i)
/-- 0x3800:10 Configuration, unit u (R577 U8). -/
abbrev cowlConfiguration (n : Nat) : Nat := 0x3800 * 256 + (0x10 + 4 * n)
/-- 0x3800:11 Polynomial, unit u (R577 U32). -/
abbrev cowlPolynomial (n : Nat) : Nat := 0x3800 * 256 + (0x11 + 4 * n)
/-- 0x3800:12 Initial value, unit u (R577 U32). -/
abbrev cowlInitialValue (n : Nat) : Nat := 0x3800 * 256 + (0x12 + 4 * n)
/-- 0x3800:13 Final XOR, unit u (R577 U32). -/
abbrev cowlFinalXOR (n : Nat) : Nat := 0x3800 * 256 + (0x13 + 4 * n)
/-- 0x3800:40-7F Context i of unit u, i = 0–15 (R577 U32). -/
abbrev cowlContext (i : Nat) : Nat := 0x3800 * 256 + (0x40 + i)
/-- 0x3800:80-BF Context state (R577 U16). -/
abbrev cowlContextState (i : Nat) : Nat := 0x3800 * 256 + (0x80 + i)
/-- 0x3800:C0 Rejections, unit u (R577 U32). -/
abbrev cowlRejections (n : Nat) : Nat := 0x3800 * 256 + (0xC0 + 2 * n)
/-- 0x3800:C1 Gaps and timeouts, unit u (R577 U32). -/
abbrev cowlGapsAndTimeouts (n : Nat) : Nat := 0x3800 * 256 + (0xC1 + 2 * n)
/-- 0x3800:C8-CB Unguarded sends, unit u (R577 U32). -/
abbrev cowlUnguardedSends (i : Nat) : Nat := 0x3800 * 256 + (0xC8 + i)
/-- 0x3800:D0 Compute unit (R577 U8). -/
abbrev cowlComputeUnit : Nat := 0x3800 * 256 + 0xD0
/-- 0x3800:D1 Compute data (R577 DOM). -/
abbrev cowlComputeData : Nat := 0x3800 * 256 + 0xD1
/-- 0x3800:D2 Compute result (R577 U32). -/
abbrev cowlComputeResult : Nat := 0x3800 * 256 + 0xD2
/-- 0x3900:01 Cursor (R597 U16). -/
abbrev ashCursor : Nat := 0x3900 * 256 + 0x1
/-- 0x3900:02-09 Record words 0–7 (R597 U32). -/
abbrev ashRecordWord (i : Nat) : Nat := 0x3900 * 256 + (0x2 + i)
/-- 0x3900:0A Records (R597 U16). -/
abbrev ashRecords : Nat := 0x3900 * 256 + 0xA
/-- 0x3900:0B Full (R597 BOOL). -/
abbrev ashFull : Nat := 0x3900 * 256 + 0xB
/-- 0x3900:0C Lost events (R597 U32). -/
abbrev ashLostEvents : Nat := 0x3900 * 256 + 0xC
/-- 0x3900:0D Clear (R597 U16). -/
abbrev ashClear : Nat := 0x3900 * 256 + 0xD
/-- 0x3900:0E Media status (R597 U16). -/
abbrev ashMediaStatus : Nat := 0x3900 * 256 + 0xE
/-- 0x3900:0F Merge window (R597 U8). -/
abbrev ashMergeWindow : Nat := 0x3900 * 256 + 0xF
/-- 0x3900:10 Queue high water (R597 U8). -/
abbrev ashQueueHighWater : Nat := 0x3900 * 256 + 0x10
/-- 0x3A00:01-06 TS0–TS5 (R618 F32). -/
abbrev thermalTS (i : Nat) : Nat := 0x3A00 * 256 + (0x1 + i)
/-- 0x3A00:08 Status (R618 U16). -/
abbrev thermalStatus : Nat := 0x3A00 * 256 + 0x8
/-- 0x3A00:09 Measurements (R618 U32). -/
abbrev thermalMeasurements : Nat := 0x3A00 * 256 + 0x9
/-- 0x3A00:0A Automatic restart (R618 BOOL). -/
abbrev thermalAutomaticRestart : Nat := 0x3A00 * 256 + 0xA
/-- 0x3A00:0B Restart (R618 U8). -/
abbrev thermalRestart : Nat := 0x3A00 * 256 + 0xB
/-- 0x3A00:0C Automatic restarts, last hour (R618 U8). -/
abbrev thermalAutomaticRestartsLastHour : Nat := 0x3A00 * 256 + 0xC
/-- 0x3A00:0D Ambient channel (R618 U8). -/
abbrev thermalAmbientChannel : Nat := 0x3A00 * 256 + 0xD
/-- 0x3A00:0E Ambient in use (R618 F32). -/
abbrev thermalAmbientInUse : Nat := 0x3A00 * 256 + 0xE
/-- 0x3A00:0F Derating factor (R618 U16). -/
abbrev thermalDeratingFactor : Nat := 0x3A00 * 256 + 0xF
/-- 0x3A00:10 Bank enable (R618 U8). -/
abbrev thermalBankEnable : Nat := 0x3A00 * 256 + 0x10
/-- 0x3A00:11 Last shutdown sensor (R618 U8). -/
abbrev thermalLastShutdownSensor : Nat := 0x3A00 * 256 + 0x11
/-- 0x3A00:12 Last shutdown reading (R618 F32). -/
abbrev thermalLastShutdownReading : Nat := 0x3A00 * 256 + 0x12
/-- 0x3A00:13 Shutdowns (R618 U32). -/
abbrev thermalShutdowns : Nat := 0x3A00 * 256 + 0x13
/-- 0x3A00:14 EST throttle time (R618 U32). -/
abbrev thermalESTThrottleTime : Nat := 0x3A00 * 256 + 0x14
/-- 0x3A00:15 Bank throttle time (R618 U32). -/
abbrev thermalBankThrottleTime : Nat := 0x3A00 * 256 + 0x15
/-- 0x3A00:16 Clear statistics (R618 U8). -/
abbrev thermalClearStatistics : Nat := 0x3A00 * 256 + 0x16
/-- 0x1000:00 Device type (R510 U32). -/
abbrev devtypeDeviceType : Nat := 0x1000 * 256 + 0x0
/-- 0x1001:00 Error register (R510 U8). -/
abbrev errregErrorRegister : Nat := 0x1001 * 256 + 0x0
/-- 0x1003:00 Number of errors (R510 U8). -/
abbrev errhistNumberOfErrors : Nat := 0x1003 * 256 + 0x0
/-- 0x1003:01-08 Error field (R510 U32). -/
abbrev errhistErrorField (i : Nat) : Nat := 0x1003 * 256 + (0x1 + i)
/-- 0x1005:00 COB ID (R510 U32). -/
abbrev synccobCOBID : Nat := 0x1005 * 256 + 0x0
/-- 0x1006:00 Cycle period (R510 U32). -/
abbrev syncperiodCyclePeriod : Nat := 0x1006 * 256 + 0x0
/-- 0x1010:01-03 Store (R510 U32). -/
abbrev storeStore (i : Nat) : Nat := 0x1010 * 256 + (0x1 + i)
/-- 0x1011:01-03 Restore (R510 U32). -/
abbrev restoreRestore (i : Nat) : Nat := 0x1011 * 256 + (0x1 + i)
/-- 0x1014:00 COB ID (R510 U32). -/
abbrev emcycobCOBID : Nat := 0x1014 * 256 + 0x0
/-- 0x1015:00 Inhibit time (R510 U16). -/
abbrev emcyinhInhibitTime : Nat := 0x1015 * 256 + 0x0
/-- 0x1016:01-04 Consumer (R510 U32). -/
abbrev hbconsConsumer (i : Nat) : Nat := 0x1016 * 256 + (0x1 + i)
/-- 0x1017:00 Time (R510 U16). -/
abbrev hbprodTime : Nat := 0x1017 * 256 + 0x0
/-- 0x1018:01 Vendor ID (R510 U32). -/
abbrev identityVendorID : Nat := 0x1018 * 256 + 0x1
/-- 0x1018:02 Product code (R510 U32). -/
abbrev identityProductCode : Nat := 0x1018 * 256 + 0x2
/-- 0x1018:03 Revision (R510 U32). -/
abbrev identityRevision : Nat := 0x1018 * 256 + 0x3
/-- 0x1018:04 Serial (R510 U32). -/
abbrev identitySerial : Nat := 0x1018 * 256 + 0x4
/-- 0x1019:00 Overflow (R510 U8). -/
abbrev synccntOverflow : Nat := 0x1019 * 256 + 0x0
/-- 0x1200:01 COB client to server (R510 U32). -/
abbrev sdoserverCOBClientToServer : Nat := 0x1200 * 256 + 0x1
/-- 0x1200:02 COB server to client (R510 U32). -/
abbrev sdoserverCOBServerToClient : Nat := 0x1200 * 256 + 0x2
/-- 0x1400+n:01 COB ID (R510 U32). -/
abbrev rpdoCOBID (n : Nat) : Nat := (0x1400 + n) * 256 + 0x1
/-- 0x1400+n:02 Transmission type (R510 U8). -/
abbrev rpdoTransmissionType (n : Nat) : Nat := (0x1400 + n) * 256 + 0x2
/-- 0x1400+n:03 Inhibit time (R510 U16). -/
abbrev rpdoInhibitTime (n : Nat) : Nat := (0x1400 + n) * 256 + 0x3
/-- 0x1400+n:05 Event timer (R510 U16). -/
abbrev rpdoEventTimer (n : Nat) : Nat := (0x1400 + n) * 256 + 0x5
/-- 0x1600+n:00 Count (R510 U8). -/
abbrev rpdomapCount (n : Nat) : Nat := (0x1600 + n) * 256 + 0x0
/-- 0x1600+n:01-08 Entry (R510 U32). -/
abbrev rpdomapEntry (n : Nat) (i : Nat) : Nat := (0x1600 + n) * 256 + (0x1 + i)
/-- 0x1800+n:01 COB ID (R510 U32). -/
abbrev tpdoCOBID (n : Nat) : Nat := (0x1800 + n) * 256 + 0x1
/-- 0x1800+n:02 Transmission type (R510 U8). -/
abbrev tpdoTransmissionType (n : Nat) : Nat := (0x1800 + n) * 256 + 0x2
/-- 0x1800+n:03 Inhibit time (R510 U16). -/
abbrev tpdoInhibitTime (n : Nat) : Nat := (0x1800 + n) * 256 + 0x3
/-- 0x1800+n:05 Event timer (R510 U16). -/
abbrev tpdoEventTimer (n : Nat) : Nat := (0x1800 + n) * 256 + 0x5
/-- 0x1800+n:06 Sync start (R510 U8). -/
abbrev tpdoSyncStart (n : Nat) : Nat := (0x1800 + n) * 256 + 0x6
/-- 0x1A00+n:00 Count (R510 U8). -/
abbrev tpdomapCount (n : Nat) : Nat := (0x1A00 + n) * 256 + 0x0
/-- 0x1A00+n:01-08 Entry (R510 U32). -/
abbrev tpdomapEntry (n : Nat) (i : Nat) : Nat := (0x1A00 + n) * 256 + (0x1 + i)

end Sys2Proof.Machine.Key
end

