-- ==== Sys2Proof/Machine/Objects.lean ====
section
/-! DEFINITION. The object dictionary's tables: every subindex the spec's object tables list (R4, R85, R88, R89, R111,
R112, R128, R131, R135, R140-R143, R147, R152, R193, R194, R217, R218, R259, R261, R263, R286, R332, R334, R337-R340,
R364, R365, R397, R401, R429, R431, R432, R434-R436, R464, R465, R473, R480, R510, R516, R518-R520, R559-R566, R577,
R597, R618), with its type (R115), right, level, default (R12) and range. F32 defaults and bounds are binary32 words. -/

namespace Sys2Proof.Machine

/-- The types of R115; VIS and DOM carry their shortest and longest length through the row's bounds. -/
inductive ObjType where
  | bool | u8 | u16 | u32 | i16 | i32 | q15 | f32 | vis | dom
deriving DecidableEq, Repr

/-- The access rights of the conventions chapter. -/
inductive Right where
  | ro | rw | wo | rs
deriving DecidableEq, Repr

/-- One row of an object table: the subindexes `lo`-`hi`, and what the table says of each. `also` is one further value
the range admits (0xFF none, 0 off); `mult` is the multiple a DOM's length must be of (R639). -/
structure Row where
  lo    : Nat
  hi    : Nat
  ty    : ObjType
  right : Right
  level : Level
  dflt  : Int
  rmin  : Int
  rmax  : Int
  also  : Option Int
  mult  : Nat
deriving DecidableEq, Repr

/-- The rows of `count` objects from index `base` on. -/
structure Block where
  base  : Nat
  count : Nat
  rows  : List Row
deriving DecidableEq, Repr

/-- Object 0x2002 (R4). -/
def rowsFamily : List Row :=
  [
    ⟨0, 0, .u8, .ro, .operator, 0xA, 0, 0xFF, none, 1⟩,
    ⟨1, 1, .u8, .ro, .operator, 0x40, 0, 0xFF, none, 1⟩,
    ⟨2, 2, .u8, .ro, .operator, 8, 0, 0xFF, none, 1⟩,
    ⟨3, 3, .u8, .ro, .operator, 0x40, 0, 0xFF, none, 1⟩,
    ⟨4, 4, .u8, .ro, .operator, 4, 0, 0xFF, none, 1⟩,
    ⟨5, 5, .u8, .ro, .operator, 0x14, 0, 0xFF, none, 1⟩,
    ⟨6, 6, .u8, .ro, .operator, 0x10, 0, 0xFF, none, 1⟩,
    ⟨7, 7, .u8, .ro, .operator, 4, 0, 0xFF, none, 1⟩,
    ⟨8, 8, .u8, .ro, .operator, 4, 0, 0xFF, none, 1⟩,
    ⟨9, 9, .u8, .ro, .operator, 2, 0, 0xFF, none, 1⟩,
    ⟨0xA, 0xA, .u8, .ro, .operator, 0x30, 0, 0xFF, none, 1⟩]

/-- Object 0x2200 (R85). -/
def rowsPower : List Row :=
  [
    ⟨0, 0, .u8, .ro, .operator, 0x11, 0, 0xFF, none, 1⟩,
    ⟨1, 1, .u8, .rw, .service, 3, 0, 3, none, 1⟩,
    ⟨2, 2, .u16, .rw, .service, 2, 0, 0x64, none, 1⟩,
    ⟨3, 3, .u16, .rw, .service, 0x1F, 0, 0xFFFF, none, 1⟩,
    ⟨4, 4, .u16, .ro, .operator, 0, 0, 0xFFFF, none, 1⟩,
    ⟨5, 5, .u8, .ro, .operator, 0, 0, 0xFF, none, 1⟩,
    ⟨6, 6, .u16, .ro, .operator, 0, 0, 0xFFFF, none, 1⟩,
    ⟨7, 7, .u8, .ro, .operator, 0, 0, 0xFF, none, 1⟩,
    ⟨8, 8, .u32, .ro, .operator, 0xFFFFFFFF, 0, 0xFFFFFFFF, none, 1⟩,
    ⟨9, 9, .u8, .ro, .operator, 0, 0, 0xFF, none, 1⟩,
    ⟨0xA, 0xA, .u32, .ro, .operator, 0, 0, 0xFFFFFFFF, none, 1⟩,
    ⟨0xB, 0xB, .u32, .ro, .operator, 0, 0, 0xFFFFFFFF, none, 1⟩,
    ⟨0xC, 0xC, .u32, .ro, .operator, 0, 0, 0xFFFFFFFF, none, 1⟩,
    ⟨0xD, 0xD, .u32, .ro, .operator, 0, 0, 0xFFFFFFFF, none, 1⟩,
    ⟨0xE, 0xE, .u8, .wo, .service, 0, 1, 1, none, 1⟩,
    ⟨0xF, 0xF, .u32, .rw, .service, 0, 0, 0xFFFFFFFF, none, 1⟩,
    ⟨0x10, 0x10, .u32, .rw, .service, 0, 0, 0x15180, none, 1⟩,
    ⟨0x11, 0x11, .u32, .rw, .service, 0, 0, 0x1517F, none, 1⟩]

/-- Object 0x2201 (R88). -/
def rowsContact : List Row :=
  [
    ⟨0, 0, .u8, .ro, .operator, 3, 0, 0xFF, none, 1⟩,
    ⟨1, 1, .u32, .rw, .operator, 0, 0, 0x278D00, none, 1⟩,
    ⟨2, 2, .u32, .ro, .operator, 0, 0, 0xFFFFFFFF, none, 1⟩,
    ⟨3, 3, .u16, .rw, .service, 0x1E, 1, 0xE10, none, 1⟩]

/-- Object 0x3B00 (R89). -/
def rowsSupply : List Row :=
  [
    ⟨0, 0, .u8, .ro, .operator, 0xA, 0, 0xFF, none, 1⟩,
    ⟨1, 1, .u16, .ro, .operator, 0, 0, 0xFFFF, none, 1⟩,
    ⟨2, 2, .u16, .ro, .operator, 0, 0, 0xFFFF, none, 1⟩,
    ⟨3, 3, .u16, .ro, .operator, 0, 0, 0xFFFF, none, 1⟩,
    ⟨4, 4, .u16, .ro, .operator, 0, 0, 0xFFFF, none, 1⟩,
    ⟨5, 5, .u16, .ro, .operator, 0, 0, 0xFFFF, none, 1⟩,
    ⟨6, 6, .u16, .ro, .operator, 0, 0, 0xFFFF, none, 1⟩,
    ⟨7, 7, .u16, .ro, .operator, 0, 0, 0xFFFF, none, 1⟩,
    ⟨8, 8, .u32, .ro, .operator, 0, 0, 0xFFFFFFFF, none, 1⟩,
    ⟨9, 9, .u16, .ro, .operator, 0, 0, 0xFFFF, none, 1⟩,
    ⟨0xA, 0xA, .u8, .wo, .service, 0, 1, 1, none, 1⟩]

/-- Object 0x2001 (R111). -/
def rowsProc : List Row :=
  [
    ⟨0, 0, .u8, .ro, .operator, 3, 0, 0xFF, none, 1⟩,
    ⟨1, 1, .u8, .ro, .operator, 0, 0, 0xFF, none, 1⟩,
    ⟨2, 2, .u8, .wo, .operator, 0, 1, 5, none, 1⟩,
    ⟨3, 3, .u16, .ro, .operator, 0, 0, 0xFFFF, none, 1⟩]

/-- Object 0x2300 (R112). -/
def rowsStart : List Row :=
  [
    ⟨0, 0, .u8, .ro, .operator, 0x13, 0, 0xFF, none, 1⟩,
    ⟨1, 1, .u8, .ro, .operator, 0, 0, 0xFF, none, 1⟩,
    ⟨2, 2, .u8, .wo, .operator, 0, 0x5A, 0x5A, none, 1⟩,
    ⟨3, 3, .u8, .rw, .service, 0, 0, 1, none, 1⟩,
    ⟨4, 4, .u16, .rw, .service, 0x1E, 5, 0x12C, none, 1⟩,
    ⟨5, 5, .u8, .rw, .service, 3, 2, 7, none, 1⟩,
    ⟨6, 6, .u32, .ro, .operator, 0, 0, 0xFFFFFFFF, none, 1⟩,
    ⟨7, 7, .u32, .ro, .operator, 0, 0, 0xFFFFFFFF, none, 1⟩,
    ⟨8, 8, .u32, .ro, .operator, 0, 0, 0xFFFFFFFF, none, 1⟩,
    ⟨9, 9, .bool, .ro, .operator, 0, 0, 1, none, 1⟩,
    ⟨0xA, 0xA, .u16, .wo, .service, 0, 0x7E51, 0x7E52, none, 1⟩,
    ⟨0xB, 0xB, .u32, .rw, .service, 0, 0xE10, 0x93A80, some 0, 1⟩,
    ⟨0xC, 0xC, .u8, .rw, .service, 0, 0, 1, none, 1⟩,
    ⟨0xD, 0xD, .u8, .ro, .operator, 4, 0, 0xFF, none, 1⟩,
    ⟨0xE, 0xE, .u8, .ro, .operator, 4, 0, 0xFF, none, 1⟩,
    ⟨0xF, 0xF, .u8, .ro, .operator, 0, 0, 0xFF, none, 1⟩,
    ⟨0x10, 0x10, .u8, .ro, .operator, 0, 0, 0xFF, none, 1⟩,
    ⟨0x11, 0x11, .dom, .wo, .service, 0, 0, 0x400000, none, 1⟩,
    ⟨0x12, 0x12, .dom, .rw, .service, 0, 0, 0x38000, none, 1⟩,
    ⟨0x13, 0x13, .u32, .ro, .operator, 0, 0, 0xFFFFFFFF, none, 1⟩]

/-- Object 0x2003 (R128). -/
def rowsAbort : List Row :=
  [
    ⟨0, 0, .u8, .ro, .operator, 9, 0, 0xFF, none, 1⟩,
    ⟨1, 8, .u32, .ro, .operator, 0xF, 0, 0xFFFFFFFF, none, 1⟩,
    ⟨9, 9, .u32, .ro, .operator, 0, 0, 0xFFFFFFFF, none, 1⟩]

/-- Object 0x2000 (R131). Serial number, unique ID, hardware issue and boot ROM version are set at manufacture to values the manual does
not give; they are 0 at reset here (log 3). -/
def rowsIdent : List Row :=
  [
    ⟨0, 0, .u8, .ro, .operator, 0x1B, 0, 0xFF, none, 1⟩,
    ⟨1, 1, .vis, .ro, .operator, 0, 0, 8, none, 1⟩,
    ⟨2, 2, .u32, .ro, .operator, 0, 0, 0xFFFFFFFF, none, 1⟩,
    ⟨3, 3, .u32, .ro, .operator, 0, 0, 0xFFFFFFFF, none, 1⟩,
    ⟨4, 4, .u32, .ro, .operator, 0, 0, 0xFFFFFFFF, none, 1⟩,
    ⟨5, 5, .u16, .ro, .operator, 0, 0, 0xFFFF, none, 1⟩,
    ⟨6, 6, .u32, .ro, .operator, 0, 0, 0xFFFFFFFF, none, 1⟩,
    ⟨7, 7, .u32, .ro, .operator, 0, 0, 0xFFFFFFFF, none, 1⟩,
    ⟨0x10, 0x17, .u8, .ro, .operator, 0, 0, 0xFF, none, 1⟩,
    ⟨0x18, 0x18, .u32, .wo, .operator, 0, 0, 0xFFFFFFFF, none, 1⟩,
    ⟨0x19, 0x19, .u32, .wo, .service, 0x1D5A, 1, 0xFFFFFFFF, none, 1⟩,
    ⟨0x1A, 0x1A, .dom, .ro, .operator, 0, 0x20, 0x20, none, 1⟩,
    ⟨0x1B, 0x1B, .dom, .wo, .operator, 0, 0x40, 0x40, none, 1⟩]

/-- Object 0x2101 (R135). -/
def rowsCfg : List Row :=
  [
    ⟨0, 0, .u8, .ro, .operator, 4, 0, 0xFF, none, 1⟩,
    ⟨1, 1, .u32, .ro, .operator, 0, 0, 0xFFFFFFFF, none, 1⟩,
    ⟨2, 2, .u32, .ro, .operator, 0, 0, 0xFFFFFFFF, none, 1⟩,
    ⟨3, 3, .bool, .ro, .operator, 0, 0, 1, none, 1⟩,
    ⟨4, 4, .u16, .ro, .operator, 0, 0, 0xFFFF, none, 1⟩]

/-- Object 0x2010 (R140). -/
def rowsHbeat : List Row :=
  [
    ⟨0, 0, .u8, .ro, .operator, 2, 0, 0xFF, none, 1⟩,
    ⟨1, 1, .u16, .rw, .operator, 0, 0, 0xFFFF, none, 1⟩,
    ⟨2, 2, .u8, .ro, .operator, 0xFF, 0, 0xFF, none, 1⟩]

/-- Object 0x2011 (R141). -/
def rowsHost : List Row :=
  [
    ⟨0, 0, .u8, .ro, .operator, 3, 0, 0xFF, none, 1⟩,
    ⟨1, 1, .u32, .rw, .service, 0x1388, 0x64, 0xEA60, none, 1⟩,
    ⟨2, 2, .u8, .rw, .service, 0xFE, 0, 0xFF, none, 1⟩,
    ⟨3, 3, .u8, .rw, .service, 0, 0, 1, none, 1⟩]

/-- Object 0x2012 (R142). -/
def rowsLost : List Row :=
  [
    ⟨0, 0, .u8, .ro, .operator, 5, 0, 0xFF, none, 1⟩,
    ⟨1, 1, .u8, .ro, .operator, 0, 0, 0xFF, none, 1⟩,
    ⟨2, 2, .u32, .ro, .operator, 0, 0, 0xFFFFFFFF, none, 1⟩,
    ⟨3, 3, .u32, .ro, .operator, 0, 0, 0xFFFFFFFF, none, 1⟩,
    ⟨4, 4, .u16, .ro, .operator, 0, 0, 0xFFFF, none, 1⟩,
    ⟨5, 5, .u8, .wo, .operator, 0, 1, 1, none, 1⟩]

/-- Object 0x2013 (R143). -/
def rowsPolicy : List Row :=
  [
    ⟨0, 0, .u8, .ro, .operator, 0x2C, 0, 0xFF, none, 1⟩,
    ⟨1, 0x14, .u8, .rw, .service, 0, 0, 5, none, 1⟩,
    ⟨0x15, 0x24, .u8, .rw, .service, 0, 0, 5, none, 1⟩,
    ⟨0x25, 0x2C, .u8, .rw, .service, 0, 0, 5, none, 1⟩]

/-- Object 0x2110-0x211F (R147). -/
def rowsOverlay : List Row :=
  [
    ⟨0, 0, .u8, .ro, .operator, 4, 0, 0xFF, none, 1⟩,
    ⟨1, 1, .vis, .rw, .service, 0, 0, 0x10, none, 1⟩,
    ⟨2, 2, .u16, .ro, .operator, 0, 0, 0xFFFF, none, 1⟩,
    ⟨3, 3, .dom, .rw, .service, 0, 0, 0x800, none, 8⟩,
    ⟨4, 4, .u32, .ro, .operator, 0, 0, 0xFFFFFFFF, none, 1⟩]

/-- Object 0x2100 (R152). -/
def rowsMode : List Row :=
  [
    ⟨0, 0, .u8, .ro, .operator, 5, 0, 0xFF, none, 1⟩,
    ⟨1, 1, .u8, .rw, .operator, 0, 0, 0x10, none, 1⟩,
    ⟨2, 2, .u8, .ro, .operator, 0, 0, 0xFF, none, 1⟩,
    ⟨3, 3, .u8, .ro, .operator, 0, 0, 0xFF, none, 1⟩,
    ⟨4, 4, .u8, .ro, .operator, 0, 0, 0xFF, none, 1⟩,
    ⟨5, 5, .u32, .ro, .operator, 0, 0, 0xFFFFFFFF, none, 1⟩]

/-- Object 0x2400-0x243F (R193, R218). -/
def rowsChan : List Row :=
  [
    ⟨0, 0, .u8, .ro, .operator, 0x3F, 0, 0xFF, none, 1⟩,
    ⟨1, 1, .bool, .rw, .service, 0, 0, 1, none, 1⟩,
    ⟨2, 2, .u8, .rs, .service, 0, 0, 6, none, 1⟩,
    ⟨3, 3, .u8, .rs, .service, 0, 0, 3, none, 1⟩,
    ⟨4, 4, .u32, .rw, .service, 0x3E8, 1, 0x5265C00, some 0, 1⟩,
    ⟨5, 5, .u32, .rw, .service, 0, 0, 0x5265BFF, none, 1⟩,
    ⟨6, 6, .u16, .rw, .service, 0xA, 1, 0x1388, none, 1⟩,
    ⟨7, 7, .u8, .rw, .service, 1, 0, 6, none, 1⟩,
    ⟨8, 8, .u8, .rw, .service, 2, 0, 5, none, 1⟩,
    ⟨9, 9, .u8, .rw, .service, 2, 0, 3, none, 1⟩,
    ⟨0xA, 0xA, .u8, .rw, .service, 0xFF, 0, 3, some 0xFF, 1⟩,
    ⟨0xB, 0xB, .u16, .rw, .service, 0x3E8, 0x64, 0x3E8, none, 1⟩,
    ⟨0xC, 0xC, .u8, .rw, .service, 0, 0, 1, none, 1⟩,
    ⟨0xD, 0xD, .u8, .rw, .service, 0, 0, 4, none, 1⟩,
    ⟨0xE, 0xE, .u8, .rw, .service, 4, 1, 8, none, 1⟩,
    ⟨0xF, 0xF, .u8, .rw, .service, 0, 0, 3, none, 1⟩,
    ⟨0x10, 0x10, .u32, .rw, .service, 0, 0, 0xFFFFF, none, 1⟩,
    ⟨0x11, 0x11, .u16, .rw, .service, 0, 0, 0xFFFF, none, 1⟩,
    ⟨0x12, 0x12, .u8, .rw, .service, 0xFF, 0, 0x3F, some 0xFF, 1⟩,
    ⟨0x13, 0x13, .u8, .wo, .operator, 0, 1, 1, none, 1⟩,
    ⟨0x14, 0x14, .u32, .ro, .operator, 0, 0, 0xFFFFFFFF, none, 1⟩,
    ⟨0x15, 0x15, .u32, .ro, .operator, 0, 0, 0xFFFFFFFF, none, 1⟩,
    ⟨0x16, 0x16, .u32, .ro, .operator, 0, 0, 0xFFFFFFFF, none, 1⟩,
    ⟨0x17, 0x17, .u8, .ro, .operator, 0, 0, 0xFF, none, 1⟩] ++
  [
    ⟨0x18, 0x18, .u32, .ro, .operator, 0, 0, 0xFFFFFFFF, none, 1⟩,
    ⟨0x19, 0x19, .u32, .ro, .operator, 0, 0, 0xFFFFFFFF, none, 1⟩,
    ⟨0x1A, 0x1A, .u32, .ro, .operator, 0, 0, 0xFFFFFFFF, none, 1⟩,
    ⟨0x1B, 0x1B, .u16, .ro, .operator, 0, 0, 0xFFFF, none, 1⟩,
    ⟨0x1C, 0x1C, .u32, .ro, .operator, 0, 0, 0xFFFFFFFF, none, 1⟩,
    ⟨0x1D, 0x1D, .u32, .ro, .operator, 0, 0, 0xFFFFFFFF, none, 1⟩,
    ⟨0x1E, 0x1E, .u32, .ro, .operator, 0, 0, 0xFFFFFFFF, none, 1⟩,
    ⟨0x1F, 0x1F, .u32, .ro, .operator, 0, 0, 0xFFFFFFFF, none, 1⟩,
    ⟨0x20, 0x20, .u32, .ro, .operator, 0, 0, 0xFFFFFFFF, none, 1⟩,
    ⟨0x30, 0x30, .f32, .ro, .operator, 0, 0xFF7FFFFF, 0x7F7FFFFF, none, 1⟩,
    ⟨0x31, 0x31, .q15, .ro, .operator, 0, (-0x8000), 0x7FFF, none, 1⟩,
    ⟨0x32, 0x32, .u16, .ro, .operator, 0xFFFF, 0, 0xFFFF, none, 1⟩,
    ⟨0x33, 0x33, .u8, .ro, .operator, 3, 0, 0xFF, none, 1⟩,
    ⟨0x34, 0x34, .u16, .ro, .operator, 0, 0, 0xFFFF, none, 1⟩,
    ⟨0x35, 0x35, .u8, .ro, .operator, 0, 0, 0xFF, none, 1⟩,
    ⟨0x36, 0x36, .u8, .ro, .operator, 0, 0, 0xFF, none, 1⟩,
    ⟨0x37, 0x37, .f32, .ro, .operator, 0, 0xFF7FFFFF, 0x7F7FFFFF, none, 1⟩,
    ⟨0x38, 0x38, .u32, .ro, .operator, 0, 0, 0xFFFFFFFF, none, 1⟩,
    ⟨0x39, 0x39, .f32, .ro, .operator, 0, 0xFF7FFFFF, 0x7F7FFFFF, none, 1⟩,
    ⟨0x3A, 0x3A, .f32, .ro, .operator, 0, 0xFF7FFFFF, 0x7F7FFFFF, none, 1⟩,
    ⟨0x3B, 0x3B, .u32, .ro, .operator, 0, 0, 0xFFFFFFFF, none, 1⟩,
    ⟨0x3C, 0x3C, .u8, .wo, .service, 0, 1, 1, none, 1⟩,
    ⟨0x3D, 0x3D, .f32, .ro, .operator, 0, 0xFF7FFFFF, 0x7F7FFFFF, none, 1⟩,
    ⟨0x3E, 0x3E, .f32, .ro, .operator, 0, 0xFF7FFFFF, 0x7F7FFFFF, none, 1⟩] ++
  [
    ⟨0x3F, 0x3F, .u32, .ro, .operator, 0, 0, 0xFFFFFFFF, none, 1⟩]

/-- Object 0x2480-0x2487 (R194). -/
def rowsConv : List Row :=
  [
    ⟨0, 0, .u8, .ro, .operator, 0xB, 0, 0xFF, none, 1⟩,
    ⟨1, 1, .u8, .ro, .operator, 0, 0, 0xFF, none, 1⟩,
    ⟨2, 2, .u16, .ro, .operator, 0, 0, 0xFFFF, none, 1⟩,
    ⟨3, 3, .u16, .ro, .operator, 0, 0, 0xFFFF, none, 1⟩,
    ⟨4, 4, .u32, .ro, .operator, 0, 0, 0xFFFFFFFF, none, 1⟩,
    ⟨5, 5, .u8, .ro, .operator, 0, 0, 0xFF, none, 1⟩,
    ⟨6, 6, .u32, .ro, .operator, 0, 0, 0xFFFFFFFF, none, 1⟩,
    ⟨7, 7, .u32, .ro, .operator, 0, 0, 0xFFFFFFFF, none, 1⟩,
    ⟨8, 8, .u32, .ro, .operator, 0, 0, 0xFFFFFFFF, none, 1⟩,
    ⟨9, 9, .u8, .wo, .service, 0, 1, 1, none, 1⟩,
    ⟨0xA, 0xA, .i32, .ro, .operator, 0, (-0x80000000), 0x7FFFFFFF, none, 1⟩,
    ⟨0xB, 0xB, .u8, .wo, .service, 0, 1, 1, none, 1⟩]

/-- Object 0x2500-0x253F (R217). -/
def rowsCoef : List Row :=
  [
    ⟨0, 0, .u8, .ro, .operator, 0x25, 0, 0xFF, none, 1⟩,
    ⟨1, 1, .u8, .rw, .service, 0, 0, 4, none, 1⟩,
    ⟨2, 2, .u8, .rw, .service, 0, 0, 2, none, 1⟩,
    ⟨3, 3, .f32, .rw, .service, 0, 0xFF7FFFFF, 0x7F7FFFFF, none, 1⟩,
    ⟨4, 4, .f32, .rw, .service, 0x3F800000, 0xFF7FFFFF, 0x7F7FFFFF, none, 1⟩,
    ⟨5, 5, .u8, .rw, .service, 0, 0, 9, none, 1⟩,
    ⟨6, 6, .u8, .ro, .operator, 0, 0, 0xFF, none, 1⟩,
    ⟨7, 7, .f32, .rw, .service, 0, 0xFF7FFFFF, 0x7F7FFFFF, none, 1⟩,
    ⟨8, 8, .f32, .rw, .service, 0x42C80000, 0xFF7FFFFF, 0x7F7FFFFF, none, 1⟩,
    ⟨9, 9, .f32, .rw, .service, 0xC9742400, 0xFF7FFFFF, 0x7F7FFFFF, none, 1⟩,
    ⟨0xA, 0xA, .f32, .rw, .service, 0x49742400, 0xFF7FFFFF, 0x7F7FFFFF, none, 1⟩,
    ⟨0xB, 0xB, .f32, .rw, .service, 0, 0xFF7FFFFF, 0x7F7FFFFF, none, 1⟩,
    ⟨0xC, 0xC, .bool, .rw, .service, 0, 0, 1, none, 1⟩,
    ⟨0xD, 0xD, .u8, .rw, .service, 3, 1, 0x10, none, 1⟩,
    ⟨0xE, 0xE, .u8, .rw, .service, 3, 1, 0x10, none, 1⟩,
    ⟨0xF, 0xF, .u8, .rw, .service, 0, 0, 1, none, 1⟩,
    ⟨0x10, 0x10, .f32, .rw, .service, 0x41A00000, 0xFF7FFFFF, 0x7F7FFFFF, none, 1⟩,
    ⟨0x11, 0x24, .f32, .rw, .service, 0, 0xFF7FFFFF, 0x7F7FFFFF, none, 1⟩,
    ⟨0x25, 0x25, .f32, .rw, .service, 0, 0xFF7FFFFF, 0x7F7FFFFF, none, 1⟩]

/-- Object 0x2600-0x263F (R259). -/
def rowsLoop : List Row :=
  [
    ⟨0, 0, .u8, .ro, .operator, 0x44, 0, 0xFF, none, 1⟩,
    ⟨1, 1, .bool, .rw, .service, 0, 0, 1, none, 1⟩,
    ⟨2, 2, .u8, .rw, .service, 1, 0, 3, none, 1⟩,
    ⟨3, 3, .u8, .rw, .operator, 0xFF, 0, 3, some 0xFF, 1⟩,
    ⟨4, 4, .u16, .rw, .service, 0x10, 1, 0xFFFF, none, 1⟩,
    ⟨5, 5, .u16, .rw, .service, 0, 0, 0xFFFF, none, 1⟩,
    ⟨6, 6, .u8, .rw, .service, 2, 0, 0xFF, none, 1⟩,
    ⟨7, 7, .u8, .rw, .service, 0, 0, 0xFF, none, 1⟩,
    ⟨8, 8, .u8, .rw, .service, 1, 0, 0xFF, none, 1⟩,
    ⟨9, 9, .u8, .rw, .service, 0, 0, 0xFF, none, 1⟩,
    ⟨0xA, 0xA, .u8, .rw, .service, 0, 0, 0xFF, none, 1⟩,
    ⟨0xB, 0xB, .u8, .rw, .service, 0, 0, 0xFF, none, 1⟩,
    ⟨0xC, 0xC, .u32, .rw, .service, 0, 0, 0xFFFFFFFF, none, 1⟩,
    ⟨0xD, 0xD, .u32, .rw, .service, 0, 0, 0xFFFFFFFF, none, 1⟩,
    ⟨0xE, 0xE, .u32, .rw, .service, 0, 0, 0xFFFFFFFF, none, 1⟩,
    ⟨0xF, 0xF, .q15, .rw, .service, 0, (-0x8000), 0x7FFF, none, 1⟩,
    ⟨0x10, 0x10, .q15, .rw, .service, 0, 0, 0x7FFF, none, 1⟩,
    ⟨0x11, 0x11, .q15, .rw, .service, 0, (-0x8000), 0x7FFF, none, 1⟩,
    ⟨0x12, 0x12, .u8, .rw, .service, 0, 0, 7, none, 1⟩,
    ⟨0x13, 0x13, .q15, .rw, .service, 0, (-0x8000), 0x7FFF, none, 1⟩,
    ⟨0x14, 0x14, .u8, .rw, .service, 0, 0, 7, none, 1⟩,
    ⟨0x15, 0x15, .q15, .rw, .service, 0, (-0x8000), 0x7FFF, none, 1⟩,
    ⟨0x16, 0x16, .u8, .rw, .service, 0, 0, 7, none, 1⟩,
    ⟨0x17, 0x17, .q15, .rw, .service, 0, 0, 0x7FFF, none, 1⟩] ++
  [
    ⟨0x18, 0x18, .q15, .rw, .service, 0, (-0x8000), 0x7FFF, none, 1⟩,
    ⟨0x19, 0x19, .u8, .rw, .service, 0, 0, 7, none, 1⟩,
    ⟨0x1A, 0x1A, .q15, .rw, .service, (-0x8000), (-0x8000), 0x7FFF, none, 1⟩,
    ⟨0x1B, 0x1B, .q15, .rw, .service, 0x7FFF, (-0x8000), 0x7FFF, none, 1⟩,
    ⟨0x1C, 0x1C, .q15, .rw, .service, 0, (-0x8000), 0x7FFF, none, 1⟩,
    ⟨0x1D, 0x1D, .q15, .rw, .service, 0x7FFF, (-0x8000), 0x7FFF, none, 1⟩,
    ⟨0x1E, 0x1E, .q15, .rw, .service, 0, 0, 0x7FFF, none, 1⟩,
    ⟨0x1F, 0x1F, .q15, .rw, .service, 0, (-0x8000), 0x7FFF, none, 1⟩,
    ⟨0x20, 0x20, .u8, .rs, .service, 0, 0, 4, none, 1⟩,
    ⟨0x21, 0x21, .u8, .rs, .service, 0, 0, 0xFF, none, 1⟩,
    ⟨0x22, 0x22, .u32, .rs, .service, 0, 0, 0xFFFFFFFF, none, 1⟩,
    ⟨0x23, 0x23, .q15, .rw, .service, 0xCCD, 0, 0x7FFF, none, 1⟩,
    ⟨0x24, 0x24, .u16, .rw, .service, 0, 0, 0xFFFF, none, 1⟩,
    ⟨0x25, 0x25, .u8, .rw, .service, 0, 0, 3, none, 1⟩,
    ⟨0x26, 0x26, .u16, .rw, .service, 0x3E80, 0, 0xFFFE, none, 1⟩,
    ⟨0x27, 0x27, .u8, .rw, .service, 0, 0, 1, none, 1⟩,
    ⟨0x28, 0x28, .u8, .rw, .service, 0xFF, 0, 0x3F, some 0xFF, 1⟩,
    ⟨0x29, 0x29, .q15, .rw, .operator, 0, (-0x8000), 0x7FFF, none, 1⟩,
    ⟨0x2A, 0x2A, .bool, .rw, .operator, 0, 0, 1, none, 1⟩,
    ⟨0x2B, 0x2B, .u8, .wo, .operator, 0, 1, 1, none, 1⟩,
    ⟨0x30, 0x30, .u16, .ro, .operator, 0, 0, 0xFFFF, none, 1⟩,
    ⟨0x31, 0x31, .u8, .ro, .operator, 0xFF, 0, 0xFF, none, 1⟩,
    ⟨0x32, 0x32, .u8, .ro, .operator, 4, 0, 0xFF, none, 1⟩,
    ⟨0x33, 0x33, .q15, .ro, .operator, 0, (-0x8000), 0x7FFF, none, 1⟩] ++
  [
    ⟨0x34, 0x34, .q15, .ro, .operator, 0, (-0x8000), 0x7FFF, none, 1⟩,
    ⟨0x35, 0x35, .q15, .ro, .operator, 0, (-0x8000), 0x7FFF, none, 1⟩,
    ⟨0x36, 0x36, .q15, .ro, .operator, 0, (-0x8000), 0x7FFF, none, 1⟩,
    ⟨0x37, 0x37, .q15, .ro, .operator, 0, (-0x8000), 0x7FFF, none, 1⟩,
    ⟨0x38, 0x38, .q15, .ro, .operator, 0, (-0x8000), 0x7FFF, none, 1⟩,
    ⟨0x39, 0x39, .q15, .ro, .operator, 0, (-0x8000), 0x7FFF, none, 1⟩,
    ⟨0x3A, 0x3A, .q15, .ro, .operator, 0, (-0x8000), 0x7FFF, none, 1⟩,
    ⟨0x3B, 0x3B, .q15, .ro, .operator, 0, (-0x8000), 0x7FFF, none, 1⟩,
    ⟨0x3C, 0x3C, .q15, .ro, .operator, 0, (-0x8000), 0x7FFF, none, 1⟩,
    ⟨0x3D, 0x3D, .q15, .ro, .operator, 0, (-0x8000), 0x7FFF, none, 1⟩,
    ⟨0x3E, 0x3E, .u16, .ro, .operator, 0, 0, 0xFFFF, none, 1⟩,
    ⟨0x3F, 0x3F, .u32, .ro, .operator, 0, 0, 0xFFFFFFFF, none, 1⟩,
    ⟨0x40, 0x40, .u32, .ro, .operator, 0, 0, 0xFFFFFFFF, none, 1⟩,
    ⟨0x41, 0x41, .u32, .ro, .operator, 0, 0, 0xFFFFFFFF, none, 1⟩,
    ⟨0x42, 0x42, .u32, .ro, .operator, 0, 0, 0xFFFFFFFF, none, 1⟩,
    ⟨0x43, 0x43, .u32, .ro, .operator, 0, 0, 0xFFFFFFFF, none, 1⟩,
    ⟨0x44, 0x44, .u8, .wo, .service, 0, 1, 1, none, 1⟩]

/-- Object 0x2680 (R261). -/
def rowsBellows : List Row :=
  [
    ⟨0, 0, .u8, .ro, .operator, 0xD, 0, 0xFF, none, 1⟩,
    ⟨1, 1, .u32, .ro, .operator, 0, 0, 0xFFFFFFFF, none, 1⟩,
    ⟨2, 2, .u32, .ro, .operator, 0, 0, 0xFFFFFFFF, none, 1⟩,
    ⟨3, 3, .u8, .ro, .operator, 0, 0, 0xFF, none, 1⟩,
    ⟨4, 4, .u16, .ro, .operator, 0, 0, 0xFFFF, none, 1⟩,
    ⟨5, 5, .u16, .ro, .operator, 0, 0, 0xFFFF, none, 1⟩,
    ⟨6, 6, .u16, .ro, .operator, 0, 0, 0xFFFF, none, 1⟩,
    ⟨7, 7, .u32, .ro, .operator, 0, 0, 0xFFFFFFFF, none, 1⟩,
    ⟨8, 8, .u8, .ro, .operator, 0, 0, 0xFF, none, 1⟩,
    ⟨9, 9, .u32, .ro, .operator, 0, 0, 0xFFFFFFFF, none, 1⟩,
    ⟨0xA, 0xA, .u32, .ro, .operator, 0, 0, 0xFFFFFFFF, none, 1⟩,
    ⟨0xB, 0xB, .u32, .ro, .operator, 0, 0, 0xFFFFFFFF, none, 1⟩,
    ⟨0xC, 0xC, .u32, .ro, .operator, 0, 0, 0xFFFFFFFF, none, 1⟩,
    ⟨0xD, 0xD, .u8, .wo, .service, 0, 1, 1, none, 1⟩]

/-- Object 0x2681 (R263). -/
def rowsTrace : List Row :=
  [
    ⟨0, 0, .u8, .ro, .operator, 0x11, 0, 0xFF, none, 1⟩,
    ⟨1, 1, .u8, .wo, .operator, 0, 1, 3, none, 1⟩,
    ⟨2, 2, .u8, .ro, .operator, 0, 0, 0xFF, none, 1⟩,
    ⟨3, 6, .u16, .rw, .operator, 0, 0, 0xFFFF, none, 1⟩,
    ⟨7, 7, .u16, .rw, .operator, 1, 0, 0xFFFF, none, 1⟩,
    ⟨8, 8, .u8, .rw, .operator, 0, 0, 0xFF, none, 1⟩,
    ⟨9, 9, .u8, .rw, .operator, 0, 0, 0xFF, none, 1⟩,
    ⟨0xA, 0xA, .q15, .rw, .operator, 0, (-0x8000), 0x7FFF, none, 1⟩,
    ⟨0xB, 0xB, .u8, .rw, .operator, 0, 0, 0xFF, none, 1⟩,
    ⟨0xC, 0xC, .u8, .rw, .operator, 0, 0, 0xFF, none, 1⟩,
    ⟨0xD, 0xD, .u8, .rw, .operator, 0x32, 0, 0xFF, none, 1⟩,
    ⟨0xE, 0xE, .u32, .ro, .operator, 0, 0, 0xFFFFFFFF, none, 1⟩,
    ⟨0xF, 0xF, .u32, .ro, .operator, 0, 0, 0xFFFFFFFF, none, 1⟩,
    ⟨0x10, 0x10, .u16, .ro, .operator, 0, 0, 0xFFFF, none, 1⟩,
    ⟨0x11, 0x11, .dom, .ro, .operator, 0, 0, 0x8000, none, 1⟩]

/-- Object 0x2700-0x273F (R286). -/
def rowsLearn : List Row :=
  [
    ⟨0, 0, .u8, .ro, .operator, 0x24, 0, 0xFF, none, 1⟩,
    ⟨1, 1, .bool, .rw, .service, 0, 0, 1, none, 1⟩,
    ⟨2, 2, .u16, .rw, .service, 0x40, 8, 0x2000, none, 1⟩,
    ⟨3, 3, .u32, .rw, .service, 0, 0, 0x1FFF8, none, 1⟩,
    ⟨4, 4, .q15, .rw, .service, 0, 0, 0x7FFF, none, 1⟩,
    ⟨5, 5, .q15, .rw, .service, 0x4000, 0, 0x7FFF, none, 1⟩,
    ⟨6, 6, .q15, .rw, .service, 0x2000, 0, 0x4000, none, 1⟩,
    ⟨7, 7, .u8, .rw, .service, 2, 0, 0x40, none, 1⟩,
    ⟨8, 8, .q15, .rw, .service, 0x1000, 0, 0x7FFF, none, 1⟩,
    ⟨9, 9, .u8, .rw, .service, 0, 0, 1, none, 1⟩,
    ⟨0xA, 0xA, .u8, .rw, .service, 0, 0, 7, none, 1⟩,
    ⟨0xB, 0xB, .u8, .rw, .service, 4, 0, 0x40, none, 1⟩,
    ⟨0xC, 0xC, .u8, .wo, .operator, 0, 1, 1, none, 1⟩,
    ⟨0xD, 0xD, .u16, .rw, .service, 0x40, 1, 0x1000, none, 1⟩,
    ⟨0x10, 0x10, .u8, .ro, .operator, 0, 0, 0xFF, none, 1⟩,
    ⟨0x11, 0x11, .u16, .ro, .operator, 0, 0, 0xFFFF, none, 1⟩,
    ⟨0x12, 0x12, .u32, .ro, .operator, 0, 0, 0xFFFFFFFF, none, 1⟩,
    ⟨0x13, 0x13, .u32, .ro, .operator, 0, 0, 0xFFFFFFFF, none, 1⟩,
    ⟨0x14, 0x14, .dom, .ro, .operator, 0, 0, 0x4000, none, 1⟩,
    ⟨0x20, 0x20, .u8, .ro, .operator, 0, 0, 0xFF, none, 1⟩,
    ⟨0x21, 0x21, .u8, .ro, .operator, 0, 0, 0xFF, none, 1⟩,
    ⟨0x22, 0x22, .q15, .ro, .operator, 0, (-0x8000), 0x7FFF, none, 1⟩,
    ⟨0x23, 0x23, .u32, .ro, .operator, 0, 0, 0xFFFFFFFF, none, 1⟩,
    ⟨0x24, 0x24, .bool, .ro, .operator, 0, 0, 1, none, 1⟩]

/-- Object 0x3000 (R332). -/
def rowsKelsis : List Row :=
  [
    ⟨0, 0, .u8, .ro, .operator, 0xE, 0, 0xFF, none, 1⟩,
    ⟨1, 1, .u32, .ro, .operator, 0x5DC00, 0, 0xFFFFFFFF, none, 1⟩,
    ⟨2, 2, .u32, .ro, .operator, 0x4FB00, 0, 0xFFFFFFFF, none, 1⟩,
    ⟨3, 3, .u32, .ro, .operator, 0, 0, 0xFFFFFFFF, none, 1⟩,
    ⟨4, 4, .u32, .ro, .operator, 0, 0, 0xFFFFFFFF, none, 1⟩,
    ⟨5, 5, .u32, .ro, .operator, 0, 0, 0xFFFFFFFF, none, 1⟩,
    ⟨6, 6, .u16, .ro, .operator, 0, 0, 0xFFFF, none, 1⟩,
    ⟨7, 7, .u8, .ro, .operator, 0, 0, 0xFF, none, 1⟩,
    ⟨8, 8, .u8, .ro, .operator, 0, 0, 0xFF, none, 1⟩,
    ⟨9, 9, .u32, .ro, .operator, 0, 0, 0xFFFFFFFF, none, 1⟩,
    ⟨0xA, 0xA, .u32, .ro, .operator, 0, 0, 0xFFFFFFFF, none, 1⟩,
    ⟨0xB, 0xB, .u16, .ro, .operator, 0, 0, 0xFFFF, none, 1⟩,
    ⟨0xC, 0xC, .u16, .ro, .operator, 0, 0, 0xFFFF, none, 1⟩,
    ⟨0xD, 0xD, .f32, .ro, .operator, 0x42CAA666, 0xFF7FFFFF, 0x7F7FFFFF, none, 1⟩,
    ⟨0xE, 0xE, .u8, .wo, .service, 0, 1, 1, none, 1⟩]

/-- Object 0x3010-0x3013 (R334). -/
def rowsCol : List Row :=
  [
    ⟨0, 0, .u8, .ro, .operator, 0xDF, 0, 0xFF, none, 1⟩,
    ⟨1, 1, .bool, .rw, .service, 0, 0, 1, none, 1⟩,
    ⟨2, 2, .u8, .rs, .service, 0, 0, 3, none, 1⟩,
    ⟨3, 3, .u16, .rs, .service, 0x80, 0x10, 0x200, none, 1⟩,
    ⟨4, 4, .u8, .rs, .service, 8, 1, 0x10, none, 1⟩,
    ⟨5, 5, .u8, .rs, .service, 0x40, 1, 0x40, none, 1⟩,
    ⟨6, 6, .u8, .rs, .service, 1, 1, 0x3C, none, 1⟩,
    ⟨7, 7, .u8, .rw, .service, 0, 0, 0xF, none, 1⟩,
    ⟨8, 8, .u8, .rw, .service, 8, 1, 0x40, none, 1⟩,
    ⟨9, 9, .f32, .rs, .service, 0x40800000, 0x3DCCCCCD, 0x42480000, none, 1⟩,
    ⟨0xA, 0xA, .f32, .rs, .service, 0x3E99999A, 0x3D4CCCCD, 0x40A00000, none, 1⟩,
    ⟨0xB, 0xB, .f32, .rs, .service, 0x40000000, 0x3DCCCCCD, 0x42480000, none, 1⟩,
    ⟨0xC, 0xC, .u8, .rw, .service, 8, 1, 8, none, 1⟩,
    ⟨0xD, 0xD, .f32, .rw, .service, 0x3F828F5C, 0x3F800000, 0x3FC00000, none, 1⟩,
    ⟨0xE, 0xE, .f32, .rw, .service, 0x40800000, 0x3F800000, 0x41200000, none, 1⟩,
    ⟨0xF, 0xF, .f32, .rw, .service, 0x40C00000, 0x3F800000, 0x42C80000, none, 1⟩,
    ⟨0x10, 0x10, .u16, .rw, .service, 0x258, 0, 0xE10, none, 1⟩,
    ⟨0x11, 0x11, .u16, .rw, .service, 0x258, 0, 0x1C20, none, 1⟩,
    ⟨0x12, 0x12, .u16, .rw, .service, 0x258, 0, 0xE10, none, 1⟩,
    ⟨0x13, 0x13, .u32, .rw, .service, 1, 1, 0xFFFFFFFF, none, 1⟩,
    ⟨0x14, 0x14, .u8, .wo, .service, 0, 1, 1, none, 1⟩,
    ⟨0x15, 0x15, .u16, .rw, .service, 0x78, 1, 0xE10, none, 1⟩,
    ⟨0x16, 0x1D, .u16, .rw, .service, 0, 0, 0xFFFF, none, 1⟩,
    ⟨0x1E, 0x1E, .f32, .rw, .service, 0x41A00000, 0xFF7FFFFF, 0x7F7FFFFF, none, 1⟩] ++
  [
    ⟨0x1F, 0x1F, .f32, .rw, .service, 0x41700000, 0xFF7FFFFF, 0x7F7FFFFF, none, 1⟩,
    ⟨0x20, 0x20, .f32, .rw, .service, 0x428C0000, 0xFF7FFFFF, 0x7F7FFFFF, none, 1⟩,
    ⟨0x21, 0x21, .f32, .rw, .service, 0x42CAA666, 0xFF7FFFFF, 0x7F7FFFFF, none, 1⟩,
    ⟨0x22, 0x22, .f32, .rw, .service, 0, 0xFF7FFFFF, 0x7F7FFFFF, none, 1⟩,
    ⟨0x23, 0x23, .f32, .rw, .service, 0, 0xFF7FFFFF, 0x7F7FFFFF, none, 1⟩,
    ⟨0x24, 0x24, .f32, .rw, .service, 0x41A00000, 0xFF7FFFFF, 0x7F7FFFFF, none, 1⟩,
    ⟨0x25, 0x25, .f32, .rw, .service, 0x41700000, 0xFF7FFFFF, 0x7F7FFFFF, none, 1⟩,
    ⟨0x26, 0x26, .f32, .rw, .service, 0, 0, 0x41A00000, none, 1⟩,
    ⟨0x27, 0x27, .f32, .rw, .service, 0x41A00000, 0, 0x42700000, none, 1⟩,
    ⟨0x28, 0x28, .f32, .rw, .service, 0x3F800000, 0, 0x41A00000, none, 1⟩,
    ⟨0x29, 0x29, .f32, .rw, .service, 0x41700000, 0xC1200000, 0x43020000, none, 1⟩,
    ⟨0x2A, 0x2A, .f32, .rw, .service, 0x40000000, 0, 0x41A00000, none, 1⟩,
    ⟨0x2B, 0x2B, .f32, .rw, .service, 0x3DCCCCCD, 0, 0x3F800000, none, 1⟩,
    ⟨0x2C, 0x2C, .f32, .rw, .service, 0x3D4CCCCD, 0, 0x3F000000, none, 1⟩,
    ⟨0x2D, 0x2D, .f32, .rw, .service, 0x3F800000, 0, 0x41A00000, none, 1⟩,
    ⟨0x2E, 0x2E, .f32, .rw, .service, 0x3F000000, 0, 0x41200000, none, 1⟩,
    ⟨0x2F, 0x2F, .u16, .rw, .service, 0x258, 0xA, 0x1C20, none, 1⟩,
    ⟨0x40, 0x40, .u16, .ro, .operator, 0, 0, 0xFFFF, none, 1⟩,
    ⟨0x41, 0x41, .u16, .ro, .operator, 0, 0, 0xFFFF, none, 1⟩,
    ⟨0x42, 0x42, .f32, .ro, .operator, 0, 0xFF7FFFFF, 0x7F7FFFFF, none, 1⟩,
    ⟨0x43, 0x43, .f32, .ro, .operator, 0, 0xFF7FFFFF, 0x7F7FFFFF, none, 1⟩,
    ⟨0x44, 0x44, .f32, .ro, .operator, 0, 0xFF7FFFFF, 0x7F7FFFFF, none, 1⟩,
    ⟨0x45, 0x45, .f32, .ro, .operator, 0, 0xFF7FFFFF, 0x7F7FFFFF, none, 1⟩,
    ⟨0x46, 0x46, .u16, .ro, .operator, 0, 0, 0xFFFF, none, 1⟩] ++
  [
    ⟨0x47, 0x47, .f32, .ro, .operator, 0, 0xFF7FFFFF, 0x7F7FFFFF, none, 1⟩,
    ⟨0x48, 0x48, .f32, .ro, .operator, 0, 0xFF7FFFFF, 0x7F7FFFFF, none, 1⟩,
    ⟨0x49, 0x49, .f32, .ro, .operator, 0x3F800000, 0xFF7FFFFF, 0x7F7FFFFF, none, 1⟩,
    ⟨0x4A, 0x4A, .u32, .ro, .operator, 0, 0, 0xFFFFFFFF, none, 1⟩,
    ⟨0x4B, 0x4B, .u32, .ro, .operator, 0, 0, 0xFFFFFFFF, none, 1⟩,
    ⟨0x4C, 0x4C, .u32, .ro, .operator, 0, 0, 0xFFFFFFFF, none, 1⟩,
    ⟨0x4D, 0x4D, .u8, .ro, .operator, 0x40, 0, 0xFF, none, 1⟩,
    ⟨0x4E, 0x4E, .u8, .ro, .operator, 0, 0, 0xFF, none, 1⟩,
    ⟨0x4F, 0x4F, .u32, .ro, .operator, 0, 0, 0xFFFFFFFF, none, 1⟩,
    ⟨0x50, 0x50, .u32, .ro, .operator, 0, 0, 0xFFFFFFFF, none, 1⟩,
    ⟨0x51, 0x51, .u32, .ro, .operator, 0, 0, 0xFFFFFFFF, none, 1⟩,
    ⟨0x52, 0x52, .u32, .ro, .operator, 0, 0, 0xFFFFFFFF, none, 1⟩,
    ⟨0x53, 0x53, .u32, .ro, .operator, 0, 0, 0xFFFFFFFF, none, 1⟩,
    ⟨0x54, 0x54, .u32, .rw, .operator, 0, 0, 0xFFFFFFFF, none, 1⟩,
    ⟨0x55, 0x55, .f32, .rw, .operator, 0, 0xFF7FFFFF, 0x7F7FFFFF, none, 1⟩,
    ⟨0x56, 0x56, .u8, .ro, .operator, 0, 0, 0xFF, none, 1⟩,
    ⟨0x57, 0x57, .u8, .wo, .service, 0, 1, 1, none, 1⟩,
    ⟨0x60, 0x7F, .u32, .rw, .service, 0, 0, 0xFFFFFFFF, none, 1⟩,
    ⟨0x80, 0x9F, .f32, .rw, .service, 0x3F800000, 0xFF7FFFFF, 0x7F7FFFFF, none, 1⟩,
    ⟨0xA0, 0xBF, .u16, .rw, .service, 0, 0, 0x708, none, 1⟩,
    ⟨0xC0, 0xDF, .f32, .ro, .operator, 0, 0xFF7FFFFF, 0x7F7FFFFF, none, 1⟩]

/-- Object 0x3020 (R337). -/
def rowsTables : List Row :=
  [
    ⟨0, 0, .u8, .ro, .operator, 0xA, 0, 0xFF, none, 1⟩,
    ⟨1, 1, .u8, .ro, .operator, 0, 0, 0xFF, none, 1⟩,
    ⟨2, 2, .u8, .ro, .operator, 0xFF, 0, 0xFF, none, 1⟩,
    ⟨3, 3, .u32, .ro, .operator, 0, 0, 0xFFFFFFFF, none, 1⟩,
    ⟨4, 4, .u32, .ro, .operator, 0, 0, 0xFFFFFFFF, none, 1⟩,
    ⟨5, 5, .u32, .ro, .operator, 0, 0, 0xFFFFFFFF, none, 1⟩,
    ⟨6, 6, .u16, .ro, .operator, 0, 0, 0xFFFF, none, 1⟩,
    ⟨7, 7, .u8, .wo, .service, 0, 1, 1, none, 1⟩,
    ⟨8, 8, .u8, .ro, .operator, 0, 0, 0xFF, none, 1⟩,
    ⟨9, 9, .dom, .ro, .operator, 0, 0, 0x400, none, 16⟩,
    ⟨0xA, 0xA, .dom, .rw, .vendor, 0, 0, 0x10000, none, 1⟩]

/-- Object 0x3040-0x304F (R338). -/
def rowsGrain : List Row :=
  [
    ⟨0, 0, .u8, .ro, .operator, 0x12, 0, 0xFF, none, 1⟩,
    ⟨1, 1, .vis, .rw, .service, 0, 0, 0x10, none, 1⟩,
    ⟨2, 2, .u8, .rw, .service, 0, 0, 1, none, 1⟩,
    ⟨3, 5, .f32, .rw, .service, 0, 0xFF7FFFFF, 0x7F7FFFFF, none, 1⟩,
    ⟨6, 6, .u8, .rw, .service, 0, 0, 1, none, 1⟩,
    ⟨7, 7, .f32, .rw, .service, 0, 0xFF7FFFFF, 0x7F7FFFFF, none, 1⟩,
    ⟨8, 8, .f32, .rw, .service, 0, 0xFF7FFFFF, 0x7F7FFFFF, none, 1⟩,
    ⟨9, 9, .f32, .rw, .service, 0x3F800000, 0x3DCCCCCD, 0x40A00000, none, 1⟩,
    ⟨0xA, 0xA, .f32, .rw, .service, 0, 0xBF800000, 0x41200000, none, 1⟩,
    ⟨0xB, 0xB, .f32, .rw, .service, 0x3FC00000, 0x3F000000, 0x40A00000, none, 1⟩,
    ⟨0xC, 0xC, .f32, .rw, .service, 0x44160000, 0x42C80000, 0x44BB8000, none, 1⟩,
    ⟨0xD, 0xD, .f32, .rw, .service, 0x41A00000, 0x3DCCCCCD, 0x447A0000, none, 1⟩,
    ⟨0xE, 0xE, .f32, .rw, .service, 0x3F800000, 0x3F800000, 0x40000000, none, 1⟩,
    ⟨0xF, 0xF, .f32, .rw, .service, 0x42700000, 0, 0x43020000, none, 1⟩,
    ⟨0x10, 0x10, .u8, .wo, .service, 0, 0, 0xFF, none, 1⟩,
    ⟨0x11, 0x11, .u32, .ro, .operator, 0, 0, 0xFFFFFFFF, none, 1⟩,
    ⟨0x12, 0x12, .u8, .ro, .operator, 0, 0, 0xFF, none, 1⟩]

/-- Object 0x3060 (R339). -/
def rowsBound : List Row :=
  [
    ⟨0, 0, .u8, .ro, .operator, 0x4E, 0, 0xFF, none, 1⟩,
    ⟨0x10, 0x10, .u8, .rw, .service, 0, 0, 2, none, 1⟩,
    ⟨0x11, 0x11, .u8, .rw, .service, 0, 0, 3, none, 1⟩,
    ⟨0x12, 0x12, .u32, .rw, .service, 0, 0, 0xFFFFFFFF, none, 1⟩,
    ⟨0x13, 0x13, .u32, .rw, .service, 0, 0, 0xFFFFFFFF, none, 1⟩,
    ⟨0x14, 0x14, .u8, .rw, .service, 0, 0, 3, none, 1⟩,
    ⟨0x15, 0x15, .u8, .rw, .service, 0xFF, 0, 0x3F, some 0xFF, 1⟩,
    ⟨0x16, 0x16, .u8, .rw, .service, 0xFF, 0, 0x3F, some 0xFF, 1⟩,
    ⟨0x17, 0x17, .u8, .ro, .operator, 0, 0, 0xFF, none, 1⟩,
    ⟨0x18, 0x18, .u8, .ro, .operator, 0, 0, 0xFF, none, 1⟩,
    ⟨0x19, 0x19, .u32, .ro, .operator, 0, 0, 0xFFFFFFFF, none, 1⟩,
    ⟨0x1A, 0x1A, .u32, .ro, .operator, 0, 0, 0xFFFFFFFF, none, 1⟩,
    ⟨0x1B, 0x1B, .u32, .ro, .operator, 0, 0, 0xFFFFFFFF, none, 1⟩,
    ⟨0x1C, 0x1C, .u32, .ro, .operator, 0, 0, 0xFFFFFFFF, none, 1⟩,
    ⟨0x1D, 0x1D, .u32, .ro, .operator, 0, 0, 0xFFFFFFFF, none, 1⟩,
    ⟨0x1E, 0x1E, .u8, .ro, .operator, 0, 0, 0xFF, none, 1⟩,
    ⟨0x20, 0x20, .u8, .rw, .service, 0, 0, 2, none, 1⟩,
    ⟨0x21, 0x21, .u8, .rw, .service, 0, 0, 3, none, 1⟩,
    ⟨0x22, 0x22, .u32, .rw, .service, 0, 0, 0xFFFFFFFF, none, 1⟩,
    ⟨0x23, 0x23, .u32, .rw, .service, 0, 0, 0xFFFFFFFF, none, 1⟩,
    ⟨0x24, 0x24, .u8, .rw, .service, 0, 0, 3, none, 1⟩,
    ⟨0x25, 0x25, .u8, .rw, .service, 0xFF, 0, 0x3F, some 0xFF, 1⟩,
    ⟨0x26, 0x26, .u8, .rw, .service, 0xFF, 0, 0x3F, some 0xFF, 1⟩,
    ⟨0x27, 0x27, .u8, .ro, .operator, 0, 0, 0xFF, none, 1⟩] ++
  [
    ⟨0x28, 0x28, .u8, .ro, .operator, 0, 0, 0xFF, none, 1⟩,
    ⟨0x29, 0x29, .u32, .ro, .operator, 0, 0, 0xFFFFFFFF, none, 1⟩,
    ⟨0x2A, 0x2A, .u32, .ro, .operator, 0, 0, 0xFFFFFFFF, none, 1⟩,
    ⟨0x2B, 0x2B, .u32, .ro, .operator, 0, 0, 0xFFFFFFFF, none, 1⟩,
    ⟨0x2C, 0x2C, .u32, .ro, .operator, 0, 0, 0xFFFFFFFF, none, 1⟩,
    ⟨0x2D, 0x2D, .u32, .ro, .operator, 0, 0, 0xFFFFFFFF, none, 1⟩,
    ⟨0x2E, 0x2E, .u8, .ro, .operator, 0, 0, 0xFF, none, 1⟩,
    ⟨0x30, 0x30, .u8, .rw, .service, 0, 0, 2, none, 1⟩,
    ⟨0x31, 0x31, .u8, .rw, .service, 0, 0, 3, none, 1⟩,
    ⟨0x32, 0x32, .u32, .rw, .service, 0, 0, 0xFFFFFFFF, none, 1⟩,
    ⟨0x33, 0x33, .u32, .rw, .service, 0, 0, 0xFFFFFFFF, none, 1⟩,
    ⟨0x34, 0x34, .u8, .rw, .service, 0, 0, 3, none, 1⟩,
    ⟨0x35, 0x35, .u8, .rw, .service, 0xFF, 0, 0x3F, some 0xFF, 1⟩,
    ⟨0x36, 0x36, .u8, .rw, .service, 0xFF, 0, 0x3F, some 0xFF, 1⟩,
    ⟨0x37, 0x37, .u8, .ro, .operator, 0, 0, 0xFF, none, 1⟩,
    ⟨0x38, 0x38, .u8, .ro, .operator, 0, 0, 0xFF, none, 1⟩,
    ⟨0x39, 0x39, .u32, .ro, .operator, 0, 0, 0xFFFFFFFF, none, 1⟩,
    ⟨0x3A, 0x3A, .u32, .ro, .operator, 0, 0, 0xFFFFFFFF, none, 1⟩,
    ⟨0x3B, 0x3B, .u32, .ro, .operator, 0, 0, 0xFFFFFFFF, none, 1⟩,
    ⟨0x3C, 0x3C, .u32, .ro, .operator, 0, 0, 0xFFFFFFFF, none, 1⟩,
    ⟨0x3D, 0x3D, .u32, .ro, .operator, 0, 0, 0xFFFFFFFF, none, 1⟩,
    ⟨0x3E, 0x3E, .u8, .ro, .operator, 0, 0, 0xFF, none, 1⟩,
    ⟨0x40, 0x40, .u8, .rw, .service, 0, 0, 2, none, 1⟩,
    ⟨0x41, 0x41, .u8, .rw, .service, 0, 0, 3, none, 1⟩] ++
  [
    ⟨0x42, 0x42, .u32, .rw, .service, 0, 0, 0xFFFFFFFF, none, 1⟩,
    ⟨0x43, 0x43, .u32, .rw, .service, 0, 0, 0xFFFFFFFF, none, 1⟩,
    ⟨0x44, 0x44, .u8, .rw, .service, 0, 0, 3, none, 1⟩,
    ⟨0x45, 0x45, .u8, .rw, .service, 0xFF, 0, 0x3F, some 0xFF, 1⟩,
    ⟨0x46, 0x46, .u8, .rw, .service, 0xFF, 0, 0x3F, some 0xFF, 1⟩,
    ⟨0x47, 0x47, .u8, .ro, .operator, 0, 0, 0xFF, none, 1⟩,
    ⟨0x48, 0x48, .u8, .ro, .operator, 0, 0, 0xFF, none, 1⟩,
    ⟨0x49, 0x49, .u32, .ro, .operator, 0, 0, 0xFFFFFFFF, none, 1⟩,
    ⟨0x4A, 0x4A, .u32, .ro, .operator, 0, 0, 0xFFFFFFFF, none, 1⟩,
    ⟨0x4B, 0x4B, .u32, .ro, .operator, 0, 0, 0xFFFFFFFF, none, 1⟩,
    ⟨0x4C, 0x4C, .u32, .ro, .operator, 0, 0, 0xFFFFFFFF, none, 1⟩,
    ⟨0x4D, 0x4D, .u32, .ro, .operator, 0, 0, 0xFFFFFFFF, none, 1⟩,
    ⟨0x4E, 0x4E, .u8, .ro, .operator, 0, 0, 0xFF, none, 1⟩]

/-- Object 0x3070 (R340). -/
def rowsMap : List Row :=
  [
    ⟨0, 0, .u8, .ro, .operator, 0x20, 0, 0xFF, none, 1⟩,
    ⟨1, 1, .u8, .rw, .operator, 0, 0, 3, none, 1⟩,
    ⟨2, 2, .u8, .rw, .operator, 0, 0, 2, none, 1⟩,
    ⟨3, 3, .u8, .rw, .operator, 0, 0, 0xFF, none, 1⟩,
    ⟨4, 4, .u8, .rw, .operator, 0, 0, 3, none, 1⟩,
    ⟨5, 5, .u8, .wo, .operator, 0, 1, 1, none, 1⟩,
    ⟨6, 6, .u8, .ro, .operator, 0, 0, 0xFF, none, 1⟩,
    ⟨7, 7, .u32, .ro, .operator, 0, 0, 0xFFFFFFFF, none, 1⟩,
    ⟨8, 8, .u16, .rw, .operator, 0, 0, 0xFFFF, none, 1⟩,
    ⟨9, 9, .u16, .ro, .operator, 0, 0, 0xFFFF, none, 1⟩,
    ⟨0xA, 0xA, .u8, .ro, .operator, 0, 0, 0xFF, none, 1⟩,
    ⟨0x10, 0x1F, .f32, .ro, .operator, 0, 0xFF7FFFFF, 0x7F7FFFFF, none, 1⟩,
    ⟨0x20, 0x20, .dom, .ro, .operator, 0, 0, 0x8000, none, 4⟩]

/-- Object 0x3100 (R364). -/
def rowsPredg : List Row :=
  [
    ⟨0, 0, .u8, .ro, .operator, 9, 0, 0xFF, none, 1⟩,
    ⟨1, 1, .u8, .ro, .operator, 0, 0, 0xFF, none, 1⟩,
    ⟨2, 2, .u8, .ro, .operator, 0x14, 0, 0xFF, none, 1⟩,
    ⟨3, 3, .u8, .ro, .operator, 1, 0, 0xFF, none, 1⟩,
    ⟨4, 4, .u8, .ro, .operator, 0x20, 0, 0xFF, none, 1⟩,
    ⟨5, 5, .bool, .ro, .operator, 0, 0, 1, none, 1⟩,
    ⟨6, 6, .u32, .ro, .operator, 0, 0, 0xFFFFFFFF, none, 1⟩,
    ⟨7, 7, .u32, .ro, .operator, 0, 0, 0xFFFFFFFF, none, 1⟩,
    ⟨8, 8, .u32, .ro, .operator, 0, 0, 0xFFFFFFFF, none, 1⟩,
    ⟨9, 9, .u8, .wo, .service, 0, 1, 1, none, 1⟩]

/-- Object 0x3110-0x3113 (R365). -/
def rowsPred : List Row :=
  [
    ⟨0, 0, .u8, .ro, .operator, 0x45, 0, 0xFF, none, 1⟩,
    ⟨1, 1, .bool, .rw, .service, 0, 0, 1, none, 1⟩,
    ⟨2, 2, .u8, .rs, .service, 0, 0, 2, none, 1⟩,
    ⟨3, 3, .u8, .rw, .service, 0x14, 5, 0x78, none, 1⟩,
    ⟨4, 4, .u16, .rw, .service, 0xB4, 0x1E, 0x168, none, 1⟩,
    ⟨5, 5, .u16, .rw, .service, 0x1E, 2, 0x167, none, 1⟩,
    ⟨6, 6, .u8, .rw, .service, 8, 1, 0x10, none, 1⟩,
    ⟨7, 7, .f32, .rw, .service, 0x41700000, 0x40A00000, 0x42200000, none, 1⟩,
    ⟨8, 8, .f32, .rw, .service, 0x3F800000, 0, 0x40A00000, none, 1⟩,
    ⟨9, 9, .f32, .rw, .service, 0x3F800000, 0, 0x447A0000, none, 1⟩,
    ⟨0xA, 0xA, .f32, .rw, .service, 0, 0, 0x41200000, none, 1⟩,
    ⟨0xB, 0xB, .f32, .rw, .service, 0x3DCCCCCD, 0, 0x447A0000, none, 1⟩,
    ⟨0xC, 0xC, .f32, .rw, .service, 0x3C23D70A, 0, 0x447A0000, none, 1⟩,
    ⟨0xD, 0xD, .f32, .rw, .service, 0x3E4CCCCD, 0x3C23D70A, 0x40A00000, none, 1⟩,
    ⟨0xE, 0xE, .f32, .rw, .service, 0x40000000, 0x3DCCCCCD, 0x41A00000, none, 1⟩,
    ⟨0xF, 0xF, .f32, .rw, .service, 0, 0xFF7FFFFF, 0x7F7FFFFF, none, 1⟩,
    ⟨0x10, 0x10, .f32, .rw, .service, 0x41A00000, 0xFF7FFFFF, 0x7F7FFFFF, none, 1⟩,
    ⟨0x11, 0x11, .f32, .rw, .service, 0x41A00000, 0xFF7FFFFF, 0x7F7FFFFF, none, 1⟩,
    ⟨0x12, 0x12, .f32, .rw, .service, 0x42F00000, 0xFF7FFFFF, 0x7F7FFFFF, none, 1⟩,
    ⟨0x13, 0x13, .f32, .rw, .service, 0, 0xFF7FFFFF, 0x7F7FFFFF, none, 1⟩,
    ⟨0x14, 0x14, .f32, .rw, .service, 0x41A00000, 0xFF7FFFFF, 0x7F7FFFFF, none, 1⟩,
    ⟨0x15, 0x15, .f32, .rw, .service, 0, 0xFF7FFFFF, 0x7F7FFFFF, none, 1⟩,
    ⟨0x16, 0x16, .f32, .rw, .service, 0x43160000, 0xFF7FFFFF, 0x7F7FFFFF, none, 1⟩,
    ⟨0x17, 0x17, .u16, .rw, .service, 5, 0, 0x258, none, 1⟩] ++
  [
    ⟨0x18, 0x18, .u16, .rw, .service, 0x78, 0, 0x708, none, 1⟩,
    ⟨0x19, 0x19, .u8, .rw, .service, 0xFF, 0, 0x3F, some 0xFF, 1⟩,
    ⟨0x1A, 0x1A, .u8, .rw, .service, 0xFF, 0, 0x3F, some 0xFF, 1⟩,
    ⟨0x1B, 0x1B, .u8, .rw, .service, 0xFF, 0, 0x3F, some 0xFF, 1⟩,
    ⟨0x1C, 0x1C, .u8, .rw, .service, 0xFF, 0, 0x3F, some 0xFF, 1⟩,
    ⟨0x1D, 0x1D, .u16, .rw, .service, 0x1FF, 0, 0xFFFF, none, 1⟩,
    ⟨0x1E, 0x1E, .u8, .rw, .service, 0, 0, 1, none, 1⟩,
    ⟨0x1F, 0x1F, .u16, .rw, .service, 0x258, 0, 0x1C20, none, 1⟩,
    ⟨0x20, 0x20, .u8, .wo, .operator, 0, 1, 2, none, 1⟩,
    ⟨0x21, 0x21, .u16, .rw, .service, 0x708, 0x3C, 0x3840, none, 1⟩,
    ⟨0x22, 0x22, .f32, .rw, .service, 0, 0xFF7FFFFF, 0x7F7FFFFF, none, 1⟩,
    ⟨0x23, 0x23, .f32, .rw, .service, 0x3F800000, 0, 0x41200000, none, 1⟩,
    ⟨0x24, 0x24, .f32, .rw, .service, 0, 0xFF7FFFFF, 0x7F7FFFFF, none, 1⟩,
    ⟨0x25, 0x25, .f32, .rw, .service, 0x3D4CCCCD, 0, 0x41200000, none, 1⟩,
    ⟨0x26, 0x26, .u16, .rw, .service, 0x708, 0, 0xA8C0, none, 1⟩,
    ⟨0x27, 0x27, .q15, .rw, .service, 0x7FFF, 0, 0x7FFF, none, 1⟩,
    ⟨0x30, 0x30, .u8, .ro, .operator, 0, 0, 0xFF, none, 1⟩,
    ⟨0x31, 0x31, .u16, .ro, .operator, 0, 0, 0xFFFF, none, 1⟩,
    ⟨0x32, 0x32, .u8, .ro, .operator, 0xFF, 0, 0xFF, none, 1⟩,
    ⟨0x33, 0x33, .f32, .ro, .operator, 0, 0xFF7FFFFF, 0x7F7FFFFF, none, 1⟩,
    ⟨0x34, 0x39, .f32, .ro, .operator, 0, 0xFF7FFFFF, 0x7F7FFFFF, none, 1⟩,
    ⟨0x3A, 0x3A, .f32, .ro, .operator, 0, 0xFF7FFFFF, 0x7F7FFFFF, none, 1⟩,
    ⟨0x3B, 0x3B, .f32, .ro, .operator, 0, 0xFF7FFFFF, 0x7F7FFFFF, none, 1⟩,
    ⟨0x3C, 0x3C, .f32, .ro, .operator, 0, 0xFF7FFFFF, 0x7F7FFFFF, none, 1⟩] ++
  [
    ⟨0x3D, 0x3D, .u8, .ro, .operator, 0, 0, 0xFF, none, 1⟩,
    ⟨0x3E, 0x3E, .u32, .ro, .operator, 0xFFFFFFFF, 0, 0xFFFFFFFF, none, 1⟩,
    ⟨0x3F, 0x3F, .u32, .ro, .operator, 0, 0, 0xFFFFFFFF, none, 1⟩,
    ⟨0x40, 0x40, .u32, .ro, .operator, 0, 0, 0xFFFFFFFF, none, 1⟩,
    ⟨0x41, 0x41, .u32, .ro, .operator, 0, 0, 0xFFFFFFFF, none, 1⟩,
    ⟨0x42, 0x42, .u32, .ro, .operator, 0, 0, 0xFFFFFFFF, none, 1⟩,
    ⟨0x43, 0x43, .u16, .ro, .operator, 0, 0, 0xFFFF, none, 1⟩,
    ⟨0x44, 0x44, .u16, .ro, .operator, 0, 0, 0xFFFF, none, 1⟩,
    ⟨0x45, 0x45, .dom, .ro, .operator, 0, 0, 0x80, none, 4⟩]

/-- Object 0x2800-0x2813 (R397). -/
def rowsAct : List Row :=
  [
    ⟨0, 0, .u8, .ro, .operator, 0x30, 0, 0xFF, none, 1⟩,
    ⟨1, 1, .u8, .rs, .service, 0, 0, 2, none, 1⟩,
    ⟨2, 2, .u8, .rw, .operator, 0, 0, 2, none, 1⟩,
    ⟨3, 3, .u8, .rs, .service, 0, 0, 2, none, 1⟩,
    ⟨4, 4, .bool, .rs, .service, 0, 0, 1, none, 1⟩,
    ⟨5, 5, .u16, .rw, .service, 0x3E8, 0xC8, 0x2EE0, none, 1⟩,
    ⟨6, 6, .u16, .rw, .service, 0x12C, 0x32, 0x1F40, none, 1⟩,
    ⟨7, 7, .u16, .rw, .service, 0, 0, 0x3E8, none, 1⟩,
    ⟨8, 8, .u8, .rw, .service, 0x14, 5, 0x28, none, 1⟩,
    ⟨9, 9, .u32, .rw, .service, 0x64, 0x64, 0x7A120, none, 1⟩,
    ⟨0xA, 0xA, .u32, .rw, .service, 0x7A120, 0x64, 0x7A120, none, 1⟩,
    ⟨0xB, 0xB, .u32, .rw, .service, 0, 0, 0x7A120, none, 1⟩,
    ⟨0xC, 0xC, .u32, .rw, .service, 0, 0, 0x7A120, none, 1⟩,
    ⟨0xD, 0xD, .u16, .rw, .service, 0x32, 0xA, 0x7D0, none, 1⟩,
    ⟨0xE, 0xE, .u8, .rw, .service, 0, 0, 1, none, 1⟩,
    ⟨0xF, 0xF, .u32, .rw, .service, 0, 0, 0x5265C00, none, 1⟩,
    ⟨0x10, 0x10, .u32, .rw, .service, 0x3E8, 1, 0x5265C00, none, 1⟩,
    ⟨0x11, 0x11, .u16, .rw, .service, 0x3C, 1, 0x258, none, 1⟩,
    ⟨0x12, 0x12, .u8, .rw, .service, 0x64, 1, 0x64, none, 1⟩,
    ⟨0x13, 0x13, .u8, .rw, .service, 5, 0, 0x32, none, 1⟩,
    ⟨0x14, 0x14, .u8, .rw, .service, 0, 0, 0x14, none, 1⟩,
    ⟨0x15, 0x15, .f32, .rw, .service, 0x41200000, 0x3C23D70A, 0x447A0000, none, 1⟩,
    ⟨0x16, 0x16, .u8, .rw, .service, 0, 0, 1, none, 1⟩,
    ⟨0x17, 0x17, .q15, .rw, .operator, 0, (-0x8000), 0x7FFF, none, 1⟩] ++
  [
    ⟨0x18, 0x18, .u16, .rw, .service, 0x32, 1, 0x2710, none, 1⟩,
    ⟨0x19, 0x19, .u8, .wo, .operator, 0, 1, 1, none, 1⟩,
    ⟨0x20, 0x20, .u8, .ro, .operator, 0, 0, 0xFF, none, 1⟩,
    ⟨0x21, 0x21, .u16, .ro, .operator, 0, 0, 0xFFFF, none, 1⟩,
    ⟨0x22, 0x22, .u16, .ro, .operator, 0, 0, 0xFFFF, none, 1⟩,
    ⟨0x23, 0x23, .u32, .ro, .operator, 0, 0, 0xFFFFFFFF, none, 1⟩,
    ⟨0x24, 0x24, .u32, .ro, .operator, 0, 0, 0xFFFFFFFF, none, 1⟩,
    ⟨0x25, 0x25, .u32, .ro, .operator, 0, 0, 0xFFFFFFFF, none, 1⟩,
    ⟨0x26, 0x26, .u32, .ro, .operator, 0, 0, 0xFFFFFFFF, none, 1⟩,
    ⟨0x27, 0x27, .u16, .ro, .operator, 0, 0, 0xFFFF, none, 1⟩,
    ⟨0x28, 0x28, .u16, .ro, .operator, 0x2710, 0, 0xFFFF, none, 1⟩,
    ⟨0x29, 0x29, .u32, .ro, .operator, 0x1388, 0, 0xFFFFFFFF, none, 1⟩,
    ⟨0x2A, 0x2A, .u8, .ro, .operator, 0, 0, 0xFF, none, 1⟩,
    ⟨0x2B, 0x2B, .u8, .ro, .operator, 0, 0, 0xFF, none, 1⟩,
    ⟨0x2C, 0x2C, .u32, .ro, .operator, 0, 0, 0xFFFFFFFF, none, 1⟩,
    ⟨0x2D, 0x2D, .u32, .ro, .operator, 0, 0, 0xFFFFFFFF, none, 1⟩,
    ⟨0x2E, 0x2E, .u32, .ro, .operator, 0, 0, 0xFFFFFFFF, none, 1⟩,
    ⟨0x2F, 0x2F, .u32, .ro, .operator, 0, 0, 0xFFFFFFFF, none, 1⟩,
    ⟨0x30, 0x30, .u8, .wo, .service, 0, 1, 1, none, 1⟩]

/-- Object 0x2820-0x2829 (R401). -/
def rowsHs : List Row :=
  [
    ⟨0, 0, .u8, .ro, .operator, 0xB, 0, 0xFF, none, 1⟩,
    ⟨1, 1, .u16, .rw, .service, 0x2EE0, 0x7D0, 0x2EE0, none, 1⟩,
    ⟨2, 2, .u8, .ro, .operator, 0, 0, 0xFF, none, 1⟩,
    ⟨3, 3, .u8, .ro, .operator, 0, 0, 0xFF, none, 1⟩,
    ⟨4, 4, .u16, .ro, .operator, 0, 0, 0xFFFF, none, 1⟩,
    ⟨5, 5, .u8, .ro, .operator, 0, 0, 0xFF, none, 1⟩,
    ⟨6, 6, .u8, .wo, .operator, 0, 1, 1, none, 1⟩,
    ⟨7, 7, .u32, .ro, .operator, 0, 0, 0xFFFFFFFF, none, 1⟩,
    ⟨8, 8, .u32, .ro, .operator, 0, 0, 0xFFFFFFFF, none, 1⟩,
    ⟨9, 9, .u32, .ro, .operator, 0, 0, 0xFFFFFFFF, none, 1⟩,
    ⟨0xA, 0xA, .u8, .ro, .operator, 0, 0, 0xFF, none, 1⟩,
    ⟨0xB, 0xB, .u8, .wo, .service, 0, 1, 1, none, 1⟩]

/-- Object 0x2900-0x290F (R429). -/
def rowsDrive : List Row :=
  [
    ⟨0, 0, .u8, .ro, .operator, 0x2C, 0, 0xFF, none, 1⟩,
    ⟨1, 1, .u8, .rs, .service, 0, 0, 2, none, 1⟩,
    ⟨2, 2, .u8, .rs, .service, 0, 0, 1, none, 1⟩,
    ⟨3, 3, .u8, .rw, .service, 0, 0, 1, none, 1⟩,
    ⟨4, 4, .u8, .rw, .service, 0x14, 1, 0x28, none, 1⟩,
    ⟨5, 5, .u8, .rw, .service, 0, 0, 1, none, 1⟩,
    ⟨6, 6, .q15, .rw, .operator, 0, (-0x8000), 0x7FFF, none, 1⟩,
    ⟨7, 7, .q15, .rw, .service, 0, 0, 0x7FFF, none, 1⟩,
    ⟨8, 8, .q15, .rw, .service, 0x2666, 0, 0x7FFF, none, 1⟩,
    ⟨9, 9, .u16, .rw, .service, 0xBB8, 0x1F4, 0x7530, none, 1⟩,
    ⟨0xA, 0xA, .u8, .rw, .service, 3, 0, 3, none, 1⟩,
    ⟨0xB, 0xB, .u8, .rw, .service, 2, 0, 0xFF, none, 1⟩,
    ⟨0xC, 0xC, .u16, .rw, .service, 0x3E8, 0x32, 0x2710, none, 1⟩,
    ⟨0xD, 0xD, .f32, .rw, .service, 0x453B8000, 0x3F800000, 0x49742400, none, 1⟩,
    ⟨0xE, 0xE, .u8, .rw, .service, 0xFF, 0, 7, some 0xFF, 1⟩,
    ⟨0xF, 0xF, .u8, .rw, .service, 0, 0, 1, none, 1⟩,
    ⟨0x10, 0x10, .u16, .rw, .service, 0x1388, 1, 0x2710, none, 1⟩,
    ⟨0x11, 0x11, .u8, .wo, .operator, 0, 1, 1, none, 1⟩,
    ⟨0x20, 0x20, .u8, .ro, .operator, 0, 0, 0xFF, none, 1⟩,
    ⟨0x21, 0x21, .u16, .ro, .operator, 0, 0, 0xFFFF, none, 1⟩,
    ⟨0x22, 0x22, .q15, .ro, .operator, 0, (-0x8000), 0x7FFF, none, 1⟩,
    ⟨0x23, 0x23, .f32, .ro, .operator, 0, 0xFF7FFFFF, 0x7F7FFFFF, none, 1⟩,
    ⟨0x24, 0x24, .q15, .ro, .operator, 0, (-0x8000), 0x7FFF, none, 1⟩,
    ⟨0x25, 0x25, .u16, .ro, .operator, 0xFFFF, 0, 0xFFFF, none, 1⟩] ++
  [
    ⟨0x26, 0x26, .f32, .ro, .operator, 0, 0xFF7FFFFF, 0x7F7FFFFF, none, 1⟩,
    ⟨0x27, 0x27, .q15, .ro, .operator, 0, (-0x8000), 0x7FFF, none, 1⟩,
    ⟨0x28, 0x28, .u8, .ro, .operator, 0, 0, 0xFF, none, 1⟩,
    ⟨0x29, 0x29, .u32, .ro, .operator, 0, 0, 0xFFFFFFFF, none, 1⟩,
    ⟨0x2A, 0x2A, .u32, .ro, .operator, 0, 0, 0xFFFFFFFF, none, 1⟩,
    ⟨0x2B, 0x2B, .u16, .ro, .operator, 0, 0, 0xFFFF, none, 1⟩,
    ⟨0x2C, 0x2C, .u8, .wo, .service, 0, 1, 1, none, 1⟩]

/-- Object 0x2910-0x291F (R431). -/
def rowsDraught : List Row :=
  [
    ⟨0, 0, .u8, .ro, .operator, 0x3F, 0, 0xFF, none, 1⟩,
    ⟨1, 1, .u8, .rw, .service, 0xFF, 0, 0x3F, some 0xFF, 1⟩,
    ⟨2, 2, .u8, .rw, .service, 0, 0, 0x10, none, 1⟩,
    ⟨3, 3, .q15, .rw, .service, 0x7FFF, 0, 0x7FFF, none, 1⟩,
    ⟨4, 4, .u8, .ro, .operator, 0, 0, 0xFF, none, 1⟩,
    ⟨5, 5, .q15, .ro, .operator, 0x7FFF, (-0x8000), 0x7FFF, none, 1⟩,
    ⟨6, 6, .u8, .ro, .operator, 0, 0, 0xFF, none, 1⟩,
    ⟨0x10, 0x1F, .f32, .rw, .service, 0, 0xFF7FFFFF, 0x7F7FFFFF, none, 1⟩,
    ⟨0x20, 0x2F, .f32, .rw, .service, 0, 0xFF7FFFFF, 0x7F7FFFFF, none, 1⟩,
    ⟨0x30, 0x3F, .q15, .rw, .service, 0x7FFF, 0, 0x7FFF, none, 1⟩]

/-- Object 0x2920-0x2927 (R432). -/
def rowsCout : List Row :=
  [
    ⟨0, 0, .u8, .ro, .operator, 0x26, 0, 0xFF, none, 1⟩,
    ⟨1, 1, .u8, .rs, .service, 0, 0, 2, none, 1⟩,
    ⟨2, 2, .u8, .rs, .service, 0, 0, 1, none, 1⟩,
    ⟨3, 3, .u8, .rw, .service, 0, 0, 3, none, 1⟩,
    ⟨4, 4, .u8, .rw, .service, 0, 0, 0xFF, none, 1⟩,
    ⟨5, 5, .f32, .rw, .service, 0, 0xFF7FFFFF, 0x7F7FFFFF, none, 1⟩,
    ⟨6, 6, .f32, .rw, .service, 0x42C80000, 0xFF7FFFFF, 0x7F7FFFFF, none, 1⟩,
    ⟨7, 7, .f32, .rw, .operator, 0x40800000, 0x40600000, 0x41AC0000, none, 1⟩,
    ⟨8, 8, .u8, .rw, .service, 0, 0, 1, none, 1⟩,
    ⟨9, 9, .u8, .rw, .service, 0, 0, 1, none, 1⟩,
    ⟨0xA, 0xA, .f32, .rw, .service, 0x40800000, 0x40600000, 0x41AC0000, none, 1⟩,
    ⟨0x20, 0x20, .u8, .ro, .operator, 0, 0, 0xFF, none, 1⟩,
    ⟨0x21, 0x21, .u8, .ro, .operator, 0, 0, 0xFF, none, 1⟩,
    ⟨0x22, 0x22, .f32, .ro, .operator, 0, 0xFF7FFFFF, 0x7F7FFFFF, none, 1⟩,
    ⟨0x23, 0x23, .f32, .ro, .operator, 0, 0xFF7FFFFF, 0x7F7FFFFF, none, 1⟩,
    ⟨0x24, 0x24, .u32, .ro, .operator, 0, 0, 0xFFFFFFFF, none, 1⟩,
    ⟨0x25, 0x25, .u32, .ro, .operator, 0, 0, 0xFFFFFFFF, none, 1⟩,
    ⟨0x26, 0x26, .u8, .wo, .service, 0, 1, 1, none, 1⟩]

/-- Object 0x2930-0x2937 (R434). -/
def rowsPulse : List Row :=
  [
    ⟨0, 0, .u8, .ro, .operator, 0x25, 0, 0xFF, none, 1⟩,
    ⟨1, 1, .u8, .rs, .service, 0, 0, 4, none, 1⟩,
    ⟨2, 2, .u8, .rw, .service, 0, 0, 2, none, 1⟩,
    ⟨3, 3, .u16, .rw, .service, 0, 0, 0x2710, none, 1⟩,
    ⟨4, 4, .f32, .rw, .service, 0x447A0000, 0x3C23D70A, 0x47C35000, none, 1⟩,
    ⟨5, 5, .u16, .rw, .service, 0x64, 1, 0x3E8, none, 1⟩,
    ⟨6, 6, .u32, .rw, .service, 0x2710, 0xA, 0x30D40, none, 1⟩,
    ⟨7, 7, .u32, .rw, .service, 0x10000, 1, 0xFFFFFFFF, none, 1⟩,
    ⟨8, 8, .u8, .wo, .operator, 0, 1, 1, none, 1⟩,
    ⟨9, 9, .bool, .ro, .operator, 0, 0, 1, none, 1⟩,
    ⟨0x20, 0x20, .f32, .ro, .operator, 0, 0xFF7FFFFF, 0x7F7FFFFF, none, 1⟩,
    ⟨0x21, 0x21, .u32, .ro, .operator, 0, 0, 0xFFFFFFFF, none, 1⟩,
    ⟨0x22, 0x22, .u32, .ro, .operator, 0, 0, 0xFFFFFFFF, none, 1⟩,
    ⟨0x23, 0x23, .q15, .ro, .operator, 0, (-0x8000), 0x7FFF, none, 1⟩,
    ⟨0x24, 0x24, .q15, .ro, .operator, 0, (-0x8000), 0x7FFF, none, 1⟩,
    ⟨0x25, 0x25, .u16, .ro, .operator, 0xFFFF, 0, 0xFFFF, none, 1⟩]

/-- Object 0x2938 (R435). -/
def rowsSetp : List Row :=
  [
    ⟨0, 0, .u8, .ro, .operator, 0x17, 0, 0xFF, none, 1⟩,
    ⟨1, 1, .u8, .rs, .service, 0, 0, 2, none, 1⟩,
    ⟨2, 2, .f32, .rw, .service, 0, 0xFF7FFFFF, 0x7F7FFFFF, none, 1⟩,
    ⟨3, 3, .f32, .rw, .service, 0x42C80000, 0xFF7FFFFF, 0x7F7FFFFF, none, 1⟩,
    ⟨4, 4, .f32, .ro, .operator, 0, 0xFF7FFFFF, 0x7F7FFFFF, none, 1⟩,
    ⟨5, 5, .f32, .ro, .operator, 0, 0xFF7FFFFF, 0x7F7FFFFF, none, 1⟩,
    ⟨6, 6, .q15, .ro, .operator, 0, (-0x8000), 0x7FFF, none, 1⟩,
    ⟨7, 7, .bool, .ro, .operator, 0, 0, 1, none, 1⟩,
    ⟨0x11, 0x11, .u8, .rs, .service, 0, 0, 2, none, 1⟩,
    ⟨0x12, 0x12, .f32, .rw, .service, 0, 0xFF7FFFFF, 0x7F7FFFFF, none, 1⟩,
    ⟨0x13, 0x13, .f32, .rw, .service, 0x42C80000, 0xFF7FFFFF, 0x7F7FFFFF, none, 1⟩,
    ⟨0x14, 0x14, .f32, .ro, .operator, 0, 0xFF7FFFFF, 0x7F7FFFFF, none, 1⟩,
    ⟨0x15, 0x15, .f32, .ro, .operator, 0, 0xFF7FFFFF, 0x7F7FFFFF, none, 1⟩,
    ⟨0x16, 0x16, .q15, .ro, .operator, 0, (-0x8000), 0x7FFF, none, 1⟩,
    ⟨0x17, 0x17, .bool, .ro, .operator, 0, 0, 1, none, 1⟩]

/-- Object 0x2940 (R436). -/
def rowsInputs : List Row :=
  [
    ⟨0, 0, .u8, .ro, .operator, 9, 0, 0xFF, none, 1⟩,
    ⟨1, 1, .u8, .rw, .service, 0, 0, 1, none, 1⟩,
    ⟨2, 2, .u8, .rw, .service, 0, 0, 1, none, 1⟩,
    ⟨3, 3, .u16, .rw, .service, 0x64, 1, 0x2710, none, 1⟩,
    ⟨4, 4, .u16, .rw, .service, 0x64, 1, 0x2710, none, 1⟩,
    ⟨5, 5, .u16, .rw, .service, 0, 0, 0x3E8, none, 1⟩,
    ⟨6, 6, .u8, .rw, .service, 5, 1, 0x64, none, 1⟩,
    ⟨7, 7, .u8, .ro, .operator, 0, 0, 0xFF, none, 1⟩,
    ⟨8, 8, .u32, .ro, .operator, 0, 0, 0xFFFFFFFF, none, 1⟩,
    ⟨9, 9, .u32, .ro, .operator, 0, 0, 0xFFFFFFFF, none, 1⟩]

/-- Object 0x3400-0x3403 (R464). -/
def rowsCore : List Row :=
  [
    ⟨0, 0, .u8, .ro, .operator, 0xF, 0, 0xFF, none, 1⟩,
    ⟨1, 1, .u8, .ro, .operator, 0, 0, 0xFF, none, 1⟩,
    ⟨2, 2, .u8, .wo, .operator, 0, 1, 3, none, 1⟩,
    ⟨3, 3, .bool, .rw, .service, 0, 0, 1, none, 1⟩,
    ⟨4, 4, .u8, .rw, .service, 0, 0, 1, none, 1⟩,
    ⟨5, 5, .u32, .ro, .operator, 0, 0, 0xFFFFFFFF, none, 1⟩,
    ⟨6, 6, .u8, .ro, .operator, 0, 0, 0xFF, none, 1⟩,
    ⟨7, 7, .u32, .ro, .operator, 0, 0, 0xFFFFFFFF, none, 1⟩,
    ⟨8, 8, .u32, .ro, .operator, 0, 0, 0xFFFFFFFF, none, 1⟩,
    ⟨9, 9, .u32, .ro, .operator, 0, 0, 0xFFFFFFFF, none, 1⟩,
    ⟨0xA, 0xA, .u32, .ro, .operator, 0, 0, 0xFFFFFFFF, none, 1⟩,
    ⟨0xB, 0xB, .u8, .ro, .operator, 0, 0, 0xFF, none, 1⟩,
    ⟨0xC, 0xC, .u16, .ro, .operator, 0, 0, 0xFFFF, none, 1⟩,
    ⟨0xD, 0xD, .u32, .ro, .operator, 0, 0, 0xFFFFFFFF, none, 1⟩,
    ⟨0xE, 0xE, .u32, .ro, .operator, 0, 0, 0xFFFFFFFF, none, 1⟩,
    ⟨0xF, 0xF, .u8, .wo, .service, 0, 1, 1, none, 1⟩]

/-- Object 0x3410 (R465). -/
def rowsImages : List Row :=
  [
    ⟨0, 0, .u8, .ro, .operator, 0x33, 0, 0xFF, none, 1⟩,
    ⟨1, 1, .dom, .rw, .service, 0, 0x20, 0x20, none, 1⟩,
    ⟨2, 2, .u8, .wo, .service, 0, 1, 3, none, 1⟩,
    ⟨0x11, 0x13, .dom, .wo, .service, 0, 0, 0x100000, none, 1⟩,
    ⟨0x21, 0x23, .u8, .ro, .operator, 0, 0, 0xFF, none, 1⟩,
    ⟨0x31, 0x33, .u32, .ro, .operator, 0, 0, 0xFFFFFFFF, none, 1⟩]

/-- Object 0x3480 (R473). -/
def rowsRouter : List Row :=
  [
    ⟨0, 0, .u8, .ro, .operator, 0x84, 0, 0xFF, none, 1⟩,
    ⟨1, 0x80, .u32, .rw, .service, 0x7000700, 0, 0xFFFFFFFF, none, 1⟩,
    ⟨0x81, 0x81, .u32, .ro, .operator, 0, 0, 0xFFFFFFFF, none, 1⟩,
    ⟨0x82, 0x82, .u32, .ro, .operator, 0, 0, 0xFFFFFFFF, none, 1⟩,
    ⟨0x83, 0x83, .u32, .ro, .operator, 0, 0, 0xFFFFFFFF, none, 1⟩,
    ⟨0x84, 0x84, .u8, .wo, .service, 0, 1, 1, none, 1⟩]

/-- Object 0x3500-0x3503 (R480). -/
def rowsPm : List Row :=
  [
    ⟨0, 0, .u8, .ro, .operator, 0x18, 0, 0xFF, none, 1⟩,
    ⟨1, 1, .u32, .rw, .service, 0, 0, 0xFFFFFFFF, none, 1⟩,
    ⟨2, 9, .u8, .rw, .service, 0, 0, 0xFF, none, 1⟩,
    ⟨0xA, 0x11, .u32, .ro, .operator, 0, 0, 0xFFFFFFFF, none, 1⟩,
    ⟨0x12, 0x12, .u8, .ro, .operator, 0, 0, 0xFF, none, 1⟩,
    ⟨0x13, 0x13, .u32, .ro, .operator, 0, 0, 0xFFFFFFFF, none, 1⟩,
    ⟨0x14, 0x14, .u32, .ro, .operator, 0, 0, 0xFFFFFFFF, none, 1⟩,
    ⟨0x15, 0x15, .u32, .rw, .service, 0, 0, 0xFFFFFFFF, none, 1⟩,
    ⟨0x16, 0x16, .u32, .ro, .operator, 0, 0, 0xFFFFFFFF, none, 1⟩,
    ⟨0x17, 0x17, .u8, .wo, .service, 0, 1, 1, none, 1⟩,
    ⟨0x18, 0x18, .u32, .ro, .operator, 0, 0, 0xFFFFFFFF, none, 1⟩]

/-- Object 0x3600 (R516). -/
def rowsCanA : List Row :=
  [
    ⟨0, 0, .u8, .ro, .operator, 0x2F, 0, 0xFF, none, 1⟩,
    ⟨1, 1, .bool, .rs, .service, 1, 0, 1, none, 1⟩,
    ⟨2, 2, .u8, .rs, .service, 0, 0, 0, none, 1⟩,
    ⟨3, 3, .u8, .rs, .service, 0, 0, 1, none, 1⟩,
    ⟨4, 4, .bool, .rw, .service, 0, 0, 1, none, 1⟩,
    ⟨5, 5, .u8, .rs, .service, 0, 0, 1, none, 1⟩,
    ⟨6, 6, .bool, .rw, .service, 0, 0, 1, none, 1⟩,
    ⟨7, 7, .u8, .rw, .service, 0, 0, 1, none, 1⟩,
    ⟨8, 8, .u8, .wo, .operator, 0, 1, 1, none, 1⟩,
    ⟨0xA, 0xA, .u8, .rs, .service, 0x20, 1, 0x7F, none, 1⟩,
    ⟨0xB, 0xB, .u8, .rw, .service, 8, 0, 0x10, none, 1⟩,
    ⟨0xC, 0xC, .u8, .rw, .service, 0, 0, 3, none, 1⟩,
    ⟨0xD, 0xD, .u8, .rw, .service, 0, 0, 2, none, 1⟩,
    ⟨0xE, 0xE, .u32, .rw, .service, 0, 0, 0xFFFFFFFF, none, 1⟩,
    ⟨0xF, 0xF, .u32, .rw, .service, 0x1FFFFFFF, 0, 0x1FFFFFFF, none, 1⟩,
    ⟨0x10, 0x10, .u8, .rw, .service, 0xFF, 0, 8, some 0xFF, 1⟩,
    ⟨0x11, 0x11, .u32, .rw, .service, 0, 0, 0xFFFFFFFF, none, 1⟩,
    ⟨0x12, 0x12, .u32, .rw, .service, 0, 0, 0xFFFFFFFF, none, 1⟩,
    ⟨0x13, 0x13, .u16, .ro, .operator, 0, 0, 0xFFFF, none, 1⟩,
    ⟨0x14, 0x14, .u32, .ro, .operator, 0, 0, 0xFFFFFFFF, none, 1⟩,
    ⟨0x20, 0x20, .dom, .wo, .operator, 0, 0x10, 0x50, none, 1⟩,
    ⟨0x21, 0x21, .u16, .wo, .operator, 0, 0, 0xFFFF, none, 1⟩,
    ⟨0x22, 0x22, .u32, .ro, .operator, 0x7F00, 0, 0xFFFFFFFF, none, 1⟩,
    ⟨0x23, 0x23, .u8, .ro, .operator, 0, 0, 0xFF, none, 1⟩] ++
  [
    ⟨0x24, 0x24, .u8, .ro, .operator, 0, 0, 0xFF, none, 1⟩,
    ⟨0x25, 0x25, .u8, .ro, .operator, 0, 0, 0xFF, none, 1⟩,
    ⟨0x26, 0x26, .u16, .ro, .operator, 0, 0, 0xFFFF, none, 1⟩,
    ⟨0x27, 0x27, .u8, .ro, .operator, 0, 0, 0xFF, none, 1⟩,
    ⟨0x28, 0x28, .u8, .ro, .operator, 0, 0, 0xFF, none, 1⟩,
    ⟨0x29, 0x29, .u16, .ro, .operator, 0, 0, 0xFFFF, none, 1⟩,
    ⟨0x2A, 0x2A, .u32, .ro, .operator, 0, 0, 0xFFFFFFFF, none, 1⟩,
    ⟨0x2B, 0x2B, .u32, .ro, .operator, 0, 0, 0xFFFFFFFF, none, 1⟩,
    ⟨0x2C, 0x2C, .u32, .ro, .operator, 0, 0, 0xFFFFFFFF, none, 1⟩,
    ⟨0x2D, 0x2D, .u32, .ro, .operator, 0, 0, 0xFFFFFFFF, none, 1⟩,
    ⟨0x2E, 0x2E, .u32, .ro, .operator, 0, 0, 0xFFFFFFFF, none, 1⟩,
    ⟨0x2F, 0x2F, .u8, .wo, .service, 0, 1, 1, none, 1⟩]

/-- Object 0x3640 (R516). -/
def rowsCanB : List Row :=
  [
    ⟨0, 0, .u8, .ro, .operator, 0x2F, 0, 0xFF, none, 1⟩,
    ⟨1, 1, .bool, .rs, .service, 0, 0, 1, none, 1⟩,
    ⟨2, 2, .u8, .rs, .service, 1, 1, 2, none, 1⟩,
    ⟨3, 3, .u8, .rs, .service, 0, 0, 1, none, 1⟩,
    ⟨4, 4, .bool, .rw, .service, 0, 0, 1, none, 1⟩,
    ⟨5, 5, .u8, .rs, .service, 0, 0, 1, none, 1⟩,
    ⟨6, 6, .bool, .rw, .service, 0, 0, 1, none, 1⟩,
    ⟨7, 7, .u8, .rw, .service, 0, 0, 1, none, 1⟩,
    ⟨8, 8, .u8, .wo, .operator, 0, 1, 1, none, 1⟩,
    ⟨9, 9, .u8, .rs, .service, 1, 1, 3, none, 1⟩,
    ⟨0xC, 0xC, .u8, .rw, .service, 0, 0, 3, none, 1⟩,
    ⟨0xD, 0xD, .u8, .rw, .service, 0, 0, 2, none, 1⟩,
    ⟨0xE, 0xE, .u32, .rw, .service, 0, 0, 0xFFFFFFFF, none, 1⟩,
    ⟨0xF, 0xF, .u32, .rw, .service, 0x1FFFFFFF, 0, 0x1FFFFFFF, none, 1⟩,
    ⟨0x10, 0x10, .u8, .rw, .service, 0xFF, 0, 8, some 0xFF, 1⟩,
    ⟨0x11, 0x11, .u32, .rw, .service, 0, 0, 0xFFFFFFFF, none, 1⟩,
    ⟨0x12, 0x12, .u32, .rw, .service, 0, 0, 0xFFFFFFFF, none, 1⟩,
    ⟨0x13, 0x13, .u16, .ro, .operator, 0, 0, 0xFFFF, none, 1⟩,
    ⟨0x14, 0x14, .u32, .ro, .operator, 0, 0, 0xFFFFFFFF, none, 1⟩,
    ⟨0x20, 0x20, .dom, .wo, .operator, 0, 0x10, 0x50, none, 1⟩,
    ⟨0x21, 0x21, .u16, .wo, .operator, 0, 0, 0xFFFF, none, 1⟩,
    ⟨0x22, 0x22, .u32, .ro, .operator, 0x7F00, 0, 0xFFFFFFFF, none, 1⟩,
    ⟨0x23, 0x23, .u8, .ro, .operator, 0, 0, 0xFF, none, 1⟩,
    ⟨0x24, 0x24, .u8, .ro, .operator, 0, 0, 0xFF, none, 1⟩] ++
  [
    ⟨0x25, 0x25, .u8, .ro, .operator, 0, 0, 0xFF, none, 1⟩,
    ⟨0x26, 0x26, .u16, .ro, .operator, 0, 0, 0xFFFF, none, 1⟩,
    ⟨0x27, 0x27, .u8, .ro, .operator, 0, 0, 0xFF, none, 1⟩,
    ⟨0x28, 0x28, .u8, .ro, .operator, 0, 0, 0xFF, none, 1⟩,
    ⟨0x29, 0x29, .u16, .ro, .operator, 0, 0, 0xFFFF, none, 1⟩,
    ⟨0x2A, 0x2A, .u32, .ro, .operator, 0, 0, 0xFFFFFFFF, none, 1⟩,
    ⟨0x2B, 0x2B, .u32, .ro, .operator, 0, 0, 0xFFFFFFFF, none, 1⟩,
    ⟨0x2C, 0x2C, .u32, .ro, .operator, 0, 0, 0xFFFFFFFF, none, 1⟩,
    ⟨0x2D, 0x2D, .u32, .ro, .operator, 0, 0, 0xFFFFFFFF, none, 1⟩,
    ⟨0x2E, 0x2E, .u32, .ro, .operator, 0, 0, 0xFFFFFFFF, none, 1⟩,
    ⟨0x2F, 0x2F, .u8, .wo, .service, 0, 1, 1, none, 1⟩]

/-- Object 0x3601 (R518). -/
def rowsCanbitA : List Row :=
  [
    ⟨0, 0, .u8, .ro, .operator, 0xE, 0, 0xFF, none, 1⟩,
    ⟨1, 1, .u8, .rs, .service, 1, 1, 0x20, none, 1⟩,
    ⟨2, 2, .u16, .rs, .service, 0x7F, 2, 0x100, none, 1⟩,
    ⟨3, 3, .u8, .rs, .service, 0x20, 2, 0x80, none, 1⟩,
    ⟨4, 4, .u8, .rs, .service, 0x20, 1, 0x80, none, 1⟩,
    ⟨5, 5, .bool, .rs, .service, 0, 0, 1, none, 1⟩,
    ⟨6, 6, .u8, .rs, .service, 0xE, 2, 0x20, none, 1⟩,
    ⟨7, 7, .u8, .rs, .service, 5, 1, 0x10, none, 1⟩,
    ⟨8, 8, .u8, .rs, .service, 5, 1, 0x10, none, 1⟩,
    ⟨9, 9, .u8, .rs, .service, 0, 0, 0x7F, none, 1⟩,
    ⟨0xA, 0xA, .u32, .ro, .operator, 0x7A120, 0, 0xFFFFFFFF, none, 1⟩,
    ⟨0xB, 0xB, .u32, .ro, .operator, 0x3D0900, 0, 0xFFFFFFFF, none, 1⟩,
    ⟨0xC, 0xC, .u16, .ro, .operator, 0x320, 0, 0xFFFF, none, 1⟩,
    ⟨0xD, 0xD, .u16, .ro, .operator, 0x2EE, 0, 0xFFFF, none, 1⟩,
    ⟨0xE, 0xE, .u8, .ro, .operator, 0, 0, 0xFF, none, 1⟩]

/-- Object 0x3641 (R518). -/
def rowsCanbitB : List Row :=
  [
    ⟨0, 0, .u8, .ro, .operator, 0xE, 0, 0xFF, none, 1⟩,
    ⟨1, 1, .u8, .rs, .service, 1, 1, 0x20, none, 1⟩,
    ⟨2, 2, .u16, .rs, .service, 0x7F, 2, 0x100, none, 1⟩,
    ⟨3, 3, .u8, .rs, .service, 0x20, 2, 0x80, none, 1⟩,
    ⟨4, 4, .u8, .rs, .service, 0x20, 1, 0x80, none, 1⟩,
    ⟨5, 5, .bool, .rs, .service, 0, 0, 1, none, 1⟩,
    ⟨6, 6, .u8, .rs, .service, 0xE, 2, 0x20, none, 1⟩,
    ⟨7, 7, .u8, .rs, .service, 5, 1, 0x10, none, 1⟩,
    ⟨8, 8, .u8, .rs, .service, 5, 1, 0x10, none, 1⟩,
    ⟨9, 9, .u8, .rs, .service, 0, 0, 0x7F, none, 1⟩,
    ⟨0xA, 0xA, .u32, .ro, .operator, 0x7A120, 0, 0xFFFFFFFF, none, 1⟩,
    ⟨0xB, 0xB, .u32, .ro, .operator, 0x3D0900, 0, 0xFFFFFFFF, none, 1⟩,
    ⟨0xC, 0xC, .u16, .ro, .operator, 0x320, 0, 0xFFFF, none, 1⟩,
    ⟨0xD, 0xD, .u16, .ro, .operator, 0x2EE, 0, 0xFFFF, none, 1⟩,
    ⟨0xE, 0xE, .u8, .ro, .operator, 0, 0, 0xFF, none, 1⟩]

/-- Object 0x3602 (R519). -/
def rowsCanfiltA : List Row :=
  [
    ⟨0, 0, .u8, .ro, .operator, 0xCF, 0, 0xFF, none, 1⟩,
    ⟨1, 1, .dom, .rs, .service, 0, 0, 0x400, none, 8⟩,
    ⟨2, 2, .u8, .ro, .operator, 0, 0, 0xFF, none, 1⟩,
    ⟨3, 3, .dom, .ro, .operator, 0, 0, 0x50, none, 1⟩,
    ⟨4, 4, .u8, .ro, .operator, 0, 0, 0xFF, none, 1⟩,
    ⟨5, 5, .u32, .ro, .operator, 0, 0, 0xFFFFFFFF, none, 1⟩,
    ⟨6, 6, .u8, .rs, .service, 1, 0, 1, none, 1⟩,
    ⟨0x10, 0x4F, .u32, .rs, .service, 0, 0, 0xFFFFFFFF, none, 1⟩,
    ⟨0x50, 0x8F, .u16, .rw, .operator, 0, 0, 0xFFFF, none, 1⟩,
    ⟨0x90, 0xCF, .dom, .ro, .operator, 0, 0, 0x50, none, 1⟩]

/-- Object 0x3642 (R519). -/
def rowsCanfiltB : List Row :=
  [
    ⟨0, 0, .u8, .ro, .operator, 0xCF, 0, 0xFF, none, 1⟩,
    ⟨1, 1, .dom, .rs, .service, 0, 0, 0x400, none, 8⟩,
    ⟨2, 2, .u8, .ro, .operator, 0, 0, 0xFF, none, 1⟩,
    ⟨3, 3, .dom, .ro, .operator, 0, 0, 0x50, none, 1⟩,
    ⟨4, 4, .u8, .ro, .operator, 0, 0, 0xFF, none, 1⟩,
    ⟨5, 5, .u32, .ro, .operator, 0, 0, 0xFFFFFFFF, none, 1⟩,
    ⟨6, 6, .u8, .rs, .service, 1, 0, 1, none, 1⟩,
    ⟨0x10, 0x4F, .u32, .rs, .service, 0, 0, 0xFFFFFFFF, none, 1⟩,
    ⟨0x50, 0x8F, .u16, .rw, .operator, 0, 0, 0xFFFF, none, 1⟩,
    ⟨0x90, 0xCF, .dom, .ro, .operator, 0, 0, 0x50, none, 1⟩]

/-- Object 0x3610 (R520). -/
def rowsCantimeA : List Row :=
  [
    ⟨0, 0, .u8, .ro, .operator, 7, 0, 0xFF, none, 1⟩,
    ⟨1, 1, .u8, .rs, .service, 0, 0, 1, none, 1⟩,
    ⟨2, 2, .u16, .rw, .service, 0x64, 0xA, 0x3E8, none, 1⟩,
    ⟨3, 3, .u32, .rw, .service, 0xF0, 0, 0xFFFFFFFF, none, 1⟩,
    ⟨4, 4, .u32, .ro, .operator, 0, 0, 0xFFFFFFFF, none, 1⟩,
    ⟨5, 5, .u32, .ro, .operator, 0, 0, 0xFFFFFFFF, none, 1⟩,
    ⟨6, 6, .u32, .ro, .operator, 0, 0, 0xFFFFFFFF, none, 1⟩,
    ⟨7, 7, .u32, .ro, .operator, 0, 0, 0xFFFFFFFF, none, 1⟩]

/-- Object 0x3650 (R520). -/
def rowsCantimeB : List Row :=
  [
    ⟨0, 0, .u8, .ro, .operator, 7, 0, 0xFF, none, 1⟩,
    ⟨1, 1, .u8, .rs, .service, 0, 0, 0, none, 1⟩,
    ⟨2, 2, .u16, .rw, .service, 0x64, 0xA, 0x3E8, none, 1⟩,
    ⟨3, 3, .u32, .rw, .service, 0xF0, 0, 0xFFFFFFFF, none, 1⟩,
    ⟨4, 4, .u32, .ro, .operator, 0, 0, 0xFFFFFFFF, none, 1⟩,
    ⟨5, 5, .u32, .ro, .operator, 0, 0, 0xFFFFFFFF, none, 1⟩,
    ⟨6, 6, .u32, .ro, .operator, 0, 0, 0xFFFFFFFF, none, 1⟩,
    ⟨7, 7, .u32, .ro, .operator, 0, 0, 0xFFFFFFFF, none, 1⟩]

/-- Object 0x3700 (R559). -/
def rowsFlue : List Row :=
  [
    ⟨0, 0, .u8, .ro, .operator, 0x14, 0, 0xFF, none, 1⟩,
    ⟨1, 1, .bool, .rs, .service, 1, 0, 1, none, 1⟩,
    ⟨2, 2, .u32, .ro, .operator, 0, 0, 0xFFFFFFFF, none, 1⟩,
    ⟨3, 3, .u32, .ro, .operator, 0, 0, 0xFFFFFFFF, none, 1⟩,
    ⟨4, 4, .u8, .ro, .operator, 0, 0, 0xFF, none, 1⟩,
    ⟨5, 5, .u8, .rw, .service, 0x64, 0, 0xFF, none, 1⟩,
    ⟨6, 6, .u8, .ro, .operator, 0, 0, 0xFF, none, 1⟩,
    ⟨7, 7, .u32, .ro, .operator, 0, 0, 0xFFFFFFFF, none, 1⟩,
    ⟨8, 8, .u8, .ro, .operator, 0, 0, 0xFF, none, 1⟩,
    ⟨9, 9, .u32, .ro, .operator, 0, 0, 0xFFFFFFFF, none, 1⟩,
    ⟨0xA, 0xA, .u32, .ro, .operator, 0, 0, 0xFFFFFFFF, none, 1⟩,
    ⟨0xB, 0xB, .u16, .rw, .service, 0x64, 0x14, 0x3E8, none, 1⟩,
    ⟨0xC, 0xC, .u32, .rw, .service, 0xE10, 0xA, 0x15180, none, 1⟩,
    ⟨0xD, 0xD, .u16, .ro, .operator, 0, 0, 0xFFFF, none, 1⟩,
    ⟨0xE, 0xE, .dom, .wo, .service, 0, 0, 0x10, none, 16⟩,
    ⟨0xF, 0xF, .u32, .ro, .operator, 0, 0, 0xFFFFFFFF, none, 1⟩,
    ⟨0x10, 0x10, .u16, .ro, .operator, 0, 0, 0xFFFF, none, 1⟩,
    ⟨0x11, 0x11, .u8, .ro, .operator, 0, 0, 0xFF, none, 1⟩,
    ⟨0x12, 0x12, .u32, .ro, .operator, 0, 0, 0xFFFFFFFF, none, 1⟩,
    ⟨0x13, 0x13, .u32, .ro, .operator, 0, 0, 0xFFFFFFFF, none, 1⟩,
    ⟨0x14, 0x14, .u8, .wo, .service, 0, 1, 1, none, 1⟩]

/-- Object 0x3710 (R560). -/
def rowsPlan : List Row :=
  [
    ⟨0, 0, .u8, .ro, .operator, 4, 0, 0xFF, none, 1⟩,
    ⟨1, 1, .dom, .rw, .service, 0, 0, 0x8000, none, 16⟩,
    ⟨2, 2, .u16, .ro, .operator, 0, 0, 0xFFFF, none, 1⟩,
    ⟨3, 3, .u32, .ro, .operator, 0, 0, 0xFFFFFFFF, none, 1⟩,
    ⟨4, 4, .u32, .ro, .operator, 0, 0, 0xFFFFFFFF, none, 1⟩]

/-- Object 0x3720 (R561). -/
def rowsPort : List Row :=
  [
    ⟨0, 0, .u8, .ro, .operator, 0x4E, 0, 0xFF, none, 1⟩,
    ⟨0x10, 0x10, .bool, .rs, .service, 1, 0, 1, none, 1⟩,
    ⟨0x11, 0x11, .u8, .rs, .service, 0, 0, 1, none, 1⟩,
    ⟨0x12, 0x12, .bool, .rs, .service, 0, 0, 1, none, 1⟩,
    ⟨0x13, 0x13, .u8, .ro, .operator, 0, 0, 0xFF, none, 1⟩,
    ⟨0x14, 0x14, .u32, .ro, .operator, 0, 0, 0xFFFFFFFF, none, 1⟩,
    ⟨0x15, 0x15, .u32, .ro, .operator, 0, 0, 0xFFFFFFFF, none, 1⟩,
    ⟨0x16, 0x16, .u32, .ro, .operator, 0, 0, 0xFFFFFFFF, none, 1⟩,
    ⟨0x17, 0x17, .u32, .ro, .operator, 0, 0, 0xFFFFFFFF, none, 1⟩,
    ⟨0x18, 0x18, .u32, .ro, .operator, 0, 0, 0xFFFFFFFF, none, 1⟩,
    ⟨0x19, 0x19, .u32, .ro, .operator, 0, 0, 0xFFFFFFFF, none, 1⟩,
    ⟨0x1A, 0x1A, .u32, .ro, .operator, 0, 0, 0xFFFFFFFF, none, 1⟩,
    ⟨0x1B, 0x1B, .u32, .ro, .operator, 0, 0, 0xFFFFFFFF, none, 1⟩,
    ⟨0x1C, 0x1C, .u32, .ro, .operator, 0, 0, 0xFFFFFFFF, none, 1⟩,
    ⟨0x1D, 0x1D, .u32, .ro, .operator, 0, 0, 0xFFFFFFFF, none, 1⟩,
    ⟨0x1E, 0x1E, .u8, .wo, .service, 0, 1, 1, none, 1⟩,
    ⟨0x20, 0x20, .bool, .rs, .service, 1, 0, 1, none, 1⟩,
    ⟨0x21, 0x21, .u8, .rs, .service, 0, 0, 1, none, 1⟩,
    ⟨0x22, 0x22, .bool, .rs, .service, 0, 0, 1, none, 1⟩,
    ⟨0x23, 0x23, .u8, .ro, .operator, 0, 0, 0xFF, none, 1⟩,
    ⟨0x24, 0x24, .u32, .ro, .operator, 0, 0, 0xFFFFFFFF, none, 1⟩,
    ⟨0x25, 0x25, .u32, .ro, .operator, 0, 0, 0xFFFFFFFF, none, 1⟩,
    ⟨0x26, 0x26, .u32, .ro, .operator, 0, 0, 0xFFFFFFFF, none, 1⟩,
    ⟨0x27, 0x27, .u32, .ro, .operator, 0, 0, 0xFFFFFFFF, none, 1⟩] ++
  [
    ⟨0x28, 0x28, .u32, .ro, .operator, 0, 0, 0xFFFFFFFF, none, 1⟩,
    ⟨0x29, 0x29, .u32, .ro, .operator, 0, 0, 0xFFFFFFFF, none, 1⟩,
    ⟨0x2A, 0x2A, .u32, .ro, .operator, 0, 0, 0xFFFFFFFF, none, 1⟩,
    ⟨0x2B, 0x2B, .u32, .ro, .operator, 0, 0, 0xFFFFFFFF, none, 1⟩,
    ⟨0x2C, 0x2C, .u32, .ro, .operator, 0, 0, 0xFFFFFFFF, none, 1⟩,
    ⟨0x2D, 0x2D, .u32, .ro, .operator, 0, 0, 0xFFFFFFFF, none, 1⟩,
    ⟨0x2E, 0x2E, .u8, .wo, .service, 0, 1, 1, none, 1⟩,
    ⟨0x30, 0x30, .bool, .rs, .service, 1, 0, 1, none, 1⟩,
    ⟨0x31, 0x31, .u8, .rs, .service, 0, 0, 1, none, 1⟩,
    ⟨0x32, 0x32, .bool, .rs, .service, 0, 0, 1, none, 1⟩,
    ⟨0x33, 0x33, .u8, .ro, .operator, 0, 0, 0xFF, none, 1⟩,
    ⟨0x34, 0x34, .u32, .ro, .operator, 0, 0, 0xFFFFFFFF, none, 1⟩,
    ⟨0x35, 0x35, .u32, .ro, .operator, 0, 0, 0xFFFFFFFF, none, 1⟩,
    ⟨0x36, 0x36, .u32, .ro, .operator, 0, 0, 0xFFFFFFFF, none, 1⟩,
    ⟨0x37, 0x37, .u32, .ro, .operator, 0, 0, 0xFFFFFFFF, none, 1⟩,
    ⟨0x38, 0x38, .u32, .ro, .operator, 0, 0, 0xFFFFFFFF, none, 1⟩,
    ⟨0x39, 0x39, .u32, .ro, .operator, 0, 0, 0xFFFFFFFF, none, 1⟩,
    ⟨0x3A, 0x3A, .u32, .ro, .operator, 0, 0, 0xFFFFFFFF, none, 1⟩,
    ⟨0x3B, 0x3B, .u32, .ro, .operator, 0, 0, 0xFFFFFFFF, none, 1⟩,
    ⟨0x3C, 0x3C, .u32, .ro, .operator, 0, 0, 0xFFFFFFFF, none, 1⟩,
    ⟨0x3D, 0x3D, .u32, .ro, .operator, 0, 0, 0xFFFFFFFF, none, 1⟩,
    ⟨0x3E, 0x3E, .u8, .wo, .service, 0, 1, 1, none, 1⟩,
    ⟨0x40, 0x40, .bool, .rs, .service, 1, 0, 1, none, 1⟩,
    ⟨0x41, 0x41, .u8, .rs, .service, 0, 0, 1, none, 1⟩] ++
  [
    ⟨0x42, 0x42, .bool, .rs, .service, 0, 0, 1, none, 1⟩,
    ⟨0x43, 0x43, .u8, .ro, .operator, 0, 0, 0xFF, none, 1⟩,
    ⟨0x44, 0x44, .u32, .ro, .operator, 0, 0, 0xFFFFFFFF, none, 1⟩,
    ⟨0x45, 0x45, .u32, .ro, .operator, 0, 0, 0xFFFFFFFF, none, 1⟩,
    ⟨0x46, 0x46, .u32, .ro, .operator, 0, 0, 0xFFFFFFFF, none, 1⟩,
    ⟨0x47, 0x47, .u32, .ro, .operator, 0, 0, 0xFFFFFFFF, none, 1⟩,
    ⟨0x48, 0x48, .u32, .ro, .operator, 0, 0, 0xFFFFFFFF, none, 1⟩,
    ⟨0x49, 0x49, .u32, .ro, .operator, 0, 0, 0xFFFFFFFF, none, 1⟩,
    ⟨0x4A, 0x4A, .u32, .ro, .operator, 0, 0, 0xFFFFFFFF, none, 1⟩,
    ⟨0x4B, 0x4B, .u32, .ro, .operator, 0, 0, 0xFFFFFFFF, none, 1⟩,
    ⟨0x4C, 0x4C, .u32, .ro, .operator, 0, 0, 0xFFFFFFFF, none, 1⟩,
    ⟨0x4D, 0x4D, .u32, .ro, .operator, 0, 0, 0xFFFFFFFF, none, 1⟩,
    ⟨0x4E, 0x4E, .u8, .wo, .service, 0, 1, 1, none, 1⟩]

/-- Object 0x3730 (R562). -/
def rowsFtime : List Row :=
  [
    ⟨0, 0, .u8, .ro, .operator, 0xB, 0, 0xFF, none, 1⟩,
    ⟨1, 1, .u8, .rw, .service, 0, 0, 1, none, 1⟩,
    ⟨2, 2, .u32, .rw, .service, 0, 0, 0xFFFFFFFF, none, 1⟩,
    ⟨3, 3, .u32, .rw, .service, 0, 0, 0xFFFFFFFF, none, 1⟩,
    ⟨4, 4, .u8, .ro, .operator, 0, 0, 0xFF, none, 1⟩,
    ⟨5, 5, .i32, .ro, .operator, 0, (-0x80000000), 0x7FFFFFFF, none, 1⟩,
    ⟨6, 6, .u32, .ro, .operator, 0, 0, 0xFFFFFFFF, none, 1⟩,
    ⟨7, 7, .u32, .ro, .operator, 0, 0, 0xFFFFFFFF, none, 1⟩,
    ⟨8, 8, .u32, .ro, .operator, 0, 0, 0xFFFFFFFF, none, 1⟩,
    ⟨9, 9, .u32, .ro, .operator, 0, 0, 0xFFFFFFFF, none, 1⟩,
    ⟨0xA, 0xA, .u32, .ro, .operator, 0, 0, 0xFFFFFFFF, none, 1⟩,
    ⟨0xB, 0xB, .u8, .wo, .service, 0, 1, 1, none, 1⟩]

/-- Object 0x3780 (R563). -/
def rowsGroup : List Row :=
  [
    ⟨0, 0, .u8, .ro, .operator, 0xB, 0, 0xFF, none, 1⟩,
    ⟨1, 1, .u32, .ro, .operator, 0, 0, 0xFFFFFFFF, none, 1⟩,
    ⟨2, 2, .u8, .ro, .operator, 0, 0, 0xFF, none, 1⟩,
    ⟨3, 3, .u32, .ro, .operator, 0, 0, 0xFFFFFFFF, none, 1⟩,
    ⟨4, 4, .u32, .ro, .operator, 0, 0, 0xFFFFFFFF, none, 1⟩,
    ⟨5, 5, .u32, .ro, .operator, 0, 0, 0xFFFFFFFF, none, 1⟩,
    ⟨6, 6, .u32, .ro, .operator, 0, 0, 0xFFFFFFFF, none, 1⟩,
    ⟨7, 7, .u8, .ro, .operator, 0, 0, 0xFF, none, 1⟩,
    ⟨8, 8, .u8, .ro, .operator, 0, 0, 0xFF, none, 1⟩,
    ⟨9, 9, .u8, .ro, .operator, 0, 0, 0xFF, none, 1⟩,
    ⟨0xA, 0xA, .u16, .ro, .operator, 0, 0, 0xFFFF, none, 1⟩,
    ⟨0xB, 0xB, .u32, .ro, .operator, 0, 0, 0xFFFFFFFF, none, 1⟩]

/-- Object 0x3780-0x378F (R564). -/
def rowsMember : List Row :=
  [
    ⟨0, 0, .u8, .ro, .operator, 0xC, 0, 0xFF, none, 1⟩,
    ⟨1, 1, .u32, .ro, .operator, 0, 0, 0xFFFFFFFF, none, 1⟩,
    ⟨2, 2, .u32, .ro, .operator, 0, 0, 0xFFFFFFFF, none, 1⟩,
    ⟨3, 3, .u32, .ro, .operator, 0, 0, 0xFFFFFFFF, none, 1⟩,
    ⟨4, 4, .u8, .ro, .operator, 0, 0, 0xFF, none, 1⟩,
    ⟨5, 5, .u8, .ro, .operator, 0, 0, 0xFF, none, 1⟩,
    ⟨6, 6, .u8, .ro, .operator, 0, 0, 0xFF, none, 1⟩,
    ⟨7, 7, .u16, .ro, .operator, 0, 0, 0xFFFF, none, 1⟩,
    ⟨8, 8, .u32, .ro, .operator, 0, 0, 0xFFFFFFFF, none, 1⟩,
    ⟨9, 9, .u32, .ro, .operator, 0, 0, 0xFFFFFFFF, none, 1⟩,
    ⟨0xA, 0xA, .u8, .ro, .operator, 0, 0, 0xFF, none, 1⟩,
    ⟨0xB, 0xB, .u16, .ro, .operator, 0, 0, 0xFFFF, none, 1⟩,
    ⟨0xC, 0xC, .u32, .ro, .operator, 0, 0, 0xFFFFFFFF, none, 1⟩]

/-- Object 0x3790-0x379F (R565). -/
def rowsFanout : List Row :=
  [
    ⟨0, 0, .u8, .ro, .operator, 6, 0, 0xFF, none, 1⟩,
    ⟨1, 1, .u32, .rw, .service, 0, 0, 0xFFFFFFFF, none, 1⟩,
    ⟨2, 2, .u16, .rw, .service, 0, 0, 0xFFFF, none, 1⟩,
    ⟨3, 3, .u32, .rw, .operator, 0, 0, 0xFFFFFFFF, none, 1⟩,
    ⟨4, 4, .u16, .ro, .operator, 0, 0, 0xFFFF, none, 1⟩,
    ⟨5, 5, .u16, .ro, .operator, 0, 0, 0xFFFF, none, 1⟩,
    ⟨6, 6, .u32, .ro, .operator, 0, 0, 0xFFFFFFFF, none, 1⟩]

/-- Object 0x37A0 (R566). -/
def rowsGmap0 : List Row :=
  [
    ⟨0, 0, .u8, .ro, .operator, 0x80, 0, 0xFF, none, 1⟩,
    ⟨1, 0x80, .u32, .rw, .service, 0, 0, 0xFFFFFFFF, none, 1⟩]

/-- Object 0x37A1 (R566). -/
def rowsGmap1 : List Row :=
  [
    ⟨0, 0, .u8, .ro, .operator, 0x80, 0, 0xFF, none, 1⟩,
    ⟨1, 0x80, .f32, .ro, .operator, 0, 0xFF7FFFFF, 0x7F7FFFFF, none, 1⟩]

/-- Object 0x37A2 (R566). -/
def rowsGmap2 : List Row :=
  [
    ⟨0, 0, .u8, .ro, .operator, 0x80, 0, 0xFF, none, 1⟩,
    ⟨1, 0x80, .u8, .ro, .operator, 4, 0, 0xFF, none, 1⟩]

/-- Object 0x37A3 (R566). -/
def rowsGmap3 : List Row :=
  [
    ⟨0, 0, .u8, .ro, .operator, 0x80, 0, 0xFF, none, 1⟩,
    ⟨1, 0x80, .u16, .ro, .operator, 0xFFFF, 0, 0xFFFF, none, 1⟩]

/-- Object 0x3800 (R577). -/
def rowsCowl : List Row :=
  [
    ⟨0, 0, .u8, .ro, .operator, 0xD2, 0, 0xFF, none, 1⟩,
    ⟨0x10, 0x10, .u8, .rw, .service, 0, 0, 0xF, none, 1⟩,
    ⟨0x11, 0x11, .u32, .rw, .service, 0x2F, 0, 0xFFFFFFFF, none, 1⟩,
    ⟨0x12, 0x12, .u32, .rw, .service, 0xFF, 0, 0xFFFFFFFF, none, 1⟩,
    ⟨0x13, 0x13, .u32, .rw, .service, 0xFF, 0, 0xFFFFFFFF, none, 1⟩,
    ⟨0x14, 0x14, .u8, .rw, .service, 0, 0, 0xF, none, 1⟩,
    ⟨0x15, 0x15, .u32, .rw, .service, 0x2F, 0, 0xFFFFFFFF, none, 1⟩,
    ⟨0x16, 0x16, .u32, .rw, .service, 0xFF, 0, 0xFFFFFFFF, none, 1⟩,
    ⟨0x17, 0x17, .u32, .rw, .service, 0xFF, 0, 0xFFFFFFFF, none, 1⟩,
    ⟨0x18, 0x18, .u8, .rw, .service, 0, 0, 0xF, none, 1⟩,
    ⟨0x19, 0x19, .u32, .rw, .service, 0x2F, 0, 0xFFFFFFFF, none, 1⟩,
    ⟨0x1A, 0x1A, .u32, .rw, .service, 0xFF, 0, 0xFFFFFFFF, none, 1⟩,
    ⟨0x1B, 0x1B, .u32, .rw, .service, 0xFF, 0, 0xFFFFFFFF, none, 1⟩,
    ⟨0x1C, 0x1C, .u8, .rw, .service, 0, 0, 0xF, none, 1⟩,
    ⟨0x1D, 0x1D, .u32, .rw, .service, 0x2F, 0, 0xFFFFFFFF, none, 1⟩,
    ⟨0x1E, 0x1E, .u32, .rw, .service, 0xFF, 0, 0xFFFFFFFF, none, 1⟩,
    ⟨0x1F, 0x1F, .u32, .rw, .service, 0xFF, 0, 0xFFFFFFFF, none, 1⟩,
    ⟨0x40, 0x7F, .u32, .rw, .service, 0x8000000, 0, 0xFFFFFFFF, none, 1⟩,
    ⟨0x80, 0xBF, .u16, .ro, .operator, 0, 0, 0xFFFF, none, 1⟩,
    ⟨0xC0, 0xC0, .u32, .ro, .operator, 0, 0, 0xFFFFFFFF, none, 1⟩,
    ⟨0xC1, 0xC1, .u32, .ro, .operator, 0, 0, 0xFFFFFFFF, none, 1⟩,
    ⟨0xC2, 0xC2, .u32, .ro, .operator, 0, 0, 0xFFFFFFFF, none, 1⟩,
    ⟨0xC3, 0xC3, .u32, .ro, .operator, 0, 0, 0xFFFFFFFF, none, 1⟩,
    ⟨0xC4, 0xC4, .u32, .ro, .operator, 0, 0, 0xFFFFFFFF, none, 1⟩] ++
  [
    ⟨0xC5, 0xC5, .u32, .ro, .operator, 0, 0, 0xFFFFFFFF, none, 1⟩,
    ⟨0xC6, 0xC6, .u32, .ro, .operator, 0, 0, 0xFFFFFFFF, none, 1⟩,
    ⟨0xC7, 0xC7, .u32, .ro, .operator, 0, 0, 0xFFFFFFFF, none, 1⟩,
    ⟨0xC8, 0xCB, .u32, .ro, .operator, 0, 0, 0xFFFFFFFF, none, 1⟩,
    ⟨0xD0, 0xD0, .u8, .rw, .operator, 0, 0, 3, none, 1⟩,
    ⟨0xD1, 0xD1, .dom, .wo, .operator, 0, 1, 0x400, none, 1⟩,
    ⟨0xD2, 0xD2, .u32, .ro, .operator, 0, 0, 0xFFFFFFFF, none, 1⟩]

/-- Object 0x3900 (R597). -/
def rowsAsh : List Row :=
  [
    ⟨0, 0, .u8, .ro, .operator, 0x10, 0, 0xFF, none, 1⟩,
    ⟨1, 1, .u16, .rw, .operator, 0, 0, 0xFFFF, none, 1⟩,
    ⟨2, 9, .u32, .ro, .operator, 0, 0, 0xFFFFFFFF, none, 1⟩,
    ⟨0xA, 0xA, .u16, .ro, .operator, 0, 0, 0xFFFF, none, 1⟩,
    ⟨0xB, 0xB, .bool, .ro, .operator, 0, 0, 1, none, 1⟩,
    ⟨0xC, 0xC, .u32, .ro, .operator, 0, 0, 0xFFFFFFFF, none, 1⟩,
    ⟨0xD, 0xD, .u16, .wo, .service, 0, 0xC1EA, 0xC1EA, none, 1⟩,
    ⟨0xE, 0xE, .u16, .ro, .operator, 0, 0, 0xFFFF, none, 1⟩,
    ⟨0xF, 0xF, .u8, .rw, .service, 0xA, 0, 0x3C, none, 1⟩,
    ⟨0x10, 0x10, .u8, .ro, .operator, 0, 0, 0xFF, none, 1⟩]

/-- Object 0x3A00 (R618). -/
def rowsThermal : List Row :=
  [
    ⟨0, 0, .u8, .ro, .operator, 0x16, 0, 0xFF, none, 1⟩,
    ⟨1, 6, .f32, .ro, .operator, 0, 0xFF7FFFFF, 0x7F7FFFFF, none, 1⟩,
    ⟨7, 7, .u8, .ro, .operator, 0, 0, 0xFF, none, 1⟩,
    ⟨8, 8, .u16, .ro, .operator, 0, 0, 0xFFFF, none, 1⟩,
    ⟨9, 9, .u32, .ro, .operator, 0, 0, 0xFFFFFFFF, none, 1⟩,
    ⟨0xA, 0xA, .bool, .rw, .service, 0, 0, 1, none, 1⟩,
    ⟨0xB, 0xB, .u8, .wo, .service, 0, 1, 1, none, 1⟩,
    ⟨0xC, 0xC, .u8, .ro, .operator, 0, 0, 0xFF, none, 1⟩,
    ⟨0xD, 0xD, .u8, .rw, .service, 0xFF, 0, 0x3F, some 0xFF, 1⟩,
    ⟨0xE, 0xE, .f32, .ro, .operator, 0, 0xFF7FFFFF, 0x7F7FFFFF, none, 1⟩,
    ⟨0xF, 0xF, .u16, .ro, .operator, 0x2710, 0, 0xFFFF, none, 1⟩,
    ⟨0x10, 0x10, .u8, .wo, .service, 0, 1, 2, none, 1⟩,
    ⟨0x11, 0x11, .u8, .ro, .operator, 0xFF, 0, 0xFF, none, 1⟩,
    ⟨0x12, 0x12, .f32, .ro, .operator, 0, 0xFF7FFFFF, 0x7F7FFFFF, none, 1⟩,
    ⟨0x13, 0x13, .u32, .ro, .operator, 0, 0, 0xFFFFFFFF, none, 1⟩,
    ⟨0x14, 0x14, .u32, .ro, .operator, 0, 0, 0xFFFFFFFF, none, 1⟩,
    ⟨0x15, 0x15, .u32, .ro, .operator, 0, 0, 0xFFFFFFFF, none, 1⟩,
    ⟨0x16, 0x16, .u8, .wo, .service, 0, 1, 1, none, 1⟩]

/-- Object 0x1000 (R510). -/
def rowsDevtype : List Row :=
  [
    ⟨0, 0, .u32, .ro, .operator, 0, 0, 0xFFFFFFFF, none, 1⟩]

/-- Object 0x1001 (R510). -/
def rowsErrreg : List Row :=
  [
    ⟨0, 0, .u8, .ro, .operator, 0, 0, 0xFF, none, 1⟩]

/-- Object 0x1003 (R510). -/
def rowsErrhist : List Row :=
  [
    ⟨0, 0, .u8, .rw, .operator, 0, 0, 0, none, 1⟩,
    ⟨1, 8, .u32, .ro, .operator, 0, 0, 0xFFFFFFFF, none, 1⟩]

/-- Object 0x1005 (R510). -/
def rowsSynccob : List Row :=
  [
    ⟨0, 0, .u32, .rw, .service, 0x80, 0, 0xFFFFFFFF, none, 1⟩]

/-- Object 0x1006 (R510). -/
def rowsSyncperiod : List Row :=
  [
    ⟨0, 0, .u32, .rw, .service, 0, 0, 0xFFFFFFFF, none, 1⟩]

/-- Object 0x1010 (R510). -/
def rowsStore : List Row :=
  [
    ⟨0, 0, .u8, .ro, .operator, 3, 0, 0xFF, none, 1⟩,
    ⟨1, 3, .u32, .rw, .service, 1, 0x65766173, 0x65766173, none, 1⟩]

/-- Object 0x1011 (R510). -/
def rowsRestore : List Row :=
  [
    ⟨0, 0, .u8, .ro, .operator, 3, 0, 0xFF, none, 1⟩,
    ⟨1, 3, .u32, .rw, .service, 1, 0x64616F6C, 0x64616F6C, none, 1⟩]

/-- Object 0x1014 (R510). -/
def rowsEmcycob : List Row :=
  [
    ⟨0, 0, .u32, .rw, .service, 0x80, 0, 0xFFFFFFFF, none, 1⟩]

/-- Object 0x1015 (R510). -/
def rowsEmcyinh : List Row :=
  [
    ⟨0, 0, .u16, .rw, .service, 0, 0, 0xFFFF, none, 1⟩]

/-- Object 0x1016 (R510). -/
def rowsHbcons : List Row :=
  [
    ⟨0, 0, .u8, .ro, .operator, 4, 0, 0xFF, none, 1⟩,
    ⟨1, 4, .u32, .rw, .service, 0, 0, 0xFFFFFFFF, none, 1⟩]

/-- Object 0x1017 (R510). -/
def rowsHbprod : List Row :=
  [
    ⟨0, 0, .u16, .rw, .service, 0, 0, 0xFFFF, none, 1⟩]

/-- Object 0x1018 (R510). -/
def rowsIdentity : List Row :=
  [
    ⟨0, 0, .u8, .ro, .operator, 4, 0, 0xFF, none, 1⟩,
    ⟨1, 1, .u32, .ro, .operator, 0xA71, 0, 0xFFFFFFFF, none, 1⟩,
    ⟨2, 2, .u32, .ro, .operator, 0x1930, 0, 0xFFFFFFFF, none, 1⟩,
    ⟨3, 3, .u32, .ro, .operator, 0, 0, 0xFFFFFFFF, none, 1⟩,
    ⟨4, 4, .u32, .ro, .operator, 0, 0, 0xFFFFFFFF, none, 1⟩]

/-- Object 0x1019 (R510). -/
def rowsSynccnt : List Row :=
  [
    ⟨0, 0, .u8, .rw, .service, 0, 0, 0xF0, none, 1⟩]

/-- Object 0x1200 (R510). -/
def rowsSdoserver : List Row :=
  [
    ⟨0, 0, .u8, .ro, .operator, 2, 0, 0xFF, none, 1⟩,
    ⟨1, 1, .u32, .ro, .operator, 0x600, 0, 0xFFFFFFFF, none, 1⟩,
    ⟨2, 2, .u32, .ro, .operator, 0x580, 0, 0xFFFFFFFF, none, 1⟩]

/-- Object 0x1400-0x1407 (R510). -/
def rowsRpdo : List Row :=
  [
    ⟨0, 0, .u8, .ro, .operator, 5, 0, 0xFF, none, 1⟩,
    ⟨1, 1, .u32, .rw, .service, 0, 0, 0xFFFFFFFF, none, 1⟩,
    ⟨2, 2, .u8, .rw, .service, 0xFF, 0, 0xFF, none, 1⟩,
    ⟨3, 3, .u16, .rw, .service, 0, 0, 0xFFFF, none, 1⟩,
    ⟨5, 5, .u16, .rw, .service, 0, 0, 0xFFFF, none, 1⟩]

/-- Object 0x1600-0x1607 (R510). -/
def rowsRpdomap : List Row :=
  [
    ⟨0, 0, .u8, .rw, .service, 0, 0, 8, none, 1⟩,
    ⟨1, 8, .u32, .rw, .service, 0, 0, 0xFFFFFFFF, none, 1⟩]

/-- Object 0x1800-0x1807 (R510). -/
def rowsTpdo : List Row :=
  [
    ⟨0, 0, .u8, .ro, .operator, 6, 0, 0xFF, none, 1⟩,
    ⟨1, 1, .u32, .rw, .service, 0, 0, 0xFFFFFFFF, none, 1⟩,
    ⟨2, 2, .u8, .rw, .service, 0xFF, 0, 0xFF, none, 1⟩,
    ⟨3, 3, .u16, .rw, .service, 0, 0, 0xFFFF, none, 1⟩,
    ⟨5, 5, .u16, .rw, .service, 0, 0, 0xFFFF, none, 1⟩,
    ⟨6, 6, .u8, .rw, .service, 0, 0, 0xF0, none, 1⟩]

/-- Object 0x1A00-0x1A07 (R510). -/
def rowsTpdomap : List Row :=
  [
    ⟨0, 0, .u8, .rw, .service, 0, 0, 8, none, 1⟩,
    ⟨1, 8, .u32, .rw, .service, 0, 0, 0xFFFFFFFF, none, 1⟩]

/-- Every object of the dictionary (R114, R130, R510). Indices in no block are absent. -/
def objectBlocks : List Block :=
  [ ⟨0x1000, 1, rowsDevtype⟩,
    ⟨0x1001, 1, rowsErrreg⟩,
    ⟨0x1003, 1, rowsErrhist⟩,
    ⟨0x1005, 1, rowsSynccob⟩,
    ⟨0x1006, 1, rowsSyncperiod⟩,
    ⟨0x1010, 1, rowsStore⟩,
    ⟨0x1011, 1, rowsRestore⟩,
    ⟨0x1014, 1, rowsEmcycob⟩,
    ⟨0x1015, 1, rowsEmcyinh⟩,
    ⟨0x1016, 1, rowsHbcons⟩,
    ⟨0x1017, 1, rowsHbprod⟩,
    ⟨0x1018, 1, rowsIdentity⟩,
    ⟨0x1019, 1, rowsSynccnt⟩,
    ⟨0x1200, 1, rowsSdoserver⟩,
    ⟨0x1400, 8, rowsRpdo⟩,
    ⟨0x1600, 8, rowsRpdomap⟩ ] ++
  [ ⟨0x1800, 8, rowsTpdo⟩,
    ⟨0x1A00, 8, rowsTpdomap⟩,
    ⟨0x2000, 1, rowsIdent⟩,
    ⟨0x2001, 1, rowsProc⟩,
    ⟨0x2002, 1, rowsFamily⟩,
    ⟨0x2003, 1, rowsAbort⟩,
    ⟨0x2010, 1, rowsHbeat⟩,
    ⟨0x2011, 1, rowsHost⟩,
    ⟨0x2012, 1, rowsLost⟩,
    ⟨0x2013, 1, rowsPolicy⟩,
    ⟨0x2100, 1, rowsMode⟩,
    ⟨0x2101, 1, rowsCfg⟩,
    ⟨0x2110, 16, rowsOverlay⟩,
    ⟨0x2200, 1, rowsPower⟩,
    ⟨0x2201, 1, rowsContact⟩,
    ⟨0x2300, 1, rowsStart⟩ ] ++
  [ ⟨0x2400, 64, rowsChan⟩,
    ⟨0x2480, 8, rowsConv⟩,
    ⟨0x2500, 64, rowsCoef⟩,
    ⟨0x2600, 64, rowsLoop⟩,
    ⟨0x2680, 1, rowsBellows⟩,
    ⟨0x2681, 1, rowsTrace⟩,
    ⟨0x2700, 64, rowsLearn⟩,
    ⟨0x2800, 20, rowsAct⟩,
    ⟨0x2820, 10, rowsHs⟩,
    ⟨0x2900, 16, rowsDrive⟩,
    ⟨0x2910, 16, rowsDraught⟩,
    ⟨0x2920, 8, rowsCout⟩,
    ⟨0x2930, 8, rowsPulse⟩,
    ⟨0x2938, 1, rowsSetp⟩,
    ⟨0x2940, 1, rowsInputs⟩,
    ⟨0x3000, 1, rowsKelsis⟩ ] ++
  [ ⟨0x3010, 4, rowsCol⟩,
    ⟨0x3020, 1, rowsTables⟩,
    ⟨0x3040, 16, rowsGrain⟩,
    ⟨0x3060, 1, rowsBound⟩,
    ⟨0x3070, 1, rowsMap⟩,
    ⟨0x3100, 1, rowsPredg⟩,
    ⟨0x3110, 4, rowsPred⟩,
    ⟨0x3400, 4, rowsCore⟩,
    ⟨0x3410, 1, rowsImages⟩,
    ⟨0x3480, 1, rowsRouter⟩,
    ⟨0x3500, 4, rowsPm⟩,
    ⟨0x3600, 1, rowsCanA⟩,
    ⟨0x3601, 1, rowsCanbitA⟩,
    ⟨0x3602, 1, rowsCanfiltA⟩,
    ⟨0x3610, 1, rowsCantimeA⟩,
    ⟨0x3640, 1, rowsCanB⟩ ] ++
  [ ⟨0x3641, 1, rowsCanbitB⟩,
    ⟨0x3642, 1, rowsCanfiltB⟩,
    ⟨0x3650, 1, rowsCantimeB⟩,
    ⟨0x3700, 1, rowsFlue⟩,
    ⟨0x3710, 1, rowsPlan⟩,
    ⟨0x3720, 1, rowsPort⟩,
    ⟨0x3730, 1, rowsFtime⟩,
    ⟨0x3780, 1, rowsGroup⟩,
    ⟨0x3781, 15, rowsMember⟩,
    ⟨0x3790, 16, rowsFanout⟩,
    ⟨0x37A0, 1, rowsGmap0⟩,
    ⟨0x37A1, 1, rowsGmap1⟩,
    ⟨0x37A2, 1, rowsGmap2⟩,
    ⟨0x37A3, 1, rowsGmap3⟩,
    ⟨0x3800, 1, rowsCowl⟩,
    ⟨0x3900, 1, rowsAsh⟩ ] ++
  [ ⟨0x3A00, 1, rowsThermal⟩,
    ⟨0x3B00, 1, rowsSupply⟩ ]

end Sys2Proof.Machine
end

