-- ==== Sys2Proof/Machine/Store.lean ====
section
/-! DEFINITION. Keyed stores in one canonical form: a list of (key, value) pairs with strictly rising keys and no entry
equal to what an unlisted key reads as. The dictionary's values, the byte memories and the module's sparse tables are
stores, so equal contents are equal data. -/

namespace Sys2Proof.Machine

variable {α : Type} [DecidableEq α]

/-- The value listed under a key. -/
def lookupKey : List (Nat × α) → Nat → Option α
  | [], _ => none
  | (a, v) :: t, k => if a = k then some v else lookupKey t k

/-- The list with `v` under `k`, keys still rising. -/
def insertKey : List (Nat × α) → Nat → α → List (Nat × α)
  | [], k, v => [(k, v)]
  | (a, w) :: t, k, v =>
    if k < a then (k, v) :: (a, w) :: t
    else if k = a then (k, v) :: t
    else (a, w) :: insertKey t k v

/-- The list without `k`. -/
def eraseKey (m : List (Nat × α)) (k : Nat) : List (Nat × α) := m.filter (fun e => e.1 != k)

/-- What `k` reads as: the listed value, or the default. -/
def readKey (d : Nat → α) (m : List (Nat × α)) (k : Nat) : α :=
  match lookupKey m k with
  | some v => v
  | none => d k

/-- Write `v` under `k`: writing the default removes the entry. -/
def writeKey (d : Nat → α) (m : List (Nat × α)) (k : Nat) (v : α) : List (Nat × α) :=
  if v = d k then eraseKey m k else insertKey m k v

/-- Keys strictly above `b`, strictly rising, and no entry equal to its default. -/
def canonicalFrom (d : Nat → α) : Nat → List (Nat × α) → Bool
  | _, [] => true
  | b, (a, v) :: t => decide (b ≤ a) && decide (v ≠ d a) && canonicalFrom d (a + 1) t

/-- The canonical form of a store. -/
def canonical (d : Nat → α) (m : List (Nat × α)) : Bool := canonicalFrom d 0 m

/-- Every entry whose key `p` selects is removed (its key reads as the default again). -/
def eraseWhere (p : Nat → Bool) (m : List (Nat × α)) : List (Nat × α) := m.filter (fun e => !p e.1)

end Sys2Proof.Machine
end

