-- ==== Sys2Proof/Machine/Ops.lean ====
section
/-! DEFINITION. The named operations every meaning uses: reading and writing the dictionary's stores, saturating counts,
free values, module time, raising an Ash event (R588, R590) and raising an event source (R471). -/

namespace Sys2Proof.Machine

open Sys2Proof

/-! ### The object tables, looked up -/

/-- The row of index:subindex, by its key. -/
def findRow (key : Nat) : Option Row :=
  match objectBlocks.find? (fun b => Nat.ble b.base (key / 256) && Nat.blt (key / 256) (b.base + b.count)) with
  | some b => b.rows.find? (fun r => Nat.ble r.lo (key % 256) && Nat.ble (key % 256) r.hi)
  | none => none

/-- The index is that of an object of the dictionary (R114, R130). -/
def objectPresent (index : Nat) : Bool :=
  objectBlocks.any (fun b => Nat.ble b.base index && Nat.blt index (b.base + b.count))

/-- Defaults that follow from the number of the item (R12): 0x2480+c:01, 0x2820+h:0A, and the PDO COB-IDs of the
predefined connection set for the default node-ID (R510). -/
def itemDefault (key : Nat) (d : Int) : Int :=
  let idx := key / 256
  let sub := key % 256
  if Nat.ble 0x2480 idx && Nat.ble idx 0x2487 && sub == 1 then Int.ofNat (8 * (idx - 0x2480))
  else if Nat.ble 0x2825 idx && Nat.ble idx 0x2829 && sub == 0x0A then 1
  else if Nat.ble 0x1400 idx && Nat.ble idx 0x1407 && sub == 1 then
    (if Nat.ble idx 0x1403 then Int.ofNat (0x200 + 0x100 * (idx - 0x1400) + 0x20) else 0x80000000)
  else if Nat.ble 0x1800 idx && Nat.ble idx 0x1807 && sub == 1 then
    (if Nat.ble idx 0x1803 then Int.ofNat (0x180 + 0x100 * (idx - 0x1800) + 0x20) else 0x80000000)
  else d

/-- The default of a subindex (R12); 0 where there is none. -/
def objDefault (key : Nat) : Int :=
  match findRow key with
  | some r => itemDefault key r.dflt
  | none => 0

/-- Whole milliseconds from a tick to now, in 32 bits (log 64). -/
def State.msSince (s : State) (t : Nat) : Nat := min (2 ^ 32 - 1) ((s.clock.tick - t) / 16)

/-- The default content of a VIS or DOM: the part number, its 7 characters with nothing after them (R131; DESIGN CHOICE, log 187), 32 zero
bytes for the owner key hash (R465), the grain-type file that Rylys supplies (R637; log 53), 32 times plus infinity for candidate costs before
an update (R365), else empty. -/
def blkDefault (key : Nat) : List Byte :=
  if key = Key.identPartNumber then [0x46, 0x44, 0x41, 0x36, 0x34, 0x34, 0x38]
  else if key = Key.imagesOwnerKeyHash then List.replicate 32 0
  else if key = Key.tablesFileImage then Config.suppliedGrainFile
  else if (List.range 4).any (fun c => key == Key.predCandidateCosts c) then (List.replicate 32 [0x00, 0x00, 0x80, 0x7F]).flatten
  else []

/-- A configuration subindex (R133): RS, or RW at level S or V; not a live exception. -/
def isConfig (key : Nat) : Bool :=
  match findRow key with
  | none => false
  | some r =>
    let idx := key / 256
    (r.right == .rs || (r.right == .rw && r.level != .operator))
      && key != Key.powerRTC
      && key != Key.identServicePasscode
      && key != Key.startConfigurationImage && key != Key.tablesFileImage
      && !(Nat.ble 0x3500 idx && Nat.ble idx 0x3503)
      && !(idx == 0x1010 || idx == 0x1011)

/-! ### The dictionary's stores -/

/-- The running value of a numeric subindex. -/
def State.get (s : State) (k : Nat) : Int := readKey objDefault s.obj k

/-- The running value as a natural number. -/
def State.nat (s : State) (k : Nat) : Nat := (s.get k).toNat

/-- The running value as a binary32 word (or any 32-bit word). -/
def State.word (s : State) (k : Nat) : Word := BitVec.ofInt 32 (s.get k)

/-- The running value as a truth value. -/
def State.flag (s : State) (k : Nat) : Bool := s.get k != 0

/-- Give a subindex its running value. -/
def State.put (s : State) (k : Nat) (v : Int) : State := { s with obj := writeKey objDefault s.obj k v }

/-- Give a subindex a natural number. -/
def State.putN (s : State) (k : Nat) (v : Nat) : State := s.put k (Int.ofNat v)

/-- Give a subindex a word. -/
def State.putW (s : State) (k : Nat) (v : Word) : State := s.putN k v.toNat

/-- Give a subindex a truth value. -/
def State.putB (s : State) (k : Nat) (b : Bool) : State := s.putN k (b2n b)

/-- Give several subindexes the value 0 (the clear commands). -/
def State.zero (s : State) : List Nat → State
  | [] => s
  | k :: ks => (s.put k 0).zero ks

/-- Return a subindex to its default. -/
def State.putDefault (s : State) (k : Nat) : State := s.put k (objDefault k)

/-- Set or clear one bit of a status word. -/
def setBit (x n : Nat) (b : Bool) : Nat := if x.testBit n = b then x else if b then x + 2 ^ n else x - 2 ^ n

/-- Set or clear one bit of a subindex. -/
def State.putBit (s : State) (k n : Nat) (b : Bool) : State := s.putN k (setBit (s.nat k) n b)

/-- Bit `n` of a subindex. -/
def State.bitOf (s : State) (k n : Nat) : Bool := (s.nat k).testBit n

/-- A saturating count of `w` bits, one up. -/
def State.bump (w : Nat) (s : State) (k : Nat) : State := s.putN k (satSucc w (s.nat k))

/-- A wrapping count of 32 bits, one up. -/
def State.bumpWrap (s : State) (k : Nat) : State := s.putN k ((s.nat k + 1) % 2 ^ 32)

/-- The base value of a configuration subindex (R148). -/
def State.baseGet (s : State) (k : Nat) : Int := readKey objDefault s.base k

/-- Give a configuration subindex its base value. -/
def State.putBase (s : State) (k : Nat) (v : Int) : State :=
  { s with base := writeKey objDefault s.base k v, dict := { s.dict with crcDirty := true } }

/-- The content of a VIS or DOM. -/
def State.block (s : State) (k : Nat) : List Byte := readKey blkDefault s.blk k

/-- Give a VIS or DOM its content. -/
def State.putBlock (s : State) (k : Nat) (bs : List Byte) : State := { s with blk := writeKey blkDefault s.blk k bs }

/-! ### Free values (log 1) -/

/-- The next free natural number, and the state that has drawn it. -/
def State.freeNat (s : State) : Nat × State := (Config.freeNat s.free, { s with free := s.free + 1 })

/-- The next free 32-bit word, and the state that has drawn it. -/
def State.freeWord (s : State) : Word × State := (Config.freeWord s.free, { s with free := s.free + 1 })

/-- `n` free bytes, and the state that has drawn them. -/
def State.freeBytes (s : State) (n : Nat) : List Byte × State :=
  ((List.range n).map (fun i => Config.freeByte (s.free + i)), { s with free := s.free + n })

/-- n / d as an integer: exact where d divides n, else one of the two neighbours, which the manual does not say (log 34). -/
def State.freeRound (s : State) (n : Int) (d : Nat) : Int × State :=
  let q := n / Int.ofNat d
  if n % Int.ofNat d = 0 then (q, s) else (q + Int.ofNat (Config.freeNat s.free % 2), { s with free := s.free + 1 })

/-- sat15 of a fraction (R234), its conversion to an integer being left open (log 34). -/
def State.sat15Of (s : State) (n : Int) (d : Nat) : Int × State :=
  let r := s.freeRound n d
  (clampInt (-32768) 32767 r.1, r.2)

/-! ### Module time -/

/-- Units of the clock in one tick, one AON count, one millisecond and one second (R17, R72). -/
abbrev unitsPerTick : Nat := 256
abbrev unitsPerAon : Nat := 125
abbrev unitsPerMs : Nat := 4096
abbrev unitsPerSecond : Nat := 4096000

/-- The operating-time count n of R72, in AON ticks. -/
def State.opCount (s : State) : Nat := s.clock.op / unitsPerAon

/-- The stamp of an event in ms: floor (n * 1,000 / 32,768) (R588). -/
def State.stampMs (s : State) : Nat := s.opCount * 1000 / 32768

/-- Whole operating seconds: floor (n / 32,768) (R72). -/
def State.opSeconds (s : State) : Nat := s.opCount / 32768

/-- Ticks that cover a time in milliseconds: 16 ticks of 62.5 us each (R123). -/
def ticksOfMs (ms : Nat) : Nat := 16 * ms

/-- Let `units` pass for the operating-time counter and the RTC (R72, R85); their drift on the RC oscillator (R73) is not modelled
(log 98). -/
def State.elapse (s : State) (units : Nat) : State :=
  let sub := s.clock.rtcSub + units
  let s1 := { s with clock := { s.clock with op := s.clock.op + units, rtcSub := sub % unitsPerSecond } }
  if sub / unitsPerSecond = 0 then s1
  else s1.putN Key.powerRTC ((s.nat Key.powerRTC + sub / unitsPerSecond) % 2 ^ 32)

/-- The RTC in whole seconds (R85). -/
def State.rtc (s : State) : Nat := s.nat Key.powerRTC

/-- Nanoseconds of a count of clock units: 15,625 / 64 ns each. -/
def nsOfUnits (u : Nat) : Nat := u * 15625 / 64

/-- Synchronised Flue time is held: SYNCED, HOLDOVER or GRANDMASTER (R178, R553). -/
def State.timeSynced (s : State) : Bool := s.nat Key.ftimeSyncState != 0

/-- Module time in ns: Flue time while held, else the RTC and its sub-second count (R178). -/
def State.moduleNs (s : State) : Nat :=
  if s.timeSynced then (Int.ofNat (nsOfUnits s.clock.op) + s.clock.flueOffset).toNat
  else s.rtc * 1000000000 + nsOfUnits s.clock.rtcSub

/-! ### Process state and power phase, as the other blocks ask for them -/

/-- The process states of 0x2001:01 (R111). -/
abbrev psInit : Nat := 0
abbrev psStopped : Nat := 1
abbrev psArmed : Nat := 2
abbrev psRunning : Nat := 3
abbrev psFault : Nat := 4
abbrev psKindling : Nat := 5

/-- The process state. -/
def State.process (s : State) : Nat := s.nat Key.procProcessState

/-- The PLL runs: BLAZE or SIMMER, or an entry not yet committed (R74, R82). -/
def State.clocksRun (s : State) : Bool :=
  match s.power.phase with
  | .awake => true
  | .entering _ => true
  | _ => false

/-- The module's own writing of FRAM and flash goes on unless P1 or the PLL is off (R66, R68, R74). -/
def State.logRuns (s : State) : Bool :=
  match s.power.phase with
  | .asleep _ => false
  | .onCell _ => false
  | _ => true

/-- A dictionary access is served while the module runs; in reset and asleep the dictionary is silent (R74, R91; log 2). -/
def State.served (s : State) (f : State → State) : State := if s.clocksRun then f s else s

/-- The process states in which outputs are enabled (R109): ARMED, RUNNING and, with safe values, FAULT. -/
def State.outputsEnabled (s : State) : Bool := s.process == psArmed || s.process == psRunning

/-- Thermal cold hold, in which outputs stay in the reset state (R612). -/
def State.coldHold (s : State) : Bool := s.bitOf Key.thermalStatus 6

/-- Outputs are in the reset state: INIT, STOPPED, Kindling mode (R109) and cold hold (R612). -/
def State.outputsReset (s : State) : Bool :=
  s.process == psInit || s.process == psStopped || s.process == psKindling || s.coldHold

/-- The driver bank of switch `h` is disabled or throttled (R605, R610). -/
def State.bankDisabled (s : State) (h : Nat) : Bool := s.bitOf Key.thermalStatus (4 + h / 5)
def State.bankThrottled (s : State) (h : Nat) : Bool := s.bitOf Key.thermalStatus (1 + h / 5)

/-- The ambient derating factor f in 0.01 % (R614). -/
def State.derating (s : State) : Nat := s.nat Key.thermalDeratingFactor

/-- The sensor the housekeeping converter takes next: the lowest pending one after the one last converted, wrapping (R602). -/
def Thermal.next (th : Thermal) : Option (Fin 6) :=
  ((List.finRange 6).map (fun k => th.latest + k + 1)).find? (fun i => th.demand[i])

/-- Begin the next conversion when the converter is idle: it meets every demand pending for its sensor (R602). A demand that
finds it idle is taken at once (log 39). -/
def Thermal.serve (th : Thermal) : Thermal :=
  if th.converting.isSome then th
  else match th.next with
    | none => th
    | some i =>
      { th with converting := some i, demand := th.demand.set i false,
                readers := th.readers.map (fun r =>
                  if r.begin_.contains i then { r with begin_ := r.begin_.filter (· != i), end_ := r.end_ ++ [i] } else r) }

/-- Raise a demand for some sensors (R601). -/
def State.thermalDemands (s : State) (l : List (Fin 6)) : State :=
  let th := l.foldl (fun th i => { th with demand := th.demand.set i true }) s.thermal
  { s with thermal := th.serve }

/-- A demand for sensor `i` when its last conversion is older than `ticks` (R601). -/
def State.thermalDemand (s : State) (i : Fin 6) (ticks : Nat) : State :=
  let old := !(s.thermal.lastTick[i]).any (fun t => decide (s.clock.tick - t ≤ ticks))
  if old then s.thermalDemands [i] else s

/-- P2 is lost (R69, R90). -/
def State.p2Lost (s : State) : Bool := s.bitOf Key.supplySupplyStatus 1

/-- HEAT_PERMIT and SAFETY_OK after filtering (R426). -/
def State.heatPermit (s : State) : Bool := s.bitOf Key.inputsInputLevels 2
def State.safetyOk (s : State) : Bool := s.bitOf Key.inputsInputLevels 3

/-- The loops that are enabled and name a destination (R230, R231). -/
def State.loopsNaming (s : State) (ty num : Nat) : List (Fin 64) :=
  (List.finRange 64).filter (fun l => s.flag (Key.loopEnable l.val) && s.nat (Key.loopDestinationType l.val) == ty
    && s.nat (Key.loopDestinationNumber l.val) == num)

/-- The module's unique ID (R131). -/
def State.uid (s : State) : Nat := s.nat Key.identUniqueIDHighWord * 2 ^ 32 + s.nat Key.identUniqueIDLowWord

/-- Groups this module heads. -/
def State.headed (s : State) : List Nat := (s.flue.groups.filter (fun r => r.head == s.uid && r.head != 0)).map (fun r => r.addr)

/-- ROOT_HEAD: head of the root group (R531, R553). -/
def State.rootHead (s : State) : Bool := s.headed.contains 0

/-! ### Cores and event sources -/

/-- Replace core `c`. -/
def State.setCore (s : State) (c : Fin 4) (f : Core → Core) : State :=
  { s with cores := s.cores.set c (f s.cores[c]) }

/-- The route of a global source: the half-word of 0x3480 that R473 names. -/
def State.route (s : State) (src : Nat) : Nat :=
  let w := s.nat (Key.routerRoutePair (src / 2))
  if src % 2 = 0 then w % 65536 else w / 65536 % 65536

/-- Source `src` is pending at a core (R470). -/
def Core.pendingSource (c : Core) (src : Nat) : Bool := (c.srcPend.getD (src / 32) 0).getLsbD (src % 32)

/-- Set or clear a source's pending bit. -/
def Core.setPendingSource (c : Core) (src : Nat) (b : Bool) : Core :=
  if h : src / 32 < 8 then
    let w := c.srcPend[src / 32]
    let m : Word := BitVec.ofNat 32 (2 ^ (src % 32))
    { c with srcPend := c.srcPend.set (src / 32) (if b then w ||| m else w &&& ~~~m) }
  else c

/-- A raise arrives at a core: the source's bit is set; a source already pending counts in MERGED (R470, R471, R481). -/
def Core.deliver (c : Core) (src : Nat) : Core :=
  if c.pendingSource src then { c with merged := satSucc 32 c.merged } else c.setPendingSource src true

/-- Deliver to a core; a raise delivered to a Stoker core is counted (R473). -/
def State.deliverTo (s : State) (c : Fin 4) (src : Nat) : State :=
  let s1 := s.setCore c (fun k => k.deliver src)
  if c = 0 then s1 else s1.bump 32 Key.routerRaisesDelivered

/-- Trace and snapshot triggers of a raise whose route is `r` (R468, R471). -/
def State.triggers (s : State) (src r : Nat) : State :=
  let s1 := if r.testBit 15 then
      ({ s with router := { s.router with bellowsLatch := s.router.bellowsLatch ++ [src] } }).bump 32 Key.routerBellowsTriggers
    else s
  if r.testBit 14 then
    ({ s1 with router := { s1.router with kelsisLatch := true } }).bump 32 Key.routerKelsisTriggers
  else s1

/-- Raise a global source: delivered as its route directs (R467, R468, R471). -/
def State.deliverSource (s : State) (src : Nat) : State :=
  let r := s.route src
  let core := field r 10 8
  let s1 := if core = 1 then s.deliverTo 1 src else if core = 2 then s.deliverTo 2 src
    else if core = 3 then s.deliverTo 3 src else s
  s1.triggers src r

/-- The level of a source pending at core `c`: the route's, or LOCAL_CTRL's for a local source (R470). -/
def State.sourceLevel (s : State) (c : Fin 4) (src : Nat) : Nat :=
  if 248 ≤ src ∧ src ≤ 251 then field (s.cores[c]).localCtrl.toNat (8 * (src - 248) + 4) (8 * (src - 248))
  else s.route src % 32

/-- The core's PENDING word: bit p is 1 when a source pending at this core has level p (R470). -/
def State.pendingWord (s : State) (c : Fin 4) : Word :=
  (List.range 256).foldl (fun w src =>
    if (s.cores[c]).pendingSource src then w ||| BitVec.ofNat 32 (2 ^ s.sourceLevel c src) else w) 0

/-! ### The return to BLAZE, and raising a source -/

/-- The module returns to BLAZE for the wake causes `bits`, none where an evaluation selects it (R76, R81, R85, R86): cause, previous
state, source 240. -/
def State.returnToBlaze (s : State) (bits : Nat) : State :=
  let s1 := (s.putN Key.powerLastWakeCause bits).putN Key.powerPreviousState
    (match s.power.phase with | .asleep p => p.code | .onCell p => p.code | _ => s.power.state.code)
  ({ s1 with power := { s1.power with state := .blaze, phase := .awake, latchedWake := 0, noticeOut := false,
                                      wokenAt := if bits = 0 then none else some s.clock.op } }).deliverSource 240

/-- An entry is abandoned before its commit point (R82): BLAZE, with ABANDONED set, source 241. -/
def State.abandonEntry (s : State) (bits : Nat) : State :=
  match s.power.phase with
  | .entering _ => (({ s with power := { s.power with banking := false } }).returnToBlaze (bits + 64)).deliverSource 241
  | _ => s

/-- A routed event, where bit 4 of 0x2200:03 enables it: it wakes the module from SIMMER and abandons an entry not yet committed; after
another wake of the same AON cycle its bit joins (R76, R82). -/
def State.eventWake (s : State) : State :=
  if s.bitOf Key.powerWakeSourceEnable 4 = false then s
  else match s.power.phase with
    | .awake =>
      if s.power.state = .simmer then s.returnToBlaze 16
      else if s.power.wokenAt = some s.clock.op then s.putBit Key.powerLastWakeCause 4 true
      else s
    | .entering _ => s.abandonEntry 16
    | _ => s

/-- Raise a global source: one routed to a core wakes the module from SIMMER (R76). -/
def State.raiseSource (s : State) (src : Nat) : State :=
  let core := field (s.route src) 10 8
  if 1 ≤ core ∧ core ≤ 3 then (s.deliverSource src).eventWake else s.deliverSource src

/-- Raise core-local source 248 + j of core `c`: delivered under LOCAL_CTRL, which wakes the module from SIMMER, with the triggers of the
route when its CORE field names this core (R76, R467, R468, R470). -/
def State.raiseLocal (s : State) (c : Fin 4) (j : Nat) : State :=
  let s1 := if (s.cores[c]).localCtrl.getLsbD (8 * j + 7) then (s.deliverTo c (248 + j)).eventWake else s
  let r := s.route (248 + j)
  if field r 10 8 = c.val then s1.triggers (248 + j) r else s1

/-! ### The Ash log's queue -/

/-- The severity of a module Ash code (R585). -/
def severityOf (code : Nat) : Nat :=
  if [0x0103, 0x0104, 0x0105, 0x0202, 0x0302, 0x0403, 0x0507, 0x050B, 0x0804, 0x0A01, 0x0A03, 0x0A04, 0x0B01, 0x0B05].contains code then 2
  else if [0x0203, 0x0406, 0x0407, 0x0B03, 0x0C03, 0x0E02].contains code then 12
  else if [0x0101, 0x0102, 0x0204, 0x0205, 0x0301, 0x0305, 0x0401, 0x0402, 0x0405, 0x0408, 0x0504, 0x0505, 0x0508, 0x0509,
      0x050A, 0x0601, 0x0602, 0x0605, 0x0606, 0x0608, 0x0701, 0x0702, 0x0703, 0x0705, 0x0706, 0x0707, 0x0801, 0x0806,
      0x0904, 0x0908, 0x0A05, 0x0B02, 0x0C02, 0x0D01, 0x0E01, 0x0E03].contains code then 8
  else 5

/-- The most entries the queue holds (R590). -/
abbrev ashQueueMax : Nat := 64

/-- Two events merge when code, source, data and power-cycle count are equal (R589, R590). -/
def AshEvent.same (a b : AshEvent) : Bool :=
  a.code == b.code && a.source == b.source && a.w4 == b.w4 && a.w5 == b.w5 && a.w6 == b.w6 && a.cycle == b.cycle

/-- The queue with its last entry changed. -/
def mapLast {α : Type} (f : α → α) : List α → List α
  | [] => []
  | [x] => [f x]
  | x :: xs => x :: mapLast f xs

/-- The LOG_FULL record counts an event that is not recorded (R591). -/
def Ash.countIntoFull (a : Ash) (stamp : Nat) : Ash :=
  match a.slots with
  | r :: rs => if r.event.code = 0x0C02 then
      { a with slots := { r with repeats := satSucc 16 r.repeats, offset := stamp - r.first * 1000 } :: rs }
    else a
  | [] => a

/-- Queue an event stamped now (R588, R590): tallied into an equal tail entry, a new entry, or lost at a full queue; once
the log is full or failed the event is only counted (R591, R592). -/
def State.queueAsh (s : State) (e : AshEvent) : State :=
  let stamp := s.stampMs
  if s.ash.failed then s.bump 32 Key.ashLostEvents
  else if s.flag Key.ashFull && s.ash.clearing.isNone then
    ({ s with ash := s.ash.countIntoFull stamp }).bump 32 Key.ashLostEvents
  else match s.ash.queue.getLast? with
    | some q =>
      if q.event.same e then
        { s with ash := { s.ash with queue := mapLast (fun q => { q with last := stamp, tally := satSucc 16 q.tally }) s.ash.queue } }
      else if s.ash.queue.length < ashQueueMax then
        let s1 := { s with ash := { s.ash with queue := s.ash.queue ++ [(⟨e, stamp, stamp, 0⟩ : AshQueued)] } }
        s1.putN Key.ashQueueHighWater (max (s.nat Key.ashQueueHighWater) s1.ash.queue.length)
      else
        let first := s.ash.episode == 0
        let s1 := ({ s with ash := { s.ash with episode := s.ash.episode + 1 } }).bump 32 Key.ashLostEvents
        if first then s1.raiseSource 231 else s1
    | none =>
      let s1 := { s with ash := { s.ash with queue := [(⟨e, stamp, stamp, 0⟩ : AshQueued)] } }
      s1.putN Key.ashQueueHighWater (max (s.nat Key.ashQueueHighWater) 1)

/-- The event of a module code, stamped with the power-cycle count (R585, R588). -/
def State.ashEvent (s : State) (code source w4 w5 w6 : Nat) : AshEvent :=
  { code, source, severity := severityOf code, w4, w5, w6, cycle := s.nat Key.supplyPowerCycleCount, forwarded := false }

/-- Raise a module event for the Ash log: code, source and data words 4-6 (R582, R588). -/
def State.log (s : State) (code source : Nat) (w4 : Nat := 0) (w5 : Nat := 0) (w6 : Nat := 0) : State :=
  s.queueAsh (s.ashEvent code source w4 w5 w6)

/-- No item: the source field of a record of the whole module (R582). -/
abbrev noSource : Nat := 0xFF

end Sys2Proof.Machine
end

