-- ==== Sys2Proof/Machine/Operands.lean ====
section
/-! DEFINITION. The operand forms of a dictionary access: a byte string on CAN, Flue and the service port (R639), a
32-bit word in the dictionary window (R122), and their conversion to and from the types of R115. -/

namespace Sys2Proof.Machine

open Sys2Proof

/-- What a write carries: a byte string (R639), or a window word (R122). -/
inductive WData where
  | bytes (bs : List Byte)
  | word (w : Word)
deriving DecidableEq, Repr

/-- The width of a fixed-width type in bytes; 0 for VIS and DOM (R115, R639). -/
def ObjType.width : ObjType → Nat
  | .bool | .u8 => 1
  | .u16 | .i16 | .q15 => 2
  | .u32 | .i32 | .f32 => 4
  | .vis | .dom => 0

/-- The type is two's complement (R115). -/
def ObjType.signed : ObjType → Bool
  | .i16 | .i32 | .q15 => true
  | _ => false

/-- VIS and DOM. -/
def ObjType.isBlock : ObjType → Bool
  | .vis | .dom => true
  | _ => false

/-- The value that the low bytes of `x` spell in a fixed-width type (R115, R122). -/
def ObjType.valueOf (t : ObjType) (x : Nat) : Int :=
  if t.signed then signedOf (8 * t.width) x else Int.ofNat (x % 2 ^ (8 * t.width))

/-- A value as the bytes of its type, little-endian (R639). -/
def ObjType.bytesOf (t : ObjType) (v : Int) : List Byte := leBytes t.width (unsignedOf (8 * t.width) v)

/-- A value as a window word: zero- or sign-extended as its type says (R122). -/
def ObjType.windowWord (_t : ObjType) (v : Int) : Word := BitVec.ofInt 32 v

/-- A value in the range of its row: the table's bounds or its one further value; binary32 bounds compare as numbers, and
a NaN or an infinity is out of range (R116). -/
def Row.inRange (r : Row) (v : Int) : Bool :=
  match r.ty with
  | .f32 =>
    let w : Word := BitVec.ofInt 32 v
    fisFinite w && fle (BitVec.ofInt 32 r.rmin) w && fle w (BitVec.ofInt 32 r.rmax)
  | _ => (decide (r.rmin ≤ v) && decide (v ≤ r.rmax)) || r.also == some v

/-- A length within the rule of a VIS or DOM: its bounds and its multiple (R639); the site key is 0 or 16 bytes, the
CAN records any length of their bounds. -/
def Row.lengthOk (r : Row) (n : Nat) : Bool :=
  decide (r.rmin ≤ Int.ofNat n) && decide (Int.ofNat n ≤ r.rmax) && (n % r.mult == 0)

/-- What a checked value becomes in the store: a subnormal F32 is +0.0 (R116). -/
def Row.stored (r : Row) (v : Int) : Int :=
  match r.ty with
  | .f32 => Int.ofNat (fflush (BitVec.ofInt 32 v)).toNat
  | _ => v

/-- The value a write carries in the row's type, or none when its length breaks R639 (a window store to a VIS or DOM has no
value, R122). -/
def Row.parse (r : Row) : WData → Option DVal
  | .bytes bs =>
    if r.ty.isBlock then (if r.lengthOk bs.length then some (.blk bs) else none)
    else if bs.length = r.ty.width then some (.num (r.ty.valueOf (leNat bs))) else none
  | .word w => if r.ty.isBlock then none else some (.num (r.ty.valueOf w.toNat))

end Sys2Proof.Machine
end

