-- ==== Sys2Proof/Machine/Checks.lean ====
section
/-! DEFINITION. What values a subindex admits beyond its table's range: reserved bits, and the combination rules of the
owning chapters. A combination is judged on a view, a whole assignment of values, so that a single write (R117), an
overlay entry list (R145) and a mode switch (R638) share one rule. -/

namespace Sys2Proof.Machine

open Sys2Proof

/-- An assignment of values to numeric subindexes. -/
abbrev View := Nat → Int

/-- The view with one value changed. -/
def withValue (w : View) (key : Nat) (v : Int) : View := fun k => if k = key then v else w k

/-- The base with an overlay's entries laid on it (R144, R145). -/
def overlayView (base : View) (entries : List (Nat × Int)) : View := fun k =>
  match entries.find? (fun e => e.1 == k) with
  | some e => e.2
  | none => base k

/-- A value of a view as a natural number. -/
def View.nat (w : View) (k : Nat) : Nat := (w k).toNat

/-- A value of a view as a binary32 word. -/
def View.f32 (w : View) (k : Nat) : Word := BitVec.ofInt 32 (w k)

/-- A phase below its period; a period of 0 (off) leaves the phase free (log 12). -/
def phaseBelow (period phase : Nat) : Bool := period == 0 || decide (phase < period)

/-! ### Single values -/

/-- One route: reserved bits 0, CORE 1-3 or 7 (R468). -/
def routeOk (r : Nat) : Bool :=
  field r 13 11 == 0 && field r 7 5 == 0
    && (field r 10 8 == 1 || field r 10 8 == 2 || field r 10 8 == 3 || field r 10 8 == 7)

/-- A context word of a Cowl unit: MAXGAP at least 1, reserved bits 0 (R578). -/
def cowlContextOk (w : Nat) : Bool := field w 29 27 != 0 && field w 26 24 == 0

/-- A forcing source word: a type allowed for input f, a number that names an item of it (R300). -/
def forcingOk (f w : Nat) : Bool :=
  let num := w % 256
  let ty := w / 256
  let allowed : List Nat := if f ≤ 3 then [0, 1] else if f = 4 then [0, 2, 3] else if f = 5 then [0, 2, 3, 4] else [0, 1, 4]
  allowed.contains ty && (if ty = 1 then decide (num ≤ 63) else if ty = 2 then decide (num ≤ 15) else if ty = 3 then decide (num ≤ 7) else true)

/-- Values refused as out of range by the rule that owns the subindex, the table's bounds apart. -/
def valueOk (key : Nat) (v : Int) : Bool :=
  let idx := key / 256
  let sub := key % 256
  let n := v.toNat
  if idx = 0x2013 then
    -- R138: FULL and TABLE are refused for an actuator, TABLE for a current output
    (if 1 ≤ sub ∧ sub ≤ 0x14 then decide (n ≤ 3) else if 0x25 ≤ sub then decide (n ≤ 4) else true)
  else if idx = 0x3480 ∧ 1 ≤ sub ∧ sub ≤ 0x80 then routeOk (n % 65536) && routeOk (n / 65536)
  else if 0x3500 ≤ idx ∧ idx ≤ 0x3503 then
    -- R476, R478: reserved bits must be 0
    (if sub = 1 then field n 30 16 == 0 else if sub = 0x15 then field n 30 24 == 0 && decide (field n 23 20 ≤ 12) else true)
  else if idx = 0x3800 ∧ 0x40 ≤ sub ∧ sub ≤ 0x7F then cowlContextOk n
  else if 0x3010 ≤ idx ∧ idx ≤ 0x3013 ∧ 0x60 ≤ sub ∧ sub ≤ 0x7F then
    -- R311: reserved bits 0, SOURCE 0-2, QUANTITY 0-7, channels 0-63
    field n 6 5 == 0 && decide (field n 31 28 ≤ 2) && decide (field n 27 24 ≤ 7) && decide (field n 23 16 ≤ 63)
  else if 0x3010 ≤ idx ∧ idx ≤ 0x3013 ∧ 0x16 ≤ sub ∧ sub ≤ 0x1D then forcingOk (sub - 0x16) n
  else if 0x3010 ≤ idx ∧ idx ≤ 0x3013 ∧ 0x80 ≤ sub ∧ sub ≤ 0x9F then flt 0 (BitVec.ofInt 32 v)
  else if (idx = 0x3600 ∨ idx = 0x3640) ∧ sub = 0x0E then field n 30 29 == 0
  else if (idx = 0x3610 ∨ idx = 0x3650) ∧ sub = 3 then
    -- R506: FDF and BRS 0; R492: a base identifier has 11 bits
    field n 30 29 == 0 && (n.testBit 31 || decide (n ≤ 0x7FF))
  else if idx = 0x3650 ∧ sub = 1 then n == 0
  else if ((0x1400 ≤ idx ∧ idx ≤ 0x1407) ∨ (0x1800 ≤ idx ∧ idx ≤ 0x1807)) ∧ sub = 2 then
    -- R510: 0, 1-240, 254, 255
    decide (n ≤ 240) || n == 254 || n == 255
  else if idx = 0x37A0 then field n 27 8 == 0 && decide (field n 7 0 < 128)
  else if 0x3790 ≤ idx ∧ idx ≤ 0x379F ∧ sub = 1 then field n 7 0 == 0
  else if idx = 0x2681 ∧ 3 ≤ sub ∧ sub ≤ 6 then
    -- R247, R248: reserved bits 0, nodes 0-9
    field n 14 14 == 0 && field n 7 4 == 0 && decide (field n 3 0 ≤ 9)
  else if 0x2400 ≤ idx ∧ idx ≤ 0x243F ∧ sub = 0x12 then n != idx - 0x2400
  else if 0x2600 ≤ idx ∧ idx ≤ 0x263F ∧ sub = 0x28 then n != idx - 0x2600
  else if 0x2700 ≤ idx ∧ idx ≤ 0x273F ∧ sub = 3 then n % 8 == 0
  else if 0x2800 ≤ idx ∧ idx ≤ 0x2813 ∧ sub = 4 ∧ (idx - 0x2800) % 2 = 1 then
    -- R369: writing the parallel bit of an odd channel
    false
  else true


end Sys2Proof.Machine
end

