-- ==== Sys2Proof/Machine/Combos.lean ====
section
/-! DEFINITION. Kelsis's chains and its budget on a view (R325-R328, R341, R355). -/

namespace Sys2Proof.Machine

open Sys2Proof

/-! ### Chains (R341) -/

/-- The chain of column c, c first, up the LOCAL links; at most `fuel` columns. -/
def chainFrom (w : View) : Nat → Nat → List Nat
  | 0, _ => []
  | n + 1, c =>
    if w.nat (Key.boundUpstreamKind c) = 1 then c :: chainFrom w n (w.nat (Key.boundUpstreamColumn c) % 4) else [c]

def View.chain (w : View) (c : Nat) : List Nat := chainFrom w 4 c

/-! ### Load (R325, R328, R355) -/

/-- Rounded up. -/
def divUp (a b : Nat) : Nat := (a + b - 1) / b

/-- A halving of the members, of a column that has more than the new count. -/
def halvedAbove (count m : Nat) : Nat := if count < m then m / 2 else m

/-- Members of a column at a shedding stage: halved at 6 where there are more than 32, again at 7 where there are then more than 16 (R328;
DEDUCED, log 186). -/
def shedMembers (m stage : Nat) : Nat := if stage < 6 then m else if stage = 6 then halvedAbove 32 m else halvedAbove 16 (halvedAbove 32 m)

/-- The sub-ensemble of a predictor at a stage (R345, R355). -/
def View.subEnsemble (w : View) (c stage : Nat) : Nat :=
  let m := ((w.chain c).map (fun k => shedMembers (w.nat (Key.colMembers k)) stage)).foldl min 64
  let s := w.nat (Key.predSubEnsemble c) / (if stage = 0 then 1 else if stage = 1 then 2 else if stage = 2 then 4 else 8)
  min (max 1 s) m

/-- Candidates of a predictor at a stage: 32, from stage 4 on 16; 2 in BATCH and BIN (R355). -/
def View.candidates (w : View) (c stage : Nat) : Nat :=
  if w.nat (Key.predMode c) ≠ 0 then 2 else if stage < 4 then 32 else 16

/-- The horizon at a stage (R355). -/
def View.horizon (w : View) (c stage : Nat) : Nat :=
  let n := w.nat (Key.predHorizon c)
  if stage < 5 then n else n / 2

/-- The estimator load of a column in budget units. -/
def View.estimatorLoad (w : View) (stage c : Nat) : Nat :=
  if w.nat (Key.colEnable c) = 0 then 0
  else
    let l := w.nat (Key.colLayers c)
    divUp (shedMembers (w.nat (Key.colMembers c)) stage * w.nat (Key.colCellsAcross c)
      * (283 * l + 512 * min (2 * w.nat (Key.colLocalisationHalfWidth c) + 1) l)) (w.nat (Key.colStepPeriod c) * 100000)

/-- The load of a predictor in budget units; stage 8 runs no update. -/
def View.predictorLoad (w : View) (stage c : Nat) : Nat :=
  if w.nat (Key.predEnable c) = 0 ∨ stage = 8 then 0
  else
    let cells := ((w.chain c).map (fun k => w.nat (Key.colLayers k) * w.nat (Key.colCellsAcross k))).sum
    divUp (w.candidates c stage * w.horizon c stage * cells * w.subEnsemble c stage * 300) (w.nat (Key.predUpdateInterval c) * 100000)

def View.estimatorTotal (w : View) (stage : Nat) : Nat := ((List.range 4).map (w.estimatorLoad stage)).sum
def View.predictorTotal (w : View) (stage : Nat) : Nat := ((List.range 4).map (w.predictorLoad stage)).sum

/-- The total load at a stage. -/
def View.kelsisLoad (w : View) (stage : Nat) : Nat := w.estimatorTotal stage + w.predictorTotal stage

/-! ### Rules: what must hold, and which subindexes take part (R145, R156) -/

/-- A combination rule judged on a view: the subindexes that take part in it, and whether it holds. -/
structure Rule where
  takes : List Nat
  holds : Bool
deriving DecidableEq, Repr

/-! ### Sensor channels (R154, R156, R193, R203, R206) -/

/-- Conversion times of 0x2400+n:07 in microseconds (R193). -/
def convUsOf (code : Nat) : Nat := [125, 500, 2000, 8000, 20000, 40000, 100000].getD code 0

/-- IMP drive frequencies in Hz (R162). -/
def impHz (code : Nat) : Nat := [20000, 200000, 1000000, 2000000].getD code 0

/-- Lead modes a sensor type allows, and TX_4_20's position (R154). -/
def leadAllowed (n ty lead : Nat) : Bool :=
  match ty with
  | 0 => true
  | 1 => true
  | 2 => lead == 0
  | 3 => lead == 2 || lead == 3
  | 4 => lead == 2
  | 5 => lead == 0 && n % 4 == 0
  | _ => lead == 2

/-- A conversion covers 20 periods of an IMP drive frequency (R156). -/
def impLongEnough (us code : Nat) : Bool := decide (20 * 1000000 ≤ us * impHz code)

/-- The rules of channel n and its coefficient set. A value that only some sensor types use is judged while the type uses it (DEDUCED,
log 180). -/
def chanRules (w : View) (n : Nat) : List Rule :=
  let ty := w.nat (Key.chanSensorType n)
  let lead := w.nat (Key.chanLeadMode n)
  let us := convUsOf (w.nat (Key.chanConversionTime n))
  let first := w.nat (Key.chanIMPFrequency n)
  let second := w.nat (Key.chanIMPSecondFrequency n)
  let checked := w.nat (Key.coefLeadCheck n) == 1
  [⟨[Key.chanSensorType n, Key.chanLeadMode n], leadAllowed n ty lead⟩,
   ⟨[Key.chanSensorType n, Key.chanLeadMode n, Key.chanConversionTime n], !((ty == 1 || ty == 3) && lead == 3 && decide (us < 500))⟩,
   ⟨[Key.chanSensorType n, Key.chanConversionTime n, Key.chanIMPFrequency n], ty != 6 || impLongEnough us first⟩,
   ⟨[Key.chanSensorType n, Key.chanConversionTime n, Key.chanIMPSecondFrequency n], ty != 6 || second == 0xFF || impLongEnough us second⟩,
   ⟨[Key.chanSensorType n, Key.chanIMPFrequency n, Key.chanIMPSecondFrequency n], ty != 6 || second != first⟩,
   ⟨[Key.chanScanPeriod n, Key.chanScanPhase n], phaseBelow (w.nat (Key.chanScanPeriod n)) (w.nat (Key.chanScanPhase n))⟩,
   ⟨[Key.coefQ15SpanLow n, Key.coefQ15SpanHigh n], flt (w.f32 (Key.coefQ15SpanLow n)) (w.f32 (Key.coefQ15SpanHigh n))⟩,
   ⟨[Key.coefLeadCheck n, Key.chanSensorType n, Key.chanLeadMode n],
     !checked || (ty == 1 && (lead == 2 || lead == 3)) || ty == 3 || ty == 6⟩,
   ⟨[Key.coefLeadCheck n, Key.chanSettlingDelay n], !checked || decide (10 ≤ w.nat (Key.chanSettlingDelay n))⟩]

/-! ### Loops (R220, R227-R232, R259, R272, R275, R369, R374, R418) -/

/-- A word of 0x2600+l:0C-0E or 22 names a subindex of type Q15 or I16 (R228, R232). -/
def namedRow (x : Nat) : Option Row := if x % 256 = 0 then (findRow (x / 65536 % 65536 * 256 + x / 256 % 256)) else none
def q15Named (x : Nat) : Bool := (namedRow x).any (fun r => r.ty == .q15 || r.ty == .i16)
def destinationNamed (x : Nat) : Bool :=
  let idx := x / 65536
  (namedRow x).any (fun r => (r.ty == .q15 || r.ty == .i16) && r.right == .rw && r.level == .operator)
    && !(Nat.ble 0x2600 idx && Nat.ble idx 0x2681)

/-- The number of a source fits its type (R227). -/
def sourceNumberOk (l ty n : Nat) : Bool :=
  match ty with
  | 2 => decide (n ≤ 63)
  | 3 => decide (n ≤ 15)
  | 4 => decide (n ≤ 7)
  | 5 => decide (n ≤ 7)
  | 6 => decide (n ≤ 1)
  | 8 => decide (n ≤ 63) && n != l
  | 9 => decide (n ≤ 3)
  | _ => true

/-- The rules of a source of a role: type allowed, number in range, DICTIONARY naming a Q15 or I16 (R227, R228). -/
def sourceRules (w : View) (allowed : List Nat) (l tyKey numKey nameKey : Nat) : List Rule :=
  let ty := w.nat tyKey
  let name := w.nat nameKey
  [⟨[tyKey], allowed.contains ty⟩, ⟨[tyKey, numKey], sourceNumberOk l ty (w.nat numKey)⟩,
   ⟨[tyKey, nameKey], ty != 7 || q15Named name⟩, ⟨[nameKey], name == 0 || q15Named name⟩]

/-- Loops that loop l takes as SP or FF source. -/
def loopSources (w : View) (l : Nat) : List Nat :=
  (if w.nat (Key.loopSPSourceType l) = 8 then [w.nat (Key.loopSPSourceNumber l)] else [])
    ++ (if w.nat (Key.loopFFSourceType l) = 8 then [w.nat (Key.loopFFSourceNumber l)] else [])

/-- Loops reachable over LOOP sources. -/
def loopReach (w : View) : Nat → List Nat → List Nat → List Nat
  | 0, seen, _ => seen
  | _, seen, [] => seen
  | n + 1, seen, front =>
    let next := ((front.flatMap (loopSources w)).filter (fun l => !seen.contains l)).eraseDups
    loopReach w n (seen ++ next) next

/-- Loop l lies on no cycle that leaves it by a source of type `ty` and number `n` (R272). -/
def acyclicBy (w : View) (l ty n : Nat) : Bool := ty != 8 || (n != l && !((loopReach w 64 [n] [n]).contains l))

/-- The two loops name each other as partners and the same hardware destination (R275). -/
def partners (w : View) (l m : Nat) : Bool := w.nat (Key.loopPartnerLoop l) == m && w.nat (Key.loopPartnerLoop m) == l

/-- Loops l and m do not share a hardware destination, unless as partners (R231, R275). -/
def destinationRule (w : View) (l m : Nat) : Rule :=
  let ty := w.nat (Key.loopDestinationType l)
  let hw := ty == 1 || ty == 2 || ty == 3
  let of := fun k => [Key.loopEnable k, Key.loopDestinationType k, Key.loopDestinationNumber k, Key.loopPartnerLoop k]
  ⟨of l ++ of m, !(hw && w.nat (Key.loopEnable l) == 1) || w.nat (Key.loopEnable m) != 1 || w.nat (Key.loopDestinationType m) != ty
    || w.nat (Key.loopDestinationNumber m) != w.nat (Key.loopDestinationNumber l) || partners w l m⟩

/-- What a loop's destination asks of its number and of the destination's object (R230, R369, R374, R418). -/
def destinationKind (w : View) (l : Nat) : List Rule :=
  let n := w.nat (Key.loopDestinationNumber l)
  let me := [Key.loopDestinationType l, Key.loopDestinationNumber l]
  let source := w.nat (Key.coutSourceNumber n)
  match w.nat (Key.loopDestinationType l) with
  | 1 => [⟨me, decide (n ≤ 15)⟩]
  | 2 => [⟨me, decide (n ≤ 7)⟩,
      ⟨Key.loopEnable l :: Key.coutSourceType n :: Key.coutSourceNumber n :: Key.loopPartnerLoop l :: Key.loopPartnerLoop source :: me,
        w.nat (Key.loopEnable l) != 1 || (w.nat (Key.coutSourceType n) == 2 && (source == l || partners w l source))⟩]
  | 3 => [⟨me, decide (n ≤ 19)⟩, ⟨Key.actMode n :: me, w.nat (Key.actMode n) == 2⟩,
      ⟨Key.actParallel (n - 1) :: me, !(n % 2 == 1 && w.nat (Key.actParallel (n - 1)) == 1)⟩]
  | 4 => [⟨[Key.loopDestinationType l, Key.loopDestinationDictionaryObject l], destinationNamed (w.nat (Key.loopDestinationDictionaryObject l))⟩]
  | _ => []

/-- The rules of loop l. -/
def loopRules (w : View) (l : Nat) : List Rule :=
  let dict := w.nat (Key.loopDestinationDictionaryObject l)
  [⟨[Key.loopPhase l, Key.loopPeriod l], decide (w.nat (Key.loopPhase l) < w.nat (Key.loopPeriod l))⟩,
   ⟨[Key.loopDestinationDictionaryObject l], dict == 0 || destinationNamed dict⟩,
   ⟨[Key.loopSPSourceType l, Key.loopSPSourceNumber l], acyclicBy w l (w.nat (Key.loopSPSourceType l)) (w.nat (Key.loopSPSourceNumber l))⟩,
   ⟨[Key.loopFFSourceType l, Key.loopFFSourceNumber l], acyclicBy w l (w.nat (Key.loopFFSourceType l)) (w.nat (Key.loopFFSourceNumber l))⟩,
   ⟨[Key.loopImin l, Key.loopImax l], decide (w (Key.loopImin l) ≤ w (Key.loopImax l))⟩,
   ⟨[Key.loopUmin l, Key.loopUmax l], decide (w (Key.loopUmin l) ≤ w (Key.loopUmax l))⟩,
   ⟨[Key.loopUmin l, Key.loopSafeOutput l], decide (w (Key.loopUmin l) ≤ w (Key.loopSafeOutput l))⟩,
   ⟨[Key.loopUmax l, Key.loopSafeOutput l], decide (w (Key.loopSafeOutput l) ≤ w (Key.loopUmax l))⟩]
    ++ sourceRules w [2, 3, 4, 5, 6, 7] l (Key.loopPVSourceType l) (Key.loopPVSourceNumber l) (Key.loopPVDictionaryObject l)
    ++ sourceRules w [1, 2, 3, 4, 5, 6, 7, 8, 9] l (Key.loopSPSourceType l) (Key.loopSPSourceNumber l) (Key.loopSPDictionaryObject l)
    ++ sourceRules w [0, 2, 3, 4, 5, 6, 7, 8] l (Key.loopFFSourceType l) (Key.loopFFSourceNumber l) (Key.loopFFDictionaryObject l)
    ++ destinationKind w l ++ ((List.range 64).filter (fun m => m != l)).map (destinationRule w l)

/-- Two binary32 values differ. -/
def spanOpen (low high : Word) : Bool := flt low high || flt high low

/-- The source number of a current output fits its type, and its span is not empty (R418, R432). -/
def outputRules (w : View) (k : Nat) : List Rule :=
  let n := w.nat (Key.coutSourceNumber k)
  [⟨[Key.coutSourceType k, Key.coutSourceNumber k],
     match w.nat (Key.coutSourceType k) with
     | 0 => true
     | 3 => decide (n < 64) && decide (n % 16 ≤ 4)
     | _ => decide (n < 64)⟩,
   ⟨[Key.coutSpanLow k, Key.coutSpanHigh k], spanOpen (w.f32 (Key.coutSpanLow k)) (w.f32 (Key.coutSpanHigh k))⟩]

/-- The span of a setpoint input is not empty (R435). -/
def setpRules (w : View) (i : Nat) : List Rule :=
  [⟨[Key.setpSpanLow i, Key.setpSpanHigh i], spanOpen (w.f32 (Key.setpSpanLow i)) (w.f32 (Key.setpSpanHigh i))⟩]

/-- What the loops that name a piece of hardware ask of it. -/
def namingRules (w : View) (ty : Nat) : List Rule :=
  ((List.range 64).filter (fun l => w.nat (Key.loopDestinationType l) == ty)).flatMap (destinationKind w)

/-! ### Learners (R279, R280, R282) -/

/-- The regions of learners l and m do not overlap while both are enabled (R279). -/
def regionRule (w : View) (l m : Nat) : Rule :=
  let of := fun k => [Key.learnLearnerEnable k, Key.learnPoolOffset k, Key.learnPeriod k]
  ⟨of l ++ of m, w.nat (Key.learnLearnerEnable l) != 1 || w.nat (Key.learnLearnerEnable m) != 1
    || decide (w.nat (Key.learnPoolOffset m) + w.nat (Key.learnPeriod m) ≤ w.nat (Key.learnPoolOffset l))
    || decide (w.nat (Key.learnPoolOffset l) + w.nat (Key.learnPeriod l) ≤ w.nat (Key.learnPoolOffset m))⟩

/-- The rules of learner l: its region, filter and tolerance. -/
def learnRules (w : View) (l : Nat) : List Rule :=
  let len := w.nat (Key.learnPeriod l)
  [⟨[Key.learnPoolOffset l, Key.learnPeriod l], decide (w.nat (Key.learnPoolOffset l) + len ≤ 131072)⟩,
   ⟨[Key.learnQFilterCentre l, Key.learnQFilterSide l], decide (w (Key.learnQFilterCentre l) + 2 * w (Key.learnQFilterSide l) ≤ 32768)⟩,
   ⟨[Key.learnPhaseLead l, Key.learnPeriod l], decide (w.nat (Key.learnPhaseLead l) < len)⟩,
   ⟨[Key.learnIndexTolerance l, Key.learnPeriod l], decide (2 * w.nat (Key.learnIndexTolerance l) < len)⟩]
    ++ ((List.range 64).filter (fun m => m != l)).map (regionRule w l)

/-! ### Actuators (R369, R370) -/

/-- The channel is the even one of a pair. -/
def pairEven (w : View) (a : Nat) : Bool := a % 2 == 0 && w.nat (Key.actParallel a) == 1

/-- What a channel adds to its switch's continuous load. -/
def contLoad (w : View) (a : Nat) : Nat := if w.nat (Key.actMode a) = 2 then w.nat (Key.actPeakCurrent a) else w.nat (Key.actHoldCurrent a)

/-- The rules of channel a alone: currents, ratings (doubled for a pair), coil energy, peak budget, times. -/
def actRules (w : View) (a : Nat) : List Rule :=
  let peak := w.nat (Key.actPeakCurrent a)
  let hold := w.nat (Key.actHoldCurrent a)
  let pair := if a % 2 = 0 then [Key.actParallel a] else []
  let f := if pairEven w a then 2 else 1
  let l := ratioOf (w.f32 (Key.actCoilInductance a))
  [⟨[Key.actHoldCurrent a, Key.actPeakCurrent a], decide (hold ≤ peak)⟩,
   ⟨Key.actHoldCurrent a :: pair, decide (hold ≤ 4000 * f)⟩,
   ⟨Key.actPeakCurrent a :: pair, decide (peak ≤ 6000 * f)⟩,
   ⟨Key.actMode a :: Key.actPeakCurrent a :: pair, w.nat (Key.actMode a) != 2 || decide (peak ≤ 4000 * f)⟩,
   ⟨[Key.actCoilInductance a, Key.actPeakCurrent a], decide (l.1 * Int.ofNat (peak * peak) ≤ 400000000 * Int.ofNat l.2)⟩,
   ⟨[Key.actPeakCurrent a, Key.hsPeakBudget (a / 2)], decide (peak ≤ w.nat (Key.hsPeakBudget (a / 2)))⟩,
   ⟨[Key.actPeakTimeMinimum a, Key.actPeakTimeMaximum a], decide (w.nat (Key.actPeakTimeMinimum a) ≤ w.nat (Key.actPeakTimeMaximum a))⟩,
   ⟨[Key.actMovementWindowStart a, Key.actMovementWindowEnd a], w.nat (Key.actMovementWindowEnd a) == 0
     || decide (w.nat (Key.actMovementWindowStart a) < w.nat (Key.actMovementWindowEnd a))⟩]

/-- The keys of a channel that its switch's continuous load depends on. -/
def contKeys (a : Nat) : List Nat := [Key.actMode a, Key.actPeakCurrent a, Key.actHoldCurrent a]

/-- The rules of the two channels of switch h. -/
def switchRules (w : View) (h : Nat) : List Rule :=
  let even := 2 * h
  let odd := 2 * h + 1
  actRules w even ++ actRules w odd ++
    [⟨Key.actParallel even :: contKeys even ++ (if pairEven w even then [] else contKeys odd),
      decide ((if pairEven w even then contLoad w even else contLoad w even + contLoad w odd) ≤ 8000)⟩]

/-! ### Kelsis and predictors (R294, R317, R326, R342, R365) -/

/-- The budget of R326, in units of R325. -/
abbrev kelsisBudget : Nat := 326400

/-- The rules of a column's link: none on a BIN column, LOCAL to another column (R294, R317). -/
def linkRules (w : View) (c : Nat) : List Rule :=
  let kind := w.nat (Key.boundUpstreamKind c)
  let bin := w.nat (Key.colModelType c) == 3
  [⟨[Key.colModelType c, Key.boundUpstreamKind c], !(bin && kind != 0)⟩,
   ⟨[Key.colModelType c, Key.boundDownstreamAddress c], !(bin && w (Key.boundDownstreamAddress c) != objDefault (Key.boundDownstreamAddress c))⟩,
   ⟨[Key.boundUpstreamKind c, Key.boundUpstreamColumn c], !(kind == 1 && w.nat (Key.boundUpstreamColumn c) == c)⟩]

/-- The subindexes whose values the load of column c and of its predictor depends on. -/
def loadKeys (w : View) (c : Nat) : List Nat :=
  let column := if w.nat (Key.colEnable c) = 0 then []
    else [Key.colLayers c, Key.colMembers c, Key.colCellsAcross c, Key.colLocalisationHalfWidth c, Key.colStepPeriod c]
  let predictor := if w.nat (Key.predEnable c) = 0 then []
    else [Key.predMode c, Key.predHorizon c, Key.predSubEnsemble c, Key.predUpdateInterval c]
      ++ (w.chain c).flatMap (fun k => [Key.boundUpstreamKind k, Key.boundUpstreamColumn k, Key.colLayers k, Key.colCellsAcross k, Key.colMembers k])
  Key.colEnable c :: Key.predEnable c :: column ++ predictor

/-- The whole load is within budget (R326). -/
def loadRule (w : View) : Rule := ⟨(List.range 4).flatMap (loadKeys w), decide (w.kelsisLoad 0 ≤ kelsisBudget)⟩

/-- A binding's layer and cell lie in its column (R311); the column's size takes part where the binding is in use. -/
def bindingRule (w : View) (c b : Nat) : Rule :=
  let key := (0x3010 + c) * 256 + 0x60 + b
  let n := w.nat key
  ⟨if field n 31 28 = 0 then [key] else [key, Key.colLayers c, Key.colCellsAcross c],
    decide (field n 15 7 < w.nat (Key.colLayers c)) && (field n 4 0 == 31 || decide (field n 4 0 < w.nat (Key.colCellsAcross c)))⟩

/-- The subindexes of predictor c that name loops in its two roles. -/
def predLoopKeys (c : Nat) : List Nat := [Key.predDischargeLoop c, Key.predPlenumLoop c]

/-- A feedback loop's destination type is NONE (R342). -/
def feedbackRule (w : View) (key : Nat) : Rule :=
  let l := w.nat key
  ⟨[key, Key.loopDestinationType l], l == 0xFF || w.nat (Key.loopDestinationType l) == 0⟩

/-- Two of the eight loop names of the predictors do not name one loop (R342). -/
def roleRule (w : View) (k j : Nat) : Rule := ⟨[k, j], w.nat k == 0xFF || w.nat k != w.nat j⟩

/-- The rules of predictor c that hold whatever is written. -/
def predRules (w : View) (c : Nat) : List Rule :=
  let roles := (List.range 4).flatMap predLoopKeys
  [⟨[Key.predMode c, Key.colModelType c], w.nat (Key.predMode c) != 2 || w.nat (Key.colModelType c) == 3⟩,
   ⟨[Key.predEnable c, Key.predMode c, Key.predDischargeLoop c, Key.predPlenumLoop c],
     w.nat (Key.predEnable c) != 1 || w.nat (Key.predMode c) != 0 || (predLoopKeys c).any (fun k => w.nat k != 0xFF)⟩,
   feedbackRule w (Key.predFeedbackLoopDischarge c), feedbackRule w (Key.predFeedbackLoopPlenum c),
   ⟨[Key.predBlock2End c, Key.predHorizon c], decide (2 ≤ w.nat (Key.predBlock2End c))
     && decide (w.nat (Key.predBlock2End c) < w.nat (Key.predHorizon c))⟩,
   ⟨[Key.predDischargeMinimum c, Key.predDischargeMaximum c], fle (w.f32 (Key.predDischargeMinimum c)) (w.f32 (Key.predDischargeMaximum c))⟩,
   ⟨[Key.predTemperatureMinimum c, Key.predTemperatureMaximum c], fle (w.f32 (Key.predTemperatureMinimum c)) (w.f32 (Key.predTemperatureMaximum c))⟩,
   ⟨[Key.predDischargeSpanLow c, Key.predDischargeSpanHigh c], flt (w.f32 (Key.predDischargeSpanLow c)) (w.f32 (Key.predDischargeSpanHigh c))⟩,
   ⟨[Key.predTemperatureSpanLow c, Key.predTemperatureSpanHigh c], flt (w.f32 (Key.predTemperatureSpanLow c)) (w.f32 (Key.predTemperatureSpanHigh c))⟩]
    ++ (predLoopKeys c).flatMap (fun k => (roles.filter (fun j => j != k)).map (roleRule w k))

/-- A write to predictor c itself is further held to its chain and to its loops' setpoint source; a loop that later takes another
source is a binding fault, not a refusal (R342, R363). -/
def predWriteRules (w : View) (c : Nat) : List Rule :=
  predRules w c
    ++ (w.chain c).map (fun k => ⟨[Key.predEnable c, Key.colEnable k], w.nat (Key.predEnable c) != 1 || w.nat (Key.colEnable k) == 1⟩)
    ++ (predLoopKeys c).map (fun k =>
      let l := w.nat k
      ⟨[k, Key.loopSPSourceType l, Key.loopSPSourceNumber l], l == 0xFF || (w.nat (Key.loopSPSourceType l) == 9 && w.nat (Key.loopSPSourceNumber l) == c)⟩)

/-- The rules of column c: load, link, bindings, and the predictors'. -/
def columnRules (w : View) (c : Nat) : List Rule :=
  loadRule w :: linkRules w c ++ (List.range 32).map (bindingRule w c) ++ (List.range 4).flatMap (predRules w)

/-! ### CAN (R487, R505) and the group map (R546) -/

/-- Clocks of a nominal and of a data bit. -/
def nominalClocks (w : View) (b : Nat) : Nat :=
  (1 + w.nat (Key.canbitNominalTSEG1 b) + w.nat (Key.canbitNominalTSEG2 b)) * w.nat (Key.canbitNominalPrescaler b)
def dataClocks (w : View) (b : Nat) : Nat := 1 + w.nat (Key.canbitDataTSEG1 b) + w.nat (Key.canbitDataTSEG2 b)


/-- The rules of a port's bit timing. -/
def bitTimingRules (w : View) (b : Nat) : List Rule :=
  let fd := w.nat (Key.canbitFDEnable b) == 1
  [⟨[Key.canbitNominalPrescaler b, Key.canbitNominalTSEG1 b, Key.canbitNominalTSEG2 b], decide (80 ≤ nominalClocks w b)⟩,
   ⟨[Key.canbitNominalSJW b, Key.canbitNominalTSEG2 b], decide (w.nat (Key.canbitNominalSJW b) ≤ w.nat (Key.canbitNominalTSEG2 b))⟩,
   ⟨[Key.canbitFDEnable b, Key.canbitDataTSEG1 b, Key.canbitDataTSEG2 b], !fd || decide (10 ≤ dataClocks w b)⟩,
   ⟨[Key.canbitFDEnable b, Key.canbitDataSJW b, Key.canbitDataTSEG2 b], !fd || decide (w.nat (Key.canbitDataSJW b) ≤ w.nat (Key.canbitDataTSEG2 b))⟩]

/-- A filter element of 8 bytes, little-endian. -/
structure FilterElement where
  type   : Nat
  ide    : Bool
  id1    : Nat
  action : Nat
  zero   : Bool
  id2    : Nat
deriving DecidableEq, Repr

/-- The element that a 64-bit value spells (R505). -/
def filterOf (x : Nat) : FilterElement :=
  { type := field x 63 62, ide := x.testBit 61, id1 := field x 60 32, action := field x 31 30, zero := !x.testBit 29, id2 := field x 28 0 }

/-- A list in groups of 8 bytes. -/
def octets : Nat → List Byte → List Nat
  | 0, _ => []
  | _, [] => []
  | n + 1, bs => leNat (bs.take 8) :: octets n (bs.drop 8)

/-- The elements of a filter list. -/
def filterList (bs : List Byte) : List FilterElement := (octets 128 bs).map filterOf

/-- A filter list's content (R505): no reserved bit or action, no identifier above 0x7FF with IDE 0, no RANGE upside down. -/
def filterListOk (bs : List Byte) : Bool :=
  (filterList bs).all (fun f => f.zero && decide (f.action ≤ 1)
    && (f.ide || (decide (f.id1 ≤ 0x7FF) && (f.type == 3 || decide (f.id2 ≤ 0x7FF))))
    && (f.type != 1 || decide (f.id1 ≤ f.id2)))

/-- At most 55 channels are asked of the seat that group channel i names. -/
def mapRule (w : View) (i : Nat) : Rule :=
  let seat := field (w.nat (Key.gmap0MapEntry i)) 31 28
  let same := (List.range 128).filter (fun k => field (w.nat (Key.gmap0MapEntry k)) 31 28 == seat)
  ⟨same.map (fun k => Key.gmap0MapEntry k), seat == 0 || decide (same.length ≤ 55)⟩

/-! ### All of them -/

/-- A context of a Cowl unit alone in its unit with its data ID and direction, or not enabled (R578). -/
def cowlRules (w : View) (key : Nat) : List Rule :=
  let me := w.nat key
  let i := key % 256 - 0x40
  ((List.range 16).filter (fun j => 16 * (i / 16) + j != i)).map (fun j =>
    let k := Key.cowlContext (16 * (i / 16) + j)
    let other := w.nat k
    ⟨[key, k], !me.testBit 31 || !other.testBit 31 || !(field other 23 12 == field me 23 12 && other.testBit 30 == me.testBit 30)⟩)

/-- The combination rules that the object of a subindex is subject to. -/
def rulesOf (w : View) (key : Nat) : List Rule :=
  let idx := key / 256
  let sub := key % 256
  if 0x2400 ≤ idx ∧ idx ≤ 0x243F then chanRules w (idx - 0x2400)
  else if 0x2500 ≤ idx ∧ idx ≤ 0x253F then chanRules w (idx - 0x2500)
  else if 0x2600 ≤ idx ∧ idx ≤ 0x263F then loopRules w (idx - 0x2600) ++ (if sub = 0x20 then (List.range 4).flatMap (predRules w) else [])
  else if 0x2700 ≤ idx ∧ idx ≤ 0x273F then learnRules w (idx - 0x2700)
  else if 0x2800 ≤ idx ∧ idx ≤ 0x2813 then switchRules w ((idx - 0x2800) / 2) ++ namingRules w 3
  else if 0x2820 ≤ idx ∧ idx ≤ 0x2829 then switchRules w (idx - 0x2820)
  else if 0x2920 ≤ idx ∧ idx ≤ 0x2927 then outputRules w (idx - 0x2920) ++ namingRules w 2
  else if idx = 0x2938 then setpRules w (sub / 16)
  else if 0x3010 ≤ idx ∧ idx ≤ 0x3013 then columnRules w (idx - 0x3010)
  else if idx = 0x3060 ∧ 0x10 ≤ sub ∧ sub ≤ 0x4F then columnRules w (sub / 16 - 1)
  else if 0x3110 ≤ idx ∧ idx ≤ 0x3113 then loadRule w :: predWriteRules w (idx - 0x3110)
  else if idx = 0x3601 then bitTimingRules w 0
  else if idx = 0x3641 then bitTimingRules w 1
  else if idx = 0x37A0 then [mapRule w (sub - 1)]
  else if idx = 0x3800 ∧ 0x40 ≤ sub ∧ sub ≤ 0x7F then cowlRules w key
  else if key = Key.powerWakePhase ∨ key = Key.powerWakePeriod then
    [⟨[Key.powerWakePhase, Key.powerWakePeriod], phaseBelow (w.nat Key.powerWakePeriod) (w.nat Key.powerWakePhase)⟩]
  else []

/-- Every combination rule in which the subindex takes part holds in the view. -/
def combosOk (w : View) (key : Nat) : Bool := (rulesOf w key).all (fun r => r.holds || !r.takes.contains key)

/-- A subindex changes a term of Kelsis's load (R325, R326). -/
def isLoadTerm (key : Nat) : Bool :=
  let idx := key / 256
  (Nat.ble 0x3010 idx && Nat.ble idx 0x3013) || idx == 0x3060 || (Nat.ble 0x3110 idx && Nat.ble idx 0x3113)

/-- Contents of a VIS or DOM that its rule refuses with RANGE, its length being right (R639). -/
def blockOk (key : Nat) (bs : List Byte) : Bool :=
  if key / 256 = 0x3602 ∨ key / 256 = 0x3642 then filterListOk bs else true

/-! ### Overlay entry lists (R145, R146) -/

/-- An entry of a list: the subindex it names, its reserved byte, its value word. -/
structure OverlayEntry where
  key      : Nat
  reserved : Nat
  value    : Nat
deriving DecidableEq, Repr

/-- The entries that bytes spell. -/
def overlayEntries (bs : List Byte) : List OverlayEntry :=
  (octets 256 bs).map (fun x => ⟨field x 63 48 * 256 + field x 47 40, field x 39 32, field x 31 0⟩)

/-- What an entry may name: an RW/S configuration subindex of 0x2013 or 0x2400-0x3113, neither VIS nor DOM. -/
def overlayMay (key : Nat) : Bool :=
  let idx := key / 256
  (idx == 0x2013 || (Nat.ble 0x2400 idx && Nat.ble idx 0x3113)) && isConfig key
    && (findRow key).any (fun r => r.right == .rw && r.level == .service && !r.ty.isBlock)

/-- An entry's value in its subindex's type (R122, R146). -/
def OverlayEntry.typed (e : OverlayEntry) : Int := ((findRow e.key).map (fun r => r.stored (r.ty.valueOf e.value))).getD 0

/-- A list as keys and values. -/
def overlayValues (es : List OverlayEntry) : List (Nat × Int) := es.map (fun e => (e.key, e.typed))

/-- An entry good by itself: a permitted subindex, the reserved byte 0, a value of the type, extended as its type says, in range. -/
def OverlayEntry.ok (e : OverlayEntry) : Bool :=
  overlayMay e.key && e.reserved == 0
    && (findRow e.key).any (fun r => let v := r.ty.valueOf e.value
        (r.ty.windowWord v).toNat == e.value && r.inRange v && valueOk e.key v)

/-- The first entry in list order that takes part in a failing check, all laid on the base at once. -/
def firstBad (base : View) (es : List OverlayEntry) : Option OverlayEntry :=
  let w := overlayView base (overlayValues es)
  es.find? (fun e => !e.ok || decide (2 ≤ (es.filter (fun x => x.key == e.key)).length) || !combosOk w e.key)

end Sys2Proof.Machine
end

