-- ==== Sys2Proof/Machine/Access.lean ====
section
/-! DEFINITION. Access to the dictionary: the checks of R117 in their order, refusals and their detail words (R127-R129),
levels and their fall-back (R118, R119), staging (R123) and the ranking of writes to one subindex (R124, R125). -/

namespace Sys2Proof.Machine

open Sys2Proof

/-! ### Refusals -/

/-- A refusal: abort code (R127), detail (R129), the index:subindex named, and for SUPERSEDED the writer that stood. -/
structure Refused where
  code   : Nat
  detail : Nat
  key    : Nat
  other  : Nat := 0xF
deriving DecidableEq, Repr

abbrev abortLevel : Nat := 0x06010000
abbrev abortWriteOnly : Nat := 0x06010001
abbrev abortReadOnly : Nat := 0x06010002
abbrev abortNoObject : Nat := 0x06020000
abbrev abortMapping : Nat := 0x06040041
abbrev abortLength : Nat := 0x06070010
abbrev abortNoSub : Nat := 0x06090011
abbrev abortRange : Nat := 0x06090030
abbrev abortGeneral : Nat := 0x08000000
abbrev abortSuperseded : Nat := 0x08000020
abbrev abortState : Nat := 0x08000022

def Refused.superseded (key other : Nat) : Refused := ⟨abortSuperseded, 1, key, other⟩
def Refused.level (key : Nat) : Refused := ⟨abortLevel, 2, key, 0xF⟩
def Refused.state (key : Nat) : Refused := ⟨abortState, 3, key, 0xF⟩
def Refused.range (key : Nat) : Refused := ⟨abortRange, 4, key, 0xF⟩
def Refused.length (key : Nat) : Refused := ⟨abortLength, 5, key, 0xF⟩
def Refused.noObject (key : Nat) : Refused := ⟨abortNoObject, 6, key, 0xF⟩
def Refused.noSub (key : Nat) : Refused := ⟨abortNoSub, 7, key, 0xF⟩
def Refused.readOnly (key : Nat) : Refused := ⟨abortReadOnly, 8, key, 0xF⟩
def Refused.writeOnly (key : Nat) : Refused := ⟨abortWriteOnly, 9, key, 0xF⟩
def Refused.overlayEntry (key : Nat) : Refused := ⟨abortRange, 10, key, 0xF⟩
def Refused.activeOverlay (key : Nat) : Refused := ⟨abortState, 11, key, 0xF⟩
def Refused.saveBusy (key : Nat) : Refused := ⟨abortSuperseded, 12, key, 0xF⟩
def Refused.kindling (key : Nat) : Refused := ⟨abortState, 13, key, 0xF⟩
def Refused.passcodeLock (key : Nat) : Refused := ⟨abortLevel, 14, key, 0xF⟩
def Refused.noSession (key : Nat) : Refused := ⟨abortGeneral, 15, key, 0xF⟩
def Refused.mapping (key : Nat) : Refused := ⟨abortMapping, 4, key, 0xF⟩

/-- The detail word of R129. -/
def Refused.word (r : Refused) : Nat := (r.key / 256 % 65536) * 65536 + (r.key % 256) * 256 + r.detail * 16 + r.other

/-- The path's answer (R127); an answer on CAN A or Flue waits to become a frame (R510, R541). -/
def State.answer (s : State) (p : Path) (a : Answer) : State :=
  let r := if p.writer = .flue ∨ p.writer = .canA then s.dict.replies.filter (fun x => x.1 != p) ++ [(p, a)] else s.dict.replies
  { s with dict := { s.dict with answers := s.dict.answers.set! p.writer.code a, replies := r } }

/-- A refusal: the path's detail word (R128) and its answer. -/
def State.refuse (s : State) (p : Path) (r : Refused) : State :=
  (s.putN (Key.abortDetail p.writer.code) r.word).answer p (.abort r.code)

/-! ### Levels -/

/-- The level a path holds (R118): Vendor for the hearth core, the granted level for a Stoker program, the raised level
for the others; a Flue client without a session is at Operator. -/
def State.levelOf (s : State) (p : Path) : Level :=
  match p.writer with
  | .hearth => .vendor
  | .core1 => if s.nat (Key.coreLevelGranted 1) = 1 then .service else .operator
  | .core2 => if s.nat (Key.coreLevelGranted 2) = 1 then .service else .operator
  | .core3 => if s.nat (Key.coreLevelGranted 3) = 1 then .service else .operator
  | .canA => s.dict.canA.level
  | .canB => s.dict.canB.level
  | .service => s.dict.service.level
  | .flue =>
    match s.dict.sessions.find? (fun f => f.addr == p.addr) with
    | some f => f.level
    | none => .operator

/-- The path is a core's own (R119 excludes it from level requests). -/
def writerIsCore : Writer → Bool
  | .hearth | .core1 | .core2 | .core3 => true
  | _ => false

/-- Levels in order. -/
def Level.atLeast (have_ need : Level) : Bool := decide (need.code ≤ have_.code)

/-- Give a path a level; dropping a Flue client to Operator frees its session (R119). -/
def State.setLevel (s : State) (p : Path) (l : Level) : State :=
  let d := s.dict
  let t := s.clock.tick
  match p.writer with
  | .canA => { s with dict := { d with canA := ⟨l, t⟩ } }
  | .canB => { s with dict := { d with canB := ⟨l, t⟩ } }
  | .service => { s with dict := { d with service := ⟨l, t⟩ } }
  | .flue =>
    let rest := d.sessions.filter (fun f => f.addr != p.addr)
    { s with dict := { d with sessions := if l = .operator then rest else rest ++ [⟨p.addr, l, t⟩] } }
  | _ => s

/-- Note the path's dictionary access, for the 600 s of R119. -/
def State.noteAccess (s : State) (p : Path) : State :=
  let d := s.dict
  let t := s.clock.tick
  match p.writer with
  | .canA => { s with dict := { d with canA := { d.canA with lastAccess := t } } }
  | .canB => { s with dict := { d with canB := { d.canB with lastAccess := t } } }
  | .service => { s with dict := { d with service := { d.service with lastAccess := t } } }
  | .flue => { s with dict := { d with sessions := d.sessions.map (fun f => if f.addr = p.addr then { f with lastAccess := t } else f) } }
  | _ => s

/-- An access on a path: noted; a request from outside wakes the module from SIMMER (R76). -/
def State.touch (s : State) (p : Path) : State := if writerIsCore p.writer then s.noteAccess p else s.eventWake.noteAccess p

/-! ### The checks of R117 -/

/-- The objects of Kindling mode (R106). -/
def kindlingObject (index : Nat) : Bool :=
  (Nat.ble 0x1000 index && Nat.ble index 0x1FFF) || (Nat.ble 0x2000 index && Nat.ble index 0x2003) || index == 0x2300
    || (Nat.ble 0x2400 index && Nat.ble index 0x243F) || index == 0x3900 || index == 0x3B00

/-- Object and subindex present (the first two checks): the row, or the refusal. -/
def State.presentRow (s : State) (key : Nat) : Except Refused Row :=
  let idx := key / 256
  if s.process = psKindling ∧ kindlingObject idx = false then .error (.kindling key)
  else if objectPresent idx = false then .error (.noObject key)
  else match findRow key with
    | some r => .ok r
    | none => .error (.noSub key)

/-- The level a write needs: the row's; the owner key hash, once non-zero, Vendor (R465). -/
def State.levelNeeded (s : State) (key : Nat) (r : Row) : Level :=
  if key = Key.imagesOwnerKeyHash ∧ (s.block key).all (fun b => b == 0) = false then .vendor else r.level

/-- A command to an actuator channel is refused outside ARMED, RUNNING and FAULT and in mode OFF (R371, R372), and in FAULT
when it disagrees with the safe state (R392). -/
def actCommandRefused (s : State) (a : Nat) (v : Option DVal) : Bool :=
  s.nat (Key.actMode a) == 0 || s.process == psInit || s.process == psStopped || s.process == psKindling
    || (s.process == psFault && match v with
        | some (.num 0) => s.flag (Key.actSafeState a)
        | some (.num 1) => !s.flag (Key.actSafeState a)
        | _ => true)

/-- A loop by its number. -/
def loopFin (n : Nat) : Option (Fin 64) := if h : n < 64 then some ⟨n, h⟩ else none

/-- Loops l and m are a partner pair (R231, R275). -/
def partnerPair (w : View) (l m : Nat) : Bool :=
  let ty := w.nat (Key.loopDestinationType l)
  l != m && w.nat (Key.loopPartnerLoop l) == m && w.nat (Key.loopPartnerLoop m) == l && (ty == 1 || ty == 2 || ty == 3)
    && w.nat (Key.loopDestinationType m) == ty && w.nat (Key.loopDestinationNumber m) == w.nat (Key.loopDestinationNumber l)

/-- The partner of loop l, both enabled. -/
def State.partner (s : State) (l : Nat) : Option (Fin 64) :=
  match loopFin (s.nat (Key.loopPartnerLoop l)) with
  | some m => if partnerPair s.get l m && s.flag (Key.loopEnable l) && s.flag (Key.loopEnable m) then some m else none
  | none => none

/-- Loop l is the standby of a partner pair: it computes no law and writes nothing; where neither loop has been made the standby of the other,
the higher number is (R275). -/
def State.loopStandby (s : State) (l : Fin 64) : Bool :=
  match s.partner l with
  | some m =>
    if (s.bellows.loops[l]).standby = (s.bellows.loops[m]).standby then decide (m.val < l.val) else (s.bellows.loops[l]).standby
  | none => false

/-- A mode command to a loop is refused outside RUNNING, for CASCADE and PREDICTIVE without their setpoint source, and at a
standby loop that is not in condition NORMAL (R265, R277); 0xFF commands none (R259). -/
def loopModeRefused (s : State) (l : Nat) (v : Option DVal) : Bool :=
  let sty := s.nat (Key.loopSPSourceType l)
  v != some (.num 0xFF) && (s.process != psRunning
    || (match v with
        | some (.num 2) => sty != 8
        | some (.num 3) => sty != 9
        | _ => false)
    || (s.loopStandby (Fin.ofNat 64 l) && s.nat (Key.loopCondition l) != 0))

/-- Restart levels of R604 as binary32 words. -/
def thermalRestartLevel (i : Nat) : Word := [0x42BE0000, 0x42BE0000, 0x42DC0000, 0x42DC0000, 0x42C80000, 0x42AA0000].getD i 0

/-- Enabling a bank is refused while its sensor is broken or at or above its restart level (R610). -/
def bankEnableRefused (s : State) (v : Option DVal) : Bool :=
  let hot := fun i => s.bitOf Key.thermalStatus (8 + i) || fle (thermalRestartLevel i) (s.word (Key.thermalTS i))
  match v with
  | some (.num 1) => hot 2
  | some (.num 2) => hot 3
  | _ => false

/-- The masked health reasons of a predictor's chain (R356). -/
def State.maskedReasons (s : State) (c : Nat) : Nat :=
  let all := (View.chain s.get c).foldl (fun w k => w ||| s.nat (Key.colHealthReasons k)) 0
  all &&& (s.nat (Key.predFallbackMask c) ||| 0x180)

/-- RETURN is refused while a masked reason is set and in PREDICTIVE (R358). -/
def returnRefused (s : State) (c : Nat) (v : Option DVal) : Bool :=
  v == some (.num 2) && (s.nat (Key.predState c) == 3 || s.maskedReasons c != 0)

/-- An event that led into FAULT has cleared (R108). -/
def State.faultCleared (s : State) (code : Nat) : Bool :=
  if code = 0x0406 then decide ((s.bellows.mismatches.filter (fun t => decide (s.clock.tick < t + 16000))).length < 3)
  else if code = 0x0407 then decide (64 ≤ s.bellows.passes)
  else !s.coldHold

/-- A process command is allowed: 1 ARM, 2 START, 3 HALT, 4 STOP, 5 RESET_FAULT (R108). -/
def State.commandAllowed (s : State) (v : Nat) : Bool :=
  match v with
  | 1 => s.process == psStopped
  | 2 => s.process == psArmed
  | 3 => s.process == psRunning
  | 4 => s.process == psArmed || s.process == psRunning
  | 5 => s.process == psFault && s.startup.faultEvents.all s.faultCleared
  | _ => false

/-- A program of core `c` may run in the present process state (R109, R461). -/
def State.programAllowed (s : State) (c : Nat) : Bool :=
  s.process == psArmed || s.process == psRunning || s.process == psFault || (s.process == psStopped && s.flag (Key.coreAutostart c))

/-- A write of the image of core `c` has begun and is not complete (R462): staged for the next tick, or its segments are arriving over
SDO or Flue. -/
def State.imageComing (s : State) (c : Nat) : Bool :=
  let key := Key.imagesImage (c - 1)
  s.dict.staged.any (fun w => w.key == key)
    || ((s.canopen.sdo.phase == .download || s.canopen.sdo.phase == .blockDownload || s.canopen.sdo.phase == .blockDownloadEnd)
      && s.canopen.sdo.key == key)
    || s.flue.doms.any (fun t => t.req.index % 65536 * 256 + t.req.sub % 256 == key)

/-- The number a write carries, or 0. -/
def numOf : Option DVal → Nat
  | some (.num v) => v.toNat
  | _ => 0

/-- LISTEN_ONLY (R485). -/
def State.listenOnly (s : State) (b : Fin 2) : Bool := s.nat (Key.canOperatingMode b) == 1

/-- The transmit port refuses a write for its state: LISTEN_ONLY, or the queue full (R485, R491). -/
def State.portClosed (s : State) (b : Fin 2) : Bool := s.listenOnly b || decide (32 ≤ (s.can[b]).queue.length)

/-- What a controller refuses in its state: a port that is closed, a Recover outside BUS_OFF (R485, R491, R500). -/
def State.canStateRefused (s : State) (key : Nat) : Bool :=
  (List.finRange 2).any (fun (b : Fin 2) => (key == Key.canTransmitPort b && s.portClosed b)
    || (key == Key.canRecover b && s.nat (Key.canBusState b) != 4))

/-- The process-state check of R117: sensor channels in Kindling mode (R106), RS subindexes outside INIT and STOPPED and, for the objects of
Kindling mode, KINDLING (R109), and what the owning chapters refuse in a state; a Kindling command outside Kindling mode is refused with
STATE (log 91). -/
def State.stateCheck (s : State) (p : Path) (key : Nat) (r : Row) (v : Option DVal) : Option Refused :=
  let idx := key / 256
  if s.process = psKindling ∧ 0x2400 ≤ idx ∧ idx ≤ 0x243F then some (.kindling key)
  else if r.right = .rs ∧ s.process ≠ psInit ∧ s.process ≠ psStopped ∧ s.process ≠ psKindling then some (.state key)
  else if idx = 0x2100 ∧ s.process = psFault then some (.state key)
  else if (idx = 0x1010 ∨ idx = 0x1011) ∧ s.dict.saveOp.isSome then some (.saveBusy key)
  else if key = Key.modeRequestedMode ∧ s.process = psKindling then some (.state key)
  else if 0x2110 ≤ idx ∧ idx ≤ 0x211F ∧ s.nat Key.modeActiveMode = idx - 0x2110 + 1 then some (.activeOverlay key)
  else if key = Key.lostAcknowledge ∧ s.nat Key.lostState = 1 then some (.state key)
  else if key = Key.ashClear ∧ (s.ash.failed || s.ash.clearing.isSome) then some (.state key)
  else if 0x3780 ≤ idx ∧ idx ≤ 0x37FF ∧ s.headed.isEmpty then some (.state key)
  else if key = Key.planPlan ∧ s.rootHead = false then some (.state key)
  else if key = Key.flueSiteKey ∧ p.writer ≠ .service then some (.state key)
  else if 0x2600 ≤ idx ∧ idx ≤ 0x263F ∧ key % 256 = 3 ∧ loopModeRefused s (idx - 0x2600) v then some (.state key)
  else if 0x2600 ≤ idx ∧ idx ≤ 0x263F ∧ key % 256 = 0x29 ∧ s.process ≠ psRunning then some (.state key)
  else if 0x2600 ≤ idx ∧ idx ≤ 0x263F ∧ key % 256 = 0x2B ∧ s.bitOf Key.bellowsGlobalStatus 0 then some (.state key)
  else if idx = 0x2681 ∧ 3 ≤ key % 256 ∧ key % 256 ≤ 0x0D ∧ s.nat Key.traceState ≠ 0 ∧ s.nat Key.traceState ≠ 4 then some (.state key)
  else if 0x2800 ≤ idx ∧ idx ≤ 0x2813 ∧ key % 256 = 2 ∧ actCommandRefused s (idx - 0x2800) v then some (.state key)
  else if 0x2800 ≤ idx ∧ idx ≤ 0x2813 ∧ key % 256 = 0x19 ∧ (s.acts.units.toList.getD (idx - 0x2800) .reset).present then some (.state key)
  else if 0x2820 ≤ idx ∧ idx ≤ 0x2829 ∧ key % 256 = 6 ∧ s.acts.present.toList.getD (idx - 0x2820) false then some (.state key)
  else if 0x3110 ≤ idx ∧ idx ≤ 0x3113 ∧ key % 256 = 0x20 ∧ returnRefused s (idx - 0x3110) v then some (.state key)
  else if s.canStateRefused key then some (.state key)
  else if key = Key.thermalRestart ∧ s.coldHold then some (.state key)
  else if key = Key.thermalBankEnable ∧ bankEnableRefused s v then some (.state key)
  else if 0x3400 = idx ∧ 2 ≤ key % 256 ∧ key % 256 ≤ 4 then some (.state key)
  else if 0x2400 ≤ idx ∧ idx ≤ 0x243F ∧ key % 256 = 0x13 ∧ s.flag (Key.chanEnable (idx - 0x2400)) = false then some (.state key)
  else if key = Key.procCommand ∧ v.isSome ∧ s.commandAllowed (numOf v) = false then some (.state key)
  else if key = Key.startKindlingCommand ∧ s.process ≠ psKindling then some (.state key)
  else if 0x3401 ≤ idx ∧ idx ≤ 0x3403 ∧ key % 256 = 2 ∧ (numOf v = 1 ∨ numOf v = 3)
      ∧ (s.programAllowed (idx - 0x3400) = false ∨ s.imageComing (idx - 0x3400)) then
    some (.state key)
  else if key = Key.imagesEraseSlot ∧ 1 ≤ numOf v ∧ numOf v ≤ 3 ∧ s.nat (Key.coreProgramState (numOf v)) = 2 then some (.state key)
  else if idx = 0x3410 ∧ 0x11 ≤ key % 256 ∧ key % 256 ≤ 0x13 ∧ s.nat (Key.coreProgramState (key % 256 - 0x10)) = 2 then some (.state key)
  else none

/-- The values a write is checked against while a mode switch is PENDING: the new set (R638). -/
def State.pendingView (s : State) : Option View :=
  s.dict.pending.map (fun q => overlayView s.baseGet q.entries)

/-- The range check of R117 for a single value; the combination rules of the owning chapters are judged at the commit, where
writes of one tick are taken together (R156, R231, R369, R370). -/
def rangeCheck (key : Nat) (r : Row) (v : Int) : Bool :=
  r.inRange v && valueOk key v

/-- Ranges that depend on other values: an entry of the grain-type file (R310, R338), a binding's layer and cell (R311), the map's
member (R340). -/
def State.rangeNow (s : State) (key : Nat) (v : Int) : Bool :=
  let idx := key / 256
  let sub := key % 256
  let n := v.toNat
  if 0x3040 ≤ idx ∧ idx ≤ 0x304F ∧ sub = 0x10 then decide (n < s.nat Key.tablesFileEntries)
  else if 0x3010 ≤ idx ∧ idx ≤ 0x3013 ∧ 0x60 ≤ sub ∧ sub ≤ 0x7F then
    let c := idx - 0x3010
    decide (field n 15 7 < s.nat (Key.colLayers c)) && (field n 4 0 == 31 || decide (field n 4 0 < s.nat (Key.colCellsAcross c)))
  else if 0x2600 ≤ idx ∧ idx ≤ 0x263F ∧ sub = 0x29 then
    decide (s.get (Key.loopUmin (idx - 0x2600)) ≤ v) && decide (v ≤ s.get (Key.loopUmax (idx - 0x2600)))
  else if key = Key.mapLayerCursor then n == 0 || decide (n < s.nat Key.mapSnapshotLayers)
  else if key = Key.ashCursor then decide (n ≤ if s.ash.failed then s.ash.reserve.length else s.ash.slots.length)
  else if key = Key.mapMember then decide (n < s.nat (Key.colMembers (s.nat Key.mapColumn)))
  else true

/-- A PDO may map a numeric subindex that an Operator path may write (RPDO) or read (TPDO), at its width (R510). -/
def mappingOk (rpdo : Bool) (v : Nat) : Bool :=
  v == 0 || (findRow (v / 256)).any (fun r => !r.ty.isBlock && v % 256 == 8 * r.ty.width
    && (if rpdo then (r.right == .rw || r.right == .wo) && r.level == .operator else r.right != .wo))

/-- Bits that the first `n` entries of a mapping take, with the value `v` at subindex `key`. -/
def State.mappedBits (s : State) (idx n key v : Nat) : Nat :=
  ((List.range (min n 8)).map (fun i => (if idx * 256 + 1 + i = key then v else s.nat (idx * 256 + 1 + i)) % 256)).sum

/-- A write to a PDO's mapping that R510 refuses: what may not be mapped, and more than 64 bits, by the count or by an entry in use. -/
def State.mappingRefused (s : State) (key : Nat) (v : Int) : Bool :=
  let idx := key / 256
  let sub := key % 256
  let rpdo := Nat.ble 0x1600 idx && Nat.ble idx 0x1607
  let tpdo := Nat.ble 0x1A00 idx && Nat.ble idx 0x1A07
  if (rpdo || tpdo) = false then false
  else if sub = 0 then decide (64 < s.mappedBits idx v.toNat key 0)
  else !mappingOk rpdo v.toNat || decide (64 < s.mappedBits idx (s.nat (idx * 256)) key v.toNat)

/-- All the checks of a write, in the order of R117: the refusal, or the value to stage. -/
def State.checkWrite (s : State) (p : Path) (key : Nat) (d : WData) : Except Refused DVal :=
  match s.presentRow key with
  | .error e => .error e
  | .ok r =>
    if r.right = .ro then .error (.readOnly key)
    else if (s.levelOf p).atLeast (s.levelNeeded key r) = false then .error (.level key)
    else match s.stateCheck p key r (r.parse d) with
      | some e => .error e
      | none =>
        match r.parse d with
        | none => .error (.length key)
        | some (.blk bs) =>
          if 0x2110 ≤ key / 256 ∧ key / 256 ≤ 0x211F ∧ key % 256 = 3 then
            (match firstBad s.baseGet (overlayEntries bs) with
             | some e => .error (.overlayEntry e.key)
             | none => .ok (.blk bs))
          else if blockOk key bs then .ok (.blk bs) else .error (.range key)
        | some (.num v) =>
          if s.mappingRefused key v then .error (.mapping key)
          else if rangeCheck key r v && s.rangeNow key v then .ok (.num (r.stored v)) else .error (.range key)

/-- The trace data can be read in DONE, and in IDLE after a completed trace (R250). -/
def State.traceReadable (s : State) : Bool := s.nat Key.traceState == 4 || (s.nat Key.traceState == 0 && s.bellows.traceReady)

/-- The checks of a read (R117): object, subindex, right; the moisture map only while its snapshot is READY (R324), the trace data as R250
says, the group's objects only at a head (R542), a program's settings on no hearth core (R464). -/
def State.checkRead (s : State) (key : Nat) : Except Refused Row :=
  match s.presentRow key with
  | .error e => .error e
  | .ok r =>
    if r.right = .wo then .error (.writeOnly key)
    else if 0x3780 ≤ key / 256 ∧ key / 256 ≤ 0x37FF ∧ s.headed.isEmpty then .error (.state key)
    else if key / 256 = 0x3070 ∧ 0x10 ≤ key % 256 ∧ s.nat Key.mapSnapshotState ≠ 2 then .error (.state key)
    else if key = Key.traceData ∧ s.traceReadable = false then .error (.state key)
    else if key / 256 = 0x3400 ∧ 2 ≤ key % 256 ∧ key % 256 ≤ 4 then .error (.state key)
    else .ok r

/-! ### Staging and ranking -/

/-- A staged ARM of the trace: beside it a TRIGGER of the same tick is ignored (R257). -/
def Staged.arms (w : Staged) : Bool := w.key == Key.traceCommand && w.value == .num 1

/-- Stage a checked value (R123). A second window store of one core to one subindex overwrites the first (R125), but for a TRIGGER behind an
ARM of the trace (R257). -/
def State.stage (s : State) (p : Path) (key : Nat) (v : DVal) : State :=
  if key = Key.traceCommand ∧ v = .num 2 ∧ s.dict.staged.any (fun w => w.path == p && w.arms) then s
  else
    let old := s.dict.staged.filter (fun w => !(w.path == p && w.key == key))
    { s with dict := { s.dict with staged := old ++ [⟨p, key, v⟩] } }

/-- `a` ranks above `b`: by writer (R124), and between two Flue clients by the lower source address (R125). -/
def ranksAbove (a b : Path) : Bool :=
  if a.writer = b.writer then decide (a.addr < b.addr) else decide (a.writer.code < b.writer.code)

/-- The staged writes to `key` that can stand: beside an ARM of the trace no TRIGGER (R257). -/
def contenders (l : List Staged) (key : Nat) : List Staged :=
  let all := l.filter (fun w => w.key == key)
  if all.any Staged.arms then all.filter (fun w => w.value != .num 2) else all

/-- The staged write to `key` that stands: the one no other write to it ranks above. -/
def standing (l : List Staged) (key : Nat) : Option Staged :=
  (contenders l key).foldl
    (fun best w => match best with
      | none => some w
      | some b => if ranksAbove w.path b.path then some w else some b) none

/-- The staged writes that stand, in staging order. -/
def standingWrites (l : List Staged) : List Staged := l.filter (fun w => standing l w.key == some w)

/-- The staged writes that lose, each with the writer that stood. -/
def supersededWrites (l : List Staged) : List (Staged × Nat) :=
  l.filterMap (fun w => match standing l w.key with
    | some b => if b == w then none else some (w, b.path.writer.code)
    | none => none)

/-- The refusal of a superseded write (R124): detail word, abort answer, count. -/
def State.supersede (s : State) (w : Staged × Nat) : State :=
  (s.refuse w.1.path (.superseded w.1.key w.2)).bump 32 Key.abortSupersededWrites

/-! ### Putting a value in force -/

/-- The active overlay names the subindex (R148). -/
def State.overlayNames (s : State) (key : Nat) : Bool := s.dict.active.any (fun e => e.1 == key)

/-- A single write in force (R148): a configuration subindex the active overlay names changes its running value only, any
other configuration subindex its base too; a live subindex has only its running value. -/
def State.assign (s : State) (key : Nat) (v : Int) : State :=
  let s1 := s.put key v
  if isConfig key && !s.overlayNames key then s1.putBase key v else s1

/-- The guard of a command written to the dictionary: the checks of R117 for `v` at `key`, then the command's effect. -/
def State.commanded (s : State) (p : Path) (key : Nat) (v : Nat) (f : State → State) : State :=
  let w := match findRow key with
    | some r => r.ty.bytesOf (Int.ofNat v)
    | none => []
  s.served (fun s => match s.checkWrite p key (.bytes w) with
    | .error e => (s.touch p).refuse p e
    | .ok _ => f ((s.touch p).answer p .done))

end Sys2Proof.Machine
end

