-- ==== Sys2Proof/Machine/Sensors.lean ====
section
/-! DEFINITION. Sensor channels and converter cores: slots, ranges, raw samples, scheduling and blanking (R153-R195). -/

namespace Sys2Proof.Machine

open Sys2Proof

/-! ### Configuration of a slot -/

/-- Conversions per slot (R154): two for a swap, a reversal and dual-frequency IMP. -/
def convsOf (w : View) (n : Nat) : Nat :=
  let ty := w.nat (Key.chanSensorType n)
  let lead := w.nat (Key.chanLeadMode n)
  if ty = 1 then (if lead = 1 ∨ lead = 3 then 2 else 1)
  else if ty = 3 then (if lead = 3 then 2 else 1)
  else if ty = 6 then (if w.nat (Key.chanIMPSecondFrequency n) = 0xFF then 1 else 2)
  else 1

/-- Settling delay in microseconds. -/
def settleUs (w : View) (n : Nat) : Nat := 10 * w.nat (Key.chanSettlingDelay n)

/-- Nominal slot length in microseconds (R158). -/
def slotNominal (w : View) (n : Nat) : Nat :=
  settleUs w n + convsOf w n * convUsOf (w.nat (Key.chanConversionTime n))

/-- Maximum slot length in microseconds (R158). -/
def slotMaximum (w : View) (n : Nat) : Nat :=
  let t := max (settleUs w n) 20
  let c := convsOf w n * convUsOf (w.nat (Key.chanConversionTime n))
  if w.nat (Key.chanRangeMode n) = 1 then t + c else t + 2 * c + 20

/-- The channel takes part in scanning: enabled, with a sensor. -/
def chanLive (w : View) (n : Nat) : Bool := w.nat (Key.chanEnable n) == 1 && w.nat (Key.chanSensorType n) != 0

/-- S_max of a core in microseconds (R181). -/
def sumOfMaxima (w : View) (c : Nat) : Nat :=
  ((List.range 8).map (fun i => if chanLive w (8 * c + i) then slotMaximum w (8 * c + i) else 0)).sum

/-- A core's load in 0.01 % as a fraction, for slot lengths `len` (R183): the sum of 10 * slot / P over its scanned channels. -/
def loadFraction (w : View) (len : View → Nat → Nat) (c : Nat) : Nat × Nat :=
  (List.range 8).foldl (fun q i =>
    let n := 8 * c + i
    let p := w.nat (Key.chanScanPeriod n)
    if chanLive w n && p != 0 then (q.1 * p + 10 * len w n * q.2, q.2 * p) else q) (0, 1)

/-- A core's load in units of 0.01 %, to the nearest, saturating (R183, R194; log 34). -/
def coreLoad (w : View) (len : View → Nat → Nat) (c : Nat) : Nat :=
  let q := loadFraction w len c
  min 65535 ((2 * q.1 + q.2) / (2 * q.2))

/-- The nominal load exceeds 100.00 % (R183). -/
def overloaded (w : View) (c : Nat) : Bool :=
  let q := loadFraction w slotNominal c
  decide (10000 * q.2 < q.1)

/-- A scan period of the core lies below S_max (R181); period 0 is no scanning and no short period (DEDUCED, log 184). -/
def boundInvalid (w : View) (c : Nat) : Bool :=
  (List.range 8).any (fun i => let n := 8 * c + i
    chanLive w n && w.nat (Key.chanScanPeriod n) != 0 && decide (1000 * w.nat (Key.chanScanPeriod n) < sumOfMaxima w c))

/-- The core status word 0x2480+c:05 (R195): REF_FAIL is held, the other bits follow from the configuration. -/
def State.coreStatusWord (s : State) (c : Nat) : Nat :=
  b2n (overloaded s.get c) + 2 * b2n (boundInvalid s.get c)
    + 4 * b2n (s.bitOf (Key.convCoreStatus c) 2)

/-! ### Blanking (R185-R189) -/

/-- The sources a channel selects, as a mask of the codes of R185. -/
def blankMaskOf (w : View) (n : Nat) : Nat :=
  w.nat (Key.chanBlankInputs n) % 4 + 4 * w.nat (Key.chanBlankActuators n) + 2 ^ 22 * w.nat (Key.chanBlankDrives n)

/-- The sources a channel selects now. -/
def State.blankMask (s : State) (n : Nat) : Nat := blankMaskOf s.get n

/-- Sources that blank now: in effect and not past their maximum (R186, R188). -/
def State.blanking (s : State) : Nat := s.front.inEffect ^^^ (s.front.inEffect &&& s.front.timedOut)

/-- The channel is blanked (R186). -/
def State.blanked (s : State) (n : Nat) : Bool := (s.blankMask n &&& s.blanking) != 0

/-- The lowest selected source that blanks the channel. -/
def State.blankerOf (s : State) (n : Nat) : Nat :=
  ((List.range 38).find? (fun i => (s.blankMask n &&& s.blanking).testBit i)).getD 0

/-! ### Channels and cores -/

def State.setChannel (s : State) (n : Fin 64) (f : Channel → Channel) : State :=
  { s with front := { s.front with channels := s.front.channels.set n (f s.front.channels[n]) } }

def State.setConverter (s : State) (v : Fin 8) (f : Converter → Converter) : State :=
  { s with front := { s.front with converters := s.front.converters.set v (f s.front.converters[v]) } }

/-- The converter core of a channel (R153). -/
def coreOfChannel (n : Fin 64) : Fin 8 := ⟨n.val / 8, by omega⟩

/-- Channel 8v + i (R153). -/
def channelOf (v : Fin 8) (i : Fin 8) : Fin 64 := ⟨8 * v.val + i.val, by omega⟩

/-- Channels in Kindling mode and process states: scanning runs and the front end is up (R106, R184). On-demand requests made before wait
(DEDUCED, log 185). -/
def State.canScan (s : State) : Bool := s.front.ready && s.front.scanning && s.clocksRun

/-- The channel is eligible for a slot (R179): a pending due time, no selected blanking (unless R189 applies), and TXSUP
up for a transmitter (R163). -/
def State.eligible (s : State) (n : Fin 64) : Bool :=
  let c := s.front.channels[n]
  c.due.isSome && chanLive s.get n.val && (c.ignoreBlank || !s.blanked n.val)
    && (s.nat (Key.chanSensorType n.val) != 5 || c.txReady)

/-- The eligible channel of a core with the earliest due time; the lower number on a tie (R179). -/
def State.nextChannel (s : State) (v : Fin 8) : Option (Fin 64 × Nat) :=
  (List.finRange 8).foldl (fun best i =>
    let n := channelOf v i
    if s.eligible n then
      let d := ((s.front.channels[n]).due.map (fun x => x.at_)).getD 0
      match best with
      | some (b, t) => if d < t then some (n, d) else some (b, t)
      | none => some (n, d)
    else best) none

/-- The range a slot starts at (R170, R171): sub 0D in FIXED, after a change of 0C or 0D, and at enable; else the range
kept in sub 17. -/
def State.startRange (s : State) (n : Fin 64) : Nat :=
  if s.nat (Key.chanRangeMode n.val) = 1 ∨ (s.front.channels[n]).rangeReset then s.nat (Key.chanRange n.val)
  else s.nat (Key.chanRangeNow n.val)

/-- The values a result is linearised with, as `w` has them at the slot's start (R196): the coefficient set, and the channel's
type, excitation, amplitude and companion. -/
def frozenSet (w : View) (n : Nat) : List (Nat × Int) :=
  let chan := [Key.chanSensorType n, Key.chanLeadMode n, Key.chanExcitationCurrent n, Key.chanIMPDriveAmplitude n,
    Key.chanCompanionChannel n]
  let coef := (List.range 0x25).map (fun i => Key.coefForm n + i)
  (chan ++ coef).map (fun k => (k, w k))

/-- The SENSE cycle of this tick start, in microseconds of module time. -/
def State.tickTime (s : State) : Nat := s.moduleNs / 1000

/-- Module time in microseconds, as the events of the front end carry it, else to the tick. -/
def State.senseNow (s : State) : Nat := max s.front.now s.tickTime

/-- An event of the front end at time `t`. -/
def State.senseAt (s : State) (t : Nat) : State := { s with front := { s.front with now := t } }

/-- A sensor channel or a coefficient set. -/
def frontKey (key : Nat) : Bool := (Nat.ble 0x2400 (key / 256) && Nat.ble (key / 256) 0x243F) || (Nat.ble 0x2500 (key / 256) && Nat.ble (key / 256) 0x253F)

/-- Channel `n` changes its range mode or its range by the writes `l`. -/
def rangeWritten (l : List (Nat × Int)) (n : Nat) : Bool := l.any (fun e => e.1 == Key.chanRangeMode n || e.1 == Key.chanRange n)

/-- The values that the writes `l` of this tick start are about to replace in the front end, for the slots that start in the same SENSE
cycle (R190, R196, R215); of a channel whose range they change, the range at which its slot would have started. -/
def State.keepOld (s : State) (l : List (Nat × Int)) : State :=
  let changed := l.filter (fun e => frontKey e.1 && s.get e.1 != e.2)
  if changed.isEmpty then s
  else
    let kept := if s.front.laidAt = s.tickTime then s.front.replaced else []
    let ranges := (List.finRange 64).filterMap (fun n =>
      if rangeWritten changed n.val then some (Key.chanRangeNow n.val, Int.ofNat (s.startRange n)) else none)
    { s with front := { s.front with laidAt := s.tickTime, replaced := kept ++ changed.map (fun e => (e.1, s.get e.1)) ++ ranges } }

/-- The values that a slot of channel `n` runs on when it starts now: those in force, or those that a commit of the same SENSE cycle has
replaced, as a whole (R190, R196, R215), where the channel took part in scanning with them. -/
def State.slotView (s : State) (n : Nat) : View :=
  let old := overlayView s.get s.front.replaced
  if s.front.laidAt = s.senseNow && chanLive old n then old else s.get

/-- The commit of this SENSE cycle has changed the range of channel `n`, whose slot still takes the old one. -/
def State.rangeKept (s : State) (n : Nat) : Option Nat :=
  if s.front.laidAt = s.senseNow && chanLive (overlayView s.get s.front.replaced) n then
    (s.front.replaced.find? (fun e => e.1 == Key.chanRangeNow n)).map (fun e => e.2.toNat)
  else none

/-- Start the slot of channel `n` on its core (R157): the values it runs on are taken now; late due times make it STALE
and count as missed (R182). -/
def State.startSlot (s : State) (v : Fin 8) (n : Fin 64) : State :=
  let c := s.front.channels[n]
  match c.due with
  | none => s
  | some d =>
    let w := s.slotView n.val
    let old := s.rangeKept n.val
    let range := old.getD (s.startRange n)
    let g := if (s.front.converters[v]).lastGain = some range then 0 else 20
    let slot : Slot :=
      { chan := n, due := { d with missed := 0 }, start := s.senseNow, mask := blankMaskOf w n.val,
        leadCheck := w.nat (Key.coefLeadCheck n.val) != 0, range := range, kind := w.nat (Key.chanSensorType n.val), lead := w.nat (Key.chanLeadMode n.val),
        convs := convsOf w n.val, convUs := convUsOf (w.nat (Key.chanConversionTime n.val)),
        auto := w.nat (Key.chanRangeMode n.val) == 0, downCount := w.nat (Key.chanDownRangeCount n.val),
        dual := w.nat (Key.chanSensorType n.val) == 6 && w.nat (Key.chanIMPSecondFrequency n.val) != 0xFF,
        phase := 0, retaken := false, first := none, openSeen := false, clipSeen := false, stale := d.late,
        unblanked := c.ignoreBlank, length := max (settleUs w n.val) g, frozen := frozenSet w n.val, discard := false }
    let s1 := (s.setConverter v (fun k => { k with slot := some slot })).setChannel n
      (fun c => { c with due := none, rangeReset := old.isSome, leadFail := false })
    (if old.isSome then s1 else s1.putN (Key.chanRangeNow n.val) range).putN (Key.chanMissedDueTimes n.val)
      (satAdd 32 (s.nat (Key.chanMissedDueTimes n.val)) d.missed)

/-- A channel that the core would take but for blanking, ahead of the one it takes (R189). -/
def State.heldBack (s : State) (taken : Option (Fin 64 × Nat)) (n : Fin 64) : Bool :=
  let c := s.front.channels[n]
  match c.due with
  | none => false
  | some d =>
    chanLive s.get n.val && s.blanked n.val && !c.ignoreBlank && (s.nat (Key.chanSensorType n.val) != 5 || c.txReady)
      && (match taken with
        | none => true
        | some (m, t) => decide (d.at_ < t) || (d.at_ == t && decide (n < m)))

/-- Mark the channels that blanking holds back at a selection (R189). -/
def State.markHeld (s : State) (v : Fin 8) (taken : Option (Fin 64 × Nat)) : State :=
  (List.finRange 8).foldl (fun s i =>
    let n := channelOf v i
    if s.heldBack taken n then
      s.setChannel n (fun c => { c with due := c.due.map (fun d => { d with held := true }), lastBlank := s.blankerOf n.val })
    else s) s

/-- An idle core takes its next slot or reference check (R179, R192). -/
def State.serveCore (s0 : State) (v : Fin 8) : State :=
  let k := s0.front.converters[v]
  if k.slot.isSome || k.refRunning || !s0.canScan then s0
  else
  let s := s0.markHeld v (s0.nextChannel v)
  match s.nextChannel v, k.refDue with
    | some (n, d), some r => if r < d then s.setConverter v (fun k => { k with refDue := none, refRunning := true })
        else s.startSlot v n
    | some (n, _), none => s.startSlot v n
    | none, some _ => s.setConverter v (fun k => { k with refDue := none, refRunning := true })
    | none, none => s

/-- Every core takes what it can. -/
def State.serveCores (s : State) : State := (List.finRange 8).foldl (fun s v => s.serveCore v) s

/-- The channel is marked as delayed by blanking source `src` (R174, R189). -/
def State.markDelayed (s : State) (n : Fin 64) (src : Nat) : State :=
  s.setChannel n (fun c => { c with due := c.due.map (fun d => { d with delayed := true }), lastBlank := src })

/-- Blanking kept a channel from completing until its next due time: the next slot ignores blanking, logged once (R189). -/
def State.starve (s : State) (n : Fin 64) : State :=
  let c := s.front.channels[n]
  let s1 := s.setChannel n (fun c => { c with ignoreBlank := true, starvedLogged := true })
  if c.starvedLogged then s1 else s1.log 0x0304 n.val n.val c.lastBlank

/-- A pending due time takes a further one in (R180, R182, R189): one slot serves an on-demand request and a scan due time; a second
scan due time finds the first unserved. -/
def Due.merge (d : Due) (t : Nat) : Due :=
  if d.scan then { d with missed := d.missed + 1, late := true } else { d with scan := true, at_ := min d.at_ t }

/-- A scan due time of one channel, once (R178, R180, R182, R189). -/
def State.scanDueOne (s : State) (n : Fin 64) (t : Nat) : State :=
  let c := s.front.channels[n]
  if chanLive s.get n.val = false ∨ s.nat (Key.chanScanPeriod n.val) = 0 ∨ c.lastScan = some t then s
  else
    let s0 := s.setChannel n (fun c => { c with lastScan := some t })
    let s1 := match c.due with
      | none => s0.setChannel n (fun c => { c with due := some ⟨t, 0, false, false, true, false⟩ })
      | some d =>
        let s1 := s0.setChannel n (fun c => { c with due := some (d.merge t) })
        if d.scan && d.held then s1.starve n else s1
    if s1.blanked n.val then s1.markDelayed n (s1.blankerOf n.val) else s1

/-- A channel falls due at `t` microseconds by its period and phase (R178). -/
def State.dueAt (s : State) (n : Fin 64) (t : Nat) : Bool :=
  let p := s.nat (Key.chanScanPeriod n.val)
  p != 0 && t % 1000 == 0 && (t / 1000 + p - s.nat (Key.chanScanPhase n.val) % p) % p == 0

/-- A scan due time: the channels of one core that fall due at the same time do so together (R178, R179, R190). -/
def State.scanDue (s : State) (n : Fin 64) (t : Nat) : State :=
  if s.front.scanning = false then s
  else
    let v := coreOfChannel n
    let s1 := (List.finRange 8).foldl (fun s i =>
      let m := channelOf v i
      if m = n || s.dueAt m t then s.scanDueOne m t else s) (s.senseAt t)
    s1.serveCore v

/-- SCAN_DUE (R178); in BANKED the due times are owed (R184). -/
def execScanDue (n : Fin 64) (t : Nat) (s : State) : Host.Outcome State Fault Refusal :=
  .next (if s.clocksRun ∨ s.power.phase = .asleep .banked then s.scanDue n t else s)

/-- An on-demand request, ordered with the scan due times and merged into a pending one (R180). -/
def State.demandConversion (s : State) (n : Fin 64) (t : Nat) : State :=
  let s1 := match (s.front.channels[n]).due with
    | none => s.setChannel n (fun c => { c with due := some ⟨t, 0, false, false, false, false⟩ })
    | some d => s.setChannel n (fun c => { c with due := some { d with at_ := min d.at_ t } })
  let s2 := if s1.blanked n.val then s1.markDelayed n (s1.blankerOf n.val) else s1
  s2.serveCore (coreOfChannel n)

/-- CONVERT_NOW: 0x01 written to 0x2400+n:13; refused on a channel whose enable is 0 (R180). -/
def execConvertNow (p : Path) (n : Fin 64) (t : Nat) (s : State) : Host.Outcome State Fault Refusal :=
  .next (s.commanded p (Key.chanConvertNow n.val) 1 (fun s => s.demandConversion n t))

/-- CONVERSION_START: the settling delay of the core's slot ends (R158, R159). -/
def execConversionStart (v : Fin 8) (s : State) : Host.Outcome State Fault Refusal :=
  .next (s.served (fun s => match (s.front.converters[v]).slot with
    | some sl => if sl.phase = 0 then s.setConverter v (fun k => { k with slot := some { sl with phase := 1 }, lastGain := some sl.range }) else s
    | none => s))

/-- LEAD_CHECK_END: the 40 us test of R206 within the settling delay, with its finding; the excitation comes on (R157). -/
def execLeadCheckEnd (v : Fin 8) (fail : Bool) (s : State) : Host.Outcome State Fault Refusal :=
  .next (s.served (fun s => match (s.front.converters[v]).slot with
    | some sl => if sl.phase = 0 && sl.leadCheck then s.setChannel sl.chan (fun c => { c with leadFail := fail }) else s
    | none => s))

/-! ### Conversions and results -/

/-- A clipped conversion (R169); of an IMP conversion its quadrature code decides, as for high and low (DEDUCED, log 183). -/
def readingClipped (r : Reading) : Bool :=
  decide (r.code ≤ -8388608) || decide (8388607 ≤ r.code) || r.overrange

/-- (a + b) / 2 to the nearest code, ties away from zero (R159, R176). -/
def halfAway (x : Int) : Int := if 0 ≤ x then (x + 1) / 2 else -((-x + 1) / 2)

/-- A code held in 24 bits. -/
def code24 (x : Int) : Int := clampInt (-8388608) 8388607 x

/-- The flags of R174 as the low byte of the word. -/
def rawFlags (range : Nat) (stale delayed opened retaken clipped : Bool) : Nat :=
  32 * range + 16 * b2n stale + 8 * b2n delayed + 4 * b2n opened + 2 * b2n retaken + b2n clipped

/-- A raw sample word (R174). -/
def rawWord (code : Int) (flags : Nat) : Word := BitVec.ofNat 32 (256 * unsignedOf 24 code + flags % 256)

/-- a / b rounded to nearest, ties away from zero. -/
def divAway (a b : Int) : Int :=
  let q := (2 * a.natAbs + b.natAbs) / (2 * b.natAbs)
  if decide (a < 0) != decide (b < 0) then - Int.ofNat q else Int.ofNat q

/-- The ratio word's code (R177): primary over second quadrature with 1,048,576 = 1.0; where that has no value, or lies
outside the 24-bit code, a free value (log 13). -/
def State.ratioCode (s : State) (q1 q2 : Int) : Int × State :=
  let r := divAway (q1 * 1048576) q2
  if q2 ≠ 0 ∧ -8388608 ≤ r ∧ r ≤ 8388607 then (r, s)
  else let f := s.freeNat; (signedOf 24 f.1, f.2)

/-- Combine the slot's conversions into VALUE, in-phase and ratio codes (R159, R177). -/
def State.combine (s : State) (sl : Slot) (r : Reading) : (Int × Int × Int) × State :=
  match sl.first with
  | none => ((code24 r.code, code24 r.inPhase, 0), s)
  | some (c1, p1) =>
    if sl.kind = 6 then
      let f := s.ratioCode c1 r.code
      ((code24 c1, code24 p1, f.1), f.2)
    else if sl.lead = 1 then ((code24 (halfAway (c1 + r.code)), 0, 0), s)
    else ((code24 (halfAway (c1 - r.code)), 0, 0), s)

/-- The range of the next slot after an AUTO result of magnitude `m` at range `range` (R171): the next finer or coarser
one, or after a retake the finest at which the result lies at or below 80 % of full scale; with the count of low results. -/
def nextRange (range m downCount low : Nat) (retaken clipped : Bool) : Nat × Nat :=
  if retaken then
    let ok := fun k => 5 * m * 4 ^ k ≤ 4 * 8388608
    ((if ok 4 then 4 else if ok 3 then 3 else if ok 2 then 2 else if ok 1 then 1 else 0), 0)
  else if clipped then (range, 0)
  else if 7969178 ≤ m then (range - 1, 0)
  else if m ≤ 1677721 then
    (if downCount ≤ low + 1 ∧ range < 4 then (range + 1, 0) else (range, low + 1))
  else (range, 0)

/-- Time the excitation was on within the last 10 s before `t` (R165). -/
def onWithin (t : Nat) (l : List (Nat × Nat)) : Nat :=
  (l.map (fun e => e.1 - max (e.1 - e.2) (t - 10000000))).sum

/-- How long the excitation of a slot is on when it ends `length` microseconds after its start: with the lead check it comes on after
40 us (R157). -/
def Slot.onTime (sl : Slot) (length : Nat) : Nat := if sl.kind = 4 ∨ sl.kind = 5 then 0 else length - (if sl.leadCheck then 40 else 0)

/-- An interval of `len` microseconds with the excitation on has ended at `t` (R165). -/
def Channel.excited (c : Channel) (t len : Nat) : Channel :=
  { c with excitation := (if len = 0 then [] else [(t, len)]) ++ c.excitation.filter (fun e => decide (t - 10000000 < e.1)) }

/-- A slot ends with its last conversion (R157, R159, R171, R174). The duty of R165 is cut down to whole 0.01 % (DESIGN CHOICE, log 182). -/
def State.endSlot (s : State) (v : Fin 8) (sl : Slot) (r : Reading) (t : Nat) : State :=
  let n := sl.chan
  let comb := s.combine sl r
  let s0 := comb.2
  let clipped := readingClipped r || sl.clipSeen
  let opened := sl.kind != 4 && (r.circuitOpen || sl.openSeen)
  let flags := rawFlags sl.range (sl.stale || sl.unblanked) (sl.due.delayed || sl.unblanked) opened sl.retaken clipped
  let imp := sl.kind == 6
  let res : RawResult :=
    { primary := rawWord comb.1.1 flags, secondary := if imp then rawWord comb.1.2.1 flags else 0,
      ratio := if imp && sl.dual then rawWord comb.1.2.2 flags else 0,
      leadFail := (s.front.channels[n]).leadFail, endTick := s.clock.tick, endTime := t, frozen := sl.frozen }
  let nr := if sl.auto then nextRange sl.range comb.1.1.natAbs sl.downCount (s.front.channels[n]).lowCount sl.retaken clipped
    else (sl.range, 0)
  let again := (s.front.channels[n]).rangeReset
  let next := if again then s.nat (Key.chanRange n.val) else nr.1
  let s1 := (s0.setConverter v (fun k => { k with slot := none })).setChannel n (fun c =>
    { c.excited t (sl.onTime sl.length) with
             lowCount := if again then 0 else nr.2, result := if sl.discard then none else some res,
             ignoreBlank := c.ignoreBlank && !sl.unblanked,
             starvedLogged := sl.unblanked && c.starvedLogged })
  let s2 := (s1.bump 32 (Key.convSlots v.val)).putN (Key.chanLastSlotLength n.val) sl.length
  let s3 := s2.putN (Key.chanExcitationDuty n.val) (min 10000 (onWithin t (s2.front.channels[n]).excitation / 1000))
  let s4 := if again || nr.1 == s.nat (Key.chanRangeNow n.val) then s3 else s3.bump 32 (Key.chanRangeChanges n.val)
  let s5 := s4.putN (Key.chanRangeNow n.val) next
  s5.serveCore v

/-- A conversion of `sl` that reads `r` makes the one retake at range 0 (R171). -/
def Slot.retakes (sl : Slot) (r : Reading) : Bool := sl.auto && readingClipped r && decide (0 < sl.range) && !sl.retaken

/-- A conversion of the core's slot ends (R159): a clip above range 0 in AUTO makes the one retake at range 0 (R171), a
first conversion is followed by the second, and the last one ends the slot. -/
def State.conversionEnd (s : State) (v : Fin 8) (r : Reading) (t : Nat) : State :=
  match (s.front.converters[v]).slot with
  | none => s
  | some sl =>
    if sl.phase = 0 then s
    else
      let s1 := if readingClipped r then s.bump 32 (Key.convOverranges v.val) else s
      if sl.retakes r then
        let again := { sl with phase := 0, range := 0, retaken := true, first := none, clipSeen := false,
                               openSeen := sl.openSeen || r.circuitOpen, length := sl.length + sl.convUs + 20 }
        (s1.setConverter v (fun k => { k with slot := some again })).bump 32 (Key.chanRetakes sl.chan.val)
      else if sl.phase < sl.convs then
        let second := { sl with phase := 2, first := some (r.code, r.inPhase), openSeen := sl.openSeen || r.circuitOpen,
                                clipSeen := readingClipped r, length := sl.length + sl.convUs }
        s1.setConverter v (fun k => { k with slot := some second })
      else s1.endSlot v { sl with length := sl.length + sl.convUs } r t

/-- CONVERSION_END (R159). -/
def execConversionEnd (v : Fin 8) (r : Reading) (t : Nat) (s : State) : Host.Outcome State Fault Refusal :=
  .next (s.served (fun s => (s.senseAt t).conversionEnd v r t))

/-! ### Blanking sources coming into and going out of effect -/

/-- The due time of a slot that did not complete, with what has fallen due since (R180, R182, R187). -/
def Due.join (d : Due) : Option Due → Due
  | none => d
  | some e => if d.scan && e.scan then { d with missed := e.missed + 1, late := true }
    else { d with scan := d.scan || e.scan, missed := e.missed, late := d.late || e.late }

/-- The last conversion of the core's slot ends at `t`: its CONVERSION_END waits behind the event under way, and no retake follows. -/
def State.endsAt (s : State) (v : Fin 8) (sl : Slot) (t : Nat) : Bool :=
  sl.phase == sl.convs && s.pending.any (fun i => match i with
    | .conversionEnd w r u => w == v && u == t && !sl.retakes r
    | _ => false)

/-- In the gain settling of a retake an abort leaves the next slot at range 0 (R190), or where a change of 0C or 0D puts it (R171), with
the count of low results begun again. -/
def State.abortedRetake (s : State) (n : Fin 64) : State :=
  if (s.front.channels[n]).rangeReset then s
  else
    let s1 := s.setChannel n (fun c => { c with lowCount := 0 })
    if s.nat (Key.chanRangeNow n.val) = 0 then s1 else (s1.bump 32 (Key.chanRangeChanges n.val)).putN (Key.chanRangeNow n.val) 0

/-- A source that comes into effect at `t` aborts the core's slot when its channel selected it (R187), but not in the cycle its last
conversion ends, which counts (R190). A retake aborted in its conversions leaves the next slot at the range the aborted one started at (DEDUCED,
log 193). -/
def State.abortSlot (s : State) (v : Fin 8) (src t : Nat) : State :=
  match (s.front.converters[v]).slot with
  | none => s
  | some sl =>
    if sl.mask.testBit src && !sl.unblanked && !s.endsAt v sl t then
      let n := sl.chan
      let starved := sl.due.scan && ((s.front.channels[n]).due.any (fun d => d.scan))
      let s1 := (s.setConverter v (fun k => { k with slot := none })).setChannel n (fun c =>
        { c.excited t (sl.onTime (t - sl.start)) with due := some { sl.due.join c.due with delayed := true, held := true }, lastBlank := src })
      let s2 := s1.bump 32 (Key.convSlotsAborted v.val)
      let s3 := if sl.retaken && sl.phase == 0 then s2.abortedRetake n else s2
      if starved then s3.starve n else s3
    else s

/-- A slot that would start in the cycle `t` in which a source that its channel selects comes into effect does not start: the channel is
pending as before (R190). -/
def State.unstartSlot (s : State) (v : Fin 8) (src t : Nat) : State :=
  match (s.front.converters[v]).slot with
  | some sl =>
    if sl.start == t && sl.phase == 0 && !sl.retaken && sl.mask.testBit src && !sl.unblanked then
      (s.setConverter v (fun k => { k with slot := none })).setChannel sl.chan (fun c => { c with due := some (sl.due.join c.due) })
    else s
  | none => s

/-- A blanking source comes into effect at `t` (R186, R187, R190): pending channels that select it are delayed, running slots aborted. -/
def State.blankAssert (s : State) (src t : Nat) : State :=
  if s.front.inEffect.testBit src then s
  else
    let s0 := (List.finRange 8).foldl (fun s v => s.unstartSlot v src t) s
    let s1 := { s0 with front := { s0.front with inEffect := setBit s0.front.inEffect src true,
                                                 timedOut := setBit s0.front.timedOut src false } }
    let s2 := (List.finRange 64).foldl (fun s n =>
      if (s.blankMask n.val).testBit src && (s.front.channels[n]).due.isSome then s.markDelayed n src else s) s1
    ((List.finRange 8).foldl (fun s v => s.abortSlot v src (max t s.senseNow)) s2).serveCores

/-- A blanking source goes out of effect (R186). -/
def State.blankRelease (s : State) (src : Nat) : State :=
  ({ s with front := { s.front with inEffect := setBit s.front.inEffect src false,
                                    timedOut := setBit s.front.timedOut src false } }).serveCores

/-- A new interval of a source begins at this tick (R186: each start retry does). -/
def State.blankAgain (s : State) (src : Nat) : State := (s.blankRelease src).blankAssert src s.tickTime

/-- The codes of R185. -/
def blankAct (a : Nat) : Nat := 2 + a
def blankDrive (d : Nat) : Nat := 22 + d

/-- Level `high` of input BLANK0 or BLANK1 is its active one (R186). -/
def State.blankActive (s : State) (i : Fin 2) (high : Bool) : Bool :=
  high != s.flag (if i.val = 0 then Key.inputsBLANK0Polarity else Key.inputsBLANK1Polarity)

/-- Input BLANK0 or BLANK1 is active or not at `t` as its level and its polarity say (R186). -/
def State.blankJudge (s : State) (i : Fin 2) (t : Nat) : State :=
  if s.blankActive i (s.bitOf Key.inputsInputLevels i.val) then s.blankAssert i.val t else s.blankRelease i.val

/-- BLANK_INPUT_CHANGE: input BLANK0 or BLANK1 has held a new level for the filter time (R426). -/
def execBlankInputChange (i : Fin 2) (high : Bool) (t : Nat) (s : State) : Host.Outcome State Fault Refusal :=
  .next (s.served (fun s => ((s.senseAt t).putBit Key.inputsInputLevels i.val high).blankJudge i t))

/-- The channel selects other blanking sources: one in effect delays what is pending; the core looks again (R174, R179). -/
def State.blankSelected (s : State) (n : Fin 64) : State :=
  let s1 := if s.blanked n.val && (s.front.channels[n]).due.isSome then s.markDelayed n (s.blankerOf n.val) else s
  s1.serveCore (coreOfChannel n)

/-- The range mode or the range has changed: the next slot starts there (R171). -/
def State.rangeSelected (s : State) (n : Fin 64) : State :=
  (s.setChannel n (fun c => { c with rangeReset := true, lowCount := 0 })).putN (Key.chanRangeNow n.val) (s.nat (Key.chanRange n.val))

/-- The front end loses its power (R75, R184): slots and reference checks under way end, and are due again; TXSUP goes off (R163); the
next conversion of each core is its first (R158). -/
def State.frontOff (s : State) : State :=
  let s1 := (List.finRange 8).foldl (fun s (v : Fin 8) =>
    let k := s.front.converters[v]
    let s1 := match k.slot with
      | none => s
      | some sl =>
        let t := s.senseNow
        s.setChannel sl.chan (fun c =>
          let c1 := c.excited t (sl.onTime (t - sl.start))
          if sl.discard then c1 else { c1 with due := some (sl.due.join c.due) })
    s1.setConverter v (fun k =>
      { slot := none, lastGain := none, refDue := if k.refRunning then some (k.refDue.getD 0) else k.refDue, refRunning := false })) s
  { s1 with front := { s1.front with ready := false, channels := s1.front.channels.map (fun c => { c with txReady := false }) } }

/-- Input `src` goes out of effect at `t` too: its change of level waits behind the event under way. -/
def State.releasesAt (s : State) (src t : Nat) : Bool :=
  s.pending.any (fun i => match i with
    | .blankInputChange b high u => b.val == src && u == t && !s.blankActive b high
    | _ => false)

/-- BLANK_MAX_DURATION: a source in effect continuously for its maximum stops blanking until it goes out of effect (R188); one that goes
out of effect in the same cycle only does that (R190). -/
def execBlankMaxDuration (src : Fin 38) (t : Nat) (s : State) : Host.Outcome State Fault Refusal :=
  .next (if s.clocksRun && s.front.inEffect.testBit src.val && !s.front.timedOut.testBit src.val && !s.releasesAt src.val t then
      (({ s with front := { s.front with timedOut := setBit s.front.timedOut src.val true } }).log 0x0303 src.val src.val).serveCores
    else s)

/-! ### Power-up, TXSUP, reference checks, statistics -/

/-- FRONT_END_READY: 1.0 ms after power-up of the front end the cores may start slots (R184). -/
def execFrontEndReady (_t : Nat) (s : State) : Host.Outcome State Fault Refusal :=
  .next (if s.clocksRun then ({ s with front := { s.front with ready := true } }).serveCores else s)

/-- TXSUP of the channel's connector is on: enabled with type TX_4_20, front end powered (R163, R184). -/
def State.txsup (s : State) (n : Nat) : Bool := s.nat (Key.chanSensorType n) == 5 && s.flag (Key.chanEnable n) && s.clocksRun

/-- TXSUP_READY: TXSUP of the channel's connector has been on for 100 ms (R163). -/
def execTxsupReady (n : Fin 64) (_t : Nat) (s : State) : Host.Outcome State Fault Refusal :=
  .next (s.served (fun s => if s.txsup n.val then
      (s.setChannel n (fun c => { c with txReady := true })).serveCore (coreOfChannel n)
    else s))

/-- A reference check requested on a core, ordered as an on-demand slot (R192). -/
def State.demandReference (s : State) (v : Fin 8) (t : Nat) : State :=
  (s.setConverter v (fun k => { k with refDue := some (k.refDue.getD t) })).serveCore v

/-- REFERENCE_CHECK: 0x01 written to 0x2480+c:09 (R192). -/
def execReferenceCheck (p : Path) (v : Fin 8) (t : Nat) (s : State) : Host.Outcome State Fault Refusal :=
  .next (s.commanded p (Key.convReferenceCheck v.val) 1 (fun s => s.demandReference v t))

/-- REFERENCE_CHECK_END: the check fails beyond 0.05 % of full scale, 500 ppm, on any range (R191, R192). It counts as no conversion for the
gain settling of R158 (DESIGN CHOICE, log 181). -/
def execReferenceCheckEnd (v : Fin 8) (ppm : Int) (_t : Nat) (s : State) : Host.Outcome State Fault Refusal :=
  .next (if s.clocksRun ∧ (s.front.converters[v]).refRunning then
      let s1 := (s.setConverter v (fun k => { k with refRunning := false })).put (Key.convReferenceError v.val) ppm
      let fail := decide (500 < ppm.natAbs)
      let s2 := s1.putBit (Key.convCoreStatus v.val) 2 fail
      (if fail then s2.log 0x0305 v.val v.val else s2).serveCore v
    else s)

/-- The counters that 0x2480+c:0B clears: 06-08 of the core and 1C-20 of its channels (R194). -/
def coreCounterKeys (v : Nat) : List Nat :=
  [Key.convSlots v, Key.convSlotsAborted v, Key.convOverranges v]
    ++ (List.range 8).flatMap (fun i => let n := 8 * v + i
      [Key.chanResults n, Key.chanRetakes n, Key.chanRangeChanges n, Key.chanBlankDelays n, Key.chanMissedDueTimes n])

/-- CORE_COUNTERS_CLEAR (R194). -/
def execCoreCountersClear (p : Path) (v : Fin 8) (s : State) : Host.Outcome State Fault Refusal :=
  .next (s.commanded p (Key.convClearCounters v.val) 1 (fun s => s.zero (coreCounterKeys v.val)))

end Sys2Proof.Machine
end

