-- ==== Sys2Proof/Machine/Drives.lean ====
section
/-! DEFINITION. Drive channels, Draught tables, current outputs and setpoint inputs (R403-R436). -/

namespace Sys2Proof.Machine

open Sys2Proof

/-! ### Units -/

def State.setDrive (s : State) (d : Fin 16) (f : DriveUnit → DriveUnit) : State :=
  { s with outputs := { s.outputs with drives := s.outputs.drives.set d (f s.outputs.drives[d]) } }

def State.setOutput (s : State) (k : Fin 8) (f : OutputUnit → OutputUnit) : State :=
  { s with outputs := { s.outputs with currents := s.outputs.currents.set k (f s.outputs.currents[k]) } }

/-- The states of R407. -/
abbrev driveOff : Nat := 0
abbrev driveIdle : Nat := 1
abbrev driveStarting : Nat := 2
abbrev driveRetryWait : Nat := 3
abbrev driveRunning : Nat := 4
abbrev driveOpenLoop : Nat := 5
abbrev driveStall : Nat := 6
abbrev driveBlocked : Nat := 7

/-- Ticks since a completed measurement, saturating (R409, R423). -/
def State.ageOf (s : State) (t : Option Nat) : Nat :=
  match t with
  | some t => min 65535 (s.clock.tick - t)
  | none => 65535

/-- Full duty, 100 % or 10.000 V. -/
abbrev fullDuty : Int := 32767

/-! ### Draught tables (R414, R415) -/

/-- The points of a table: thresholds and duties of the used ones. -/
def State.rise (s : State) (d i : Nat) : Word := s.word (Key.draughtRise d i)
def State.fall (s : State) (d i : Nat) : Word := s.word (Key.draughtFall d i)

/-- The structure of a table holds: F_i < R_i for every used point, and neither falls as i rises (R415). -/
def State.tableSound (s : State) (d : Nat) : Bool :=
  let n := s.nat (Key.draughtPointsUsed d)
  (List.range n).all (fun i => flt (s.fall d i) (s.rise d i)
    && (i == 0 || (fle (s.rise d (i - 1)) (s.rise d i) && fle (s.fall d (i - 1)) (s.fall d i))))

/-- A channel is OK or SUSPECT (R214). -/
def State.channelGood (s : State) (n : Nat) : Bool :=
  decide (s.nat (Key.chanState n) ≤ 1)

/-- The table is valid (R415). -/
def State.tableValid (s : State) (d : Nat) : Bool :=
  let c := s.nat (Key.draughtTableChannel d)
  c != 0xFF && s.channelGood c && s.tableSound d

/-- The first loop of R414: climb while T reaches the next rise threshold. -/
def climb (rise : Nat → Word) (t : Word) : Nat → Nat → Nat
  | 0, k => k
  | n + 1, k => if fle (rise k) t then climb rise t n (k + 1) else k

/-- The second loop of R414: fall while T lies under the fall threshold below. -/
def descend (fall : Nat → Word) (t : Word) : Nat → Nat
  | 0 => 0
  | k + 1 => if flt t (fall k) then descend fall t k else k + 1

/-- The level after an evaluation from level `k` (R414). -/
def draughtLevel (rise fall : Nat → Word) (n : Nat) (t : Word) (k : Nat) : Nat :=
  let k0 := min k n
  descend fall t (climb rise t (n - k0) k0)

/-- The duty the table gives (R414); full duty while it is invalid (R415). -/
def State.tableDuty (s : State) (d : Nat) : Int :=
  if s.tableValid d then
    let k := s.nat (Key.draughtLevel d)
    if k = 0 then s.get (Key.draughtBaseDuty d) else s.get (Key.draughtPointDuty d (k - 1))
  else fullDuty

/-- The table status word (R415, R431): VALID, and TABLE_INVALID for a structure that fails. -/
def State.tableStatus (s : State) (d : Nat) : Nat := b2n (s.tableValid d) + 2 * b2n (!s.tableSound d)

/-- Evaluate the table on its channel's value, from level `k` (R414). The level does not move while it is invalid. -/
def State.evalTable (s : State) (d k : Nat) : State :=
  if s.tableValid d then
      s.putN (Key.draughtLevel d) (draughtLevel (s.rise d) (s.fall d) (s.nat (Key.draughtPointsUsed d))
        (s.word (Key.chanValue (s.nat (Key.draughtTableChannel d)))) k)
    else s.putN (Key.draughtLevel d) (min k (s.nat (Key.draughtPointsUsed d)))

/-! ### The command of a drive (R406, R138) -/

/-- The host-lost policies are in force on the outputs (R137, R139, R136). -/
def State.policiesActive (s : State) : Bool := s.dict.policies

/-- The effective policy of a drive: CLASS is TABLE for a fan, ZERO for metering (R138). -/
def State.drivePolicy (s : State) (d : Nat) : Nat :=
  let c := s.nat (Key.policyDrive d)
  if c = 0 then (if s.flag (Key.driveClass d) then 3 else 5) else c

/-- Where a command comes from, for R414 and R416. -/
inductive TableUse where
  | no | bySource | byPolicy | byStall
deriving DecidableEq, Repr

/-- The command chosen by R406; `base` leaves row 2 out, for the decision whether the command leaves 0 (R408). -/
def State.driveCommand (s : State) (d : Fin 16) (base : Bool) : Int × TableUse :=
  let st := s.nat (Key.driveState d)
  if s.nat (Key.driveMode d) = 0 ∨ s.outputsReset then (0, .no)
  else if !base && (st == driveBlocked || st == driveRetryWait) then (0, .no)
  else if s.policiesActive || st == driveStall then
    match s.drivePolicy d with
    | 1 => ((s.outputs.drives[d]).held, .no)
    | 2 => (s.get (Key.driveSafeCommand d), .no)
    | 3 => (0, .no)
    | 4 => (fullDuty, .no)
    | _ => (s.tableDuty d, if s.policiesActive then .byPolicy else .byStall)
  else if s.process = psFault then (s.get (Key.driveSafeCommand d), .no)
  else if st = driveOpenLoop then (s.get (Key.driveLastGoodDuty d), .no)
  else if s.nat (Key.driveCommandSource d) = 1 then (s.tableDuty d, .bySource)
  else if (s.loopsNaming 1 d).isEmpty = false then ((s.outputs.drives[d]).loopOut, .no)
  else (s.get (Key.driveManualCommand d), .no)

/-- Enter a drive state: source 158 + d is raised at every change (R407), a start interval ends on leaving STARTING (R186),
the tach reports clear on return to RUNNING or IDLE (R411), the attempt count in IDLE and OFF (R408). -/
def State.driveEnter (s : State) (d : Fin 16) (st : Nat) : State :=
  if s.nat (Key.driveState d) = st then s
  else
    let s1 := if s.nat (Key.driveState d) = driveStarting ∨ st ≤ driveIdle then s.blankRelease (blankDrive d) else s
    let s2 := if st ≤ driveIdle then (s1.putN (Key.driveStartAttempt d) 0) else s1
    let s3 := if st ≤ driveIdle ∨ st = driveRunning then
        ((s2.putBit (Key.driveStatus d) 5 false).putBit (Key.driveStatus d) 6 false).putBit (Key.driveStatus d) 7 false
      else s2
    (s3.putN (Key.driveState d) st).raiseSource (158 + d)

/-- Start attempt `n`, with a new blanking interval (R408, R186). -/
def State.driveStart (s : State) (d : Fin 16) (n : Nat) : State :=
  ((s.driveEnter d driveStarting).putN (Key.driveStartAttempt d) n).blankAgain (blankDrive d)

/-- A command of 0 leaves the state as it is: in STALL that of the policy, in OPEN_LOOP the last good duty; these hold until a tach pulse
(R406, R410, R411; log 128). A 0 that a row above gives returns the channel to IDLE (R407). -/
def State.zeroHeld (s : State) (d : Fin 16) : Bool :=
  !s.outputsReset && (s.nat (Key.driveState d) == driveStall
    || (s.nat (Key.driveState d) == driveOpenLoop && !s.policiesActive && s.process != psFault))

/-- The state changes that the chosen command brings (R407-R409). -/
def State.driveAdvance (s : State) (d : Fin 16) : State :=
  let noTach := s.nat (Key.drivePulsesPerRevolution d) == 0
  if s.nat (Key.driveMode d) = 0 then s.driveEnter d driveOff
  else
    let s0 := if s.nat (Key.driveState d) = driveOff then s.driveEnter d driveIdle else s
    let st := s0.nat (Key.driveState d)
    let go := decide (0 < (s0.driveCommand d true).1)
    if st = driveIdle then
      (if go then (if noTach then (s0.driveEnter d driveRunning).blankAgain (blankDrive d) else s0.driveStart d 1) else s0)
    else if st = driveBlocked then s0
    else if !go then (if s0.zeroHeld d then s0 else s0.driveEnter d driveIdle)
    else if noTach && (st == driveStarting || st == driveRetryWait || st == driveOpenLoop) then s0.driveEnter d driveRunning
    else s0

/-- The policy a drive is under, and the command its HOLD keeps (R138): the command applied when HOLD begins. -/
def State.driveHold (s : State) (d : Fin 16) : State :=
  let now := if s.policiesActive || s.nat (Key.driveState d) == driveStall then some (s.drivePolicy d) else none
  s.setDrive d (fun u => { u with policy := now,
                                   held := if now = some 1 ∧ u.policy ≠ some 1 then s.get (Key.driveCommandApplied d) else u.held })

/-- DRIVE cycles of a PWM period at `f` kHz, and of its on-time for a command `q` of 0 to 0x7FFF: 0x7FFF is applied as the whole period
(R404). -/
def pwmPeriod (f : Nat) : Nat := 150000 / f
def pwmOnTime (q period : Nat) : Nat := if q = 0x7FFF then period else (q * period + 16384) / 2 ^ 15

/-- The code of a VOLTAGE output for a command `q` (R405). -/
def voltageCode (q : Nat) : Nat := (q * 4095 + 16384) / 2 ^ 15

/-- What the command pin drives for a command (R403-R405); a negative command is applied as 0 (R230). -/
def State.drivePin (s : State) (d : Fin 16) (q : Int) : DrivePin :=
  match s.nat (Key.driveMode d) with
  | 0 => .released
  | 1 =>
    let period := pwmPeriod (s.nat (Key.drivePWMFrequency d))
    .pwm period (pwmOnTime q.toNat period) (!s.flag (Key.drivePWMPolarity d))
  | _ => .volts (voltageCode q.toNat)

/-- The table comes into use, at level 0, or leaves it (R414, R416). -/
def State.tableUse (s : State) (d : Fin 16) : State :=
  let use := (s.driveCommand d false).2
  let entering := use != .no && !(s.outputs.drives[d]).inTable
  let s1 := s.setDrive d (fun u => { u with inTable := use != .no })
  let s2 := if entering then s1.evalTable d 0 else s1
  if entering && use == .byPolicy then s2.log 0x0704 d d (s2.nat (Key.draughtLevel d)) else s2

/-- The DRIVE cycle of a channel (R406): the table's use and the state that its command brings, each again where the state has changed
what applies; then the command. A negative command is applied as 0 (R404). -/
def State.serveDrive (s : State) (d : Fin 16) : State :=
  let s4 := (((((s.driveHold d).tableUse d).driveAdvance d).tableUse d).driveAdvance d).tableUse d
  let q := max 0 (s4.driveCommand d false).1
  let q1 := if s4.nat (Key.driveState d) = driveStarting then max q (s4.get (Key.driveStartDuty d)) else q
  (s4.put (Key.driveCommandApplied d) q1).setDrive d (fun u => { u with pin := s4.drivePin d q1 })

/-- Every drive's cycle. -/
def State.serveDrives (s : State) : State := (List.finRange 16).foldl (fun s d => s.serveDrive d) s

/-- RUNNING feedback asserted (R410, R424). -/
def State.runningFb (s : State) (d : Nat) : Bool :=
  let p := s.nat (Key.driveRUNNINGInput d)
  p != 0xFF && (s.flag (Key.pulseLevel p) != s.flag (Key.driveRUNNINGPolarity d))

/-- The drive status word (R430): the latched bits, and those that follow from the state. -/
def State.driveStatusWord (s : State) (d : Fin 16) : Nat :=
  let u := s.outputs.drives[d]
  let tach := s.nat (Key.drivePulsesPerRevolution d) != 0
  b2n (s.nat (Key.driveMode d) != 0) + 2 * b2n (tach && decide (s.ageOf u.tachTick < 65535)) + 4 * b2n (s.runningFb d)
    + 8 * b2n (s.policiesActive) + 16 * b2n u.inTable + 32 * b2n (s.bitOf (Key.driveStatus d) 5)
    + 64 * b2n (s.bitOf (Key.driveStatus d) 6) + 128 * b2n (s.bitOf (Key.driveStatus d) 7)
    + 256 * b2n (s.bitOf (Key.driveStatus d) 8) + 512 * b2n s.p2Lost

/-- The tach age of a drive (R409). -/
def State.tachAge (s : State) (d : Fin 16) : Nat :=
  if s.nat (Key.drivePulsesPerRevolution d) = 0 then 65535 else s.ageOf (s.outputs.drives[d]).tachTick

/-- Magnitude at most: |x| <= limit, for the last good duty (R410). -/
def State.loopQuiet (s : State) (l : Nat) : Bool :=
  s.nat (Key.loopCondition l) == 0 && decide ((s.get (Key.loopError l)).natAbs ≤ s.nat (Key.loopFELimit l))

/-- A completed period measurement: the tach age, and the last good duty when the loop naming the drive is NORMAL with
|e| at most its FE limit, or no loop names it (R409, R410). -/
def State.tachMeasured (s : State) (d : Fin 16) : State :=
  let s1 := s.setDrive d (fun u => { u with tachTick := some s.clock.tick })
  let ls := s.loopsNaming 1 d
  if ls.isEmpty || ls.any (fun l => s.loopQuiet l) then
    s1.put (Key.driveLastGoodDuty d) (s.get (Key.driveCommandApplied d))
  else s1

/-- A drive in IDLE is served in every cycle: after a fault reset a command that is not 0 starts attempt 1 (R408, R427). -/
def State.idleDrive (s : State) (d : Fin 16) : State := if s.nat (Key.driveState d) = driveIdle then s.serveDrive d else s

/-- At every tick a stopped or starting drive with a tach publishes speed 0 as a completed measurement (R409). -/
def State.tachTick (s : State) (d : Fin 16) : State :=
  let st := s.nat (Key.driveState d)
  if s.nat (Key.drivePulsesPerRevolution d) != 0
      && (st == driveIdle || st == driveStarting || st == driveRetryWait || st == driveBlocked) then
    (s.zero [Key.driveSpeed d, Key.driveSpeedQ15 d, Key.driveTachFrequency d]).tachMeasured d
  else s

/-- Speed, its Q15 value and the tach frequency from a period in DRIVE cycles of 1/150,000,000 s (R409). -/
def State.tachSpeed (s : State) (d : Fin 16) (period : Nat) : State :=
  let ppr := s.nat (Key.drivePulsesPerRevolution d)
  let fs := ratioOf (s.word (Key.driveSpeedFullScale d))
  let num : Nat := 60 * 150000000
  let den : Nat := period * ppr
  let q := s.sat15Of (32768 * Int.ofNat num * Int.ofNat fs.2) (den * fs.1.toNat)
  ((q.2.putW (Key.driveSpeed d) (fofRatio num den)).put (Key.driveSpeedQ15 d) q.1).putW (Key.driveTachFrequency d)
    (fofRatio 150000000 period)

/-- TACH_PULSE: an edge, with the period since the one before in DRIVE cycles where there was one. In STARTING, OPEN_LOOP or
STALL the channel enters RUNNING (R408, R411); a completed period is measured (R409). -/
def execTachPulse (d : Fin 16) (period : Option Nat) (s : State) : Host.Outcome State Fault Refusal :=
  .next (s.served (fun s =>
    let st := s.nat (Key.driveState d)
    if s.nat (Key.driveMode d) = 0 ∨ s.nat (Key.drivePulsesPerRevolution d) = 0 then s
      else
        let s1 := if st = driveStarting ∨ st = driveOpenLoop ∨ st = driveStall then s.driveEnter d driveRunning else s
        let s2 := match period with
          | some c => if 0 < c ∧ s1.nat (Key.driveState d) = driveRunning then (s1.tachSpeed d c).tachMeasured d else s1
          | none => s1
        s2.serveDrive d))

/-- START_TIMEOUT: no pulse within the start timeout (R408): RETRY_WAIT, or BLOCKED after the last retry. Without a tach only
the blanking interval ends (R186). Suspended while P2 is lost (R413). -/
def execStartTimeout (d : Fin 16) (s : State) : Host.Outcome State Fault Refusal :=
  .next (s.served (fun s => if s.nat (Key.drivePulsesPerRevolution d) = 0 then s.blankRelease (blankDrive d)
    else if s.nat (Key.driveState d) = driveStarting ∧ s.p2Lost = false then
      let s1 := if s.nat (Key.driveStartAttempt d) ≤ s.nat (Key.driveStartRetries d) then s.driveEnter d driveRetryWait
        else
          let s1 := (s.driveEnter d driveBlocked).bump 32 (Key.driveBLOCKEDEntries d)
          s1.log 0x0701 d d
      s1.serveDrive d
    else s))

/-- RETRY_BACKOFF_END: the next attempt starts (R408); suspended while P2 is lost (R413). -/
def execRetryBackoffEnd (d : Fin 16) (s : State) : Host.Outcome State Fault Refusal :=
  .next (s.served (fun s => if s.nat (Key.driveState d) = driveRetryWait ∧ s.p2Lost = false then
      (s.driveStart d (s.nat (Key.driveStartAttempt d) + 1)).serveDrive d
    else s))

/-- TACH_LOSS: no pulse for the tach loss time while RUNNING with a command (R410); suspended while P2 is lost (R413). -/
def execTachLoss (d : Fin 16) (s : State) : Host.Outcome State Fault Refusal :=
  .next (s.served (fun s => if s.nat (Key.driveState d) = driveRunning ∧ s.nat (Key.drivePulsesPerRevolution d) ≠ 0
      ∧ 0 < s.get (Key.driveCommandApplied d) ∧ s.p2Lost = false then
      let none_ := s.nat (Key.driveRUNNINGInput d) == 0xFF
      let report := if none_ then 0 else if s.runningFb d then 1 else 2
      let s1 := (s.driveEnter d (if report = 2 then driveStall else driveOpenLoop)).bump 32 (Key.driveTachLosses d)
      let s2 := s1.putBit (Key.driveStatus d) (5 + report) true
      (s2.log 0x0702 d d report).serveDrive d
    else s))

/-- The effect of 0x01 at 0x2900+d:11: BLOCKED returns to IDLE, and the sensor supply is on again (R408, R412). The command
is served in the next DRIVE cycle (R427; `State.idleDrive`). -/
def State.driveFaultReset (s : State) (d : Fin 16) : State :=
  let s1 := s.putBit (Key.driveStatus d) 8 false
  if s.nat (Key.driveState d) = driveBlocked then (s1.driveEnter d driveIdle).put (Key.driveCommandApplied d) 0 else s1

/-- DRIVE_FAULT_RESET (R408, R412). -/
def execDriveFaultReset (p : Path) (d : Fin 16) (s : State) : Host.Outcome State Fault Refusal :=
  .next (s.commanded p (Key.driveFaultReset d) 1 (fun s => s.driveFaultReset d))

/-- The +24 V sensor supply of drive `d`, pin 3 or 7 of F01-F08, is on: not in BANKED or EMBER, nor while P2 is lost, nor once it has
tripped (R42, R69, R412). DESIGN CHOICE (log 178): off as well while the module is held in reset or hot, of which R42 says nothing. -/
def State.sensorSupplyOn (s : State) (d : Fin 16) : Bool := s.clocksRun && !s.p2Lost && !s.bitOf (Key.driveStatus d) 8

/-- SENSOR_SUPPLY_OVERCURRENT: more than 150 mA for 1 ms switches the pin off until a fault reset (R42, R412). -/
def execSensorSupplyOvercurrent (d : Fin 16) (mA : Nat) (s : State) : Host.Outcome State Fault Refusal :=
  .next (s.served (fun s => if 150 < mA ∧ s.sensorSupplyOn d then
      ((s.putBit (Key.driveStatus d) 8 true).putN (Key.driveSensorSupplyCurrent d) 0).log 0x0706 d d
    else s))

/-- The effect of 0x01 at 0x2900+d:2C (R429). -/
def State.driveStatsClear (s : State) (d : Fin 16) : State := s.zero [Key.driveBLOCKEDEntries d, Key.driveTachLosses d]

/-- DRIVE_STATISTICS_CLEAR (R429). -/
def execDriveStatisticsClear (p : Path) (d : Fin 16) (s : State) : Host.Outcome State Fault Refusal :=
  .next (s.commanded p (Key.driveClearStatistics d) 1 (fun s => s.driveStatsClear d))

/-! ### Current outputs (R417-R421) -/

/-- Currents in mA as binary32 words. -/
abbrev mA1 : Word := 0x3F800000
abbrev mA35 : Word := 0x40600000
abbrev mA38 : Word := 0x40733333
abbrev mA4 : Word := 0x40800000
abbrev mA16 : Word := 0x41800000
abbrev mA20 : Word := 0x41A00000
abbrev mA205 : Word := 0x41A40000
abbrev mA215 : Word := 0x41AC0000
abbrev mAHalf : Word := 0x3F000000

/-- The failure level and the safe value (R420). -/
def State.failureLevel (s : State) (k : Nat) : Word := if s.flag (Key.coutFailureLevel k) then mA215 else mA35
def State.outputSafe (s : State) (k : Nat) : Word :=
  if s.flag (Key.coutSafeValueMode k) then s.word (Key.coutSafeFixedValue k) else s.failureLevel k

/-- The effective policy of a current output: CLASS is SAFE (R138). -/
def State.outputPolicy (s : State) (k : Nat) : Nat :=
  let c := s.nat (Key.policyCurrentOutput k)
  if c = 0 then 2 else c

/-- 4 + 16 * (y - lo) / (hi - lo) in binary32 (R418, log 35). -/
def spanCurrent (y lo hi : Word) : Word := fadd mA4 (fdiv (fmul mA16 (fsub y lo)) (fsub hi lo))

/-- 4 + 16 * u / 32,768, a negative output as 0 (R418). -/
def loopCurrent (u : Int) : Word := fofRatio (4 * 32768 + 16 * max 0 u) 32768

/-- The Kelsis quantity of a source number (R418). -/
def kelsisKey (num : Nat) : Nat :=
  let c := field num 5 4
  match num % 16 with
  | 0 => Key.colOutletMoisture c
  | 1 => Key.colOutletMoistureSigma c
  | 2 => Key.colOutletGrainTemperature c
  | 3 => Key.colMaximumGrainTemperature c
  | _ => Key.colHeatPerKgWater c

/-- A column is healthy: its reasons word is 0 (R323). -/
def State.columnHealthy (s : State) (c : Nat) : Bool := s.nat (Key.colHealthReasons c) == 0

/-- Row 5 of R419: the source has failed. -/
def State.outputSourceFailed (s : State) (k : Nat) : Bool :=
  let num := s.nat (Key.coutSourceNumber k)
  match s.nat (Key.coutSourceType k) with
  | 1 => !s.channelGood num
  | 3 => !s.columnHealthy (field num 5 4)
  | _ => false

/-- The output that loop `num` writes at its output phase: where a loop writes to this output, the value it wrote last (R230, R418). -/
def State.outputLoop (s : State) (k : Fin 8) (num : Nat) : Int :=
  if (s.loopsNaming 2 k).isEmpty then (if h : num < 64 then (s.bellows.loops[num]).out else 0) else (s.outputs.currents[k]).loopOut

/-- The source's target before the clamp (R418). -/
def State.outputSource (s : State) (k : Fin 8) : Word :=
  let num := s.nat (Key.coutSourceNumber k)
  let span := fun y => spanCurrent y (s.word (Key.coutSpanLow k)) (s.word (Key.coutSpanHigh k))
  match s.nat (Key.coutSourceType k) with
  | 0 => s.word (Key.coutManualValue k)
  | 1 => span (s.word (Key.chanValue num))
  | 2 => loopCurrent (s.outputLoop k num)
  | _ => span (s.word (kelsisKey num))

/-- The clamp of a computed target (R418); the manual value is no computed target (log 36). -/
def clampCurrent (x : Word) : Word := if flt x mA38 then mA38 else if flt mA205 x then mA205 else x

/-- The row of R419 in force, as 0x2920+k:20, and its target. -/
def State.outputTarget (s : State) (k : Fin 8) : Nat × Word :=
  if s.nat (Key.coutMode k) = 0 ∨ s.outputsReset then (0, 0)
  else if s.flag (Key.coutClass k) && !s.heatPermit then (5, s.outputSafe k)
  else if s.policiesActive then
    (4, match s.outputPolicy k with
      | 1 => (s.outputs.currents[k]).held
      | 3 => mA4
      | 4 => mA20
      | _ => s.outputSafe k)
  else if s.process = psFault then (3, s.outputSafe k)
  else if s.outputSourceFailed k then (2, s.failureLevel k)
  else
    let x := s.outputSource k
    (1, if s.nat (Key.coutSourceType k) = 0 then x else clampCurrent x)

/-- What an output's pins carry for its target (R417). -/
def State.loopPin (s : State) (k : Nat) (target : Word) : LoopPin :=
  match s.nat (Key.coutMode k) with
  | 0 => .off
  | 1 => .sources (Config.currentCode target)
  | _ => .regulates (Config.currentCode target)

/-- The readback lies within 0.5 mA of the target (R421). -/
def State.outputNear (s : State) (k : Nat) : Bool :=
  fle (fabs (fsub (s.word (Key.coutReadback k)) (s.word (Key.coutTarget k)))) mAHalf

/-- OPEN_LOOP and DEVIATION clear once the readback is within 0.5 mA (R421). -/
def State.outputCleared (s : State) (k : Nat) : State :=
  if s.outputNear k then (s.putBit (Key.coutStatus k) 1 false).putBit (Key.coutStatus k) 2 false else s

/-- An update of a current output (R419): its row, target and status bits; the fault bits clear within 0.5 mA (R421). -/
def State.serveOutput (s : State) (k : Fin 8) : State :=
  let now := if s.policiesActive then some (s.outputPolicy k) else none
  let s0 := s.setOutput k (fun u => { u with policy := now,
                                              held := if now = some 1 ∧ u.policy ≠ some 1 then s.word (Key.coutTarget k) else u.held })
  let r := s0.outputTarget k
  let clamped := r.1 == 1 && s0.nat (Key.coutSourceType k) != 0 && s0.outputSource k != r.2
  let s1 := if r.1 = 5 ∧ s0.nat (Key.coutState k) ≠ 5 then s0.bump 32 (Key.coutPermitForcings k) else s0
  let s2 := (s1.putN (Key.coutState k) r.1).putW (Key.coutTarget k) r.2
  let s3 := (s2.putBit (Key.coutStatus k) 6 clamped).setOutput k (fun u => { u with pin := s2.loopPin k r.2 })
  s3.outputCleared k

/-- Every current output's update. -/
def State.serveOutputs (s : State) : State := (List.finRange 8).foldl (fun s k => s.serveOutput k) s

/-- The outputs that take column `c` of Kelsis, at a change of its health or its outputs (R418, R419). -/
def State.serveColumnOutputs (s : State) (c : Nat) : State := (List.finRange 8).foldl (fun s (k : Fin 8) =>
    if s.nat (Key.coutSourceType k) = 3 ∧ field (s.nat (Key.coutSourceNumber k)) 5 4 = c then s.serveOutput k else s) s

/-- The outputs that take loop `l`, at its output phase (R418). -/
def State.serveLoopOutputs (s : State) (l : Nat) : State := (List.finRange 8).foldl (fun s (k : Fin 8) =>
    if s.nat (Key.coutSourceType k) = 2 ∧ s.nat (Key.coutSourceNumber k) = l then s.serveOutput k else s) s

/-- The current output status word (R433). -/
def State.outputStatusWord (s : State) (k : Nat) : Nat :=
  let st := s.nat (Key.coutState k)
  b2n (s.nat (Key.coutMode k) != 0) + 2 * b2n (s.bitOf (Key.coutStatus k) 1) + 4 * b2n (s.bitOf (Key.coutStatus k) 2)
    + 8 * b2n (st == 5) + 16 * b2n (st == 4) + 32 * b2n (st == 2) + 64 * b2n (s.bitOf (Key.coutStatus k) 6)

/-- CURRENT_OUTPUT_LOOP_FAULT: the readback `mA` has lain more than 0.5 mA from a target of 3.5 mA or more for 100 ms (R421). -/
def execCurrentOutputLoopFault (k : Fin 8) (mA : Word) (s : State) : Host.Outcome State Fault Refusal :=
  .next (s.served (fun s =>
    let s1 := s.putW (Key.coutReadback k) mA
    let present := s.bitOf (Key.coutStatus k) 1 || s.bitOf (Key.coutStatus k) 2
    if s1.outputNear k || flt (s1.word (Key.coutTarget k)) mA35 || present then s
      else
        let low := flt mA mA1
        let s2 := (s1.putBit (Key.coutStatus k) (if low then 1 else 2) true).bump 32 (Key.coutLoopFaults k)
        (s2.log 0x0705 k k (b2n (!low))).raiseSource (174 + k)))

/-- The effect of 0x01 at 0x2920+k:26 (R432). -/
def State.outputStatsClear (s : State) (k : Fin 8) : State := s.zero [Key.coutLoopFaults k, Key.coutPermitForcings k]

/-- CURRENT_OUTPUT_STATISTICS_CLEAR (R432). -/
def execCurrentOutputStatisticsClear (p : Path) (k : Fin 8) (s : State) : Host.Outcome State Fault Refusal :=
  .next (s.commanded p (Key.coutClearStatistics k) 1 (fun s => s.outputStatsClear k))

/-! ### Setpoint inputs (R425) -/

/-- The ends of an input's own span: 0-10 V or 4-20 mA. -/
def setpEnds (mode : Nat) : Word × Word := if mode = 2 then (mA4, mA20) else (0, 0x41200000)

/-- A CURRENT reading outside 3.6-21.0 mA (R425). -/
def setpOutside (raw : Word) : Bool := flt raw 0x40666666 || flt 0x41A80000 raw

/-- Publish a reading: the raw value, its Q15 value sat15(32,768 * (x - x0) / (x1 - x0)), and the fraction mapped onto the
span of the object (R425). -/
def State.setpPublish (s : State) (i : Nat) (raw : Word) : State :=
  let mode := s.nat (Key.setpMode i)
  let e := setpEnds mode
  let x := ratioOf raw
  let q := if mode = 2 then s.sat15Of (32768 * (x.1 - 4 * Int.ofNat x.2)) (16 * x.2) else s.sat15Of (32768 * x.1) (10 * x.2)
  let lo := s.word (Key.setpSpanLow i)
  let frac := fdiv (fsub raw e.1) (fsub e.2 e.1)
  (q.2.put (Key.setpValueQ15 i) q.1).putW (Key.setpValue i)
    (fadd lo (fmul frac (fsub (s.word (Key.setpSpanHigh i)) lo)))

/-- SETPOINT_INPUT_UPDATE: a 1 ms average ends (R425). In CURRENT a reading outside 3.6-21.0 mA leaves the last good value;
one inside ends the fault. -/
def execSetpointInputUpdate (i : Fin 2) (raw : Word) (s : State) : Host.Outcome State Fault Refusal :=
  .next (s.served (fun s =>
    let mode := s.nat (Key.setpMode i)
    let s1 := s.putW (Key.setpRawValue i) raw
    if mode = 0 then s
      else if mode = 2 ∧ setpOutside raw then s1
      else (s1.putB (Key.setpFault i) false).setpPublish i raw))

/-- SETPOINT_INPUT_FAULT: a CURRENT reading outside 3.6-21.0 mA for 10 ms (R425). -/
def execSetpointInputFault (i : Fin 2) (s : State) : Host.Outcome State Fault Refusal :=
  .next (s.served (fun s => if s.nat (Key.setpMode i) = 2 ∧ setpOutside (s.word (Key.setpRawValue i)) ∧ s.flag (Key.setpFault i) = false then
      (s.putB (Key.setpFault i) true).log 0x0707 i i
    else s))

end Sys2Proof.Machine
end

