-- ==== Sys2Proof/Machine/Publish.lean ====
section
/-! DEFINITION. Linearisation, Q15 values, channel states and publication (R196-R219). -/

namespace Sys2Proof.Machine

open Sys2Proof

/-! ### Constants in binary32 -/

abbrev f1 : Word := 0x3F800000
abbrev f2 : Word := 0x40000000
abbrev f2p5 : Word := 0x40200000
abbrev f4 : Word := 0x40800000
abbrev f50 : Word := 0x42480000
abbrev f100 : Word := 0x42C80000
abbrev f300 : Word := 0x43960000
abbrev f1000 : Word := 0x447A0000
abbrev f27315 : Word := 0x43889333

/-! ### The input quantity (R197) -/

/-- k: the full scale of the range tag divided by 8,388,608, exact in binary32. -/
def rangeK (tag : Nat) : Word := BitVec.ofNat 32 ((105 - 2 * tag) * 2 ^ 23 + 0x200000)

/-- The code of a raw word (R174). -/
def rawCode (w : Word) : Int := signedOf 24 (w.toNat / 256)

/-- V of R176 in binary32. -/
def rawVolts (w : Word) : Word := fmul (fofInt (rawCode w)) (rangeK (field w.toNat 7 5))

/-- The set excitation currents of R160 in µA, by code. -/
abbrev setCurrents : List Nat := [10, 50, 100, 250, 500, 1000]

/-- I of R197 in A: the set current corrected by the channel's factory calibration (log 14). -/
def excitationCurrent (n code : Nat) (swap : Bool) : Word :=
  fmul (fofRatio (Int.ofNat (setCurrents.getD code 0)) 1000000) (Config.excitationFactor n code swap)

/-- u from the raw words, for the frozen values `f` of channel `n`. -/
def inputQuantity (f : View) (n : Nat) (r : RawResult) : Word :=
  match f.nat (Key.chanSensorType n) with
  | 1 => fdiv (rawVolts r.primary)
      (excitationCurrent n (f.nat (Key.chanExcitationCurrent n)) (f.nat (Key.chanLeadMode n) == 1))
  | 2 => fdiv (rawVolts r.primary) (excitationCurrent n (f.nat (Key.chanExcitationCurrent n)) false)
  | 3 => fdiv (fmul f1000 (rawVolts r.primary)) f2p5
  | 5 => fdiv (fmul f1000 (rawVolts r.primary)) f50
  | 6 =>
    let a := fdiv (fofNat (f.nat (Key.chanIMPDriveAmplitude n))) f1000
    match f.nat (Key.coefIMPInputWord n) with
    | 0 => fdiv (rawVolts r.primary) a
    | 1 => fdiv (rawVolts r.secondary) a
    | _ => fofRatio (rawCode r.ratio) 1048576
  | _ => rawVolts r.primary

/-! ### The forms (R198-R201); none is a linearisation error -/

/-- A result that is a NaN or an infinity is an error (R201). -/
def finiteOr (y : Word) : Option Word := if fisFinite y then some y else none

/-- One Newton step of R199. -/
def cvdStep (r0 a b c x t : Word) : Word :=
  let k3 := fmul (fneg f100) c
  let k3d := fmul (fneg f300) c
  let k4 := fmul f4 c
  let k2d := fmul f2 b
  let g := ffma (ffma (ffma (ffma c t k3) t b) t a) t f1
  let f := ffma r0 g (fneg x)
  let gd := ffma (ffma (ffma k4 t k3d) t k2d) t a
  let rd := fdiv f1 (fmul r0 gd)
  ffma (fneg f) rd t

/-- Callendar-Van Dusen, inverted (R199). -/
def cvd (r0 a b c x : Word) : Option Word :=
  if fle r0 0 || feq b 0 then none
  else
    let r := fsub f1 (fdiv x r0)
    let dsc := fsub (fmul a a) (fmul (fmul f4 b) r)
    if flt dsc 0 then none
    else
      let t := fdiv (fsub (fsqrt dsc) a) (fmul f2 b)
      let step := cvdStep r0 a b c x
      finiteOr (if flt x r0 then step (step (step t)) else t)

/-- Steinhart-Hart (R201). -/
def steinhart (a b c x : Word) : Option Word :=
  if fle x 0 then none
  else
    let l := fln x
    let t := fdiv f1 (ffma c (fmul (fmul l l) l) (ffma b l a))
    if fle t 0 || !fisFinite t then none else finiteOr (fsub t f27315)

/-- Two segments (R201). -/
def twoSegment (xb yb m1 m2 x : Word) : Option Word :=
  finiteOr (ffma (if flt x xb then m1 else m2) (fsub x xb) yb)

/-- The Horner evaluation of R200, `c i j` the coefficients. -/
def poly2d (c : Nat → Nat → Word) (x t : Word) : Option Word :=
  let p := fun i => ffma (ffma (ffma (c i 3) t (c i 2)) t (c i 1)) t (c i 0)
  finiteOr (ffma (ffma (ffma (ffma (p 4) x (p 3)) x (p 2)) x (p 1)) x (p 0))

/-- The engineering value of u with companion value t (R198). -/
def linearise (f : View) (n : Nat) (u t : Word) : Option Word :=
  let x := fmul (fsub u (f.f32 (Key.coefOffset n))) (f.f32 (Key.coefScale n))
  let c := fun i j => f.f32 (Key.coefCoefficient n (4 * i + j))
  match f.nat (Key.coefForm n) with
  | 0 => finiteOr x
  | 1 => cvd (c 0 0) (c 0 1) (c 0 2) (c 0 3) x
  | 2 => steinhart (c 0 0) (c 0 1) (c 0 2) x
  | 3 => twoSegment (c 0 0) (c 0 1) (c 0 2) (c 0 3) x
  | _ => poly2d c x t

/-- The engineering value of channel `m` as last published before the SENSE cycle `t`, and whether it was neither BROKEN nor DISABLED: a
publication of that cycle is seen by the next result only (R202, R215). -/
def State.publishedBefore (s : State) (m t : Nat) : Word × Bool :=
  match s.front.channels.toList[m]? with
  | some c => if c.published = some t then c.prior else (s.word (Key.chanValue m), s.channelGood m)
  | none => (0, false)

/-- The companion value and whether the fallback is used (R202). -/
def State.companion (s : State) (f : View) (n t : Nat) : Word × Bool :=
  let m := f.nat (Key.chanCompanionChannel n)
  if m = 0xFF then (0, false)
  else
    let c := s.publishedBefore m t
    if c.2 then (c.1, false) else (f.f32 (Key.coefCompanionFallback n), true)

/-! ### Q15 value and saturation (R203) -/

/-- The unrounded q in binary64. -/
def q15Unrounded (y lo hi : Word) : Nat :=
  let lo' := f32to64 lo
  fmt64.mul (fmt64.div (fmt64.sub (f32to64 y) lo') (fmt64.sub (f32to64 hi) lo')) (fmt64.round false 32768 0 false)

/-- Its magnitude lies beyond 32,768. -/
def q15Beyond (y lo hi : Word) : Bool :=
  match fmt64.decode (q15Unrounded y lo hi) with
  | .fin _ m e => if 0 ≤ e then decide (32768 < m * 2 ^ e.toNat) else decide (32768 * 2 ^ (-e).toNat < m)
  | .inf _ => true
  | .nan => false

/-! ### Evidence (R207) -/

/-- The bits of R219. -/
abbrev reasonOpen : Nat := 0
abbrev reasonClipped : Nat := 1
abbrev reasonSenseLead : Nat := 2
abbrev reasonLinError : Nat := 3
abbrev reasonNe43 : Nat := 4
abbrev reasonAbove : Nat := 5
abbrev reasonBelow : Nat := 6
abbrev reasonRate : Nat := 7
abbrev reasonCompanion : Nat := 8
abbrev reasonSaturated : Nat := 9
abbrev reasonNoResult : Nat := 10

/-- |y - last| over the time between the conversion ends exceeds the limit, in exact arithmetic. -/
def rateExceeded (y last limit : Word) (us : Nat) : Bool :=
  let a := ratioOf y
  let b := ratioOf last
  let l := ratioOf limit
  let diff := (a.1 * Int.ofNat b.2 - b.1 * Int.ofNat a.2).natAbs
  decide (l.1 * Int.ofNat (us * (a.2 * b.2)) < Int.ofNat (diff * 1000000 * l.2))

/-- The hard reasons of a result. -/
def hardReasons (f : View) (n : Nat) (r : RawResult) (u : Word) (y : Option Word) : Nat :=
  let fl := r.primary.toNat % 256
  let ne43 := f.nat (Key.chanSensorType n) == 5 && (flt u 0x40666666 || flt 0x41A80000 u)
  b2n (fl.testBit 2) + 2 * b2n (fl.testBit 0) + 4 * b2n r.leadFail + 8 * b2n y.isNone + 16 * b2n ne43

/-- The soft reasons of a result without hard evidence. -/
def State.softReasons (s : State) (f : View) (n : Fin 64) (r : RawResult) (y : Word) (fallback : Bool) : Nat :=
  let c := s.front.channels[n]
  let limit := f.f32 (Key.coefRateLimit n)
  let rate := !feq limit 0 && c.measured
    && rateExceeded y (s.word (Key.chanLastMeasuredValue n)) limit (r.endTime - c.lastTime)
  32 * b2n (flt (f.f32 (Key.coefPlausibleHigh n)) y) + 64 * b2n (flt y (f.f32 (Key.coefPlausibleLow n)))
    + 128 * b2n rate + 256 * b2n fallback

/-! ### The channel state (R208-R210) -/

/-- What R208 makes of a result: the new state, the value published, and the counters. -/
inductive Published where
  | measured | held | substitute
deriving DecidableEq, Repr

structure Judged where
  state : Nat
  value : Published
  hard  : Nat
  clean : Nat
deriving DecidableEq, Repr

/-- The states of 0x2400+n:33. -/
abbrev chanOk : Nat := 0
abbrev chanSuspect : Nat := 1
abbrev chanBroken : Nat := 2
abbrev chanDisabled : Nat := 3

/-- The table of R208: state and counters before, confirmation and recovery counts, and the class of the result. -/
def judgeResult (st hard clean k nr : Nat) (isHard isSoft : Bool) : Judged :=
  if st = chanBroken then
    (if isHard || isSoft then ⟨chanBroken, .substitute, hard, 0⟩
     else if clean + 1 < nr then ⟨chanBroken, .substitute, hard, clean + 1⟩
     else ⟨chanOk, .measured, hard, 0⟩)
  else if isHard then
    (if hard + 1 < k then ⟨chanSuspect, .held, hard + 1, clean⟩ else ⟨chanBroken, .substitute, 0, clean⟩)
  else if isSoft then ⟨chanSuspect, .measured, 0, clean⟩
  else ⟨chanOk, .measured, 0, clean⟩

/-- The substitute value (R210). -/
def State.substitute (s : State) (f : View) (n : Fin 64) : Word :=
  if f.nat (Key.coefSubstituteMode n) = 0 ∧ (s.front.channels[n]).measured then s.word (Key.chanLastMeasuredValue n)
  else f.f32 (Key.coefSubstituteValue n)

/-- A channel state with its event source, raised at every change (R466). -/
def State.setChanState (s : State) (n st : Nat) : State :=
  if s.nat (Key.chanState n) = st then s else (s.putN (Key.chanState n) st).raiseSource n

/-- Record a measured value: last measured value, extremes, age stamp (R204, R209, R218). -/
def State.noteMeasured (s : State) (n : Fin 64) (r : RawResult) (y : Word) : State :=
  let fresh := !(s.front.channels[n]).extremes
  let s1 := s.setChannel n (fun c => { c with lastTick := some r.endTick, lastTime := r.endTime, measured := true, extremes := true })
  let s2 := s1.putW (Key.chanLastMeasuredValue n) y
  let s3 := s2.putW (Key.chanMinimum n) (if fresh then y else fmin (s.word (Key.chanMinimum n)) y)
  s3.putW (Key.chanMaximum n) (if fresh then y else fmax (s.word (Key.chanMaximum n)) y)

/-- The users of a published channel: Draught tables and current outputs (R214, R414, R419). -/
def State.channelConsumers (s : State) (n : Nat) : State :=
  let s1 := (List.finRange 16).foldl (fun s (d : Fin 16) =>
    if s.nat (Key.draughtTableChannel d) = n then (s.evalTable d (s.nat (Key.draughtLevel d))).serveDrive d else s) s
  (List.finRange 8).foldl (fun s (k : Fin 8) =>
    if s.nat (Key.coutSourceType k) = 1 ∧ s.nat (Key.coutSourceNumber k) = n then s.serveOutput k else s) s1

/-- Publish the slot result of channel `n` in the SENSE cycle `t` (R20, R196-R210). -/
def State.publish (s : State) (n : Fin 64) (r : RawResult) (t : Nat) : State :=
  let f : View := overlayView s.get r.frozen
  let comp := s.companion f n t
  let s0 := s.setChannel n (fun c => { c with result := none, published := some t, prior := (s.word (Key.chanValue n), s.channelGood n) })
  let u := inputQuantity f n r
  let y := linearise f n u comp.1
  let hard := hardReasons f n r u y
  let soft := match y with
    | some y => if hard = 0 then s0.softReasons f n r y comp.2 else 0
    | none => 0
  let st := s0.nat (Key.chanState n)
  let j := judgeResult st (s0.nat (Key.chanHardCount n)) (s0.nat (Key.chanCleanCount n)) (f.nat (Key.coefConfirmationCount n))
    (f.nat (Key.coefRecoveryCount n)) (hard != 0) (soft != 0)
  let lastMeasured := s0.word (Key.chanLastMeasuredValue n)
  let v := match j.value with
    | .measured => y.getD 0
    | .held => s0.word (Key.chanValue n)
    | .substitute => s0.substitute f n
  let lo := f.f32 (Key.coefQ15SpanLow n)
  let hi := f.f32 (Key.coefQ15SpanHigh n)
  let reasons := hard + soft + 512 * b2n (q15Beyond v lo hi)
  let s1 := (((s0.putW (Key.chanRawSample n) r.primary).putW (Key.chanRawSecondary n) r.secondary).putW (Key.chanRawRatio n) r.ratio).bump 32 (Key.chanResults n)
  let s2 := if r.primary.toNat.testBit 3 then s1.bump 32 (Key.chanBlankDelays n) else s1
  let s3 := if hard.testBit reasonLinError then s2.bump 32 (Key.chanLinearisationErrors n) else s2
  let s4 := ((s3.putW (Key.chanInputQuantity n) u).putW (Key.chanCompanionValueUsed n) comp.1).bumpWrap (Key.chanResultSequence n)
  let s5 := if j.value = .measured then s4.noteMeasured n r v else s4
  let s6 := (s5.putW (Key.chanValue n) v).put (Key.chanValueQ15 n) (q15OfSpan v lo hi)
  let s7 := ((s6.putN (Key.chanReasons n) reasons).putN (Key.chanHardCount n) j.hard).putN (Key.chanCleanCount n) j.clean
  let s8 := if j.state = chanBroken ∧ st ≠ chanBroken then
      ((s7.setChannel n (fun c => { c with brokenAt := s.clock.op })).bump 32 (Key.chanBROKENEntries n)).log
        0x0301 n n reasons lastMeasured.toNat
    else if st = chanBroken ∧ j.state = chanOk then
      s7.log 0x0302 n n ((s.clock.op - (s.front.channels[n]).brokenAt) / unitsPerSecond)
    else s7
  ((s8.setChannel n (fun c => { c with
      counted := (decide (j.state = chanBroken ∧ st ≠ chanBroken), j.value == .measured, hard.testBit reasonLinError) })).setChanState n j.state).channelConsumers n

/-- RESULT_PUBLISH: the slot result of a channel that is still enabled is published, in the SENSE cycle it names (R20, R196, R211). -/
def execResultPublish (p : Publication) (s : State) : Host.Outcome State Fault Refusal :=
  .next (s.served (fun s => match (s.front.channels[p.chan]).result with
    | some r => if chanLive s.get p.chan then s.publish p.chan r p.time else s.setChannel p.chan (fun c => { c with result := none })
    | none => s))

/-- The channel's age stamp 0x2400+n:32 (R204). -/
def State.channelAge (s : State) (n : Fin 64) : Nat :=
  if s.nat (Key.chanState n) = chanDisabled then 65535 else s.ageOf (s.front.channels[n]).lastTick

/-- A commit to the enable or the sensor type: DISABLED, with its values cleared and a running slot's result discarded
(R208, R211), or SUSPECT with NO_RESULT at the enable (R208), starting at the range of sub 0D (R171); its core, if idle, looks for a slot
again (R179). -/
def State.channelConfigured (s : State) (n : Fin 64) : State :=
  if chanLive s.get n = false then
    (if s.nat (Key.chanState n) = chanDisabled then s.setChannel n (fun c => { c with txReady := false })
     else
       let s1 := s.setChannel n (fun c => { c with due := none, result := none, lastTick := none, measured := false,
                                                   ignoreBlank := false, txReady := false })
       let s2 := (List.finRange 8).foldl (fun s v => match (s.front.converters[v]).slot with
         | some sl => if sl.chan = n then s.setConverter v (fun k => { k with slot := some { sl with discard := true } }) else s
         | none => s) s1
       let s3 := s2.zero [Key.chanValue n, Key.chanValueQ15 n, Key.chanReasons n, Key.chanHardCount n, Key.chanCleanCount n]
       (s3.setChanState n chanDisabled).channelConsumers n)
  else if s.nat (Key.chanState n) = chanDisabled then
    let s1 := (s.setChannel n (fun c => { c with rangeReset := true, lowCount := 0, measured := false, lastTick := none })).putN
      (Key.chanRangeNow n.val) (s.nat (Key.chanRange n.val))
    let s2 := ((s1.putN (Key.chanReasons n) 1024).putN (Key.chanHardCount n) 0).putN (Key.chanCleanCount n) 0
    ((s2.setChanState n chanSuspect).channelConsumers n).serveCore (coreOfChannel n)
  else if s.nat (Key.chanSensorType n) = 5 then s
  else (s.setChannel n (fun c => { c with txReady := false })).serveCore (coreOfChannel n)

/-- The effect of 0x01 at 0x2400+n:3C: the statistics restart (R218); a result published in this SENSE cycle is counted after it (R215). -/
def State.channelStatsClear (s : State) (n : Fin 64) : State :=
  let c := s.front.channels[n]
  let now := if c.published = some s.tickTime then c.counted else (false, false, false)
  let y := if now.2.1 then s.get (Key.chanLastMeasuredValue n) else 0
  ((((s.putN (Key.chanBROKENEntries n) (b2n now.1)).put (Key.chanMinimum n) y).put (Key.chanMaximum n) y).putN
    (Key.chanLinearisationErrors n) (b2n now.2.2)).setChannel n (fun c => { c with extremes := now.2.1 })

/-- CHANNEL_STATISTICS_CLEAR (R218). -/
def execChannelStatisticsClear (p : Path) (n : Fin 64) (s : State) : Host.Outcome State Fault Refusal :=
  .next (s.commanded p (Key.chanClearStatistics n) 1 (fun s => s.channelStatsClear n))

end Sys2Proof.Machine
end

