-- ==== Sys2Proof/Machine/Actuators.lean ====
section
/-! DEFINITION. Solenoid and valve drive: activations, regulation, overlap, permits, policies, faults (R367-R402). -/

namespace Sys2Proof.Machine

open Sys2Proof

/-! ### Units -/

def State.actUnit (s : State) (a : Fin 20) : ActUnit := s.acts.units[a]

def State.setAct (s : State) (a : Fin 20) (f : ActUnit → ActUnit) : State :=
  { s with acts := { s.acts with units := s.acts.units.set a (f s.acts.units[a]) } }

/-- Switch of a channel; partner channel (R367). -/
def switchOf (a : Fin 20) : Fin 10 := ⟨a.val / 2, by omega⟩
def partnerOf (a : Fin 20) : Fin 20 := ⟨if a.val % 2 = 0 then a.val + 1 else a.val - 1, by split <;> omega⟩
def evenOf (h : Fin 10) : Fin 20 := ⟨2 * h.val, by omega⟩
def oddOf (h : Fin 10) : Fin 20 := ⟨2 * h.val + 1, by omega⟩

/-- The switch's channels are joined into a pair (R369). -/
def State.paired (s : State) (h : Fin 10) : Bool := s.flag (Key.actParallel (2 * h.val))

/-- The channel is the odd one of a pair; the channel that governs it (R369). -/
def State.pairOdd (s : State) (a : Fin 20) : Bool := a.val % 2 == 1 && s.paired (switchOf a)
def State.governing (s : State) (a : Fin 20) : Fin 20 := if s.pairOdd a then partnerOf a else a

/-- From t_a to t_off, or REGULATING (R399). -/
def ActPhase.active : ActPhase → Bool
  | .rise | .dwell | .hold | .regulating => true
  | _ => false

/-- The high-side switch is on for the phase: active, or about to start (R375). -/
def ActPhase.needsSwitch : ActPhase → Bool
  | .idle | .deferred => false
  | _ => true

/-- The channel is in FAULT; the switch is in FAULT (R396). -/
def State.actFaulty (s : State) (a : Nat) : Bool := s.nat (Key.actFaultCause a) != 0
def State.hsFaulty (s : State) (h : Nat) : Bool := s.nat (Key.hsFaultCause h) != 0

/-- A channel's values: those its activation runs on, else the present ones (R151). -/
def State.actView (s : State) (a : Fin 20) : View :=
  if (s.actUnit a).phase.active then overlayView s.get (s.actUnit a).frozen else s.get

/-- The values of channel and switch that a swap changes stay those of a running activation until it ends (R151, R392, R395). -/
def State.actKeep (s : State) (changed : List Nat) (a : Fin 20) : State :=
  let u := s.actUnit a
  if u.phase.active then
    let mine := changed.filter (fun k => (k / 256 == 0x2800 + a.val || k / 256 == 0x2820 + a.val / 2) && !u.frozen.any (fun e => e.1 == k))
    s.setAct a (fun u => { u with frozen := u.frozen ++ mine.map (fun k => (k, s.get k)) })
  else s
def State.actsKeep (s : State) (changed : List Nat) : State := (List.finRange 20).foldl (fun s a => s.actKeep changed a) s

/-- The object values frozen at an activation's start. -/
def State.actFreeze (s : State) (a : Nat) : List (Nat × Int) :=
  ((List.range 0x0C).map (fun i => Key.actPeakCurrent a + i)).map (fun k => (k, s.get k))

/-- Channel state 0x2800+a:20 (R398). -/
def State.actStateCode (s : State) (a : Fin 20) : Nat :=
  if s.actFaulty a then 7
  else match (s.actUnit a).phase with
    | .idle | .starting => if (s.actUnit a).decaying then 5 else 0
    | .deferred => 1
    | .rise => 2
    | .dwell => 3
    | .hold => 4
    | .regulating => 6

/-- The permit of the channel's class is absent (R390). -/
def State.permitAbsent (s : State) (a : Nat) : Bool :=
  (s.nat (Key.actClass a) == 1 && !s.safetyOk) || (s.nat (Key.actClass a) == 2 && !s.heatPermit)

/-- A target is capped by the bank throttle or the ambient derating: in hold and in PROPORTIONAL, not in rise or dwell (R377). -/
def State.thermalCap (s : State) (a : Fin 20) : Bool :=
  match (s.actUnit a).phase with
  | .hold => s.bankThrottled (switchOf a).val
  | .regulating => s.bankThrottled (switchOf a).val || decide (s.derating < 10000)
  | _ => false

/-- Channel status word 0x2800+a:21 (R399). -/
def State.actStatusWord (s : State) (a : Fin 20) : Nat :=
  let u := s.actUnit a
  b2n (s.nat (Key.actMode a) != 0) + 2 * b2n u.phase.active + 4 * b2n (u.phase == .deferred) + 8 * b2n u.moved
    + 16 * b2n u.decaying + 32 * b2n s.p2Lost + 64 * b2n (s.permitAbsent a) + 128 * b2n u.dutyLimited
    + 256 * b2n (s.pairOdd a) + 512 * b2n u.limited + 1024 * b2n (s.thermalCap a) + 2048 * b2n s.policiesActive

/-- The switch is on: one of its channels needs it (R367, R375). -/
def State.switchOn (s : State) (h : Fin 10) : Bool :=
  !s.hsFaulty h && !s.bankDisabled h
    && ((s.actUnit (evenOf h)).phase.needsSwitch || (s.actUnit (oddOf h)).phase.needsSwitch)

/-- Switch state 0x2820+h:02 (R401) and status 0x2820+h:03 (R402). -/
def State.hsStateCode (s : State) (h : Fin 10) : Nat :=
  if s.hsFaulty h then 2 else if s.bankDisabled h then 3 else b2n (s.switchOn h)
def State.hsStatusWord (s : State) (h : Fin 10) : Nat :=
  b2n (s.switchOn h) + 2 * b2n (s.hsFaulty h) + 4 * b2n (s.bankDisabled h) + 8 * b2n (s.bankThrottled h)

/-! ### Claims and targets, in 1/3,276,800,000 mA -/

/-- Units of a milliampere: 32,768 * 10,000 * 10, so that every cap is exact. -/
abbrev unitsPerMa : Nat := 3276800000

/-- The hold target as capped (R377). -/
def State.holdTarget (s : State) (a : Fin 20) : Nat :=
  let cfg := (s.actView a).nat (Key.actHoldCurrent a) * unitsPerMa
  if s.bankThrottled (switchOf a).val then max (50 * unitsPerMa) (cfg / 10 * 7) else cfg

/-- The claim of a channel on its switch (R381); a requested start claims its peak. -/
def State.claim (s : State) (a : Fin 20) : Nat :=
  match (s.actUnit a).phase with
  | .starting | .rise | .dwell => (s.actView a).nat (Key.actPeakCurrent a) * unitsPerMa
  | .hold => s.holdTarget a
  | .regulating => (s.actUnit a).target
  | .idle | .deferred => 0

/-- The partner's claim; the odd channel of a pair has none of its own (R369, R381). -/
def State.partnerClaim (s : State) (a : Fin 20) : Nat :=
  if s.paired (switchOf a) then 0 else s.claim (partnerOf a)

/-- The peak budget B of the channel's switch (R381). -/
def State.budget (s : State) (a : Fin 20) : Nat := (s.actView a).nat (Key.hsPeakBudget (switchOf a).val) * unitsPerMa

/-! ### Chopping (R376) -/

/-- The rest of a chop period after its on-time began: on until the first sample at or above the target, then off. -/
def chopRest (target : Nat) : List Nat → List Bool
  | [] => []
  | i :: rest => if target ≤ i then false :: rest.map (fun _ => false) else true :: chopRest target rest

/-- The low-side switch in each microsecond of a chop period, for the current sampled at the start of each: off throughout where the first is
at or above the target; else on for at least 1 µs (R376). -/
def chopPeriod (target : Nat) : List Nat → List Bool
  | [] => []
  | i :: rest => if target ≤ i then false :: rest.map (fun _ => false) else true :: chopRest target rest

/-- The current at which a channel regulates, in claim units (R375, R377). -/
def State.regulated (s : State) (a : Fin 20) : Option Nat :=
  match (s.actUnit a).phase with
  | .dwell => some ((s.actView a).nat (Key.actPeakCurrent a) * unitsPerMa)
  | .hold => some (s.holdTarget a)
  | .regulating => some (s.actUnit a).target
  | _ => none

/-- The low-side switch in each microsecond of a period of the chop frequency, for samples in claim units; fully on in the rise, open
with no activation (R375, R376). -/
def State.lowSide (s : State) (a : Fin 20) (samples : List Nat) : List Bool :=
  match s.regulated a with
  | some target => chopPeriod target (samples.take (1000 / (s.actView a).nat (Key.actChopFrequency a)))
  | none => samples.map (fun _ => (s.actUnit a).phase == .rise)

/-! ### Turning off, refusals and faults -/

/-- Source 128 + a (R402). -/
def State.raiseAct (s : State) (a : Fin 20) : State := s.raiseSource (128 + a.val)

/-- The low-side switch opens: the channel decays (R375, R378), its blanking source ends (R394), the command is `cmd` back
to 0 where the activation ended by itself (R372). A request not yet started is cancelled. -/
def State.actOpen (s : State) (a : Fin 20) : State :=
  let u := s.actUnit a
  let s1 := s.setAct a (fun u => { u with phase := .idle, pulse := false, bySafe := false, target := 0, limited := false,
                                          decaying := u.decaying || u.phase.active })
  let s2 := if u.phase = .rise ∨ u.phase = .dwell then s1.blankRelease (blankAct a) else s1
  if u.phase.active then s2.raiseAct a else s2

/-- Open, and the command reads 0. -/
def State.actOff (s : State) (a : Fin 20) : State := (s.actOpen a).putN (Key.actCommand a) 0

/-- A refused activation: reason, command back to 0, count, event (R373). -/
def State.actRefuse (s : State) (a : Fin 20) (reason : Nat) : State :=
  ((((s.setAct a (fun u => if u.phase.active then u else { u with phase := .idle, pulse := false, bySafe := false })).putN (Key.actLastRefusal a) reason).putN
    (Key.actCommand a) 0).bump 32 (Key.actRefusals a)).raiseAct a

/-- The overlap failure of R381: 0x0604 with the partner's claim, sources 128 + a and 148 + h. -/
def State.overlapRefuse (s : State) (a : Fin 20) : State :=
  let h := switchOf a
  let c := s.freeRound (Int.ofNat (s.partnerClaim a)) unitsPerMa
  let s1 := c.2.log 0x0604 a a c.1.toNat
  ((s1.actRefuse a 10).bump 32 (Key.hsOverlapRefusals h)).raiseSource (148 + h.val)

/-- The channel enters FAULT with a cause (R396); a channel already in FAULT keeps its first cause. -/
def State.actFault (s : State) (a : Fin 20) (cause : Nat) : State :=
  let s1 := s.actOff a
  (if s1.actFaulty a then s1 else s1.putN (Key.actFaultCause a) cause).raiseAct a

/-- What the target of a PROPORTIONAL channel follows from: the setpoint, of a loop or of 0x2800+a:17 (false); or the target of a
host-lost policy or of the safe state in FAULT (true) (R374, R391, R392). -/
def State.propSetpoint (s : State) (a : Fin 20) : Bool × Int :=
  let u := s.actUnit a
  let safe := if s.flag (Key.actSafeState a) then (s.actView a).nat (Key.actHoldCurrent a) * unitsPerMa else 0
  if s.policiesActive then
    (true, match s.nat (Key.policyActuator a) with
     | 1 => Int.ofNat u.held
     | 2 => Int.ofNat safe
     | _ => 0)
  else if s.process = psFault then (true, Int.ofNat safe)
  else (false, if (s.loopsNaming 3 a).isEmpty then s.get (Key.actProportionalSetpoint a) else u.loopOut)

/-- A PROPORTIONAL channel stays off until its setpoint next changes (R374, R390, R396). -/
def State.propBlock (s : State) (a : Fin 20) : State :=
  s.setAct a (fun u => { u with blocked := true, setpoint := s.propSetpoint a })

/-- Opening of a switch: both of its channels open (R380). -/
def State.openSwitch (s : State) (h : Fin 10) : State := (s.actOff (evenOf h)).actOff (oddOf h)

/-- The switch enters FAULT with a cause; the first cause stays (R396). -/
def State.hsFault (s : State) (h : Fin 10) (cause : Nat) : State :=
  let s1 := ((s.openSwitch h).propBlock (evenOf h)).propBlock (oddOf h)
  let s2 := if s1.hsFaulty h then s1 else s1.putN (Key.hsFaultCause h) cause
  (s2.bump 32 (Key.hsFaults h)).raiseSource (148 + h.val)

/-! ### Requests (R373, R381) -/

/-- The first check of R373 that fails, 1-9; `safe` is a start made by a safe state, which the host-lost policy does not
refuse (R391). -/
def State.actCheck (s : State) (a : Fin 20) (safe : Bool) : Option Nat :=
  let h := switchOf a
  if s.pairOdd a then some 1
  else if s.hsFaulty h then some 2
  else if s.bankDisabled h then some 3
  else if s.actFaulty a then some 4
  else if s.permitAbsent a then some 5
  else if s.p2Lost then some 6
  else if s.policiesActive && !safe then some 7
  else if (s.actUnit a).dutyLimited && s.nat (Key.actMode a) == 1 then some 8
  else if s.acts.supplyLimited then some 9
  else none

/-- The regulator takes a start: the high-side switch comes on, t_a follows (R375). -/
def State.actTake (s : State) (a : Fin 20) : State := s.setAct a (fun u => { u with phase := .starting })

/-- The overlap rule decides on a request (R381). -/
def State.actOverlap (s : State) (a : Fin 20) : State :=
  let ipk := s.nat (Key.actPeakCurrent a) * unitsPerMa
  let b := partnerOf a
  let pb := (s.actUnit b).phase
  let early := pb == .starting || pb == .rise || pb == .dwell
  if ipk + s.partnerClaim a ≤ s.budget a then s.actTake a
  else if early && decide (ipk + (s.actView b).nat (Key.actHoldCurrent b) * unitsPerMa ≤ s.budget a)
      && decide (0 < s.nat (Key.actDeferralMaximum a)) then
    s.setAct a (fun u => { u with phase := .deferred, deferredAt := s.clock.tick })
  else s.overlapRefuse a

/-- A request for an activation of a SWITCHED channel (R372, R373). -/
def State.actRequest (s : State) (a : Fin 20) (pulse safe : Bool) : State :=
  let u := s.actUnit a
  if s.outputsReset || s.nat (Key.actMode a) != 1 then s
  else if u.phase.active then (if pulse then s.setAct a (fun u => { u with pulse := true }) else s)
  else if u.phase = .starting ∨ u.phase = .deferred then s
  else match s.actCheck a safe with
    | some r => s.actRefuse a r
    | none => (s.setAct a (fun u => { u with pulse := pulse, bySafe := safe })).actOverlap a

/-- A deferred channel starts when its partner's phase leaves room (R381); the deferral is counted and its length reported in
microseconds, below a tick left open (log 37). -/
def State.startDeferred (s : State) (a : Fin 20) : State :=
  let u := s.actUnit a
  if u.phase = .deferred ∧ s.nat (Key.actPeakCurrent a) * unitsPerMa + s.partnerClaim a ≤ s.budget a then
    let f := s.freeNat
    let us := (s.clock.tick - u.deferredAt) * 125 / 2 + f.1 % 63
    ((f.2.actTake a).putN (Key.actLastDeferral a) us).bump 32 (Key.hsDeferrals (switchOf a).val)
  else s

/-! ### PROPORTIONAL channels (R374, R377, R383) -/

/-- Apply the caps of R377 to a configured target of at least 50 mA. -/
def State.capTarget (s : State) (a : Fin 20) (cfg : Nat) : Nat :=
  let f := cfg / 10000 * s.derating
  if s.bankThrottled (switchOf a).val then max (50 * unitsPerMa) (f / 10 * 7) else f

/-- The target asked for: the setpoint, the policy's or the safe state's (R374, R391, R392). -/
def State.propAsked (s : State) (a : Fin 20) : Nat :=
  if s.outputsReset || s.pairOdd a then 0
  else match s.propSetpoint a with
    | (true, target) => target.toNat
    | (false, q) => (max 0 q).toNat * (s.actView a).nat (Key.actPeakCurrent a) * 100000

/-- The regulator's target for a PROPORTIONAL channel: capped, limited to the budget, started through the checks of R373,
or turned off below 50 mA. -/
def State.serveProp (s : State) (a : Fin 20) : State :=
  if s.nat (Key.actMode a) != 2 then s
  else
    let u := s.actUnit a
    let asked := s.propAsked a
    let blocked := u.blocked && s.propSetpoint a == u.setpoint
    let full := 50 * unitsPerMa
    let capped := if asked < full then asked else s.capTarget a asked
    let room := s.budget a - s.partnerClaim a
    let want := if blocked then 0 else min capped room
    let s1 := s.setAct a (fun u => { u with asked := asked, setpoint := s.propSetpoint a, blocked := blocked })
    let limited := !blocked && decide (full ≤ capped) && decide (room < capped)
    if want < full then
      (if u.phase = .regulating then s1.actOpen a else s1).setAct a (fun u => { u with limited := limited })
    else if u.phase = .regulating then
      s1.setAct a (fun u => { u with target := want, limited := limited })
    else match s1.actCheck a s.policiesActive with
      | some r => (s1.setAct a (fun u => { u with blocked := true })).actRefuse a r
      | none =>
        ((s1.setAct a (fun u => { u with phase := .regulating, target := want, decaying := false,
                                         limited := limited, frozen := [] })).bump 32 (Key.actActivations a)).raiseAct a

/-- A change of a claim: the partner's deferred start and PROPORTIONAL limit are worked out again (R381, R383). -/
def State.claimChanged (s : State) (a : Fin 20) : State :=
  if s.paired (switchOf a) then s else (s.startDeferred (partnerOf a)).serveProp (partnerOf a)

/-- PROPORTIONAL_SETPOINT_APPLY (R374). -/
def execProportionalSetpointApply (a : Fin 20) (s : State) : Host.Outcome State Fault Refusal :=
  .next (s.served (fun s => (s.serveProp a).claimChanged a))

/-! ### Commands (R372) -/

/-- A command taken by the regulator. While a host-lost policy acts the channel is detached from it (R137, log 38); in FAULT
the safe state stands (R392). -/
def State.actCommand (s : State) (a : Fin 20) (v : Nat) : State :=
  let s0 := s.putN (Key.actCommand a) v
  if s.nat (Key.actMode a) != 1 then s0
  else if v = 0 then
    (if s.policiesActive || s.process == psFault then s0 else (s0.actOff a).claimChanged a)
  else s0.actRequest a (v == 2) false

/-- ACTUATOR_COMMAND_OFF, ON, PULSE: the values of 0x2800+a:02 (R372). -/
def execActuatorCommandOff (p : Path) (a : Fin 20) (s : State) : Host.Outcome State Fault Refusal :=
  .next (s.commanded p (Key.actCommand a) 0 (fun s => s.actCommand a 0))
def execActuatorCommandOn (p : Path) (a : Fin 20) (s : State) : Host.Outcome State Fault Refusal :=
  .next (s.commanded p (Key.actCommand a) 1 (fun s => s.actCommand a 1))
def execActuatorCommandPulse (p : Path) (a : Fin 20) (s : State) : Host.Outcome State Fault Refusal :=
  .next (s.commanded p (Key.actCommand a) 2 (fun s => s.actCommand a 2))

/-! ### The phases of an activation (R375) -/

/-- t_a: the low-side switch closes; the values in force are kept, the bank's sensor is demanded (R601), blanking begins. -/
def State.actBegin (s : State) (a : Fin 20) : State :=
  let s1 := s.setAct a (fun u => { u with phase := .rise, decaying := false, judged := false, moved := false, frozen := s.actFreeze a })
  let s2 := (s1.thermalDemand (if a.val < 10 then 2 else 3) 160).bump 32 (Key.actActivations a)
  (s2.blankAgain (blankAct a)).raiseAct a

/-- ACTIVATION_START (R375). -/
def execActivationStart (a : Fin 20) (s : State) : Host.Outcome State Fault Refusal :=
  .next (s.served (fun s => if (s.actUnit a).phase = .starting then s.actBegin a else s))

/-- Hold entry: the peak blanking ends, the event is raised, the partner is served (R375, R381). -/
def State.actEnterHold (s : State) (a : Fin 20) : State :=
  (((s.setAct a (fun u => { u with phase := .hold })).blankRelease (blankAct a)).raiseAct a).claimChanged a

/-- The dip search of R385 over the samples (time in us from t_a, sum of the last 8 samples in mA): the time at which MOVED is
found, or none for NO_MOVE. Currents are in eighths of a milliampere. -/
def dipSearch (w0 w1 th : Nat) : List (Nat × Nat) → Nat → Option (Nat × Nat) → Option Nat
  | [], _, dip => dip.map (fun d => d.2)
  | (t, i) :: rest, imax, dip =>
    if t < w0 then dipSearch w0 w1 th rest imax dip
    else match dip with
      | none =>
        if w1 < t then none
        else
          let m := max imax i
          if i + 8 * th ≤ m then dipSearch w0 w1 th rest m (some (i, t)) else dipSearch w0 w1 th rest m none
      | some (fmin_, tmin_) =>
        let d := if i < fmin_ then (i, t) else (fmin_, tmin_)
        if d.1 + 4 * th ≤ i then some d.2 else dipSearch w0 w1 th rest imax (some d)

/-- NO_MOVE (R385). -/
def State.noMove (s : State) (a : Fin 20) : State :=
  let open_ := (s.actView a).nat (Key.actMovementAction a) == 1
  let s1 := (s.setAct a (fun u => { u with judged := true, moved := false })).putN (Key.actLastMovementTime a) 0xFFFFFFFF
  let s2 := ((s1.bump 32 (Key.actMovementFailures a)).log 0x0602 a a).raiseAct a
  if open_ then (s2.actFault a 3).claimChanged a else s2

/-- Movement judged at the end of the rise (R385). -/
def State.judgeMovement (s : State) (a : Fin 20) (samples : List (Nat × Nat)) : State :=
  let v := s.actView a
  if v.nat (Key.actMovementWindowEnd a) = 0 ∨ (s.actUnit a).judged then s
  else match dipSearch (v.nat (Key.actMovementWindowStart a)) (v.nat (Key.actMovementWindowEnd a))
      (v.nat (Key.actDipThreshold a)) samples 0 none with
    | some t => (s.setAct a (fun u => { u with judged := true, moved := true })).putN (Key.actLastMovementTime a) t
    | none => s.noMove a

/-- A rise outside its window (R384): FAULT PEAK_SHORT or PEAK_LONG, 0x0601 with channel, cause and time. -/
def State.peakFault (s : State) (a : Fin 20) (cause us : Nat) : State :=
  (((s.actFault a cause).bump 32 (Key.actPeakTimeFaults a)).log 0x0601 a a cause us).claimChanged a

/-- PEAK_REACHED: a sample reaches I_pk `us` after t_a; the window and the movement are judged, then dwell or hold (R384,
R385, R375). -/
def execPeakReached (a : Fin 20) (us : Nat) (samples : List (Nat × Nat)) (s : State) : Host.Outcome State Fault Refusal :=
  .next (s.served (fun s =>
    let v := s.actView a
    if (s.actUnit a).phase = .rise then
        if us < v.nat (Key.actPeakTimeMinimum a) then s.peakFault a 1 us
        else
          let s1 := (s.putN (Key.actLastRiseTime a) us).judgeMovement a samples
          if (s1.actUnit a).phase = .rise then
            (if v.nat (Key.actPeakDwell a) = 0 then s1.actEnterHold a else s1.setAct a (fun u => { u with phase := .dwell }))
          else s1
      else s))

/-- PEAK_TIME_MAXIMUM: t_max passes without I_pk; the channel opens at t_max + 1 us (R384). -/
def execPeakTimeMaximum (a : Fin 20) (s : State) : Host.Outcome State Fault Refusal :=
  .next (s.served (fun s => if (s.actUnit a).phase = .rise then s.peakFault a 2 ((s.actView a).nat (Key.actPeakTimeMaximum a) + 1) else s))

/-- DWELL_END (R375). -/
def execDwellEnd (a : Fin 20) (s : State) : Host.Outcome State Fault Refusal :=
  .next (s.served (fun s => if (s.actUnit a).phase = .dwell then s.actEnterHold a else s))

/-- DEFERRAL_TIMEOUT (R381). -/
def execDeferralTimeout (a : Fin 20) (s : State) : Host.Outcome State Fault Refusal :=
  .next (s.served (fun s => if (s.actUnit a).phase = .deferred then s.overlapRefuse a else s))

/-- PULSE_END (R372); an activation that a safe state holds has no pulse end (R391). -/
def execPulseEnd (a : Fin 20) (s : State) : Host.Outcome State Fault Refusal :=
  .next (s.served (fun s =>
    let u := s.actUnit a
    if u.phase.active && u.pulse && !u.bySafe then (s.actOff a).claimChanged a else s))

/-- MAXIMUM_ON_TIME (R372). -/
def execMaximumOnTime (a : Fin 20) (s : State) : Host.Outcome State Fault Refusal :=
  .next (s.served (fun s => if (s.actUnit a).phase.active && (s.actUnit a).phase != .regulating
      && (s.actView a).nat (Key.actMaximumOnTime a) != 0 then (s.actOff a).claimChanged a else s))

/-- DECAY_COMPLETE: the decay took `us` (R378). -/
def execDecayComplete (a : Fin 20) (us : Nat) (s : State) : Host.Outcome State Fault Refusal :=
  .next (s.served (fun s => if (s.actUnit a).decaying then
      ((s.setAct a (fun u => { u with decaying := false })).putN (Key.actLastDecayTime a) us).raiseAct a
    else s))

/-- MOVEMENT_WINDOW_END: the window ends with no dip (R385). -/
def execMovementWindowEnd (a : Fin 20) (s : State) : Host.Outcome State Fault Refusal :=
  .next (s.served (fun s => if (s.actUnit a).phase = .rise ∧ (s.actView a).nat (Key.actMovementWindowEnd a) ≠ 0
      ∧ (s.actUnit a).judged = false then s.noMove a else s))

/-! ### Duty and the P2 limit (R387, R389) -/

/-- One more millisecond on a run list of at most `cap` milliseconds. -/
def pushRun (on : Bool) (cap : Nat) : List (Bool × Nat) → List (Bool × Nat)
  | (b, n) :: rest => if b = on then (b, min cap (n + 1)) :: rest else (on, 1) :: (b, n) :: rest
  | [] => [(on, 1)]

/-- The newest `w` milliseconds of a run list. -/
def takeRuns : Nat → List (Bool × Nat) → List (Bool × Nat)
  | _, [] => []
  | w, (b, n) :: rest => if w = 0 then [] else (b, min n w) :: takeRuns (w - n) rest

/-- Active milliseconds of a run list. -/
def activeMs (l : List (Bool × Nat)) : Nat := (l.map (fun r => if r.1 then r.2 else 0)).sum

/-- The effective duty limit in 1/100,000,000 of a window: the configured per cent, times f, times 0.7 while throttled. -/
def State.dutyLimitParts (s : State) (a : Fin 20) : Nat :=
  s.nat (Key.actDutyLimit a) * s.derating * (if s.bankThrottled (switchOf a).val then 70 else 100)

/-- The 1 ms duty update of one channel (R387). -/
def State.dutyUpdate (s : State) (a : Fin 20) : State :=
  let u := s.actUnit a
  let w := s.nat (Key.actDutyWindow a) * 1000
  let runs := takeRuns 600000 (pushRun u.phase.active 600000 u.duty)
  let ms := activeMs (takeRuns w runs)
  let lim := s.dutyLimitParts a
  let hyst := s.nat (Key.actDutyHysteresis a) * 1000000
  let reached := decide (lim * w ≤ ms * 100000000)
  let below := decide (ms * 100000000 + hyst * w < lim * w)
  let d := s.freeRound (Int.ofNat (ms * 10000)) w
  let e := d.2.freeRound (Int.ofNat lim) 10000
  let now := s.nat (Key.actMode a) == 1 && (if u.dutyLimited then !below else reached)
  let s1 := (e.2.put (Key.actDuty a) d.1).put (Key.actEffectiveDutyLimit a) e.1
  let s2 := s1.setAct a (fun u => { u with duty := runs, dutyLimited := now })
  if now && !u.dutyLimited then s2.log 0x0603 a a d.1.toNat else s2

/-- DUTY_UPDATE: the 1 ms update of every channel (R387). -/
def execDutyUpdate (s : State) : Host.Outcome State Fault Refusal :=
  .next (if s.clocksRun then (List.finRange 20).foldl (fun s a => s.dutyUpdate a) s else s)

/-- P2_CURRENT_LIMIT_EVALUATION: the 1 s mean of 0x3B00:03 in mA against 25.0 A * f and 23.0 A * f (R389). -/
def execP2CurrentLimitEvaluation (mean : Nat) (s : State) : Host.Outcome State Fault Refusal :=
  .next (s.served (fun s =>
    let f := s.derating
    if s.acts.supplyLimited then
        (if mean * 10000 < 23000 * f then { s with acts := { s.acts with supplyLimited := false } } else s)
      else if 25000 * f < mean * 10000 then
        ({ s with acts := { s.acts with supplyLimited := true } }).log 0x0607 noSource noSource
      else s))

/-! ### Permits (R390) -/

/-- Force off the channels of a class: those active are opened, requests waiting are refused with PERMIT. -/
def State.permitForce (s : State) (class_ : Nat) (a : Fin 20) : State :=
  if s.nat (Key.actClass a) != class_ then s
  else
    let u := s.actUnit a
    let s1 := s.propBlock a
    if u.phase.active then s1.actOff a
    else if u.phase = .starting ∨ u.phase = .deferred then s1.actRefuse a 5
    else s1.putN (Key.actCommand a) 0

/-- PERMIT_LOST: 0 SAFETY_OK, 1 HEAT_PERMIT goes absent after its filter (R390, R419, R426). -/
def execPermitLost (which : Fin 2) (s : State) : Host.Outcome State Fault Refusal :=
  .next (s.served (fun s =>
    let class_ := which.val + 1
    let bit_ := if which = 0 then 3 else 2
    let forced : List (Fin 20) := (List.finRange 20).filter (fun (a : Fin 20) => s.nat (Key.actClass a) == class_ && (s.actUnit a).phase.active)
    let mask := (forced.map (fun a => 2 ^ a.val)).sum
    if s.bitOf Key.inputsInputLevels bit_ then
        let s1 := (s.putBit Key.inputsInputLevels bit_ false).bump 32
          (if which = 0 then Key.inputsSAFETYOKLosses else Key.inputsHEATPERMITLosses)
        let s2 := forced.foldl (fun s a => s.claimChanged a) ((List.finRange 20).foldl (fun s a => s.permitForce class_ a) s1)
        let s3 := match forced with
          | a :: _ => s2.log 0x0608 a a which.val mask
          | [] => s2
        s3.serveOutputs
      else s))

/-- PERMIT_RESTORED: the input returns; nothing restarts (R390). -/
def execPermitRestored (which : Fin 2) (s : State) : Host.Outcome State Fault Refusal :=
  .next (s.served (fun s => (s.putBit Key.inputsInputLevels (if which = 0 then 3 else 2) true).serveOutputs))

/-! ### Safe states, policies, process states, supply loss (R391-R393) -/

/-- The safe state of a channel (R391): OFF turns it off; ON holds a running activation or starts one. -/
def State.actSafe (s : State) (a : Fin 20) : State :=
  if s.nat (Key.actMode a) = 1 then
    (if s.flag (Key.actSafeState a) then
       (if (s.actUnit a).phase != .idle then s.setAct a (fun u => { u with bySafe := true, pulse := false })
        else s.actRequest a false true)
     else (s.actOff a).claimChanged a)
  else (s.serveProp a).claimChanged a

/-- What a policy does to a channel as it comes into force or changes (R138, R391). -/
def State.actPolicyTaken (s : State) (a : Fin 20) : State :=
  let code := s.nat (Key.policyActuator a)
  let now := if s.policiesActive then some code else none
  let u := s.actUnit a
  if now = u.policy then (if now.isSome then s.serveProp a else s)
  else
    let s1 := s.setAct a (fun u => { u with policy := now, held := if now = some 1 then u.asked else u.held })
    match now with
    | some 1 => s1.serveProp a
    | some 2 => s1.actSafe a
    | some _ => if s.nat (Key.actMode a) = 1 then (s1.actOff a).claimChanged a else (s1.serveProp a).claimChanged a
    | none =>
      -- R139: the output returns to its source; an activation held by the safe state follows its command
      if u.bySafe && s.nat (Key.actCommand a) == 0 && s.process != psFault then (s1.actOff a).claimChanged a
      else (s1.setAct a (fun u => { u with bySafe := false })).serveProp a

/-- A host-lost policy acts on a channel (R138, R391): an activation that it ends is reported as HOST_LOST. -/
def State.actPolicy (s : State) (a : Fin 20) : State :=
  let t := s.actPolicyTaken a
  if t.policiesActive && (s.actUnit a).phase != .idle && (t.actUnit a).phase == .idle then t.putN (Key.actLastRefusal a) 7 else t

/-- The policies as they stand now, on every channel. -/
def State.serveActPolicies (s : State) : State := (List.finRange 20).foldl (fun s a => s.actPolicy a) s

/-- Every channel turns off and every command reads 0 (R19, R392, R393). -/
def State.actsOff (s : State) : State := (List.finRange 20).foldl (fun s a => s.actOff a) s

/-- Every channel takes its safe state at the entry into FAULT (R392). -/
def State.actsSafe (s : State) : State := (List.finRange 20).foldl (fun s a => s.actSafe a) s

/-- At enable the duty window counts as wholly inactive (R387). -/
def State.actEnabled (s : State) (a : Fin 20) : State := s.setAct a (fun u => { u with duty := [], dutyLimited := false })

/-- At each entry into ARMED the duty windows count as wholly inactive (R387). -/
def State.dutyRestart (s : State) : State :=
  (List.finRange 20).foldl (fun s a => s.actEnabled a) s

/-- P2 loss on a channel (R69, R393): it opens; a request waiting is refused with P2_LOST; a PROPORTIONAL target must be asked for
again. -/
def State.actP2Loss (s : State) (a : Fin 20) : State :=
  let u := s.actUnit a
  if u.phase = .starting ∨ u.phase = .deferred then s.actRefuse a 6
  else if u.phase = .regulating then (s.actOff a).propBlock a
  else s.actOff a

/-- A driver bank is disabled: its channels open, requests waiting are refused with BANK_DISABLED (R610). -/
def State.actBankOff (s : State) (bank : Nat) : State :=
  (List.finRange 20).foldl (fun s a =>
    if a.val / 10 = bank then
      (if (s.actUnit a).phase = .starting ∨ (s.actUnit a).phase = .deferred then s.actRefuse a 3 else (s.actOff a).propBlock a)
    else s) s

/-! ### Faults (R396) -/

/-- A high-side fault: switch and channels open, 0x0605 with the switch and the cause. -/
def State.hsTrip (s : State) (h : Fin 10) (cause : Nat) : State := (s.hsFault h cause).log 0x0605 h h cause

/-- The causes that can outlast the opening are present until they are measured gone. -/
def State.setHsPresent (s : State) (h : Fin 10) (b : Bool) : State :=
  { s with acts := { s.acts with present := s.acts.present.set h b } }

/-- HS_OVERCURRENT: above 15 A for 2 us (R368, R396). -/
def execHsOvercurrent (h : Fin 10) (s : State) : Host.Outcome State Fault Refusal :=
  .next (s.served (fun s => if s.switchOn h then s.hsTrip h 1 else s))

/-- COMMON_SHORT: the high-side current exceeds the channel sum by 1 A (R396). -/
def execCommonShort (h : Fin 10) (s : State) : Host.Outcome State Fault Refusal :=
  .next (s.served (fun s => if s.switchOn h then s.hsTrip h 2 else s))

/-- STUCK_ON: the common node above 2 V with the switch off (R396). -/
def execStuckOn (h : Fin 10) (s : State) : Host.Outcome State Fault Refusal :=
  .next (s.served (fun s => if s.switchOn h then s else (s.hsTrip h 3).setHsPresent h true))

/-- HS_OVERTEMP (R396). -/
def execHsOvertemp (h : Fin 10) (s : State) : Host.Outcome State Fault Refusal :=
  .next (s.served (fun s => (s.hsTrip h 4).setHsPresent h true))

/-- LS_OVERCURRENT: above 7.5 A; the channel opens (R396). Of a pair the even channel's object governs (R369). -/
def execLsOvercurrent (a : Fin 20) (s : State) : Host.Outcome State Fault Refusal :=
  .next (s.served (fun s =>
    let g := s.governing a
    if (s.actUnit g).phase.active then ((s.actFault g 4).log 0x0606 g g 1).claimChanged g else s))

/-- LS_STUCK: switch-path current after turn-off; the high-side switch opens, channel and switch are in FAULT (R396). -/
def execLsStuck (a : Fin 20) (s : State) : Host.Outcome State Fault Refusal :=
  .next (s.served (fun s =>
    let g := s.governing a
    let h := switchOf g
    if (s.actUnit g).phase.active then s
      else
        let s1 := ((s.actFault g 5).hsFault h 5).log 0x0606 g g 2
        (s1.setAct g (fun u => { u with present := true })).setHsPresent h true))

/-- OPEN_LOAD: current below half of a target of at least 100 mA for 1 ms at full on-time (R396). -/
def execOpenLoad (a : Fin 20) (s : State) : Host.Outcome State Fault Refusal :=
  .next (s.served (fun s =>
    let g := s.governing a
    let ph := (s.actUnit g).phase
    if (ph = .dwell ∨ ph = .hold ∨ ph = .regulating) ∧ 100 * unitsPerMa ≤ s.claim g then
        ((s.actFault g 6).log 0x0606 g g 3).claimChanged g
      else s))

/-- The effect of 0x01 at 0x2800+a:19: refused while the cause is present; nothing restarts (R396). -/
def State.actFaultReset (s : State) (a : Fin 20) : State :=
  (s.putN (Key.actFaultCause a) 0).propBlock a

/-- ACTUATOR_FAULT_RESET (R396). -/
def execActuatorFaultReset (p : Path) (a : Fin 20) (s : State) : Host.Outcome State Fault Refusal :=
  .next (s.commanded p (Key.actFaultReset a) 1 (fun s => s.actFaultReset a))

/-- The effect of 0x01 at 0x2820+h:06: nothing restarts (R396). -/
def State.hsFaultReset (s : State) (h : Fin 10) : State :=
  ((s.putN (Key.hsFaultCause h) 0).propBlock (evenOf h)).propBlock (oddOf h)

/-- SWITCH_FAULT_RESET (R396). -/
def execSwitchFaultReset (p : Path) (h : Fin 10) (s : State) : Host.Outcome State Fault Refusal :=
  .next (s.commanded p (Key.hsFaultReset h) 1 (fun s => s.hsFaultReset h))

/-- The effects of 0x01 at 0x2800+a:30 and 0x2820+h:0B (R397, R401). -/
def State.actStatsClear (s : State) (a : Fin 20) : State :=
  s.zero [Key.actActivations a, Key.actRefusals a, Key.actPeakTimeFaults a, Key.actMovementFailures a]
def State.hsStatsClear (s : State) (h : Fin 10) : State :=
  s.zero [Key.hsDeferrals h, Key.hsOverlapRefusals h, Key.hsFaults h]

/-- ACTUATOR_STATISTICS_CLEAR (R397). -/
def execActuatorStatisticsClear (p : Path) (a : Fin 20) (s : State) : Host.Outcome State Fault Refusal :=
  .next (s.commanded p (Key.actClearStatistics a) 1 (fun s => s.actStatsClear a))

/-- SWITCH_STATISTICS_CLEAR (R401). -/
def execSwitchStatisticsClear (p : Path) (h : Fin 10) (s : State) : Host.Outcome State Fault Refusal :=
  .next (s.commanded p (Key.hsClearStatistics h) 1 (fun s => s.hsStatsClear h))

/-- The coil energy 0x2800+a:29 in uJ: L * I_pk^2 / 2,000 with L in mH and I_pk in mA (R370, R397). -/
def State.coilEnergy (s : State) (a : Fin 20) : Nat :=
  let l := ratioOf (s.word (Key.actCoilInductance a))
  let i := s.nat (Key.actPeakCurrent a)
  let n := l.1.toNat * (i * i)
  let d := 2000 * l.2
  n / d + b2n (n % d != 0 && Config.energyRoundsUp n d)

end Sys2Proof.Machine
end

