-- ==== Sys2Proof/Machine/Cowl.lean ====
section
/-! DEFINITION. The Cowl units: check values, alive counters, receive results (R567-R579). -/

namespace Sys2Proof.Machine

open Sys2Proof

/-- A unit's settings (R575, R577). -/
def State.cowlParams (s : State) (u : Nat) : CrcParams :=
  let cfg := s.nat (Key.cowlConfiguration u)
  { width := if cfg % 4 = 0 then 8 else if cfg % 4 = 1 then 16 else 32,
    poly := s.nat (Key.cowlPolynomial u), init := s.nat (Key.cowlInitialValue u),
    refin := cfg.testBit 2, refout := cfg.testBit 3, xorOut := s.nat (Key.cowlFinalXOR u) }

/-- The check value of a CAN guarded message: guard header low byte first, then the data from byte 2 on (R569). -/
def State.cowlCheck (s : State) (u dataId counter : Nat) (tail : List Byte) : Nat :=
  crcOf (s.cowlParams u) (leBytes 2 (counter % 16 * 4096 + dataId % 4096) ++ tail)

/-- Settings of context `i` of unit `u` (R578). -/
def State.cowlWord (s : State) (u : Fin 4) (i : Fin 16) : Nat := s.nat (Key.cowlContext (16 * u.val + i.val))

/-- The enabled context of a data ID and direction (at most one by R578). -/
def State.cowlContextOf (s : State) (u : Fin 4) (tx : Bool) (dataId : Nat) : Option (Fin 16) :=
  (List.finRange 16).find? (fun i =>
    let w := s.cowlWord u i
    w.testBit 31 && (w.testBit 30 == tx) && field w 23 12 == dataId % 4096)

/-- Change one context of a unit. -/
def State.setCowlContext (s : State) (u : Fin 4) (i : Fin 16) (f : CowlContext → CowlContext) : State :=
  let un := s.cowl[u]
  { s with cowl := s.cowl.set u { un with contexts := un.contexts.set i (f un.contexts[i]) } }

/-- The receive results of R571. -/
abbrev cowlOk : Nat := 1
abbrev cowlCrcErr : Nat := 2
abbrev cowlRepeat : Nat := 3
abbrev cowlGap : Nat := 4
abbrev cowlTimeout : Nat := 5

/-- The result of a message for a context with maximum gap `g` (R571). -/
def CowlContext.judge (c : CowlContext) (g counter : Nat) (good : Bool) : Nat :=
  let delta := (counter + 16 - c.aLast) % 16
  if good = false then cowlCrcErr
  else if c.timeout then cowlTimeout
  else if delta = 0 then cowlRepeat
  else if delta ≤ g + c.k then cowlOk
  else cowlGap

/-- The context after a message (R571). -/
def CowlContext.after (c : CowlContext) (res counter tick : Nat) : CowlContext :=
  if res = cowlCrcErr then { c with k := min 15 (c.k + 1), result := res }
  else if res = cowlRepeat then { c with result := res, lastGood := tick }
  else { aLast := counter % 16, k := 0, result := res, timeout := false, lastGood := tick }

/-- Count a result and raise its source: rejections are CRC_ERR and REPEAT; every result other than OK raises 244 + u (R571, R577). A timeout
is counted when the context enters it (R573), not by the message that ends it (DEDUCED, log 149). -/
def State.cowlResult (s : State) (u : Fin 4) (res : Nat) : State :=
  if res = cowlOk then s
  else
    let s1 := if res = cowlCrcErr ∨ res = cowlRepeat then s.bump 32 (Key.cowlRejections u.val)
      else if res = cowlGap then s.bump 32 (Key.cowlGapsAndTimeouts u.val) else s
    s1.raiseSource (244 + u.val)

/-- Receive a guarded message on unit `u`: its result, and the state after it. A data ID without a context is checked for
its value only (R571). -/
def State.cowlReceive (s : State) (u : Fin 4) (dataId counter : Nat) (good : Bool) : Nat × State :=
  match s.cowlContextOf u false dataId with
  | some i =>
    let c := (s.cowl[u]).contexts[i]
    let res := c.judge (field (s.cowlWord u i) 29 27) counter good
    (res, (s.setCowlContext u i (fun c => c.after res counter s.clock.tick)).cowlResult u res)
  | none =>
    let res := if good then cowlOk else cowlCrcErr
    (res, s.cowlResult u res)

/-- The alive counter of the next guarded send, from the data ID's transmit context or the unit's spare counter (R570). -/
def State.cowlTransmit (s : State) (u : Fin 4) (dataId : Nat) : Nat × State :=
  match s.cowlContextOf u true dataId with
  | some i => (((s.cowl[u]).contexts[i]).aLast,
      s.setCowlContext u i (fun c => { c with aLast := (c.aLast + 1) % 16 }))
  | none =>
    let un := s.cowl[u]
    (un.spare, { s with cowl := s.cowl.set u { un with spare := (un.spare + 1) % 16 } })

/-- The context state word 0x3800:80 + 16u + i (R577). -/
def CowlContext.word (c : CowlContext) : Nat := c.aLast * 4096 + c.k * 256 + b2n c.timeout * 8 + c.result

/-- Data written to 0x3800:D1 go through the selected unit from INIT; the result is stored (R577). -/
def State.cowlCompute (s : State) (data : List Byte) : State :=
  s.putN Key.cowlComputeResult (crcOf (s.cowlParams (s.nat Key.cowlComputeUnit)) data)

/-- COWL_COMPUTE. -/
def execCowlCompute (p : Path) (data : List Byte) (s : State) : Host.Outcome State Fault Refusal :=
  .next (s.served (fun s => match (s.touch p).checkWrite p Key.cowlComputeData (.bytes data) with
    | .error e => (s.touch p).refuse p e
    | .ok _ => ((s.touch p).cowlCompute data).answer p .done))

/-- A good message of this very moment counts: there is no TIMEOUT (R579). -/
def State.cowlHeard (s : State) (u : Fin 4) (i : Fin 16) : Bool := s.clock.tick != 0 && ((s.cowl[u]).contexts[i]).lastGood == s.clock.tick

/-- A context silent beyond its timeout T enters TIMEOUT, which is counted (R573). -/
def State.cowlSilent (s : State) (u : Fin 4) (i : Fin 16) : State :=
  let w := s.cowlWord u i
  if w.testBit 31 && !w.testBit 30 && field w 11 0 != 0 && !((s.cowl[u]).contexts[i]).timeout && !s.cowlHeard u i then
    ((s.setCowlContext u i (fun c => { c with timeout := true, result := cowlTimeout })).bump 32 (Key.cowlGapsAndTimeouts u.val)).cowlResult u cowlTimeout
  else s

/-- COWL_CONTEXT_TIMEOUT (R573). -/
def execCowlContextTimeout (u : Fin 4) (i : Fin 16) (s : State) : Host.Outcome State Fault Refusal :=
  .next (s.served (fun s => s.cowlSilent u i))

/-- Any write to START loads the unit's register with INIT (R575). -/
def State.cowlStart (s : State) (u : Fin 4) : State :=
  let p := s.cowlParams u.val
  { s with cowl := s.cowl.set u { s.cowl[u] with reg := p.init % 2 ^ p.width } }

/-- Bytes fed to the unit's register, low byte first (R575). -/
def State.cowlFeed (s : State) (u : Fin 4) (data : List Byte) : State :=
  let p := s.cowlParams u.val
  { s with cowl := s.cowl.set u { s.cowl[u] with reg := data.foldl (crcByte p.width p.poly p.refin) (s.cowl[u]).reg } }

/-- RESULT: the register after reflect out and final XOR (R575). -/
def State.cowlRegister (s : State) (u : Fin 4) : Nat :=
  let p := s.cowlParams u.val
  ((if p.refout then reflect p.width (s.cowl[u]).reg else (s.cowl[u]).reg) ^^^ p.xorOut) % 2 ^ p.width

/-- COWL_UNIT_START. -/
def execCowlUnitStart (u : Fin 4) (s : State) : Host.Outcome State Fault Refusal :=
  .next (s.served (fun s => s.cowlStart u))

/-- COWL_UNIT_DATA. -/
def execCowlUnitData (u : Fin 4) (data : List Byte) (s : State) : Host.Outcome State Fault Refusal :=
  .next (s.served (fun s => s.cowlFeed u data))

/-! ### The units' registers in the hearth core's private region (R575) -/

/-- The word at offset `r` of unit `u`: settings have the home the dictionary shows; the write-only registers read as free values
(log 72). -/
def State.cowlLoad (s : State) (u : Fin 4) (r : Nat) : Word × State :=
  match r with
  | 0x00 => (BitVec.ofNat 32 (s.nat (Key.cowlConfiguration u.val)), s)
  | 0x04 => (BitVec.ofNat 32 (s.nat (Key.cowlPolynomial u.val)), s)
  | 0x08 => (BitVec.ofNat 32 (s.nat (Key.cowlInitialValue u.val)), s)
  | 0x0C => (BitVec.ofNat 32 (s.nat (Key.cowlFinalXOR u.val)), s)
  | 0x18 => (BitVec.ofNat 32 (s.cowlRegister u), s)
  | _ => s.freeWord

/-- A store of the bytes `bs`, `word` being the register's new word: a setting takes it, START loads INIT, DATA feeds what was stored,
one cycle a byte after what is still being fed; RESULT and unlisted offsets discard it. -/
def State.cowlStore (s : State) (u : Fin 4) (r : Nat) (word : Word) (bs : List Byte) (cycle : Nat) : State :=
  match r with
  | 0x00 => s.putN (Key.cowlConfiguration u.val) (word.toNat % 16)
  | 0x04 => s.putN (Key.cowlPolynomial u.val) word.toNat
  | 0x08 => s.putN (Key.cowlInitialValue u.val) word.toNat
  | 0x0C => s.putN (Key.cowlFinalXOR u.val) word.toNat
  | 0x10 => s.cowlStart u
  | 0x14 =>
    let s1 := s.cowlFeed u bs
    { s1 with cowl := s1.cowl.set u { s1.cowl[u] with busy := max cycle (s.cowl[u]).busy + bs.length } }
  | _ => s

end Sys2Proof.Machine
end

