-- ==== Sys2Proof/Machine/Can.lean ====
section
/-! DEFINITION. The two CAN controllers (R483-R509): bus states and error counters, the transmit queue with its slots and
completions, reception into objects and FIFO, the time reference, mirroring, and the EMCY of CAN A (R512). -/

namespace Sys2Proof.Machine

open Sys2Proof

/-! ### The controllers -/

/-- Change what controller `b` keeps beside its objects. -/
def State.setCan (s : State) (b : Fin 2) (f : CanPort → CanPort) : State := { s with can := s.can.set b (f s.can[b]) }

/-- The bus states of R483. -/
abbrev busOff0 : Nat := 0
abbrev busIntegrating : Nat := 1
abbrev busActive : Nat := 2
abbrev busPassive : Nat := 3
abbrev busOff : Nat := 4
abbrev busSleep : Nat := 5

/-- The bus state of a controller. -/
def State.bus (s : State) (b : Fin 2) : Nat := s.nat (Key.canBusState b)

/-- The controller takes part in the bus. -/
def State.onBus (s : State) (b : Fin 2) : Bool := s.bus b == busActive || s.bus b == busPassive

/-- FD frames are enabled (R488). -/
def State.fdOn (s : State) (b : Fin 2) : Bool := s.flag (Key.canbitFDEnable b)

/-- Event source `i` of controller `b` (R513). -/
def State.raiseCan (s : State) (b : Fin 2) (i : Nat) : State := s.raiseSource (190 + 8 * b.val + i)

/-- The recovery sequence of a bus-off runs: AUTO, or commanded (R500). -/
def State.canRecovering (s : State) (b : Fin 2) : Bool :=
  s.bus b == busOff && ((s.can[b]).recovering || s.nat (Key.canBusOffRecovery b) == 0)

/-- Data length of a DLC: 0-8, then 12, 16, 20, 24, 32, 48, 64 (R492). -/
def dlcLength (dlc : Nat) : Nat := if dlc ≤ 8 then dlc else [12, 16, 20, 24, 32, 48, 64].getD (dlc - 9) 64

/-- Data bytes of a frame as ISO 11898-1 has it: none in a remote frame, at most 8 in a classical one (log 42). -/
def frameLength (f : CanFrame) : Nat := if f.remote then 0 else if f.id.testBit 30 then dlcLength f.dlc else min 8 f.dlc

/-! ### Bit timing (R486-R489) -/

/-- Rates in bit/s and sample points in 0.1 %, as 0x36x1:0A-0D report them; a fraction of a unit is left open (log 34). -/
def State.nominalRate (s : State) (b : Nat) : Nat := 80000000 / nominalClocks s.get b
def State.dataRate (s : State) (b : Nat) : Nat := 80000000 / dataClocks s.get b
def samplePoint (t1 t2 : Nat) : Nat := 1000 * (1 + t1) / (1 + t1 + t2)

/-- Transmitter delay compensation is active: FD frames, data rate of 2 Mbit/s or more (R489). -/
def State.tdcActive (s : State) (b : Fin 2) : Bool := s.fdOn b && decide (dataClocks s.get b ≤ 40)

/-! ### Entries (R491-R493) -/

/-- The entry that port bytes spell (R492). -/
def entryOf (bs : List Byte) : CanEntry :=
  { id := leNat (bs.take 4), control := leNat ((bs.drop 4).take 2), tag := leNat ((bs.drop 6).take 2),
    notBefore := leNat ((bs.drop 8).take 8), data := bs.drop 16, own := false, released := false, cancelled := false }

def CanEntry.ide (e : CanEntry) : Bool := e.id.testBit 31
def CanEntry.fdf (e : CanEntry) : Bool := e.id.testBit 30
def CanEntry.brs (e : CanEntry) : Bool := e.id.testBit 29
def CanEntry.atTime (e : CanEntry) : Bool := e.control.testBit 7
def CanEntry.mirrorOk (e : CanEntry) : Bool := e.control.testBit 6
def CanEntry.oneShot (e : CanEntry) : Bool := e.control.testBit 5

/-- The content of an entry passes R493 at module time `now`, its commit tick's start. -/
def entryOk (fd : Bool) (now len : Nat) (e : CanEntry) : Bool :=
  let dlc := e.control % 16
  decide (16 ≤ len)
    && (e.ide || field e.id 28 11 == 0)
    && field e.control 15 11 == 0 && field e.control 9 8 == 0 && !e.control.testBit 4
    && (!e.brs || e.fdf) && (!e.fdf || fd) && (decide (dlc ≤ 8) || e.fdf)
    && decide (len = 16 + dlcLength dlc)
    && (!e.atTime || decide (e.notBefore ≤ now + 60000000000))

/-- The guard of a COWL entry: alive counter and check value (R569, R570); below 2 data bytes it goes unguarded and counted. -/
def State.guardEntry (s : State) (b : Fin 2) (e : CanEntry) : CanEntry × State :=
  if e.control.testBit 10 then
    let n := s.nat (Key.canSafetyCheckUnit b)
    let u : Fin 4 := ⟨n % 4, by omega⟩
    if e.data.length < 2 then (e, s.bump 32 (Key.cowlUnguardedSends u))
    else
      let id := e.id % 4096
      let c := s.cowlTransmit u id
      let tail := e.data.drop 2
      let v := c.2.cowlCheck u id c.1 tail
      ({ e with data := BitVec.ofNat 8 v :: BitVec.ofNat 8 (16 * c.1) :: tail }, c.2)
  else (e, s)

/-! ### Completions (R498) -/

/-- An entry of controller `b` (or, mirrored, of CAN A) ends. The tag of a slave's own frame is nobody's choice (log 1). -/
def State.canComplete (s : State) (b : Fin 2) (e : CanEntry) (status : Nat) (mirrored : Bool) : State :=
  let t : Nat × State := if e.own then (let f := s.freeNat; (f.1 % 65536, f.2)) else (e.tag, s)
  let s1 := t.2
  let p := s1.can[b]
  let word := t.1 * 65536 + b2n mirrored * 32768 + status * 256 + p.seq
  let s2 := s1.setCan b (fun p => { p with seq := (p.seq + 1) % 256 })
  if p.ring.length < 32 then (s2.setCan b (fun p => { p with ring := p.ring ++ [word] })).raiseCan b 1
  else (s2.bump 32 (Key.canCompletionsLost b)).raiseCan b 5

abbrev canDone : Nat := 0
abbrev canLostArb : Nat := 1
abbrev canError : Nat := 2
abbrev canCancelled : Nat := 3
abbrev canLateCancel : Nat := 4

/-! ### The queue and its slots (R490) -/

/-- Frames of the slave move up into a free place (log 41). -/
def CanPort.refill (p : CanPort) : CanPort :=
  let room := 32 - p.queue.length
  { p with queue := p.queue ++ p.backlog.take room, backlog := p.backlog.drop room }

/-- The entry that stands in a slot, or at the head. -/
def CanPort.entry (p : CanPort) : CanSlot → Option CanEntry
  | .reference => p.reference
  | .urgent => p.urgent
  | .head => p.queue.head?

/-- Change the entry of a slot. -/
def CanPort.mark (p : CanPort) (f : CanEntry → CanEntry) : CanSlot → CanPort
  | .reference => { p with reference := p.reference.map f }
  | .urgent => { p with urgent := p.urgent.map f }
  | .head => { p with queue := (p.queue.take 1).map f ++ p.queue.drop 1 }

/-- The entry waits for its NOT_BEFORE (R496). -/
def State.entryWaits (s : State) (e : CanEntry) : Bool := e.atTime && !e.released && decide (s.moduleNs < e.notBefore)

/-- The entry of a slot that can be driven: its controller takes part in the bus and drives it, and the entry does not wait (R485, R496). -/
def State.slotReady (s : State) (w : OnWire) : Option CanEntry :=
  if s.onBus w.port = false ∨ s.listenOnly w.port then none
  else ((s.can[w.port]).entry w.slot).filter (fun e => !s.entryWaits e)

/-- What contends: the first slot that holds a frame, in the order of R490 (R514), unless its entry waits. -/
def State.contender (s : State) (b : Fin 2) : Option CanSlot :=
  (([.reference, .urgent, .head] : List CanSlot).find? (fun k => ((s.can[b]).entry k).isSome)).filter (fun k => (s.slotReady ⟨b, k⟩).isSome)

/-- The entry of a frame on the bus: what contends, or what did when a slot ahead of it filled (R490). -/
def State.onWire (s : State) (w : OnWire) : Option CanEntry :=
  if s.contender w.port = some w.slot ∨ (s.can[w.port]).begun = some w.slot then s.slotReady w else none

/-- A slot of controller `b` fills: a frame that is on the bus meanwhile stays there. -/
def State.fillSlot (s : State) (b : Fin 2) (f : CanPort → CanPort) : State :=
  let c := s.contender b
  s.setCan b (fun p => { f p with begun := p.begun.or c })

/-- A frame on the bus of controller `b` has ended. -/
def State.frameOver (s : State) (b : Fin 2) : State := s.setCan b (fun p => { p with begun := none })

/-- Move the first MIRROR_OK entry of CAN A in bus-off into CAN B's free urgent slot (R501). -/
def State.mirrorMove (s : State) : State :=
  let a := s.can[(0 : Fin 2)]
  let b := s.can[(1 : Fin 2)]
  if s.nat (Key.canRole 1) = 2 ∧ s.bus 0 = busOff ∧ s.onBus 1 = true ∧ b.urgent = none then
    match a.queue.find? (fun e => e.mirrorOk && (!e.fdf || s.fdOn 1)) with
    | none => s
    | some e =>
      let s1 := s.setCan 0 (fun p => ({ p with queue := p.queue.erase e, moved := true }).refill)
      let s2 := (s1.fillSlot 1 (fun p => { p with urgent := some e })).bump 32 (Key.canMirrorMoves 0)
      let s3 := if a.moved then s2 else s2.log 0x0803 noSource
      s3.raiseCan 1 7
  else s

/-- The entry of a slot leaves with a completion; nothing completes for the reference slot. -/
def State.endWire (s : State) (w : OnWire) (e : CanEntry) (status : Nat) : State :=
  let b := w.port
  match w.slot with
  | .reference => s.setCan b (fun p => { p with reference := none })
  | .urgent =>
    let s1 := (s.setCan b (fun p => { p with urgent := none })).canComplete 0 e status true
    (s1.raiseCan b 6).mirrorMove
  | .head => (s.setCan b (fun p => ({ p with queue := p.queue.drop 1 }).refill)).canComplete b e status false

/-- A write to the transmit port is refused: its tag, where the write is long enough to hold one, and a full queue's count (R491, R516). -/
def State.portRefuse (s : State) (p : Path) (b : Fin 2) (bs : List Byte) (r : Refused) : State :=
  let s1 := if 8 ≤ bs.length then s.putN (Key.canTagOfLastRefusal b) (entryOf bs).tag else s
  (if r = .state (Key.canTransmitPort b) ∧ s.listenOnly b = false then s1.bump 32 (Key.canQueueLimitReached b) else s1).refuse p r

/-- A write to the transmit port that has passed R117 (R492, R493): refused for its content, or queued in the order its checks passed. It
commits at the next tick start (R123). -/
def State.portWrite (s : State) (p : Path) (b : Fin 2) (bs : List Byte) : State :=
  let e := entryOf bs
  if entryOk (s.fdOn b) (s.moduleNs + 62500) bs.length e = false then s.portRefuse p b bs (.range (Key.canTransmitPort b))
  else
    let g := s.guardEntry b e
    ((g.2.setCan b (fun q => { q with queue := q.queue ++ [g.1] })).mirrorMove).answer p .done

/-- The transmit port's DICT access: the checks of R117, the port's state among them, then the port's own. -/
def State.transmitWrite (s : State) (p : Path) (b : Fin 2) (bs : List Byte) : State :=
  match (s.touch p).checkWrite p (Key.canTransmitPort b) (.bytes bs) with
  | .error e => (s.touch p).portRefuse p b bs e
  | .ok _ => (s.touch p).portWrite p b bs

/-- TRANSMIT_PORT_WRITE. -/
def execTransmitPortWrite (p : Path) (b : Fin 2) (data : List Byte) (s : State) : Host.Outcome State Fault Refusal :=
  .next (s.served (fun s => s.transmitWrite p b data))

/-- Cancel the entries with a tag in the queue of `b`, in the urgent slot of CAN B, or contending (R497); the two truth values
say whether the head of `b` and the urgent slot's frame have reached their SOF moment. -/
def State.cancelTag (s : State) (b : Fin 2) (tag : Nat) (headSof urgentSof : Bool) : State :=
  let hit := fun (e : CanEntry) => e.tag == tag && !e.own
  let late := fun (s : State) (w : OnWire) (sof : Bool) =>
    if sof && (s.onWire w).any hit then s.setCan w.port (fun p => p.mark (fun e => { e with cancelled := true }) w.slot) else s
  let s2 := late (late s ⟨1, .urgent⟩ urgentSof) ⟨b, .head⟩ headSof
  let s3 := match (s2.can[(1 : Fin 2)]).urgent with
    | some e => if hit e && !e.cancelled then (((s2.setCan 1 (fun p => { p with urgent := none })).canComplete 0 e canCancelled true).raiseCan 1 6)
        else s2
    | none => s2
  let gone := (s3.can[b]).queue.filter (fun e => hit e && !e.cancelled)
  let s4 := s3.setCan b (fun p => ({ p with queue := p.queue.filter (fun e => !(hit e && !e.cancelled)) }).refill)
  (gone.foldl (fun s e => s.canComplete b e canCancelled false) s4).mirrorMove

/-- A cancel over a path that does not say whether a frame has reached its SOF moment: left open (log 1). -/
def State.cancelOpen (s : State) (b : Fin 2) (tag : Nat) : State :=
  let f := s.freeNat
  f.2.cancelTag b tag (f.1 % 2 == 1) (f.1 / 2 % 2 == 1)

/-- TRANSMIT_CANCEL: a tag written to 0x36x0:21. -/
def execTransmitCancel (p : Path) (b : Fin 2) (tag : Nat) (headSof urgentSof : Bool) (s : State) : Host.Outcome State Fault Refusal :=
  .next (s.commanded p (Key.canCancel b) tag (fun s => s.cancelTag b tag headSof urgentSof))

/-- Of the urgent slot and the head, the one whose entry waits for the earlier NOT_BEFORE. -/
def State.waitingSlot (s : State) (b : Fin 2) : CanSlot :=
  let p := s.can[b]
  let waits := fun (k : CanSlot) => (p.entry k).filter (fun e => s.entryWaits e)
  match waits .urgent, waits .head with
  | some u, some h => if h.notBefore < u.notBefore then .head else .urgent
  | some _, none => .urgent
  | none, _ => .head

/-- NOT_BEFORE_REACHED: the entry that waits contends (R496). -/
def execNotBeforeReached (b : Fin 2) (s : State) : Host.Outcome State Fault Refusal :=
  .next (s.served (fun s => s.setCan b (fun p => p.mark (fun e => { e with released := true }) (s.waitingSlot b))))

/-! ### Error counters (R499, R500) -/

/-- The counters after an error or a good frame, and the state that follows (R499). -/
def State.canCounters (s : State) (b : Fin 2) (tec rec_ : Nat) : State :=
  let s1 := (s.putN (Key.canTEC b) (min 256 tec)).putN (Key.canREC b) (min 255 rec_)
  let passive := decide (128 ≤ tec) || decide (128 ≤ rec_)
  if 255 < tec then
    let s2 := (((s1.putN (Key.canBusState b) busOff).bump 32 (Key.canBusOffEvents b)).log 0x0801 b.val (min 256 tec) (min 255 rec_)).raiseCan b 3
    s2.setCan b (fun p => { p with recovering := false, moved := false })
  else if s.bus b = busActive ∧ passive then
    ((s1.putN (Key.canBusState b) busPassive).log 0x0802 b.val (min 256 tec) (min 255 rec_)).raiseCan b 2
  else if s.bus b = busPassive ∧ passive = false then (s1.putN (Key.canBusState b) busActive).raiseCan b 2
  else s1

/-- The frame that was on the bus has failed or lost (R495, R497): a cancelled entry ends, a one-shot entry ends with
`status`, any other is tried again. -/
def State.frameFailed (s : State) (w : OnWire) (status : Nat) : State :=
  match s.onWire w with
  | none => s
  | some e =>
    if w.slot = .reference then s
    else if e.cancelled then s.endWire w e canCancelled
    else if e.oneShot || s.flag (Key.canOneShotAll w.port) then s.endWire w e status else s

/-- FRAME_ERROR of a kind (the codes of 0x36x0:28): the counters follow ISO 11898-1 for the error's class (log 42); an error in
the module's own frame fails it. CAN A's bus-off lets CAN B carry its MIRROR_OK entries (R501). -/
def execFrameError (w : OnWire) (kind : Fin 7) (c : ErrorClass) (s : State) : Host.Outcome State Fault Refusal :=
  .next (s.served (fun s => let b := w.port
    if s.onBus b = false then s
    else
      let tec := s.nat (Key.canTEC b)
      let rec_ := s.nat (Key.canREC b)
      let s1 := s.putN (Key.canLastError b) kind
      let s2 := match c with
        | .transmit => (s1.frameFailed w canError).canCounters b (tec + 8) rec_
        | .transmitExempt => s1.frameFailed w canError
        | .receive => s1.canCounters b tec (rec_ + 1)
        | .receiveSevere => s1.canCounters b tec (rec_ + 8)
      (s2.mirrorMove).frameOver b))

/-- ARBITRATION_LOST (R495). -/
def execArbitrationLost (w : OnWire) (s : State) : Host.Outcome State Fault Refusal :=
  .next (s.served (fun s => (s.frameFailed w canLostArb).frameOver w.port))

/-- The reference message sent: counted, its SOF kept for the next one (R506). -/
def State.referenceSent (s : State) (b : Fin 2) (t : Nat) : State :=
  let s1 := (s.bump 32 (Key.cantimeReferencesSent b)).putN (Key.cantimeLastReferenceSOFSeconds b) (t / 1000000000 % 2 ^ 32)
  ((s1.putN (Key.cantimeLastReferenceSOFNanoseconds b) (t % 1000000000)).setCan b (fun p => { p with lastSof := some t })).raiseCan b 6

/-- A frame of the module's own went out and was acknowledged: TEC one down (R499). -/
def State.canSent (s : State) (b : Fin 2) : State :=
  (s.bump 32 (Key.canFramesSent b)).canCounters b (s.nat (Key.canTEC b) - 1) (s.nat (Key.canREC b))

/-- FRAME_TRANSMITTED: the frame on the bus is sent with its SOF at module time `t` ns, and the transmitter delay measured where the
frame had BRS (R489, R498). -/
def execFrameTransmitted (w : OnWire) (t : Nat) (delay : Option (Fin 128)) (s : State) : Host.Outcome State Fault Refusal :=
  .next (s.served (fun s => let b := w.port
    let measured := fun (s : State) => match delay with
      | some d => s.putN (Key.canbitMeasuredTransmitterDelay b) d.val
      | none => s
    match s.onWire w with
      | none => s
      | some e =>
        let s1 := s.endWire w e (if e.cancelled then canLateCancel else canDone)
        let s2 := (if w.slot = .reference then s1.referenceSent b t else s1).canSent b
        (if e.brs && s.tdcActive b then measured s2 else s2).frameOver b))

/-- BUS_INTEGRATED: 11 recessive bits, the controller joins the bus (R483). -/
def execBusIntegrated (b : Fin 2) (s : State) : Host.Outcome State Fault Refusal :=
  .next (s.served (fun s => if s.bus b = busIntegrating then (s.putN (Key.canBusState b) busActive).mirrorMove else s))

/-- BUS_OFF_RECOVERED: the recovery sequence ends (R500). -/
def execBusOffRecovered (b : Fin 2) (s : State) : Host.Outcome State Fault Refusal :=
  .next (s.served (fun s => if s.canRecovering b then
      let s1 := (s.zero [Key.canTEC b, Key.canREC b]).putN (Key.canBusState b) busActive
      (((s1.setCan b (fun p => { p with recovering := false, moved := false })).log 0x0804 noSource).raiseCan b 4).mirrorMove
    else s))

/-- What a Recover command does (R500). -/
def State.busRecover (s : State) (b : Fin 2) : State := s.setCan b (fun p => { p with recovering := true })

/-- BUS_OFF_RECOVER: refused outside BUS_OFF (R500). -/
def execBusOffRecover (p : Path) (b : Fin 2) (s : State) : Host.Outcome State Fault Refusal :=
  .next (s.commanded p (Key.canRecover b) 1 (fun s => s.busRecover b))

/-! ### Reading completions -/

/-- Reading 0x36x0:22 removes the oldest record; the empty ring reads 0x0000_7F00 (R498). -/
def State.takeCompletion (s : State) (b : Fin 2) : Nat × State :=
  match (s.can[b]).ring with
  | [] => (0x7F00, s)
  | w :: ws => (w, s.setCan b (fun p => { p with ring := ws }))

/-- COMPLETION_READ. -/
def execCompletionRead (p : Path) (b : Fin 2) (s : State) : Host.Outcome State Fault Refusal :=
  .next (s.served (fun s => match (s.touch p).checkRead (Key.canCompletion b) with
    | .error e => (s.touch p).refuse p e
    | .ok _ =>
      let r := (s.touch p).takeCompletion b
      r.2.answer p (.value (Int.ofNat r.1))))

/-! ### Receive (R502-R505) -/

/-- The element matches a frame's identifier. -/
def FilterElement.takes (f : FilterElement) (ide : Bool) (id : Nat) : Bool :=
  f.ide == ide && (match f.type with
    | 1 => decide (f.id1 ≤ id) && decide (id ≤ f.id2)
    | 2 => id == f.id1 || id == f.id2
    | 3 => id &&& f.id2 == f.id1 &&& f.id2
    | _ => false)

/-- The record of a received frame (R503). -/
def rxRecord (f : CanFrame) (element check seq t : Nat) : List Byte :=
  leBytes 4 f.id ++ leBytes 2 (check * 4096 + element * 16 + f.dlc) ++ leBytes 2 seq ++ leBytes 8 t ++ f.data

/-- The object that takes a frame in OBJECT mode: the lowest enabled one with its identifier (R504). -/
def State.rxObject (s : State) (b : Fin 2) (f : CanFrame) : Option (Fin 64) :=
  (List.finRange 64).find? (fun (k : Fin 64) =>
    let w := s.nat (Key.canfiltObjectId b k)
    w.testBit 31 && (w.testBit 30 == f.id.testBit 31) && field w 28 0 == field f.id 28 0)

/-- The receive sequence number goes on. -/
def State.rxNext (s : State) (b : Fin 2) : State := s.setCan b (fun p => { p with rxSeq := (p.rxSeq + 1) % 65536 })

/-- Store a frame in object `k` (R504), checked by the controller's unit where the object has COWL (R571). -/
def State.storeObject (s : State) (b : Fin 2) (k : Fin 64) (f : CanFrame) (t : Nat) : State :=
  let n := s.nat (Key.canSafetyCheckUnit b)
  let u : Fin 4 := ⟨n % 4, by omega⟩
  let c : Nat × State := if (s.nat (Key.canfiltObjectId b k)).testBit 29 && decide (2 ≤ f.data.length) then
      let id := f.id % 4096
      let ctr := (f.data.getD 1 0).toNat / 16
      s.cowlReceive u id ctr (decide ((f.data.getD 0 0).toNat = s.cowlCheck u id ctr (f.data.drop 2) % 256))
    else (0, s)
  let s1 := c.2
  let seq := (s1.can[b]).rxSeq
  let old := s1.nat (Key.canfiltObjectStatus b k)
  let lost := old.testBit 0 || old.testBit 1
  let s2 := s1.putBlock (Key.canfiltObjectData b k) (rxRecord f 0xF c.1 seq t)
  let s3 := s2.putN (Key.canfiltObjectStatus b k) (seq % 256 * 256 + 2 * b2n lost + 1)
  let s4 := (s3.bump 32 (Key.canFramesReceived b)).rxNext b
  let s5 := s4.raiseCan b 0
  if old.testBit 0 then s5.raiseCan b 5 else s5

/-- Store a frame in the FIFO, or discard it at a full one: the first discard since it was empty logs 0x0805 (R505). -/
def State.storeFifo (s : State) (b : Fin 2) (element : Nat) (f : CanFrame) (t : Nat) : State :=
  let p := s.can[b]
  if p.fifo.length < 64 then
    let s1 := s.setCan b (fun p => { p with fifo := p.fifo ++ [rxRecord f element 0 p.rxSeq t] })
    ((s1.bump 32 (Key.canFramesReceived b)).rxNext b).raiseCan b 0
  else
    let s1 := (s.bump 32 (Key.canfiltFIFODiscards b)).raiseCan b 5
    if p.fullLogged then s1 else (s1.setCan b (fun p => { p with fullLogged := true })).log 0x0805 noSource

/-- The user reception of a frame in LIST mode (R505). -/
def State.rxList (s : State) (b : Fin 2) (f : CanFrame) (t : Nat) : State :=
  let l := filterList (s.block (Key.canfiltFilterList b))
  match l.findIdx? (fun e => e.takes (f.id.testBit 31) (field f.id 28 0)) with
  | some i =>
    if (l.map (fun e => e.action)).getD i 1 ≠ 0 then s
    else if i < 16 then s.storeFifo b i f t
    else
      -- the field has 4 bits: what it holds of an element number above 15 is left open (log 43)
      let g := s.freeNat
      g.2.storeFifo b (g.1 % 16) f t
  | none => if s.nat (Key.canfiltUnmatchedAction b) = 0 then s.storeFifo b 0xF f t else s

/-- A good frame received: REC one down, or below the passive limit, to a value from 119 to 127 that ISO 11898-1 leaves open
(log 42). -/
def State.rxGood (s : State) (b : Fin 2) : State :=
  let r := s.nat (Key.canREC b)
  if r ≤ 127 then s.canCounters b (s.nat (Key.canTEC b)) (r - 1)
  else
    let f := s.freeNat
    f.2.canCounters b (s.nat (Key.canTEC b)) (119 + f.1 % 9)

/-! ### What the CANopen slave accepts (R502, R510, R511) -/

/-- The node-ID (R510). -/
def State.nodeId (s : State) : Nat := s.nat (Key.canNodeID 0)

/-- A COB-ID as the ID word of a frame: bit 29 says that it has 29 bits (CiA 301, log 20). -/
def cobWord (v : Nat) : Nat := if v.testBit 29 then 2 ^ 31 + v % 2 ^ 29 else v % 2 ^ 11

/-- A COB-ID of the predefined connection set follows the node-ID while its object stands at its default (log 20). -/
def State.cobOf (s : State) (key base : Nat) : Nat := if s.get key = objDefault key then base + s.nodeId else s.nat key

/-- COB-IDs: of a PDO, none while bit 31 disables it; PDO 0-3 follow the predefined connection set. -/
def State.pdoCob (s : State) (key base k : Nat) : Option Nat :=
  if s.nat key / 2 ^ 31 = 1 then none
  else some (if k < 4 then s.cobOf key (base + 0x100 * k) else s.nat key)

/-- The node-ID and the time in ms of heartbeat consumer `i` (0x1016; CiA 301, log 20). -/
def State.consumerNode (s : State) (i : Nat) : Nat := s.nat (Key.hbconsConsumer i) / 65536 % 256
def State.consumerTime (s : State) (i : Nat) : Nat := s.nat (Key.hbconsConsumer i) % 65536

/-- The consumers that an ID word is a heartbeat for. -/
def State.consumersOf (s : State) (id : Nat) : List (Fin 4) :=
  (List.finRange 4).filter (fun (i : Fin 4) => s.consumerNode i.val != 0 && s.consumerTime i.val != 0 && id == 0x700 + s.consumerNode i.val)

/-- The services that take frames (R511). -/
inductive SlaveService where
  | nmt | sync | sdo | rpdo (k : Fin 8) | heartbeat
deriving DecidableEq, Repr

/-- A service's COB-ID is the ID word `id`. -/
def State.slaveTakes (s : State) (id : Nat) : SlaveService → Bool
  | .nmt => id == 0
  | .sync => id == cobWord (s.nat Key.synccobCOBID)
  | .sdo => id == cobWord (s.cobOf Key.sdoserverCOBClientToServer 0x600)
  | .rpdo k => (s.pdoCob (Key.rpdoCOBID k) 0x200 k).any (fun c => cobWord c == id)
  | .heartbeat => !(s.consumersOf id).isEmpty

/-- The service that owns a frame which matches several: the first in the order in which R511 lists them, of RPDOs the lowest (DESIGN CHOICE,
log 188). -/
def State.slaveOwner (s : State) (id : Nat) : Option SlaveService :=
  (([.nmt, .sync, .sdo] : List SlaveService) ++ (List.finRange 8).map SlaveService.rpdo ++ [SlaveService.heartbeat]).find? (s.slaveTakes id)

/-- The ID word of the SDO client's frames, and whether the server owns them. -/
def State.sdoOwned (s : State) : Bool := s.slaveOwner (cobWord (s.cobOf Key.sdoserverCOBClientToServer 0x600)) == some .sdo

/-- A heartbeat of a consumed node: it is absent no more (R511). -/
def State.heartbeatHeard (s : State) (b : Fin 2) (f : CanFrame) : State :=
  if b ≠ 0 ∨ f.id.testBit 30 ∨ s.canopen.nmt = 0 ∨ s.slaveOwner f.id ≠ some .heartbeat then s
  else
    let l := s.consumersOf f.id
    { s with canopen := { s.canopen with absent := s.canopen.absent.filter (fun i => !l.contains i) } }

/-- FRAME_RECEIVED: the user reception of a valid frame whose SOF was at module time `t` ns (R502). Remote frames are discarded
(R482); an FD frame with FD disabled is a form error (R488). What the CANopen slave takes has commands of its own. -/
def execFrameReceived (b : Fin 2) (f : CanFrame) (t : Nat) (s : State) : Host.Outcome State Fault Refusal :=
  .next (s.served (fun s => if s.onBus b = false ∨ f.data.length ≠ frameLength f ∨ 16 ≤ f.dlc then s
    else if f.id.testBit 30 && !s.fdOn b then
      ((s.putN (Key.canLastError b) 2).canCounters b (s.nat (Key.canTEC b)) (s.nat (Key.canREC b) + 1)).mirrorMove
    else
      let s0 := s.rxGood b
      let s1 := if f.remote then s0 else s0.heartbeatHeard b f
      if f.remote then s1
      else if s.nat (Key.canReceiveMode b) = 0 then
        (match s1.rxObject b f with
         | some k => s1.storeObject b k f t
         | none => s1)
      else s1.rxList b f t))

/-- Reading 0x36x2:03 removes the oldest FIFO record (R505). -/
def State.takeFifo (s : State) (b : Fin 2) : List Byte × State :=
  match (s.can[b]).fifo with
  | [] => ([], s)
  | r :: rs => (r, s.setCan b (fun p => { p with fifo := rs, fullLogged := p.fullLogged && !rs.isEmpty }))

/-- FIFO_READ. -/
def execFifoRead (p : Path) (b : Fin 2) (s : State) : Host.Outcome State Fault Refusal :=
  .next (s.served (fun s => match (s.touch p).checkRead (Key.canfiltFIFORead b) with
    | .error e => (s.touch p).refuse p e
    | .ok _ =>
      let r := (s.touch p).takeFifo b
      r.2.answer p (.block r.1)))

/-- Writing 1 to NEWDAT or LOST clears it (R504). -/
def State.clearObjectStatus (s : State) (b : Fin 2) (k : Fin 64) (v : Nat) : State :=
  let key := Key.canfiltObjectStatus b k
  let s1 := if v.testBit 0 then s.putBit key 0 false else s
  if v.testBit 1 then s1.putBit key 1 false else s1

/-- OBJECT_STATUS_CLEAR. -/
def execObjectStatusClear (p : Path) (b : Fin 2) (k : Fin 64) (v : Nat) (s : State) : Host.Outcome State Fault Refusal :=
  .next (s.commanded p (Key.canfiltObjectStatus b k) v (fun s => s.clearObjectStatus b k v))

/-! ### Time reference (R506) -/

/-- The reference message's data: the SOF of the one before, with UNSYNCED; all ones where none is known. -/
def State.referenceData (s : State) (b : Fin 2) : List Byte :=
  match (s.can[b]).lastSof with
  | some t => leBytes 4 (t / 1000000000 % 2 ^ 32) ++ leBytes 4 (b2n (!s.timeSynced) * 2 ^ 31 + t % 1000000000)
  | none => List.replicate 8 0xFF

/-- The reference message with these data: a classical frame of 8 bytes with the identifier 0x3610:03. -/
def State.referenceEntry (s : State) (b : Fin 2) (data : List Byte) : CanEntry :=
  let id := s.nat (Key.cantimeReferenceIdentifier b)
  { id := id / 2 ^ 31 * 2 ^ 31 + id % 2 ^ 29, control := 8, tag := 0, notBefore := 0, data := data, own := true, released := false, cancelled := false }

/-- TIME_REFERENCE_DUE: at a period boundary CAN A fills its reference slot; a message still there is dropped and the new one
carries no time (R506, R514). -/
def execTimeReferenceDue (s : State) : Host.Outcome State Fault Refusal :=
  .next (s.served (fun s => if s.nat (Key.cantimeReferenceRole 0) = 1 ∧ s.process ≠ psKindling ∧ s.bus 0 ≠ busOff0 ∧ s.bus 0 ≠ busSleep ∧ s.listenOnly 0 = false then
      match (s.can[(0 : Fin 2)]).reference with
      | some _ =>
        (s.bump 32 (Key.cantimeReferencesDropped 0)).setCan 0 (fun p => { p with reference := some (s.referenceEntry 0 (List.replicate 8 0xFF)), lastSof := none })
      | none => s.fillSlot 0 (fun p => { p with reference := some (s.referenceEntry 0 (s.referenceData 0)) })
    else s))

/-! ### Statistics and status -/

/-- Clear 14, 2A-2E (R516). -/
def State.canStatsClear (s : State) (b : Fin 2) : State :=
  s.zero [Key.canQueueLimitReached b, Key.canFramesSent b, Key.canFramesReceived b, Key.canBusOffEvents b, Key.canCompletionsLost b,
    Key.canMirrorMoves b]

/-- CAN_STATISTICS_CLEAR. -/
def execCanStatisticsClear (p : Path) (b : Fin 2) (s : State) : Host.Outcome State Fault Refusal :=
  .next (s.commanded p (Key.canClearStatistics b) 1 (fun s => s.canStatsClear b))

/-- The head waits on NOT_BEFORE (R517). -/
def State.headWaiting (s : State) (b : Fin 2) : Bool :=
  match (s.can[b]).queue with
  | e :: _ => s.entryWaits e
  | [] => false

/-- The status word 0x36x0:29 (R517); the urgent slot and the moves concern both controllers, and both words show them. -/
def State.canStatusWord (s : State) (b : Fin 2) : Nat :=
  b2n (s.bus b == busPassive) + 2 * b2n (s.bus b == busOff)
    + 4 * b2n (decide (96 ≤ s.nat (Key.canTEC b)) || decide (96 ≤ s.nat (Key.canREC b)))
    + 8 * b2n (s.tdcActive b) + 16 * b2n (s.headWaiting b) + 32 * b2n (decide (64 ≤ (s.can[b]).fifo.length))
    + 64 * b2n (s.can[(1 : Fin 2)]).urgent.isSome
    + 128 * b2n (s.bus 0 == busOff && s.nat (Key.canRole 1) == 2 && s.onBus 1)

/-! ### Frames of the CANopen slave (R490, R510) -/

/-- Place a classical frame of the slave in CAN A's queue (R490); LISTEN_ONLY silences it (R485). -/
def State.sendOwn (s : State) (cob : Nat) (data : List Byte) : State :=
  if s.bus 0 = busOff0 ∨ s.listenOnly 0 then s
  else
    let e : CanEntry := { id := cobWord cob, control := data.length, tag := 0, notBefore := 0, data := data, own := true, released := false, cancelled := false }
    s.setCan 0 (fun p => ({ p with backlog := p.backlog ++ [e] }).refill)

/-- Object 0x1001: bit 0 in FAULT; bit 4 while CAN A is passive or recovering, or a consumed heartbeat is absent (R511, R512). -/
def State.errorRegister (s : State) : Nat :=
  b2n (s.process == psFault)
    + 16 * b2n (s.bus 0 == busPassive || s.canRecovering 0 || !s.canopen.absent.isEmpty)

/-- EMCY frames may be sent: NMT pre-operational or operational, not LISTEN_ONLY, not in Kindling mode (R512), and the EMCY exists by bit 31
of 0x1014 (CiA 301, log 20). -/
def State.emcyAllowed (s : State) : Bool :=
  !(s.nat Key.emcycobCOBID).testBit 31 && (s.canopen.nmt == 127 || s.canopen.nmt == 5) && !s.listenOnly 0 && s.process != psKindling

/-- Queue an EMCY, and enter it in the error history (CiA 301, log 20). -/
def State.emcyQueue (s : State) (code more : Nat) (tail : List Byte) : State :=
  let s1 := s.sendOwn (s.cobOf Key.emcycobCOBID 0x80) (leBytes 2 code ++ leBytes 1 s.errorRegister ++ tail)
  if code = 0 then s1
  else
    let old := (List.range 7).map (fun i => s.get (Key.errhistErrorField i))
    let s2 := (List.range 7).foldl (fun s i => s.put (Key.errhistErrorField (i + 1)) (old.getD i 0)) s1
    (s2.putN (Key.errhistErrorField 0) (more * 65536 + code)).putN Key.errhistNumberOfErrors (min 8 (s.nat Key.errhistNumberOfErrors + 1))

/-- Send an EMCY, or hold it back while the inhibit time runs (R510, R512). -/
def State.emcySend (s : State) (code more : Nat) (tail : List Byte) : State :=
  if s.emcyAllowed = false then s
  else if s.canopen.emcyInhibited then
    { s with canopen := { s.canopen with emcyHeld := s.canopen.emcyHeld ++ [leBytes 2 code ++ leBytes 2 more ++ tail] } }
  else
    let s1 := s.emcyQueue code more tail
    if s.nat Key.emcyinhInhibitTime = 0 then s1 else { s1 with canopen := { s1.canopen with emcyInhibited := true } }

/-- The EMCY of a new Ash record of severity at or above 0x3600:0B (R512). -/
def State.emcyRecord (s : State) (r : AshRecord) : State :=
  if s.nat (Key.canEMCYSeverity 0) ≤ r.event.severity then
    s.emcySend 0xFF00 r.event.code (leBytes 2 r.event.code ++ leBytes 1 r.event.source ++ leBytes 2 r.repeats)
  else s

/-- The EMCY sent when the process state leaves FAULT (R512). -/
def State.emcyReset (s : State) : State :=
  s.emcySend 0 0 (leBytes 2 (s.nat Key.procFaultCause) ++ [0xFF] ++ leBytes 2 0)

/-- EMCY_INHIBIT_END: the oldest EMCY held back is queued and the inhibit time runs again; else it has ended (R510). -/
def execEmcyInhibitEnd (s : State) : Host.Outcome State Fault Refusal :=
  .next (s.served (fun s => match s.canopen.emcyHeld with
    | [] => { s with canopen := { s.canopen with emcyInhibited := false } }
    | h :: hs =>
      let s1 : State := { s with canopen := { s.canopen with emcyHeld := hs, emcyInhibited := !hs.isEmpty || s.nat Key.emcyinhInhibitTime != 0 } }
      if s1.emcyAllowed then s1.emcyQueue (leNat (h.take 2)) (leNat ((h.drop 2).take 2)) (h.drop 4) else s1))

/-! ### Coming up, restarting, sleeping (R483, R484, R508, R110) -/

/-- CAN A enters NMT pre-operational from initialisation: boot-up message, no transfer, no PDO waiting (R110). -/
def State.nmtBootUp (s : State) : State :=
  let s1 := { s with canopen := { Canopen.reset with nmt := 127 } }
  s1.sendOwn (0x700 + s.nodeId) [0]

/-- Controller `b` starts on its present values, with nothing queued or received: INTEGRATING if enabled, else OFF (R483). -/
def State.canStart (s : State) (b : Fin 2) : State :=
  let on := if s.process = psKindling then b == 0 else s.flag (Key.canEnable b)
  let s1 := (s.zero [Key.canTEC b, Key.canREC b]).putN (Key.canBusState b) (if on then busIntegrating else busOff0)
  if b = 0 then (if on then s1.nmtBootUp else { s1 with canopen := { s1.canopen with nmt := 0 } }) else s1

/-- What controller `b` has received is gone: the FIFO and the objects' records with their status (R484, R508). -/
def State.canForget (s : State) (b : Fin 2) : State :=
  (List.range 64).foldl (fun s k => (s.putBlock (Key.canfiltObjectData b k) []).putN (Key.canfiltObjectStatus b k) 0)
    (s.setCan b (fun p => { p with fifo := [], fullLogged := false }))

/-- A committed write to the settings of controller `b`: OFF, every entry CANCELLED, nothing received kept, then a new start
(R484); in BUS_OFF that state is left (R513). -/
def State.canRestart (s : State) (b : Fin 2) : State :=
  let p := s.can[b]
  let s1 := s.setCan b (fun p => { p with queue := [], backlog := [], urgent := none, reference := none, begun := none, recovering := false,
                                          moved := false, lastSof := none })
  let s2 := (p.queue ++ p.backlog).foldl (fun s e => s.canComplete b e canCancelled false) s1
  let s3 := match p.urgent with
    | some e => (s2.canComplete 0 e canCancelled true).raiseCan b 6
    | none => s2
  ((if s.bus b = busOff then s3.raiseCan b 4 else s3).canForget b).canStart b

/-- CAN_CONTROLLER_RESTART: the settings are RS, so this happens in INIT and STOPPED only (R484). -/
def execCanControllerRestart (b : Fin 2) (s : State) : Host.Outcome State Fault Refusal :=
  .next (s.served (fun s => if s.process = psInit ∨ s.process = psStopped then s.canRestart b else s))

/-- BANKED: the controllers sleep; queues and rings are kept, received frames are not (R508). -/
def State.canSleep (s : State) : State :=
  (List.finRange 2).foldl (fun s (b : Fin 2) =>
    if s.bus b = busOff0 then s else ((s.canForget b).frameOver b).putN (Key.canBusState b) busSleep) s

/-- Wake from BANKED: each controller integrates afresh with both counters at 0 (R508). -/
def State.canWake (s : State) : State :=
  (List.finRange 2).foldl (fun s (b : Fin 2) =>
    if s.bus b = busSleep then
      ((s.zero [Key.canTEC b, Key.canREC b]).putN (Key.canBusState b) busIntegrating).setCan b
        (fun p => { p with recovering := false, moved := false, lastSof := none })
    else s) s

end Sys2Proof.Machine
end

