-- ==== Sys2Proof/Machine/Aes.lean ====
section
/-! DEFINITION. AES-128 (FIPS 197) and its CMAC (RFC 4493), for the site key's check value (R555) and the tags of frames (R554). Both are standards the spec
names and does not repeat (log 45). -/

namespace Sys2Proof.Machine

open Sys2Proof

/-- The S-box of FIPS 197. -/
def aesSbox : List Nat :=
  [0x63, 0x7C, 0x77, 0x7B, 0xF2, 0x6B, 0x6F, 0xC5, 0x30, 0x01, 0x67, 0x2B, 0xFE, 0xD7, 0xAB, 0x76] ++
  [0xCA, 0x82, 0xC9, 0x7D, 0xFA, 0x59, 0x47, 0xF0, 0xAD, 0xD4, 0xA2, 0xAF, 0x9C, 0xA4, 0x72, 0xC0] ++
  [0xB7, 0xFD, 0x93, 0x26, 0x36, 0x3F, 0xF7, 0xCC, 0x34, 0xA5, 0xE5, 0xF1, 0x71, 0xD8, 0x31, 0x15] ++
  [0x04, 0xC7, 0x23, 0xC3, 0x18, 0x96, 0x05, 0x9A, 0x07, 0x12, 0x80, 0xE2, 0xEB, 0x27, 0xB2, 0x75] ++
  [0x09, 0x83, 0x2C, 0x1A, 0x1B, 0x6E, 0x5A, 0xA0, 0x52, 0x3B, 0xD6, 0xB3, 0x29, 0xE3, 0x2F, 0x84] ++
  [0x53, 0xD1, 0x00, 0xED, 0x20, 0xFC, 0xB1, 0x5B, 0x6A, 0xCB, 0xBE, 0x39, 0x4A, 0x4C, 0x58, 0xCF] ++
  [0xD0, 0xEF, 0xAA, 0xFB, 0x43, 0x4D, 0x33, 0x85, 0x45, 0xF9, 0x02, 0x7F, 0x50, 0x3C, 0x9F, 0xA8] ++
  [0x51, 0xA3, 0x40, 0x8F, 0x92, 0x9D, 0x38, 0xF5, 0xBC, 0xB6, 0xDA, 0x21, 0x10, 0xFF, 0xF3, 0xD2] ++
  [0xCD, 0x0C, 0x13, 0xEC, 0x5F, 0x97, 0x44, 0x17, 0xC4, 0xA7, 0x7E, 0x3D, 0x64, 0x5D, 0x19, 0x73] ++
  [0x60, 0x81, 0x4F, 0xDC, 0x22, 0x2A, 0x90, 0x88, 0x46, 0xEE, 0xB8, 0x14, 0xDE, 0x5E, 0x0B, 0xDB] ++
  [0xE0, 0x32, 0x3A, 0x0A, 0x49, 0x06, 0x24, 0x5C, 0xC2, 0xD3, 0xAC, 0x62, 0x91, 0x95, 0xE4, 0x79] ++
  [0xE7, 0xC8, 0x37, 0x6D, 0x8D, 0xD5, 0x4E, 0xA9, 0x6C, 0x56, 0xF4, 0xEA, 0x65, 0x7A, 0xAE, 0x08] ++
  [0xBA, 0x78, 0x25, 0x2E, 0x1C, 0xA6, 0xB4, 0xC6, 0xE8, 0xDD, 0x74, 0x1F, 0x4B, 0xBD, 0x8B, 0x8A] ++
  [0x70, 0x3E, 0xB5, 0x66, 0x48, 0x03, 0xF6, 0x0E, 0x61, 0x35, 0x57, 0xB9, 0x86, 0xC1, 0x1D, 0x9E] ++
  [0xE1, 0xF8, 0x98, 0x11, 0x69, 0xD9, 0x8E, 0x94, 0x9B, 0x1E, 0x87, 0xE9, 0xCE, 0x55, 0x28, 0xDF] ++
  [0x8C, 0xA1, 0x89, 0x0D, 0xBF, 0xE6, 0x42, 0x68, 0x41, 0x99, 0x2D, 0x0F, 0xB0, 0x54, 0xBB, 0x16]

/-- Multiplication by x in GF(2^8). -/
def aesXtime (a : Nat) : Nat := if a < 128 then 2 * a else (2 * a - 256) ^^^ 0x1B

def aesSub (a : Nat) : Nat := aesSbox.getD a 0

def xorAll (a b : List Nat) : List Nat := List.zipWith (fun x y => x ^^^ y) a b

/-- The next round key from a round key and its constant. -/
def aesNextKey (k : List Nat) (rcon : Nat) : List Nat :=
  let g := fun i => k.getD i 0
  let t := [aesSub (g 13) ^^^ rcon, aesSub (g 14), aesSub (g 15), aesSub (g 12)]
  let w0 := xorAll (k.take 4) t
  let w1 := xorAll ((k.drop 4).take 4) w0
  let w2 := xorAll ((k.drop 8).take 4) w1
  let w3 := xorAll ((k.drop 12).take 4) w2
  w0 ++ w1 ++ w2 ++ w3

/-- SubBytes and ShiftRows on the 16 bytes in column order. -/
def aesSubShift (s : List Nat) : List Nat :=
  [0, 5, 10, 15, 4, 9, 14, 3, 8, 13, 2, 7, 12, 1, 6, 11].map (fun i => aesSub (s.getD i 0))

/-- MixColumns on one column. -/
def aesMixColumn (c : List Nat) : List Nat :=
  let g := fun i => c.getD (i % 4) 0
  (List.range 4).map (fun i => aesXtime (g i) ^^^ (aesXtime (g (i + 1)) ^^^ g (i + 1)) ^^^ g (i + 2) ^^^ g (i + 3))

def aesMix (s : List Nat) : List Nat :=
  aesMixColumn (s.take 4) ++ aesMixColumn ((s.drop 4).take 4) ++ aesMixColumn ((s.drop 8).take 4) ++ aesMixColumn (s.drop 12)

/-- The nine middle rounds and the last. -/
def aesRounds : List Nat → List Nat → List Nat → List Nat
  | [], _, s => s
  | [r], k, s => xorAll (aesSubShift s) (aesNextKey k r)
  | r :: rs, k, s =>
    let k1 := aesNextKey k r
    aesRounds rs k1 (xorAll (aesMix (aesSubShift s)) k1)

/-- AES-128 of a 16-byte block. -/
def aes128 (key block : List Nat) : List Nat :=
  aesRounds [0x01, 0x02, 0x04, 0x08, 0x10, 0x20, 0x40, 0x80, 0x1B, 0x36] key (xorAll block key)

/-- Doubling in GF(2^128), for the subkeys of RFC 4493. -/
def cmacDouble (l : List Nat) : List Nat :=
  let x := l.foldl (fun a b => a * 256 + b) 0
  let y := if x < 2 ^ 127 then 2 * x else (2 * x - 2 ^ 128) ^^^ 0x87
  (List.range 16).map (fun i => y / 256 ^ (15 - i) % 256)

/-- The AES-CMAC of 16 zero bytes: one whole block under the first subkey. -/
def cmacOfZeros (key : List Nat) : List Nat :=
  aes128 key (cmacDouble (aes128 key (List.replicate 16 0)))

/-- The blocks of a message before its last one through the cipher, then the last one under its subkey (RFC 4493). -/
def cmacFrom (key k1 : List Nat) : Nat → List Nat → List Nat → List Nat
  | 0, x, m =>
    let last := if m.length = 16 then xorAll m k1 else xorAll ((m ++ [0x80] ++ List.replicate 15 0).take 16) (cmacDouble k1)
    aes128 key (xorAll last x)
  | n + 1, x, m => cmacFrom key k1 n (aes128 key (xorAll (m.take 16) x)) (m.drop 16)

/-- The AES-CMAC of a message of octets. -/
def cmac (key m : List Nat) : List Nat :=
  cmacFrom key (cmacDouble (aes128 key (List.replicate 16 0))) ((m.length + 15) / 16 - 1) (List.replicate 16 0) m

end Sys2Proof.Machine
end

