-- ==== Sys2Proof/Machine/FlueWire.lean ====
section
/-! DEFINITION. Flue frames in octets, from the destination MAC to the FCS: addresses (R522), header (R525), payload, trailer,
authentication tag, padding and FCS (R524, R554). -/

namespace Sys2Proof.Machine

open Sys2Proof

/-! ### What a body is -/

/-- The TYPE code of a body (R526); gPTP messages have none. -/
def typeCode : FlueBody → Nat
  | .hello _ => 0x01 | .linkState _ => 0x02 | .head _ => 0x03 | .seat _ _ _ => 0x04 | .status _ => 0x05
  | .banking _ => 0x06 | .bankingAnswer _ _ => 0x06 | .awake => 0x07 | .plan _ _ _ _ => 0x08 | .dictReq _ => 0x09
  | .dictRsp _ => 0x0A | .domSeg _ => 0x0B | .boundary _ => 0x0C | .log _ => 0x0D | .map _ => 0x0E | .gptp _ _ => 0

/-- The egress queue of a body: 0 SYNC, 1 gPTP, 2 CTRL, 3 DICT, 4 BULK (R523, R526). -/
def queueOf : FlueBody → Fin 5
  | .boundary _ => 0
  | .gptp _ _ => 1
  | .dictReq _ => 3
  | .dictRsp _ => 3
  | .plan _ _ _ _ => 4
  | .domSeg _ => 4
  | _ => 2

/-- The CLASS field of a queue (R525). -/
def classOf (q : Fin 5) : Nat := [0, 0, 1, 2, 3].getD q.val 0

/-- The data ID of a frame: the TYPE code, or a Kelsis message's own (R318, R527). -/
def dataIdOf : FlueBody → Nat
  | .boundary b => (if b.up then 0x510 else 0x500) + 4 * b.receiving.val + b.sending.val
  | b => typeCode b

/-! ### MAC addresses (R522) -/

/-- The MAC address of a module's ports. -/
def macOf (uid : Nat) : Nat := 0x02 * 2 ^ 40 + uid % 2 ^ 40

/-- The destination of HELLO frames. -/
abbrev macBroadcast : Nat := 2 ^ 48 - 1

/-- Where a port sends a frame: a HELLO to the broadcast address, any other to the neighbour as learned from its HELLO. -/
def FluePort.destination (u : FluePort) (p : Fin 4) (b : FlueBody) : Nat :=
  match b, u.neighbour with
  | .hello _, _ => macBroadcast
  | _, some h => macOf h.uid
  | _, none => (Config.unknownMac p.val).toNat

/-- `n` octets of a number, the most significant first. -/
def beBytes (n v : Nat) : List Byte := (leBytes n v).reverse

/-! ### Payloads -/

/-- The fields of a body whose layout the manual does not give. -/
def openFields : FlueBody → List Nat
  | .hello h => [h.uid, h.addr, h.role, h.group, h.priority, h.nonce, h.banking.toNat]
  | .linkState l => [l.origin, l.addr, l.priority, l.seq, l.leaf.toNat, l.groups.length, l.heads.length, l.adjacent.length]
      ++ l.groups ++ l.heads ++ l.adjacent ++ l.borders
  | .head h => [h.group, h.head, h.deputy]
  | .seat uid addr ack => [uid, addr, ack.toNat]
  | .status st => [st.status, st.alarm, st.severe, st.lastSevere]
  | .banking wake => [0, wake]
  | .bankingAnswer accept maximum => [1, accept.toNat, maximum]
  | .awake => []
  | .plan group number last bytes => [group, number, last.toNat] ++ bytes.map (fun b => b.toNat)
  | .dictReq _ => []
  | .dictRsp _ => []
  | .domSeg d => [d.tid, d.number, d.last.toNat, d.ack.toNat] ++ d.data.map (fun b => b.toNat)
  | .boundary _ => []
  | .log r => [r.code, r.source, r.severity, r.w4, r.w5, r.w6]
  | .map channels => channels
  | .gptp kind time => [kind.val, time]

/-- `n` octets of such a layout. -/
def openBytes (kind : Nat) (fields : List Nat) (n : Nat) : List Byte :=
  (List.range n).map (fun i => Config.flueOctet kind fields i)

/-- A boundary message (R318). -/
def boundaryBytes (b : Boundary) : List Byte :=
  leBytes 4 b.step ++ [BitVec.ofNat 8 (128 * b.up.toNat + 4 * b.sending.val + b.receiving.val), BitVec.ofNat 8 (if b.up then 0 else b.width),
    BitVec.ofNat 8 b.flags, BitVec.ofNat 8 b.grain]
    ++ leBytes 4 b.displacement.toNat ++ leBytes 4 b.period
    ++ (if b.up then [] else b.values.flatMap (fun v => leBytes 4 v.1.toNat ++ leBytes 4 v.2.1.toNat ++ leBytes 4 v.2.2.1.toNat ++ leBytes 4 v.2.2.2.toNat))

/-- The payload of a frame, at most 460 octets: as R318, R541 and R546 lay it out, else open (log 100). A STATUS holds 16 octets
besides its channel reports, which are put after them. -/
def payloadOf : FlueBody → List Byte
  | .dictReq r => leBytes 2 r.tid ++ [BitVec.ofNat 8 r.op, 0] ++ leBytes 2 r.index ++ [BitVec.ofNat 8 r.sub, 0] ++ leBytes 4 r.length ++ r.data
  | .dictRsp r => leBytes 2 r.tid ++ [BitVec.ofNat 8 r.op, BitVec.ofNat 8 r.status] ++ leBytes 4 r.abort ++ leBytes 4 r.length ++ r.data
  | .boundary b => boundaryBytes b
  | .status st => openBytes 0x05 (openFields (.status st)) 16
      ++ st.channels.flatMap (fun c => leBytes 4 c.2.1.toNat ++ [BitVec.ofNat 8 c.2.2.1, 0] ++ leBytes 2 (min 65535 c.2.2.2))
  | b => openBytes (typeCode b) (openFields b) (min 460 (Config.flueLength (typeCode b) (openFields b)))

/-! ### The frame -/

/-- The Flue header (R525). -/
def headerBytes (f : FlueFrame) : List Byte :=
  [0x01, BitVec.ofNat 8 (typeCode f.body), BitVec.ofNat 8 (64 * classOf (queueOf f.body)), BitVec.ofNat 8 f.hop]
    ++ leBytes 4 f.dst ++ leBytes 4 f.src ++ leBytes 4 f.seq ++ leBytes 2 (payloadOf f.body).length
    ++ leBytes 2 (f.alive % 16 * 4096 + dataIdOf f.body % 4096)

/-- The check value of the trailer (R568), and the FCS of IEEE 802.3 (log 45). -/
def flueCrc : CrcParams := { width := 32, poly := 0x1EDC6F41, init := 0xFFFFFFFF, refin := true, refout := true, xorOut := 0xFFFFFFFF }
def fcsCrc : CrcParams := { flueCrc with poly := 0x04C11DB7 }

/-- The authentication tag of a frame (R554): the CMAC over header, payload and frame counter, cut to its first 8 octets. -/
def tagOf (key : List Byte) (covered : List Byte) (counter : Nat) : List Byte :=
  if key.isEmpty then leBytes 8 (Config.keylessTag covered).toNat
  else ((cmac (key.map (fun b => b.toNat)) ((covered ++ leBytes 6 counter).map (fun b => b.toNat))).take 8).map (BitVec.ofNat 8)

/-- What stands between the Ethernet header and the padding: header, payload, trailer and, with a key given, the tag. -/
def flueOctets (key : Option (List Byte)) (counter : Nat) (f : FlueFrame) : List Byte :=
  let covered := headerBytes f ++ payloadOf f.body
  covered ++ leBytes 4 (crcOf flueCrc covered) ++ (match key with
    | some k => tagOf k covered counter
    | none => [])

/-- A frame from its destination MAC to its FCS (R522, R524); gPTP messages carry EtherType 0x88F7 and no Flue header (R523). -/
def wireBytes (uid : Nat) (u : FluePort) (p : Fin 4) (key : Option (List Byte)) (f : FlueFrame) : List Byte :=
  let inner := if queueOf f.body = 1 then payloadOf f.body else flueOctets key u.counter f
  let head := beBytes 6 (u.destination p f.body) ++ beBytes 6 (macOf uid) ++ beBytes 2 (if queueOf f.body = 1 then 0x88F7 else 0x88B5)
  let body := head ++ inner ++ (List.range (60 - (head ++ inner).length)).map (fun i => Config.fluePadding i)
  let fcs := crcOf fcsCrc body
  body ++ leBytes 4 (if f.spoiled then (fcs + 1 + Config.spoiledFcs (BitVec.ofNat 32 fcs) % (2 ^ 32 - 1)) % 2 ^ 32 else fcs)

end Sys2Proof.Machine
end

