-- ==== Sys2Proof/Machine/LoopLaw.lean ====
section
/-! DEFINITION. The arithmetic of Bellows: rounding, saturation, the law of R235, the hand-over of R269, the learner's cell
of R280. Signals are Q15 integers, sums Q30 integers (R233). -/

namespace Sys2Proof.Machine

open Sys2Proof

/-- round15 (R234): to nearest, ties toward plus infinity. -/
def round15 (x : Int) : Int := (x + 16384) / 32768

/-- sat15 (R234). -/
def sat15 (x : Int) : Int := clampInt (-32768) 32767 x

/-- Saturation at the 40-bit accumulator's limits (R233). -/
def sat40 (x : Int) : Int := clampInt (-549755813888) 549755813887 x

/-- A saturating addition into the accumulator. -/
def add40 (x y : Int) : Int := sat40 (x + y)

/-- A Q15 value in Q30. -/
def q30 (x : Int) : Int := x * 32768

/-- A gain with its post-shift applied to a signal, in Q30 (R233). -/
def gain (k : Int) (s : Nat) (x : Int) : Int := k * x * Int.ofNat (2 ^ s)

/-- The coefficients of a loop at a sample (R235). -/
structure LoopCoef where
  kp : Int
  sp : Nat
  ki : Int
  si : Nat
  kd : Int
  sd : Nat
  alpha : Int
  kff : Int
  sf : Nat
  imin : Int
  imax : Int
  umin : Int
  umax : Int
  rl : Int
deriving DecidableEq, Repr

/-- The coefficients of loop `l` (R259). -/
def State.loopCoef (s : State) (l : Nat) : LoopCoef :=
  { kp := s.get (Key.loopKp l), sp := s.nat (Key.loopKpShift l), ki := s.get (Key.loopKi l), si := s.nat (Key.loopKiShift l),
    kd := s.get (Key.loopKd l), sd := s.nat (Key.loopKdShift l), alpha := s.get (Key.loopDerivativeFilterAlpha l),
    kff := s.get (Key.loopKff l), sf := s.nat (Key.loopKffShift l), imin := s.get (Key.loopImin l), imax := s.get (Key.loopImax l),
    umin := s.get (Key.loopUmin l), umax := s.get (Key.loopUmax l), rl := s.get (Key.loopOutputRateLimit l) }

/-- What the law carries from sample to sample (R233). -/
structure LawState where
  acc    : Int
  d      : Int
  pvPrev : Int
  uLast  : Int
deriving DecidableEq, Repr

/-- What a sample of the law yields. -/
structure LawOut where
  next  : LawState
  e     : Int
  p     : Int
  f     : Int
  uPre  : Int
  u     : Int
deriving DecidableEq, Repr

/-- The error of a sample, 17-bit difference saturated (R235, R236). -/
def loopError (sp pv : Int) : Int := sat15 (sp - pv)

/-- The derivative state after a sample (R235). -/
def derivative (c : LoopCoef) (d dpv : Int) : Int :=
  let dd := sat15 (round15 (gain c.kd c.sd dpv))
  round15 (c.alpha * d + (32768 - c.alpha) * dd)

/-- The output limits of R235: clamp, rate limit about `last`, clamp again. -/
def limitOutput (c : LoopCoef) (uPre last : Int) : Int :=
  let u := clampInt c.umin c.umax uPre
  if c.rl = 0 then u else clampInt c.umin c.umax (clampInt (last - c.rl) (last + c.rl) u)

/-- The law of R235 for setpoint, process value, feed-forward and learner term. -/
def law (c : LoopCoef) (s : LawState) (sp pv ff uRc : Int) : LawOut :=
  let e := loopError sp pv
  let p := gain c.kp c.sp e
  let acc := clampInt (q30 c.imin) (q30 c.imax) (add40 s.acc (gain c.ki c.si e))
  let d := derivative c s.d (s.pvPrev - pv)
  let f := gain c.kff c.sf ff
  let sum := add40 (add40 (add40 (add40 p acc) (q30 d)) (q30 uRc)) f
  let uPre := sat15 (round15 sum)
  let u := limitOutput c uPre s.uLast
  { next := { acc := acc, d := d, pvPrev := pv, uLast := u }, e := e, p := p, f := f, uPre := uPre, u := u }

/-- ceil of a quotient. -/
def ceilDiv (a b : Nat) : Nat := (a + b - 1) / b

/-- The ramp limit of R270 for a residual. -/
def rampLimit (rl r : Int) (h : Nat) : Int := if rl ≠ 0 then rl else max 1 (Int.ofNat (ceilDiv r.natAbs h))

/-- The bumpless hand-over of R269 from `applied`, with hand-over ramp `h`: the sample, and the residual of R270. -/
def handOver (c : LoopCoef) (applied sp pv ff uRc : Int) (h : Nat) : LawOut × Int :=
  let e := loopError sp pv
  let p := gain c.kp c.sp e
  let f := gain c.kff c.sf ff
  let acc := clampInt (q30 c.imin) (q30 c.imax) (add40 (add40 (add40 (q30 applied) (-p)) (-(q30 uRc))) (-f))
  let uPre := sat15 (round15 (add40 (add40 (add40 p acc) (q30 uRc)) f))
  let u0 := clampInt c.umin c.umax uPre
  let r := applied - u0
  let rl := rampLimit c.rl r h
  let u := if r = 0 then u0 else clampInt (applied - rl) (applied + rl) u0
  ({ next := { acc := acc, d := 0, pvPrev := pv, uLast := u }, e := e, p := p, f := f, uPre := uPre, u := u }, r)

/-- The learner cell's new value (R280). -/
def learnCell (q1 q0 before at_ after gamma e lam : Int) : Int :=
  clampInt (-lam) lam (sat15 (round15 (q1 * before + q0 * at_ + q1 * after + gamma * e)))

end Sys2Proof.Machine
end

