-- ==== Sys2Proof/Machine/Loops.lean ====
section
/-! DEFINITION. Bellows: sources, conditions, modes, hand-over, partners, learners, supervision, output phase, trace
(R220-R286). A sample of one loop is computed on the snapshot of the tick; what it changes is that loop's own state. -/

namespace Sys2Proof.Machine

open Sys2Proof

def State.loop (s : State) (l : Fin 64) : LoopUnit := s.bellows.loops[l]

def State.setLoop (s : State) (l : Fin 64) (f : LoopUnit → LoopUnit) : State :=
  { s with bellows := { s.bellows with loops := s.bellows.loops.set l (f s.bellows.loops[l]) } }

/-- A loop by number; loop numbers in range. -/
def State.loopN (s : State) (n : Nat) : LoopUnit := s.bellows.loops.toList.getD n .reset

/-- The conditions of 0x2600+l:32. -/
abbrev condNormal : Nat := 0
abbrev condHold : Nat := 1
abbrev condSafe : Nat := 2
abbrev condFault : Nat := 3
abbrev condOff : Nat := 4

/-- The loop is due at tick `k` (R220). -/
def State.loopDueAt (s : State) (k l : Nat) : Bool :=
  let n := s.nat (Key.loopPeriod l)
  s.flag (Key.loopEnable l) && (s.process == psArmed || s.process == psRunning || s.process == psFault)
    && ((k + n - s.nat (Key.loopPhase l)) % n == 0)

/-- The loop is due at the present tick (R220). -/
def State.loopDue (s : State) (l : Nat) : Bool := s.loopDueAt s.clock.tick l

/-! ### Sources (R227) -/

/-- What a source gives at the snapshot: value, age, and that a CHANNEL is BROKEN or DISABLED. -/
structure SourceValue where
  value  : Int
  age    : Nat
  broken : Bool
deriving DecidableEq, Repr

/-- A source of the given type and number; `const` the constant, `named` the dictionary object, `hold` what KELSIS gives. -/
def State.source (s : State) (ty num : Nat) (const : Int) (named : Nat) (kelsis : Int) : SourceValue :=
  match ty with
  | 1 => ⟨const, 0, false⟩
  | 2 =>
    let age := match loopFin num with
      | some n => s.channelAge n
      | none => 65535
    ⟨s.get (Key.chanValueQ15 num), age, !s.channelGood num⟩
  | 3 => if h : num < 16 then ⟨s.get (Key.driveSpeedQ15 num), s.tachAge ⟨num, h⟩, false⟩ else ⟨0, 65535, false⟩
  | 4 => ⟨s.get (Key.pulseFrequencyQ15 num), s.ageOf ((s.outputs.pulses.toList.getD num ⟨0, none⟩).ageTick), false⟩
  | 5 => ⟨s.get (Key.pulseCountQ15 num), 0, false⟩
  | 6 => ⟨s.get (Key.setpValueQ15 num), 0, false⟩
  | 7 => ⟨s.get (named / 256), 0, false⟩
  | 8 => ⟨(s.loopN num).out, 0, false⟩
  | 9 => ⟨kelsis, 0, false⟩
  | _ => ⟨0, 0, false⟩

/-! ### Partners, cascades, Kelsis fallback (R272-R278) -/

/-- The enabled loops that name loop l as their SP source. -/
def State.innerLoops (s : State) (l : Nat) : List (Fin 64) :=
  (List.finRange 64).filter (fun (i : Fin 64) => s.flag (Key.loopEnable i) && s.nat (Key.loopSPSourceType i) == 8 && s.nat (Key.loopSPSourceNumber i) == l)

/-- The (bound loop, feedback loop, predictor) triples in force: an enabled predictor, other than in BATCH, binds the loop and names a
feedback loop for it (R278, R359, R365). -/
def State.feedbackTriples (s : State) : List (Nat × Nat × Nat) :=
  (List.range 4).flatMap (fun c =>
    if s.flag (Key.predEnable c) && s.nat (Key.predMode c) != 1 then
      [(s.nat (Key.predDischargeLoop c), s.nat (Key.predFeedbackLoopDischarge c), c),
       (s.nat (Key.predPlenumLoop c), s.nat (Key.predFeedbackLoopPlenum c), c)]
    else [])

/-- The feedback loop of a bound loop. -/
def State.feedbackOf (s : State) (l : Nat) : Option (Fin 64) :=
  match s.feedbackTriples.find? (fun t => t.1 == l) with
  | some t => loopFin t.2.1
  | none => none

/-- A bound loop takes its setpoint from its feedback loop: its column is in feedback mode, or waits to return from it (R278). -/
def State.inFallback (s : State) (l : Nat) : Bool :=
  match s.feedbackTriples.find? (fun t => t.1 == l) with
  | some t => s.nat (Key.predState t.2.2) == 1 || s.nat (Key.predState t.2.2) == 2
  | none => false

/-- What a loop tracks, if it is TRACKING (R273, R278): the sp_eff of its one inner loop that is not in CASCADE and NORMAL,
or of the bound loop of a predictor in predictive operation. -/
def State.trackingTarget (s : State) (l : Nat) : Option Int :=
  match s.feedbackTriples.find? (fun t => t.2.1 == l) with
  | some t => if s.nat (Key.predState t.2.2) = 3 then some (s.loopN t.1).spEff else none
  | none =>
    match s.innerLoops l with
    | [i] => if s.nat (Key.loopModeInForce i) = 2 ∧ s.nat (Key.loopCondition i) = condNormal then none
             else some (s.loop i).spEff
    | _ => none

/-! ### Hand-over causes (R268, R284) -/

/-- When two causes wait, the one that stands. -/
def causeRank (c : Nat) : Nat := [0, 6, 7, 1, 9, 4, 3, 2, 11, 10, 5].getD c 0

def joinCause (a b : Nat) : Nat := if causeRank a < causeRank b then b else a

/-- A loop gets a hand-over cause; a partner takeover keeps the outgoing loop. -/
def LoopUnit.giveCause (u : LoopUnit) (c : Nat) : LoopUnit := { u with cause := joinCause u.cause c }

/-! ### The learner (R279-R282) -/

/-- A cell of the pool as stored. -/
def State.cell (s : State) (i : Nat) : Int := readKey (fun _ => 0) s.bellows.pool i

def State.setCell (s : State) (i : Nat) (v : Int) : State :=
  { s with bellows := { s.bellows with pool := writeKey (fun _ => 0) s.bellows.pool i v } }

/-- The index advances (R282): the new index, window and loss; what is logged and counted comes out as (lost now, pulse
accepted, recovered). -/
structure IndexStep where
  index   : Nat
  lost    : Bool
  winOpen : Bool
  winHit  : Bool
  gap     : Option Nat
  lostNow : Bool
  taken   : Bool
deriving DecidableEq, Repr

def LoopUnit.advance (u : LoopUnit) (len tol : Nat) (locked : Bool) : IndexStep :=
  let i := if u.learnFresh then 0 else (u.index + 1) % len
  let gap := u.gap.map (fun g => g + 1)
  if !locked then ⟨i, false, false, false, none, false, false⟩
  else if u.lost then
    let ok := u.pulse && gap.any (fun g => decide (len - tol ≤ g) && decide (g ≤ len + tol))
    if ok then ⟨0, false, false, false, none, false, true⟩
    else ⟨i, true, false, false, if u.pulse then some 0 else gap, false, false⟩
  else
    let opens := !u.learnFresh && i == (len - tol) % len
    let open_ := u.winOpen || opens
    let hit := u.winHit && !opens
    if u.pulse && !open_ then ⟨i, true, false, false, some 0, true, false⟩
    else
      let take := u.pulse && open_ && !hit
      let i' := if take then 0 else i
      let hit' := hit || take
      -- the window closes after the sample at which i reaches tol
      if open_ && i' == tol && (!opens || tol == 0) then
        (if hit' then ⟨i', false, false, false, none, false, take⟩ else ⟨i', true, false, false, none, true, false⟩)
      else ⟨i', false, open_, hit', none, false, take⟩

/-- The learner output at an index: the cell within the limit (R280). -/
def State.learnerOut (s : State) (l i : Nat) : Int :=
  let lam := s.get (Key.learnLearnerLimit l)
  clampInt (-lam) lam (s.cell (s.nat (Key.learnPoolOffset l) + i))

/-- The cell update of R280 with error `e` at index `i`. -/
def State.learn (s : State) (l i : Nat) (e : Int) : State :=
  let len := s.nat (Key.learnPeriod l)
  let o := s.nat (Key.learnPoolOffset l)
  let j := (i + len - s.nat (Key.learnPhaseLead l)) % len
  s.setCell (o + j) (learnCell (s.get (Key.learnQFilterSide l)) (s.get (Key.learnQFilterCentre l))
    (s.learnerOut l ((j + len - 1) % len)) (s.learnerOut l j) (s.learnerOut l ((j + 1) % len))
    (s.get (Key.learnLearningGain l)) e (s.get (Key.learnLearnerLimit l)))

/-- The learner's region reads 0 (R279). -/
def State.clearRegion (s : State) (l : Nat) : State :=
  let o := s.nat (Key.learnPoolOffset l)
  let len := s.nat (Key.learnPeriod l)
  { s with bellows := { s.bellows with pool := eraseWhere (fun k => decide (o ≤ k) && decide (k < o + len)) s.bellows.pool } }

/-! ### One sample -/

/-- What a loop's sample reads at the snapshot. -/
structure LoopInputs where
  pv  : SourceValue
  sp  : SourceValue
  ff  : SourceValue
  /-- The setpoint of the mode, the setpoint source apart (R264). -/
  target : Int
deriving DecidableEq, Repr

/-- The value a KELSIS source holds (R278): the setpoint last handed over, else the present sp_eff. -/
def LoopUnit.kelsisValue (u : LoopUnit) : Int := u.kelsisSp.getD u.spEff

/-- The inputs of loop l in mode `mode` on snapshot `s` (R223, R227, R264, R278). -/
def State.loopInputs (s : State) (l : Fin 64) (mode : Nat) : LoopInputs :=
  let u := s.loop l
  let const := s.get (Key.loopConstantSetpoint l)
  let sty := s.nat (Key.loopSPSourceType l)
  let pv := s.source (s.nat (Key.loopPVSourceType l)) (s.nat (Key.loopPVSourceNumber l)) const (s.nat (Key.loopPVDictionaryObject l)) 0
  let sp := s.source sty (s.nat (Key.loopSPSourceNumber l)) const (s.nat (Key.loopSPDictionaryObject l)) u.kelsisValue
  let ff := s.source (s.nat (Key.loopFFSourceType l)) (s.nat (Key.loopFFSourceNumber l)) const (s.nat (Key.loopFFDictionaryObject l)) 0
  let target :=
    if mode ≤ 1 ∧ (sty = 8 ∨ sty = 9) then const
    else if mode = 3 ∧ s.inFallback l then
      (match s.feedbackOf l with
       | some f => (s.loop f).out
       | none => u.kelsisValue)
    else sp.value
  ⟨pv, sp, ff, target⟩

/-- sp_eff after a sample (R229). -/
def followSetpoint (rate sp target : Int) : Int :=
  if rate = 0 then target else clampInt (sp - rate) (sp + rate) target

/-- The output of a loop is under a host-lost policy (R137). -/
def State.loopDetached (s : State) (l : Nat) : Bool :=
  let ty := s.nat (Key.loopDestinationType l)
  s.policiesActive && (ty == 1 || ty == 2 || ty == 3)

/-- The condition of a sample (R238), with the input-fault SAFE latched by it; MANUAL skips the input tests (R266). -/
def State.loopCondition (s : State) (l : Fin 64) (u : LoopUnit) (mode : Nat) (x : LoopInputs) : Nat × Bool :=
  let broken := (x.pv.broken || x.sp.broken || x.ff.broken) && mode != 0
  let limit := s.nat (Key.loopInputAgeLimit l)
  let old := limit != 0 && mode != 0 && (decide (limit < x.pv.age) || decide (limit < x.sp.age) || decide (limit < x.ff.age))
  let safeNow := u.safe || (broken && s.flag (Key.loopInputFaultAction l))
  if u.fault != .none then (condFault, u.safe)
  else if safeNow || s.bitOf Key.bellowsGlobalStatus 0 then (condSafe, safeNow)
  else if broken || old || s.flag (Key.loopHoldRequest l) || u.feHold || s.process == psFault then (condHold, false)
  else (condNormal, false)

/-- The mode a due sample takes up (R265, R267): ARM and HALT, START, or the mode command. -/
def State.loopMode (s : State) (l : Fin 64) (u : LoopUnit) : Nat :=
  let cmd := s.nat (Key.loopModeCommand l)
  if u.toManual then 0
  else if cmd ≤ 3 then cmd
  else if u.toRun then s.nat (Key.loopRunMode l)
  else u.mode

/-- A MANUAL sample's output (R264): the manual output within the limits and through the rate limit. -/
def manualOutput (c : LoopCoef) (m last : Int) : Int := limitOutput c m last

/-- Append a record of R258 for a loop: word 4 the loop, word 5 the tick, word 6 as given. -/
def State.loopLog (s : State) (code : Nat) (l : Fin 64) (w6 : Nat) : State := s.log code l l (s.clock.tick % 2 ^ 32) w6

/-- The low 16 bits of a Q15, for a data word. -/
def q15Word (x : Int) : Nat := unsignedOf 16 x

/-- Publish a hand-over: cause, residual, count, ramp, source 64 + l, and 0x0403 for causes 8-10 (R268-R271). -/
def State.noteHandOver (s : State) (l : Fin 64) (cause outgoing : Nat) (r : Int) : State :=
  let s1 := ((s.putN (Key.learnLastHandOverCause l) cause).put (Key.learnLastResidual l) r).bump 32 (Key.learnHandOvers l)
  let s2 := if 8 ≤ cause then s1.log 0x0403 l l (cause * 256 + outgoing) (q15Word r) else s1
  s2.raiseSource (64 + l.val)

/-- The following error of a computing sample (R242): the new count, and whether it has reached its time; with the time 0 nothing is
supervised, and the count stays 0. -/
def State.followingError (s : State) (l : Fin 64) (e : Int) : Nat × Bool :=
  let limit := s.nat (Key.loopFELimit l)
  let time := s.nat (Key.loopFETime l)
  let n := s.nat (Key.loopFECount l)
  if e.natAbs ≤ limit ∨ time = 0 then (0, false) else (satSucc 16 n, decide (time ≤ n + 1))

/-- Publish the subindexes that every due sample refreshes (R259). -/
def State.publishSample (s : State) (l : Fin 64) (mode cond : Nat) (x : LoopInputs) (e uPre : Int) : State :=
  let u := s.loop l
  let shown := if mode = 3 ∧ s.inFallback l ∧ (s.feedbackOf l).isSome then 2 else mode
  let s1 := (((s.putN (Key.loopModeInForce l) shown).putN (Key.loopCondition l) cond).put (Key.loopSetpoint l) u.spEff).put (Key.loopProcessValue l) x.pv.value
  let s2 := ((s1.put (Key.loopError l) e).put (Key.loopPTerm l) (sat15 (round15 u.pTerm))).put (Key.loopIntegrator l) (sat15 (round15 u.acc))
  let s3 := ((s2.put (Key.loopDerivative l) u.d).put (Key.loopLearnerTerm l) u.uRc).put (Key.loopFFTerm l) (sat15 (round15 u.fTerm))
  let s4 := ((s3.put (Key.loopOutputBeforeClamp l) uPre).put (Key.loopOutput l) u.out).putN (Key.loopLastSampleTick l) (s.clock.tick % 2 ^ 32)
  (s4.bumpWrap (Key.loopSamples l)).putB (Key.learnRampActive l) (u.ramp != 0)

/-- The status word's sampled bits (R260); DUE_LAST is formed at the read, from the last sample tick. -/
def loopStatusBits (enabled learner broken ageHold feActive hold outClamped outRate iClamped spRate detached lock ecc : Bool) : Nat :=
  b2n enabled + 2 * b2n learner + 8 * b2n hold + 16 * b2n feActive + 32 * b2n ageHold + 64 * b2n broken + 128 * b2n outClamped
    + 256 * b2n outRate + 512 * b2n iClamped + 1024 * b2n spRate + 2048 * b2n detached + 4096 * b2n lock + 8192 * b2n ecc

/-- Whether a loop writes its destination at the output phase, and whether it hands over to its partner by its FE action. -/
structure SampleEnd where
  state    : State
  write    : Bool
  takeover : Option (Fin 64)

/-- The learner's part of a due sample before the law: index and state (R280-R282). -/
def State.learnerSample (s : State) (l : Fin 64) (computing : Bool) : State :=
  if s.flag (Key.learnLearnerEnable l) = false then
    (s.setLoop l (fun u => { u with uRc := 0, pulse := false })).putN (Key.learnLearnerState l) 0
  else
    let u := s.loop l
    let r := u.advance (s.nat (Key.learnPeriod l)) (s.nat (Key.learnIndexTolerance l)) (s.flag (Key.learnIndexMode l))
    let s1 := s.setLoop l (fun u => { u with index := r.index, lost := r.lost, winOpen := r.winOpen, winHit := r.winHit,
                                             gap := r.gap, pulse := false, learnFresh := false })
    let s2 := if r.taken then s1.bump 32 (Key.learnIndexPulses l) else s1
    let s3 := if r.lostNow then (s2.bump 32 (Key.learnIndexLosses l)).log 0x0409 l l else s2
    let s4 := (s3.putN (Key.learnIndex l) r.index).putN (Key.learnLearnerState l) (if r.lost then 3 else if computing then 1 else 2)
    if computing && !r.lost then s4.setLoop l (fun u => { u with uRc := s4.learnerOut l r.index }) else s4

/-- The FE action at its expiry (R242, R277): what becomes of the loop, and the partner that takes over. -/
def State.feExpire (s : State) (l : Fin 64) (e : Int) : State × Option (Fin 64) :=
  let s1 := ((s.loopLog 0x0401 l (q15Word e)).bump 32 (Key.loopFEEvents l)).raiseSource (64 + l.val)
  match s.nat (Key.loopFEAction l) with
  | 0 => (s1, none)
  | 2 => (s1.setLoop l (fun u => { u with safe := true }), none)
  | 3 =>
    (match s.partner l with
     | some m =>
       if s.nat (Key.loopCondition m) = condNormal ∧ (s.loop l).byFe = false then (s1, some m)
       else (s1.setLoop l (fun u => { u with feHold := true }), none)
     | none => (s1.setLoop l (fun u => { u with feHold := true }), none))
  | _ => (s1.setLoop l (fun u => { u with feHold := true }), none)

/-- A sample in which the loop computes its law: the hand-over of R269 or the law of R235, the learner's cell, the following
error (R242) and the FE action at its expiry. -/
def State.computeSample (s0 s : State) (l : Fin 64) (mode : Nat) (x : LoopInputs) : SampleEnd :=
  let c := s0.loopCoef l
  let u := s.loop l
  let handing := u.cause != 0
  let law0 : LawState := ⟨u.acc, u.d, if u.noKick then x.pv.value else u.pvPrev, u.uLast⟩
  let applied := if s.nat (Key.loopDestinationType l) = 0 ∨ u.tracking then u.out else u.applied
  let h := handOver c applied u.spEff x.pv.value x.ff.value u.uRc (s.nat (Key.learnHandOverRamp l))
  let plain := law c law0 u.spEff x.pv.value x.ff.value u.uRc
  let o0 := if handing then h.1 else plain
  -- R270: during a ramp every sample stays within RL of the last output; a rate limit written meanwhile acts at once (R244)
  let u0 := clampInt c.umin c.umax o0.uPre
  let ramping := !handing && u.ramp != 0
  let rl := rampLimit c.rl (Int.ofNat u.ramp) (s.nat (Key.learnHandOverRamp l))
  let ur := clampInt (u.uLast - rl) (u.uLast + rl) u0
  let out := if ramping then ur else o0.u
  let ramp := if handing then h.2.natAbs else if ramping && ur != u0 then u.ramp else 0
  let fe := s.followingError l o0.e
  let s1 := s.setLoop l (fun u => { u with acc := o0.next.acc, d := o0.next.d, pvPrev := x.pv.value, uLast := out, out := out, uLaw := out, pTerm := o0.p, fTerm := o0.f, noKick := false, fresh := false, cause := 0, ramp := ramp, tracking := false, mode := mode, feDone := fe.2 })
  let s2 := if handing then s1.noteHandOver l u.cause (if u.cause = 8 ∨ u.cause = 9 then u.outgoing else 0xFF) h.2 else s1
  let s3 := if !handing && s.nat (Key.learnLearnerState l) == 1 then s2.learn l u.index o0.e else s2
  let s4 := s3.putN (Key.loopFECount l) fe.1
  let exp := if fe.2 && !u.feDone then s4.feExpire l o0.e else (s4, none)
  let u1 := exp.1.loop l
  -- R242: a HOLD, SAFE or HANDOVER action acts at this output phase
  let kept := (u1.feHold && !u.feHold) || exp.2.isSome
  let s5 := if kept then exp.1.setLoop l (fun v => { v with out := u.out, uLast := u.uLast })
    else if u1.safe && !u.safe then exp.1.setLoop l (fun v => { v with out := s.get (Key.loopSafeOutput l), uLast := s.get (Key.loopSafeOutput l) })
    else exp.1
  let cond := if u1.safe then condSafe else if u1.feHold then condHold else condNormal
  let s6 := s5.publishSample l mode cond x o0.e o0.uPre
  let iClamped := o0.next.acc == q30 c.imin || o0.next.acc == q30 c.imax
  let st := loopStatusBits true (s.flag (Key.learnLearnerEnable l)) false false fe.2 (s.flag (Key.loopHoldRequest l))
    (decide (o0.uPre < c.umin) || decide (c.umax < o0.uPre)) (c.rl != 0 && o0.u != u0) iClamped false (s.loopDetached l) false false
  { state := s6.putN (Key.loopStatus l) st, write := !kept, takeover := exp.2 }

/-- The status word of a due sample that computes no law (R260). -/
def State.heldStatus (s : State) (l : Fin 64) (mode cond : Nat) (x : LoopInputs) (outRate : Bool) : Nat :=
  let u := s.loop l
  let c := s.loopCoef l
  let broken := x.pv.broken || x.sp.broken || x.ff.broken
  let limit := s.nat (Key.loopInputAgeLimit l)
  let old := cond == condHold && limit != 0 && !(broken && !s.flag (Key.loopInputFaultAction l))
    && (decide (limit < x.pv.age) || decide (limit < x.sp.age) || decide (limit < x.ff.age)) && mode != 0
  loopStatusBits true (s.flag (Key.learnLearnerEnable l)) broken old false (s.flag (Key.loopHoldRequest l)) false outRate
    (u.acc == q30 c.imin || u.acc == q30 c.imax) false (s.loopDetached l) (u.fault == .lockstep) (u.fault == .ecc)

/-- A sample in which the loop computes no law: condition other than NORMAL, MANUAL, STANDBY or TRACKING. -/
def State.idleSample (s0 s : State) (l : Fin 64) (mode cond : Nat) (x : LoopInputs) (toSafe bypass : Bool)
    (track : Option Int) : SampleEnd :=
  let c := s0.loopCoef l
  let u := s.loop l
  let e := loopError u.spEff x.pv.value
  let standby := s.loopStandby l
  let safeOut := s.get (Key.loopSafeOutput l)
  let manual := s.get (Key.loopManualOutput l)
  let out :=
    if cond = condSafe then (if toSafe then safeOut else u.out)
    else if standby || bypass then (if bypass then safeOut else u.out)
    else if cond != condNormal then track.getD u.out
    else match track with
      | some t => t
      | none => manualOutput c manual u.uLast
  let write := !standby && (cond == condNormal || (cond == condSafe && toSafe) || bypass)
  let s1 := s.setLoop l (fun u => { u with out := out, uLast := if cond = condNormal ∨ write then out else u.uLast, pvPrev := if standby then x.pv.value else u.pvPrev, noKick := u.noKick || cond != condNormal, fresh := false, ramp := 0, mode := mode, tracking := track.isSome || (u.tracking && cond != condNormal), feDone := false, cause := if mode = 0 ∧ !standby then 0 else u.cause })
  let s2 := (s1.putN (Key.loopFECount l) 0).publishSample l mode cond x e (s.get (Key.loopOutputBeforeClamp l))
  let st := s.heldStatus l mode cond x
    (cond == condNormal && !standby && !bypass && track.isNone && c.rl != 0 && out != clampInt c.umin c.umax manual)
  { state := s2.putN (Key.loopStatus l) st, write := write, takeover := none }

/-- Records and counts of entries into HOLD and SAFE by input fault or age (R258, R259); the source is the first failing of
PV, SP, FF. -/
def State.noteEntry (s : State) (l : Fin 64) (old new : Nat) (mode : Nat) (x : LoopInputs) (wasAge wasBroken : Bool) : State :=
  let src := if x.pv.broken then s.nat (Key.loopPVSourceType l) * 256 + s.nat (Key.loopPVSourceNumber l)
    else if x.sp.broken then s.nat (Key.loopSPSourceType l) * 256 + s.nat (Key.loopSPSourceNumber l)
    else s.nat (Key.loopFFSourceType l) * 256 + s.nat (Key.loopFFSourceNumber l)
  let broken := (x.pv.broken || x.sp.broken || x.ff.broken) && mode != 0
  let limit := s.nat (Key.loopInputAgeLimit l)
  let aged := limit != 0 && mode != 0 && !broken && (decide (limit < x.pv.age) || decide (limit < x.sp.age) || decide (limit < x.ff.age))
  let age := if limit < x.pv.age then x.pv.age else if limit < x.sp.age then x.sp.age else x.ff.age
  let held := new == condHold || new == condSafe
  let s1 := if held && broken && (!wasBroken || (old != condHold && old != condSafe)) && (new == condHold || old != condSafe) then s.loopLog 0x0405 l src else s
  let s2 := if new == condHold && aged && (!wasAge || old != condHold) then s1.loopLog 0x0404 l age else s1
  if new == condHold && (broken || aged) && !(old == condHold && (wasAge || wasBroken)) then s2.bump 32 (Key.loopHOLDEntries l) else s2

/-- A due sample takes up the mode (R265, R267): the command goes back to 0xFF, START and a change between computing modes or out of MANUAL
are causes of a hand-over (R268), and MANUAL, entered, taken over in or met at a first sample, begins at the applied output, or at the safe output after ARM and
HALT (R266, R267). The mode comes out beside the state. -/
def State.takeMode (s : State) (l : Fin 64) (u : LoopUnit) : State × Nat :=
  let mode := s.loopMode l u
  let commanded := decide (s.nat (Key.loopModeCommand l) ≤ 3) && !u.toManual
  let starting := u.toRun && !u.toManual && !commanded
  let entering := mode == 0 && (u.mode != 0 || u.fresh || u.cause == 8 || u.cause == 9) || u.toManual
  let u1 := { u with toManual := false, toRun := false, mode := mode, kelsisSp := if mode = 3 ∧ u.mode ≠ 3 then Option.none else u.kelsisSp }
  let u2 := if starting then u1.giveCause 1 else if commanded && mode != 0 && mode != u.mode then u1.giveCause 2 else u1
  let s1 := s.setLoop l (fun _ => u2)
  let s2 := if commanded then s1.putN (Key.loopModeCommand l) 0xFF else s1
  (if u.toManual then s2.put (Key.loopManualOutput l) (s.get (Key.loopSafeOutput l))
   else if entering then s2.put (Key.loopManualOutput l) (if s.nat (Key.loopDestinationType l) = 0 then u.out else u.applied)
   else s2, mode)

/-- What 0x2700+l:20 shows: STANDBY, TRACKING or neither. -/
def State.putHandOverState (s : State) (l : Fin 64) (track : Option Int) : State :=
  s.putN (Key.learnHandOverState l) (if s.loopStandby l then 1 else if track.isSome then 2 else 0)

/-- One due sample of loop l on snapshot `s0` (R235, R238, R264-R282). -/
def State.loopSample (s0 s : State) (l : Fin 64) : SampleEnd :=
  let u0 := s.loop l
  let wasCond := s.nat (Key.loopCondition l)
  let wasAge := s.bitOf (Key.loopStatus l) 5
  let wasBroken := s.bitOf (Key.loopStatus l) 6
  -- R243: a fault reset ends FAULT, SAFE and FE HOLD at this sample; an ECC fault's state words were cleared (R256)
  let ending := u0.resetReq && (u0.fault != .none || u0.safe)
  let u1 := if u0.resetReq then
      { (if u0.fault = .ecc then { u0 with acc := 0, d := 0, pvPrev := 0, uLast := u0.out, uRc := 0, spEff := 0, ramp := 0, feDone := false } else u0) with
        fault := LoopFault.none, safe := false, feHold := false, resetReq := false } else u0
  let u1 := if ending then u1.giveCause 4 else u1
  let s2 := if u0.resetReq && u0.fault == .ecc then s.putN (Key.loopFECount l) 0 else s
  let took := s2.takeMode l u1
  let s3 := took.1
  let mode := took.2
  let u3 := s3.loop l
  let x := (s0.setLoop l (fun u => { u with kelsisSp := u3.kelsisSp })).loopInputs l mode
  let sp := if u0.fresh then x.target else followSetpoint (s.get (Key.loopSetpointRateLimit l)) u3.spEff x.target
  let spLimited := sp != x.target
  let s4 := s3.setLoop l (fun u => { u with spEff := sp })
  let cond := s4.loopCondition l u3 mode x
  let s5 := s4.setLoop l (fun u => { u with safe := cond.2 })
  let holdEnd := wasCond == condHold && cond.1 == condNormal
  let s6 := if holdEnd then s5.setLoop l (fun u => u.giveCause 3) else s5
  let track := s0.trackingTarget l
  -- R273, R278: the hand-over that ends TRACKING has a cause of its own, whatever came while tracking
  let s7 := if (s6.loop l).tracking && track.isNone then
      s6.setLoop l (fun u => { u with cause := if (s6.feedbackTriples.any (fun t => t.2.1 == l.val)) then 10 else 7 }) else s6
  let standby := s7.loopStandby l || decide (s.clock.tick < u0.notBefore)
  let computing := cond.1 == condNormal && mode != 0 && !standby && track.isNone
  let s8 := s7.learnerSample l computing
  let s9 := s8.putHandOverState l track
  let r := if computing then s0.computeSample s9 l mode x
    else if decide (s.clock.tick < u0.notBefore) && !s7.loopStandby l then
      -- R276: a takeover waits for a later tick; the destination keeps its value
      { state := (s9.publishSample l mode cond.1 x (loopError sp x.pv.value) (s.get (Key.loopOutputBeforeClamp l))).putN (Key.loopStatus l)
          (s9.heldStatus l mode cond.1 x false), write := false, takeover := none }
    else s0.idleSample s9 l mode cond.1 x (cond.1 == condSafe && wasCond != condSafe) (u1.toManual && cond.1 != condFault) track
  let s10 := r.state.noteEntry l wasCond cond.1 mode x wasAge wasBroken
  let s11 := if spLimited then s10.putBit (Key.loopStatus l) 10 true else s10
  let nowCond := s11.nat (Key.loopCondition l)
  { r with state := if nowCond = wasCond then s11 else s11.raiseSource (64 + l.val) }

/-! ### Lane faults (R252, R256) -/

/-- A loop enters FAULT; its slot is discarded, and a fault reset written before does not end this FAULT (R252). -/
def State.loopFaulted (s : State) (l : Fin 64) (f : LoopFault) : State :=
  let s1 := s.setLoop l (fun u => { u with fault := f, resetReq := false })
  let s2 := (s1.putN (Key.loopCondition l) condFault).putBit (Key.loopStatus l) (if f = .ecc then 13 else 12) true
  if s.nat (Key.loopCondition l) = condFault then s2 else s2.raiseSource (64 + l.val)

/-- A due sample counts, whatever becomes of its slot (R259). -/
def State.countSample (s : State) (l : Fin 64) : State :=
  (s.bumpWrap (Key.loopSamples l)).putN (Key.loopLastSampleTick l) (s.clock.tick % 2 ^ 32)

/-- A due sample of a loop in FAULT: no law (R252), but a mode request is taken up (R265), the learner's index advances (R281) and
TRACKING is shown (R273). -/
def State.faultSample (s0 s : State) (l : Fin 64) : State :=
  let took := s.takeMode l (s.loop l)
  let track := s0.trackingTarget l
  let s1 := ((took.1.learnerSample l false).putHandOverState l track).setLoop l (fun u => { u with tracking := track.isSome || u.tracking })
  let s2 := (((s1.countSample l).putN (Key.loopModeInForce l) took.2).putN (Key.loopCondition l) condFault).putN (Key.loopStatus l)
    (s1.heldStatus l took.2 condFault (s0.loopInputs l took.2) false)
  if s.nat (Key.loopCondition l) = condFault then s2 else s2.raiseSource (64 + l.val)

/-- A due slot: an ECC error, a lane mismatch, or the sample. A loop in FAULT is not computed until its reset (R252). -/
def State.loopSlot (s0 : State) (i : TickInput) (acc : State × List (Fin 64) × List (Fin 64 × Fin 64)) (l : Fin 64) :
    State × List (Fin 64) × List (Fin 64 × Fin 64) :=
  let s := acc.1
  let u := s.loop l
  if u.fault != .none && !u.resetReq then
    (s0.faultSample s l, acc.2)
  else match i.eccRead.find? (fun e => e.1 == l) with
    | some e => ((((s.countSample l).loopFaulted l .ecc).loopLog 0x0408 l e.2).bump 32 Key.bellowsECCUncorrectable, acc.2)
    | none =>
      if i.mismatches.contains l then
        let s1 := (((s.countSample l).loopFaulted l .lockstep).loopLog 0x0402 l 0).bump 32 (Key.loopLockstepMismatches l)
        let s2 := s1.bump 32 Key.bellowsMismatches
        ({ s2 with bellows := { s2.bellows with mismatches := s.clock.tick :: s2.bellows.mismatches } }, acc.2)
      else
        let r := s0.loopSample s l
        (r.state, (if r.write then acc.2.1 ++ [l] else acc.2.1),
          match r.takeover with
          | some m => acc.2.2 ++ [(l, m)]
          | none => acc.2.2)

/-! ### The entry into FAULT of the process (R108, R109) -/

/-- The process state becomes FAULT with its cause; a further event while in FAULT only joins the causes to clear. A mode
switch request is dropped (R150), mode commands of loops are dropped, actuators take their safe states (R392). -/
def State.enterFault (s : State) (cause : Nat) : State :=
  if s.process = psFault then { s with startup := { s.startup with faultEvents := s.startup.faultEvents ++ [cause] } }
  else
    let s1 := { s with startup := { s.startup with faultEvents := [cause] }, dict := { s.dict with pending := none } }
    let s2 := ((s1.putN Key.procFaultCause cause).putN Key.procProcessState psFault).putN Key.modeSwitchStatus 0
    let s3 := (List.range 64).foldl (fun s l => s.putN (Key.loopModeCommand l) 0xFF) s2
    (s3.actsSafe.serveDrives).serveOutputs

/-- Every enabled loop SAFE (R253, R254): ALL_SAFE, the cause bit, the record, the process state. -/
def State.allLoopsSafe (s : State) (bit_ code w6 : Nat) : State :=
  let s1 := (List.finRange 64).foldl (fun s (l : Fin 64) =>
    if s.flag (Key.loopEnable l) then
      let v := s.get (Key.loopSafeOutput l)
      let s1 := s.setLoop l (fun u => { u with safe := true, out := v, uLast := v })
      let s2 := if s.nat (Key.loopCondition l) = condFault ∨ s.nat (Key.loopCondition l) = condOff then s1
        else (s1.putN (Key.loopCondition l) condSafe).put (Key.loopOutput l) v
      if s.nat (Key.loopCondition l) = condSafe ∨ s.nat (Key.loopCondition l) = condFault ∨ s.nat (Key.loopCondition l) = condOff then s2
      else s2.raiseSource (64 + l.val)
    else s) s
  let s2 := (s1.putBit Key.bellowsGlobalStatus 0 true).putBit Key.bellowsGlobalStatus bit_ true
  let s3 := s2.log code noSource noSource (s.clock.tick % 2 ^ 32) w6
  if s.process = psArmed ∨ s.process = psRunning ∨ s.process = psFault then s3.enterFault code else s3

/-! ### The output phase (R226, R230) -/

/-- Write a loop's output to its destination (R230, R232); detached outputs take the policy instead (R137). -/
def State.loopWrite (s : State) (l : Fin 64) : State :=
  let v := (s.loop l).out
  let num := s.nat (Key.loopDestinationNumber l)
  let s0 := (if s.loopDetached l then s else (s.setLoop l (fun u => { u with applied := v })).put (Key.loopOutputApplied l) v).serveLoopOutputs l
  match s.nat (Key.loopDestinationType l) with
  | 1 => if h : num < 16 then (s0.setDrive ⟨num, h⟩ (fun d => { d with loopOut := v })).serveDrive ⟨num, h⟩ else s0
  | 2 => if h : num < 8 then (s0.setOutput ⟨num, h⟩ (fun d => { d with loopOut := v })).serveOutput ⟨num, h⟩ else s0
  | 3 => if h : num < 20 then s0.setAct ⟨num, h⟩ (fun d => { d with loopOut := v }) else s0
  | 4 => s0.stage ⟨.hearth, 0⟩ (s.nat (Key.loopDestinationDictionaryObject l) / 256) (.num v)
  | _ => s0

/-- The partner takes over by the FE action: l is STANDBY at once, m hands over at its first due sample in a later tick (R276). -/
def State.takeover (s : State) (l m : Fin 64) (cause notBefore : Nat) : State :=
  let applied := (s.loop l).applied
  let s1 := (s.setLoop l (fun u => { u with standby := true, cause := 0, byFe := false })).putN (Key.learnHandOverState l) 1
  s1.setLoop m (fun u => { u with standby := false, cause := joinCause u.cause cause, outgoing := l.val, applied := applied, uLast := applied,
                                  notBefore := notBefore, byFe := cause == 9,
                                  toRun := u.toRun || cause == 9 })

/-! ### The trace (R247-R250) -/

/-- The recorded node of a loop (R248). -/
def State.traceNode (s : State) (l node : Nat) : Int :=
  let u := s.loopN l
  match node with
  | 0 => u.spEff
  | 1 => s.get (Key.loopProcessValue l)
  | 2 => s.get (Key.loopError l)
  | 3 => sat15 (round15 u.pTerm)
  | 4 => sat15 (round15 u.acc)
  | 5 => u.d
  | 6 => u.uRc
  | 7 => sat15 (round15 u.fTerm)
  | 8 => s.get (Key.loopOutputBeforeClamp l)
  | _ => u.uLaw

/-- A trace channel is enabled; its loop. -/
def State.traceOn (s : State) (c : Nat) : Bool := s.bitOf (Key.traceChannelSelect c) 15
def State.traceLoop (s : State) (c : Nat) : Nat := field (s.nat (Key.traceChannelSelect c)) 13 8

/-- Pre-trigger share of a channel. -/
def State.tracePre (s : State) : Nat := 4096 * s.nat Key.tracePreTrigger / 100

/-- The sample channel `c` records at this output phase, if any (R249): every D-th due sample of its loop. -/
def State.traceSample (s : State) (due : List (Fin 64)) (c : Fin 4) : Option Int :=
  if s.traceOn c && due.any (fun l => l.val == s.traceLoop c) && (s.bellows.trace[c]).skip == 0 then
    some (s.traceNode (s.traceLoop c) (field (s.nat (Key.traceChannelSelect c)) 3 0))
  else none

/-- The threshold condition between two samples (R249). -/
def crosses (edge : Nat) (level before now : Int) : Bool :=
  let up := decide (before < level) && decide (level ≤ now)
  let down := decide (level < before) && decide (now ≤ level)
  if edge = 0 then up else if edge = 1 then down else up || down

/-- The trigger condition holds at this output phase, in ARMED; `events` are the sources delivered since the previous tick. -/
def State.traceFires (s : State) (events : List Nat) (samples : List (Fin 4 × Int)) : Bool :=
  s.bellows.traceManual
    || (s.nat Key.traceTriggerType == 1 && samples.any (fun e => e.1.val == s.nat Key.traceThresholdChannel
          && (s.bellows.trace[e.1]).before.any (fun b => crosses (s.nat Key.traceThresholdEdge) (s.get Key.traceThresholdLevel) b e.2)))
    || (s.nat Key.traceTriggerType == 2 && events.contains (s.nat Key.traceTriggerEventSource))

def State.setTrace (s : State) (c : Fin 4) (f : TraceChannel → TraceChannel) : State :=
  { s with bellows := { s.bellows with trace := s.bellows.trace.set c (f s.bellows.trace[c]) } }

/-- The trace at an output phase, with the loops due in the tick and the sources delivered since the previous one (R249). -/
def State.traceTick (s : State) (due : List (Fin 64)) (events : List Nat) : State :=
  let st := s.nat Key.traceState
  if st = 0 ∨ st = 4 then s
  else
    let samples : List (Fin 4 × Int) := (List.finRange 4).filterMap (fun (c : Fin 4) => (s.traceSample due c).map (fun v => (c, v)))
    let fires := st == 2 && s.traceFires events samples
    let pre := s.tracePre
    let keep := if st = 3 ∨ fires then 4096 else pre
    let s1 := samples.foldl (fun s e => s.setTrace e.1 (fun t => { t with
        samples := if keep = 4096 ∧ st = 3 ∧ 4096 ≤ t.samples.length then t.samples else (e.2 :: t.samples).take keep,
        before := some e.2 })) s
    let d := s.nat Key.traceDecimation
    let s2 := (List.finRange 4).foldl (fun s (c : Fin 4) =>
      if s.traceOn c && due.any (fun l => l.val == s.traceLoop c) then s.setTrace c (fun t => { t with skip := (t.skip + 1) % d }) else s) s1
    let all := fun (s : State) (n : Nat) => (List.finRange 4).all (fun (c : Fin 4) => !s.traceOn c || decide (n ≤ (s.bellows.trace[c]).samples.length))
    if st = 1 then (if all s2 pre then s2.putN Key.traceState 2 else s2)
    else if fires then
      let s3 := (((s2.putN Key.traceState 3).putN Key.traceTriggerTickLow (s.clock.tick % 2 ^ 32)).putN Key.traceTriggerTickHigh
        (s.clock.tick / 2 ^ 32 % 2 ^ 32)).putN Key.traceTriggerPosition (min 4095 pre)
      let s4 := { s3 with bellows := { s3.bellows with traceManual := false } }
      if all s4 4096 then ({ s4 with bellows := { s4.bellows with traceReady := true } }).putN Key.traceState 4 else s4
    else if st = 3 ∧ all s2 4096 then
      ({ s2 with bellows := { s2.bellows with traceReady := true } }).putN Key.traceState 4
    else s2

/-- The trace data 0x2681:11 (R250). -/
def State.traceData (s : State) : List Byte :=
  (List.finRange 4).flatMap (fun (c : Fin 4) =>
    let l := (s.bellows.trace[c]).samples.reverse
    let vs := if s.traceOn c then l else []
    (vs ++ List.replicate (4096 - vs.length) 0).flatMap (fun v => leBytes 2 (unsignedOf 16 v)))

/-- ARM refuses settings outside R247-R249; it clears the buffers and enters FILLING. -/
def State.traceArmOk (s : State) : Bool :=
  let d := s.nat Key.traceDecimation
  decide (1 ≤ d) && decide (d ≤ 256) && decide (s.nat Key.traceTriggerType ≤ 2) && decide (s.nat Key.traceThresholdChannel ≤ 3)
    && decide (s.nat Key.traceThresholdEdge ≤ 2) && decide (s.nat Key.tracePreTrigger ≤ 100)

/-- The effect of the trace command (R249): 1 ARM, 2 TRIGGER, 3 STOP. -/
def State.traceCommand (s : State) (v : Nat) : State :=
  match v with
  | 1 =>
    let s1 := { s with bellows := { s.bellows with trace := Vector.replicate 4 ⟨[], 0, none⟩, traceManual := false, traceReady := false } }
    s1.putN Key.traceState 1
  | 2 => if s.nat Key.traceState = 2 then { s with bellows := { s.bellows with traceManual := true } } else s
  | 3 => s.putN Key.traceState 0
  | _ => s

/-- TRACE_ARM, TRACE_TRIGGER, TRACE_STOP (R249). -/
def execTraceArm (p : Path) (s : State) : Host.Outcome State Fault Refusal :=
  .next (s.commanded p Key.traceCommand 1 (fun s' => if s.traceArmOk then s'.traceCommand 1 else s'.refuse p (.range Key.traceCommand)))
def execTraceTrigger (p : Path) (s : State) : Host.Outcome State Fault Refusal :=
  .next (s.commanded p Key.traceCommand 2 (fun s => s.traceCommand 2))
def execTraceStop (p : Path) (s : State) : Host.Outcome State Fault Refusal :=
  .next (s.commanded p Key.traceCommand 3 (fun s => s.traceCommand 3))

/-! ### The tick's loop work (R225) -/

/-- The self-check slot (R254). -/
def State.selfCheck (s : State) (fails : Bool) : State :=
  let v := s.bellows.vector
  let s1 := { s with bellows := { s.bellows with vector := (v + 1) % 64, passes := if fails then 0 else satSucc 32 s.bellows.passes } }
  if fails then (s1.bump 32 Key.bellowsSelfCheckFailures).allLoopsSafe 2 0x0407 v
  else s1.bumpWrap Key.bellowsSelfCheckPasses

/-- The scrubber's finds (R255, R256): an enabled loop enters FAULT, a disabled loop's word is rewritten by the hearth core. -/
def State.scrubFind (s : State) (word : Nat) : State :=
  match loopFin (word / 32) with
  | none => s
  | some l =>
    let s1 := (s.loopLog 0x0408 l word).bump 32 Key.bellowsECCUncorrectable
    if s.flag (Key.loopEnable l) then s1.loopFaulted l .ecc
    else { s1 with bellows := { s1.bellows with rewrites := s1.bellows.rewrites ++ [word] } }

/-- The loops' work of a tick: due slots, self-check, mismatches in the window, outputs, trace, scrubbing (R225). -/
def State.bellowsWork (s : State) (i : TickInput) : State :=
  let due := (List.finRange 64).filter (fun (l : Fin 64) => s.loopDue l)
  let r := due.foldl (State.loopSlot s i) (s, [], [])
  let s1 := r.2.2.foldl (fun s t => s.takeover t.1 t.2 9 (s.clock.tick + 1)) r.1
  let recent := s1.bellows.mismatches.filter (fun t => decide (s.clock.tick < t + 16000))
  let s2 := ({ s1 with bellows := { s1.bellows with mismatches := recent } }).putN Key.bellowsMismatchesInWindow (min 3 recent.length)
  let third := decide (3 ≤ recent.length) && recent.head? == some s.clock.tick
  let s3 := s2.selfCheck i.selfFails
  let s4 := if third then s3.allLoopsSafe 1 0x0406 recent.length else s3
  let writers : List (Fin 64) := if (s4.bitOf Key.bellowsGlobalStatus 0 && (third || i.selfFails)) = true then (List.finRange 64).filter (fun (l : Fin 64) => s4.flag (Key.loopEnable l) && !s4.loopStandby l) else r.2.1
  let s5 := writers.foldl (fun s l => s.loopWrite l) s4
  let s6 := s5.traceTick due s.router.bellowsSeen
  let busy := 96 + (due.map (fun (l : Fin 64) => if s.flag (Key.learnLearnerEnable l) then 64 else 48)).sum + 74
  let s7 := (s6.putN Key.bellowsBusyCyclesLastTick busy).putN Key.bellowsBusyCyclesMaximum (max busy (s6.nat Key.bellowsBusyCyclesMaximum))
  let s8 := s7.putN Key.bellowsECCCorrections (satAdd 32 (s7.nat Key.bellowsECCCorrections) i.corrected)
  i.eccScrub.foldl State.scrubFind s8

/-! ### Commands and hooks -/

/-- ECC_WORD_REWRITE: the hearth core rewrites an uncorrectable word of a disabled loop; its state words return to 0 (R256). -/
def execEccWordRewrite (word : Nat) (s : State) : Host.Outcome State Fault Refusal :=
  .next (s.served (fun s => if s.bellows.rewrites.contains word then
      let s1 := { s with bellows := { s.bellows with rewrites := s.bellows.rewrites.erase word } }
      (match loopFin (word / 32) with
       | some l => (s1.setLoop l (fun u => { u with acc := 0, d := 0, pvPrev := 0, uLast := 0, spEff := 0, uRc := 0 })).putBit Key.bellowsGlobalStatus 3 true
       | none => s1)
    else s))

/-- A mode command commits at tick `k` (R265, R276): at the standby of a pair it is a takeover, unless its partner has taken over in the same
tick and so made it the standby (R284); 0xFF requests no mode (R259). -/
def State.modeCommitted (s : State) (k : Nat) (l : Fin 64) (v : Nat) : State :=
  let s1 := s.putN (Key.loopModeCommand l) v
  match s.partner l with
  | some m =>
    if s.loopStandby l && v != 0xFF && !((s.loop m).cause == 8 && (s.loop m).tookOver == k) then
      (s1.takeover m l 8 (if s.loopDueAt k l && s.loopDueAt k m then k else k + 1)).setLoop l (fun u => { u with tookOver := k })
    else s1
  | none => s1

/-- A mode command as a row of its own: it commits at the next tick start (R123). -/
def State.modeOrdered (s : State) (l : Fin 64) (v : Nat) : State := s.modeCommitted (s.clock.tick + 1) l v

/-- LOOP_MODE_MANUAL, AUTO, CASCADE, PREDICTIVE (R265). -/
def execLoopModeManual (p : Path) (l : Fin 64) (s : State) : Host.Outcome State Fault Refusal :=
  .next (s.commanded p (Key.loopModeCommand l) 0 (fun s => s.modeOrdered l 0))
def execLoopModeAuto (p : Path) (l : Fin 64) (s : State) : Host.Outcome State Fault Refusal :=
  .next (s.commanded p (Key.loopModeCommand l) 1 (fun s => s.modeOrdered l 1))
def execLoopModeCascade (p : Path) (l : Fin 64) (s : State) : Host.Outcome State Fault Refusal :=
  .next (s.commanded p (Key.loopModeCommand l) 2 (fun s => s.modeOrdered l 2))
def execLoopModePredictive (p : Path) (l : Fin 64) (s : State) : Host.Outcome State Fault Refusal :=
  .next (s.commanded p (Key.loopModeCommand l) 3 (fun s => s.modeOrdered l 3))

/-- The effect of 0x01 at 0x2600+l:2B: the reset acts at the next sample (R243); none in condition NORMAL. -/
def State.loopFaultReset (s : State) (l : Fin 64) : State :=
  if s.nat (Key.loopCondition l) = condNormal then s else s.setLoop l (fun u => { u with resetReq := true })

/-- LOOP_FAULT_RESET (R243). -/
def execLoopFaultReset (p : Path) (l : Fin 64) (s : State) : Host.Outcome State Fault Refusal :=
  .next (s.commanded p (Key.loopFaultReset l) 1 (fun s => s.loopFaultReset l))

/-- HOLD_REQUEST_SET and HOLD_REQUEST_CLEAR: 0x2600+l:2A (R239, R246). -/
def execHoldRequestSet (p : Path) (l : Fin 64) (s : State) : Host.Outcome State Fault Refusal :=
  .next (s.commanded p (Key.loopHoldRequest l) 1 (fun s => s.putN (Key.loopHoldRequest l) 1))
def execHoldRequestClear (p : Path) (l : Fin 64) (s : State) : Host.Outcome State Fault Refusal :=
  .next (s.commanded p (Key.loopHoldRequest l) 0 (fun s => s.putN (Key.loopHoldRequest l) 0))

/-- The effect of 0x01 at 0x2600+l:44 (R259). -/
def State.loopStatsClear (s : State) (l : Nat) : State :=
  s.zero [Key.loopFEEvents l, Key.loopHOLDEntries l, Key.loopLockstepMismatches l]

/-- LOOP_STATISTICS_CLEAR (R259). -/
def execLoopStatisticsClear (p : Path) (l : Fin 64) (s : State) : Host.Outcome State Fault Refusal :=
  .next (s.commanded p (Key.loopClearStatistics l) 1 (fun s => s.loopStatsClear l))

/-- The effect of 0x01 at 0x2680:0D (R261, R262). -/
def State.bellowsCountersClear (s : State) : State :=
  (s.zero [Key.bellowsBusyCyclesMaximum, Key.bellowsMismatches, Key.bellowsECCCorrections, Key.bellowsECCUncorrectable,
    Key.bellowsSelfCheckFailures]).putBit Key.bellowsGlobalStatus 3 false

/-- BELLOWS_COUNTERS_CLEAR (R261). -/
def execBellowsCountersClear (p : Path) (s : State) : Host.Outcome State Fault Refusal :=
  .next (s.commanded p Key.bellowsClearCounters 1 (fun s => s.bellowsCountersClear))

/-- Reading 0x2680:01 latches the high word of the tick count (R261). -/
def State.latchTick (s : State) : State := { s with clock := { s.clock with tickLatch := s.clock.tick / 2 ^ 32 % 2 ^ 32 } }

/-- TICK_COUNT_READ (R261). -/
def execTickCountRead (p : Path) (s : State) : Host.Outcome State Fault Refusal :=
  .next (s.served (fun s => (s.latchTick.touch p).answer p (.value (Int.ofNat (s.clock.tick % 2 ^ 32)))))

/-- The effect of 0x01 at 0x2700+l:0C: the present region reads 0; a disabled learner has none (R279). -/
def State.learnerClear (s : State) (l : Nat) : State := if s.flag (Key.learnLearnerEnable l) then s.clearRegion l else s

/-- LEARNER_CLEAR_MEMORY: the region reads 0 from the next sample (R279). -/
def execLearnerClearMemory (p : Path) (l : Fin 64) (s : State) : Host.Outcome State Fault Refusal :=
  .next (s.commanded p (Key.learnClearMemory l) 1 (fun s => s.learnerClear l))

/-- A learner's enable, period or offset has changed: its new region reads 0, the index starts (R279, R282). -/
def State.learnerConfigured (s : State) (l : Fin 64) : State :=
  (if s.flag (Key.learnLearnerEnable l) then s.clearRegion l else s.putN (Key.learnLearnerState l) 0).setLoop l
    (fun u => { u with learnFresh := true, index := 0, lost := false, winOpen := false, winHit := false, gap := none,
                       pulse := false, uRc := 0 })

/-- A loop goes off (R109, R243): condition OFF, its SAFE and FE HOLD end, waiting requests are dropped. -/
def State.loopOff (s : State) (l : Fin 64) : State :=
  let was := s.nat (Key.loopCondition l)
  let s1 := s.setLoop l (fun u => { u with safe := false, feHold := false, resetReq := false, cause := 0, toManual := false,
                                           toRun := false, fresh := true, noKick := true, ramp := 0, tracking := false,
                                           standby := false, byFe := false, feDone := false, kelsisSp := Option.none })
  let s2 := ((s1.putN (Key.loopCondition l) condOff).putN (Key.loopModeInForce l) 0xFF).putN (Key.loopModeCommand l) 0xFF
  let s3 := (s2.putN (Key.loopFECount l) 0).zero [Key.learnHandOverState l, Key.learnRampActive l]
  let s4 := s3.putN (Key.loopStatus l) (s3.nat (Key.loopStatus l) / 4096 * 4096 + b2n (s.flag (Key.loopEnable l)))
  if was = condOff then s4 else s4.raiseSource (64 + l.val)

/-- All loops off: entry into STOPPED, shutdown (R109, R609). -/
def State.loopsOff (s : State) : State := (List.finRange 64).foldl (fun s (l : Fin 64) => s.loopOff l) s

/-- A commit to a loop's enable (R229, R257, R268). A loop that comes on beside a partner already in charge is the standby (R275). -/
def State.loopConfigured (s : State) (l : Fin 64) : State :=
  if s.flag (Key.loopEnable l) = false then
    (if s.nat (Key.loopCondition l) = condOff then s else s.loopOff l)
  else if s.nat (Key.loopCondition l) = condOff then
    let run := s.process == psRunning
    let s1 := s.setLoop l (fun u => { u with fresh := true, noKick := true, cause := 0, kelsisSp := Option.none, mode := if run then s.nat (Key.loopRunMode l) else 0, toManual := s.process == psArmed, standby := (s.partner l).any (fun (m : Fin 64) => s.nat (Key.loopCondition m) != condOff || decide (m.val < l.val)) })
    let s2 := match s.partner l with
      | some m => if (s1.loop l).standby then s1.setLoop m (fun u => { u with standby := false }) else s1
      | none => s1
    (s2.zero [Key.loopSamples l, Key.learnLastHandOverCause l]).putN (Key.learnHandOverState l) 0
  else s

/-- ARM and HALT: every enabled loop enters MANUAL with its safe output at its first due sample (R267). -/
def State.loopsToManual (s : State) : State :=
  (List.finRange 64).foldl (fun s (l : Fin 64) =>
    if s.flag (Key.loopEnable l) then
      (s.putN (Key.loopModeCommand l) 0xFF).setLoop l (fun u => { u with toManual := true, toRun := false, cause := 0 })
    else s) s

/-- START: every enabled loop enters its run mode at its first due sample; of a pair the lower number is in charge (R267, R275). -/
def State.loopsToRun (s : State) : State :=
  (List.finRange 64).foldl (fun s (l : Fin 64) =>
    if s.flag (Key.loopEnable l) then
      s.setLoop l (fun u => { u with toRun := true, toManual := false, byFe := false,
                                     standby := (s.partner l).any (fun m => decide (m.val < l.val)) })
    else s) s

/-- A mode switch changed a subindex of the loop or its learner: hand-over cause OVERLAY (R151). -/
def State.loopOverlay (s : State) (l : Fin 64) : State :=
  if s.nat (Key.loopCondition l) = condOff then s else s.setLoop l (fun u => u.giveCause 5)

/-- The value last applied under a policy, as a Q15 (R139, R269). -/
def State.policyApplied (s : State) (l : Fin 64) : Int × State :=
  let num := s.nat (Key.loopDestinationNumber l)
  match s.nat (Key.loopDestinationType l) with
  | 1 => (s.get (Key.driveCommandApplied num), s)
  | 2 =>
    let t := ratioOf (s.word (Key.coutTarget num))
    s.sat15Of (32768 * (t.1 - 4 * Int.ofNat t.2)) (16 * t.2)
  | 3 =>
    let ipk := s.nat (Key.actPeakCurrent num)
    s.sat15Of (Int.ofNat ((s.acts.units.toList.getD num .reset).target * 32768)) (ipk * unitsPerMa)
  | _ => ((s.loop l).applied, s)

/-- The outputs return to their sources: each loop whose output comes back hands over from the value last applied (R139). -/
def State.loopsHostReturn (s : State) : State :=
  (List.finRange 64).foldl (fun s (l : Fin 64) =>
    if s.loopDetached l && s.nat (Key.loopCondition l) != condOff then
      let a := s.policyApplied l
      a.2.setLoop l (fun u => { u.giveCause 6 with applied := a.1 })
    else s) s

/-- Kelsis hands a setpoint over to a bound loop (R354, R278). -/
def State.kelsisHandover (s : State) (l : Fin 64) (v : Int) : State := s.setLoop l (fun u => { u with kelsisSp := some v })

end Sys2Proof.Machine
end

