-- ==== Sys2Proof/Machine/Inputs.lean ====
section
/-! DEFINITION. The pulse inputs of X3 (R422-R424): level, edges, frequency, period, count, and index pulses for the
learners (R282). -/

namespace Sys2Proof.Machine

open Sys2Proof

/-- Change what pulse input `p8` keeps beside its object. -/
def State.setPulse (s : State) (p8 : Fin 8) (f : PulseUnit → PulseUnit) : State :=
  { s with outputs := { s.outputs with pulses := s.outputs.pulses.set p8 (f s.outputs.pulses[p8]) } }

/-- An edge to the level `high` counts under the edge setting: 0 rising, 1 falling, 2 both (R422). -/
def edgeCounts (edge : Nat) (high : Bool) : Bool := if edge = 0 then high else if edge = 1 then !high else true

/-- Publish the frequency n / d in Hz and its Q15 value sat15(32,768 * f / full scale) (R423). -/
def State.pulseFrequency (s : State) (p8 : Fin 8) (n d : Nat) : State :=
  let fs := ratioOf (s.word (Key.pulseFrequencyFullScale p8))
  let q := s.sat15Of (32768 * Int.ofNat (n * fs.2)) (d * fs.1.toNat)
  (q.2.putW (Key.pulseFrequency p8) (fofRatio (Int.ofNat n) d)).put (Key.pulseFrequencyQ15 p8) q.1

/-- The age of the input resets (R423). -/
def State.pulseFresh (s : State) (p8 : Fin 8) : State := s.setPulse p8 (fun u => { u with ageTick := some s.clock.tick })

/-- The age 0x2930+p:25 in ticks, saturating (R423). -/
def State.pulseAge (s : State) (p8 : Fin 8) : Nat := s.ageOf (s.outputs.pulses[p8]).ageTick

/-- Give the count its value and its Q15 value sat15(32,768 * count / full scale) (R423). -/
def State.pulseCount (s : State) (p8 : Fin 8) (n : Nat) : State :=
  let q := s.sat15Of (32768 * Int.ofNat n) (s.nat (Key.pulseCountFullScale p8))
  (q.2.putN (Key.pulseCount p8) n).put (Key.pulseCountQ15 p8) q.1

/-- A completed period of `c` cycles of 1/150,000,000 s: period in microseconds, frequency as its reciprocal, age (R422,
R423). -/
def State.pulsePeriod (s : State) (p8 : Fin 8) (c : Nat) : State :=
  let us := s.freeRound (Int.ofNat c) 150
  ((us.2.put (Key.pulsePeriod p8) (clampInt 0 4294967295 us.1)).pulseFrequency p8 150000000 c).pulseFresh p8

/-- An index pulse reaches the learners in index mode on this input; it is seen at the loop's next snapshot (R282). -/
def State.indexPulse (s : State) (p8 : Fin 8) : State :=
  (List.finRange 64).foldl (fun s (l : Fin 64) =>
    if s.flag (Key.learnLearnerEnable l) && s.nat (Key.learnIndexMode l) == 1 && s.nat (Key.learnIndexInput l) == p8.val then
      s.setLoop l (fun u => { u with pulse := true })
    else s) s

/-- What a counted edge does in the input's mode, `period` being the time since the counted edge before (R422, R423). -/
def State.pulseEdge (s : State) (p8 : Fin 8) (period : Option Nat) : State :=
  let measured := match period with
    | some c => if 0 < c then s.pulsePeriod p8 c else s
    | none => s
  match s.nat (Key.pulseMode p8) with
  | 1 => s.setPulse p8 (fun u => { u with gate := u.gate + 1 })
  | 2 => measured
  | 3 =>
    let n := (s.nat (Key.pulseCount p8) + 1) % 2 ^ 32
    let s1 := s.pulseCount p8 n
    if n = 0 then s1.raiseSource (182 + p8) else s1
  | 4 => (measured.indexPulse p8).raiseSource (182 + p8)
  | _ => s

/-- PULSE_EDGE: the filtered level changes (R424), with the time since the counted edge before where there was one; an edge of
the set polarity counts (R422). The same level again is no edge. -/
def execPulseEdge (p8 : Fin 8) (high : Bool) (period : Option Nat) (s : State) : Host.Outcome State Fault Refusal :=
  .next (s.served (fun s => if s.flag (Key.pulseLevel p8) = high then s
    else
      let s1 := s.putB (Key.pulseLevel p8) high
      if edgeCounts (s.nat (Key.pulseEdge p8)) high then s1.pulseEdge p8 period else s1))

/-- FREQUENCY_GATE_END: edges over the gate time give the frequency, and the age resets (R422, R423). -/
def execFrequencyGateEnd (p8 : Fin 8) (s : State) : Host.Outcome State Fault Refusal :=
  .next (s.served (fun s => if s.nat (Key.pulseMode p8) = 1 then
      (((s.pulseFrequency p8 (1000 * (s.outputs.pulses[p8]).gate) (s.nat (Key.pulseGateTime p8))).setPulse p8
        (fun u => { u with gate := 0 }))).pulseFresh p8
    else s))

/-- PULSE_ZERO_TIME: no edge for the zero time: the frequency reads 0.0, the age runs on, the source is raised (R423). -/
def execPulseZeroTime (p8 : Fin 8) (s : State) : Host.Outcome State Fault Refusal :=
  .next (s.served (fun s => if s.nat (Key.pulseMode p8) = 0 then s
    else (s.zero [Key.pulseFrequency p8, Key.pulseFrequencyQ15 p8]).raiseSource (182 + p8)))

/-- Writing 0x01 to 0x2930+p:08 sets the count to 0 (R423). -/
def State.countReset (s : State) (p8 : Fin 8) : State := s.pulseCount p8 0

/-- COUNT_RESET. -/
def execCountReset (p : Path) (p8 : Fin 8) (s : State) : Host.Outcome State Fault Refusal :=
  .next (s.commanded p (Key.pulseCountReset p8) 1 (fun s => s.countReset p8))

end Sys2Proof.Machine
end

