-- ==== Sys2Proof/Machine/FlueNet.lean ====
section
/-! DEFINITION. Flue's addresses, link state, routes, frames and egress queues (R521-R540), and what every arriving frame
passes (R525, R527, R554). -/

namespace Sys2Proof.Machine

open Sys2Proof

/-- Change the Flue record. -/
def State.setFlue (s : State) (f : Flue → Flue) : State := { s with flue := f s.flue }

/-- Change a port's record. -/
def State.setPort (s : State) (p : Fin 4) (f : FluePort → FluePort) : State :=
  s.setFlue (fun u => { u with ports := u.ports.set p (f u.ports[p]) })

/-- Raise source `i` of R556. -/
def State.raiseFlue (s : State) (i : Nat) : State := s.raiseSource i

/-! ### Addresses (R531-R533) -/

/-- Nibble `i` of an address, nibble 0 the most significant. -/
def addrNibble (a i : Nat) : Nat := a / 16 ^ (7 - i) % 16

/-- The level: non-zero nibbles. -/
def addrLevel (a : Nat) : Nat := ((List.range 8).filter (fun i => addrNibble a i != 0)).length

/-- A valid seated address: no non-zero nibble after a zero one, nibble 0 not 0xF. -/
def addrSeated (a : Nat) : Bool :=
  addrNibble a 0 != 15 && (List.range 7).all (fun i => addrNibble a i != 0 || addrNibble a (i + 1) == 0)

/-- A valid address of a frame (R531). -/
def addrValid (a : Nat) : Bool := addrSeated a || (addrNibble a 0 == 15 && a != 0xFFFFFFFF)

/-- The group of a unit's address, and its seat in it. -/
def addrGroup (a : Nat) : Nat :=
  let l := addrLevel a
  if l = 0 then 0 else a / 16 ^ (9 - l) * 16 ^ (9 - l)
def addrSeat (a : Nat) : Nat := addrNibble a (addrLevel a - 1)

/-- `a` lies under the prefix `p`. -/
def addrUnder (p a : Nat) : Bool := a / 16 ^ (8 - addrLevel p) == p / 16 ^ (8 - addrLevel p)

/-- The unseated address of a unique ID. -/
def unseatedAddr (uid : Nat) : Nat := if uid % 2 ^ 28 = 2 ^ 28 - 1 then 0xFFFFFFFE else 0xF0000000 + uid % 2 ^ 28

/-! ### This node -/

/-- The address in force, and the group of which the module is a member. -/
def State.address (s : State) : Nat := s.nat Key.flueAddressInForce
def State.myGroup (s : State) : Nat := s.nat Key.flueGroupAddress

/-- Seated: SEATED, or LEAF (0x3700:04). -/
def State.seated (s : State) : Bool := decide (2 ≤ s.nat Key.flueSeatState)

/-- A group record. -/
def State.groupOf (s : State) (g : Nat) : Option FlueGroup := s.flue.groups.find? (fun r => r.addr == g)

/-- Change the record of group `g`. -/
def State.setGroup (s : State) (g : Nat) (f : FlueGroup → FlueGroup) : State :=
  s.setFlue (fun u => { u with groups := u.groups.map (fun r => if r.addr == g then f r else r) })

/-- The lowest group the module heads, or the one a transaction addresses (R542). -/
def State.lowestGroup (s : State) : Option FlueGroup :=
  (s.flue.groups.filter (fun r => r.head == s.uid && r.head != 0 && s.flue.shown.all (fun a => r.addr == a))).foldl
    (fun best r => match best with
      | none => some r
      | some b => if addrLevel b.addr < addrLevel r.addr then some r else some b) none

/-! ### The instances of a group's objects (R542) -/

/-- What each headed group has of its own in the dictionary: fan-out entries and the channel map. -/
def groupKeys : List Nat :=
  (List.range 16).flatMap (fun e => (List.range 6).map (fun i => (0x3790 + e) * 256 + 1 + i)) ++ (List.range 128).map (fun c => 0x37A0 * 256 + 1 + c)

/-- The group whose instance stands in the dictionary: the one a transaction has turned to, else the lowest headed one, which is the module's
own. -/
def State.currentGroup (s : State) : Nat := s.flue.shown.getD ((s.lowestGroup.map (fun g => g.addr)).getD s.myGroup)

/-- The instance in the dictionary, put aside. -/
def State.groupBank (s : State) : FlueInstance :=
  ⟨s.currentGroup, (groupKeys.map (fun k => (k, s.get k))).filter (fun e => e.2 != objDefault e.1), s.dict.staged⟩

/-- Another group's instance is taken into the dictionary; one that has never been written stands at its defaults. -/
def State.loadBank (s : State) (i : FlueInstance) : State :=
  { s with obj := groupKeys.foldl (fun o k => writeKey objDefault o k (readKey objDefault i.values k)) s.obj, dict := { s.dict with staged := i.staged } }

/-- The dictionary turns to the instance of group `g`. -/
def State.turnTo (s : State) (g : Nat) : State :=
  if s.currentGroup = g then s
  else
    let mine := s.groupBank
    let other := (s.flue.instances.find? (fun i => i.addr == g)).getD ⟨g, [], []⟩
    (s.loadBank other).setFlue (fun u => { u with instances := mine :: u.instances.filter (fun i => i.addr != mine.addr && i.addr != g) })

/-- What a transaction at the address of group `g` does, on that group's instance. The saved values are those of the lowest group's instance;
the others are not saved (DESIGN CHOICE, log 190). -/
def State.inGroup (s : State) (g : Nat) (f : State → State) : State :=
  let here := s.currentGroup
  let back := s.flue.shown
  let t := ((f ((s.turnTo g).setFlue (fun u => { u with shown := some g }))).turnTo here).setFlue (fun u => { u with shown := back })
  if here = g then t else { t with base := s.base, dict := { t.dict with crcDirty := s.dict.crcDirty } }

/-- What a transaction at one of this module's addresses does: at its own, on the instance of the lowest group. -/
def State.atAddress (s : State) (dst : Nat) (f : State → State) : State :=
  if dst ≠ s.address then s.inGroup dst f
  else if s.flue.shown.isNone then f s
  else s.inGroup (((s.setFlue (fun u => { u with shown := none })).lowestGroup.map (fun g => g.addr)).getD s.myGroup) f

/-- The module answers an address (R532). -/
def State.answers (s : State) (a : Nat) : Bool := a == s.address || s.headed.contains a

/-- A port takes frames: enabled, its link up. -/
def State.portUp (s : State) (p : Fin 4) : Bool :=
  s.flag Key.flueEnable && s.flag (Key.portEnable p) && decide (2 ≤ s.nat (Key.portLinkState p))

/-- An adjacency is up on a port (R534). -/
def State.adjacent (s : State) (p : Fin 4) : Bool := s.portUp p && s.nat (Key.portLinkState p) == 3

/-- The neighbour's unique ID, address and group. -/
def State.neighbourUid (s : State) (p : Fin 4) : Nat :=
  s.nat (Key.portNeighbourUniqueIDHigh p) * 2 ^ 32 + s.nat (Key.portNeighbourUniqueIDLow p)
def State.neighbourGroup (s : State) (p : Fin 4) : Nat := ((s.flue.ports[p]).neighbour.map (fun h => h.group)).getD 0

/-- A BORDER node: an adjacency to a node of another group (R535). -/
def State.border (s : State) : Bool := (List.finRange 4).any (fun (p : Fin 4) => s.adjacent p && s.neighbourGroup p != s.myGroup)

/-- Sync state GRANDMASTER is due: the root head, or the named module (R553). -/
def State.isGrandmaster (s : State) : Bool :=
  s.flag Key.flueEnable && s.clocksRun
    && (if s.nat Key.ftimeGrandmasterChoice = 0 then s.rootHead
        else s.nat Key.ftimeNamedGrandmasterHigh * 2 ^ 32 + s.nat Key.ftimeNamedGrandmasterLow == s.uid)

/-- The role word 0x3700:06. -/
def State.roleWord (s : State) : Nat :=
  b2n ((s.groupOf s.myGroup).any (fun g => g.head == s.uid && g.head != 0)) + 2 * b2n ((s.groupOf s.myGroup).any (fun g => g.deputy == s.uid && g.deputy != 0))
    + 4 * b2n s.rootHead + 8 * b2n s.isGrandmaster + 16 * b2n s.border

/-! ### Link state and routes (R535, R540) -/

/-- Unique IDs of this node's adjacencies. -/
def State.adjacentUids (s : State) : List Nat := ((List.finRange 4).filter (fun (p : Fin 4) => s.adjacent p)).map (fun (p : Fin 4) => s.neighbourUid p)

/-- This node's LINK_STATE (R535; log 44). -/
def State.ownLinkState (s : State) : LinkState :=
  { origin := s.uid, addr := s.address, priority := s.nat Key.flueHeadPriority, seq := s.flue.lsSeq,
    groups := s.flue.groups.map (fun g => g.addr), heads := s.headed, adjacent := s.adjacentUids,
    borders := ((List.finRange 4).filter (fun (p : Fin 4) => s.adjacent p && s.neighbourGroup p != s.myGroup)).map (fun (p : Fin 4) => s.neighbourGroup p),
    leaf := s.process == psKindling }

/-- The adjacencies a node offers for transit: none of a leaf (R540). -/
def edgesOf (db : List LinkState) (u : Nat) : List Nat :=
  match db.find? (fun r => r.origin == u) with
  | some r => if r.leaf then [] else r.adjacent
  | none => []

/-- Hops from a set of nodes to `t`, not through those already seen. -/
def hopsTo (db : List LinkState) (t : Nat) : Nat → List Nat → List Nat → Option Nat
  | 0, _, _ => none
  | n + 1, frontier, seen =>
    if frontier.contains t then some 0
    else
      let seen := frontier ++ seen
      let next := (frontier.flatMap (fun u => edgesOf db u)).filter (fun u => !seen.contains u)
      if next.isEmpty then none else (hopsTo db t n next.eraseDups seen).map (· + 1)

/-- Hops from port `p`'s neighbour to node `t`, not back through this node. -/
def State.hopsVia (s : State) (p : Fin 4) (t : Nat) : Option Nat :=
  if s.adjacent p then hopsTo s.flue.lsdb t 33 [s.neighbourUid p] [s.uid] else none

/-- The port on a shortest path to node `t`, the lower port of equals (R540). -/
def State.portTo (s : State) (t : Nat) : Option (Fin 4) :=
  ((List.finRange 4).foldl (fun best (p : Fin 4) =>
    match s.hopsVia p t, best with
    | none, b => b
    | some n, none => some (n, p)
    | some n, some (m, q) => if n < m then some (n, p) else some (m, q)) (none : Option (Nat × Fin 4))).map (fun b => b.2)

/-- Node `u` can be reached in the link state. -/
def State.reachable (s : State) (u : Nat) : Bool := u == s.uid || (s.portTo u).isSome

/-- The nodes that answer address `a` in the link state. -/
def State.nodeAt (s : State) (a : Nat) : Option Nat :=
  (s.flue.lsdb.find? (fun r => r.addr == a || r.heads.contains a)).map (fun r => r.origin)

/-- Addresses of the unseated nodes this node knows: its neighbours and those of the link state that can be reached. At most 16 are reachable at
once (R533). -/
def State.unseatedNodes (s : State) : List Nat :=
  ((((List.finRange 4).filter (fun (p : Fin 4) => s.adjacent p)).map (fun (p : Fin 4) => s.nat (Key.portNeighbourAddress p))
    ++ (s.flue.lsdb.filter (fun r => r.origin != s.uid && s.reachable r.origin)).map (fun r => r.addr)).filter (fun a => addrNibble a 0 == 15)).eraseDups

/-- Where a frame for another address leaves (R540): a neighbour that has it; toward the node that has it, by the link state known; outside the
module's group else toward the border node that advertises the longest matching prefix. A seventeenth unseated node is not reached (R533). -/
def State.routePort (s : State) (a : Nat) : Option (Fin 4) :=
  if (s.unseatedNodes.drop 16).contains a then none
  else match (List.finRange 4).find? (fun (p : Fin 4) => s.adjacent p && s.nat (Key.portNeighbourAddress p) == a) with
  | some p => some p
  | none =>
    let inside := (s.flue.lsdb.find? (fun r => r.addr == a || r.heads.contains a)).any (fun r => addrGroup r.addr == s.myGroup)
    match (s.nodeAt a).bind s.portTo, inside with
    | some p, _ => some p
    | none, true => none
    | none, false =>
      let far := s.flue.lsdb.flatMap (fun r => r.borders.map (fun g => (g, some r.origin, (none : Option (Fin 4)))))
      let near := ((List.finRange 4).filter (fun (p : Fin 4) => s.adjacent p && s.neighbourGroup p != s.myGroup)).map
        (fun (p : Fin 4) => (s.neighbourGroup p, (none : Option Nat), some p))
      let best := ((near ++ far).filter (fun c => addrUnder c.1 a)).foldl
        (fun b c => match b with
          | none => some c
          | some d => if addrLevel d.1 < addrLevel c.1 then some c else some d) none
      match best with
      | some (_, _, some p) => some p
      | some (_, some u, none) => s.portTo u
      | _ => none

/-! ### Frames (R523-R528) -/

/-- A counter kept per key, and the list with it one up. -/
def takeCounter (l : List (Nat × Nat)) (k m : Nat) : Nat × List (Nat × Nat) :=
  let n := ((l.find? (fun e => e.1 == k)).map (fun e => e.2)).getD 0
  (n, (k, (n + 1) % m) :: l.filter (fun e => e.1 != k))

/-- Queue a frame on a port; at a full queue it is discarded and counted (R523). -/
def State.enqueueFrame (s : State) (p : Fin 4) (f : FlueFrame) : State :=
  if s.portUp p then
    let q := queueOf f.body
    let old := (s.flue.ports[p]).queues[q]
    if old.length < (if q = 1 then 4 else 16) then
      s.setPort p (fun u => { u with queues := u.queues.set q (old ++ [f]) })
    else
      let s1 := s.bump 32 (Key.portQueueDiscards p)
      if q = 0 then s1.raiseFlue 218 else s1
  else s

/-- A frame of this node's own: hop 32, or 1 for a HELLO; sequence and alive counter taken (R525, R527). -/
def State.makeFrame (s : State) (dst : Nat) (b : FlueBody) : FlueFrame × State :=
  let q := takeCounter s.flue.txSeq dst (2 ^ 32)
  let a := takeCounter s.flue.txAlive (dataIdOf b) 16
  ({ hop := (match b with | .hello _ => 1 | _ => 32), dst := dst, src := s.address, seq := q.1, alive := a.1, body := b, spoiled := false },
    s.setFlue (fun u => { u with txSeq := q.2, txAlive := a.2 }))

/-- The seat of a sleeping member this node heads, for an address at or under it (R550). -/
def State.sleeperAt (s : State) (a : Nat) : Option (Nat × Fin 15) :=
  (s.flue.groups.filter (fun g => s.headed.contains g.addr)).findSome? (fun g =>
    ((List.finRange 15).find? (fun (i : Fin 15) => (g.members[i]).state == 2 && (g.members[i]).addr != 0 && addrUnder (g.members[i]).addr a)).map
      (fun i => (g.addr, i)))

/-- Change a member's record. -/
def State.setMember (s : State) (g : Nat) (i : Fin 15) (f : FlueMember → FlueMember) : State :=
  s.setGroup g (fun r => { r with members := r.members.set i (f r.members[i]) })

/-- A frame without a route, or for a sleeper's discarded SYNC, is counted (R540, R550). -/
def State.noRoute (s : State) : State := s.bump 32 Key.flueUnreachableFrames

/-- Send a frame on its way by its route. -/
def State.routeFrame (s : State) (f : FlueFrame) : State :=
  match s.routePort f.dst with
  | some p => s.enqueueFrame p f
  | none => s.noRoute

/-- A frame of a mailbox goes out behind those in its queue: 32 of them can find no more than 16 places, and the others wait on in the mailbox,
which the model does not tell from the queue (R550; DESIGN CHOICE, log 101). -/
def State.deliverMail (s : State) (f : FlueFrame) : State :=
  match s.routePort f.dst with
  | some p => if s.portUp p then s.setPort p (fun u => { u with queues := u.queues.set (queueOf f.body) (u.queues[queueOf f.body] ++ [f]) }) else s
  | none => s.noRoute

/-- A body sent by this node; a sleeping member's frames go to its mailbox instead (R550). The answer of a mailbox to a
DICT_REQ: 1 STORED with the wake time, 3 MAILBOX_FULL. 32 frames are never more than 16 KiB, a frame taking at most 510 octets
(R524). The manual gives no reaction where a head of several groups holds more mailboxes than the 240 KiB of R29: each mailbox is
bounded, their total is not (log 101). -/
def State.mailOrRoute (s : State) (f : FlueFrame) : State × Option (Nat × Nat) :=
  match s.sleeperAt f.dst with
  | none => (s.routeFrame f, none)
  | some (g, i) =>
    match f.body with
    | .boundary _ => (s.noRoute, none)
    | .gptp _ _ => (s, none)
    | _ =>
      match s.groupOf g with
      | none => (s, none)
      | some r =>
        let m := r.members[i]
        if m.mailbox.length < 32 then
          (s.setMember g i (fun m => { m with mailbox := m.mailbox ++ [f] }), some (1, m.wake))
        else
          let s1 := if m.fullLogged then s else (s.setMember g i (fun m => { m with fullLogged := true })).log 0x0907 noSource
          (s1, some (3, m.wake))

/-- Send a body to an address, from one of this node's addresses (nothing goes out to an address of this node). -/
def State.sendFrom (s : State) (src dst : Nat) (b : FlueBody) : State :=
  if s.answers dst then s
  else
    let r := s.makeFrame dst b
    (r.2.mailOrRoute { r.1 with src := src }).1

/-- Send a body from the module's own address. -/
def State.sendFlue (s : State) (dst : Nat) (b : FlueBody) : State := s.sendFrom s.address dst b

/-- A flood of group `g` goes out on a port: in the module's own group to a neighbour of the same group; in a group above it, whose members are
groups, to any neighbour that lies under it (R535, R536; DEDUCED, log 44). -/
def State.floods (s : State) (g : Nat) (p : Fin 4) : Bool :=
  s.adjacent p && (if g = s.myGroup then s.neighbourGroup p == g else addrUnder g (s.neighbourGroup p))

/-- Flood a body within group `g`, on every adjacency to it but the one it came by (R535). -/
def State.flood (s : State) (g : Nat) (except_ : Option (Fin 4)) (b : FlueBody) : State :=
  (List.finRange 4).foldl (fun s (p : Fin 4) =>
    if s.floods g p && except_ != some p then
      let r := s.makeFrame g b
      r.2.enqueueFrame p r.1
    else s) s

/-- Pass a flooded frame on, as it came (R535); in Kindling mode the module does no routing (R106). -/
def State.passOn (s : State) (g : Nat) (m : FlueMsg) (b : FlueBody) : State :=
  if s.process = psKindling then s
  else (List.finRange 4).foldl (fun s (p : Fin 4) =>
    if s.floods g p && p != m.port && decide (1 < m.hop) then
      s.enqueueFrame p { hop := m.hop - 1, dst := m.dst, src := m.src, seq := m.seq, alive := m.alive, body := b, spoiled := false }
    else s) s

/-- Flood this node's LINK_STATE with a new sequence number (R535). -/
def State.floodLinkState (s : State) : State :=
  let s1 := s.setFlue (fun u => { u with lsSeq := u.lsSeq + 1 })
  s1.flue.groups.foldl (fun s g => s.flood g.addr none (.linkState s1.ownLinkState)) s1

/-! ### Arrival (R525, R527, R554) -/

/-- A failed tag: counted, 0x0905 at most once per 60 s per port, source 217 (R554). -/
def State.authFailed (s : State) (p : Fin 4) : State :=
  let s1 := (s.bump 32 (Key.portAuthenticationFailures p)).raiseFlue 217
  if (s.flue.ports[p]).authLog.any (fun t => decide (s.clock.tick < t + 960000)) then s1
  else (s1.setPort p (fun u => { u with authLog := some s.clock.tick })).log 0x0905 noSource

/-- The alive counter of a SYNC or CTRL frame repeats the last accepted one of its source and data ID (R527, R571). -/
def State.aliveRepeats (s : State) (src id alive : Nat) : Bool := s.flue.rxAlive.contains (src, id, alive % 16)

/-- Note an accepted alive counter. -/
def State.noteAlive (s : State) (src id alive : Nat) : State :=
  s.setFlue (fun u => { u with rxAlive := (src, id, alive % 16) :: u.rxAlive.filter (fun e => !(e.1 == src && e.2.1 == id)) })

/-- The addresses of a frame are valid: its destination may be the link-local one in a HELLO (R531). -/
def addressesOk (m : FlueMsg) (b : FlueBody) : Bool :=
  addrValid m.src && (addrValid m.dst || (typeCode b == 0x01 && m.dst == 0xFFFFFFFF))

/-- VERSION is 1, TYPE is that of the body, CLASS matches it, LENGTH agrees with the frame; a type that R526 does not list is no body's
(R525, R526). -/
def headSound (h : FlueHead) (b : FlueBody) : Bool :=
  h.version == 1 && h.ftype == typeCode b && h.fclass == 64 * classOf (queueOf b) && h.length == h.octets && decide (h.length ≤ 460)

/-- Flue's EtherType, header and trailer check hold; a VLAN tag or a pause frame has another EtherType (R521, R525, R567). -/
def frameSound (m : FlueMsg) (b : FlueBody) : Bool := m.ether == 0x88B5 && headSound m.head b && m.check

/-- A frame for the hearth core finds the queue of its class at port 0 full: discarded, and counted at the port it came by, port 0 having no
count (R523; DESIGN CHOICE, log 191). -/
def State.noRoom (s : State) (m : FlueMsg) (b : FlueBody) : State :=
  let s1 := s.bump 32 (Key.portQueueDiscards m.port)
  if queueOf b = 0 then s1.raiseFlue 218 else s1

/-- What every frame passes: the port up, FCS, EtherType, header and trailer check, a place at port 0, tag, addresses (discarded, R531), alive
counter of SYNC and CTRL. True when the frame is taken. -/
def State.arrive (s : State) (m : FlueMsg) (b : FlueBody) : Bool × State :=
  if s.portUp m.port = false then (false, s)
  else if (m.fcs && frameSound m b) = false then (false, s.bump 32 (Key.portCheckErrors m.port))
  else if m.room = false then (false, s.noRoom m b)
  else if s.flag (Key.portAuthentication m.port) && !m.tagOk then (false, s.authFailed m.port)
  else if addressesOk m b = false then (false, s)
  else
    let s1 := s.bump 32 (Key.portFramesReceived m.port)
    let guarded := queueOf b == 0 || queueOf b == 2
    if guarded && s1.aliveRepeats m.src (dataIdOf b) m.alive then (false, s1)
    else (true, if guarded then s1.noteAlive m.src (dataIdOf b) m.alive else s1)

/-- The key of a link's tags, where this end authenticates (R554). -/
def State.linkKey (s : State) (p : Fin 4) : Option (List Byte) := if s.flag (Key.portAuthentication p) then some s.flue.siteKey else none

/-- A frame goes out on a port: its octets on the link, the frame counter one up, counted (R524, R554, R561). -/
def State.transmit (s : State) (p : Fin 4) (f : FlueFrame) : State :=
  (s.setPort p (fun u => { u with wire := wireBytes s.uid u p (s.linkKey p) f, counter := (u.counter + 1) % 2 ^ 48 })).bump 32 (Key.portFramesSent p)

/-- One frame leaves each port, the first of its first queue that is not empty (R523); wire times are left out (log 46). -/
def State.drainPorts (s : State) : State :=
  (List.finRange 4).foldl (fun s (p : Fin 4) =>
    match (List.finRange 5).find? (fun (q : Fin 5) => !((s.flue.ports[p]).queues[q]).isEmpty) with
    | some q =>
      (match (s.flue.ports[p]).queues[q] with
       | f :: rest => (s.setPort p (fun u => { u with queues := u.queues.set q rest })).transmit p f
       | [] => s)
    | none => s) s

end Sys2Proof.Machine
end

