-- ==== Sys2Proof/Machine/Flue.lean ====
section
/-! DEFINITION. Flue's protocols (R533-R556): adjacencies, election and take-over, seating, the site plan, status and banking,
time. Dictionary transactions are in FlueDict. -/

namespace Sys2Proof.Machine

open Sys2Proof

/-! ### Status and alarm word (R544, R545) -/

/-- The status of a module by its process state (R544). -/
def State.flueStatus (s : State) : Nat := [3, 2, 1, 0, 4, 5].getD s.process 3

/-- The alarm word 0x3700:0D (R545). -/
def State.alarmWord (s : State) : Nat :=
  let some64 := fun (f : Nat → Bool) => (List.range 64).any f
  b2n (s.process == psFault)
    + 2 * b2n (s.nat Key.lostState == 1 || s.nat Key.lostState == 2)
    + 4 * b2n (some64 (fun n => s.nat (Key.chanEnable n) == 1 && s.nat (Key.chanState n) == chanBroken))
    + 8 * b2n (s.bitOf Key.bellowsGlobalStatus 0
        || some64 (fun l => s.flag (Key.loopEnable l) && (s.nat (Key.loopCondition l) == condSafe || s.nat (Key.loopCondition l) == condFault)))
    + 16 * b2n ((List.range 4).any (fun c => s.flag (Key.colEnable c) && !s.columnHealthy c))
    + 32 * b2n ((List.range 4).any (fun c => s.nat (Key.predState c) == 1))
    + 64 * b2n ((List.range 20).any (fun a => s.actFaulty a) || (List.range 10).any (fun h => s.hsFaulty h))
    + 128 * b2n ((List.range 16).any (fun d => let x := s.nat (Key.driveState d); x == driveBlocked || x == driveOpenLoop || x == driveStall))
    + 256 * b2n ([0, 1, 2, 4, 5].any (fun b => s.bitOf Key.thermalStatus b))
    + 512 * b2n (s.bitOf Key.supplySupplyStatus 0 || s.p2Lost)
    + 1024 * b2n (s.bus 0 == busOff || s.bus 1 == busOff)
    + 2048 * b2n (s.flag Key.ashFull || s.ash.failed)
    + 4096 * b2n (s.process == psKindling)
    + 8192 * b2n (!s.timeSynced)

/-- Records of severity 8 or more, and the code of the newest (R543). -/
def State.severeRecords (s : State) : Nat × Nat :=
  let l := s.ash.slots.filter (fun r => decide (8 ≤ r.event.severity))
  (l.length, (l.head?.map (fun r => r.event.code)).getD 0)

/-- The worst status, the alarm OR and the severe records of a group (R544, R545, R563). -/
def groupWorst (g : FlueGroup) : Nat :=
  (g.members.toList.filter (fun m => m.state != 0)).foldl (fun w m => max w (if m.state = 3 then 6 else m.status)) 0
def groupAlarm (g : FlueGroup) : Nat :=
  let l := g.members.toList.filter (fun m => m.state != 0)
  let w := l.foldl (fun w m => w ||| m.alarm) 0
  if l.any (fun m => m.state == 3) then w ||| 0x4000 else w
def groupSevere (g : FlueGroup) : Nat := g.members.toList.foldl (fun n m => satAdd 32 n m.severe) 0

/-- Change a member; source 212 when its state changes, 213 when the group's worst status or alarm OR does (R556). -/
def State.updateMember (s : State) (g : Nat) (i : Fin 15) (f : FlueMember → FlueMember) : State :=
  match s.groupOf g with
  | none => s
  | some old =>
    let s1 := s.setMember g i f
    match s1.groupOf g with
    | none => s1
    | some new =>
      let s2 := if (old.members[i]).state = (new.members[i]).state then s1 else s1.raiseFlue 212
      if groupWorst old = groupWorst new ∧ groupAlarm old = groupAlarm new then s2 else s2.raiseFlue 213

/-- The seat of an address: its group, where this module heads it, and the member's index. -/
def State.seatAt (s : State) (a : Nat) : Option (Nat × Fin 15) :=
  let g := addrGroup a
  let n := addrSeat a
  if h : 1 ≤ n ∧ n ≤ 15 then (if s.headed.contains g then some (g, ⟨n - 1, by omega⟩) else none) else none

/-! ### Time (R552, R553) -/

/-- A new sync state; source 214 when it changes. -/
def State.setSync (s : State) (v : Nat) : State :=
  if s.nat Key.ftimeSyncState = v then s else (s.putN Key.ftimeSyncState v).raiseFlue 214

/-- Give Flue time a value now, in ns. -/
def State.setFlueTime (s : State) (ns : Nat) : State :=
  { s with clock := { s.clock with flueOffset := Int.ofNat ns - Int.ofNat (nsOfUnits s.clock.op) } }

/-- The grandmaster role comes or goes with the root head or the configuration (R553): it takes its time from the RTC. -/
def State.grandmasterCheck (s : State) : State :=
  if s.isGrandmaster then
    (if s.nat Key.ftimeSyncState = 3 then s
     else
      let s1 := s.setFlueTime s.moduleNs
      ((s1.putN Key.ftimeGrandmasterHigh (s.uid / 2 ^ 32)).putN Key.ftimeGrandmasterLow (s.uid % 2 ^ 32)).setSync 3)
  else if s.nat Key.ftimeSyncState = 3 then (s.setFlue (fun u => { u with syncs := 0 })).setSync 0
  else s

/-! ### Seating and the plan (R533, R538, R539) -/

/-- The entries of a site plan: unique ID and address. -/
def planEntries : Nat → List Byte → List (Nat × Nat)
  | 0, _ => []
  | _, [] => []
  | n + 1, bs => (leNat (bs.take 8), leNat ((bs.drop 8).take 4)) :: planEntries n (bs.drop 16)

/-- The entries of the plan this node holds. -/
def State.plan (s : State) : List (Nat × Nat) := planEntries 2048 (s.block Key.planPlan)

/-- No element twice. -/
def distinct : List Nat → Bool
  | [] => true
  | x :: xs => !xs.contains x && distinct xs

/-- A plan's content (R539). -/
def planOk (bs : List Byte) : Bool :=
  let l := planEntries 2049 bs
  decide (l.length ≤ 2048) && l.all (fun e => addrSeated e.2) && distinct (l.map (fun e => e.1)) && distinct (l.map (fun e => e.2))

/-- The plan's part under a group's address. -/
def planPart (l : List (Nat × Nat)) (g : Nat) : List (Nat × Nat) := l.filter (fun e => addrUnder g e.2)

/-- A fresh record of a group. -/
def newGroup (g : Nat) : FlueGroup := { addr := g, head := 0, deputy := 0, members := Vector.replicate 15 .empty, part := [], wanted := [] }

/-- Own-group fields of 0x3700 that show head and group. -/
def State.showGroup (s : State) : State :=
  let h := ((s.groupOf s.myGroup).map (fun g => g.head)).getD 0
  (s.putN Key.flueHeadUniqueIDHigh (h / 2 ^ 32)).putN Key.flueHeadUniqueIDLow (h % 2 ^ 32)

/-- The module takes a seat's address (R538): in force, stored, level and group; of the groups it stood in, those above the seat stay; source 211
when the address changes. -/
def State.adoptAddress (s : State) (a : Nat) : State :=
  let g := addrGroup a
  let old := s.address
  let s1 := (((s.putN Key.flueAddressInForce a).putN Key.flueStoredAddress a).putN Key.flueGroupAddress g).putN Key.flueLevel (addrLevel a)
  let s2 := s1.putN Key.flueSeatState (if s.process = psKindling then 3 else 2)
  let kept := s2.setFlue (fun u => { u with groups := u.groups.filter (fun r => addrUnder r.addr g) })
  let s3 := if (kept.groupOf g).isSome then kept else kept.setFlue (fun u => { u with groups := u.groups ++ [newGroup g] })
  let s4 := s3.showGroup
  if old = a then s4 else s4.raiseFlue 211

/-- Unique IDs of the nodes this node knows as seated: itself, those whose acknowledgement or LINK_STATE it has taken (0x3700:10; DEDUCED,
log 165). -/
def State.seatedNodes (s : State) : List Nat :=
  ((if s.seated then [s.uid] else []) ++ s.flue.acked ++ (s.flue.lsdb.filter (fun r => addrSeated r.addr)).map (fun r => r.origin)).eraseDups

/-- A node that the root head leaves unseated, logged once. -/
def State.leaveUnseated (s : State) (uid : Nat) (f : State → State) : State :=
  if s.flue.seen.contains uid then s else f (s.setFlue (fun u => { u with seen := uid :: u.seen }))

/-- A head meets a node (R533, R538): it sends the address that its seat table, the plan under its group address, gives, unless the node has it
already and is seated; the root head logs an unseated node that is not in the plan once, and leaves one beyond 2,048 seated ones unseated. -/
def State.headSees (s : State) (uid addr : Nat) : State :=
  let entry := s.plan.find? (fun e => e.1 == uid)
  match entry with
  | some e =>
    let present : Bool := match s.seatAt e.2 with
      | some (g, i) => (s.groupOf g).any (fun r => (r.members[i]).state != 0)
      | none => true
    if e.1 = s.uid ∨ (addr = e.2 ∧ present) ∨ s.headed.all (fun g => !addrUnder g e.2) then s
    else if s.rootHead && decide (2048 ≤ s.seatedNodes.length) && !s.seatedNodes.contains uid then
      s.leaveUnseated uid (fun s => s.log 0x0908 noSource)
    else s.sendFlue addr (.seat uid e.2 false)
  | none =>
    if s.rootHead && addrNibble addr 0 == 15 then
      s.leaveUnseated uid (fun s => (s.log 0x0903 noSource (uid / 2 ^ 32) (uid % 2 ^ 32)).raiseFlue 220)
    else s

/-- A head goes through every node it knows (R539). -/
def State.reseat (s : State) : State :=
  let s1 := s.flue.lsdb.foldl (fun s r => s.headSees r.origin r.addr) s
  match s1.plan.find? (fun e => e.1 == s1.uid) with
  | some e => if e.2 = s1.address ∨ s1.headed.isEmpty then s1 else s1.adoptAddress e.2
  | none => s1

/-- A plan part goes out in PLAN frames of at most 448 octets; how the manual cuts a part over 460 octets is not stated (log 99). -/
def State.sendPlan (s : State) (dst g : Nat) (bytes : List Byte) : State :=
  let n := max 1 ((bytes.length + 447) / 448)
  (List.range n).foldl (fun s k => s.sendFlue dst (.plan g k (k + 1 == n) ((bytes.drop (448 * k)).take 448))) s

/-- Plan parts go to deputy and group heads (R539). -/
def State.distributePlan (s : State) : State :=
  s.flue.groups.foldl (fun s r =>
    if s.headed.contains r.addr then
      let bytes := fun (g : Nat) => (planPart s.plan g).flatMap (fun e => leBytes 8 e.1 ++ leBytes 4 e.2 ++ leBytes 4 0)
      let s1 := match s.flue.lsdb.find? (fun l => l.origin == r.deputy) with
        | some l => if r.deputy = 0 then s else s.sendPlan l.addr r.addr (bytes r.addr)
        | none => s
      r.members.toList.foldl (fun s m => if m.isGroup && m.state != 0 then s.sendPlan m.addr m.addr (bytes m.addr) else s) s1
    else s) s

/-- A plan or a part of one is held (R539, R560): source 219, parts, seats. -/
def State.takePlan (s : State) (g : Nat) (bs : List Byte) : State :=
  let s1 := (s.putBlock Key.planPlan bs).putN Key.planPartHeld g
  let s2 := s1.setFlue (fun u => { u with groups := u.groups.map (fun r => { r with part := planPart s1.plan r.addr }) })
  ((s2.raiseFlue 219).distributePlan).reseat

/-- SITE_PLAN_WRITE at the root head (R539). -/
def State.planWrite (s : State) (p : Path) (bs : List Byte) : State :=
  match s.checkWrite p Key.planPlan (.bytes bs) with
  | .error e => s.refuse p e
  | .ok _ => if planOk bs then (s.takePlan 0 bs).answer p .done else s.refuse p (.range Key.planPlan)

/-- SITE_PLAN_WRITE. -/
def execSitePlanWrite (p : Path) (data : List Byte) (s : State) : Host.Outcome State Fault Refusal :=
  .next (s.served (fun s => (s.touch p).planWrite p data))

/-- PLAN_RECEIVED (R539): the part is held once its last slice has come in order (log 99). -/
def execPlanReceived (m : FlueMsg) (part : PlanSlice) (bytes : List Byte) (s : State) : Host.Outcome State Fault Refusal :=
  let r := s.arrive m (.plan part.group part.number part.last bytes)
  .next (if r.1 then
      let had := match r.2.flue.planIn with
        | some (g, k, bs) => if g = part.group ∧ k = part.number then some bs else none
        | none => none
      match (if part.number = 0 then some [] else had) with
      | none => r.2.setFlue (fun u => { u with planIn := none })
      | some bs =>
        if part.last then (r.2.setFlue (fun u => { u with planIn := none })).takePlan part.group (bs ++ bytes)
        else r.2.setFlue (fun u => { u with planIn := some (part.group, part.number + 1, bs ++ bytes) })
    else r.2)

/-- SEAT_RECEIVED: the address is adopted, stored and acknowledged (R538); one that is invalid by R531 is refused, source 221 (R556; DEDUCED,
log 192). -/
def execSeatReceived (m : FlueMsg) (uid addr : Nat) (s : State) : Host.Outcome State Fault Refusal :=
  let r := s.arrive m (.seat uid addr false)
  .next (if r.1 && uid == r.2.uid then
      (if addrSeated addr then (r.2.adoptAddress addr).sendFlue m.src (.seat uid addr true) else r.2.raiseFlue 221)
    else r.2)

/-- SEAT_ACKNOWLEDGE_RECEIVED: the seat is taken (R538). -/
def execSeatAcknowledgeReceived (m : FlueMsg) (uid addr : Nat) (s : State) : Host.Outcome State Fault Refusal :=
  let r := s.arrive m (.seat uid addr true)
  let taken := r.2.setFlue (fun u => { u with acked := uid :: u.acked.filter (fun x => x != uid) })
  .next (match r.1, r.2.seatAt addr with
    | false, _ => r.2
    | true, some (g, i) => taken.updateMember g i (fun q => { q with addr := addr, uid := uid, state := 1, statusTick := some s.clock.tick })
    | true, none => if r.2.headed.any (fun g => addrUnder g addr) then taken else r.2)

/-! ### Election and take-over (R536, R537) -/

/-- A node can be reached as a candidate of group `g`: in the module's own group by its link state; in a group above it by the route to its
address (R536, R540). -/
def State.reaches (s : State) (g uid : Nat) : Bool :=
  if g = s.myGroup ∨ uid = s.uid then s.reachable uid else s.flue.lsdb.any (fun r => r.origin == uid && (s.routePort r.addr).isSome)

/-- Candidates of a group with their priorities: this node and the nodes that can be reached (R536). -/
def State.candidates (s : State) (g : Nat) : List (Nat × Nat) :=
  let me := if (s.groupOf g).isSome then [(s.uid, s.nat Key.flueHeadPriority)] else []
  let others := (s.flue.lsdb.filter (fun r => r.groups.contains g && r.origin != s.uid && s.reaches g r.origin)).map (fun r => (r.origin, r.priority))
  (me ++ others).filter (fun c => c.2 != 0)

/-- Highest priority, then lowest unique ID (R536, R557). -/
def bestCandidate (l : List (Nat × Nat)) : Nat :=
  (l.foldl (fun best c => match best with
    | none => some c
    | some b => if b.2 < c.2 || (b.2 == c.2 && decide (c.1 < b.1)) then some c else some b) (none : Option (Nat × Nat))).elim 0 (fun c => c.1)

/-- The address of seat `n` of group `g`. -/
def seatAddress (g n : Nat) : Nat := g + n * 16 ^ (7 - addrLevel g)

/-- The seats of a new head, from its plan part: the module the plan has at a seat, or a group where it has modules under that seat (R538). -/
def FlueGroup.seats (r : FlueGroup) (tick : Nat) : Vector FlueMember 15 := Vector.ofFn (fun (i : Fin 15) =>
  let a := seatAddress r.addr (i.val + 1)
  match r.part.find? (fun e => e.2 == a) with
  | some e => { FlueMember.empty with addr := a, uid := e.1, state := 1, statusTick := some tick }
  | none =>
    if r.part.any (fun e => addrUnder a e.2) then { FlueMember.empty with addr := a, isGroup := true, state := 1, statusTick := some tick }
    else FlueMember.empty)

/-- A head of a member group is a candidate in the group above it; one that is head no more is none in any group above (R26, R536). -/
def State.standAbove (s : State) (g : Nat) (head : Bool) : State :=
  let up := addrGroup g
  if head then
    (if g = 0 ∨ (s.groupOf up).isSome then s
     else (s.setFlue (fun u => { u with groups := u.groups ++ [{ newGroup up with part := planPart s.plan up }] })).floodLinkState)
  else s.setFlue (fun u => { u with
    groups := u.groups.filter (fun r => !(r.addr != g && addrUnder r.addr g)),
    instances := u.instances.filter (fun i => !addrUnder i.addr g) })

/-- Head and deputy of a group as a node of it now has them; source 210 when they change; a new head starts from its plan part and
announces itself (R536, R537). -/
def State.setHead (s : State) (g head deputy : Nat) : State :=
  match s.groupOf g with
  | none => s
  | some r =>
    if r.head = head ∧ r.deputy = deputy then s
    else
      let fresh := r.seats s.clock.tick
      let new := head == s.uid && r.head != s.uid
      let s1 := (s.setGroup g (fun r => { r with head := head, deputy := deputy, members := if new then fresh else r.members })).showGroup
      let s2 := if g = s.myGroup then s1.raiseFlue 210 else s1
      let s3 := if head = s.uid then s2.flood g none (.head ⟨g, head, deputy⟩) else s2
      let s4 := if new then s3.standAbove g true else if r.head = s.uid then s3.standAbove g false else s3
      s4.grandmasterCheck

/-- The election of a group: a head in office that can be reached stays (R536). -/
def State.elect (s : State) (g : Nat) : State :=
  match s.groupOf g with
  | none => s
  | some r =>
    let c := s.candidates g
    let head := if r.head != 0 && s.reaches g r.head && c.any (fun x => x.1 == r.head) then r.head else bestCandidate c
    s.setHead g head (bestCandidate (c.filter (fun x => x.1 != head)))

/-- ELECTION of a group (R536). -/
def execElection (g : Nat) (s : State) : Host.Outcome State Fault Refusal :=
  .next (s.served (fun s => s.elect g))

/-- The deputy that finds its head unreachable takes over; with both lost the election runs afresh (R537). -/
def State.deputyCheck (s : State) : State :=
  s.flue.groups.foldl (fun s r =>
    if r.head = 0 ∨ s.reaches r.addr r.head then s
    else if r.deputy = s.uid then
      let c := s.candidates r.addr
      (s.setHead r.addr s.uid (bestCandidate (c.filter (fun x => x.1 != s.uid)))).log 0x0902 noSource r.addr (s.uid % 2 ^ 32)
    else s) s

/-- HEAD_ANNOUNCE: every 1 s a head floods its announcement (R526). -/
def execHeadAnnounce (s : State) : Host.Outcome State Fault Refusal :=
  .next (s.served (fun s => s.flue.groups.foldl (fun s r => if r.head = s.uid ∧ r.head ≠ 0 then s.flood r.addr none (.head ⟨r.addr, r.head, r.deputy⟩) else s) s))

/-- HEAD_RECEIVED: head and deputy as announced, passed on in the group (R526). -/
def execHeadReceived (m : FlueMsg) (h : HeadInfo) (s : State) : Host.Outcome State Fault Refusal :=
  let r := s.arrive m (.head h)
  .next (if r.1 then (r.2.setHead h.group h.head h.deputy).passOn h.group m (.head h) else r.2)

/-! ### Adjacencies (R534, R535) -/

/-- HELLO_SEND: every enabled port with a link sends a HELLO; its link nonce is left open (log 1). -/
def execHelloSend (s : State) : Host.Outcome State Fault Refusal :=
  .next (s.served (fun s => (List.finRange 4).foldl (fun s (p : Fin 4) =>
    if s.portUp p then
      let n := s.freeNat
      let h : Hello := { uid := s.uid, addr := s.address, role := s.roleWord, group := s.myGroup, priority := s.nat Key.flueHeadPriority,
                         nonce := n.1, banking := s.power.banking, auth := s.flag (Key.portAuthentication p) }
      let f := n.2.makeFrame 0xFFFFFFFF (.hello h)
      (f.2.setPort p (fun u => { u with nonce := n.1 })).enqueueFrame p f.1
    else s) s))

/-- The adjacency of a port comes up (R534, R535); the frame counter of its direction starts from the link nonces (R554). -/
def State.adjacencyUp (s : State) (p : Fin 4) : State :=
  let s1 := s.setPort p (fun u => { u with
    counter := (Config.frameCounterStart u.nonce ((u.neighbour.map (fun h => h.nonce)).getD 0)).toNat })
  ((s1.putN (Key.portLinkState p) 3).raiseFlue (206 + p.val)).floodLinkState

/-- HELLOs of a port start afresh; frames in flight on a lost link are lost (R534, R540). -/
def State.linkLost (s : State) (p : Fin 4) (link : Nat) : State :=
  s.setPort p (fun u => { u with lastHello := none, runStart := none, queues := if link = 2 then u.queues else Vector.replicate 5 [] })

/-- The adjacency of a port goes down (R534, R535, R537): counted, logged unless the neighbour was banking, flooded. -/
def State.adjacencyDown (s : State) (p : Fin 4) (link : Nat) : State :=
  if s.nat (Key.portLinkState p) = 3 then
    let s1 := ((s.putN (Key.portLinkState p) link).bump 32 (Key.portAdjacencyLosses p)).raiseFlue (206 + p.val)
    let quiet := ((s.flue.ports[p]).neighbour.map (fun h => h.banking)).getD false
    let s2 := if quiet then s1 else s1.log 0x0901 noSource p.val (s.neighbourUid p % 2 ^ 32)
    ((s2.linkLost p link).floodLinkState).deputyCheck
  else (s.putN (Key.portLinkState p) link).linkLost p link

/-- HELLO_RECEIVED: the neighbour's data, the run of HELLOs; the adjacency comes up after 200 ms without a gap of 30 ms when both
ends agree on authentication (R534, R554). -/
def execHelloReceived (m : FlueMsg) (h : Hello) (s : State) : Host.Outcome State Fault Refusal :=
  let r := s.arrive m (.hello h)
  .next (if r.1 then
      let p := m.port
      let s0 := r.2
      let t := s.clock.tick
      let old := s0.flue.ports[p]
      let gap := !old.lastHello.any (fun l => decide (t < l + 480))
      let run := if gap then t else old.runStart.getD t
      let s1 := s0.setPort p (fun u => { u with lastHello := some t, runStart := some run, neighbour := some h })
      let s2 := ((s1.putN (Key.portNeighbourUniqueIDHigh p) (h.uid / 2 ^ 32)).putN (Key.portNeighbourUniqueIDLow p) (h.uid % 2 ^ 32)).putN
        (Key.portNeighbourAddress p) h.addr
      let s3 := if s2.nat (Key.portLinkState p) = 2 ∧ h.auth = s2.flag (Key.portAuthentication p) ∧ run + 3200 ≤ t then s2.adjacencyUp p else s2
      if s3.adjacent p then s3.headSees h.uid h.addr else s3
    else r.2)

/-- ADJACENCY_TIMEOUT: 30 ms without a HELLO (R534); one that came at that moment counts (R557). -/
def execAdjacencyTimeout (port : Fin 4) (s : State) : Host.Outcome State Fault Refusal :=
  .next (s.served (fun s =>
    if s.nat (Key.portLinkState port) = 3 ∧ (s.flue.ports[port]).lastHello ≠ some s.clock.tick then s.adjacencyDown port 2 else s))

/-- PHY_LINK_LOSS (R534). -/
def execPhyLinkLoss (port : Fin 4) (s : State) : Host.Outcome State Fault Refusal :=
  .next (s.served (fun s => s.adjacencyDown port 0))

/-- PHY_LINK_UP: an enabled port is TRAINING once auto-negotiation is done, and UP after training (R521, R534, R561). -/
def execPhyLinkUp (i : PhyStep) (s : State) : Host.Outcome State Fault Refusal :=
  .next (s.served (fun s => let link := if i.trained then 2 else 1
    if s.flag Key.flueEnable && s.flag (Key.portEnable i.port) && decide (s.nat (Key.portLinkState i.port) < link) then
      s.putN (Key.portLinkState i.port) link
    else s))

/-- LINK_STATE_RECEIVED: a copy seen before is discarded; a new one is kept, passed on, and what follows from it is done (R535,
R537, R538). -/
def execLinkStateReceived (m : FlueMsg) (l : LinkState) (s : State) : Host.Outcome State Fault Refusal :=
  let r := s.arrive m (.linkState l)
  .next (if r.1 && l.origin != s.uid && !(r.2.flue.lsdb.any (fun q => q.origin == l.origin && decide (l.seq ≤ q.seq))) then
      let s1 := r.2.setFlue (fun u => { u with lsdb := u.lsdb.filter (fun q => q.origin != l.origin) ++ [l] })
      let s2 := l.groups.foldl (fun s g => s.passOn g m (.linkState l)) s1
      (s2.deputyCheck).headSees l.origin l.addr
    else r.2)

/-- LINK_STATE_REFRESH: every 10 s (R535). -/
def execLinkStateRefresh (s : State) : Host.Outcome State Fault Refusal :=
  .next (s.served (fun s => s.floodLinkState))

/-! ### Status of members (R543, R546) -/

/-- The channel reports a head wants: value, state, age in ms (R546). -/
def State.channelReports (s : State) : List (Nat × Word × Nat × Nat) :=
  (s.flue.wanted.filter (fun c => c < 64)).map (fun c =>
    (c, s.word (Key.chanValue c), s.nat (Key.chanState c), s.channelAge ⟨c % 64, by omega⟩ / 16))

/-- The module's own STATUS (R543). -/
def State.ownStatus (s : State) : StatusInfo :=
  let v := s.severeRecords
  { status := s.flueStatus, alarm := s.alarmWord, severe := v.1, lastSevere := v.2, channels := s.channelReports }

/-- The member table in force: of the lowest group it heads, or the one addressed (R563, R564). -/
def State.shownMember (s : State) (seat : Nat) : FlueMember :=
  ((s.lowestGroup.map (fun g => g.members.toList.getD (seat - 1) .empty))).getD .empty

/-- The channel report behind group channel `c` (R546): value, state, and age in ms; none for NO_DATA. -/
def State.groupChannel (s : State) (c : Nat) : Option (Word × Nat × Nat) :=
  let w := s.nat (Key.gmap0MapEntry c)
  let seat := field w 31 28
  if seat = 0 then none
  else
    let m := s.shownMember seat
    if m.state = 0 ∨ m.state = 3 then none
    else match m.channels.find? (fun r => r.1 == w % 256) with
      | none => none
      | some r => some (r.2.1, r.2.2.1, min 65535 (r.2.2.2 + (m.statusTick.map s.msSince).getD 0))

/-- The reports of a headed group's channels that the group above wants, as its map has them (R546). -/
def State.groupReports (s : State) (g : FlueGroup) : List (Nat × Word × Nat × Nat) :=
  let t := (s.turnTo g.addr).setFlue (fun u => { u with shown := some g.addr })
  (g.wanted.filter (fun c => c < 128)).map (fun c => (c, (t.groupChannel c).getD (0, 4, 65535)))

/-- The aggregate of a group (R543). -/
def State.groupStatus (s : State) (g : FlueGroup) : StatusInfo :=
  { status := groupWorst g, alarm := groupAlarm g, severe := groupSevere g,
    lastSevere := (g.members.toList.foldl (fun c m => if m.lastSevere != 0 then m.lastSevere else c) 0), channels := s.groupReports g }

/-- A STATUS taken by the head of its sender's group (R543, R546). -/
def State.takeStatus (s : State) (src : Nat) (st : StatusInfo) : State :=
  match s.seatAt src with
  | none => s
  | some (g, i) =>
    let node := s.flue.lsdb.find? (fun r => r.addr == src || r.heads.contains src)
    let isGroup := s.flue.lsdb.any (fun r => r.heads.contains src)
    s.updateMember g i (fun q => { q with addr := src, isGroup := isGroup, uid := (node.map (fun r => r.origin)).getD (if src = s.address then s.uid else q.uid),
                                          state := 1, status := st.status, alarm := st.alarm, severe := st.severe, lastSevere := st.lastSevere,
                                          channels := st.channels, statusTick := some s.clock.tick })

/-- STATUS_SEND: the module's STATUS to its group's head, and the aggregates of the groups it heads to theirs (R543). -/
def execStatusSend (s : State) : Host.Outcome State Fault Refusal :=
  .next (s.served (fun s => if s.seated = false then s
    else
      let s1 := if s.headed.contains s.myGroup then s.takeStatus s.address s.ownStatus else s.sendFlue s.myGroup (.status s.ownStatus)
      s1.flue.groups.foldl (fun s r =>
        if r.head = s.uid ∧ r.addr ≠ 0 then
          let up := addrGroup r.addr
          if s.headed.contains up then s.takeStatus r.addr (s.groupStatus r)
          else s.sendFrom r.addr up (.status (s.groupStatus r))
        else s) s1))

/-- STATUS_RECEIVED (R543). -/
def execStatusReceived (m : FlueMsg) (st : StatusInfo) (s : State) : Host.Outcome State Fault Refusal :=
  let r := s.arrive m (.status st)
  .next (if r.1 then r.2.takeStatus m.src st else r.2)

/-- A member becomes ABSENT: 0x0904 with its address (R543, R549). -/
def State.memberAbsent (s : State) (g : Nat) (i : Fin 15) (from_ : Nat) : State :=
  match s.groupOf g with
  | none => s
  | some r =>
    if (r.members[i]).state = from_ ∧ s.headed.contains g then
      (s.updateMember g i (fun q => { q with state := 3, mailbox := [], fullLogged := false })).log 0x0904 noSource (r.members[i]).addr
    else s

/-- MEMBER_ABSENT: three periods without STATUS from a member that is not SLEEPING (R543). -/
def execMemberAbsent (g : Nat) (seat : Fin 15) (s : State) : Host.Outcome State Fault Refusal :=
  .next (s.served (fun s => s.memberAbsent g seat 1))

/-- WAKE_TIME_OVERDUE: no AWAKE by the wake time plus 10 s (R549). -/
def execWakeTimeOverdue (g : Nat) (seat : Fin 15) (s : State) : Host.Outcome State Fault Refusal :=
  .next (s.served (fun s => s.memberAbsent g seat 2))

/-- The channels a map asks of a seat (R546). -/
def State.mapOf (s : State) (seat : Nat) : List Nat :=
  ((List.range 128).filter (fun c => field (s.nat (Key.gmap0MapEntry c)) 31 28 == seat && seat != 0)).map
    (fun c => s.nat (Key.gmap0MapEntry c) % 256)

/-- The channels that a map asks of an address of this module: of the module, or of a group it heads (R546). -/
def State.wantOf (s : State) (a : Nat) (l : List Nat) : State :=
  if a = s.address then s.setFlue (fun u => { u with wanted := l }) else s.setGroup a (fun r => { r with wanted := l })

/-- A committed change of the map: each member learns the channels wanted from it (R546). -/
def State.mapConfigured (s : State) : State :=
  match s.lowestGroup with
  | none => s
  | some g =>
    (List.finRange 15).foldl (fun s (i : Fin 15) =>
      let m := g.members[i]
      if m.state = 0 then s
      else if s.answers m.addr then s.wantOf m.addr (s.mapOf (i.val + 1))
      else s.sendFlue m.addr (.map (s.mapOf (i.val + 1)))) s

/-- MAP_RECEIVED (R546). -/
def execMapReceived (m : FlueMsg) (channels : List Nat) (s : State) : Host.Outcome State Fault Refusal :=
  let r := s.arrive m (.map channels)
  .next (if r.1 && r.2.answers m.dst then r.2.wantOf m.dst channels else r.2)

/-! ### Sleeping members (R548-R550) -/

/-- Nodes reached from this one without passing `u`. -/
def State.reachableWithout (s : State) (u t : Nat) : Bool :=
  (List.finRange 4).any (fun (p : Fin 4) => s.adjacent p && s.neighbourUid p != u
    && (hopsTo s.flue.lsdb t 33 [s.neighbourUid p] [s.uid, u]).isSome)

/-- The absence of node `u` would cut another present member of the group off (R548). -/
def State.wouldCut (s : State) (g : FlueGroup) (u : Nat) : Bool :=
  g.members.toList.any (fun m => m.state == 1 && m.uid != u && m.uid != s.uid && s.reachable m.uid && !s.reachableWithout u m.uid)

/-- BANKING_RECEIVED: the head accepts a member's banking notice with its wake time, or refuses it (R548, R549, R557). -/
def execBankingReceived (m : FlueMsg) (wake : Nat) (s : State) : Host.Outcome State Fault Refusal :=
  let r := s.arrive m (.banking wake)
  .next (match r.1, r.2.seatAt m.src with
    | true, some (g, i) =>
      (match r.2.groupOf g with
       | none => r.2
       | some q =>
         let accept := !r.2.wouldCut q (q.members[i]).uid
         let s1 := r.2.sendFlue m.src (.bankingAnswer accept (r.2.nat Key.flueMaximumBankingTime))
         if accept then s1.updateMember g i (fun q => { q with state := 2, wake := wake, fullLogged := false }) else s1)
    | _, _ => r.2)

/-- BANKING_ANSWER_RECEIVED: ACCEPT sets the beacon duty (R549); REFUSE abandons the entry and holds BANKED and EMBER back for 60 s
(R548). -/
def execBankingAnswerReceived (m : FlueMsg) (accept : Bool) (maximum : Nat) (s : State) : Host.Outcome State Fault Refusal :=
  let r := s.arrive m (.bankingAnswer accept maximum)
  .next (if r.1 && r.2.power.noticeOut then
      let s1 := ({ r.2 with power := { r.2.power with noticeOut := false } }).raiseFlue 215
      if accept then s1.setFlue (fun u => { u with beacon := some (s.moduleNs / 1000000000 + maximum) })
      else ({ s1 with power := { s1.power with refusalHold := true } }).abandonEntry 0
    else r.2)

/-- BANKING_ANSWER_TIMEOUT: no answer within 20 ms, the member proceeds without an accepted notice (R548). -/
def execBankingAnswerTimeout (s : State) : Host.Outcome State Fault Refusal :=
  .next (s.served (fun s => { s with power := { s.power with noticeOut := false } }))

/-- AWAKE_RECEIVED: the member is PRESENT again, its mailbox is delivered in order of arrival, then source 216 (R550). -/
def execAwakeReceived (m : FlueMsg) (s : State) : Host.Outcome State Fault Refusal :=
  let r := s.arrive m .awake
  .next (match r.1, r.2.seatAt m.src with
    | true, some (g, i) =>
      (match r.2.groupOf g with
       | none => r.2
       | some q =>
         if (q.members[i]).state = 2 then
           let s1 := r.2.updateMember g i (fun q => { q with state := 1, mailbox := [], fullLogged := false, statusTick := some s.clock.tick })
           ((q.members[i]).mailbox.foldl (fun s f => s.deliverMail f) s1).raiseFlue 216
         else r.2)
    | _, _ => r.2)

/-! ### Transit (R528, R529, R540) -/

/-- FRAME_FORWARD: a frame for another node is routed with one hop less, but not in Kindling mode (R106); without a hop left or a
route it is discarded and counted; a sleeping member's goes to its mailbox, which answers a DICT_REQ (R550). A SYNC frame is cut
through before its FCS has arrived: with a bad one it is counted and goes on with an invalid FCS (R523). -/
def execFrameForward (m : FlueMsg) (body : FlueBody) (s : State) : Host.Outcome State Fault Refusal :=
  .next (s.served (fun s => if s.portUp m.port = false ∨ s.answers m.dst then s
    else if frameSound m body = false ∨ (m.fcs = false ∧ queueOf body ≠ 0) then s.bump 32 (Key.portCheckErrors m.port)
    else if s.flag (Key.portAuthentication m.port) && !m.tagOk then s.authFailed m.port
    else if addressesOk m body = false then s
    else
      let s1 := s.bump 32 (if m.fcs then Key.portFramesReceived m.port else Key.portCheckErrors m.port)
      if s.process = psKindling then s1
      else if m.hop ≤ 1 then
        let s2 := s1.bump 32 Key.flueHopLimitDiscards
        if queueOf body = 0 then s2.raiseFlue 218 else s2
      else
        let r := s1.mailOrRoute { hop := m.hop - 1, dst := m.dst, src := m.src, seq := m.seq, alive := m.alive, body := body, spoiled := !m.fcs }
        match r.2, body with
        | some (st, wake), .dictReq q => r.1.sendFlue m.src (.dictRsp ⟨q.tid, q.op + 0x80, st, 0, wake, []⟩)
        | _, _ => r.1))

/-- LOG_FRAME_RECEIVED: a forwarded media-failure record, with the sender's address in word 4 (R551). -/
def execLogFrameReceived (m : FlueMsg) (r : LogInfo) (s : State) : Host.Outcome State Fault Refusal :=
  let a := s.arrive m (.log r)
  .next (if a.1 then
      let e := a.2.ashEvent r.code r.source m.src r.w5 r.w6
      a.2.queueAsh { e with severity := r.severity, forwarded := true }
    else a.2)

/-! ### Flue time -/

/-- Queue a gPTP message on a port. -/
def State.sendGptp (s : State) (p : Fin 4) (kind : Fin 4) : State :=
  s.enqueueFrame p { hop := 1, dst := 0, src := s.address, seq := 0, alive := 0, body := .gptp kind s.moduleNs, spoiled := false }

/-- A two-step Sync with its Follow_Up on every port but the one it came by, as the time-aware relay does (R552). -/
def State.syncOut (s : State) (except_ : Option (Fin 4)) : State :=
  (List.finRange 4).foldl (fun s (p : Fin 4) => if except_ = some p then s else (s.sendGptp p 0).sendGptp p 1) s

/-- GPTP_SYNC_RECEIVED with the offset measured from the grandmaster, in ns (R552, R553): time is followed, 8 consecutive syncs make the module
SYNCED, and the sync is relayed, by a leaf in Kindling mode not (R106). -/
def execGptpSyncReceived (port : Fin 4) (offset : Int) (gm : Nat) (s : State) : Host.Outcome State Fault Refusal :=
  .next (s.served (fun s => if s.portUp port = false ∨ s.isGrandmaster then s
    else
      let n := s.flue.syncs + 1
      let s1 := if s.timeSynced || decide (1 < n) then s else s.setFlueTime s.moduleNs
      let s2 : State := { s1 with clock := { s1.clock with flueOffset := s1.clock.flueOffset - offset }, flue := { s1.flue with syncs := n } }
      let s3 := ((s2.put Key.ftimeOffset (clampInt (-2147483648) 2147483647 offset)).putN Key.ftimeGrandmasterHigh (gm / 2 ^ 32)).putN
        Key.ftimeGrandmasterLow (gm % 2 ^ 32)
      let s4 := if 8 ≤ n then s3.setSync 1 else s3
      if s4.process = psKindling then s4 else s4.syncOut (some port)))

/-- SYNC_MISSED: three missed sync intervals, HOLDOVER (R553). -/
def execSyncMissed (s : State) : Host.Outcome State Fault Refusal :=
  .next (s.served (fun s =>
    let s1 := s.setFlue (fun u => { u with syncs := 0 })
    if s.nat Key.ftimeSyncState = 1 then s1.setSync 2 else s1))

/-- HOLDOVER_TIMEOUT: 10 s of HOLDOVER, UNSYNCED; 0x0906, source 214 (R553). -/
def execHoldoverTimeout (s : State) : Host.Outcome State Fault Refusal :=
  .next (s.served (fun s => if s.nat Key.ftimeSyncState = 2 then ((s.setSync 0).bump 32 Key.ftimeSyncLosses).log 0x0906 noSource else s))

/-- GPTP_SYNC_SEND: the grandmaster's two-step Sync with Follow_Up on its ports (R552). -/
def execGptpSyncSend (s : State) : Host.Outcome State Fault Refusal :=
  .next (s.served (fun s => if s.nat Key.ftimeSyncState = 3 then s.syncOut none else s))

/-- PEER_DELAY_MEASURE: a peer-delay request on a port (R552). -/
def execPeerDelayMeasure (port : Fin 4) (s : State) : Host.Outcome State Fault Refusal :=
  .next (s.served (fun s => s.sendGptp port 2))

/-- PEER_DELAY_FRAME_RECEIVED: a request (no delay) is answered, a response completes the measurement (R552). -/
def execPeerDelayFrameReceived (port : Fin 4) (delay : Option Nat) (s : State) : Host.Outcome State Fault Refusal :=
  .next (s.served (fun s => if s.portUp port = false then s
    else match delay with
      | none => s.sendGptp port 3
      | some ns => s.putN (Key.portPeerDelay port) (ns % 2 ^ 32)))

/-- Reading 0x3730:08 gives the seconds of Flue time and latches the nanoseconds (R562). -/
def State.readFlueTime (s : State) : Nat × State :=
  let t := if s.timeSynced then s.moduleNs else 0
  (t / 1000000000 % 2 ^ 32, s.setFlue (fun u => { u with nsLatch := t % 1000000000 }))

/-- FLUE_TIME_READ. -/
def execFlueTimeRead (p : Path) (s : State) : Host.Outcome State Fault Refusal :=
  .next (s.served (fun s => match (s.touch p).checkRead Key.ftimeFlueTimeSeconds with
    | .error e => (s.touch p).refuse p e
    | .ok _ =>
      let r := (s.touch p).readFlueTime
      r.2.answer p (.value (Int.ofNat r.1))))

/-! ### Site key, statistics, start -/

/-- The site key takes a value; its check value is the first 4 bytes of the CMAC of 16 zero bytes (R555). -/
def State.takeSiteKey (s : State) (bs : List Byte) : State :=
  let c := if bs.isEmpty then 0 else leNat ((cmacOfZeros (bs.map (fun b => b.toNat))).take 4 |>.map (fun n => BitVec.ofNat 8 n))
  (s.setFlue (fun u => { u with siteKey := bs })).putN Key.flueKeyCheckValue c

/-- SITE_KEY_WRITE over the service port only: 0 or 16 bytes (R555). -/
def State.siteKeyWrite (s : State) (p : Path) (bs : List Byte) : State :=
  match s.checkWrite p Key.flueSiteKey (.bytes bs) with
  | .error e => s.refuse p e
  | .ok _ => if bs.length = 0 ∨ bs.length = 16 then (s.takeSiteKey bs).answer p .done else s.refuse p (.length Key.flueSiteKey)

/-- SITE_KEY_WRITE. -/
def execSiteKeyWrite (p : Path) (data : List Byte) (s : State) : Host.Outcome State Fault Refusal :=
  .next (s.served (fun s => (s.touch p).siteKeyWrite p data))

/-- Clear 12 and 13 (R559); +8 to +D (R561); 0A (R562). -/
def State.flueStatsClear (s : State) : State := s.zero [Key.flueUnreachableFrames, Key.flueHopLimitDiscards]
def State.portStatsClear (s : State) (p : Fin 4) : State :=
  s.zero [Key.portFramesSent p, Key.portFramesReceived p, Key.portCheckErrors p, Key.portQueueDiscards p, Key.portAuthenticationFailures p,
    Key.portAdjacencyLosses p]
def State.timeStatsClear (s : State) : State := s.zero [Key.ftimeSyncLosses]

/-- FLUE_NODE_STATISTICS_CLEAR. -/
def execFlueNodeStatisticsClear (p : Path) (s : State) : Host.Outcome State Fault Refusal :=
  .next (s.commanded p Key.flueClearStatistics 1 (fun s => s.flueStatsClear))
/-- PORT_STATISTICS_CLEAR. -/
def execPortStatisticsClear (p : Path) (port : Fin 4) (s : State) : Host.Outcome State Fault Refusal :=
  .next (s.commanded p (Key.portClearStatistics port) 1 (fun s => s.portStatsClear port))
/-- TIME_STATISTICS_CLEAR. -/
def execTimeStatisticsClear (p : Path) (s : State) : Host.Outcome State Fault Refusal :=
  .next (s.commanded p Key.ftimeClearStatistics 1 (fun s => s.timeStatsClear))

/-- What Flue starts from on its present configuration: the stored address, or the unseated one (R533, R538); all links down. -/
def State.flueFresh (s : State) : State :=
  let key := s.flue.siteKey
  let s1 := { s with flue := { Flue.reset with siteKey := key } }
  let s2 := (List.range 4).foldl (fun s p => s.zero [Key.portLinkState p, Key.portNeighbourUniqueIDHigh p, Key.portNeighbourUniqueIDLow p,
    Key.portNeighbourAddress p]) (s1.setSync 0)
  if s2.flag Key.flueEnable then
    let a := s2.nat Key.flueStoredAddress
    if a = 0 then
      -- an unseated node stands for the root group, so that a first plan can be written (log 48)
      ((((s2.putN Key.flueAddressInForce (unseatedAddr s.uid)).putN Key.flueSeatState (if s.process = psKindling then 3 else 1)).zero
        [Key.flueGroupAddress, Key.flueLevel]).setFlue (fun u => { u with groups := [newGroup 0] })).grandmasterCheck
    else
      let s3 := s2.adoptAddress a
      -- the part of the plan held before the start is held still
      (s3.setFlue (fun u => { u with groups := u.groups.map (fun r => { r with part := planPart s3.plan r.addr }) })).grandmasterCheck
  else s2.zero [Key.flueAddressInForce, Key.flueSeatState, Key.flueGroupAddress, Key.flueLevel]

/-- Flue starts; source 211 when the address in force is another (R556). -/
def State.flueStart (s : State) : State :=
  let t := s.flueFresh
  if t.address = s.address ∨ (t.flag Key.flueEnable && t.nat Key.flueStoredAddress != 0) then t else t.raiseFlue 211

/-- A port disabled by a commit goes down; enabled, it waits for its PHY (R561). -/
def State.portConfigured (s : State) (p : Fin 4) : State :=
  if s.flag (Key.portEnable p) then s else s.adjacencyDown p 0

end Sys2Proof.Machine
end

