-- ==== Sys2Proof/Machine/Ash.lean ====
section
/-! DEFINITION. The Ash log (R580-R600): records and their words, writing, merging, overflow, a full log, failed memory, start,
reading and clearing. Raising an event is in Ops. -/

namespace Sys2Proof.Machine

open Sys2Proof

/-- Change the log. -/
def State.setAsh (s : State) (f : Ash → Ash) : State := { s with ash := f s.ash }

/-! ### Records (R582, R583) -/

/-- The check settings of Ash records and of configuration records and images (R568). -/
def ashCrc : CrcParams := { width := 16, poly := 0x1021, init := 0xFFFF, refin := false, refout := false, xorOut := 0 }
def configCrc : CrcParams :=
  { width := 32, poly := 0x04C11DB7, init := 0xFFFFFFFF, refin := true, refout := true, xorOut := 0xFFFFFFFF }

/-- The flags of R583. -/
def AshRecord.flags (r : AshRecord) : Nat :=
  b2n r.cycleSat + 2 * b2n (decide (65535 ≤ r.repeats)) + 4 * b2n (decide (4194303 < r.offset / 1000)) + 8 * b2n r.event.forwarded

/-- The eight words of a record (R582). -/
def AshRecord.words (r : AshRecord) : List Word :=
  let w0 := r.event.code * 65536 + r.event.source % 256 * 256 + r.event.severity * 16 + r.flags
  let w1 := min 65535 r.event.cycle * 65536 + min 65535 r.repeats
  let w3 := min 4194303 (r.offset / 1000) * 1024 + r.offset % 1000
  let l := [w0, w1, r.first % 2 ^ 32, w3, r.event.w4, r.event.w5, r.event.w6]
  let crc := crcOf ashCrc (l.flatMap (leBytes 4))
  (l ++ [crc * 65536 + 0x5AA5]).map (BitVec.ofNat 32)

/-- The record of an event whose first and last occurrence are stamped in ms. -/
def recordOf (e : AshEvent) (first last repeats : Nat) : AshRecord :=
  { event := e, cycleSat := decide (65535 ≤ e.cycle), repeats := min 65535 repeats, first := first / 1000, offset := last - first / 1000 * 1000 }

/-- The last occurrence of a record, in ms. -/
def AshRecord.last (r : AshRecord) : Nat := r.first * 1000 + r.offset

/-- Slots of the log; the last is LOG_FULL's (R580). -/
abbrev ashSlots : Nat := 16320

/-- `n` bytes from a memory, as a word. -/
def wordFrom (f : Nat → Byte) (a n : Nat) : Word := BitVec.ofNat 32 (leNat ((List.range n).map (fun i => f (a + i))))

/-- FRAM address of slot `i` (R28, R580). -/
def slotAddress (i : Nat) : Nat := 0x60000800 + 32 * i

/-- The words that stand in slot `i`, which record `r` was written to: what the hearth core's own stores have put there since counts
(R28, R439). -/
def State.slotWords (s : State) (i : Nat) (r : AshRecord) : List Word :=
  let own := r.words.flatMap (fun w => leBytes 4 w.toNat)
  (List.range 8).map (fun w => wordFrom (fun a => (lookupKey s.fram a).getD (own.getD (a - slotAddress i) 0)) (slotAddress i + 4 * w) 4)

/-- The module has written `n` bytes of FRAM at `a`: nothing that stood there remains. -/
def State.framWrote (s : State) (a n : Nat) : State :=
  { s with fram := s.fram.filter (fun e => decide (e.1 < a) || decide (a + n ≤ e.1)) }

/-- The log's header is written (R581). -/
def State.writeHeader (s : State) (f : Ash → Ash) : State := (s.setAsh f).framWrote 0x60000000 2048

/-- The newest record is written again (R589, R591). -/
def State.rewriteNewest (s : State) (f : AshRecord → AshRecord) : State :=
  (s.setAsh (fun a => match a.slots with
    | r :: rs => { a with slots := f r :: rs }
    | [] => a)).framWrote (slotAddress (s.ash.slots.length - 1)) 32

/-! ### Writing (R584, R589-R592) -/

/-- A new record in the next slot: source 230, EMCY (R598, R512). -/
def State.newRecord (s : State) (r : AshRecord) : State :=
  (((s.framWrote (slotAddress s.ash.slots.length) 32).setAsh (fun a => { a with slots := r :: a.slots })).raiseSource 230).emcyRecord r

/-- Events that are not recorded are counted in LOG_FULL and in the lost count (R591). -/
def State.countFull (s : State) (n stamp : Nat) : State :=
  let s1 := match s.ash.slots with
    | r :: _ => if r.event.code = 0x0C02 then
        s.rewriteNewest (fun r => { r with repeats := satAdd 16 r.repeats n, offset := stamp - r.first * 1000 })
      else s
    | [] => s
  s1.putN Key.ashLostEvents (satAdd 32 (s1.nat Key.ashLostEvents) n)

/-- LOG_FULL takes the last slot: recording stops, source 232 (R591). -/
def State.writeFull (s : State) (stamp : Nat) : State :=
  let e := s.ashEvent 0x0C02 noSource 0 0 0
  ((s.newRecord (recordOf e stamp stamp 0)).putB Key.ashFull true).raiseSource 232

/-- The newest record takes an event as a repeat (R589). -/
def State.merges (s : State) (q : AshQueued) : Bool :=
  match s.ash.slots with
  | r :: _ =>
    let w := s.nat Key.ashMergeWindow
    q.event.same r.event && r.event.code != 0x0C02 && (w == 0 || decide (q.first ≤ r.last + 1000 * w))
  | [] => false

/-- One event reaches the memory: merged, recorded, or the log is full (R589, R591). -/
def State.recordEvent (s : State) (q : AshQueued) : State :=
  if s.flag Key.ashFull then s.countFull (1 + q.tally) q.last
  else if s.merges q then
    s.rewriteNewest (fun r => { r with repeats := satAdd 16 r.repeats (1 + q.tally), offset := q.last - r.first * 1000 })
  else if s.ash.slots.length + 1 < ashSlots then s.newRecord (recordOf q.event q.first q.last q.tally)
  else (s.writeFull q.first).countFull (1 + q.tally) q.last

/-- The queue has emptied after losses: LOG_OVERFLOW with the episode's losses, the lost count copied to the header; not written when
only LOG_FULL's slot is free, which LOG_FULL then takes (R590, R591). -/
def State.closeEpisode (s : State) : State :=
  if s.ash.queue.isEmpty ∧ s.ash.episode ≠ 0 then
    let n := s.ash.episode
    let s1 := s.setAsh (fun a => { a with episode := 0 })
    if s.flag Key.ashFull then s1
    else if s1.ash.slots.length + 1 < ashSlots then
      let e := s1.ashEvent 0x0C01 noSource (n % 2 ^ 32) 0 0
      let s2 := s1.recordEvent ⟨e, s.stampMs, s.stampMs, 0⟩
      s2.writeHeader (fun a => { a with headerLost := s2.nat Key.ashLostEvents })
    else s1.writeFull s.stampMs
  else s

/-- The FRAM address of the next slot. -/
def State.nextSlotAddress (s : State) : Nat := slotAddress s.ash.slots.length

/-- The reserve area, in bank A, is programmed or erased: the flash controller's flag (R30, R94). -/
def State.bankWritten (s : State) : State := if s.nat Key.startBankStarted = 1 then { s with power := { s.power with bankModified := true } } else s

/-- LOG_MEDIA_FAIL goes to the reserve area, 8 records at most (R593). -/
def State.reserveRecord (s : State) (e : AshEvent) : State :=
  if s.ash.reserve.length < 8 then
    let r := recordOf e s.stampMs s.stampMs 0
    let s1 := (s.bankWritten.setAsh (fun a => { a with reserve := a.reserve ++ [r] })).emcyRecord r
    s1.putN Key.ashMediaStatus (s1.nat Key.ashMediaStatus / 16 * 16 + s1.ash.reserve.length)
  else s.putBit Key.ashMediaStatus 9 true

/-- The log memory has failed, for reason 1 verify failure, 2 no response, 3 header unreadable (R592): events still queued are
counted as lost (log 49). -/
def State.mediaFail (s : State) (why addr : Nat) : State :=
  let lost := s.ash.queue.foldl (fun n q => n + 1 + q.tally) 0
  let s1 := s.setAsh (fun a => { a with failed := true, queue := [], episode := 0, clearing := none })
  let s2 := ((s1.putBit Key.ashMediaStatus 8 true).raiseSource 233).putN Key.ashLostEvents (satAdd 32 (s1.nat Key.ashLostEvents) lost)
  let e := s2.ashEvent 0x0C03 noSource 0 why addr
  let s3 := s2.reserveRecord e
  if s3.seated then s3.sendFlue s3.myGroup (.log ⟨0x0C03, noSource, e.severity, 0, why, addr⟩) else s3

/-- ASH_RECORD_WRITE: the queue's head is written and read back: 0 sound, 1 differs, 2 no response (R584, R590, R592). Nothing is
written while a clear runs (R596) or the memory has failed. -/
def execAshRecordWrite (result : Fin 3) (s : State) : Host.Outcome State Fault Refusal :=
  .next (if s.ash.failed || s.ash.clearing.isSome || !s.logRuns then s
    else match s.ash.queue with
      | [] => s.closeEpisode
      | q :: qs =>
        if result = 0 then ((s.setAsh (fun a => { a with queue := qs })).recordEvent q).closeEpisode
        else s.mediaFail result.val s.nextSlotAddress)

/-- An event is written at once, ahead of the queue, while the memory takes records (R66). -/
def State.recordNow (s : State) (e : AshEvent) : State :=
  if s.ash.failed || s.ash.clearing.isSome then s.queueAsh e else s.recordEvent ⟨e, s.stampMs, s.stampMs, 0⟩

/-- Up to `n` queued events are written at once (R66, before a reset). -/
def State.flushAsh : Nat → State → State
  | 0, s => s
  | n + 1, s =>
    if s.ash.failed || s.ash.clearing.isSome then s
    else match s.ash.queue with
      | [] => s
      | q :: qs => State.flushAsh n ((s.setAsh (fun a => { a with queue := qs })).recordEvent q)

/-! ### Start (R594) -/

/-- Slot `i` is written as its MARKER reads, what the hearth core's stores have put there included (R582, R594). -/
def State.slotUsed (s : State) (i : Nat) : Bool :=
  let own : Byte := if i < s.ash.slots.length then 0xA5 else 0
  (lookupKey s.fram (slotAddress i + 28)).getD own != 0 || (lookupKey s.fram (slotAddress i + 29)).getD own != 0

/-- The record that eight words spell (R582, R583). -/
def AshRecord.ofWords (l : List Word) : AshRecord :=
  let w := fun i => (l.getD i 0).toNat
  { event := { code := field (w 0) 31 16, source := field (w 0) 15 8, severity := field (w 0) 7 4, w4 := w 4, w5 := w 5, w6 := w 6,
               cycle := field (w 1) 31 16, forwarded := (w 0).testBit 3 },
    cycleSat := (w 0).testBit 0, repeats := field (w 1) 15 0, first := w 2, offset := field (w 3) 31 10 * 1000 + field (w 3) 9 0 }

/-- The words that stores have left in an empty slot. -/
def State.storedWords (s : State) (i : Nat) : List Word :=
  (List.range 8).map (fun w => wordFrom (fun a => (lookupKey s.fram a).getD (Config.memoryByte () a)) (slotAddress i + 4 * w) 4)

/-- The written slots up to the first empty one: slots that the hearth core's stores have marked join them (R594). -/
def State.slotsOn (s : State) : Nat → List AshRecord → List AshRecord
  | 0, l => l
  | n + 1, l => if s.slotUsed l.length then s.slotsOn n (AshRecord.ofWords (s.storedWords l.length) :: l) else l

/-- The records that a start finds, newest first: the search ends at the first empty slot, which a store may have made (R594). -/
def State.slotsFound (s : State) : List AshRecord :=
  let l := s.ash.slots
  match (s.fram.map (fun e => (e.1 - 0x60000800) / 32)).filter (fun i => decide (i < l.length) && !s.slotUsed i) with
  | [] => s.slotsOn (min s.fram.length (ashSlots - l.length)) l
  | i :: is => l.drop (l.length - is.foldl min i)

/-- The log at a start: queue empty, cursors 0, the header as found (0 valid, 1 invalid, 2 unreadable); the hearth core's own stores
into it make it invalid. -/
def State.ashStart (s : State) (header : Fin 3) : State :=
  let s1 := (s.setAsh (fun a => { a with slots := s.slotsFound, queue := [], episode := 0, failed := false, clearing := none,
                                         cursors := Vector.replicate 8 0, latched := Vector.replicate 8 [],
                                         advanced := Vector.replicate 8 0 })).zero [Key.ashQueueHighWater]
  let s2 := (s1.putBit Key.ashMediaStatus 8 false).putB Key.ashFull ((s1.ash.slots.head?.map (fun r => r.event.code)) == some 0x0C02)
  let s3 := s2.putN Key.ashLostEvents s2.ash.headerLost
  if header = 2 then s3.mediaFail 3 0x60000000
  else if header = 1 ∨ s.fram.any (fun e => decide (e.1 < 0x60000012)) then
    ((s3.writeHeader (fun a => { a with clears := 0, clearTime := 0, headerLost := 0 })).zero [Key.ashLostEvents]).log 0x0C05 noSource
      s3.ash.slots.length
  else s3

/-! ### Reading (R595) -/

/-- Number of records a path reads: slots, or reserve records while the memory has failed. -/
def State.ashCount (s : State) : Nat := if s.ash.failed then s.ash.reserve.length else s.ash.slots.length

/-- The record at a cursor. -/
def State.ashAt (s : State) (c : Nat) : Option AshRecord :=
  if s.ash.failed then s.ash.reserve[c]?
  else if c < s.ash.slots.length then s.ash.slots[s.ash.slots.length - 1 - c]? else none

/-- Latch the record at a path's cursor, zeros at the end (R595). -/
def State.ashLatch (s : State) (w : Fin 8) : State :=
  let l := ((s.ashAt s.ash.cursors[w]).map (fun r => if s.ash.failed then r.words else s.slotWords s.ash.cursors[w] r)).getD []
  s.setAsh (fun a => { a with latched := a.latched.set w l })

/-- Word `i` of a path's latched record. -/
def State.ashWord (s : State) (w : Fin 8) (i : Nat) : Word := (s.ash.latched[w]).getD i 0

/-- Move a path's cursor on, not past the end (R595). -/
def State.ashAdvance (s : State) (w : Fin 8) : State :=
  s.setAsh (fun a => if a.cursors[w] < s.ashCount then { a with cursors := a.cursors.set w (a.cursors[w] + 1) } else a)

/-- The writer code of a path as an index. -/
def writerFin (p : Path) : Fin 8 :=
  match p.writer with
  | .hearth => 0 | .flue => 1 | .canA => 2 | .canB => 3 | .core1 => 4 | .core2 => 5 | .core3 => 6 | .service => 7

/-- A read of 0x3900:02 (R595): the latch, then word 0. -/
def State.readAshFirst (s : State) (w : Fin 8) : Nat × State :=
  let s1 := s.ashLatch w
  ((s1.ashWord w 0).toNat, s1)

/-- A read of 0x3900:09 (R595): word 7, then the cursor moves on. -/
def State.readAshLast (s : State) (w : Fin 8) : Nat × State :=
  ((s.ashWord w 7).toNat, (s.ashAdvance w).setAsh (fun a => { a with advanced := a.advanced.set w (a.advanced[w] + 1) }))

/-- A read of one of the log's subindexes with an effect. -/
def State.ashRead (s : State) (p : Path) (key : Nat) (f : State → Nat × State) : State :=
  match (s.touch p).checkRead key with
  | .error e => (s.touch p).refuse p e
  | .ok _ =>
    let r := f (s.touch p)
    r.2.answer p (.value (Int.ofNat r.1))

/-- ASH_RECORD_LATCH. -/
def execAshRecordLatch (p : Path) (s : State) : Host.Outcome State Fault Refusal :=
  .next (s.served (fun s => s.ashRead p (Key.ashRecordWord 0) (fun s => s.readAshFirst (writerFin p))))

/-- ASH_CURSOR_ADVANCE. -/
def execAshCursorAdvance (p : Path) (s : State) : Host.Outcome State Fault Refusal :=
  .next (s.served (fun s => s.ashRead p (Key.ashRecordWord 7) (fun s => s.readAshLast (writerFin p))))

/-- A write of a path's cursor, 0 to the record count (R597), goes before the path's reads of 0x3900:09 in the same tick, which move it
on (R599). -/
def State.setCursor (s : State) (p : Path) (v : Nat) : State :=
  let w := writerFin p
  s.setAsh (fun a => { a with cursors := a.cursors.set w (max v (min s.ashCount (v + a.advanced[w]))) })

/-! ### Clearing (R596) -/

/-- A clear begins. -/
def State.ashClear (s : State) (p : Path) : State :=
  s.setAsh (fun a => { a with clearing := some (a.slots.length, s.nat Key.ashLostEvents, p.writer.code) })

/-- ASH_CLEAR: 0xC1EA written to 0x3900:0D. -/
def execAshClear (p : Path) (value : Nat) (s : State) : Host.Outcome State Fault Refusal :=
  .next (s.commanded p Key.ashClear value (fun s => s.ashClear p))

/-- ASH_CLEAR_DONE: slots and reserve empty, header, counts and cursors reset, LOG_CLEARED in slot 0; a media failure abandons the clear
(R596, R599). -/
def execAshClearDone (result : Fin 3) (s : State) : Host.Outcome State Fault Refusal :=
  .next (match s.ash.clearing with
    | none => s
    | some (n, lost, writer) =>
      if s.logRuns = false then s
      else if result = 0 then
        let s1 := (s.framWrote 0x60000000 0x80000).bankWritten.setAsh (fun a =>
          { a with slots := [], reserve := [], clears := satSucc 16 a.clears, clearTime := s.opSeconds, headerLost := 0, clearing := none,
                   cursors := Vector.replicate 8 0 })
        let s2 := s1.zero [Key.ashFull, Key.ashLostEvents, Key.ashMediaStatus]
        s2.newRecord (recordOf (s2.ashEvent 0x0C04 noSource n lost writer) s.stampMs s.stampMs 0)
      else s.mediaFail result.val 0x60000800)

end Sys2Proof.Machine
end

