-- ==== Sys2Proof/Machine/KelsisModel.lean ====
section
/-! DEFINITION. Kelsis's arithmetic (R289-R298, R302-R307, R315, R316): the tables and their lookups, the drying pass, transport,
noise and assimilation over an ensemble. Every operation, the exponential of the pass too, is a binary32 operation rounded once, in the
order the printed formulas show, from the left, without fusing (R289; log 50); the entries of a table alone are rounded from the exact
formula (R307). -/

namespace Sys2Proof.Machine

open Sys2Proof

/-! ### Small arithmetic -/

/-- Sums and means of a list, from the left. -/
def fsum (l : List Word) : Word := l.foldl fadd 0
def fmean (l : List Word) : Word := fdiv (fsum l) (fofNat l.length)

/-- Sum of products of the deviations of two lists from their means, over m - 1 (R315). -/
def fcov (xs hs : List Word) : Word :=
  let xb := fmean xs
  let hb := fmean hs
  fdiv (fsum (List.zipWith (fun x h => fmul (fsub x xb) (fsub h hb)) xs hs)) (fofNat (xs.length - 1))

/-- The standard deviation with divisor m - 1; 0 for one member (R315, R351). -/
def fsigma (xs : List Word) : Word := if xs.length ≤ 1 then 0 else fsqrt (fcov xs xs)

abbrev c1000 : Word := fofNat 1000
abbrev c100 : Word := fofNat 100
abbrev c1 : Word := fofNat 1

/-- Wet basis in per cent to dry basis, and back (R296). -/
def dryOfWet (w : Word) : Word := let x := fdiv w c100; fdiv x (fsub c1 x)
def wetOfDry (m : Word) : Word := fmul (fdiv m (fadd c1 m)) c100

/-- x held between two bounds, and whether the bounds moved it. -/
def fclamp (lo hi x : Word) : Word := fmin (fmax x lo) hi
def fclamped (lo hi x : Word) : Nat := b2n (flt x lo || flt hi x)

/-! ### Tables (R304-R307) -/

/-- The arithmetic of the formulas of R304-R306, on wide patterns: a binary32 value, a ratio, and the operations. -/
def xof (x : Word) : Nat := fmt32.convert fmtWide x.toNat
def xratio (n : Int) (d : Nat) : Nat := fmtWide.div (fmtWide.round (decide (n < 0)) n.natAbs 0 false) (fmtWide.round false d 0 false)
def xadd (x y : Nat) : Nat := fmtWide.add x y
def xmul (x y : Nat) : Nat := fmtWide.mul x y
def xdiv (x y : Nat) : Nat := fmtWide.div x y
def xneg (x : Nat) : Nat := fmtWide.neg x

/-- Temperature i of the grids, T_n of VAP, and RH_j (R304). -/
def gridT (i : Nat) : Nat := xratio (Int.ofNat (i * 140) - 630) 63
def vapT (n : Nat) : Nat := xratio (Int.ofNat (n * 140) - 2550) 255
def gridRh (j : Nat) : Nat := xratio (Int.ofNat j) 63

/-- RH_j limited to 0.005-0.990 (R305). -/
def equilibriumRh (j : Nat) : Nat := if j = 0 then xratio 5 1000 else if j = 63 then xratio 990 1000 else gridRh j

/-- Equilibrium moisture (R305). -/
def equilibrium (form e1 e2 e3 t rh : Nat) : Nat :=
  let one := xratio 1 1
  let hundred := xratio 100 1
  if form = 0 then
    xdiv (fmtWide.pow (xdiv (xneg (fmtWide.ln (xadd one (xneg rh)))) (xmul e1 (xadd t e3))) (xdiv one e2)) hundred
  else
    xdiv (xdiv (xneg (fmtWide.ln (xdiv (xmul (xneg (xadd t e3)) (fmtWide.ln rh)) e1))) e2) hundred

/-- Kinetics (R306), in 1/s. -/
def kinetics (form k1 k2 k3 k4 t rh : Nat) : Nat :=
  let one := xratio 1 1
  let k := xmul (xmul k1 (fmtWide.exp (xdiv (xneg k2) (xadd t (xratio 27315 100))))) (xadd one (xmul k4 rh))
  if form = 0 then k else fmtWide.pow k (xdiv one k3)

/-- Saturation pressure over liquid water in kPa (R304). -/
def saturation (t : Nat) : Nat :=
  xmul (xratio 61094 100000) (fmtWide.exp (xdiv (xmul (xratio 17625 1000) t) (xadd t (xratio 24304 100))))

/-- The distance of two wide patterns. -/
def xdist (x y : Nat) : Nat := let d := xadd x (xneg y); if d < fmtWide.signBit then d else xneg d

/-- A finite word lies within 4 units in the last place of `near` from the exact value `x` (R307). -/
def withinFour (x : Nat) (near y : Word) : Bool :=
  decide (xdist (xof y) x ≤ xmul (xratio 4 1) (xdist (xof (near + 1)) (xof near)))

/-- An entry of a table: the binary32 value nearest the formula's, or another that is off by at most 4 units in the last place (R307; log 31);
`of_` is what the entry is formed from. -/
def tableEntry (of_ : List Word) (x : Nat) : Word :=
  let near := BitVec.ofNat 32 (fmtWide.convert fmt32 x)
  if near.toNat % 2 ^ 31 = 0 ∨ fisFinite near = false then near
  else
    let moved := BitVec.ofNat 32 (near.toNat + Config.tableOffset of_ % 9 - 4)
    if fisFinite moved && withinFour x near moved then fflush moved else near

/-- The tables of a grain type from its values and a pressure (R304-R306). -/
def buildTable (w : View) (g : Nat) (pressure : Word) : KTable :=
  let e := fun i => w.f32 (Key.grainE g i)
  let es : List Word := [BitVec.ofNat 32 (w.nat (Key.grainEquilibriumForm g)), e 0, e 1, e 2]
  let ks : List Word := [BitVec.ofNat 32 (w.nat (Key.grainKineticForm g)), w.f32 (Key.grainK1 g), w.f32 (Key.grainK2 g), w.f32 (Key.grainK3 g), w.f32 (Key.grainK4 g)]
  let x := fun (l : List Word) i => xof (l.getD i 0)
  let place := fun (n : Nat) => (BitVec.ofNat 32 n : Word)
  { me := (List.range 4096).map (fun n => tableEntry (place 0 :: place n :: es)
      (equilibrium (w.nat (Key.grainEquilibriumForm g)) (x es 1) (x es 2) (x es 3) (gridT (n / 64)) (equilibriumRh (n % 64))))
    k := (List.range 4096).map (fun n => tableEntry (place 1 :: place n :: ks)
      (kinetics (w.nat (Key.grainKineticForm g)) (x ks 1) (x ks 2) (x ks 3) (x ks 4) (gridT (n / 64)) (gridRh (n % 64))))
    vap := (List.range 256).map (fun n => tableEntry [place 2, place n, pressure] (xdiv (saturation (vapT n)) (xof pressure)))
    pressure := pressure
    cg := w.f32 (Key.grainSpecificHeatOfDryMatter g)
    rho := w.f32 (Key.grainDryBulkDensity g)
    hv := w.f32 (Key.grainHeatTransferCoefficient g)
    flat := w.f32 (Key.grainLatentHeatFactor g) }

/-- An entry of Me or k that a build may not hold: non-finite or outside 0-1 (R307). -/
def entryBad (x : Word) : Bool := !fisFinite x || flt x 0 || flt c1 x

/-- The first failing entry of a build, by i then j; after the grids the first non-finite entry of VAP, with j 0 (R307, log 54). -/
def KTable.failure (t : KTable) : Option (Nat × Nat) :=
  match (List.range 4096).find? (fun x => entryBad (t.me.getD x 0) || entryBad (t.k.getD x 0)) with
  | some x => some (x / 64, x % 64)
  | none => ((List.range 256).find? (fun n => !fisFinite (t.vap.getD n 0))).map (fun n => (n, 0))

/-! ### Lookups (R304) -/

abbrev tMin : Word := fofInt (-10)
abbrev tMax : Word := fofNat 130

/-- The interpolation a + (b - a) * f. -/
def lerp (a b f : Word) : Word := fadd a (fmul (fsub b a) f)

/-- An index coordinate split into its cell (at most `top`) and the fraction within it. -/
def splitIndex (x : Word) (top : Nat) : Nat × Word :=
  let i := min (ffloor x).toNat top
  (i, fsub x (fofNat i))

/-- Me or k at (T, RH): bilinear in the index coordinates; and the clamps counted. -/
def lookup2 (tab : List Word) (t rh : Word) : Word × Nat :=
  let ti := splitIndex (fdiv (fmul (fadd (fclamp tMin tMax t) (fofNat 10)) (fofNat 63)) (fofNat 140)) 62
  let rj := splitIndex (fmul (fclamp 0 c1 rh) (fofNat 63)) 62
  let at_ := fun i j => tab.getD (64 * i + j) 0
  let low := lerp (at_ ti.1 rj.1) (at_ (ti.1 + 1) rj.1) ti.2
  let high := lerp (at_ ti.1 (rj.1 + 1)) (at_ (ti.1 + 1) (rj.1 + 1)) ti.2
  (lerp low high rj.2, fclamped tMin tMax t + fclamped 0 c1 rh)

/-- VAP at T: linear. -/
def lookupVap (tab : KTable) (t : Word) : Word × Nat :=
  let ti := splitIndex (fdiv (fmul (fadd (fclamp tMin tMax t) (fofNat 10)) (fofNat 255)) (fofNat 140)) 254
  (lerp (tab.vap.getD ti.1 0) (tab.vap.getD (ti.1 + 1) 0) ti.2, fclamped tMin tMax t)

/-- The humidity ratio of air at T with the relative humidity RH (R300), and the clamps counted. -/
def humidityRatio (tab : KTable) (t rh : Word) : Word × Nat :=
  let v := lookupVap tab t
  let x := fmul rh v.1
  (fdiv (fmul (fmul (fofRatio 622 1000) rh) v.1) (fsub c1 x), v.2)

/-! ### The drying pass (R298) -/

/-- What the pass takes beside the cell: tables, dt in s, kinetics multiplier, air through a cell, its dry matter and volume. -/
structure DryEnv where
  table : KTable
  dt    : Word
  kin   : Word
  mdot  : Word
  mdm   : Word
  vol   : Word

/-- The relative humidity of air in the pass, with the clamps counted. -/
def relHumidity (tab : KTable) (wa ta : Word) : Word × Nat :=
  let v := lookupVap tab ta
  (fclamp 0 c1 (fdiv (fdiv wa (fadd (fofRatio 622 1000) wa)) v.1), v.2)

/-- One cell: its new state with the air as it leaves, the water released in kg, the clamps. `wa`, `ta` is the entering air. -/
def dryCell (e : DryEnv) (wa ta : Word) (c : KCell) : KCell × Word × Nat :=
  let rh := relHumidity e.table wa ta
  if flt e.mdot (fofRatio 1 1000) then (c, 0, rh.2)
  else
    let kl := lookup2 e.table.k ta rh.1
    let ml := lookup2 e.table.me ta rh.1
    let k := fmul kl.1 e.kin
    let m1 := fadd ml.1 (fmul (fsub c.m ml.1) (fexp (fmul (fneg k) e.dt)))
    let ev := fmul (fsub c.m m1) e.mdm
    let lh := fmul (fsub (fofNat 2501) (fmul (fofRatio 2361 1000) c.tg)) e.table.flat
    let cap := fmul e.mdm (fadd e.table.cg (fmul (fofRatio 4186 1000) c.m))
    let hv := fmul e.table.hv e.vol
    let teq := fsub ta (fdiv (fmul ev lh) (fmul hv e.dt))
    let tg1 := fadd teq (fmul (fsub c.tg teq) (fexp (fdiv (fmul (fneg hv) e.dt) cap)))
    let q := fadd (fmul cap (fsub tg1 c.tg)) (fmul ev lh)
    let wa1 := fadd wa (fdiv ev (fmul e.mdot e.dt))
    let ta1 := fsub ta (fdiv q (fmul (fmul e.mdot e.dt) (fadd (fofRatio 1006 1000) (fmul (fofRatio 186 100) wa1))))
    (⟨m1, tg1, wa1, ta1⟩, ev, rh.2 + kl.2 + ml.2)

/-- A line of cells in air order: the air one cell leaves enters the next. An unchanged cell passes its stored air on no
further than itself: the entering air goes on (R298). -/
def dryLine (e : DryEnv) (wa ta : Word) : List KCell → List KCell × Word × Nat
  | [] => ([], 0, 0)
  | c :: cs =>
    let r := dryCell e wa ta c
    let still := flt e.mdot (fofRatio 1 1000)
    let rest := dryLine e (if still then wa else r.1.wa) (if still then ta else r.1.ta) cs
    (r.1 :: rest.1, fadd r.2.1 rest.2.1, r.2.2 + rest.2.2)

/-- Cells as layers, and layers as cell columns. -/
def layersOf (l w : Nat) (cs : List KCell) : List (List KCell) := (List.range l).map (fun i => (cs.drop (i * w)).take w)
def cellZero : KCell := ⟨0, 0, 0, 0⟩
def transposeCells (n : Nat) (rows : List (List KCell)) : List (List KCell) :=
  (List.range n).map (fun k => rows.map (fun r => r.getD k cellZero))

/-- Geometry of a column (R294, R295). -/
structure KGeometry where
  model  : Nat
  layers : Nat
  width  : Nat
  pitch  : Nat
  height : Word
  depth  : Word
  face   : Word

def View.geometry (w : View) (c : Nat) : KGeometry :=
  ⟨w.nat (Key.colModelType c), w.nat (Key.colLayers c), w.nat (Key.colCellsAcross c), w.nat (Key.colRowPitch c), w.f32 (Key.colSectionHeight c),
    w.f32 (Key.colColumnThickness c), w.f32 (Key.colFaceWidth c)⟩

/-- Air flows along the layer, or up the cell columns (R294). -/
def KGeometry.across (g : KGeometry) : Bool := g.model == 0 || g.model == 1

/-- The layer's air runs from cell W - 1 to cell 0: MIXED, odd duct rows (R294). -/
def KGeometry.reversed (g : KGeometry) (layer : Nat) : Bool := g.model == 1 && layer / g.pitch % 2 == 1

/-- Cell volume (R295). -/
def KGeometry.volume (g : KGeometry) : Word :=
  fmul (fmul (fdiv g.height (fofNat g.layers)) (fdiv g.depth (fofNat g.width))) g.face

/-- The pass over every cell of a member: cells, water released, clamps (R295, R298). -/
def dryPass (g : KGeometry) (tab : KTable) (dt mk flow wa ta : Word) (cs : List KCell) : List KCell × Word × Nat :=
  let v := g.volume
  let e : DryEnv := ⟨tab, dt, mk, fdiv flow (fofNat (if g.across then g.layers else g.width)), fmul tab.rho v, v⟩
  let rows := layersOf g.layers g.width cs
  if g.across then
    let done := (List.range g.layers).map (fun l =>
      let row := rows.getD l []
      let r := dryLine e wa ta (if g.reversed l then row.reverse else row)
      ((if g.reversed l then r.1.reverse else r.1), r.2))
    ((done.map (fun r => r.1)).flatten, fsum (done.map (fun r => r.2.1)), (done.map (fun r => r.2.2)).sum)
  else
    let done := (transposeCells g.width rows).map (fun col =>
      let r := dryLine e wa ta col.reverse
      (r.1.reverse, r.2))
    ((transposeCells g.layers (done.map (fun r => r.1))).flatten, fsum (done.map (fun r => r.2.1)), (done.map (fun r => r.2.2)).sum)

/-! ### Transport (R297) -/

/-- How far a step shifts: layers, the accumulator after it, the cap; `distance` in m. A negative whole part shifts nothing and
stays in the accumulator (log 55). -/
def transportStep (g : KGeometry) (acc distance : Word) : Nat × Word × Bool :=
  let a := fadd acc (fdiv (fmul distance (fofNat g.layers)) g.height)
  let n := (ffloor a).toNat
  (min n g.layers, if n = 0 then a else fsub a (fofNat n), decide (g.layers < n))

/-- Shift a member's grid by n layers with the inflow row on top. -/
def shiftCells (g : KGeometry) (n : Nat) (inflow : List KCell) (cs : List KCell) : List KCell :=
  (List.replicate n inflow).flatten ++ cs.take ((g.layers - n) * g.width)

/-- The mean of the discharged layers per cell column, or the last layer when nothing was discharged (R311, R318). -/
def dischargeOf (g : KGeometry) (n : Nat) (cs : List KCell) : List KCell :=
  let rows := layersOf g.layers g.width cs
  let out := if n = 0 then rows.drop (g.layers - 1) else rows.drop (g.layers - n)
  (List.range g.width).map (fun k =>
    let l := out.map (fun r => r.getD k cellZero)
    ⟨fmean (l.map (fun c => c.m)), fmean (l.map (fun c => c.tg)), fmean (l.map (fun c => c.wa)), fmean (l.map (fun c => c.ta))⟩)

/-- Outlet moisture in % w.b. and outlet temperature of a member (R311, R322). -/
def outletMoisture (out : List KCell) : Word := wetOfDry (fmean (out.map (fun c => c.m)))
def outletTemp (out : List KCell) : Word := fmean (out.map (fun c => c.tg))

/-! ### Noise (R302) -/

/-- The generator's streams: 0-2 at initialisation, 3-6 each step, 7-10 for a copy. -/
def deviate (seed member quantity draw : Nat) : Word := Config.normalDeviate seed member quantity draw

/-- The four noise states one step on. -/
def KMember.noisier (m : KMember) (seed i draw : Nat) (rho : Word) : KMember :=
  let s := fsqrt (fsub c1 (fmul rho rho))
  let f := fun (x : Word) q => fadd (fmul rho x) (fmul s (deviate seed i q draw))
  { m with nk := f m.nk 3, na := f m.na 4, nt := f m.nt 5, nm := f m.nm 6 }

/-- Any value of the member is non-finite (R303). -/
def KMember.bad (m : KMember) : Bool :=
  !(fisFinite m.nk && fisFinite m.na && fisFinite m.nt && fisFinite m.nm)
    || m.cells.any (fun c => !(fisFinite c.m && fisFinite c.tg && fisFinite c.wa && fisFinite c.ta))

/-- Member i counts as non-finite: a value of it is, or its state in the LPDDR4 could not be corrected (R290). -/
def memberLost (ms : List KMember) (lost : List Nat) (i : Nat) : Bool := (ms.getD i ⟨[], 0, 0, 0, 0, 0⟩).bad || lost.contains i

/-- The finite member with the next higher number than `i`, wrapping. -/
def donorOf (ms : List KMember) (lost : List Nat) (i : Nat) : Option KMember :=
  (((List.range ms.length).map (fun d => (i + 1 + d) % ms.length)).find? (fun j => !memberLost ms lost j)).map (fun j => ms.getD j ⟨[], 0, 0, 0, 0, 0⟩)

/-- Members after the replacement of R303 and how many were replaced; none are when more than half are non-finite. -/
def replaceBad (ms : List KMember) (lost : List Nat) : List KMember × Nat × Bool :=
  let n := ((List.range ms.length).filter (memberLost ms lost)).length
  if ms.length < 2 * n then (ms, 0, true)
  else
    ((List.range ms.length).map (fun i =>
      let m := ms.getD i ⟨[], 0, 0, 0, 0, 0⟩
      if memberLost ms lost i then (match donorOf ms lost i with
        | some d => { d with zeta := m.zeta }
        | none => m)
      else m), n, false)

/-! ### Assimilation (R311, R315, R316) -/

/-- The fields of a binding word (R311). -/
structure Binding where
  source  : Nat
  qty     : Nat
  channel : Nat
  layer   : Nat
  cell    : Nat
deriving DecidableEq, Repr

def bindingOf (w : Nat) : Binding := ⟨field w 31 28, field w 27 24, field w 23 16, field w 15 7, field w 4 0⟩

/-- One quantity of a cell: 0 moisture % w.b., 1 grain temperature, 2 air temperature, 3 air RH % (R311); and the lookups clamped. -/
def cellQuantity (tab : KTable) (q : Nat) (c : KCell) : Word × Nat :=
  match q with
  | 0 => (wetOfDry c.m, 0)
  | 1 => (c.tg, 0)
  | 2 => (c.ta, 0)
  | _ =>
    let r := relHumidity tab c.wa c.ta
    (fmul r.1 c100, r.2)

/-- The cells a binding reads, with the layer its window centres on. -/
def bindingCells (g : KGeometry) (b : Binding) (cs : List KCell) : List KCell × Nat :=
  let rows := layersOf g.layers g.width cs
  if b.qty ≤ 3 then
    let row := rows.getD b.layer []
    (if b.cell = 31 then row else [row.getD b.cell cellZero], b.layer)
  else if b.qty ≤ 5 then ([], g.layers - 1)
  else if g.across then
    let row := rows.getD b.layer []
    ([row.getD (if g.reversed b.layer then 0 else g.width - 1) cellZero], b.layer)
  else
    let row := rows.getD 0 []
    (if b.cell = 31 then row else [row.getD b.cell cellZero], 0)

/-- The model value of a binding for one member (R311), and the lookups clamped on the way (R304). -/
def modelValue (g : KGeometry) (tab : KTable) (b : Binding) (out cs : List KCell) : Word × Nat :=
  if b.qty = 4 then (outletMoisture out, 0)
  else if b.qty = 5 then (outletTemp out, 0)
  else
    let q := if b.qty ≤ 3 then b.qty else if b.qty = 6 then 2 else 3
    let vs := (bindingCells g b cs).1.map (cellQuantity tab q)
    (fmean (vs.map (fun v => v.1)), (vs.map (fun v => v.2)).sum)

/-- A member as one vector of words: cells, then the noise states; and back. -/
def KMember.vector (m : KMember) : List Word :=
  (m.cells.map (fun c => [c.m, c.tg, c.wa, c.ta])).flatten ++ [m.nk, m.na, m.nt, m.nm]

def cellsOfWords : List Word → List KCell
  | a :: b :: c :: d :: rest => ⟨a, b, c, d⟩ :: cellsOfWords rest
  | _ => []

def KMember.ofVector (m : KMember) (v : List Word) : KMember :=
  let n := 4 * m.cells.length
  { m with cells := cellsOfWords (v.take n), nk := v.getD n 0, na := v.getD (n + 1) 0, nt := v.getD (n + 2) 0, nm := v.getD (n + 3) 0 }

/-- The weight of each place of the vector: 1 - |dl| / (h_w + 1) within the window, 0 beyond, 1 for the noise states. -/
def weightsOf (g : KGeometry) (half centre : Nat) : List Word :=
  ((List.range g.layers).map (fun l =>
    let d := if l ≤ centre then centre - l else l - centre
    let w := if d ≤ half then fsub c1 (fdiv (fofNat d) (fofNat (half + 1))) else 0
    List.replicate (4 * g.width) w)).flatten ++ [c1, c1, c1, c1]

/-- Spread values about their mean (R315). -/
def spread (infl : Word) (xs : List Word) : List Word :=
  let b := fmean xs
  xs.map (fun x => fadd b (fmul infl (fsub x b)))

/-- Place `i` of every member's vector. -/
def columnAt (vs : List (List Word)) (i : Nat) : List Word := vs.map (fun v => v.getD i 0)

/-- The places of members' vectors, each as the list of its values over the members. -/
def columnsOf (ms : List KMember) : List (List Word) :=
  let vs := ms.map (fun m => m.vector)
  (List.range ((vs.headD []).length)).map (columnAt vs)

/-- Members with new values at every place. -/
def withColumns (ms : List KMember) (cols : List (List Word)) : List KMember :=
  (List.range ms.length).map (fun i => (ms.getD i ⟨[], 0, 0, 0, 0, 0⟩).ofVector (columnAt cols i))

/-- The members spread about their mean, every value of them; a single one stands (R315; log 51). -/
def spreadMembers (infl : Word) (ms : List KMember) : List KMember :=
  if ms.length ≤ 1 then ms else withColumns ms ((columnsOf ms).map (spread infl))

/-- What a binding's assimilation gives: members, the innovation mean, nu, and whether the gate rejected it; none for one member. -/
structure Assimilated where
  members  : List KMember
  innov    : Word
  nu       : Word
  rejected : Bool

/-- The innovation mean one binding on (R316). -/
def innovNext (s nu : Word) : Word := fadd s (fdiv (fsub (fmin (fmul nu nu) c100) s) (fofNat 64))

/-- One binding assimilated (R315): `ms` are the spread members, `hs` their model values (for a delayed binding the stored ones), `y` the
measurement, `sg` its sigma. -/
def assimilate (ws : List Word) (gate : Word) (ms : List KMember) (innov : Word) (hs : List Word) (y sg : Word) : Option Assimilated :=
  if ms.length ≤ 1 then none
  else
    let hbar := fmean hs
    let s2 := fcov hs hs
    let tot := fadd s2 (fmul sg sg)
    let nu := fdiv (fsub y hbar) (fsqrt tot)
    let innov' := innovNext innov nu
    let rejected := flt gate (fabs nu)
    let gain := fdiv s2 tot
    let shrink := fsqrt (fdiv (fmul sg sg) tot)
    let hnew := hs.map (fun h => fadd (fadd hbar (fmul gain (fsub y hbar))) (fmul shrink (fsub h hbar)))
    let moves := List.zipWith (fun a b => fsub a b) hnew hs
    let updated := List.zipWith (fun w xs =>
      if w = 0 then xs
      else
        let f := fdiv (fmul w (fcov xs hs)) s2
        List.zipWith (fun x d => fadd x (fmul f d)) xs moves) ws (columnsOf ms)
    some ⟨if rejected then ms else withColumns ms updated, innov', nu, rejected⟩

end Sys2Proof.Machine
end

