-- ==== Sys2Proof/Machine/Kelsis.lean ====
section
/-! DEFINITION. The column estimator's commands (R287-R340): steps, initialisation, tables, boundaries, health, snapshots; and the
entry of a predictor into FEEDBACK at a step end (R356, R357). -/

namespace Sys2Proof.Machine

open Sys2Proof

/-! ### Records and times -/

def State.setColumn (s : State) (c : Fin 4) (f : KColumn → KColumn) : State :=
  { s with kelsis := { s.kelsis with columns := s.kelsis.columns.set c (f s.kelsis.columns[c]) } }
def State.setGrain (s : State) (g : Fin 16) (f : KGrain → KGrain) : State :=
  { s with kelsis := { s.kelsis with grains := s.kelsis.grains.set g (f s.kelsis.grains[g]) } }
def State.setPredictor (s : State) (c : Fin 4) (f : KPredictor → KPredictor) : State :=
  { s with kelsis := { s.kelsis with preds := s.kelsis.preds.set c (f s.kelsis.preds[c]) } }

abbrev nsPerSecond : Nat := 1000000000

/-- Columns step in ARMED, RUNNING and FAULT (R292), with the clocks running and outside cold hold (R609). -/
def State.kelsisRuns (s : State) : Bool :=
  (s.process == psArmed || s.process == psRunning || s.process == psFault) && s.clocksRun && !s.coldHold

/-- EST is throttled to 300 MHz (R18, R333). -/
def State.estThrottled (s : State) : Bool := s.bitOf Key.thermalStatus 0

/-- A column's step period in s, and the number of the step that module time has reached (R291). -/
def State.stepSeconds (s : State) (c : Nat) : Nat := s.nat (Key.colStepPeriod c)
def State.stepNumber (s : State) (c : Nat) : Nat := s.moduleNs / (s.stepSeconds c * nsPerSecond)

/-- The grain type configured for a column. -/
def State.grainOf (s : State) (c : Nat) : Fin 16 := Fin.ofNat 16 (s.nat (Key.colGrainType c))

/-- Change the reasons word; 0x0506 when it leaves zero (R323); the current outputs that take the column follow its health (R419). -/
def State.setReasons (s : State) (c : Nat) (w : Nat) : State :=
  let old := s.nat (Key.colHealthReasons c)
  let s1 := s.putN (Key.colHealthReasons c) w
  if old = 0 ∧ w ≠ 0 then (s1.log 0x0506 c 0 w).serveColumnOutputs c
  else if old ≠ 0 ∧ w = 0 then s1.serveColumnOutputs c
  else s1

/-- The bits of the reasons word (R336). -/
abbrev kInit : Nat := 0
abbrev kInnovation : Nat := 1
abbrev kNoData : Nat := 2
abbrev kBoundary : Nat := 3
abbrev kTransport : Nat := 4
abbrev kTableTimeout : Nat := 5
abbrev kForcing : Nat := 6
abbrev kModelFault : Nat := 7
abbrev kShedFull : Nat := 8

/-- One reason set or cleared. -/
def State.setReason (s : State) (c bitNo : Nat) (b : Bool) : State :=
  s.setReasons c (setBit (s.nat (Key.colHealthReasons c)) bitNo b)

/-! ### Forcing inputs (R300, R301) -/

/-- The constant or factor of forcing input f. -/
def forcingConstKey (c f : Nat) : Nat := (0x3010 + c) * 256 + 0x1E + f

/-- The value an input's source gives now; none from a channel that is BROKEN or DISABLED, and from a LINK. -/
def State.forcing (s : State) (c f : Nat) : Option Word :=
  let src := s.nat (Key.colForcingSource c f)
  let num := src % 256
  let k := s.word (forcingConstKey c f)
  match src / 256 with
  | 0 => some k
  | 1 => if s.channelGood num then some (s.word (Key.chanValue num)) else none
  | 2 => some (fmul k (s.word (Key.driveSpeed num)))
  | 3 => some (fmul k (s.word (Key.pulseFrequency num)))
  | _ => none

/-- An input its column uses by its source: not 5-7 of a BIN column (R294), not a LINK's. -/
def State.forcingUsed (s : State) (c f : Nat) : Bool :=
  !(s.nat (Key.colModelType c) == 3 && decide (5 ≤ f)) && s.nat (Key.colForcingSource c f) / 256 != 4

/-- Latch one input at a step start: the source's value, else the last value used, the hold beginning now; a hold with no value
used before it is a free value (log 57). -/
def State.latchForcing (s : State) (c : Fin 4) (f : Fin 8) : State :=
  if s.forcingUsed c f = false then s.setColumn c (fun k => { k with held := k.held.set f none })
  else match s.forcing c f with
    | some v => s.setColumn c (fun k => { k with used := k.used.set f (some v), held := k.held.set f none })
    | none =>
      let k := s.kelsis.columns[c]
      let since := (k.held[f]).getD s.moduleNs
      match k.used[f] with
      | some _ => s.setColumn c (fun k => { k with held := k.held.set f (some since) })
      | none =>
        let v := s.freeWord
        v.2.setColumn c (fun k => { k with used := k.used.set f (some v.1), held := k.held.set f (some since) })

/-- The value in use for an input. -/
def KColumn.input (k : KColumn) (f : Fin 8) : Word := (k.used[f]).getD 0

/-! ### Tables (R307-R309) -/

/-- A grain type in use: some enabled column uses it or will at its next step (R308). -/
def State.grainUsed (s : State) (g : Fin 16) : Bool :=
  (List.finRange 4).any (fun (c : Fin 4) =>
    s.flag (Key.colEnable c) && (s.grainOf c == g || (s.kelsis.columns[c]).grain == some g))

/-- The builder's state and the grain type building (R337). -/
def State.showBuilder (s : State) : State :=
  let waiting := (List.finRange 16).any (fun (g : Fin 16) => (s.kelsis.grains[g]).ready.isSome)
  (s.putN Key.tablesBuilderState (if s.kelsis.building.isSome then 1 else if waiting then 2 else 0)).putN Key.tablesGrainTypeBuilding
    ((s.kelsis.building.map (fun b => b.grain.val)).getD 0xFF)

/-- A trigger of a build of g (R308): a build under way goes out of date, a ready one no longer reflects every trigger (log 58). -/
def State.triggerBuild (s : State) (g : Fin 16) : State :=
  if s.kelsis.building.any (fun b => b.grain == g) then
    { s with kelsis := { s.kelsis with building := s.kelsis.building.map (fun b => { b with outdated := true }) } }
  else if s.grainUsed g then (s.setGrain g (fun t => { t with want := true, ready := none })).showBuilder
  else s

/-- A build of g is wanted, running or ready. -/
def State.buildDue (s : State) (g : Fin 16) : Bool :=
  let t := s.kelsis.grains[g]
  t.want || t.ready.isSome || s.kelsis.building.any (fun b => b.grain == g)

/-- The pressure a build takes: the input of the lowest column that uses g (log 59); where that is BROKEN or DISABLED, the tables keep
their last pressure (R308). -/
def State.buildPressure (s : State) (g : Fin 16) : Word :=
  let last := match (s.kelsis.grains[g]).active with
    | some t => t.pressure
    | none => s.word Key.kelsisTablePressure
  match (List.finRange 4).find? (fun (c : Fin 4) => s.flag (Key.colEnable c) && s.grainOf c == g) with
  | some c => (s.forcing c 3).getD last
  | none => last

/-- Start a build of g on the latest committed values. -/
def State.startBuild (s : State) (g : Fin 16) : State :=
  let b : KBuild := ⟨g, false, s.buildPressure g⟩
  let s1 := s.setGrain g (fun t => { t with want := false, ready := none })
  ({ s1 with kelsis := { s1.kelsis with building := some b } }).showBuilder

/-- Kelsis is there: not in Kindling mode (R106, R109). -/
def State.kelsisThere (s : State) : Bool := s.process != psKindling

/-- TABLE_BUILD_START: a triggered build starts when no other runs (R290, R308). -/
def execTableBuildStart (g : Fin 16) (s : State) : Host.Outcome State Fault Refusal :=
  .next (if (s.kelsis.grains[g]).want && s.kelsis.building.isNone && s.clocksRun && s.kelsisThere then s.startBuild g else s)

/-- TABLE_BUILD_DONE: out of date and begun again, failed with 0x0505, or ready (R307, R308). -/
def execTableBuildDone (s : State) : Host.Outcome State Fault Refusal :=
  .next (s.served (fun s => match s.kelsis.building.filter (fun _ => s.kelsisThere) with
    | none => s
    | some b =>
      let us := s.freeNat
      let s0 := us.2.putN Key.tablesLastBuildTime (us.1 % (if s.estThrottled then 80001 else 40001))
      let s1 := { s0 with kelsis := { s0.kelsis with building := none } }
      if b.outdated then s1.startBuild b.grain
      else
        let t := buildTable s.get b.grain b.pressure
        match t.failure with
        | some ij =>
          (((s1.setGrain b.grain (fun g => { g with failed := true })).bump 32 Key.tablesBuildFailures).log 0x0505 noSource b.grain
            ij.1 ij.2).showBuilder
        | none => (s1.setGrain b.grain (fun g => { g with ready := some t, failed := false })).showBuilder))

/-- Triggers of every grain type in use. -/
def State.tableRebuild (s : State) : State := (List.finRange 16).foldl (fun s (g : Fin 16) => s.triggerBuild g) s

/-- TABLE_REBUILD (R308). -/
def execTableRebuild (p : Path) (s : State) : Host.Outcome State Fault Refusal :=
  .next (s.commanded p Key.tablesRebuild 1 (fun s => s.tableRebuild))

/-- The key of subindex `sub` of grain type g. -/
def grainKey (g sub : Nat) : Nat := (0x3040 + g) * 256 + sub

/-- A file record's value for a subindex: a form is 0 or 1, the others are binary32 (R310, log 53). -/
def State.fileValue (s : State) (e sub : Nat) : Int :=
  let w := Config.grainFileWord (s.block Key.tablesFileImage) e sub
  if sub = 2 ∨ sub = 6 then Int.ofNat (w.toNat % 2) else Int.ofNat w.toNat

/-- Copy record e into grain type g: the 14 values of subs 02-0F in one tick, one build (R310). -/
def State.loadFromFile (s : State) (g : Fin 16) (e : Nat) : State :=
  ((List.range 14).foldl (fun s i => s.assign (grainKey g (i + 2)) (s.fileValue e (i + 2))) s).triggerBuild g

/-- LOAD_FROM_FILE (R310). -/
def execLoadFromFile (p : Path) (g : Fin 16) (e : Nat) (s : State) : Host.Outcome State Fault Refusal :=
  .next (s.commanded p (Key.grainLoadFromFile g) e (fun s => s.loadFromFile g e))

/-- Swap in the ready build of a grain type (R309). -/
def State.swapTables (s : State) (g : Fin 16) : State :=
  match (s.kelsis.grains[g]).ready with
  | none => s
  | some t =>
    let s1 := s.setGrain g (fun u => { u with active := some t, ready := none })
    (((s1.bump 32 Key.tablesBuilds).putBit Key.tablesTablesInForce g.val true).putW Key.kelsisTablePressure t.pressure).showBuilder

/-- The pressure trigger of a step start (R308): more than 0.5 kPa from the tables of a grain type that the column uses. -/
def State.pressureTrigger (s : State) (c : Fin 4) (g : Fin 16) : State :=
  match s.forcing c 3, (s.kelsis.grains[g]).active with
  | some p, some t => if flt (fofRatio 1 2) (fabs (fsub p t.pressure)) then s.triggerBuild g else s
  | _, _ => s

/-- The table part of a step start (R309): swap of the configured grain type and of the one in force, grain type in force, the pressure
trigger (R308), which bears on a later build only; TABLE_PENDING, its count and TABLE_TIMEOUT. -/
def State.tableStep (s : State) (c : Fin 4) : State :=
  let g := s.grainOf c
  let first := (s.kelsis.grains[g]).active.isNone && !(s.kelsis.grains[g]).failed && !s.buildDue g
  let uses : List (Fin 16) := match (s.kelsis.columns[c]).grain with
    | some old => if old = g then [g] else [g, old]
    | none => [g]
  let swapped := uses.foldl (fun s x => s.swapTables x) (if first then s.triggerBuild g else s)
  let t := swapped.kelsis.grains[g]
  let usable := t.active.isSome && ((swapped.kelsis.columns[c]).grain == some g || !(t.failed || swapped.buildDue g))
  let s1 := uses.foldl (fun s x => s.pressureTrigger c x) swapped
  let s2 := if usable then s1.setColumn c (fun k => { k with grain := some g }) else s1
  if (s2.kelsis.columns[c]).grain = some g then
    ((s2.putN (Key.colPendingSteps c) 0).putBit (Key.colStatus c) 2 false).setReason c kTableTimeout false
  else
    let n := satSucc 8 (s2.nat (Key.colPendingSteps c))
    let s3 := (s2.putN (Key.colPendingSteps c) n).putBit (Key.colStatus c) 2 true
    if n = 3 then (s3.log 0x0503 c).setReason c kTableTimeout true else s3

/-! ### Boundaries (R317-R321) -/

/-- An upstream link is used: not by a BIN column (R294). -/
def State.linked (s : State) (c : Nat) : Bool := s.nat (Key.boundUpstreamKind c) != 0 && s.nat (Key.colModelType c) != 3

/-- n free boundary cells, for a link that has never been fresh (log 57). -/
def State.freeBoundary : Nat → State → List (Word × Word × Word × Word) × State
  | 0, s => ([], s)
  | n + 1, s =>
    let a := s.freeWord
    let b := a.2.freeWord
    let c := b.2.freeWord
    let d := c.2.freeWord
    let rest := State.freeBoundary n d.2
    ((a.1, b.1, c.1, d.1) :: rest.1, rest.2)

/-- The boundary part of the start of step n (R319, R320); a column without a link has no boundary to be missing. -/
def State.boundaryStep (s : State) (c : Fin 4) (n : Nat) : State :=
  let k := s.kelsis.columns[c]
  if s.linked c = false then
    ((((s.putN (Key.boundLinkState c) 0).putN (Key.boundConsecutiveStaleSteps c) 0).putBit (Key.colStatus c) 3 false).putBit (Key.colStatus c) 4 false).setReason
      c kBoundary false
  else match k.down.filter (fun b => b.step + 1 == n) with
    | some b =>
      let s1 := s.setColumn c (fun k => { k with down := none, boundary := some b.values })
      ((((s1.putN (Key.boundLinkState c) 1).putN (Key.boundConsecutiveStaleSteps c) 0).putBit (Key.colStatus c) 3 false).putBit
        (Key.colStatus c) 4 false).setReason c kBoundary false
    | none =>
      let run := s.nat (Key.boundConsecutiveStaleSteps c)
      let s1 := if k.boundary.isSome then s else
        let f := State.freeBoundary (s.nat (Key.colCellsAcross c)) s
        f.2.setColumn c (fun k => { k with boundary := some f.1 })
      let s2 := (((s1.setColumn c (fun k => { k with down := none })).bump 8 (Key.boundConsecutiveStaleSteps c)).bump 32
        (Key.boundStaleSteps c)).putBit (Key.colStatus c) 3 true
      let s3 := if s2.bitOf (Key.colStatus c) 4 ∨ s2.bitOf (Key.colHealthReasons c) kBoundary then s2 else s2.putN (Key.boundLinkState c) 2
      if run = 0 then s3.log 0x0502 c else s3

/-- The displacement of step n in m (R297, R321), latched; one that is not taken by LINK is not held. -/
def State.displacementStep (s : State) (c : Fin 4) (n : Nat) : State :=
  let k := s.kelsis.columns[c]
  if s.nat (Key.colModelType c) = 3 then s.setColumn c (fun k => { k with distance := some 0 })
  else if s.nat (Key.colForcingSource c 5) / 256 ≠ 4 then
    (((s.setColumn c (fun k => { k with distance := some (fmul (k.input 5) (fofNat (s.stepSeconds c))) })).putBit (Key.colStatus c) 5 false).putN
      (Key.boundConsecutiveHeldTransports c) 0).setReason c kTransport false
  else match k.up.filter (fun b => b.step + 1 == n) with
    | some b =>
      (((s.setColumn c (fun k => { k with up := none, distance := some b.displacement })).putBit (Key.colStatus c) 5 false).putN
        (Key.boundConsecutiveHeldTransports c) 0).setReason c kTransport false
    | none =>
      let s1 := match k.distance with
        | some _ => s
        | none =>
          let f := s.freeWord
          f.2.setColumn c (fun k => { k with distance := some f.1 })
      ((s1.setColumn c (fun k => { k with up := none })).putBit (Key.colStatus c) 5 true).bump 8 (Key.boundConsecutiveHeldTransports c)

/-- The inflow row of member m (R297, R319, R320): the boundary with its deviate, the fallback channels, or inputs 6 and 7. -/
def State.inflowRow (s : State) (c : Fin 4) (m : KMember) (wAmb : Word) : List KCell :=
  let k := s.kelsis.columns[c]
  let w := s.nat (Key.colCellsAcross c)
  let noisy := fun (x : Word) => dryOfWet (fadd x (fmul (s.word (Key.colInletMoistureNoiseSigma c)) m.nm))
  let air := fun (a b : Word) => (⟨a, b, wAmb, k.input 1⟩ : KCell)
  if s.linked c = false then List.replicate w (air (noisy (k.input 6)) (k.input 7))
  else
    let rows := (k.boundary.getD []).map (fun v => air (fadd v.1 (fmul m.zeta v.2.1)) (fadd v.2.2.1 (fmul m.zeta v.2.2.2)))
    if s.bitOf (Key.colStatus c) 4 then
      let tc := s.nat (Key.boundFallbackTemperatureChannel c)
      let mm := noisy (s.word (Key.chanValue (s.nat (Key.boundFallbackMoistureChannel c))))
      rows.map (fun r => air mm (if tc = 0xFF then r.tg else s.word (Key.chanValue tc)))
    else rows

/-- What a boundary or transport message must match at its receiving column r (R319, R321): the link it belongs to. -/
def State.linkMatches (s : State) (r : Nat) (b : Boundary) (src : Option Nat) : Bool :=
  let snd := b.sending.val
  if b.up then
    match src with
    | none => s.nat (Key.boundUpstreamKind snd) == 1 && s.nat (Key.boundUpstreamColumn snd) == r
    | some a => s.nat (Key.boundDownstreamAddress r) == a && s.nat (Key.boundDownstreamColumn r) == snd
  else
    match src with
    | none => s.nat (Key.boundUpstreamKind r) == 1 && s.nat (Key.boundUpstreamColumn r) == snd
    | some a => s.nat (Key.boundUpstreamKind r) == 2 && s.nat (Key.boundUpstreamAddress r) == a && s.nat (Key.boundUpstreamColumn r) == snd

/-- Judge a message that has passed its check (R319): taken for the column's next step, or discarded. -/
def State.judgeBoundary (s : State) (b : Boundary) (src : Option Nat) (gap : Bool) : State :=
  let r := b.receiving
  if !s.kelsisThere || !s.flag (Key.colEnable r) || !s.linkMatches r b src then s
  else if b.step != s.stepNumber r || b.period != s.stepSeconds r * 1000 || !b.flags.testBit 0 then s.bump 32 (Key.boundMessagesDiscarded r)
  else if !b.up && b.width != s.nat (Key.colCellsAcross r) then s
  else
    let s1 := (s.bump 32 (Key.boundMessagesAccepted r)).putN (Key.boundLastStepReceived r) b.step
    let s2 := if gap then s1.bump 32 (Key.boundGAPMessages r) else s1
    s2.setColumn r (fun k => if b.up then { k with up := some b } else { k with down := some b })

/-- BOUNDARY_RECEIVED: a SYNC frame of R318 arrives, is checked (R571) and judged (R319). The gap a Flue context admits is not
given: a jump of the alive counter may be GAP or OK (log 52). -/
def execBoundaryReceived (m : FlueMsg) (b : Boundary) (s : State) : Host.Outcome State Fault Refusal :=
  .next (s.served (fun s => let id := dataIdOf (.boundary b)
    let up := s.portUp m.port
    let repeated := up && m.fcs && frameSound m (.boundary b) && m.room && s.aliveRepeats m.src id m.alive
    let jump := s.flue.rxAlive.any (fun e => e.1 == m.src && e.2.1 == id && (e.2.2 + 1) % 16 != m.alive % 16)
    let a := s.arrive m (.boundary b)
    if s.answers m.dst = false ∨ s.kelsisThere = false then a.2
    else if a.1 then
      let g := a.2.freeNat
      if jump then g.2.judgeBoundary b (some m.src) (g.1 % 2 == 1) else a.2.judgeBoundary b (some m.src) false
    else if (repeated || (up && m.fcs && !frameSound m (.boundary b))) && s.linkMatches b.receiving b (some m.src) then a.2.bump 32 (Key.boundMessagesDiscarded b.receiving)
    else a.2))

/-- Send a message of column c's step end: locally to the columns it feeds or draws from, and over Flue (R318). -/
def State.sendBoundaries (s : State) (c : Fin 4) (b : Boundary) (up : Boundary) : State :=
  let s1 := (List.finRange 4).foldl (fun s (r : Fin 4) =>
    if r != c && s.nat (Key.boundUpstreamKind r) == 1 && s.nat (Key.boundUpstreamColumn r) == c.val then
      s.judgeBoundary { b with receiving := r } none false
    else s) s
  let a := s1.nat (Key.boundDownstreamAddress c)
  let s2 := if a = 0 then s1 else s1.sendFlue a (.boundary { b with receiving := Fin.ofNat 4 (s1.nat (Key.boundDownstreamColumn c)) })
  let u := Fin.ofNat 4 (s2.nat (Key.boundUpstreamColumn c))
  match s2.nat (Key.boundUpstreamKind c) with
  | 1 => s2.judgeBoundary { up with receiving := u } none false
  | 2 => s2.sendFlue (s2.nat (Key.boundUpstreamAddress c)) (.boundary { up with receiving := u })
  | _ => s2

/-! ### The ensemble at a step start (R292, R293, R328) -/

/-- The shape configured. -/
def State.columnShape (s : State) (c : Nat) : KShape :=
  ⟨s.nat (Key.colLayers c), s.nat (Key.colCellsAcross c), s.nat (Key.colMembers c), s.nat (Key.colSeed c)⟩

/-- Module time (ns) of the start of a column's step n (R291). -/
def State.stepStart (s : State) (c n : Nat) : Nat := n * s.stepSeconds c * nsPerSecond

/-- Whole seconds from the last completed step to step n (R292, R298); a step where module time has not moved on covers one period. -/
def State.stepGap (s : State) (c : Fin 4) (n : Nat) : Nat :=
  let k := s.kelsis.columns[c]
  if k.doneStart < s.stepStart c n then (s.stepStart c n - k.doneStart) / nsPerSecond else s.stepSeconds c

/-- What was committed at tick `t` acts at the step start at module time `start` (ns): one at the same moment acts at the next (R330). -/
def stepTakes (start t : Nat) : Bool := decide (t * 62500 < start)

/-- The LAB values that a step takes, and those that wait for a later one (R313, R330). -/
def KColumn.labDue (k : KColumn) (start : Nat) : List KLab := k.lab.filter (fun q => stepTakes start q.tick)
def KColumn.labLater (k : KColumn) (start : Nat) : List KLab := k.lab.filter (fun q => !stepTakes start q.tick)

/-- The column initialises at the start of step n (R292): no ensemble, an order, a changed shape, or a pause past the gap. -/
def State.mustInitialise (s : State) (c : Fin 4) (n : Nat) : Bool :=
  let k := s.kelsis.columns[c]
  let paused := k.started.all (fun t => t + s.stepSeconds c * nsPerSecond != s.stepStart c n)
  k.ens.isNone || k.reinit.any (stepTakes (s.stepStart c n)) || k.shape != s.columnShape c || (paused && decide (s.nat (Key.colReInitialisationGap c) < s.stepGap c n))

/-- A member at initialisation (R293). -/
def State.newMember (s : State) (c : Fin 4) (draw : Nat) (wAmb tAmb : Word) (i : Nat) : KMember :=
  let seed := s.nat (Key.colSeed c)
  let m := dryOfWet (fadd (s.word (Key.colInitialMoisture c)) (fmul (deviate seed i 0 draw) (s.word (Key.colInitialMoistureSigma c))))
  let t := fadd (s.word (Key.colInitialGrainTemperature c)) (fmul (deviate seed i 1 draw) (s.word (Key.colInitialTemperatureSigma c)))
  { cells := List.replicate (s.nat (Key.colLayers c) * s.nat (Key.colCellsAcross c)) ⟨m, t, wAmb, tAmb⟩, nk := 0, na := 0, nt := 0, nm := 0,
    zeta := deviate seed i 2 draw }

/-- The members brought to the count in force (R328): the first ones kept, or copies added with fresh noise. -/
def fitMembers (seed draw count : Nat) (ms : List KMember) : List KMember :=
  if count ≤ ms.length then ms.take count
  else ms ++ (List.range (count - ms.length)).map (fun j =>
    let i := ms.length + j
    let m := ms.getD (i % ms.length) ⟨[], 0, 0, 0, 0, 0⟩
    { m with nk := deviate seed i 7 draw, na := deviate seed i 8 draw, nt := deviate seed i 9 draw, nm := deviate seed i 10 draw })

/-! ### Assimilation at a step (R311-R316) -/

/-- The age of channel n in ticks. -/
def State.ageTicks (s : State) (n : Nat) : Nat := if h : n < 64 then s.channelAge ⟨n, h⟩ else 0

/-- What matching a past moment gives (R314). -/
inductive Match where
  | tooOld
  | present
  | past (hs : List Word)
deriving DecidableEq, Repr

/-- The kept model values nearest module time t, the earlier on a tie (R314). The history stands newest first. -/
def nearest (t : Int) (b : Nat) (h : List KHistory) : Option (List Word) :=
  let has := h.filter (fun e => e.values.any (fun v => v.1 == b))
  let best := has.foldl (fun (best : Option KHistory) e => match best with
    | none => some e
    | some x => if (t - Int.ofNat e.time).natAbs ≤ (t - Int.ofNat x.time).natAbs then some e else some x) none
  best.bind (fun e => (e.values.find? (fun v => v.1 == b)).map (fun v => v.2))

def KColumn.matchTime (k : KColumn) (initAt now b : Nat) (t : Int) : Match :=
  if t < Int.ofNat now - Int.ofNat (1800 * nsPerSecond) ∨ t < Int.ofNat initAt then .tooOld
  else if Int.ofNat k.lastEnd < t then .present
  else match nearest t b k.history with
    | some hs => .past hs
    | none => .tooOld

/-- The running part of a step's assimilation. -/
structure Pass where
  members  : List KMember
  innov    : Word
  seqs     : List (Nat × Nat)
  nus      : List (Nat × Word)
  accepted : Nat
  rejected : Nat
  tooOld   : Nat
  clamped  : Nat

/-- What a step's assimilation takes from the column. -/
structure PassEnv where
  geo     : KGeometry
  table   : KTable
  shifted : Nat
  /-- Discharge of each member, saved before the shift. -/
  outs    : List (List KCell)
  initAt  : Nat
  start   : Nat

/-- A member's outlet: what the step discharged, or the last layer as it now stands (R311). -/
def PassEnv.outletOf (e : PassEnv) (i : Nat) (m : KMember) : List KCell :=
  if e.shifted = 0 then dischargeOf e.geo 0 m.cells else e.outs.getD i []

/-- The members' present model values of a binding, each with its lookups clamped. -/
def PassEnv.values (e : PassEnv) (b : Binding) (ms : List KMember) : List (Word × Nat) :=
  (List.range ms.length).map (fun i =>
    let m := ms.getD i ⟨[], 0, 0, 0, 0, 0⟩
    modelValue e.geo e.table b (e.outletOf i m) m.cells)

/-- One measurement y of binding b, measured at module time t less the delay, assimilated (R314, R315). -/
def State.passOne (s : State) (c : Fin 4) (e : PassEnv) (bn : Nat) (b : Binding) (matched : Option Int) (y : Word) (p : Pass) : Pass :=
  let k := s.kelsis.columns[c]
  let m := match matched with
    | none => Match.present
    | some t => k.matchTime e.initAt e.start bn t
  let ms := spreadMembers (s.word (Key.colInflation c)) p.members
  let go := fun (hs : List Word) =>
    let ws := weightsOf e.geo (s.nat (Key.colLocalisationHalfWidth c)) (bindingCells e.geo b []).2
    match assimilate ws (s.word (Key.colInnovationGate c)) ms p.innov hs y (s.word (Key.colBindingSigma c bn)) with
    | none => p
    | some r =>
      { p with members := r.members, innov := r.innov, nus := p.nus ++ [(bn, r.nu)],
               accepted := p.accepted + b2n (!r.rejected), rejected := p.rejected + b2n r.rejected }
  match m with
  | .tooOld => { p with tooOld := p.tooOld + 1 }
  | .present =>
    let vs := e.values b ms
    let r := go (vs.map (fun v => v.1))
    { r with clamped := r.clamped + (vs.map (fun v => v.2)).sum }
  | .past hs => go ((List.range p.members.length).map (fun i => hs.getD (i % hs.length) 0))

/-- The column's LAB binding: its lowest-numbered one (R313). -/
def State.labBinding (s : State) (c : Nat) : Option Nat :=
  (List.range 32).find? (fun b => (bindingOf (s.nat (Key.colBindingWord c b))).source == 2)

/-- Binding bn in the pass of a step (R312-R315). -/
def State.passBinding (s : State) (c : Fin 4) (e : PassEnv) (p : Pass) (bn : Nat) : Pass :=
  let b := bindingOf (s.nat (Key.colBindingWord c bn))
  let delay := Int.ofNat (s.nat (Key.colBindingDelay c bn) * nsPerSecond)
  match b.source with
  | 1 =>
    let seq := s.nat (Key.chanResultSequence b.channel)
    if s.nat (Key.chanState b.channel) ≠ 0 ∨ p.seqs.contains (bn, seq) then p
    else
      let p1 := { p with seqs := (bn, seq) :: p.seqs.filter (fun q => q.1 != bn) }
      let t := Int.ofNat e.start - Int.ofNat (s.ageTicks b.channel * 62500) - delay
      s.passOne c e bn b (if delay = 0 then none else some t) (s.word (Key.chanValue b.channel)) p1
  | 2 =>
    if s.labBinding c = some bn then
      ((s.kelsis.columns[c]).labDue e.start).foldl (fun p q => s.passOne c e bn b (some (q.time - delay)) q.value p) p
    else p
  | _ => p

/-! ### KELSIS_STEP_START -/

/-- The members of a column as the step begins. -/
def State.startMembers (s : State) (c : Fin 4) (initial : Bool) (wAmb : Word) : List KMember :=
  let k := s.kelsis.columns[c]
  let count := shedMembers (s.nat (Key.colMembers c)) (s.nat Key.kelsisSheddingStage)
  if initial then (List.range count).map (fun i => s.newMember c k.draws wAmb (k.input 1) i)
  else fitMembers (s.nat (Key.colSeed c)) k.draws count ((k.ens.map (fun e => e.members)).getD [])

/-- The bindings whose model values are kept at a step end: those with a delay, and LAB bindings (R314). -/
def State.keptBindings (s : State) (c : Fin 4) : List Nat :=
  (List.range 32).filter (fun bn =>
    let b := bindingOf (s.nat (Key.colBindingWord c bn))
    b.source == 2 || (b.source == 1 && s.nat (Key.colBindingDelay c bn) != 0))

/-- The work of a step on what it latched (R291): transport, drying pass, replacement, assimilation; `lost` are the members whose state the
LPDDR4 could not correct (R290). -/
def State.stepWork (s : State) (c : Fin 4) (n : Nat) (tab : KTable) (lost : List Nat) : KWork :=
  let k := s.kelsis.columns[c]
  let geo := View.geometry s.get c
  let seed := s.nat (Key.colSeed c)
  let initial := s.mustInitialise c n
  let dt := if initial then s.stepSeconds c else s.stepGap c n
  let dtw := fofNat dt
  let amb := humidityRatio tab (k.input 1) (fdiv (k.input 2) c100)
  let wIn := fadd amb.1 (fdiv (s.word (Key.colAddedHumidity c)) c1000)
  let ms0 := s.startMembers c initial amb.1
  let acc0 := if initial then 0 else (k.ens.map (fun e => e.acc)).getD 0
  let distance := k.distance.getD 0
  let tr := if s.nat (Key.colModelType c) = 3 then (0, acc0, false) else transportStep geo acc0 distance
  let rho := fexp (fdiv (fneg dtw) (fofNat (s.nat (Key.colNoiseTimeConstant c))))
  let idx := List.range ms0.length
  let noisy := idx.map (fun i => (ms0.getD i ⟨[], 0, 0, 0, 0, 0⟩).noisier seed i (k.draws + 1) rho)
  let outs := noisy.map (fun m => dischargeOf geo tr.1 m.cells)
  let dried := noisy.map (fun m =>
    let moved := shiftCells geo tr.1 (s.inflowRow c m amb.1) m.cells
    let flow := fmul (k.input 4) (fmax 0 (fadd c1 (fmul (s.word (Key.colAirflowNoiseSigma c)) m.na)))
    let tin := fadd (k.input 0) (fmul (s.word (Key.colEnteringAirTemperatureNoiseSigma c)) m.nt)
    let r := dryPass geo tab dtw (fexp (fmul (s.word (Key.colKineticsNoiseSigma c)) m.nk)) flow wIn tin moved
    ({ m with cells := r.1 }, r.2))
  let rep := replaceBad (dried.map (fun d => d.1)) lost
  let start := s.stepStart c n
  let env : PassEnv := ⟨geo, tab, tr.1, outs, if initial then start else k.initAt, start⟩
  let seqs0 := (k.ens.map (fun e => e.seqs)).getD []
  let p0 : Pass := ⟨rep.1, if initial then c1 else (k.ens.map (fun e => e.innov)).getD c1, seqs0, [], 0, 0, 0, 0⟩
  let p := if rep.2.2 then p0 else (List.range 32).foldl (fun p b => s.passBinding c env p b) p0
  let q := fmul (fmul (fmul (k.input 4) (fadd (fofRatio 1006 1000) (fmul (fofRatio 186 100) wIn))) (fsub (k.input 0) (k.input 1))) dtw
  let kept := (s.keptBindings c).map (fun bn => (bn, env.values (bindingOf (s.nat (Key.colBindingWord c bn))) p.members))
  { number := n, initial := initial, ens := ⟨p.members, tr.2.1, p.seqs, p.innov⟩, shifted := tr.1, capped := tr.2.2, distance := distance,
    outlet := (List.range p.members.length).map (fun i => env.outletOf i (p.members.getD i ⟨[], 0, 0, 0, 0, 0⟩)),
    heat := q, water := fmean (dried.map (fun d => d.2.1)), dt := dt, nus := p.nus, accepted := p.accepted, rejected := p.rejected,
    tooOld := p.tooOld, clamped := amb.2 + (dried.map (fun d => d.2.2)).sum + p.clamped + (kept.map (fun e => (e.2.map (fun v => v.2)).sum)).sum, replaced := rep.2.1, ruined := rep.2.2,
    lab := if (s.labBinding c).isSome then k.labDue start else [], start := start, shape := s.columnShape c,
    kept := kept.map (fun e => (e.1, e.2.map (fun v => v.1))) }

/-- A step under way ends without a result: an initialisation it was to make stays due. -/
def KColumn.dropWork (k : KColumn) : KColumn := { k with work := none, reinit := if k.work.any (fun w => w.initial) then some 0 else k.reinit }

/-- A step is abandoned (R327): its outputs are held, what it took stays for the next, an overrun is counted and logged. -/
def State.abandonStep (s : State) (c : Fin 4) : State :=
  match (s.kelsis.columns[c]).work with
  | none => s
  | some w =>
    let s1 := s.setColumn c (fun k => { k.dropWork with lab := (w.lab ++ k.lab).drop ((w.lab ++ k.lab).length - 8) })
    let s2 := { s1 with kelsis := { s1.kelsis with overrun := true } }
    ((((s2.putN (Key.colLABQueue c) (s2.kelsis.columns[c]).lab.length).bump 32 (Key.colOverruns c)).bump 32 Key.kelsisOverruns).log 0x0501 c c 0
      (s.nat Key.kelsisSheddingStage)).raiseSource (222 + c.val)

/-- Step n of a column with tables in force: everything is latched, and the work follows from that (R291). -/
def State.beginStep (s : State) (c : Fin 4) (n : Nat) (tab : KTable) (lost : List Nat) : State :=
  let s1 := (List.finRange 8).foldl (fun s (f : Fin 8) => s.latchForcing c f) s
  let s2 := s1.putBit (Key.colStatus c) 6 ((s1.kelsis.columns[c]).held.toList.any (fun h => h.isSome))
  let s3 := (s2.boundaryStep c n).displacementStep c n
  let w := s3.stepWork c n tab lost
  let s4 := s3.setColumn c (fun k => { k with
    work := some w, reinit := k.reinit.filter (fun t => !stepTakes w.start t), draws := k.draws + 2, lab := if w.lab.isEmpty then k.lab else k.labLater w.start })
  s4.putN (Key.colLABQueue c) (s4.kelsis.columns[c]).lab.length

/-- KELSIS_STEP_START of column c (R291): at its zero tables are swapped; a column with no grain type in force does not step (R309). -/
def execKelsisStepStart (k : StepStart) (s : State) : Host.Outcome State Fault Refusal :=
  .next (s.served (fun s => let c := k.column
    let n := s.stepNumber c
    if !(s.flag (Key.colEnable c) && s.kelsisRuns) || (s.kelsis.columns[c]).started == some (s.stepStart c n) then s
    else
      let s0 := ((s.abandonStep c).thermalDemand 1 800).tableStep c
      (match (s0.kelsis.columns[c]).grain.bind (fun g => (s0.kelsis.grains[g]).active) with
       | none => s0
       | some tab => s0.beginStep c n tab k.lost).setColumn c (fun k => { k with started := some (s.stepStart c n) })))

/-! ### FEEDBACK (R356-R358) -/

/-- The predictors' states (R365). -/
abbrev predOff : Nat := 0
abbrev predFeedback : Nat := 1
abbrev predPending : Nat := 2
abbrev predPredictive : Nat := 3

/-- Entry into FEEDBACK with the given reasons (R356). -/
def State.enterFeedback (s : State) (c : Fin 4) (reasons : Nat) : State :=
  let s1 := ((s.putN (Key.predState c) predFeedback).putN (Key.predReasonsAtLastEntry c) reasons).setPredictor c
    (fun p => { p with plan := none })
  ((s1.bump 32 (Key.predFeedbackEntries c)).bump 32 Key.predgFeedbackEntries).log 0x0504 c c reasons

/-- The healthy time has elapsed under AUTO return, and FORCED is not set (R357, R358). -/
def State.autoReturn (s : State) (c : Fin 4) : Bool :=
  s.nat (Key.predState c) == predFeedback && s.nat (Key.predReturnMode c) == 1 && !s.bitOf (Key.predStatus c) 6
    && (s.kelsis.preds[c]).healthy.any (fun t => decide (t + s.nat (Key.predHealthyTime c) * nsPerSecond ≤ s.moduleNs))

/-- RETURN_PENDING falls back to FEEDBACK: the update that was to return does not (R357). -/
def State.fallBack (s : State) (c : Fin 4) : State :=
  (s.putN (Key.predState c) predFeedback).setPredictor c (fun p => { p with update := p.update.map (fun u => { u with returning := false }) })

/-- The reasons of a chain have changed or been evaluated: what that does to its predictor; an entry is made only at a step end of the
predictor's own column (R356, R357). -/
def State.healthSeen (s : State) (entry : Bool) (c : Fin 4) : State :=
  let r := s.maskedReasons c
  let s1 := s.setPredictor c (fun p => { p with healthy := if r = 0 then some (p.healthy.getD s.moduleNs) else none })
  let all := (View.chain s.get c).foldl (fun w k => w ||| s.nat (Key.colHealthReasons k)) 0
  if r ≠ 0 ∧ s.nat (Key.predState c) = predPredictive then (if entry then s1.enterFeedback c all else s1)
  else if r ≠ 0 ∧ s.nat (Key.predState c) = predPending then s1.fallBack c
  else if s1.autoReturn c then s1.putN (Key.predState c) predPending
  else s1

/-- The step end of a column, for one predictor. -/
def State.predictorHealth (s : State) (col c : Fin 4) : State :=
  if s.flag (Key.predEnable c) && (View.chain s.get c).contains col.val then s.healthSeen (col == c) c else s

/-! ### KELSIS_STEP_END -/

/-- A reading of four quantities over members: f of the per-member values of each, in the map's units (R324). -/
def mapCell (f : List Word → Word) (cells : List KCell) : KCell :=
  ⟨f (cells.map (fun c => wetOfDry c.m)), f (cells.map (fun c => c.tg)), f (cells.map (fun c => fmul c.wa c1000)), f (cells.map (fun c => c.ta))⟩

/-- The snapshot of an ensemble (R324). -/
def takeSnapshot (geo : KGeometry) (step member : Nat) (ms : List KMember) : KSnapshot :=
  let at_ := fun i => ms.map (fun m => m.cells.getD i cellZero)
  let idx := List.range (geo.layers * geo.width)
  { step := step, layers := geo.layers, width := geo.width, mean := idx.map (fun i => mapCell fmean (at_ i)),
    sigma := idx.map (fun i => mapCell fsigma (at_ i)),
    member := (ms.getD (min member (ms.length - 1)) ⟨[], 0, 0, 0, 0, 0⟩).cells.map (fun c => mapCell (fun l => l.headD 0) [c]) }

/-- The snapshot asked for is taken at the step end of its column (R324). -/
def State.snapshotAt (s : State) (c : Fin 4) (w : KWork) : State :=
  match s.kelsis.request with
  | some (col, member) =>
    if col = c then
      let p := takeSnapshot (View.geometry s.get c) w.number member w.ens.members
      let s1 := { s with kelsis := { s.kelsis with request := none, snapshot := some p } }
      (((s1.putN Key.mapSnapshotState 2).putN Key.mapSnapshotStep (w.number % 2 ^ 32)).putN Key.mapSnapshotLayers p.layers).putN
        Key.mapSnapshotCells p.width
    else s
  | none => s

/-- The place of the highest mean grain temperature, the first on a tie (R322). -/
def hottest (ts : List Word) : Nat × Word :=
  (List.range ts.length).foldl (fun (b : Nat × Word) i => if flt b.2 (ts.getD i 0) then (i, ts.getD i 0) else b) (0, ts.headD 0)

/-- Publish a step's outputs (R322). -/
def State.publishStep (s : State) (c : Fin 4) (w : KWork) : State :=
  let k := s.kelsis.columns[c]
  let geo := View.geometry s.get c
  let ms := w.outlet.map outletMoisture
  let mean := (List.range (geo.layers * geo.width)).map (fun i => fmean (w.ens.members.map (fun m => (m.cells.getD i cellZero).tg)))
  let hot := hottest mean
  let q := fsum (k.window.map (fun e => e.2.1))
  let m := fsum (k.window.map (fun e => e.2.2))
  let s1 := ((s.putW (Key.colOutletMoisture c) (fmean ms)).putW (Key.colOutletMoistureSigma c) (fsigma ms)).putW (Key.colOutletGrainTemperature c)
    (fmean (w.outlet.map outletTemp))
  let s2 := (s1.putW (Key.colMaximumGrainTemperature c) hot.2).putN (Key.colMaximumLocation c) (16 * (hot.1 / geo.width) + hot.1 % geo.width)
  let s3 := (s2.putW (Key.colHeatPerKgWater c) (if fle m 0 then 0 else fdiv q m)).putW (Key.colWaterRemovalRate c)
    (fdiv (fmul w.water (fofNat 3600)) (fofNat w.dt))
  let s4 := ((s3.putW (Key.colInnovationMean c) w.ens.innov).putN (Key.colLastStep c) (w.number % 2 ^ 32)).bumpWrap (Key.colSteps c)
  let add := fun (s : State) k n => s.putN k (satAdd 32 (s.nat k) n)
  let s5 := add (add (add s4 (Key.colAssimilated c) w.accepted) (Key.colRejected c) w.rejected) (Key.colTooOld c) w.tooOld
  let s6 := (add (add s5 (Key.colMemberReplacements c) w.replaced) (Key.colLookupsClamped c) w.clamped).putN (Key.colMembersInForce c) w.ens.members.length
  (w.nus.foldl (fun s e => s.putW (Key.colBindingLastNu c e.1) e.2) s6).putBit (Key.colStatus c) 7 w.capped

/-- The outputs of a column's completed step are published; the current outputs that take them follow (R291, R419). -/
def State.publishColumn (s : State) (c : Fin 4) : State := match (s.kelsis.columns[c]).publish with
  | some w => ((s.setColumn c (fun k => { k with publish := none })).publishStep c w).serveColumnOutputs c
  | none => s

/-- The outputs of completed steps are published at a dictionary tick (R291). -/
def State.kelsisPublish (s : State) : State := (List.finRange 4).foldl (fun s (c : Fin 4) => s.publishColumn c) s

/-- The reasons of a step end (R301, R303, R316, R320, R321, R328), the table's apart; `mean` is the innovation mean the step leaves. -/
def State.reasonsAt (s : State) (c : Fin 4) (ruined : Bool) (mean : Word) : Nat :=
  let k := s.kelsis.columns[c]
  let now := s.moduleNs
  let old := s.nat (Key.colHealthReasons c)
  let warm := decide (k.initAt + s.nat (Key.colWarmUpTime c) * nsPerSecond ≤ now)
  let lim := s.word (Key.colInnovationLimit c)
  let nd := s.nat (Key.colNoDataTime c)
  let holds := k.held.toList.filterMap id
  let long := holds.any (fun t => decide (t + s.nat (Key.colForcingHoldLimit c) * nsPerSecond < now))
  let stale := decide (5 ≤ s.nat (Key.boundConsecutiveStaleSteps c)) && s.nat (Key.boundFallbackMoistureChannel c) == 0xFF
  b2n (!warm) + 2 * b2n (flt lim mean || (old.testBit kInnovation && flt (fmul (fofRatio 8 10) lim) mean))
    + 4 * b2n (nd != 0 && decide (k.assimAt + nd * nsPerSecond ≤ now))
    + 8 * b2n (old.testBit kBoundary || stale)
    + 16 * b2n (old.testBit kTransport || decide (5 ≤ s.nat (Key.boundConsecutiveHeldTransports c)))
    + 32 * b2n (old.testBit kTableTimeout)
    + 64 * b2n (long || (old.testBit kForcing && !holds.isEmpty))
    + 128 * b2n (ruined || (old.testBit kModelFault && (k.reinit.isSome || !warm)))
    + 256 * b2n (s.nat Key.kelsisSheddingStage == 8)

/-- The fifth stale step's end: the inlet fallback channels, or LOST (R320, R339). -/
def State.staleEnd (s : State) (c : Fin 4) : State :=
  if s.linked c && decide (5 ≤ s.nat (Key.boundConsecutiveStaleSteps c)) then
    (if s.nat (Key.boundFallbackMoistureChannel c) = 0xFF then s.putN (Key.boundLinkState c) 4
     else (s.putN (Key.boundLinkState c) 3).putBit (Key.colStatus c) 4 true)
  else s

/-- Mean and sigma over members of what each cell column discharged (R318). -/
def boundaryValues (width : Nat) (outlet : List (List KCell)) : List (Word × Word × Word × Word) :=
  (List.range width).map (fun k =>
    let l := outlet.map (fun o => o.getD k cellZero)
    (fmean (l.map (fun c => c.m)), fsigma (l.map (fun c => c.m)), fmean (l.map (fun c => c.tg)), fsigma (l.map (fun c => c.tg))))

/-- The downward message of a step end; the upward one is the same without cells (R318). -/
def State.boundaryOf (s : State) (c : Fin 4) (w : KWork) : Boundary :=
  let g := ((s.kelsis.columns[c]).grain.map (fun g => g.val)).getD 0
  { step := w.number, up := false, sending := c, receiving := 0, width := s.nat (Key.colCellsAcross c),
    flags := b2n (s.columnHealthy c) + 2 * b2n (w.shifted == 0) + 4 * b2n w.capped, grain := g, displacement := w.distance,
    period := s.stepSeconds c * 1000, values := boundaryValues (s.nat (Key.colCellsAcross c)) w.outlet }

/-- A completed step enters the column's records. -/
def KColumn.complete (k : KColumn) (w : KWork) (now : Nat) : KColumn :=
  let start := w.start
  let horizon := now - 1800 * nsPerSecond
  { k with
    ens := some w.ens, shape := w.shape, work := none, completed := some w.number, lastEnd := now, doneStart := start, publish := some w,
    initAt := if w.initial then start else k.initAt,
    assimAt := if w.initial || w.accepted != 0 then start else k.assimAt,
    reinit := if w.ruined then some 0 else k.reinit,
    history := (⟨now, w.kept⟩ :: (if w.initial then [] else k.history)).filter (fun e => decide (horizon ≤ e.time)),
    window := (start, w.heat, w.water) :: k.window.filter (fun e => decide (start < e.1 + 600 * nsPerSecond)) }

/-- KELSIS_STEP_END of column c (R291): health and messages now, the outputs at the next dictionary tick. -/
def execKelsisStepEnd (c : Fin 4) (s : State) : Host.Outcome State Fault Refusal :=
  .next (s.served (fun s => match (s.kelsis.columns[c]).work with
    | none => s
    | some w =>
      if !(s.flag (Key.colEnable c) && s.kelsisRuns) then s.setColumn c KColumn.dropWork
      else
        let s1 := (s.publishColumn c).setColumn c (fun k => k.complete w s.moduleNs)
        let s2 := if w.initial then s1.putBit (Key.predStatus c) 3 false else s1
        let s3 := s2.staleEnd c
        let s4 := if w.ruined then s3.log 0x0508 c c else s3
        let s5 := s4.setReasons c (s4.reasonsAt c w.ruined w.ens.innov)
        let b := s5.boundaryOf c w
        let s6 := s5.sendBoundaries c b { b with up := true, width := 0, values := [] }
        let s7 := (List.finRange 4).foldl (fun s (p : Fin 4) => s.predictorHealth c p) s6
        (s7.snapshotAt c w).raiseSource (222 + c.val)))

/-- STEP_DEADLINE: a step still under way at its deadline is abandoned (R327). -/
def execStepDeadline (c : Fin 4) (s : State) : Host.Outcome State Fault Refusal :=
  .next (s.served (fun s => s.abandonStep c))

/-! ### Commands of the dictionary -/

/-- The effect of 0x01 at 0x3010+c:14, committed at tick `t`; an earlier order stands (R292, R330). -/
def State.columnReinitialise (s : State) (c : Fin 4) (t : Nat) : State := s.setColumn c (fun k => { k with reinit := some (k.reinit.getD t) })

/-- COLUMN_REINITIALISE (R292). -/
def execColumnReinitialise (p : Path) (c : Fin 4) (s : State) : Host.Outcome State Fault Refusal :=
  .next (s.commanded p (Key.colReinitialise c) 1 (fun s => s.columnReinitialise c (s.clock.tick + 1)))

/-- The effect of a write to 0x3010+c:55 committed at tick `at_` (R313): the value queues with the timestamp in sub 54, as module time. -/
def State.labSubmit (s : State) (c : Fin 4) (v : Word) (at_ : Nat) : State :=
  let local_ := s.rtc * nsPerSecond + nsOfUnits s.clock.rtcSub
  let t := Int.ofNat (s.nat (Key.colLABTimestamp c) * nsPerSecond) + Int.ofNat s.moduleNs - Int.ofNat local_
  let k := s.kelsis.columns[c]
  let full := k.lab.length = 8
  let s1 := s.setColumn c (fun k => { k with lab := (if full then k.lab.drop 1 else k.lab) ++ [(⟨t, v, at_⟩ : KLab)] })
  let s2 := if full then s1.bump 32 (Key.colTooOld c) else s1
  (s2.putW (Key.colLABValue c) v).putN (Key.colLABQueue c) (s2.kelsis.columns[c]).lab.length

/-- LAB_VALUE_SUBMIT (R313). -/
def execLabValueSubmit (p : Path) (c : Fin 4) (v : Word) (s : State) : Host.Outcome State Fault Refusal :=
  .next (s.commanded p (Key.colLABValue c) v.toNat (fun s => s.labSubmit c (fflush v) (s.clock.tick + 1)))

/-- The effect of 0x01 at 0x3070:05: a snapshot of the selected column and member is wanted (R324, R340). -/
def State.mapSnapshot (s : State) : State :=
  ({ s with kelsis := { s.kelsis with request := some (Fin.ofNat 4 (s.nat Key.mapColumn), s.nat Key.mapMember), snapshot := none } }).putN
    Key.mapSnapshotState 1

/-- MAP_SNAPSHOT (R324). -/
def execMapSnapshot (p : Path) (s : State) : Host.Outcome State Fault Refusal :=
  .next (s.commanded p Key.mapSnapshot 1 (fun s => s.mapSnapshot))

/-- The cells of the snapshot that the statistic selects (R340). -/
def State.mapCells (s : State) : List KCell :=
  match s.kelsis.snapshot with
  | none => []
  | some p => match s.nat Key.mapStatistic with
    | 0 => p.mean
    | 1 => p.sigma
    | _ => p.member

/-- The quantity that is read (R340). -/
def mapQuantity (q : Nat) (c : KCell) : Word := match q with
  | 0 => c.m
  | 1 => c.tg
  | 2 => c.wa
  | _ => c.ta

/-- Cell i of the cursor's layer; at W or above 0.0 (R340). -/
def State.mapCellValue (s : State) (i : Nat) : Word :=
  let w := s.nat Key.mapSnapshotCells
  if i < w then mapQuantity (s.nat Key.mapQuantity) (s.mapCells.getD (s.nat Key.mapLayerCursor * w + i) cellZero) else 0

/-- The map as one DOM: L * W binary32 values, layer by layer (R340). -/
def State.mapBytes (s : State) : List Byte :=
  (s.mapCells.map (fun c => leBytes 4 (mapQuantity (s.nat Key.mapQuantity) c).toNat)).flatten

/-- The cursor moves on, wrapping after L - 1. -/
def State.mapAdvance (s : State) : State :=
  s.putN Key.mapLayerCursor (if s.nat Key.mapLayerCursor + 1 < s.nat Key.mapSnapshotLayers then s.nat Key.mapLayerCursor + 1 else 0)

/-- MAP_CELL_READ: cell W - 1 of the window is read; the cursor advances. Refused while no snapshot is READY (R324, R340). -/
def execMapCellRead (p : Path) (s : State) : Host.Outcome State Fault Refusal :=
  .next (s.served (fun s =>
    let i := s.nat Key.mapSnapshotCells - 1
    match s.checkRead (Key.mapCell i) with
    | .error e => (s.touch p).refuse p e
    | .ok _ => (((s.touch p).answer p (.value (Int.ofNat (s.mapCellValue i).toNat)))).mapAdvance))

/-- The effects of the three clears (R332, R334). -/
def State.kelsisCountersClear (s : State) : State := s.zero [Key.kelsisOverruns, Key.kelsisStageChanges]
def State.columnStatsClear (s : State) (c : Nat) : State :=
  s.zero [Key.colOverruns c, Key.colAssimilated c, Key.colRejected c, Key.colTooOld c, Key.colMemberReplacements c, Key.colLookupsClamped c]

/-- KELSIS_COUNTERS_CLEAR (R332). -/
def execKelsisCountersClear (p : Path) (s : State) : Host.Outcome State Fault Refusal :=
  .next (s.commanded p Key.kelsisClearCounters 1 (fun s => s.kelsisCountersClear))

/-- COLUMN_STATISTICS_CLEAR (R334). -/
def execColumnStatisticsClear (p : Path) (c : Fin 4) (s : State) : Host.Outcome State Fault Refusal :=
  .next (s.commanded p (Key.colClearStatistics c) 1 (fun s => s.columnStatsClear c))

/-! ### Hooks of other blocks -/

/-- A commit to a grain type's values 02-0E, a column's grain type or its enable (R308). -/
def State.grainWritten (s : State) (key : Nat) : State :=
  let idx := key / 256
  let sub := key % 256
  if 0x3040 ≤ idx ∧ idx ≤ 0x304F ∧ 2 ≤ sub ∧ sub ≤ 0x0E then s.triggerBuild (Fin.ofNat 16 (idx - 0x3040))
  else if 0x3010 ≤ idx ∧ idx ≤ 0x3013 ∧ sub = 7 then s.triggerBuild (s.grainOf (idx - 0x3010))
  else s

/-- A column's enable has changed: a disabled one has no step under way. -/
def State.columnConfigured (s : State) (c : Fin 4) : State :=
  if s.flag (Key.colEnable c) then s else (s.setColumn c (fun k => { k.dropWork with down := none, up := none })).putN (Key.boundLinkState c) 0

/-- Steps and updates stop: STOPPED, INIT, Kindling mode, shutdown (R292, R609). -/
def State.kelsisHalt (s : State) : State :=
  let s1 := (List.finRange 4).foldl (fun s (c : Fin 4) => s.setColumn c KColumn.dropWork) s
  (List.finRange 4).foldl (fun s (c : Fin 4) => s.setPredictor c (fun p => { p with update := none })) s1

end Sys2Proof.Machine
end

