-- ==== Sys2Proof/Machine/Predictor.lean ====
section
/-! DEFINITION. The predictive controller (R341-R366): the simulation of a plan, candidates, cost and choice, hand-over, BATCH and
BIN, FEEDBACK commands, and the shedding evaluation (R328, R329). -/

namespace Sys2Proof.Machine

open Sys2Proof

/-! ### The simulation of one plan for one member (R345, R346) -/

/-- What drives a simulated horizon: per prediction step the displacement speed in m/h and the entering air temperature (none:
each column's latched input 0), and the air flow where the plan governs it. -/
structure Drive where
  qs   : List Word
  ts   : Option (List Word)
  flow : Option (List Word)

/-- What a member predicts: outlet and bed moisture of column c per step (% w.b.), the highest grain temperature, whether a cell
exceeded its limit, and the heat in MJ. -/
structure Predicted where
  outs : List Word
  beds : List Word
  hot  : Word
  beyond : Bool
  heat : Word
  /-- Lookups clamped, per chain column (R304). -/
  clamps : List Nat
deriving DecidableEq, Repr

/-- A simulated column between two prediction steps: grid, accumulator, what it last discharged. -/
structure SimColumn where
  cells : List KCell
  acc   : Word
  out   : List KCell

/-- The latched value of a chain column's forcing input. -/
def KChain.input (ch : KChain) (f : Nat) : Word := ch.forcing.getD f 0

/-- Humidity ratios of a chain column: ambient and entering (R300); and the lookups clamped. -/
def KChain.humidity (ch : KChain) (w : View) : Word × Word × Nat :=
  let amb := humidityRatio ch.table (ch.input 1) (fdiv (ch.input 2) c100)
  (amb.1, fadd amb.1 (fdiv (w.f32 (Key.colAddedHumidity ch.col)) c1000), amb.2)

/-- Lookups clamped, per chain column, in two parts of a simulation. -/
def addClamps (a b : List Nat) : List Nat := List.zipWith (fun x y => x + y) a b

/-- The inflow row at the top of the chain (R341). -/
def KChain.inflow (ch : KChain) (w : View) (m : KMember) (wAmb : Word) : List KCell :=
  let n := w.nat (Key.colCellsAcross ch.col)
  match ch.boundary with
  | some vs => vs.map (fun v => ⟨fadd v.1 (fmul m.zeta v.2.1), fadd v.2.2.1 (fmul m.zeta v.2.2.2), wAmb, ch.input 1⟩)
  | none =>
    List.replicate n ⟨dryOfWet (fadd (ch.input 6) (fmul (w.f32 (Key.colInletMoistureNoiseSigma ch.col)) m.nm)), ch.input 7, wAmb, ch.input 1⟩

/-- One prediction step of one column: its new grid, the heat of its entering air in MJ, the lookups clamped. -/
def simStep (w : View) (ch : KChain) (m : KMember) (inflow : List KCell) (tu : Word) (q : Word) (t flow : Word) (c : SimColumn) :
    SimColumn × Word × Nat :=
  let geo := View.geometry w ch.col
  let hum := ch.humidity w
  let tr := if geo.model = 3 then (0, c.acc, false) else transportStep geo c.acc (fmul (fdiv q (fofNat 3600)) tu)
  let out := dischargeOf geo tr.1 c.cells
  let fl := fmul flow (fmax 0 (fadd c1 (fmul (w.f32 (Key.colAirflowNoiseSigma ch.col)) m.na)))
  let tin := fadd t (fmul (w.f32 (Key.colEnteringAirTemperatureNoiseSigma ch.col)) m.nt)
  let kin := fexp (fmul (w.f32 (Key.colKineticsNoiseSigma ch.col)) m.nk)
  let r := dryPass geo ch.table tu kin fl hum.2.1 tin (shiftCells geo tr.1 inflow c.cells)
  let heat := fdiv (fmul (fmul (fmul fl (fadd (fofRatio 1006 1000) (fmul (fofRatio 186 100) hum.2.1))) (fsub tin (ch.input 1))) tu) c1000
  ({ cells := r.1, acc := tr.2.1, out := if tr.1 = 0 then dischargeOf geo 0 r.1 else out }, heat, hum.2.2 + r.2.2)

/-- One prediction step of a whole chain (c first): each column takes what its upper neighbour discharged in the step before
(R317, log 61). -/
def simChain (w : View) (chain : List KChain) (ms : List KMember) (tu q : Word) (t : Option Word) (flow : Option Word) (cs : List SimColumn) :
    List SimColumn × Word × List Nat :=
  let r := (List.range chain.length).map (fun i =>
    match chain[i]?, cs[i]? with
    | some ch, some c =>
      let m := ms.getD i ⟨[], 0, 0, 0, 0, 0⟩
      let hum := ch.humidity w
      let inflow := match cs[i + 1]? with
        | some up => up.out.map (fun (x : KCell) => (⟨x.m, x.tg, hum.1, ch.input 1⟩ : KCell))
        | none => ch.inflow w m hum.1
      simStep w ch m inflow tu q (t.getD (ch.input 0)) (flow.getD (ch.input 4)) c
    | _, _ => (⟨[], 0, []⟩, 0, 0))
  (r.map (fun x => x.1), fsum (r.map (fun x => x.2.1)), r.map (fun x => x.2.2))

/-- A cell of the chain stands above its column's limit (R352). -/
def exceeds (w : View) (chain : List KChain) (cs : List SimColumn) : Bool :=
  (List.range chain.length).any (fun i => match chain[i]?, cs[i]? with
    | some ch, some c => c.cells.any (fun x => flt (w.f32 (Key.grainGrainTemperatureLimit ch.grain)) x.tg)
    | _, _ => false)

/-- The highest grain temperature of the chain. -/
def hottestOf (cs : List SimColumn) (t : Word) : Word := cs.foldl (fun t c => c.cells.foldl (fun t x => fmax t x.tg) t) t

/-- The steps of the horizon from step `k` on, `fuel` of them. -/
def simFrom (w : View) (chain : List KChain) (ms : List KMember) (tu : Word) (d : Drive) : Nat → Nat → List SimColumn → Predicted → Predicted
  | 0, _, _, p => p
  | n + 1, k, cs, p =>
    let r := simChain w chain ms tu (d.qs.getD k 0) (d.ts.map (fun l => l.getD k 0)) (d.flow.map (fun l => l.getD k 0)) cs
    let c := r.1.headD ⟨[], 0, []⟩
    simFrom w chain ms tu d n (k + 1) r.1
      { outs := p.outs ++ [outletMoisture c.out], beds := p.beds ++ [fmean (c.cells.map (fun x => wetOfDry x.m))], hot := hottestOf r.1 p.hot,
        beyond := p.beyond || exceeds w chain r.1, heat := fadd p.heat r.2.1, clamps := addClamps p.clamps r.2.2 }

/-- Sub-ensemble member j of every chain column: ensemble member j * (m / m_sub) (R345). -/
def subMembers (chain : List KChain) (msub j : Nat) : List KMember :=
  chain.map (fun ch => ch.members.getD (j * (ch.members.length / msub)) ⟨[], 0, 0, 0, 0, 0⟩)

/-- The prediction of every sub-ensemble member. -/
def simulate (u : KUpdate) (w : View) (msub nh : Nat) (tu : Word) (d : Drive) : List Predicted :=
  (List.range msub).map (fun j =>
    let ms := subMembers u.chain msub j
    let cs := List.zipWith (fun (ch : KChain) (m : KMember) =>
      (⟨m.cells, ch.acc, dischargeOf (View.geometry w ch.col) 0 m.cells⟩ : SimColumn)) u.chain ms
    simFrom w u.chain ms tu d nh 0 cs ⟨[], [], fofInt (-1000), false, 0, u.chain.map (fun _ => 0)⟩)

/-- The lookups clamped over the members of a simulation. -/
def clampsOf (u : KUpdate) (l : List Predicted) : List Nat := (l.map (fun p => p.clamps)).foldl addClamps (u.chain.map (fun _ => 0))

/-- Clamped lookups counted in the columns of the chain (R304). -/
def State.countClamps (s : State) (u : KUpdate) (l : List Nat) : State :=
  (u.chain.zip l).foldl (fun s e => s.putN (Key.colLookupsClamped e.1.col) (satAdd 32 (s.nat (Key.colLookupsClamped e.1.col)) e.2)) s

/-! ### Candidates (R348-R350) -/

/-- A plan: (q, T) of the three blocks. -/
abbrev Plan := List (Word × Word)

/-- The planning data of an update as latched (R344). -/
structure Planning where
  w    : View
  c    : Nat
  nh   : Nat
  b2   : Nat
  msub : Nat
  tu   : Word
  q0   : Word
  t0   : Word
  hasQ : Bool
  hasT : Bool

/-- A Q15 setpoint in the unit of its span (R348). -/
def spanValue (lo hi : Word) (q : Int) : Word := fadd lo (fmul (fofRatio q 32768) (fsub hi lo))

def KUpdate.view (u : KUpdate) : View := fun k => readKey objDefault u.obj k

def planningOf (u : KUpdate) (c : Nat) : Planning :=
  let w := u.view
  let n := View.horizon w c u.stage
  let b2 := w.nat (Key.predBlock2End c)
  let hasQ := (loopFin (w.nat (Key.predDischargeLoop c))).isSome
  let hasT := (loopFin (w.nat (Key.predPlenumLoop c))).isSome
  let top := u.chain.headD ⟨0, 0, [], 0, ⟨[], [], [], 0, 0, 0, 0, 0⟩, [], none⟩
  { w := w, c := c, nh := n, b2 := if u.stage < 5 then b2 else min (max 2 (b2 / 2)) (n - 1), msub := View.subEnsemble w c u.stage,
    tu := fofNat (w.nat (Key.predUpdateInterval c)),
    q0 := if hasQ then spanValue (w.f32 (Key.predDischargeSpanLow c)) (w.f32 (Key.predDischargeSpanHigh c)) u.spQ
          else fmul (top.input 5) (fofNat 3600),
    t0 := if hasT then spanValue (w.f32 (Key.predTemperatureSpanLow c)) (w.f32 (Key.predTemperatureSpanHigh c)) u.spT else top.input 0,
    hasQ := hasQ, hasT := hasT }

/-- A value moved by a step and clamped (R349); a role with no loop keeps its value (R346, R350). -/
def Planning.moveQ (g : Planning) (q d : Word) : Word :=
  if g.hasQ then fclamp (g.w.f32 (Key.predDischargeMinimum g.c)) (g.w.f32 (Key.predDischargeMaximum g.c)) (fadd q d) else g.q0
def Planning.moveT (g : Planning) (t d : Word) : Word :=
  if g.hasT then fclamp (g.w.f32 (Key.predTemperatureMinimum g.c)) (g.w.f32 (Key.predTemperatureMaximum g.c)) (fadd t d) else g.t0

def Planning.u0 (g : Planning) : Word × Word := (g.moveQ g.q0 0, g.moveT g.t0 0)

/-- The operating point moved by the increments (dq, dT), each value clamped (R349). -/
def Planning.moved (g : Planning) (d : Word × Word) : Word × Word := (g.moveQ g.q0 d.1, g.moveT g.t0 d.2)

/-- The increments (dq, dT) of the grid candidates in the order of their numbers (R349). -/
def Planning.grid (g : Planning) (small : Bool) : List (Word × Word) :=
  let is : List Int := if small then [1, 2, 3] else [0, 1, 2, 3, 4]
  let dq := g.w.f32 (Key.predDischargeGridStep g.c)
  let dt := g.w.f32 (Key.predTemperatureGridStep g.c)
  is.flatMap (fun iq => is.map (fun it => (fmul (fofInt (iq - 2)) dq, fmul (fofInt (it - 2)) dt)))

/-- One value in all blocks. -/
def evenly (y : Word × Word) : Plan := [y, y, y]

/-- The seven refinement candidates around the grid candidate g* with the increments `d` (R350). -/
def Planning.refine (g : Planning) (d : Word × Word) (carry : Option Plan) : List Plan :=
  let x := g.moved d
  let half := fofRatio 1 2
  let hq := fmul (g.w.f32 (Key.predDischargeGridStep g.c)) half
  let ht := fmul (g.w.f32 (Key.predTemperatureGridStep g.c)) half
  let clampAll := fun (p : Plan) => p.map (fun y => (g.moveQ y.1 0, g.moveT y.2 0))
  [evenly (g.moved (fadd d.1 hq, d.2)), evenly (g.moved (fsub d.1 hq, d.2)), evenly (g.moved (d.1, fadd d.2 ht)),
   evenly (g.moved (d.1, fsub d.2 ht)), [x, g.u0, g.u0], [g.u0, x, x],
   clampAll (match carry with
     | some p => [p.getD 1 g.u0, p.getD 2 g.u0, p.getD 2 g.u0]
     | none => evenly g.u0)]

/-- The block of prediction step k (from 0): step 1, steps 2 to b2, the rest (R348). -/
def Planning.block (g : Planning) (k : Nat) : Nat := if k = 0 then 0 else if k + 1 ≤ g.b2 then 1 else 2

/-- A quantity following its plan through the lag of R346, over the horizon. -/
def lagged (tau : Nat) (tu : Word) (targets : List Word) (x0 : Word) : List Word :=
  let e := fexp (fdiv (fneg tu) (fofNat tau))
  (targets.foldl (fun (acc : List Word × Word) t =>
    let x := if tau = 0 then t else fadd t (fmul (fsub acc.2 t) e)
    (acc.1 ++ [x], x)) ([], x0)).1

/-- The latched operating values the lags start from: input 5 in m/h and input 0 (R346). -/
def Planning.drive (g : Planning) (u : KUpdate) (p : Plan) : Drive :=
  let top := u.chain.headD ⟨0, 0, [], 0, ⟨[], [], [], 0, 0, 0, 0, 0⟩, [], none⟩
  let at_ := fun k => p.getD (g.block k) g.u0
  let steps := List.range g.nh
  let q := fmul (top.input 5) (fofNat 3600)
  { qs := if g.hasQ then lagged (g.w.nat (Key.predDischargeResponseTime g.c)) g.tu (steps.map (fun k => (at_ k).1)) q else steps.map (fun _ => q)
    ts := if g.hasT then some (lagged (g.w.nat (Key.predPlenumResponseTime g.c)) g.tu (steps.map (fun k => (at_ k).2)) (top.input 0)) else none
    flow := none }

/-! ### Cost and choice (R351-R353) -/

/-- A candidate evaluated. -/
structure Candidate where
  plan  : Plan
  cost  : Word
  heat  : Word
  bad   : Bool
  hot   : Word
  last  : Word
  sigma : Word
  clamps : List Nat
deriving DecidableEq, Repr

/-- Mean and sigma over members of a series at step k. -/
def statAt (l : List (List Word)) (k : Nat) : Word × Word :=
  let xs := l.map (fun s => s.getD k 0)
  (fmean xs, fsigma xs)

/-- (1 / n) * sum over steps of (mean + kappa * sigma - target)^2. -/
def meanSquare (n : Nat) (kappa target : Word) (series : List (List Word)) : Word :=
  let terms := (List.range n).map (fun k =>
    let s := statAt series k
    let e := fsub (fadd s.1 (fmul kappa s.2)) target
    fmul e e)
  fmul (fdiv c1 (fofNat n)) (fsum terms)

/-- The squared moves between blocks, from the operating point on. -/
def moveSquares (x0 : Word) (xs : List Word) : Word :=
  fsum (List.zipWith (fun a b => let d := fsub b a; fmul d d) (x0 :: xs) xs)

/-- Evaluate one plan (R351, R352). -/
def Planning.evaluate (g : Planning) (u : KUpdate) (p : Plan) : Candidate :=
  let r := simulate u g.w g.msub g.nh g.tu (g.drive u p)
  let outs := r.map (fun x => x.outs)
  let heat := fmean (r.map (fun x => x.heat))
  let f := fun k => g.w.f32 k
  let j1 := fmul (f (Key.predMoistureWeight g.c)) (meanSquare g.nh (f (Key.predRiskWeight g.c)) (f (Key.predMoistureTarget g.c)) outs)
  let j2 := fadd j1 (fmul (f (Key.predHeatWeight g.c)) heat)
  let j3 := fadd j2 (fmul (f (Key.predDischargeMoveWeight g.c)) (moveSquares g.q0 (p.map (fun x => x.1))))
  let j4 := fadd j3 (fmul (f (Key.predTemperatureMoveWeight g.c)) (moveSquares g.t0 (p.map (fun x => x.2))))
  let s := statAt outs (g.nh - 1)
  { plan := p, cost := j4, heat := heat, bad := r.any (fun x => x.beyond), hot := (r.map (fun x => x.hot)).foldl fmax (fofInt (-1000)), last := s.1,
    sigma := s.2, clamps := clampsOf u r }

/-- The index of the least value, the first on a tie. -/
def leastBy (f : Candidate → Word) (l : List (Nat × Candidate)) : Option (Nat × Candidate) :=
  l.foldl (fun best x => match best with
    | none => some x
    | some b => if flt (f x.2) (f b.2) then some x else some b) none

/-- The choice: lowest cost of those not discarded, else least heat (R352, R353). -/
def choose (l : List (Nat × Candidate)) : Option (Nat × Candidate) :=
  match leastBy (fun x => x.cost) (l.filter (fun x => !x.2.bad)) with
  | some x => some x
  | none => leastBy (fun x => x.heat) l

/-- Every candidate of a CONTINUOUS update, numbered, evaluated (R349, R350). -/
def evaluateAll (u : KUpdate) (c : Nat) (carry : Option Plan) : List (Nat × Candidate) :=
  let g := planningOf u c
  let number := fun (base : Nat) (l : List Plan) => (List.range l.length).map (fun i => (base + i, g.evaluate u (l.getD i [])))
  let grid := g.grid (decide (4 ≤ u.stage))
  let first := number 0 (grid.map (fun d => evenly (g.moved d)))
  let star := ((choose first).map (fun x => grid.getD x.1 (0, 0))).getD (0, 0)
  first ++ number grid.length (g.refine star carry)

/-- The 128 bytes of 0x3110+c:45: J by number, plus infinity for discarded and absent candidates (R365). -/
def costBytes (l : List (Nat × Candidate)) : List Byte :=
  ((List.range 32).map (fun i =>
    let w : Word := match l.find? (fun x => x.1 == i) with
      | some x => if x.2.bad then 0x7F800000 else x.2.cost
      | none => 0x7F800000
    leBytes 4 w.toNat)).flatten

/-! ### Hand-over (R354, R361, R363) -/

/-- A value as a Q15 in its span, in binary32, to nearest with ties away (R354). -/
def kelsisQ15 (v lo hi : Word) : Int := clampInt (-32768) 32767 (fround (fdiv (fmul (fofNat 32768) (fsub v lo)) (fsub hi lo)))

/-- The bound loop still takes its setpoint from KELSIS c (R342, R363). -/
def State.bindingValid (s : State) (c : Nat) (l : Fin 64) : Bool :=
  s.nat (Key.loopSPSourceType l) == 9 && s.nat (Key.loopSPSourceNumber l) == c

/-- The loops an update binds, as latched at its start (R344, R362): discharge, plenum. -/
def KUpdate.bound (u : KUpdate) (c : Nat) : List (Fin 64) :=
  [u.view.nat (Key.predDischargeLoop c), u.view.nat (Key.predPlenumLoop c)].filterMap loopFin

/-- BINDING_FAULT as an update finds it: 0x050A for each loop no longer bound, when the bit was clear (R363). -/
def State.checkBindings (s : State) (c : Fin 4) (u : KUpdate) : State :=
  let broken := (u.bound c).filter (fun (l : Fin 64) => !s.bindingValid c l)
  let was := s.bitOf (Key.predStatus c) 7
  let s1 := s.putBit (Key.predStatus c) 7 (!broken.isEmpty)
  if was then s1 else broken.foldl (fun s (l : Fin 64) => s.log 0x050A c c l) s1

/-- Give the loop a role names, as the update latched it (R362), its setpoint, when its SP source is still KELSIS c. -/
def State.handRole (s : State) (c : Fin 4) (loop : Nat) (v : Int) : State :=
  match loopFin loop with
  | some l => if s.bindingValid c l then s.kelsisHandover l v else s
  | none => s

/-- What an update reports of its chosen candidate (R365). -/
def State.reportChoice (s : State) (c : Fin 4) (i : Nat) (x : Candidate) : State :=
  let s1 := (s.putN (Key.predChosenCandidate c) i).putW (Key.predChosenCost c) x.cost
  let s2 := (List.range 3).foldl (fun s b =>
    let y := x.plan.getD b (0, 0)
    (s.putW (Key.predPlan c (2 * b)) y.1).putW (Key.predPlan c (2 * b + 1)) y.2) s1
  ((s2.putW (Key.predPredictedOutletMoisture c) x.last).putW (Key.predPredictedOutletSigma c) x.sigma).putW
    (Key.predPredictedMaximumGrainTemperature c) x.hot

/-- The returning update completes: back to PREDICTIVE (R357). -/
def State.takeReturn (s : State) (c : Fin 4) (u : KUpdate) : State :=
  if s.nat (Key.predState c) = predPending ∧ u.returning then
    ((s.putN (Key.predState c) predPredictive).setPredictor c (fun p => { p with plan := none })).log 0x050B c c
  else s

/-- A CONTINUOUS update's end (R352-R354). -/
def State.finishContinuous (s : State) (c : Fin 4) (u : KUpdate) : State :=
  let carry := (s.kelsis.preds[c]).plan
  let all := evaluateAll u c carry
  match choose all with
  | none => s
  | some (i, x) =>
    let lost := (all.filter (fun y => y.2.bad)).length
    let counted := all.foldl (fun s y => s.countClamps u y.2.clamps) s
    let s1 := (((counted.reportChoice c i x).putBlock (Key.predCandidateCosts c) (costBytes all)).putN (Key.predDiscardedCandidates c) lost)
    let every := lost = all.length
    let s2 := if every ∧ s1.bitOf (Key.predStatus c) 2 = false then s1.log 0x0509 c c 0 x.hot.toNat else s1
    let s3 := ((s2.putBit (Key.predStatus c) 2 every).checkBindings c u).takeReturn c u
    if s3.nat (Key.predState c) = predPredictive then
      let w := u.view
      let y := x.plan.headD (0, 0)
      let s4 := s3.handRole c (w.nat (Key.predDischargeLoop c))
        (kelsisQ15 y.1 (w.f32 (Key.predDischargeSpanLow c)) (w.f32 (Key.predDischargeSpanHigh c)))
      let s5 := s4.handRole c (w.nat (Key.predPlenumLoop c))
        (kelsisQ15 y.2 (w.f32 (Key.predTemperatureSpanLow c)) (w.f32 (Key.predTemperatureSpanHigh c)))
      (s5.setPredictor c (fun p => { p with plan := some x.plan })).raiseSource (226 + c.val)
    else s3

/-! ### BATCH (R359) -/

/-- Bed moisture of the sub-ensemble at step k: mean plus kappa times sigma. -/
def bedAt (kappa : Word) (beds : List (List Word)) (k : Nat) : Word :=
  let s := statAt beds k
  fadd s.1 (fmul kappa s.2)

/-- The time in s at which the bed first reaches the target, interpolated between step ends; none beyond the horizon. -/
def State.timeToTarget (s : State) (tu nh : Nat) (target start : Word) (bed : Nat → Word) : Option Int × State :=
  if fle start target then (some 0, s)
  else match (List.range nh).find? (fun k => fle (bed k) target) with
    | none => (none, s)
    | some k =>
      let before := ratioOf (if k = 0 then start else bed (k - 1))
      let after := ratioOf (bed k)
      let t := ratioOf target
      -- (before - target) / (before - after), over the common denominator
      let n := (before.1 * Int.ofNat t.2 - t.1 * Int.ofNat before.2) * Int.ofNat after.2
      let d := ((before.1 * Int.ofNat after.2 - after.1 * Int.ofNat before.2) * Int.ofNat t.2).toNat
      let r := s.freeRound (Int.ofNat tu * (Int.ofNat k * Int.ofNat d + n)) d
      (some r.1, r.2)

/-- A BATCH update's end (R359). -/
def State.finishBatch (s : State) (c : Fin 4) (u : KUpdate) : State :=
  let g := planningOf u c
  let w := g.w
  let tu := w.nat (Key.predUpdateInterval c)
  let kappa := w.f32 (Key.predRiskWeight c)
  let target := w.f32 (Key.predMoistureTarget c)
  let still := List.replicate g.nh (0 : Word)
  let cool := min (divUp (w.nat (Key.predCoolingTime c)) tu) g.nh
  let top := u.chain.headD ⟨0, 0, [], 0, ⟨[], [], [], 0, 0, 0, 0, 0⟩, [], none⟩
  let hot := simulate u w g.msub g.nh g.tu ⟨still, none, none⟩
  let cold := simulate u w g.msub cool g.tu ⟨still, some (List.replicate cool (top.input 1)), none⟩
  let heat := hot.map (fun x => x.beds)
  let ending := cold.map (fun x => x.beds)
  let now := (List.range g.msub).map (fun j => (subMembers u.chain g.msub j).head?.map (fun m => fmean (m.cells.map (fun x => wetOfDry x.m))))
  let nows := now.map (fun x => [x.getD 0])
  let t := ((s.countClamps u (clampsOf u hot)).countClamps u (clampsOf u cold)).timeToTarget tu g.nh target (bedAt kappa nows 0) (bedAt kappa heat)
  let s1 := (t.2.put (Key.predTimeToTarget c) (t.1.getD 0xFFFFFFFF)).putBit (Key.predStatus c) 4 t.1.isNone
  let s2 := ((s1.putN (Key.predChosenCandidate c) 0xFF).putBlock (Key.predCandidateCosts c) (costBytes [])).takeReturn c u
  if fle (bedAt kappa ending (cool - 1)) target ∧ s2.bitOf (Key.predStatus c) 3 = false then
    (s2.putBit (Key.predStatus c) 3 true).raiseSource (226 + c.val)
  else s2

/-! ### BIN (R360) -/

/-- Cost of a BIN candidate: the fan's energy in MJ with it on. -/
def binCost (w : View) (c nh : Nat) (beds : List (List Word)) (energy : Word) : Word :=
  let sq := fsum ((List.range nh).map (fun k =>
    let e := fsub (bedAt (w.f32 (Key.predRiskWeight c)) beds k) (w.f32 (Key.predMoistureTarget c))
    fmul e e))
  fadd (fmul (w.f32 (Key.predMoistureWeight c)) (fmul (fdiv c1 (fofNat nh)) sq)) (fmul (w.f32 (Key.predHeatWeight c)) energy)

/-- A BIN update's end: the decision, then the fan value handed over (R360). -/
def State.finishBin (s : State) (c : Fin 4) (u : KUpdate) : State :=
  let g := planningOf u c
  let w := g.w
  let top := u.chain.headD ⟨0, 0, [], 0, ⟨[], [], [], 0, 0, 0, 0, 0⟩, [], none⟩
  let still := List.replicate g.nh (0 : Word)
  let warm := fadd (top.input 1) (w.f32 (Key.predFanTemperatureRise c))
  let blown := simulate u w g.msub g.nh g.tu
    ⟨still, some (List.replicate g.nh warm), some (List.replicate g.nh (w.f32 (Key.predFanAirflow c)))⟩
  let calm := simulate u w g.msub g.nh g.tu ⟨still, none, some still⟩
  let on := blown.map (fun x => x.beds)
  let off := calm.map (fun x => x.beds)
  let seconds := fofNat (g.nh * w.nat (Key.predUpdateInterval c))
  let jOn := binCost w c g.nh on (fdiv (fmul (w.f32 (Key.predFanPower c)) seconds) c1000)
  let jOff := binCost w c g.nh off 0
  let s1 := ((((s.countClamps u (clampsOf u blown)).countClamps u (clampsOf u calm))).checkBindings c u).takeReturn c u
  let isOn := s1.bitOf (Key.predStatus c) 5
  let hyst := w.f32 (Key.predBINHysteresis c)
  let cheaper := if isOn then flt (fadd jOff hyst) jOn else flt (fadd jOn hyst) jOff
  let due := !(s1.kelsis.preds[c]).changedAt.any (fun t => decide (u.start < t + w.nat (Key.predMinimumWindow c) * nsPerSecond))
  let change := cheaper && due && s1.nat (Key.predState c) == predPredictive
  let s2 := if change then
      ((s1.putBit (Key.predStatus c) 5 (!isOn)).setPredictor c (fun p => { p with changedAt := some u.start, changes := p.changes + 1 })).raiseSource
        (226 + c.val)
    else s1
  let onNow := s2.bitOf (Key.predStatus c) 5
  let mk := fun (j : Word) => (⟨[], j, 0, false, 0, 0, 0, []⟩ : Candidate)
  let s3 := (s2.putN (Key.predChosenCandidate c) (if onNow then 0 else 1)).putW (Key.predChosenCost c) (if onNow then jOn else jOff)
  let s4 := s3.putBlock (Key.predCandidateCosts c) (costBytes [(0, mk jOn), (1, mk jOff)])
  if s4.nat (Key.predState c) = predPredictive then
    (s4.handRole c (w.nat (Key.predDischargeLoop c)) (if onNow then w (Key.predFanOnValue c) else 0)).raiseSource (226 + c.val)
  else s4

/-! ### Updates (R344, R347) -/

/-- An update abandoned: an overrun, counted and logged (R327, R347). -/
def State.abandonUpdate (s : State) (c : Fin 4) : State :=
  match (s.kelsis.preds[c]).update with
  | none => s
  | some _ =>
    let s1 := s.setPredictor c (fun p => { p with update := none })
    let s2 := { s1 with kelsis := { s1.kelsis with overrun := true } }
    (((s2.bump 32 (Key.predAbandonedUpdates c)).bump 32 Key.predgAbandonedUpdates).bump 32 Key.kelsisOverruns).log 0x0501 c 0xFF 1
      (s.nat Key.kelsisSheddingStage)

/-- What an update latches of a chain column (R343, R344); none while it has no ensemble or tables. -/
def State.latchChain (s : State) (c : Fin 4) : Option KChain :=
  let k := s.kelsis.columns[c]
  match k.ens, k.grain.bind (fun g => ((s.kelsis.grains[g]).active).map (fun t => (g, t))) with
  | some e, some (g, t) =>
    let speed := if s.nat (Key.colForcingSource c 5) / 256 = 4 then fdiv (k.distance.getD 0) (fofNat (s.stepSeconds c)) else k.input 5
    let f := fun (i : Fin 8) => if i = 5 then speed else if s.forcingUsed c i then (s.forcing c i).getD (k.input i) else k.input i
    some { col := c, grain := g, members := e.members, acc := e.acc, table := t, forcing := (List.finRange 8).map f,
           boundary := if s.nat (Key.boundUpstreamKind c) = 2 then k.boundary else none }
  | _, _ => none

/-- The sp_eff of a role's loop. -/
def State.roleSetpoint (s : State) (k : Nat) : Int := (loopFin (s.nat k)).elim 0 (fun (l : Fin 64) => (s.loop l).spEff)

/-- The update that starts now, from what it latches; none when a chain column cannot be latched (log 60). -/
def State.latchUpdate (s : State) (c : Fin 4) : Option KUpdate :=
  let cols := View.chain s.get c
  let l := cols.filterMap (fun k => s.latchChain (Fin.ofNat 4 k))
  let n := s.stepNumber c
  if l.length = cols.length then
    some { start := n * s.stepSeconds c * nsPerSecond, number := n, stage := s.nat Key.kelsisSheddingStage,
           returning := s.nat (Key.predState c) == predPending, obj := s.obj, chain := l,
           spQ := s.roleSetpoint (Key.predDischargeLoop c), spT := s.roleSetpoint (Key.predPlenumLoop c) }
  else none

/-- The reasons of a predictor's chain. -/
def State.chainReasons (s : State) (c : Nat) : Nat :=
  (View.chain s.get c).foldl (fun w k => w ||| s.nat (Key.colHealthReasons k)) 0

/-- PREDICTION_UPDATE_START of predictor c: an unfinished update is abandoned; at stage 8 FEEDBACK instead of an update (R344, R355). -/
def execPredictionUpdateStart (c : Fin 4) (s : State) : Host.Outcome State Fault Refusal :=
  .next (s.served (fun s => if !(s.flag (Key.predEnable c) && s.process == psRunning && s.kelsisRuns) then s
    else
      let s1 := s.abandonUpdate c
      if s1.nat Key.kelsisSheddingStage = 8 then
        (if s1.nat (Key.predState c) = predPredictive then s1.enterFeedback c (s1.chainReasons c)
         else if s1.nat (Key.predState c) = predPending then s1.fallBack c else s1)
      else
        let s2 := if s1.autoReturn c then s1.putN (Key.predState c) predPending else s1
        s2.setPredictor c (fun p => { p with update := s2.latchUpdate c })))

/-- PREDICTION_UPDATE_DONE: the plan is chosen, reported and, in PREDICTIVE, handed over (R347, R354). -/
def execPredictionUpdateDone (c : Fin 4) (s : State) : Host.Outcome State Fault Refusal :=
  .next (s.served (fun s => match (s.kelsis.preds[c]).update with
    | none => s
    | some u =>
      let s1 := s.setPredictor c (fun p => { p with update := none })
      if !(s.flag (Key.predEnable c) && s.process == psRunning && s.kelsisRuns) then s1
      else
        let s2 := ((s1.putN (Key.predLastUpdateStep c) (u.number % 2 ^ 32)).bump 32 (Key.predUpdates c)).bump 32 Key.predgUpdates
        match u.view.nat (Key.predMode c) with
        | 0 => s2.finishContinuous c u
        | 1 => s2.finishBatch c u
        | _ => s2.finishBin c u))

/-! ### Commands (R358) -/

/-- The effect of 1 at 0x3110+c:20. -/
def State.forceFeedback (s : State) (c : Fin 4) : State :=
  let s1 := s.putBit (Key.predStatus c) 6 true
  if s1.nat (Key.predState c) = predPredictive then s1.enterFeedback c (s1.chainReasons c)
  else if s1.nat (Key.predState c) = predPending then s1.fallBack c
  else s1

/-- The effect of 2 at 0x3110+c:20. -/
def State.orderReturn (s : State) (c : Fin 4) : State :=
  let s1 := s.putBit (Key.predStatus c) 6 false
  if s1.nat (Key.predState c) = predFeedback then s1.putN (Key.predState c) predPending else s1

/-- ENTER_FEEDBACK (R358). -/
def execEnterFeedback (p : Path) (c : Fin 4) (s : State) : Host.Outcome State Fault Refusal :=
  .next (s.commanded p (Key.predCommand c) 1 (fun s => s.forceFeedback c))

/-- RETURN (R357, R358). -/
def execReturn (p : Path) (c : Fin 4) (s : State) : Host.Outcome State Fault Refusal :=
  .next (s.commanded p (Key.predCommand c) 2 (fun s => s.orderReturn c))

/-- The effect of 0x01 at 0x3100:09 (R364). -/
def State.predictiveCountersClear (s : State) : State := s.zero [Key.predgUpdates, Key.predgAbandonedUpdates, Key.predgFeedbackEntries]

/-- PREDICTIVE_COUNTERS_CLEAR (R364). -/
def execPredictiveCountersClear (p : Path) (s : State) : Host.Outcome State Fault Refusal :=
  .next (s.commanded p Key.predgClearCounters 1 (fun s => s.predictiveCountersClear))

/-! ### Shedding (R328, R329) -/

/-- The peak in force, in budget units (R325). -/
def State.kelsisPeak (s : State) : Nat := if s.estThrottled then 192000 else 384000

/-- SHED_FULL set or cleared in every column; predictors see it, and enter FEEDBACK at their next step end or update start (R328, R355, R356). -/
def State.shedReasons (s : State) (full : Bool) : State :=
  let s1 := (List.range 4).foldl (fun s c => s.setReason c kShedFull full) s
  (List.finRange 4).foldl (fun s (p : Fin 4) => if s.flag (Key.predEnable p) then s.healthSeen false p else s) s1

/-- Change the stage: counted and logged; the count of clean evaluations restarts; SHED_FULL at stage 8 (R328, R329). -/
def State.setStage (s : State) (new : Nat) : State :=
  let old := s.nat Key.kelsisSheddingStage
  let s1 := (((s.putN Key.kelsisSheddingStage new).putN Key.kelsisCleanEvaluations 0).bump 32 Key.kelsisStageChanges).log 0x0507 noSource old new
  if (old == 8) = (new == 8) then s1 else s1.shedReasons (new == 8)

/-- An update whose next start has come is not complete by it (R327); it counts in the evaluation at that start (R330). -/
def State.abandonOverdue (s : State) : State :=
  (List.finRange 4).foldl (fun s (c : Fin 4) =>
    match (s.kelsis.preds[c]).update with
    | some u => if u.start + s.nat (Key.predUpdateInterval c) * nsPerSecond ≤ s.moduleNs then s.abandonUpdate c else s
    | none => s) s

/-- The new stage applies to the updates that start at this moment (R328). -/
def State.restage (s : State) : State :=
  (List.finRange 4).foldl (fun s (c : Fin 4) =>
    s.setPredictor c (fun p => { p with update := p.update.map (fun u =>
      if s.moduleNs < u.start + 62500 then { u with stage := s.nat Key.kelsisSheddingStage } else u) })) s

/-- SHEDDING_EVALUATION (R328, R329). -/
def execSheddingEvaluation (s : State) : Host.Outcome State Fault Refusal :=
  .next (if s.clocksRun = false then s
    else
      let f := s.abandonOverdue.freeNat
      let s1 := f.2.putN Key.kelsisBusiestEngineShare (f.1 % 10001)
      let stage := s1.nat Key.kelsisSheddingStage
      let overrun := s1.kelsis.overrun
      let s2 := { s1 with kelsis := { s1.kelsis with overrun := false } }
      if overrun then (if stage < 8 then s2.setStage (stage + 1) else s2.putN Key.kelsisCleanEvaluations 0).restage
      else
        let clean := min 3 (s2.nat Key.kelsisCleanEvaluations + 1)
        let s3 := s2.putN Key.kelsisCleanEvaluations clean
        if 0 < stage ∧ clean = 3 ∧ View.kelsisLoad s3.get (stage - 1) * 100 ≤ 85 * s3.kelsisPeak then (s3.setStage (stage - 1)).restage
        else s3)

/-! ### Hooks -/

/-- A commit to a predictor's enable (R358): FEEDBACK at the enable, OFF at the disable. -/
def State.predictorConfigured (s : State) (c : Fin 4) : State :=
  if s.flag (Key.predEnable c) then
    (if s.nat (Key.predState c) = predOff then
      (s.putN (Key.predState c) predFeedback).setPredictor c (fun _ => ⟨none, none, none, none, 0⟩)
     else s)
  else if s.nat (Key.predState c) = predOff then s
  else ((s.putN (Key.predState c) predOff).putN (Key.predStatus c) 0).setPredictor c (fun _ => ⟨none, none, none, none, 0⟩)

/-- START: every enabled predictor is in FEEDBACK (R358). -/
def State.predictorsStart (s : State) : State :=
  (List.finRange 4).foldl (fun s (c : Fin 4) =>
    if s.flag (Key.predEnable c) then
      (s.putN (Key.predState c) predFeedback).setPredictor c (fun p => { p with update := none, plan := none, healthy := none })
    else s) s

/-- The process leaves RUNNING: updates stop (R342). -/
def State.predictorsStop (s : State) : State :=
  (List.finRange 4).foldl (fun s (c : Fin 4) => s.setPredictor c (fun p => { p with update := none })) s

end Sys2Proof.Machine
end

