-- ==== Sys2Proof/Machine/Reads.lean ====
section
/-! DEFINITION. What a read of the dictionary shows (R123): stored values, and the values the module forms from its state at the
read; with the effects some reads have. -/

namespace Sys2Proof.Machine

open Sys2Proof

/-! ### Values formed at a read -/

/-- The version of the image that runs (R131); none in Kindling mode. -/
def State.firmwareVersion (s : State) : Nat :=
  let b := s.nat Key.startBankStarted
  if b = 1 then s.startup.bankA.version else if b = 2 then s.startup.bankB.version else 0

/-- Level of writer `i` as path `p` reads it (R131): of Flue only the reading client's own. -/
def State.levelShown (s : State) (p : Path) (i : Nat) : Nat :=
  match i with
  | 0 => Level.vendor.code
  | 1 => if p.writer = .flue then (s.levelOf p).code else 0
  | 2 => s.dict.canA.level.code
  | 3 => s.dict.canB.level.code
  | 7 => s.dict.service.level.code
  | _ => s.nat (Key.coreLevelGranted (i - 3))

/-- Time remaining of the host watchdog (R142). -/
def State.hostRemaining (s : State) : Nat :=
  let w := s.dict.watchdog
  if w.running && s.nat Key.lostState == 0 then w.timeout - s.msSince w.started else 0

/-- An actuator is energised or decaying; a drive commands anything; as R87's caps ask. -/
def State.capWord (s : State) : Nat :=
  let act := s.acts.units.toList.any (fun u => u.phase.active || u.decaying || decide (0 < u.target))
  let drive := (List.finRange 16).any (fun (d : Fin 16) => s.get (Key.driveCommandApplied d.val) != 0 || (s.outputs.drives[d]).inTable)
  b2n act + 2 * b2n (!s.headed.isEmpty) + 4 * b2n ((List.range 4).any (fun c => s.flag (Key.colEnable c)))
    + 8 * b2n ((List.range 64).any (fun l => s.flag (Key.loopEnable l))) + 16 * b2n drive
    + 32 * b2n ((List.range 8).any (fun k => s.nat (Key.coutMode k) != 0)) + 64 * b2n s.power.vbus + 128 * b2n s.power.contactOpen

/-- Seconds left to the declared contact (R88). -/
def State.contactRemaining (s : State) : Nat := (s.power.contactDue.map (fun t => t - s.opSeconds)).getD 0

/-- The global status word of Kelsis (R333). -/
def State.kelsisStatus (s : State) : Nat :=
  let stage := s.nat Key.kelsisSheddingStage
  b2n s.estThrottled + 2 * b2n (decide (0 < stage)) + 4 * b2n (stage == 8) + 8 * b2n s.kelsis.building.isSome

/-- The column status word (R335): HEALTHY of an enabled column only (log 138); a column with no grain type in force does not step (R309). -/
def State.columnStatus (s : State) (c : Nat) : Nat :=
  let on := s.flag (Key.colEnable c)
  let w := s.nat (Key.colStatus c)
  let kept := w - w % 4 - (if w.testBit 8 then 256 else 0)
  kept + b2n on + 2 * b2n (on && s.kelsisRuns && (s.kelsis.columns[Fin.ofNat 4 c]).grain.isSome) + 256 * b2n (on && s.nat (Key.colHealthReasons c) == 0)

/-- The name and the values 02-0F of a grain type, as 0x3040+g:11 checks them (R338; log 65). -/
def State.grainBytes (s : State) (g : Nat) : List Byte :=
  s.block (Key.grainName g) ++ (List.range 14).flatMap (fun i =>
    let k := grainKey g (i + 2)
    ((findRow k).map (fun r => r.ty.bytesOf (s.get k))).getD [])

/-- Name and values of a grain type are all at their defaults: its check value reads the table's default (R12, R338; log 65). -/
def State.grainBlank (s : State) (g : Nat) : Bool :=
  (s.block (Key.grainName g)).isEmpty && (List.range 14).all (fun i => s.get (grainKey g (i + 2)) == objDefault (grainKey g (i + 2)))

/-- The table state of a grain type (R338). -/
def State.tableState (s : State) (g : Fin 16) : Nat :=
  let k := s.kelsis.grains[g]
  if s.kelsis.building.any (fun b => b.grain == g) then 1 else if k.failed then 3 else if k.active.isSome then 2 else 0

/-- Shortest update interval of the enabled predictors (R364). -/
def State.shortestInterval (s : State) : Nat :=
  ((List.range 4).filter (fun c => s.flag (Key.predEnable c))).foldl
    (fun m c => if m = 0 then s.nat (Key.predUpdateInterval c) else min m (s.nat (Key.predUpdateInterval c))) 0

/-- Divisor of the sub-ensemble at the present stage (R355). -/
def State.subDivisor (s : State) : Nat :=
  let st := s.nat Key.kelsisSheddingStage
  if st = 0 then 1 else if st = 1 then 2 else if st = 2 then 4 else 8

/-- The predictor status word (R366): ENABLED and UPDATING come from its enable and its update. -/
def State.predictorStatus (s : State) (c : Fin 4) : Nat :=
  let w := s.nat (Key.predStatus c)
  w - w % 4 + b2n (s.flag (Key.predEnable c)) + 2 * b2n (s.kelsis.preds[c]).update.isSome

/-- The healthy time elapsed in s (R357, R365). -/
def State.healthyElapsed (s : State) (c : Fin 4) : Nat :=
  match (s.kelsis.preds[c]).healthy with
  | some t => min 65535 ((s.moduleNs - t) / 1000000000)
  | none => 0

/-- Unseated nodes this node can reach (R533, R559). -/
def State.unseatedReachable (s : State) : Nat := min 16 s.unseatedNodes.length

/-- Automatic restarts within the last hour of operation (R618). -/
def State.restartsLastHour (s : State) : Nat :=
  (s.thermal.restarts.filter (fun t => decide (s.clock.op ≤ t + 3600 * unitsPerSecond))).length

/-- Restarts of a program within the last hour (R464). -/
def State.coreRestarts (s : State) (c : Fin 4) : Nat :=
  ((s.cores[c]).restarts.filter (fun t => decide (s.clock.op ≤ t + 3600 * unitsPerSecond))).length

/-! ### By object -/

/-- Identity, configuration, host and start objects. -/
def State.shownModule (s : State) (p : Path) (key : Nat) : Int :=
  let idx := key / 256
  let sub := key % 256
  if key = Key.identFirmwareVersion then Int.ofNat s.firmwareVersion
  else if idx = 0x2000 ∧ 0x10 ≤ sub ∧ sub ≤ 0x17 then Int.ofNat (s.levelShown p (sub - 0x10))
  else if key = Key.lostTimeSinceHeartbeat then Int.ofNat (s.msSince s.dict.watchdog.lastBeat)
  else if key = Key.lostTimeRemaining then Int.ofNat s.hostRemaining
  else if key = Key.cfgUnsavedChanges then Int.ofNat (b2n (s.get Key.cfgRunningCheckValue != s.get Key.cfgSavedCheckValue))
  else if key = Key.cfgConfigurationStatus then
    Int.ofNat (b2n (s.bitOf key 0) + 2 * b2n (s.get Key.identServicePasscode == objDefault Key.identServicePasscode))
  else if 0x2110 ≤ idx ∧ idx ≤ 0x211F ∧ sub = 2 then Int.ofNat ((s.block (key + 1)).length / 8)
  else if 0x2110 ≤ idx ∧ idx ≤ 0x211F ∧ sub = 4 then Int.ofNat (crcOf configCrc (s.block (key - 1)))
  else if key = Key.powerCapReasons then Int.ofNat s.capWord
  else if key = Key.powerTimeInSIMMER then Int.ofNat (s.power.inSimmer / unitsPerSecond)
  else if key = Key.powerTimeInBANKED then Int.ofNat (s.power.inBanked / unitsPerSecond)
  else if key = Key.powerTimeInEMBER then Int.ofNat (s.power.inEmber / unitsPerSecond)
  else if key = Key.contactRemaining then Int.ofNat s.contactRemaining
  else if key = Key.supplyOperatingSeconds then Int.ofNat s.opSeconds
  else if key = Key.startKindlingActive then Int.ofNat (b2n (s.process == psKindling))
  else s.get key

/-- Sensor channels, converter cores and Bellows. -/
def State.shownFront (s : State) (key : Nat) : Int :=
  let idx := key / 256
  let sub := key % 256
  let n := Fin.ofNat 64 (idx - 0x2400)
  let c := idx - 0x2480
  if 0x2400 ≤ idx ∧ idx ≤ 0x243F then
    (if (sub = 0x18 ∨ sub = 0x19) ∧ s.nat (Key.chanSensorType n.val) = 0 then 0
     else if sub = 0x18 then Int.ofNat (slotNominal s.get n) else if sub = 0x19 then Int.ofNat (slotMaximum s.get n)
     else if sub = 0x1B ∧ s.nat (Key.chanSensorType n.val) = 5 then (if s.txsup n.val then 10000 else 0)
     else if sub = 0x32 then Int.ofNat (s.channelAge n)
     else if sub = 0x33 ∧ s.process = psKindling ∧ s.bitOf Key.cfgConfigurationStatus 0 then 3
     else s.get key)
  else if 0x2480 ≤ idx ∧ idx ≤ 0x2487 then
    (if sub = 2 then Int.ofNat (coreLoad s.get slotNominal c) else if sub = 3 then Int.ofNat (coreLoad s.get slotMaximum c)
     else if sub = 4 then Int.ofNat (sumOfMaxima s.get c) else if sub = 5 then Int.ofNat (s.coreStatusWord c) else s.get key)
  else if 0x2600 ≤ idx ∧ idx ≤ 0x263F ∧ sub = 0x30 then
    -- DUE_LAST of R260
    s.get key + 4 * Int.ofNat (b2n (s.nat (Key.loopSamples (idx - 0x2600)) != 0 && s.nat (Key.loopLastSampleTick (idx - 0x2600)) == s.clock.tick % 2 ^ 32))
  else if key = Key.bellowsTickCountLow then Int.ofNat (s.clock.tick % 2 ^ 32)
  else if key = Key.bellowsTickCountHigh then Int.ofNat s.clock.tickLatch
  else if key = Key.bellowsLoopsEnabled then Int.ofNat (((List.range 64).filter (fun l => s.flag (Key.loopEnable l))).length)
  else s.get key

/-- Actuators, switches, drives, outputs and inputs. -/
def State.shownOutput (s : State) (key : Nat) : Int :=
  let idx := key / 256
  let sub := key % 256
  if 0x2800 ≤ idx ∧ idx ≤ 0x2813 then
    let a := Fin.ofNat 20 (idx - 0x2800)
    (if sub = 0x20 then Int.ofNat (s.actStateCode a) else if sub = 0x21 then Int.ofNat (s.actStatusWord a)
     else if sub = 0x29 then Int.ofNat (s.coilEnergy a) else s.get key)
  else if 0x2820 ≤ idx ∧ idx ≤ 0x2829 then
    let h := Fin.ofNat 10 (idx - 0x2820)
    (if sub = 2 then Int.ofNat (s.hsStateCode h) else if sub = 3 then Int.ofNat (s.hsStatusWord h) else s.get key)
  else if 0x2900 ≤ idx ∧ idx ≤ 0x290F then
    let d := Fin.ofNat 16 (idx - 0x2900)
    (if sub = 0x21 then Int.ofNat (s.driveStatusWord d) else if sub = 0x25 then Int.ofNat (s.tachAge d) else s.get key)
  else if 0x2910 ≤ idx ∧ idx ≤ 0x291F then
    let d := idx - 0x2910
    (if sub = 5 then s.tableDuty d else if sub = 6 then Int.ofNat (s.tableStatus d) else s.get key)
  else if 0x2920 ≤ idx ∧ idx ≤ 0x2927 ∧ sub = 0x21 then Int.ofNat (s.outputStatusWord (idx - 0x2920))
  else if 0x2930 ≤ idx ∧ idx ≤ 0x2937 ∧ sub = 0x25 then Int.ofNat (s.pulseAge (Fin.ofNat 8 (idx - 0x2930)))
  else s.get key

/-- Kelsis and the predictors. -/
def State.shownKelsis (s : State) (key : Nat) : Int :=
  let idx := key / 256
  let sub := key % 256
  if key = Key.kelsisPeakInForce then Int.ofNat s.kelsisPeak
  else if key = Key.kelsisEstimatorLoad then Int.ofNat (View.estimatorTotal s.get 0)
  else if key = Key.kelsisPredictorLoad then Int.ofNat (View.predictorTotal s.get 0)
  else if key = Key.kelsisTotalLoad then Int.ofNat (View.kelsisLoad s.get 0)
  else if key = Key.kelsisLoadShare then Int.ofNat (View.kelsisLoad s.get 0 * 10000 / 384000)
  else if key = Key.kelsisGlobalStatus then Int.ofNat s.kelsisStatus
  else if 0x3010 ≤ idx ∧ idx ≤ 0x3013 ∧ sub = 0x40 then Int.ofNat (s.columnStatus (idx - 0x3010))
  else if 0x3040 ≤ idx ∧ idx ≤ 0x304F ∧ sub = 0x11 then Int.ofNat (if s.grainBlank (idx - 0x3040) then 0 else crcOf configCrc (s.grainBytes (idx - 0x3040)))
  else if 0x3040 ≤ idx ∧ idx ≤ 0x304F ∧ sub = 0x12 then Int.ofNat (s.tableState (Fin.ofNat 16 (idx - 0x3040)))
  else if idx = 0x3070 ∧ 0x10 ≤ sub ∧ sub ≤ 0x1F then Int.ofNat (s.mapCellValue (sub - 0x10)).toNat
  else if key = Key.predgPredictorsRunning then
    Int.ofNat ((List.range 4).foldl (fun w c => w + 2 ^ c * b2n (s.nat (Key.predState c) != 0)) 0)
  else if key = Key.predgShortestUpdateInterval then Int.ofNat (if s.shortestInterval = 0 then 20 else s.shortestInterval)
  else if key = Key.predgSubEnsembleDivisor then Int.ofNat s.subDivisor
  else if key = Key.predgCandidatesInForce then (if s.nat Key.kelsisSheddingStage < 4 then 32 else 16)
  else if key = Key.predgHorizonHalved then Int.ofNat (b2n (decide (5 ≤ s.nat Key.kelsisSheddingStage)))
  else if idx = 0x3060 ∧ 0x10 ≤ sub ∧ sub % 16 = 7 ∧ s.bitOf (Key.colHealthReasons (sub / 16 - 1)) kBoundary then 4
  else if 0x3110 ≤ idx ∧ idx ≤ 0x3113 ∧ sub = 0x43 then Int.ofNat (s.healthyElapsed (Fin.ofNat 4 (idx - 0x3110)))
  else if 0x3110 ≤ idx ∧ idx ≤ 0x3113 ∧ sub = 0x31 then Int.ofNat (s.predictorStatus (Fin.ofNat 4 (idx - 0x3110)))
  else if 0x3110 ≤ idx ∧ idx ≤ 0x3113 ∧ sub = 0x1D then Int.ofNat (s.nat key ||| 0x180)
  else s.get key

/-- Cores, images, counters, Cowl contexts, the log, thermal management. -/
def State.shownSystem (s : State) (p : Path) (key : Nat) : Int :=
  let idx := key / 256
  let sub := key % 256
  let c := Fin.ofNat 4 idx
  let k := s.cores[c]
  if key = Key.coreProgramState 0 then 2
  else if 0x3400 ≤ idx ∧ idx ≤ 0x3403 ∧ sub = 0x0B then Int.ofNat (s.coreRestarts c)
  else if 0x3500 ≤ idx ∧ idx ≤ 0x3503 then
    (if sub = 1 then Int.ofNat k.pmctl.toNat
     else if 2 ≤ sub ∧ sub ≤ 9 then Int.ofNat (k.pmsel.toList.getD (sub - 2) 0)
     else if 0x0A ≤ sub ∧ sub ≤ 0x11 then Int.ofNat (k.pmc.toList.getD (sub - 0x0A) 0).toNat
     else if sub = 0x12 then Int.ofNat k.pmovf.toNat
     else if sub = 0x13 then Int.ofNat (k.cycle % 2 ^ 32)
     else if sub = 0x14 then Int.ofNat k.cycleHiDict
     else if sub = 0x15 then Int.ofNat k.sampleCtl.toNat
     else if sub = 0x16 then Int.ofNat k.sampleLost
     else if sub = 0x18 then Int.ofNat k.merged
     else s.get key)
  else if idx = 0x3800 ∧ 0x80 ≤ sub ∧ sub ≤ 0xBF then
    Int.ofNat (((s.cowl.toList.getD ((sub - 0x80) / 16) .reset).contexts.toList.getD ((sub - 0x80) % 16) ⟨0, 0, 0, false, 0⟩).word)
  else if key = Key.ashCursor then Int.ofNat s.ash.cursors[writerFin p]
  else if idx = 0x3900 ∧ 2 ≤ sub ∧ sub ≤ 9 then Int.ofNat (s.ashWord (writerFin p) (sub - 2)).toNat
  else if key = Key.ashRecords then Int.ofNat s.ashCount
  else if key = Key.thermalAutomaticRestartsLastHour then Int.ofNat s.restartsLastHour
  else if key = Key.thermalESTThrottleTime then Int.ofNat (min (2 ^ 32 - 1) (s.thermal.estTicks / 16000))
  else if key = Key.thermalBankThrottleTime then Int.ofNat (min (2 ^ 32 - 1) (s.thermal.bankTicks / 16000))
  else s.get key

/-- CAN ports and the communication objects. -/
def State.shownCan (s : State) (key : Nat) : Int :=
  let idx := key / 256
  let sub := key % 256
  let b := Fin.ofNat 2 ((idx - 0x3600) / 0x40)
  let port := s.can[b]
  if idx = 0x3600 ∨ idx = 0x3640 then
    (if sub = 0x22 then Int.ofNat (port.ring.headD 0x7F00) else if sub = 0x23 then Int.ofNat port.queue.length
     else if sub = 0x24 then Int.ofNat port.ring.length else if sub = 0x29 then Int.ofNat (s.canStatusWord b) else s.get key)
  else if idx = 0x3601 ∨ idx = 0x3641 then
    (if sub = 0x0A then Int.ofNat (s.nominalRate b) else if sub = 0x0B then Int.ofNat (s.dataRate b)
     else if sub = 0x0C then Int.ofNat (samplePoint (s.nat (Key.canbitNominalTSEG1 b)) (s.nat (Key.canbitNominalTSEG2 b)))
     else if sub = 0x0D then Int.ofNat (samplePoint (s.nat (Key.canbitDataTSEG1 b)) (s.nat (Key.canbitDataTSEG2 b))) else s.get key)
  else if idx = 0x3602 ∨ idx = 0x3642 then
    (if sub = 2 then Int.ofNat ((s.block (key - 1)).length / 8) else if sub = 4 then Int.ofNat port.fifo.length else s.get key)
  else if idx = 0x1001 then Int.ofNat s.errorRegister
  else if (idx = 0x1010 ∨ idx = 0x1011) ∧ sub ≠ 0 then 1
  else if key = Key.identityRevision then
    Int.ofNat (field s.firmwareVersion 31 24 * 65536 + field s.firmwareVersion 23 16)
  else if key = Key.identitySerial then s.get Key.identSerialNumber
  else if key = Key.sdoserverCOBClientToServer then Int.ofNat (s.cobOf key 0x600)
  else if key = Key.sdoserverCOBServerToClient then Int.ofNat (s.cobOf key 0x580)
  else if idx = 0x1014 then Int.ofNat (s.cobOf key 0x80)
  else if 0x1400 ≤ idx ∧ idx ≤ 0x1403 ∧ sub = 1 then Int.ofNat (s.cobOf key (0x200 + 0x100 * (idx - 0x1400)))
  else if 0x1800 ≤ idx ∧ idx ≤ 0x1803 ∧ sub = 1 then Int.ofNat (s.cobOf key (0x180 + 0x100 * (idx - 0x1800)))
  else s.get key

/-- Flue: node, plan, time, group, members, group channels. -/
def State.shownFlue (s : State) (key : Nat) : Int :=
  let idx := key / 256
  let sub := key % 256
  let hi := fun (u : Nat) => Int.ofNat (u / 2 ^ 32)
  let lo := fun (u : Nat) => Int.ofNat (u % 2 ^ 32)
  if key = Key.flueRole then Int.ofNat s.roleWord
  else if key = Key.flueAlarmWord then Int.ofNat s.alarmWord
  else if key = Key.flueNodesSeated then Int.ofNat (if s.rootHead then min 2048 s.seatedNodes.length else 0)
  else if key = Key.flueUnseatedNodes then Int.ofNat s.unseatedReachable
  else if key = Key.planEntries then Int.ofNat ((s.block Key.planPlan).length / 16)
  else if key = Key.planCheckValue then Int.ofNat (crcOf configCrc (s.block Key.planPlan))
  else if key = Key.ftimeFlueTimeSeconds then Int.ofNat s.readFlueTime.1
  else if key = Key.ftimeFlueTimeNanoseconds then Int.ofNat s.flue.nsLatch
  else if idx = 0x3780 ∧ sub ≠ 0 then
    (match s.lowestGroup with
     | none => 0
     | some g =>
       let l := g.members.toList.filter (fun m => m.state != 0)
       if sub = 1 then Int.ofNat g.addr else if sub = 2 then Int.ofNat (addrLevel g.addr) else if sub = 3 then hi g.head
       else if sub = 4 then lo g.head else if sub = 5 then hi g.deputy else if sub = 6 then lo g.deputy
       else if sub = 7 then Int.ofNat l.length
       else if sub = 8 then Int.ofNat (l.filter (fun m => m.state == 1 || m.state == 2)).length
       else if sub = 9 then Int.ofNat (groupWorst g) else if sub = 0x0A then Int.ofNat (groupAlarm g) else Int.ofNat (groupSevere g))
  else if 0x3781 ≤ idx ∧ idx ≤ 0x378F ∧ sub ≠ 0 then
    let m := s.shownMember (idx - 0x3780)
    (if sub = 1 then Int.ofNat m.addr else if sub = 2 then hi m.uid else if sub = 3 then lo m.uid else if sub = 4 then Int.ofNat (b2n m.isGroup)
     else if sub = 5 then Int.ofNat m.state else if sub = 6 then Int.ofNat m.status else if sub = 7 then Int.ofNat m.alarm
     else if sub = 8 then Int.ofNat ((m.statusTick.map s.msSince).getD 0) else if sub = 9 then Int.ofNat (if m.state = 2 then m.wake else 0)
     else if sub = 0x0A then Int.ofNat m.mailbox.length else if sub = 0x0B then Int.ofNat m.lastSevere else Int.ofNat m.severe)
  else if idx = 0x37A1 ∧ sub ≠ 0 then Int.ofNat (((s.groupChannel (sub - 1)).map (fun r => r.1.toNat)).getD 0)
  else if idx = 0x37A2 ∧ sub ≠ 0 then Int.ofNat (((s.groupChannel (sub - 1)).map (fun r => r.2.1)).getD 4)
  else if idx = 0x37A3 ∧ sub ≠ 0 then Int.ofNat (((s.groupChannel (sub - 1)).map (fun r => r.2.2)).getD 65535)
  else s.get key

/-- The value a read of a numeric subindex over path `p` returns. -/
def State.shown (s : State) (p : Path) (key : Nat) : Int :=
  let idx := key / 256
  if idx < 0x2000 then s.shownCan key
  else if idx < 0x2400 then s.shownModule p key
  else if idx < 0x2800 then s.shownFront key
  else if idx < 0x3000 then s.shownOutput key
  else if idx < 0x3400 then s.shownKelsis key
  else if idx < 0x3600 then s.shownSystem p key
  else if idx < 0x3700 then s.shownCan key
  else if idx < 0x3800 then s.shownFlue key
  else if idx = 0x3B00 then s.shownModule p key
  else s.shownSystem p key

/-! ### Reads with an effect -/

/-- A challenge of 32 free bytes, kept for its path (R119, R131; log 66). -/
def State.newChallenge (s : State) (p : Path) : List Byte × State :=
  let r := s.freeBytes 32
  (r.1, { r.2 with dict := { r.2.dict with challenges := r.2.dict.challenges.filter (fun c => c.1 != p) ++ [(p, r.1)] } })

/-- Read a numeric subindex: its value, and the state after the read. -/
def State.readNum (s : State) (p : Path) (key : Nat) : Int × State :=
  let idx := key / 256
  let sub := key % 256
  if key = Key.bellowsTickCountLow then (s.shown p key, s.latchTick)
  else if 0x3500 ≤ idx ∧ idx ≤ 0x3503 ∧ sub = 0x13 then
    (s.shown p key, s.setCore (Fin.ofNat 4 idx) (fun k => { k with cycleHiDict := k.cycle / 2 ^ 32 % 2 ^ 32 }))
  else if idx = 0x3070 ∧ 0x10 ≤ sub ∧ sub ≤ 0x1F then
    (s.shown p key, if sub - 0x10 + 1 = s.nat Key.mapSnapshotCells then s.mapAdvance else s)
  else if (idx = 0x3600 ∨ idx = 0x3640) ∧ sub = 0x22 then
    let r := s.takeCompletion (Fin.ofNat 2 ((idx - 0x3600) / 0x40))
    (Int.ofNat r.1, r.2)
  else if key = Key.ashRecordWord 0 then
    let r := s.readAshFirst (writerFin p)
    (Int.ofNat r.1, r.2)
  else if key = Key.ashRecordWord 7 then
    let r := s.readAshLast (writerFin p)
    (Int.ofNat r.1, r.2)
  else if key = Key.ftimeFlueTimeSeconds then
    let r := s.readFlueTime
    (Int.ofNat r.1, r.2)
  else (s.shown p key, s)

/-- Cells of a learner's region as stored (R286). -/
def State.learnerBytes (s : State) (l : Nat) : List Byte :=
  (List.range (s.nat (Key.learnPeriod l))).flatMap (fun i => leBytes 2 (unsignedOf 16 (s.cell (s.nat (Key.learnPoolOffset l) + i))))

/-- Read a VIS or DOM: its content, and the state after the read. -/
def State.readBlock (s : State) (p : Path) (key : Nat) : List Byte × State :=
  let idx := key / 256
  if key = Key.identVendorChallenge then s.newChallenge p
  else if key = Key.startConfigurationImage then (Config.configImageOf s.base s.blk, s)
  else if key = Key.traceData then (s.traceData, s)
  else if 0x2700 ≤ idx ∧ idx ≤ 0x273F ∧ key % 256 = 0x14 then (s.learnerBytes (idx - 0x2700), s)
  else if key = Key.mapMap then (s.mapBytes, s)
  else if (idx = 0x3602 ∨ idx = 0x3642) ∧ key % 256 = 3 then s.takeFifo (Fin.ofNat 2 ((idx - 0x3600) / 0x40))
  else (s.block key, s)

/-- The present length of a VIS or DOM, without the effect of a read (R122): 32 for the challenge. -/
def State.blockLength (s : State) (p : Path) (key : Nat) : Nat :=
  if key = Key.identVendorChallenge then 32 else (s.readBlock p key).1.length

/-- A read that has passed its checks: its answer, and the state after it. -/
def State.readRow (s : State) (p : Path) (key : Nat) (r : Row) : Answer × State :=
  if r.ty.isBlock then
    let x := s.readBlock p key
    (.block x.1, x.2)
  else
    let x := s.readNum p key
    (.value x.1, x.2)

/-- The bytes an answer carries (R639). -/
def answerBytes (key : Nat) : Answer → List Byte
  | .block bs => bs
  | .value v => ((findRow key).map (fun r => r.ty.bytesOf v)).getD []
  | _ => []

end Sys2Proof.Machine
end

