-- ==== Sys2Proof/Machine/Reset.lean ====
section
/-! DEFINITION. The module's reset (R19, R67, R102): what stays in FRAM, flash, the always-on domain and the fuses, and the state
every other part of the machine takes until the next start. -/

namespace Sys2Proof.Machine

open Sys2Proof

/-- Values that no reset touches: identity, the start counter and causes, counters of the supplies, the real-time clock, the power
statistics, the Flue address (R28, R71, R85, R112, R113, R133, R538; log 68). -/
def keptKey (key : Nat) : Bool :=
  [Key.identSerialNumber, Key.identUniqueIDHighWord, Key.identUniqueIDLowWord, Key.identHardwareIssue, Key.identBootROMVersion,
   Key.identServicePasscode, Key.startStartCounter, Key.startCauseLastStart, Key.startCauseSecondLast, Key.startCauseThirdLast,
   Key.startWarmBoots, Key.supplyPowerCycleCount, Key.supplyP1BrownOuts, Key.supplyP2Losses, Key.powerRTC, Key.powerLastWakeCause,
   Key.powerPreviousState, Key.powerEMBEREntries, Key.flueStoredAddress].contains key

/-- Contents that no reset touches: the grain-type file and the site key (R27, R555). -/
def keptBlock (key : Nat) : Bool := key == Key.tablesFileImage || key == Key.flueSiteKey

/-! ### Parts of the saved configuration (R134) -/

/-- A key belongs to part 0 (all), 1 (0x1000-0x1FFF) or 2 (0x2000-0x5FFF). -/
def inPart (part : Fin 3) (key : Nat) : Bool :=
  part == 0 || (part == 1 && decide (key / 256 < 0x2000)) || (part == 2 && decide (0x2000 ≤ key / 256))

/-- Two sorted stores joined, the keys of `part` from the first, the others from the second. -/
def joinPart {α : Type} (part : Fin 3) (mine other : List (Nat × α)) : List (Nat × α) :=
  (other.filter (fun e => !inPart part e.1 && decide (e.1 / 256 < 0x2000))) ++ (mine.filter (fun e => inPart part e.1))
    ++ (other.filter (fun e => !inPart part e.1 && decide (0x2000 ≤ e.1 / 256)))

/-- The copy that a store or restore in progress writes (R134). -/
def State.savedCopy (s : State) (o : SaveOp) : FramCopy :=
  let part := Fin.ofNat 3 o.part
  let old := s.dict.saved
  { values := joinPart part o.values old.values, blocks := joinPart part o.blocks old.blocks,
    mode := if o.restore ∧ part ≠ 1 then 0 else old.mode, seq := old.seq + 1, torn := false }

/-- A reset that meets a store or restore in progress, which writes copy A and then copy B: how far it had come is free (R99, R134; log
89). -/
def State.saveInterrupted (s : State) : State :=
  match s.dict.saveOp with
  | none => s
  | some o =>
    let r := s.freeNat
    let c := s.savedCopy o
    let a := if r.1 % 5 = 0 then s.dict.copyA else if r.1 % 5 = 1 then { c with torn := true } else c
    let b := if r.1 % 5 = 4 then c else if r.1 % 5 = 3 then { c with torn := true } else s.dict.copyB
    { r.2 with dict := { r.2.dict with copyA := a, copyB := b, saveOp := none } }

/-- What a bank's status shows in reset: an INCOMPLETE bank stays so, the others are unchecked (R98, R112). -/
def State.keepBankStatus (s : State) (obj : List (Nat × Int)) : List (Nat × Int) :=
  let a := if s.startup.bankA.incomplete then writeKey objDefault obj Key.startBankAStatus 1 else obj
  if s.startup.bankB.incomplete then writeKey objDefault a Key.startBankBStatus 1 else a

/-- The machine in reset, outputs in the reset state (R19): what is not kept is as at reset release. Where the manual is silent, an unlock
of the debug pins does not outlast it (R43; log 98), and RTC_INVALID and OPTIME_RESTORED clear with it, a start setting them anew (R90;
log 98). -/
def State.resetKeeping (s : State) : State :=
  let aonRc := [(Key.supplySupplyStatus, Int.ofNat 16)]
  let kept := s.keepBankStatus (s.obj.filter (fun e => keptKey e.1))
  { State.reset with
    obj := (if s.bitOf Key.supplySupplyStatus 4 then aonRc else []).foldl (fun m e => writeKey objDefault m e.1 e.2) kept, blk := s.blk.filter (fun e => keptBlock e.1),
    clock := { Clock.reset with op := s.clock.op, opFram := s.clock.opFram, rtcSub := s.clock.rtcSub },
    power := { s.power with phase := .inReset, state := .blaze, latchedWake := 0, contactDue := none, contactOpen := false,
                            refusalHold := false, noticeOut := false, banking := false, wokenAt := none },
    startup := { s.startup with debugOpen := false, stoppedOnce := false, faultEvents := [], hotHold := false, halted := false },
    dict := { Dict.reset with copyA := s.dict.copyA, copyB := s.dict.copyB },
    cores := Vector.map (fun (k : Core) => { Core.reset with retention := k.retention, record := k.record }) s.cores,
    images := s.images,
    ash := { s.ash with queue := [], episode := 0, clearing := none },
    thermal := { Thermal.reset with records := s.thermal.records, shut := s.thermal.shut, restarts := s.thermal.restarts, restore := s.thermal.restore },
    flue := { Flue.reset with siteKey := s.flue.siteKey },
    fram := s.fram, free := s.free, pending := s.pending }

/-- The machine in reset, once a store in progress has stopped. -/
def State.afterReset (s : State) : State := s.saveInterrupted.resetKeeping

/-- The module writes its counters, causes, thermal records or passcode in FRAM: nothing that the hearth core's stores have put there
remains (R28; log 72). -/
def State.unitWrote (s : State) : State := s.framWrote 0x600F0000 0x10000

/-- A start not yet confirmed that has no cause takes this one (R103, R113). -/
def State.recordCause (s : State) (cause : Nat) : State :=
  if s.startup.opened && !s.startup.confirmed && s.startup.cause.isNone then
    ({ s.unitWrote with startup := { s.startup with cause := some cause } }).putN Key.startCauseLastStart
      (s.startup.cycle * 65536 + s.startup.bank * 256 + cause)
  else s

/-- The module resets; a start not yet confirmed takes this cause. -/
def State.enterReset (s : State) (cause : Nat) : State := (s.recordCause cause).afterReset

end Sys2Proof.Machine
end

