-- ==== Sys2Proof/Machine/Dictionary.lean ====
section
/-! DEFINITION. The dictionary's levels (R118, R119, R131) and its window (R121, R122, R441, R442). -/

namespace Sys2Proof.Machine

open Sys2Proof

/-! ### Levels (R119) -/

/-- Ticks of 60 s. -/
abbrev ticksPerMinute : Nat := 960000

/-- The path whose guard a path shares: the SDO server and the PDOs of CAN A are one path (R118, R120). -/
def guardPath (p : Path) : Path := if p.writer = .canA then ⟨.canA, 0⟩ else p

/-- The passcode guard of a path. -/
def State.guardOf (s : State) (p : Path) : PasscodeGuard :=
  (s.dict.guards.find? (fun g => g.path == guardPath p)).getD ⟨guardPath p, [], false⟩

def State.setGuard (s : State) (g : PasscodeGuard) : State :=
  { s with dict := { s.dict with guards := s.dict.guards.filter (fun x => x.path != guardPath g.path) ++ [{ g with path := guardPath g.path }] } }

/-- A ninth Flue client finds no session free (R119). -/
def State.noSession (s : State) (p : Path) : Bool :=
  p.writer == .flue && !s.dict.sessions.any (fun f => f.addr == p.addr) && decide (8 ≤ s.dict.sessions.length)

/-- Raise a path's level; a level already above stays (log 70). -/
def State.raiseLevel (s : State) (p : Path) (l : Level) : State :=
  if (s.levelOf p).atLeast l then s else s.setLevel p l

/-- A wrong passcode: the fifth within 60 s locks the path (R119). -/
def State.wrongPasscode (s : State) (p : Path) : State :=
  let g := s.guardOf p
  let wrong := s.clock.tick :: g.wrong.filter (fun t => decide (s.clock.tick - t < ticksPerMinute))
  let s1 := s.refuse p (.level Key.identLevelRequest)
  if 5 ≤ wrong.length then
    (s1.setGuard ⟨p, [], true⟩).log 0x0D03 p.writer.code (if p.writer = .flue then p.addr else 0) 5
  else s1.setGuard ⟨p, wrong, false⟩

/-- A checked write of `v` to 0x2000:18 (R119). A core's own path keeps its level (R118; log 70). -/
def State.levelRequest (s : State) (p : Path) (v : Nat) : State :=
  if writerIsCore p.writer then s.answer p .done
  else if v = 0 then (s.setLevel p .operator).answer p .done
  else if s.noSession p then s.refuse p (.noSession Key.identLevelRequest)
  else if (s.guardOf p).locked then s.refuse p (.passcodeLock Key.identLevelRequest)
  else if v = s.nat Key.identServicePasscode then (s.raiseLevel p .service).answer p .done
  else s.wrongPasscode p

/-- A checked write of the answer to a path's challenge (R119, R131); a wrong answer is refused with LEVEL (log 70). -/
def State.vendorResponse (s : State) (p : Path) (bs : List Byte) : State :=
  let c := s.dict.challenges.find? (fun c => c.1 == p)
  let s1 := { s with dict := { s.dict with challenges := s.dict.challenges.filter (fun c => c.1 != p) } }
  if writerIsCore p.writer then s.answer p .done
  else if s.noSession p then s.refuse p (.noSession Key.identVendorResponse)
  else if c.any (fun c => Config.vendorAnswers c.2 bs) then (s1.raiseLevel p .vendor).answer p .done
  else s1.refuse p (.level Key.identVendorResponse)

/-- A checked write at once: the checks of R117 on the bytes, then the effect on the value. -/
def State.writeNow (s : State) (p : Path) (key : Nat) (bs : List Byte) (f : State → DVal → State) : State :=
  s.served (fun s =>
    let s1 := s.touch p
    match s1.checkWrite p key (.bytes bs) with
    | .error e => s1.refuse p e
    | .ok v => f s1 v)

/-- LEVEL_REQUEST: a passcode, or 0, written to 0x2000:18. -/
def execLevelRequest (p : Path) (code : Nat) (s : State) : Host.Outcome State Fault Refusal :=
  .next (s.writeNow p Key.identLevelRequest (leBytes 4 code) (fun s _ => s.levelRequest p (code % 2 ^ 32)))

/-- PASSCODE_LOCK_END: 300 s after its lock a path is open again. -/
def execPasscodeLockEnd (p : Path) (s : State) : Host.Outcome State Fault Refusal :=
  .next (if s.clocksRun && (s.guardOf p).locked then s.setGuard ⟨p, [], false⟩ else s)

/-- LEVEL_IDLE_TIMEOUT: a path without an access for 600 s falls back to Operator (R119). -/
def execLevelIdleTimeout (p : Path) (s : State) : Host.Outcome State Fault Refusal :=
  .next (if s.clocksRun = false ∨ writerIsCore p.writer = true then s else s.setLevel p .operator)

/-- VENDOR_CHALLENGE: a read of 0x2000:1A gives a new challenge (R131). -/
def execVendorChallenge (p : Path) (s : State) : Host.Outcome State Fault Refusal :=
  .next (s.served (fun s =>
    let s1 := s.touch p
    match s1.checkRead Key.identVendorChallenge with
    | .error e => s1.refuse p e
    | .ok _ =>
      let r := s1.newChallenge p
      r.2.answer p (.block r.1)))

/-- VENDOR_RESPONSE. -/
def execVendorResponse (p : Path) (data : List Byte) (s : State) : Host.Outcome State Fault Refusal :=
  .next (s.writeNow p Key.identVendorResponse data (fun s _ => s.vendorResponse p data))

/-- SERVICE_PASSCODE_WRITE: a new passcode is in FRAM at once (R133). -/
def execServicePasscodeWrite (p : Path) (code : Nat) (s : State) : Host.Outcome State Fault Refusal :=
  .next (s.commanded p Key.identServicePasscode code (fun s => s.unitWrote.putN Key.identServicePasscode code))

/-! ### The window (R121, R122, R441, R442) -/

/-- A core's own path. -/
def corePath (c : Fin 4) : Path := ⟨if c = 0 then .hearth else if c = 1 then .core1 else if c = 2 then .core2 else .core3, 0⟩

/-- The path a window address uses: the core's own in the lower half; CAN B in the alias, of its server core only. -/
def State.windowPath (s : State) (c : Fin 4) (addr : Nat) : Option Path :=
  if addr < 0x42000000 then some (corePath c)
  else if s.nat (Key.canCANBServerCore 1) = c.val then some ⟨.canB, 0⟩ else none

/-- The subindex of a window address (R121). -/
def windowKey (addr : Nat) : Nat := addr % 0x02000000 / 4

/-- A window load: the word, or none when the guard refuses it. Thermal readings raise their demand (R603). -/
def State.windowLoad (s : State) (c : Fin 4) (addr : Nat) : Option Word × State :=
  match s.windowPath c addr with
  | none => (none, s)
  | some p =>
    let key := windowKey addr
    let s1 := s.touch p
    match s1.checkRead key with
    | .error e => (none, s1.refuse p e)
    | .ok r =>
      if r.ty.isBlock then (some (BitVec.ofNat 32 (s1.blockLength p key)), s1)
      else
        let x := s1.readNum p key
        (some (r.ty.windowWord x.1),
          if key / 256 = 0x3A00 ∧ 1 ≤ key % 256 ∧ key % 256 ≤ 6 then x.2.thermalDemands [0, 1, 2, 3, 4, 5] else x.2)

/-- A window store: staged for the next tick (R123); false when the guard refuses it. -/
def State.windowStore (s : State) (c : Fin 4) (addr : Nat) (w : Word) : Bool × State :=
  match s.windowPath c addr with
  | none => (false, s)
  | some p =>
    let key := windowKey addr
    let s1 := s.touch p
    match s1.checkWrite p key (.word w) with
    | .error e => (false, s1.refuse p e)
    | .ok v => (true, s1.stage p key v)

end Sys2Proof.Machine
end

