-- ==== Sys2Proof/Machine/CoreMem.lean ====
section
/-! DEFINITION. What a core reaches (R437-R445, R470, R472): the memory map, the region table, the core-private control region
with timers and event router port, and the counting of R474-R477. -/

namespace Sys2Proof.Machine

open Sys2Proof

/-! ### Registers -/

/-- Register w[i]; w0 reads 0 (R446). -/
def Core.reg (k : Core) (i : Fin 16) : Word := if i = 0 then 0 else k.regs[i]

/-- Write w[i]; a write to w0 is discarded (R446). -/
def Core.setReg (k : Core) (i : Fin 16) (v : Word) : Core := if i = 0 then k else { k with regs := k.regs.set i v }

/-- STATUS.IE, PIE, PM and PPM (R450). -/
def Core.ie (k : Core) : Bool := k.status.getLsbD 0
def Core.pie (k : Core) : Bool := k.status.getLsbD 1
def Core.privileged (k : Core) : Bool := k.status.getLsbD 2
def Core.ppm (k : Core) : Bool := k.status.getLsbD 3

/-- STATUS of its four bits. -/
def statusOf (ppm pm pie ie : Bool) : Word := BitVec.ofNat 32 (8 * b2n ppm + 4 * b2n pm + 2 * b2n pie + b2n ie)

/-! ### Counters (R474-R477) -/

/-- Counter `j` counts event `ev`. -/
def Core.counts (k : Core) (j : Fin 8) (ev : Nat) : Bool := k.pmctl.getLsbD j.val && k.pmsel[j] == ev && ev != 0

/-- Let counter `j` pass `n` events: it wraps modulo 2^32 and sets its OVF bit; the flag says that source 250 is due. -/
def Core.passCount (k : Core) (j : Fin 8) (n : Nat) : Core × Bool :=
  let v := k.pmc[j].toNat + n
  let wraps := decide (2 ^ 32 ≤ v)
  ({ k with pmc := k.pmc.set j (BitVec.ofNat 32 v),
            pmovf := if wraps then k.pmovf ||| BitVec.ofNat 8 (2 ^ j.val) else k.pmovf },
   wraps && k.pmctl.getLsbD (8 + j.val))

/-- Let a core pass `n` events `ev`; a counter that is written in this cycle misses them (R477). -/
def State.countEventBut (s : State) (written : Option (Fin 8)) (c : Fin 4) (ev n : Nat) : State :=
  (List.finRange 8).foldl (fun (s : State) (j : Fin 8) =>
    if (s.cores[c]).counts j ev && n != 0 && written != some j then
      let r := (s.cores[c]).passCount j n
      let s1 := s.setCore c (fun _ => r.1)
      if r.2 then s1.raiseLocal c 2 else s1
    else s) s

/-- Let a core pass `n` events `ev`. -/
def State.countEvent (s : State) (c : Fin 4) (ev n : Nat) : State := s.countEventBut none c ev n

/-- Let a core pass several events: (code, number). -/
def State.countEvents (s : State) (c : Fin 4) (evs : List (Nat × Nat)) : State :=
  evs.foldl (fun s e => s.countEvent c e.1 e.2) s

/-- The core is in WAIT: its own, or the monitor's (R449, R461). -/
def Core.inWait (k : Core) : Bool := k.waiting.isSome || k.held

/-- `n` CORE cycles pass for core `c` in a mode: user cycles, IE-off cycles, WAIT cycles (R474, R475). While it waits no
instruction is fetched. -/
def State.passCyclesAs (s : State) (c : Fin 4) (n : Nat) (user ieOff wait : Bool) : State :=
  let on := fun (b : Bool) => if b then n else 0
  (s.setCore c (fun k => { k with cycle := (k.cycle + n) % 2 ^ 64, waitCycles := k.waitCycles + on wait })).countEvents c
    [(0x16, on user), (0x17, on ieOff), (0x08, on wait), (0x02, on wait)]

/-- `n` CORE cycles pass for core `c` as it stands. -/
def State.passCycles (s : State) (c : Fin 4) (n : Nat) : State :=
  let k := s.cores[c]
  s.passCyclesAs c n (!k.privileged) (!k.ie) k.inWait

/-! ### The memory map (R439) -/

inductive Region where
  | rom | flash | itcm | dtcm | sram | kelsis | window | control | fram
deriving DecidableEq, Repr

/-- The row of the map an address falls in. -/
def regionOf (a : Nat) : Option Region :=
  if a < 0x10000 then some .rom
  else if 0x08000000 ≤ a ∧ a < 0x09000000 then some .flash
  else if 0x10000000 ≤ a ∧ a < 0x10020000 then some .itcm
  else if 0x11000000 ≤ a ∧ a < 0x11010000 then some .dtcm
  else if 0x20000000 ≤ a ∧ a < 0x20200000 then some .sram
  else if 0x30000000 ≤ a ∧ a < 0x30800000 then some .kelsis
  else if 0x40000000 ≤ a ∧ a < 0x44000000 then some .window
  else if 0x50000000 ≤ a ∧ a < 0x50010000 then some .control
  else if 0x60000000 ≤ a ∧ a < 0x60100000 then some .fram
  else none

/-- Entry `n` of the region table covers the block of an address (R444); an aligned access lies within one block. -/
def Core.covers (k : Core) (n : Fin 8) (a : Nat) : Bool :=
  let b := k.regionBase[n].toNat / 1024
  let e := k.regionAttr[n]
  e.getLsbD 3 && decide (b ≤ a / 1024) && decide (a / 1024 ≤ e.toNat / 1024)

/-- The covering entry with the lowest number decides a user access: bit 0 load, 1 store, 2 fetch (R443, R444). -/
def Core.permits (k : Core) (a perm : Nat) : Bool :=
  match (List.finRange 8).find? (fun (n : Fin 8) => k.covers n a) with
  | some n => (k.regionAttr[n]).getLsbD perm
  | none => false

/-- Privileged mode, or permitted by the region table. -/
def Core.mayAccess (k : Core) (a perm : Nat) : Bool := k.privileged || k.permits a perm

/-! ### The control region (R440, R470, R472) -/

/-- A timer's COUNT: whole microseconds left, at least 1 while it runs. -/
def Timer.left (t : Timer) (cycle : Nat) : Word :=
  if t.run ∧ t.count ≠ 0 then BitVec.ofNat 32 (max 1 (t.count.toNat - (cycle - t.since + t.phase) / 300)) else t.count

/-- A store that sets RUN: COUNT is loaded; where in its microsecond the timer stands is free (log 71). -/
def State.timerRun (s : State) (c : Fin 4) (t : Fin 2) (periodic : Bool) : State :=
  let r := s.freeNat
  r.2.setCore c (fun k =>
    let tm := k.timers[t]
    { k with timers := k.timers.set t ⟨true, periodic, tm.reload, tm.reload, k.cycle, r.1 % 300⟩ })

/-- A store that clears RUN: no expiry. -/
def State.timerStop (s : State) (c : Fin 4) (t : Fin 2) (periodic : Bool) : State :=
  s.setCore c (fun k =>
    let tm := k.timers[t]
    { k with timers := k.timers.set t { tm with run := false, periodic := periodic, count := tm.left k.cycle } })

/-- CTRL of a timer. -/
def Timer.ctrl (t : Timer) : Word := BitVec.ofNat 32 (b2n t.run + 2 * b2n t.periodic)

/-- LOCAL_CTRL without its reserved bits. -/
def localCtrlMask : Word := 0x9F9F9F9F

/-- SIGNAL_ROUTE: the CORE fields of the routes of 252-255. -/
def State.signalRoute (s : State) : Word :=
  BitVec.ofNat 32 ((List.range 4).foldl (fun w k => w + 2 ^ (8 * k) * field (s.route (252 + k)) 10 8) 0)

/-- What a byte of a core's retention slot reads as where nothing has been stored: 0, and under the hearth core's record a byte of it, whose
layout the manual does not give (R77, R440; log 72). -/
def Core.slotDefault (k : Core) : Nat → Byte :=
  match k.record with
  | none => fun _ => 0
  | some r => Config.memoryByte r

/-- The word at a word-aligned offset of the control region; registers the manual does not list read as free values (log 72). -/
def State.controlWord (s : State) (c : Fin 4) (off : Nat) : Word × State :=
  let k := s.cores[c]
  if off < 0x20 then
    let t := k.timers[Fin.ofNat 2 (off / 16)]
    match off % 16 with
    | 0 => (t.ctrl, s)
    | 4 => (t.reload, s)
    | 8 => (t.left k.cycle, s)
    | _ => s.freeWord
  else if off = 0x1000 then (s.pendingWord c, s)
  else if off = 0x1004 then (k.localCtrl, s)
  else if off = 0x1008 then (s.signalRoute, s)
  else if off = 0x100C then (BitVec.ofNat 32 k.merged, s)
  else if c = 0 ∧ 0x2000 ≤ off ∧ off < 0x2100 then s.cowlLoad (Fin.ofNat 4 ((off - 0x2000) / 0x40)) (off % 0x40)
  else if 0x1010 ≤ off ∧ off < 0x1030 then (k.srcPend.toList.getD ((off - 0x1010) / 4) 0, s)
  else if 0xF000 ≤ off then
    let k := s.cores[Fin.ofNat 4 ((off - 0xF000) / 1024)]
    (BitVec.ofNat 32 (leNat ((List.range 4).map (fun i => readKey k.slotDefault k.retention (off % 1024 + i)))), s)
  else s.freeWord

/-- A byte memory is in its canonical form: addresses rise, no byte listed equals the 0 an unlisted address reads as (log 5). -/
def Memory.wf (m : List Host.Cell) : Bool := canonical (fun _ => (0 : Byte)) m

/-- Addresses rise: the form of the FRAM bytes that stores have left, whose unlisted addresses have no value of their own (log 72). -/
def Memory.rising (m : List Host.Cell) : Bool := decide (m.Pairwise (fun a b => a.1 < b.1))

/-- The bytes `bs` at `a` of a memory whose unlisted bytes read as `d` says. -/
def storeOver (d : Nat → Byte) (m : List Host.Cell) (a : Nat) : List Byte → List Host.Cell
  | [] => m
  | b :: bs => storeOver d (writeKey d m a b) (a + 1) bs

/-- The bytes `bs` at `a` of a byte memory. -/
def storeBytes (m : List Host.Cell) (a : Nat) : List Byte → List Host.Cell
  | [] => m
  | b :: bs => storeBytes (writeKey (fun _ => (0 : Byte)) m a b) (a + 1) bs

/-- `n` bytes at `a` of a byte memory, as a number. -/
def loadBytes (m : List Host.Cell) (a n : Nat) : Nat :=
  leNat ((List.range n).map (fun i => readKey (fun _ => (0 : Byte)) m (a + i)))

/-- A store of `w` bytes of `v` in the control region: a narrow store touches its byte lanes only; registers the manual does not
list, and read-only ones, discard it (log 72). -/
def State.controlStore (s : State) (c : Fin 4) (off w : Nat) (v : Word) : State :=
  let word := off / 4 * 4
  let lane : Word := BitVec.ofNat 32 ((2 ^ (8 * w) - 1) * 2 ^ (8 * (off % 4)))
  let x := (v <<< (8 * (off % 4))) &&& lane
  let merge := fun (old : Word) => (old &&& ~~~lane) ||| x
  let k := s.cores[c]
  if word < 0x20 then
    let t := Fin.ofNat 2 (word / 16)
    let tm := k.timers[t]
    if word % 16 = 0 then
      let n := merge tm.ctrl
      if n.getLsbD 0 then s.timerRun c t (n.getLsbD 1) else s.timerStop c t (n.getLsbD 1)
    else if word % 16 = 4 then s.setCore c (fun k => { k with timers := k.timers.set t { tm with reload := merge tm.reload } })
    else s
  else if word = 0x1004 then s.setCore c (fun k => { k with localCtrl := merge k.localCtrl &&& localCtrlMask })
  else if 0x1010 ≤ word ∧ word < 0x1030 then
    let i := Fin.ofNat 8 ((word - 0x1010) / 4)
    s.setCore c (fun k => { k with srcPend := k.srcPend.set i (k.srcPend[i] &&& ~~~x) })
  else if c = 0 ∧ 0x2000 ≤ word ∧ word < 0x2100 then
    let u := Fin.ofNat 4 ((word - 0x2000) / 0x40)
    s.cowlStore u (word % 0x40) (merge (s.cowlLoad u (word % 0x40)).1) (leBytes w v.toNat) k.cycle
  else if 0xF000 ≤ off then
    s.setCore (Fin.ofNat 4 ((off - 0xF000) / 1024)) (fun k =>
      { k with retention := storeOver k.slotDefault k.retention (off % 1024) (leBytes w v.toNat) })
  else s

/-! ### Flash, FRAM and the rest -/

/-- A byte of flash, as R30 and R593 lay it out: firmware areas, program slots and the grain-type file in both banks, the Ash reserve
area in bank A; elsewhere the manual gives no content (log 72). -/
def State.flashByte (s : State) (a : Nat) : Byte :=
  let o := a % 0x800000
  let first := decide (a < 0x08800000)
  if o < 0x400000 then
    let b := if first then s.startup.bankA else s.startup.bankB
    (b.bytes[o]?).getD (Config.memoryByte b a)
  else if o < 0x700000 then
    let i := s.images.toList.getD (o / 0x100000 - 4) none
    (i.bind (fun i => i.raw[o % 0x100000]?)).getD (Config.memoryByte i a)
  else if o < 0x710000 then
    let l := s.block Key.tablesFileImage
    (l[o % 0x10000]?).getD (Config.memoryByte l a)
  else if first && decide (0x7F0000 ≤ o) then
    (((s.ash.reserve.flatMap (fun r => r.words)).flatMap (fun w => leBytes 4 w.toNat))[o - 0x7F0000]?).getD (Config.memoryByte s.ash.reserve a)
  else Config.memoryByte () a

/-- The header of the Ash log (R581). -/
def State.ashHeader (s : State) : List Byte :=
  let l := leBytes 4 0x4C485341 ++ leBytes 2 1 ++ leBytes 2 (min 65535 s.ash.clears) ++ leBytes 4 s.ash.clearTime
    ++ leBytes 4 s.ash.headerLost
  l ++ leBytes 2 (crcOf ashCrc l)

/-- A byte of FRAM as the module's own writing has left it: the Ash log's header and records (R28, R581, R582), the copies and the
counters, whose layout is the module's own (R99; log 72). -/
def State.framOwn (s : State) (a : Nat) : Byte :=
  let o := a % 0x10000000
  if o < 2048 then s.ashHeader.getD o 0
  else if o < 0x80000 then
    let n := s.ash.slots.length
    let i := (o - 2048) / 32
    if i < n then
      ((((s.ash.slots[n - 1 - i]?).map (fun r => r.words)).getD []).flatMap (fun w => leBytes 4 w.toNat)).getD ((o - 2048) % 32) 0
    else if (o - 2048) % 32 = 28 ∨ (o - 2048) % 32 = 29 then 0 else Config.memoryByte () a
  else if o < 0xB8000 then Config.memoryByte s.dict.copyA a
  else if o < 0xF0000 then Config.memoryByte s.dict.copyB a
  else Config.memoryByte (s.obj.filter (fun e => keptKey e.1), s.thermal.records) a

/-- A byte of FRAM: what the hearth core's own stores have put there since, else what the module wrote. -/
def State.framByte (s : State) (a : Nat) : Byte := (lookupKey s.fram a).getD (s.framOwn a)

/-- A value of `w` bits that stands in the last 64 KiB of FRAM, once the hearth core has stored there: the same or another, the layout not
being given (R28; log 72). -/
def State.unitValue (s : State) (e : Nat × Nat) : State :=
  let r := s.freeNat
  if r.1 % 2 = 0 then r.2 else r.2.putN e.1 (r.1 / 2 % 2 ^ e.2)

/-- A thermal record that stands there. -/
def State.unitRecord (s : State) (q : ThermalRecord) : ThermalRecord × State :=
  let r := s.freeNat
  if r.1 % 2 = 0 then (q, r.2)
  else
    let w := r.2.freeWord
    (⟨r.1 / 2 % 2 ^ 32, w.1, r.1 / 2 ^ 33 % 256, r.1 / 2 ^ 41 % 256, r.1 / 2 ^ 49 % 2 ^ 32⟩, w.2)

/-- The hearth core has stored in the last 64 KiB of FRAM: start counter, causes, power-cycle count, passcode and thermal records may have
changed (R28; log 72). -/
def State.unitStored (s : State) : State :=
  let s1 := [(Key.startStartCounter, 3), (Key.startCauseLastStart, 32), (Key.startCauseSecondLast, 32), (Key.startCauseThirdLast, 32),
    (Key.supplyPowerCycleCount, 16), (Key.identServicePasscode, 32)].foldl State.unitValue s
  let r := s1.thermal.records.foldl (fun (acc : List ThermalRecord × State) q =>
    let x := acc.2.unitRecord q
    (acc.1 ++ [x.1], x.2)) ([], s1)
  { r.2 with thermal := { r.2.thermal with records := r.1 } }

/-- Kelsis's shared SRAM holds its tables, bindings and outputs (R27), in a layout the manual does not give (log 72). -/
def State.kelsisByte (s : State) (a : Nat) : Byte :=
  Config.memoryByte (s.kelsis, s.obj.filter (fun e => decide (0x300000 ≤ e.1) && decide (e.1 < 0x320000))) a

/-! ### Loads, stores and fetches -/

/-- What an access or an instruction costs: cycles (R439, R447), counter events, and for a sample record the stall cause and the
memory latency (R478). -/
structure Cost where
  cycles  : Nat
  events  : List (Nat × Nat)
  cause   : Nat := 0
  latency : Nat := 0
deriving DecidableEq, Repr

/-- An exception: its code and EVAL (R453). -/
structure Trap where
  code : Nat
  val  : Word
deriving DecidableEq, Repr

def trapLoadAlign (a : Nat) : Trap := ⟨5, BitVec.ofNat 32 a⟩
def trapStoreAlign (a : Nat) : Trap := ⟨6, BitVec.ofNat 32 a⟩
def trapLoadFault (a : Nat) : Trap := ⟨7, BitVec.ofNat 32 a⟩
def trapStoreFault (a : Nat) : Trap := ⟨8, BitVec.ofNat 32 a⟩
def trapGuard (a : Nat) : Trap := ⟨9, BitVec.ofNat 32 a⟩

/-- The hearth core's retention record, which the other cores read in privileged mode only (R440). -/
def hearthRecord (a : Nat) : Bool := decide (0x5000F000 ≤ a) && decide (a < 0x5000F400)

/-- Checks of a load of `w` bytes before the access (R439, R443, R447). -/
def State.loadTrap (s : State) (c : Fin 4) (a w : Nat) : Option Trap :=
  let k := s.cores[c]
  if a % w ≠ 0 then some (trapLoadAlign a)
  else if k.mayAccess a 0 = false then some (trapLoadFault a)
  else match regionOf a with
    | none => some (trapLoadFault a)
    | some .rom => if k.privileged then none else some (trapLoadFault a)
    | some .window => if w = 4 then none else some (trapLoadFault a)
    | some .control => if hearthRecord a ∧ c ≠ 0 ∧ k.privileged = false then some (trapLoadFault a) else none
    | some _ => none

/-- Checks of a store of `w` bytes before the access. -/
def State.storeTrap (s : State) (c : Fin 4) (a w : Nat) : Option Trap :=
  let k := s.cores[c]
  if a % w ≠ 0 then some (trapStoreAlign a)
  else if k.mayAccess a 1 = false then some (trapStoreFault a)
  else match regionOf a with
    | none | some .rom | some .flash | some .kelsis => some (trapStoreFault a)
    | some .window => if w = 4 then none else some (trapStoreFault a)
    | some .control => if hearthRecord a ∧ c ≠ 0 then some (trapStoreFault a) else none
    | some .fram => if c = 0 then none else some (trapStoreFault a)
    | some _ => none

/-- Loads of memory other than the window: `w` bytes at `a`. -/
def State.memLoad (s : State) (c : Fin 4) (a w : Nat) : Word × State :=
  match regionOf a with
  | some .itcm => (BitVec.ofNat 32 (loadBytes (s.cores[c]).itcm a w), s)
  | some .dtcm => (BitVec.ofNat 32 (loadBytes (s.cores[c]).dtcm a w), s)
  | some .sram => (BitVec.ofNat 32 (loadBytes s.sram a w), s)
  | some .flash => (wordFrom s.flashByte a w, s)
  | some .fram => (wordFrom s.framByte a w, s)
  | some .rom => (wordFrom (Config.memoryByte ()) a w, s)
  | some .kelsis => (wordFrom s.kelsisByte a w, s)
  | some .control =>
    let r := s.controlWord c (a % 0x10000000 / 4 * 4)
    (BitVec.ofNat 32 (r.1.toNat / 2 ^ (8 * (a % 4)) % 2 ^ (8 * w)), r.2)
  | _ => (0, s)

/-- Stores to memory other than the window. -/
def State.memStore (s : State) (c : Fin 4) (a w : Nat) (v : Word) : State :=
  let bs := leBytes w v.toNat
  match regionOf a with
  | some .itcm => s.setCore c (fun k => { k with itcm := storeBytes k.itcm a bs })
  | some .dtcm => s.setCore c (fun k => { k with dtcm := storeBytes k.dtcm a bs })
  | some .sram => { s with sram := storeBytes s.sram a bs }
  | some .control => s.controlStore c (a % 0x10000000) w v
  | some .fram =>
    let s1 := { s with fram := bs.zipIdx.foldl (fun m b => writeKey s.framOwn m (a + b.2) b.1) s.fram }
    if 0x600F0000 ≤ a then s1.unitStored else s1
  | _ => s

/-- The time of a flash access through the XIP cache: a hit takes 2 cycles, a miss about 20 (R439); which is free (log 73). -/
def State.xipCost (s : State) : Cost × State :=
  let r := s.freeNat
  if r.1 % 2 = 0 then (⟨2, [(0x12, 1)], 0, 2⟩, r.2) else (⟨2 + r.1 / 2, [(0x04, 1)], 1, 2 + r.1 / 2⟩, r.2)

/-- The cost of a load: a range of R439 is a free number within it. -/
def State.loadCost (s : State) (a : Nat) : Cost × State :=
  match regionOf a with
  | some .rom => (⟨4, [], 0, 4⟩, s)
  | some .flash => s.xipCost
  | some .sram =>
    let r := s.freeNat
    let n := r.1 % 5
    (⟨4 + n, [(0x13, 1), (0x05, n)], if n = 0 then 0 else 3, 4 + n⟩, r.2)
  | some .kelsis =>
    let r := s.freeNat
    (⟨6 + r.1 % 7, [], 0, 6 + r.1 % 7⟩, r.2)
  | some .window => (⟨10, [(0x0C, 1), (0x0D, 9)], 6, 10⟩, s)
  | some .control => (if 0x5000F000 ≤ a then ⟨4, [], 0, 4⟩ else ⟨2, [], 0, 2⟩, s)
  | some .fram => (⟨12, [], 0, 12⟩, s)
  | _ => (⟨2, [], 0, 2⟩, s)

/-- Cycles for which a store of the hearth core to a Cowl unit's DATA waits for the data before it (R575). -/
def State.cowlStall (s : State) (c : Fin 4) (a : Nat) : Nat :=
  if c = 0 ∧ 0x50002000 ≤ a ∧ a < 0x50002100 ∧ a % 0x40 / 4 = 5 then (s.cowl[(Fin.ofNat 4 ((a - 0x50002000) / 0x40))]).busy - (s.cores[c]).cycle else 0

/-- The cost of a store: 1 posted to shared SRAM, 4-8 when the write buffer is full. -/
def State.storeCost (s : State) (c : Fin 4) (a : Nat) : Cost × State :=
  match regionOf a with
  | some .sram =>
    let r := s.freeNat
    let n := r.1 / 2 % 5
    if r.1 % 2 = 0 then (⟨1, [(0x13, 1)], 0, 1⟩, r.2) else (⟨4 + n, [(0x13, 1), (0x05, n)], 3, 4 + n⟩, r.2)
  | some .window => (⟨2, [(0x0C, 1), (0x0D, 1)], 6, 2⟩, s)
  | some .control => (if 0x5000F000 ≤ a then ⟨4, [], 0, 4⟩ else ⟨1 + s.cowlStall c a, [], 0, 1 + s.cowlStall c a⟩, s)
  | some .fram => (⟨12, [], 0, 12⟩, s)
  | _ => (⟨1, [], 0, 1⟩, s)

/-- A fetch at `a` traps (R443, R453). -/
def State.fetchTrap (s : State) (c : Fin 4) (a : Nat) : Option Trap :=
  let k := s.cores[c]
  if a % 4 ≠ 0 then some ⟨3, BitVec.ofNat 32 a⟩
  else if k.mayAccess a 2 = false then some ⟨4, BitVec.ofNat 32 a⟩
  else match regionOf a with
    | some .itcm | some .dtcm | some .sram | some .flash | some .control => none
    | some .rom => if k.privileged then none else some ⟨4, BitVec.ofNat 32 a⟩
    | _ => some ⟨4, BitVec.ofNat 32 a⟩

/-- Cycles a fetch adds to its instruction: none from ITCM, else those a load there takes beyond the first. -/
def State.fetchCost (s : State) (a : Nat) : Cost × State :=
  match regionOf a with
  | some .itcm => (⟨0, [], 0, 0⟩, s)
  | some .sram =>
    let r := s.freeNat
    let n := r.1 % 5
    (⟨3 + n, [(0x05, n)], 1, 0⟩, r.2)
  | _ =>
    let r := s.loadCost a
    (⟨r.1.cycles - 1, r.1.events, r.1.cause, 0⟩, r.2)

end Sys2Proof.Machine
end

