-- ==== Sys2Proof/Machine/Programs.lean ====
section
/-! DEFINITION. Traps and the core monitor (R451-R456), program images and the programs' start and stop (R458-R461). -/

namespace Sys2Proof.Machine

open Sys2Proof

/-! ### Entry and return (R451) -/

/-- Trap entry: EPC, ECAUSE, EVAL, STATUS, and the vector. -/
def Core.enterTrap (k : Core) (epc ecause eval : Word) (offset : Nat) : Core :=
  { k with epc := epc, ecause := ecause, eval := eval, status := statusOf k.privileged true k.ie false,
           pc := k.vbase + BitVec.ofNat 32 offset }

/-- ERET: PC from EPC, IE from PIE, PM from PPM. -/
def Core.trapReturn (k : Core) : Core := { k with pc := k.epc, status := statusOf k.ppm k.ppm k.pie k.pie }

/-- Cycles of a trap entry. -/
abbrev trapCycles : Nat := 12

/-! ### The monitor's keeping of a program -/

/-- The first byte above a program's BSS (R458, R460; log 74). -/
def ImageHeader.stackBottom (h : ImageHeader) : Nat := 0x11000000 + h.dataSize + h.bssSize

/-- The top of the stack: the stack lies above the BSS (log 74). -/
def ImageHeader.stackTop (h : ImageHeader) : Nat := h.stackBottom + h.stackSize

/-- The free stack, sampled at each trap and each WAIT: the least seen (R464). -/
def State.sampleStack (s : State) (c : Fin 4) : State :=
  let k := s.cores[c]
  match k.running with
  | none => s
  | some i =>
    if c = 0 ∨ k.privileged then s
    else
      let n := (k.reg 15).toNat - i.header.stackBottom
      let key := Key.coreStackLowWater c.val
      let m := if k.stackSeen then min n (s.nat key) else n
      (s.setCore c (fun k => { k with stackSeen := true })).putN key m

/-- The monitor holds the core in privileged WAIT, in program state `st` (R456, R461). -/
def State.holdProgram (s : State) (c : Fin 4) (st : Nat) : State :=
  (s.setCore c (fun k =>
    { k with held := true, running := none, waiting := none, frame := none, loadDest := none, status := statusOf k.ppm true k.pie false })).putN
    (Key.coreProgramState c.val) st

/-- The region table of a program (R445). XIP code lies in its slot of the bank started. -/
def State.regionsOf (s : State) (c : Fin 4) (h : ImageHeader) : List (Nat × Nat × Nat) :=
  let slot := (if s.nat Key.startBankStarted = 2 then 0x08800000 else 0x08000000) + 0x400000 + (c.val - 1) * 0x100000
  [ if h.placement = 0 then (0x10000000, h.codeSize, 5) else (slot, 0x100000, 5),
    (0x11000000, h.dataSize + h.bssSize + h.stackSize, 3),
    (0x20100000 + h.sharedOffset, h.sharedKib * 1024, 3),
    (0x40000000, 0x4000000, 3),
    (0x30000000, 0x800000, 1),
    (0x60000000, 0x100000, 1),
    (0x50000000, 0x2000, 3),
    (0x5000F000 + 0x400 * c.val, 0x400, 3) ]

/-- Base word and attribute word of a region of `n` bytes; an empty one is disabled. -/
def regionWords (r : Nat × Nat × Nat) : Word × Word :=
  (BitVec.ofNat 32 (r.1 / 1024 * 1024),
    if r.2.1 = 0 then 0 else BitVec.ofNat 32 ((r.1 + r.2.1 - 1) / 1024 * 1024 + 8 + r.2.2))

/-- The code's first address: ITCM, or the image's slot behind its header. -/
def State.codeStart (s : State) (c : Fin 4) (h : ImageHeader) : Nat :=
  if h.placement = 0 then 0x10000000
  else (if s.nat Key.startBankStarted = 2 then 0x08800000 else 0x08000000) + 0x400000 + (c.val - 1) * 0x100000 + 64

/-- A byte memory with `bs` put at `a` in one go. -/
def overwrite (m : List Host.Cell) (a : Nat) (bs : List Byte) : List Host.Cell :=
  m.filter (fun e => decide (e.1 < a)) ++ (bs.zipIdx a).filterMap (fun b => if b.1 = 0 then none else some (b.2, b.1))
    ++ m.filter (fun e => decide (a + bs.length ≤ e.1))

/-- A byte memory with `n` bytes at `a` cleared. -/
def blank (m : List Host.Cell) (a n : Nat) : List Host.Cell :=
  m.filter (fun e => decide (e.1 < a) || decide (a + n ≤ e.1))

/-- The image's CRC over header, code and data agrees (R458). -/
def ProgramImage.crcOk (i : ProgramImage) : Bool :=
  let n := 64 + i.header.codeSize + i.header.dataSize
  leNat ((i.raw.drop n).take 4) == crcOf configCrc (i.raw.take n) && decide (n + 4 ≤ i.raw.length)

/-- The monitor puts the program in place and enters user mode at ENTRY (R445, R460). -/
def State.enterProgram (s : State) (c : Fin 4) (i : ProgramImage) : State :=
  let h := i.header
  let entry := BitVec.ofNat 32 (s.codeStart c h + h.entry)
  let words := (s.regionsOf c h).map regionWords
  let handler := h.handler != 0xFFFFFFFF
  let s1 := s.setCore c (fun k =>
    { k with
      itcm := if h.placement = 0 then overwrite k.itcm 0x10000000 ((i.raw.drop 64).take h.codeSize) else k.itcm,
      dtcm := blank (overwrite k.dtcm 0x11000000 ((i.raw.drop (64 + h.codeSize)).take h.dataSize)) (0x11000000 + h.dataSize) h.bssSize,
      regs := (Vector.replicate 16 0).set 15 (BitVec.ofNat 32 h.stackTop),
      regionBase := Vector.ofFn (fun (n : Fin 8) => (words.getD n.val (0, 0)).1),
      regionAttr := Vector.ofFn (fun (n : Fin 8) => (words.getD n.val (0, 0)).2),
      epc := entry, pc := entry, status := statusOf false false handler handler,
      held := false, debugHalt := false, stopped := none, waiting := none, frame := none, loadDest := none, running := some i })
  ((s1.putN (Key.coreProgramState c.val) 2).putN (Key.coreImageID c.val) h.imageId).putN (Key.coreLevelGranted c.val) h.level

/-- Start the program of a Stoker core: its slot is verified by its CRC again, `intact` saying that the flash reads back what was
stored; a slot once found damaged stays so until it is written or erased (R460, R463; log 176). A running program is left alone (R461);
an empty slot has nothing to start. -/
def State.programStart (s : State) (c : Fin 4) (intact : Bool) : State :=
  if c = 0 ∨ s.nat (Key.coreProgramState c.val) = 2 then s
  else match s.images.toList.getD (c.val - 1) none with
    | none => s
    | some i =>
      if intact && !i.damaged && i.crcOk then s.enterProgram c i
      else
        (({ s with images := s.images.set! (c.val - 1) (some { i with damaged := true }) }).putN (Key.imagesSlotStatus (c.val - 1)) 2).log
          0x0E03 c.val c.val

/-- STOP (R461); the cycle it comes in is kept for a trap of the same cycle (R462). -/
def State.programStop (s : State) (c : Fin 4) : State :=
  if c ≠ 0 ∧ s.nat (Key.coreProgramState c.val) = 2 then
    (s.setCore c (fun k => { k with stopped := if k.privileged then none else some (k.cycle, k.status) })).holdProgram c 3
  else s

/-- RESTART: the program starts again from its image. -/
def State.programRestart (s : State) (c : Fin 4) (intact : Bool) : State := (s.programStop c).programStart c intact

/-- A command of 0x3400+n:02 takes effect. -/
def State.programCommand (s : State) (c : Fin 4) (v : Nat) (intact : Bool) : State :=
  match v with
  | 1 => s.programStart c intact
  | 2 => s.programStop c
  | 3 => s.programRestart c intact
  | _ => s

/-- The Stoker cores. -/
abbrev stokers : List (Fin 4) := [1, 2, 3]

/-- Programs stop: all of them, or those without autostart (R461, R609). -/
def State.programsStop (s : State) : State := stokers.foldl (fun s c => s.programStop c) s
def State.programsToStopped (s : State) : State :=
  stokers.foldl (fun s c => if s.flag (Key.coreAutostart c.val) then s else s.programStop c) s

/-- Programs with autostart start at the first STOPPED, every other loaded program at ARM (R461); a halted core waits for its START
(R456). -/
def State.programsAutostart (s : State) : State :=
  stokers.foldl (fun s c => if s.flag (Key.coreAutostart c.val) then s.programStart c true else s) s
def State.programsArm (s : State) : State :=
  stokers.foldl (fun s c => if s.flag (Key.coreAutostart c.val) ∨ s.nat (Key.coreProgramState c.val) = 5 then s else s.programStart c true) s

/-! ### Traps (R453, R456) -/

/-- The trap is recorded in the core's object (R456, R464). -/
def State.recordTrap (s : State) (c : Fin 4) : State :=
  let k := s.cores[c]
  ((((s.putW (Key.coreLastECAUSE c.val) k.ecause).putW (Key.coreLastEPC c.val) k.epc).putW (Key.coreLastEVAL c.val) k.eval).bump 32
    (Key.coreTraps c.val)).log 0x0E01 c.val c.val k.ecause.toNat k.epc.toNat

/-- The trap action: STOP, or RESTART up to three times within an hour (R456). -/
def State.trapAction (s : State) (c : Fin 4) : State :=
  if s.nat (Key.coreTrapAction c.val) = 1 ∧ s.coreRestarts c < 3 then
    let s1 := s.setCore c (fun k =>
      { k with restarts := s.clock.op :: k.restarts.filter (fun t => decide (s.clock.op ≤ t + 3600 * unitsPerSecond)) })
    let s2 := s1.holdProgram c 4
    s2.programStart c true
  else s.holdProgram c 4

/-- The instruction under way is the tagged one (R478). -/
def Core.tagged (k : Core) : Bool := k.sampleTag && k.flight.any (fun r => !r.retired && !r.flushed && !r.trapped)

/-- The tagged instruction was fetched behind one that leaves the sequence: it is flushed, at an address and with times that the manual does
not fix (R478; log 73). -/
def State.flushTagged (s : State) (c : Fin 4) : State :=
  if (s.cores[c]).sampleTag && !(s.cores[c]).tagged then
    let r : SampleRecord :=
      { SampleRecord.reset with pc := Config.freeWord s.free, word := Config.freeWord (s.free + 1), cycleLo := Config.freeWord (s.free + 2),
                                stages := Config.freeWord (s.free + 3) &&& 0xFFFFFF00, valid := true, flushed := true }
    ({ s with free := s.free + 4 }).setCore c (fun k => { k with flight := some r, sampleTag := false })
  else s

/-- An instruction of core `c` raises an exception: entry (R451), then what the monitor or the module does (R456). `dest` is the
destination of a refused window load, for GUARD_MODE SKIP. -/
def State.raiseTrap (s : State) (c : Fin 4) (t : Trap) (dest : Fin 16) : State :=
  let k := s.cores[c]
  let user := !k.privileged
  let at_ := k.pc
  let evs := [(0x0F, 1)] ++ (if t.code = 9 then [(0x0E, 1)] else []) ++ (if t.code = 10 then [(0x10, 1)] else [])
  let s1 := (((s.sampleStack c).passCycles c trapCycles).countEvent c 0x02 trapCycles).flushTagged c
  let s2 := (s1.setCore c (fun k => { (k.enterTrap at_ (BitVec.ofNat 32 t.code) t.val 0) with
              flight := if k.tagged then k.flight.map (fun r => { r with trapped := true }) else k.flight,
              sampleTag := false, loadDest := none })).countEvents c evs
  if c = 0 then s2.enterReset 1
  else if user = false then
    (s2.setCore c (fun k => { k with held := true, running := none, waiting := none, frame := none })).putN (Key.coreProgramState c.val) 5
      |>.log 0x0E02 c.val c.val t.code at_.toNat
  else if t.code = 9 ∧ k.running.any (fun i => i.header.guardMode == 1) then
    (s2.setCore c (fun k => { (k.trapReturn).setReg dest 0 with pc := at_ + 4, epc := at_ + 4 })).bump 32 (Key.coreGuardRefusalsSkipped c.val)
  else (s2.recordTrap c).trapAction c

/-! ### Images (R458, R459) -/

/-- The header of an image (R458). -/
def parseHeader (raw : List Byte) : ImageHeader :=
  let u := fun (a n : Nat) => leNat ((raw.drop a).take n)
  { level := u 6 1, coresMask := u 7 1, imageId := u 8 4, build := u 12 4, codeSize := u 16 4, dataSize := u 20 4, bssSize := u 24 4,
    stackSize := u 28 4, entry := u 32 4, handler := u 36 4, placement := u 40 1, guardMode := u 41 1, sharedKib := u 42 2,
    sharedOffset := u 44 4 }

/-- The header's fields are valid for core `c` (R118, R458, R460). -/
def headerOk (c : Fin 4) (raw : List Byte) : Bool :=
  let h := parseHeader raw
  let u := fun (a n : Nat) => leNat ((raw.drop a).take n)
  decide (64 ≤ raw.length) && u 0 4 == 0x4B524C56 && u 4 2 == 1 && decide (h.level ≤ 1) && h.coresMask &&& 0xF1 == 0
    && h.coresMask.testBit c.val && h.codeSize % 4 == 0 && decide (h.entry < h.codeSize)
    && (h.handler == 0xFFFFFFFF || decide (h.handler < h.codeSize)) && decide (h.placement ≤ 1) && decide (h.guardMode ≤ 1)
    && h.sharedOffset % 1024 == 0 && decide (h.sharedKib ≤ 1024) && decide (h.sharedOffset + h.sharedKib * 1024 ≤ 0x100000)
    && ((raw.drop 48).take 16).all (fun b => b == 0)

/-- The size limits (R458). -/
def ImageHeader.sizesOk (h : ImageHeader) : Bool :=
  decide (h.codeSize ≤ if h.placement = 0 then 114688 else 917504) && decide (h.dataSize + h.bssSize + h.stackSize ≤ 57344)

/-- What the checks find in an image for core `c`, in their order, header, size limits, CRC, signature: the slot status of the first
that fails (R459). -/
def State.imageFault (s : State) (c : Fin 4) (raw : List Byte) : Option Nat :=
  let i : ProgramImage := { header := parseHeader raw, raw := raw, damaged := false }
  let n := 64 + i.header.codeSize + i.header.dataSize
  if headerOk c raw = false then some 4
  else if i.header.sizesOk = false then some 5
  else if i.crcOk = false ∨ raw.length ≠ n + 68 then some 2
  else if Config.imageSigned (s.block Key.imagesOwnerKeyHash) (raw.take (n + 4)) (raw.drop (n + 4)) = false then some 3
  else none

/-- An image that fails its checks is refused whole: the slot status, and 0x0D01 for its signature (R459). -/
def State.imageRefuse (s : State) (p : Path) (c : Fin 4) (st : Nat) : State :=
  ((if st = 3 then s.log 0x0D01 noSource (0x10 + c.val) else s).putN (Key.imagesSlotStatus (c.val - 1)) st).refuse p
    (.range (Key.imagesImage (c.val - 1)))

/-- A valid image is stored, in both banks. -/
def State.imageStore (s : State) (c : Fin 4) (raw : List Byte) : State :=
  let h := parseHeader raw
  let s1 := { s with images := s.images.set! (c.val - 1) (some { header := h, raw := raw, damaged := false }), power := { s.power with bankModified := true } }
  ((s1.putN (Key.imagesSlotStatus (c.val - 1)) 1).putN (Key.imagesSlotId (c.val - 1)) h.imageId).putN (Key.coreProgramState c.val) 1

/-- A write of the image of core `c` has passed the dictionary's checks (R459). -/
def State.imageWrite (s : State) (p : Path) (c : Fin 4) (raw : List Byte) : State :=
  match s.imageFault c raw with
  | some st => s.imageRefuse p c st
  | none => (s.imageStore c raw).answer p .done

/-- Erase a slot (R465). -/
def State.eraseSlot (s : State) (n : Nat) : State :=
  if n < 1 ∨ 3 < n then s
  else
    let s1 := { s with images := s.images.set! (n - 1) none, power := { s.power with bankModified := true } }
    ((s1.putN (Key.imagesSlotStatus (n - 1)) 0).putN (Key.imagesSlotId (n - 1)) 0).putN (Key.coreProgramState n) 0

/-- Clear the statistics of a core (R464). -/
def State.coreStatsClear (s : State) (c : Nat) : State :=
  (s.zero [Key.coreTraps c, Key.coreStackLowWater c, Key.coreGuardRefusalsSkipped c]).setCore (Fin.ofNat 4 c) (fun k => { k with stackSeen := false })

end Sys2Proof.Machine
end

