-- ==== Sys2Proof/Machine/Saving.lean ====
section
/-! DEFINITION. The saved configuration (R133-R135): store and restore, the two FRAM copies, the base configuration check value. -/

namespace Sys2Proof.Machine

open Sys2Proof

/-! ### The check value (R135) -/

/-- The stream of one subindex: index, subindex, length and value. -/
def streamItem (base : List (Nat × Int)) (blk : List (Nat × List Byte)) (key : Nat) (r : Row) : List Byte :=
  let bs := if r.ty.isBlock then readKey blkDefault blk key else r.ty.bytesOf (readKey objDefault base key)
  leBytes 2 (key / 256) ++ leBytes 1 (key % 256) ++ leBytes 2 bs.length ++ bs

/-- A subindex of the stream: a configuration subindex outside the overlays and the active mode. -/
def inStream (key : Nat) : Bool := isConfig key && !(Nat.ble 0x2110 (key / 256) && Nat.ble (key / 256) 0x211F)

/-- The stream over a base configuration, in ascending order. -/
def configStream (base : List (Nat × Int)) (blk : List (Nat × List Byte)) : List Byte :=
  objectBlocks.flatMap (fun b => (List.range b.count).flatMap (fun i => b.rows.flatMap (fun r =>
    (List.range (r.hi + 1 - r.lo)).flatMap (fun j =>
      let key := (b.base + i) * 256 + r.lo + j
      if inStream key then streamItem base blk key r else []))))

/-- The check value of a configuration. -/
def checkValueOf (base : List (Nat × Int)) (blk : List (Nat × List Byte)) : Nat :=
  crcOf configCrc (configStream base blk)

/-- CHECK_VALUE_RECOMPUTE: the running check value follows a change within 100 ms. -/
def execCheckValueRecompute (s : State) : Host.Outcome State Fault Refusal :=
  .next (if s.clocksRun && s.dict.crcDirty then
      { (s.putN Key.cfgRunningCheckValue (checkValueOf s.base s.blk)) with dict := { s.dict with crcDirty := false } }
    else s)

/-! ### Parts (R134) -/

/-- The contents a copy holds of a store of keys: those of configuration subindexes (R133). -/
def configBlocks (blk : List (Nat × List Byte)) : List (Nat × List Byte) := blk.filter (fun e => isConfig e.1)

/-- Copies A and B are written in FRAM: nothing else that stood there remains (R28). -/
def State.copiesWritten (s : State) : State := s.framWrote 0x60080000 0x70000

/-- Both copies are written with what is now the saved configuration; the saved check value follows (R134, R135). -/
def State.writeCopies (s : State) (c : FramCopy) : State :=
  let s1 := { s.copiesWritten with dict := { s.dict with copyA := c, copyB := c, saved := c } }
  s1.putN Key.cfgSavedCheckValue (checkValueOf c.values c.blocks)

/-- The mode field of each copy is written and its sequence number counts up (R149). -/
def State.saveMode (s : State) (m : Nat) : State :=
  let f := fun (c : FramCopy) => ({ c with mode := m, seq := c.seq + 1 } : FramCopy)
  { s.copiesWritten with dict := { s.dict with copyA := f s.dict.copyA, copyB := f s.dict.copyB, saved := f s.dict.saved } }

/-- A store begins: its part as committed now. -/
def State.storeStart (s : State) (p : Path) (part : Fin 3) : State :=
  { s with dict := { s.dict with saveOp := some ⟨false, part.val, p, s.base.filter (fun e => inPart part e.1),
      (configBlocks s.blk).filter (fun e => inPart part e.1)⟩ } }

/-- A restore begins. -/
def State.restoreStart (s : State) (p : Path) (part : Fin 3) : State :=
  { s with dict := { s.dict with saveOp := some ⟨true, part.val, p, [], []⟩ } }

/-- The operation in progress completes: both copies are written, the response is sent, 0x0A03 or 0x0A04 logged (R134). -/
def State.saveDone (s : State) (restore : Bool) : State :=
  match s.dict.saveOp with
  | none => s
  | some o =>
    if o.restore = restore then
      let c := s.savedCopy o
      let s1 := { (s.writeCopies c) with dict := { (s.writeCopies c).dict with saveOp := none } }
      (s1.log (if restore then 0x0A04 else 0x0A03) noSource).answer o.path .done
    else s

/-- A checked request on a path stays unanswered until the operation completes. -/
def State.saveCommand (s : State) (p : Path) (key v : Nat) (f : State → State) : State :=
  s.writeNow p key (leBytes 4 v) (fun s _ => f s)

/-- STORE_PARAMETERS: "save" written to 0x1010:01-03. -/
def execStoreParameters (p : Path) (part : Fin 3) (value : Nat) (s : State) : Host.Outcome State Fault Refusal :=
  .next (s.saveCommand p (Key.storeStore part.val) value (fun s => s.storeStart p part))

/-- RESTORE_DEFAULTS: "load" written to 0x1011:01-03. -/
def execRestoreDefaults (p : Path) (part : Fin 3) (value : Nat) (s : State) : Host.Outcome State Fault Refusal :=
  .next (s.saveCommand p (Key.restoreRestore part.val) value (fun s => s.restoreStart p part))

/-- RESTORE_DONE: it takes effect at the next start. -/
def execRestoreDone (s : State) : Host.Outcome State Fault Refusal := .next (s.served (fun s => s.saveDone true))

/-- A whole configuration image replaces both copies (R112): base configuration and overlays; the active mode and the running
values stay (log 62). -/
def State.configImage (s : State) (bs : List Byte) : State :=
  let old := s.dict.saved
  s.writeCopies { values := (Config.configImageValues bs).filter (fun e => isConfig e.1),
                  blocks := (Config.configImageBlocks bs).filter (fun e => isConfig e.1), mode := old.mode, seq := old.seq + 1, torn := false }

end Sys2Proof.Machine
end

