-- ==== Sys2Proof/Machine/Images.lean ====
section
/-! DEFINITION. Commands to programs and images: program start and stop, program images, firmware and configuration images, the
debug port (R30, R43, R98, R112, R459-R465). -/

namespace Sys2Proof.Machine

open Sys2Proof

/-- PROGRAM_START: START of 0x3400+n:02; `intact` is what the CRC finds in the slot. -/
def execProgramStart (p : Path) (c : Fin 4) (intact : Bool) (s : State) : Host.Outcome State Fault Refusal :=
  .next (s.commanded p (Key.coreCommand c.val) 1 (fun s => s.programStart c intact))

/-- PROGRAM_STOP. -/
def execProgramStop (p : Path) (c : Fin 4) (s : State) : Host.Outcome State Fault Refusal :=
  .next (s.commanded p (Key.coreCommand c.val) 2 (fun s => s.programStop c))

/-- PROGRAM_RESTART. -/
def execProgramRestart (p : Path) (c : Fin 4) (intact : Bool) (s : State) : Host.Outcome State Fault Refusal :=
  .next (s.commanded p (Key.coreCommand c.val) 3 (fun s => s.programRestart c intact))

/-- The bank a firmware image is written into: the one not running; with none running, in Kindling mode, the one an update has begun in,
else a free one (log 78). -/
def State.updateBank (s : State) : Nat × State :=
  let b := s.nat Key.startBankStarted
  if b = 1 then (2, s) else if b = 2 then (1, s)
  else if s.startup.bankA.incomplete then (1, s)
  else if s.startup.bankB.incomplete then (2, s)
  else
    let r := s.freeNat
    (1 + r.1 % 2, r.2)

/-- A firmware image arrives (R30, R98): the bank is INCOMPLETE until its last page is written and checked (`done`). -/
def State.firmwareWrite (s : State) (bs : List Byte) (done : Bool) : State :=
  let r := s.updateBank
  let image : FlashBank := if done then ⟨some bs.length, false, Config.firmwareVersion bs, bs⟩ else ⟨some bs.length, true, 0, bs⟩
  let key := if r.1 = 1 then Key.startBankAStatus else Key.startBankBStatus
  let s1 := if r.1 = 1 then { r.2 with startup := { r.2.startup with bankA := image } }
    else { r.2 with startup := { r.2.startup with bankB := image } }
  s1.putN key (if done then 4 else 1)

/-- The first segment of a firmware image marks its bank INCOMPLETE (R30, R98). -/
def State.firmwareBegins (s : State) (key : Nat) : State :=
  if key = Key.startFirmwareImage then
    let r := s.updateBank
    let s1 := if r.1 = 1 then { r.2 with startup := { r.2.startup with bankA := { r.2.startup.bankA with incomplete := true } } }
      else { r.2 with startup := { r.2.startup with bankB := { r.2.startup.bankB with incomplete := true } } }
    s1.putN (if r.1 = 1 then Key.startBankAStatus else Key.startBankBStatus) 1
  else s

/-- The core whose slot a subindex is the image of. -/
def imageSlot (key : Nat) : Option (Fin 4) :=
  if key = Key.imagesImage 0 then some 1 else if key = Key.imagesImage 1 then some 2 else if key = Key.imagesImage 2 then some 3 else none

/-- Images: firmware, configuration, programs (R98, R112, R459). -/
def isImage (key : Nat) : Bool :=
  key == Key.startFirmwareImage || key == Key.startConfigurationImage || (imageSlot key).isSome

/-- A committed image (R126). -/
def State.imageData (s : State) (key : Nat) (bs : List Byte) : State :=
  if key = Key.startFirmwareImage then s.firmwareWrite bs true
  else if key = Key.startConfigurationImage then s.configImage bs
  else match imageSlot key with
    | some c => s.imageStore c bs
    | none => s

/-- PROGRAM_IMAGE_WRITE to the slot of a Stoker core. -/
def execProgramImageWrite (p : Path) (c : Fin 4) (data : List Byte) (s : State) : Host.Outcome State Fault Refusal :=
  .next (if c = 0 then s else s.writeNow p (Key.imagesImage (c.val - 1)) data (fun s _ => s.imageWrite p c data))

/-- ERASE_SLOT. -/
def execEraseSlot (p : Path) (slot : Nat) (s : State) : Host.Outcome State Fault Refusal :=
  .next (s.commanded p Key.imagesEraseSlot slot (fun s => s.eraseSlot slot))

/-- FIRMWARE_IMAGE_WRITE: an update under way, or complete. -/
def execFirmwareImageWrite (p : Path) (data : List Byte) (done : Bool) (s : State) : Host.Outcome State Fault Refusal :=
  .next (s.writeNow p Key.startFirmwareImage data (fun s _ => (s.firmwareWrite data done).answer p .done))

/-- CONFIGURATION_IMAGE_WRITE. -/
def execConfigurationImageWrite (p : Path) (data : List Byte) (s : State) : Host.Outcome State Fault Refusal :=
  .next (s.writeNow p Key.startConfigurationImage data (fun s _ => (s.configImage data).answer p .done))

/-- CORE_STATISTICS_CLEAR. -/
def execCoreStatisticsClear (p : Path) (c : Fin 4) (s : State) : Host.Outcome State Fault Refusal :=
  .next (s.commanded p (Key.coreClearStatistics c.val) 1 (fun s => s.coreStatsClear c.val))

/-- DEBUG_UNLOCK: a signed challenge has succeeded on the debug pins (R43). -/
def execDebugUnlock (s : State) : Host.Outcome State Fault Refusal :=
  .next (({ s with startup := { s.startup with debugOpen := true } }).log 0x0D02 noSource)

end Sys2Proof.Machine
end

