-- ==== Sys2Proof/Machine/Thermal.lean ====
section
/-! DEFINITION. Thermal management (R601-R619): demands and conversions, broken sensors, throttle groups, bank disable,
shutdown, cold hold and restart, the derating factor. -/

namespace Sys2Proof.Machine

open Sys2Proof

/-! ### Levels (R604) -/

abbrev levelThrottle (i : Nat) : Word := [0x42DC0000, 0x42DC0000, 0x43070000, 0x43070000, 0x42E60000, 0x42BE0000].getD i 0
abbrev levelRelease (i : Nat) : Word := [0x42C80000, 0x42C80000, 0x42FA0000, 0x42FA0000, 0x42D20000, 0x42B40000].getD i 0
abbrev levelShutdown (i : Nat) : Word := [0x42FA0000, 0x42FA0000, 0x43160000, 0x43160000, 0x43020000, 0x42D20000].getD i 0
abbrev levelHard (i : Nat) : Word := [0x43070000, 0x43070000, 0x43200000, 0x43200000, 0x430C0000, 0x42DC0000].getD i 0

/-- Two readings differ by more than 20 °C, exactly (R606). -/
def apart20 (x y : Word) : Bool :=
  let a := ratioOf x
  let b := ratioOf y
  decide ((a.1 * Int.ofNat b.2 - b.1 * Int.ofNat a.2).natAbs > 20 * a.2 * b.2)

/-- The thresholds of R604 that lie between two readings: throttle, shutdown, hard and restart are reached at or above the
level, release at or below it; each crossing either way raises the sensor's source (R617). -/
def levelsCrossed (i : Nat) (old new : Word) : Nat :=
  let up := [levelThrottle i, levelShutdown i, levelHard i, thermalRestartLevel i].filter (fun v => fle v old != fle v new)
  let down := [levelRelease i].filter (fun v => fle old v != fle new v)
  up.length + down.length

/-- The throttle group of a sensor: 0 EST, 1 bank A, 2 bank B (R605). -/
def throttleGroup (i : Fin 6) : Nat := if i = 2 then 1 else if i = 3 then 2 else 0

/-- The sensors of a group. -/
def groupSensors (g : Nat) : List (Fin 6) := if g = 0 then [0, 1, 4, 5] else if g = 1 then [2] else [3]

/-- What a conversion finds (R606). -/
def State.sensorBroken (s : State) (i : Nat) : Bool := s.bitOf Key.thermalStatus (8 + i)

/-- Raise source 234 + i some times. -/
def State.raiseThermal (s : State) (i : Nat) : Nat → State
  | 0 => s
  | n + 1 => (s.raiseSource (234 + i)).raiseThermal i n

/-- Change what the manager keeps of a sensor. -/
def State.setSensor (s : State) (i : Fin 6) (f : ThermalSensor → ThermalSensor) : State :=
  { s with thermal := { s.thermal with sensors := s.thermal.sensors.set i (f s.thermal.sensors[i]) } }

/-! ### Reactions -/

/-- Targets of the PROPORTIONAL channels under the caps now in force (R377). -/
def State.serveProps (s : State) : State := (List.finRange 20).foldl (fun s (a : Fin 20) => (s.serveProp a).claimChanged a) s

/-- A group enters throttling (R605). -/
def State.throttle (s : State) (g : Nat) (i : Fin 6) (r : Word) : State :=
  if s.bitOf Key.thermalStatus g then s
  else ((s.putBit Key.thermalStatus g true).log 0x0201 noSource g i.val r.toNat).serveProps

/-- A group leaves throttling when each of its sensors is valid and at or below its release level (R605). -/
def State.release (s : State) (g : Nat) (i : Fin 6) (r : Word) : State :=
  let cool := (groupSensors g).all (fun (j : Fin 6) => !s.sensorBroken j && fle (s.word (Key.thermalTS j)) (levelRelease j))
  if s.bitOf Key.thermalStatus g && cool then
    ((s.putBit Key.thermalStatus g false).log 0x0202 noSource g i.val r.toNat).serveProps
  else s

/-- A bank is disabled: bank 1 is A, 2 is B (R610). -/
def State.disableBank (s : State) (bank : Nat) : State :=
  if s.bitOf Key.thermalStatus (3 + bank) then s
  else ((s.putBit Key.thermalStatus (3 + bank) true).actBankOff (bank - 1)).log 0x0205 noSource bank

/-- A firmware update that is under way is abandoned; its bank stays INCOMPLETE (R611). -/
def State.firmwareAbandon (s : State) : State :=
  let key := Key.startFirmwareImage
  let out := s.dict.staged.filter (fun w => w.key == key)
  let s1 := { s with
    dict := { s.dict with staged := s.dict.staged.filter (fun w => w.key != key) },
    flue := { s.flue with doms := s.flue.doms.filter (fun t => t.req.index % 65536 * 256 + t.req.sub % 256 != key) },
    canopen := { s.canopen with sdo := if s.canopen.sdo.key = key then .idle else s.canopen.sdo } }
  out.foldl (fun s w => s.refuse w.path (.state key)) s1

/-- A module shutdown by sensor `w` (0xFF two broken): outputs to the reset state, Kelsis, loops and programs stop, FAULT, the
thermal record, cold hold (R608, R609, R612). In cold hold the module is shut down already. -/
def State.thermalShutdown (s : State) (w : Nat) (r : Word) : State :=
  if s.coldHold then s
  else
    let entry : ThermalRecord := ⟨w, r, s.process, s.nat Key.modeActiveMode, s.nat Key.cfgSavedCheckValue⟩
    let s1 := ((s.putBit Key.thermalStatus 6 true).actsOff).kelsisHalt.loopsOff.programsStop.firmwareAbandon
    let s2 := { s1.unitWrote with thermal := { s1.thermal with records := (entry :: s1.thermal.records).take 4 } }
    let s3 := ((s2.putN Key.thermalLastShutdownSensor w).putW Key.thermalLastShutdownReading r).bump 32 Key.thermalShutdowns
    let s4 := { s3 with thermal := { s3.thermal with shut := true } }
    let s5 := s4.log 0x0203 noSource w 0 r.toNat
    -- Kindling mode is left only as R107 says
    (if s.process = psKindling then s5 else s5.enterFault 0x0203).serveDrives.serveOutputs

/-- A sensor becomes broken: 1 open, 2 short, 3 jump (R606); R607 decides what it counts as. -/
def State.breakSensor (s : State) (i : Fin 6) (why : Nat) (r : Word) : State :=
  let s1 := (((s.putBit Key.thermalStatus (8 + i.val) true).setSensor i (fun q => { q with good := 0 })).log 0x0204 i.val 0 why
    r.toNat).raiseSource (234 + i.val)
  if throttleGroup i = 0 then
    let broken := (groupSensors 0).filter (fun (j : Fin 6) => s1.sensorBroken j)
    let s2 := s1.throttle 0 i r
    if 2 ≤ broken.length then s2.thermalShutdown 0xFF r else s2
  else s1.disableBank (throttleGroup i)

/-- A valid reading against the levels of R604 (R605, R608, R610, R616): at its shutdown level only the shutdown or the bank
disable follows. -/
def State.judgeReading (s : State) (i : Fin 6) (r : Word) : State :=
  let s1 := s.raiseThermal i.val (levelsCrossed i.val (s.thermal.sensors[i]).valid r)
  let s2 := if i = 5 then
      (if fle (levelThrottle 5) r then s1.putBit Key.thermalStatus 3 true
       else if fle r (levelRelease 5) then s1.putBit Key.thermalStatus 3 false else s1)
    else s1
  let s3 := s2.setSensor i (fun q => { q with valid := r, known := true })
  let g := throttleGroup i
  if fle (levelShutdown i.val) r then
    (if g = 0 then s3.thermalShutdown i.val r
     else
      let s4 := s3.disableBank g
      if fle (levelHard i.val) r then s4.thermalShutdown i.val r else s4)
  else if fle (levelThrottle i.val) r then s3.throttle g i r
  else s3.release g i r

/-- A conversion's finding about its sensor (R606). -/
def State.judgeSensor (s : State) (i : Fin 6) (r : ThermalReading) : State :=
  let q := s.thermal.sensors[i]
  if s.sensorBroken i then
    let good := if r.isOpen || r.isShort || apart20 r.value q.last then 0 else q.good + 1
    if 3 ≤ good then
      (s.setSensor i (fun q => { q with good := 0, valid := r.value, known := true })).putBit Key.thermalStatus (8 + i.val) false
    else s.setSensor i (fun q => { q with good := good })
  else if r.isOpen then s.breakSensor i 1 r.value
  else if r.isShort then s.breakSensor i 2 r.value
  else if q.known && apart20 r.value q.valid then s.breakSensor i 3 r.value
  else s.judgeReading i r.value

/-! ### Cold hold's end and restarts (R612, R613) -/

/-- The restoring cold start of R613: what the newest thermal record keeps is restored once the start is confirmed. -/
def State.thermalRestartNow (s : State) : State :=
  let r := s.thermal.records.head?.map (fun (e : ThermalRecord) => (⟨e.process, e.mode, e.check, 0, 0, false⟩ : Retention))
  ({ s with thermal := { s.thermal with restore := r } }).enterReset 1

/-- Cold hold ends: an automatic restart where allowed, else FAULT with the outputs of R109. -/
def State.coldHoldEnd (s : State) : State :=
  let s1 := { (s.putBit Key.thermalStatus 6 false) with thermal := { s.thermal with shut := false } }
  if s.flag Key.thermalAutomaticRestart && decide (s.restartsLastHour < 3) then
    ({ s1 with thermal := { s1.thermal with restarts := s1.clock.op :: s1.thermal.restarts.take 2 } }).thermalRestartNow
  else if s1.process = psKindling then s1
  else (s1.actsSafe.serveDrives).serveOutputs

/-- Every sensor valid and below its restart level (R104, R612). -/
def State.allCool (s : State) : Bool :=
  (List.finRange 6).all (fun (i : Fin 6) => !s.sensorBroken i && !fle (thermalRestartLevel i) (s.word (Key.thermalTS i)))

/-! ### The commands -/

/-- Answer the readers whose demand is met (R603). -/
def State.answerReaders (s : State) : State :=
  let met := s.thermal.readers.filter (fun r => r.begin_.isEmpty && r.end_.isEmpty)
  let rest := s.thermal.readers.filter (fun r => !(r.begin_.isEmpty && r.end_.isEmpty))
  met.foldl (fun s r => s.answer r.path (.value (s.get (Key.thermalTS r.sensor)))) { s with thermal := { s.thermal with readers := rest } }

/-- THERMAL_CONVERSION_END: the conversion under way ends; with none under way nothing ends (never in BANKED or EMBER, R601). -/
def execThermalConversionEnd (r : ThermalReading) (s : State) : Host.Outcome State Fault Refusal :=
  .next (s.served (fun s => match s.thermal.converting with
    | none => s
    | some i =>
      let readers := s.thermal.readers.map (fun q => { q with end_ := q.end_.filter (fun j => j != i) })
      let th : Thermal := { s.thermal with converting := none, latest := i, lastTick := s.thermal.lastTick.set i (some s.clock.tick), readers := readers }
      let s1 := ((({ s with thermal := th.serve }).putW (Key.thermalTS i) r.value).bump 32 Key.thermalMeasurements).answerReaders
      let s2 := (s1.judgeSensor i r).setSensor i (fun q => { q with last := r.value })
      if s2.coldHold && s2.allCool then s2.coldHoldEnd else s2))

/-- T_amb: the ambient channel's value while it is OK or SUSPECT, else TS5 (R614). -/
def State.ambient (s : State) : Word :=
  let c := s.nat Key.thermalAmbientChannel
  if c != 0xFF && s.channelGood c then s.word (Key.chanValue c) else s.word (Key.thermalTS 5)

/-- The derating factor in 0.01 % for T_amb = n / d (R614); between two hundredths of a per cent left open (log 34). -/
def State.formDerating (s : State) : State :=
  let t := s.ambient
  let q := ratioOf t
  let d := Int.ofNat q.2
  let f : Int × State :=
    if q.1 ≤ 60 * d then (10000, s) else if 85 * d ≤ q.1 then (5000, s) else s.freeRound (22000 * d - 200 * q.1) q.2
  (((f.2.putW Key.thermalAmbientInUse t).put Key.thermalDeratingFactor f.1).putBit Key.thermalStatus 7 (decide (60 * d < q.1))).serveProps

/-- THERMAL_SCHEDULE: a demand for all sensors, never in BANKED or EMBER (R601), and the derating factor (R614). -/
def execThermalSchedule (s : State) : Host.Outcome State Fault Refusal :=
  .next (if s.clocksRun then (s.thermalDemands [0, 1, 2, 3, 4, 5]).formDerating else s)

/-- A reader over CAN, Flue or the service port, answered once the demand is met (R603). -/
def State.thermalReader (s : State) (p : Path) (i : Fin 6) : State :=
  let all : List (Fin 6) := [0, 1, 2, 3, 4, 5]
  ({ s with thermal := { s.thermal with readers := s.thermal.readers ++ [(⟨p, i, all, []⟩ : ThermalReader)] } }).thermalDemands all

/-- THERMAL_READ of TS(i): a core is answered at once (R603). -/
def execThermalRead (p : Path) (i : Fin 6) (s : State) : Host.Outcome State Fault Refusal :=
  .next (s.served (fun s =>
    let s1 := s.touch p
    match s1.checkRead (Key.thermalTS i) with
    | .error e => s1.refuse p e
    | .ok _ =>
      if writerIsCore p.writer then
        (s1.answer p (.value (s1.get (Key.thermalTS i)))).thermalDemands [0, 1, 2, 3, 4, 5]
      else s1.thermalReader p i))

/-- A bank is enabled again (R610). -/
def State.enableBank (s : State) (bank : Nat) : State := s.putBit Key.thermalStatus (3 + bank) false

/-- BANK_ENABLE: refused while the bank's sensor is broken or at or above its restart level (R610). -/
def execBankEnable (p : Path) (bank : Nat) (s : State) : Host.Outcome State Fault Refusal :=
  .next (s.commanded p Key.thermalBankEnable bank (fun s => s.enableBank bank))

/-- What 0x3A00:0B does: the restoring cold start (R613); nothing is restored unless the process is in FAULT after a thermal
shutdown (log 40). -/
def State.thermalRestartCommand (s : State) : State :=
  if s.process = psFault ∧ s.startup.faultEvents.contains 0x0203 then s.thermalRestartNow
  else ({ s with thermal := { s.thermal with restore := none } }).enterReset 1

/-- THERMAL_RESTART: refused in cold hold (R613). -/
def execThermalRestart (p : Path) (s : State) : Host.Outcome State Fault Refusal :=
  .next (s.commanded p Key.thermalRestart 1 (fun s => s.thermalRestartCommand))

/-- Clear 13-15 (R618). -/
def State.thermalStatsClear (s : State) : State :=
  ({ s with thermal := { s.thermal with estTicks := 0, bankTicks := 0 } }).zero
    [Key.thermalShutdowns, Key.thermalESTThrottleTime, Key.thermalBankThrottleTime]

/-- THERMAL_STATISTICS_CLEAR. -/
def execThermalStatisticsClear (p : Path) (s : State) : Host.Outcome State Fault Refusal :=
  .next (s.commanded p Key.thermalClearStatistics 1 (fun s => s.thermalStatsClear))

/-- A tick passes for the throttle times (R618). -/
def State.thermalTick (s : State) : State :=
  let est := b2n (s.bitOf Key.thermalStatus 0)
  let bank := b2n (s.bitOf Key.thermalStatus 1 || s.bitOf Key.thermalStatus 2)
  { s with thermal := { s.thermal with estTicks := s.thermal.estTicks + est, bankTicks := s.thermal.bankTicks + bank } }

end Sys2Proof.Machine
end

