-- ==== Sys2Proof/Machine/Process.lean ====
section
/-! DEFINITION. Entering the process states (R109) and the host watchdog (R136-R143). -/

namespace Sys2Proof.Machine

open Sys2Proof

/-! ### The host watchdog's count (R136) -/

/-- The process states in which it counts. -/
def State.watchdogCounts (s : State) : Bool := s.process == psArmed || s.process == psRunning

/-- Restart with the full timeout, while the state is OK. -/
def State.watchdogRestart (s : State) : State :=
  if s.nat Key.lostState = 0 then
    { s with dict := { s.dict with watchdog := { s.dict.watchdog with running := s.watchdogCounts, started := s.clock.tick, timeout := s.nat Key.hostTimeout } } }
  else s

/-- The process leaves ARMED and RUNNING: the count stops. -/
def State.watchdogStop (s : State) : State :=
  { s with dict := { s.dict with watchdog := { s.dict.watchdog with running := false } } }

/-! ### Process state (R109) -/

/-- Outputs follow the process state. -/
def State.serveAllOutputs (s : State) : State := (s.serveProps.serveDrives).serveOutputs

/-- ARMED is entered: loops hold safe outputs in MANUAL, duty windows empty, the watchdog restarts, programs start at ARM (R109,
R136, R267, R387, R461). -/
def State.enterArmed (s : State) : State :=
  let arm := s.process == psStopped
  let s1 := ((s.putN Key.procProcessState psArmed).predictorsStop.loopsToManual.dutyRestart).watchdogRestart
  (if arm then s1.programsArm else s1).serveAllOutputs

/-- RUNNING is entered: run modes, predictors in FEEDBACK (R267, R358). -/
def State.enterRunning (s : State) : State :=
  ((s.putN Key.procProcessState psRunning).loopsToRun.predictorsStart).serveAllOutputs

/-- STOPPED is entered: outputs in the reset state, loops, Kelsis and programs without autostart stop (R109, R461). -/
def State.enterStopped (s : State) : State :=
  let s1 := ((s.putN Key.procProcessState psStopped).predictorsStop.kelsisHalt.loopsOff.actsOff).watchdogStop
  s1.programsToStopped.serveAllOutputs

/-- ALL_SAFE and its causes end (R253, R254, R262). -/
def State.allSafeEnds (s : State) : State := [0, 1, 2].foldl (fun s b => s.putBit Key.bellowsGlobalStatus b false) s

/-! ### Loss and recovery (R137-R139) -/

/-- The policies take hold, or their codes change, on every output (R137, R151). -/
def State.servePolicies (s : State) : State := (s.serveActPolicies.serveDrives).serveOutputs

/-- Outputs return to their sources: loops hand over from the value last applied (R139). -/
def State.hostReturn (s : State) : State :=
  let s1 := s.loopsHostReturn
  ({ s1 with dict := { s1.dict with policies := false } }).servePolicies

/-- HOST_WATCHDOG_EXPIRY (R137). -/
def execHostWatchdogExpiry (s : State) : Host.Outcome State Fault Refusal :=
  .next (if s.clocksRun ∧ s.dict.watchdog.running ∧ s.nat Key.lostState = 0 ∧ s.watchdogCounts then
      ((let s1 := (s.watchdogStop.putN Key.lostState 1).bump 16 Key.lostExpiries
        { s1 with dict := { s1.dict with policies := true } }).servePolicies).log 0x0703 noSource
    else s)

/-- A path whose heartbeats count (R136, R141). -/
def State.hostPath (s : State) (p : Path) : Bool := p.writer.code != 0 && (s.nat Key.hostHostPaths).testBit p.writer.code

/-- A committed heartbeat of path `p` (R136, R139). -/
def State.heartbeat (s : State) (p : Path) (v : Nat) : State :=
  let s1 := s.putN Key.hbeatHeartbeat v
  if s1.hostPath p = false then s1
  else
    let noted := fun (s : State) =>
      let s1 := s.putN Key.hbeatLastHeartbeatWriter p.writer.code
      ({ s1 with dict := { s1.dict with watchdog := { s1.dict.watchdog with lastBeat := s1.clock.tick } } }).watchdogRestart
    match s1.nat Key.lostState with
    | 0 => noted s1
    | 1 => if s1.nat Key.hostRecoveryMode = 1 then noted (s1.hostReturn.putN Key.lostState 0) else s1.putN Key.lostState 2
    | _ => s1

/-- HEARTBEAT. -/
def execHeartbeat (p : Path) (v : BitVec 16) (s : State) : Host.Outcome State Fault Refusal :=
  .next (s.commanded p Key.hbeatHeartbeat v.toNat (fun s => s.heartbeat p v.toNat))

/-- The watchdog is off when bits 1-7 of 0x2011:02 are all 0. -/
def State.watchdogOff (s : State) : Bool := s.nat Key.hostHostPaths / 2 % 128 == 0

/-- The host paths have changed (R136): switched off, the outputs return and the state is OFF; switched on, it is OK. -/
def State.hostPathsChanged (s : State) : State :=
  let st := s.nat Key.lostState
  if s.watchdogOff then
    (if st = 3 then s else ((if st = 1 ∨ st = 2 then s.hostReturn else s).watchdogStop).putN Key.lostState 3)
  else if st = 3 then (s.putN Key.lostState 0).watchdogRestart
  else s

/-- HOST_PATHS_WRITE. -/
def execHostPathsWrite (p : Path) (v : BitVec 8) (s : State) : Host.Outcome State Fault Refusal :=
  .next (s.commanded p Key.hostHostPaths v.toNat (fun s => (s.assign Key.hostHostPaths (Int.ofNat v.toNat)).hostPathsChanged))

/-- An acknowledgement returns the outputs and starts the watchdog again (R139); it is no heartbeat, so the time since the last one runs on
(DESIGN CHOICE, log 179). -/
def State.hostAcknowledge (s : State) : State :=
  if s.nat Key.lostState = 2 then (s.hostReturn.putN Key.lostState 0).watchdogRestart else s

/-- HOST_ACKNOWLEDGE: refused while LOST. -/
def execHostAcknowledge (p : Path) (s : State) : Host.Outcome State Fault Refusal :=
  .next (s.commanded p Key.lostAcknowledge 1 (fun s => s.hostAcknowledge))

end Sys2Proof.Machine
end

