-- ==== Sys2Proof/Machine/Alu.lean ====
section
/-! DEFINITION. The arithmetic of the Valrek instructions (R447) and the encoding of their words (R446). -/

namespace Sys2Proof.Machine

open Sys2Proof

/-! ### Instruction words (R446) -/

/-- Formats T, K, B and J. -/
def wordT (op fn : Nat) (d a b : Fin 16) : Word := BitVec.ofNat 32 (op * 2 ^ 26 + d.val * 2 ^ 22 + a.val * 2 ^ 18 + b.val * 2 ^ 14 + fn)
def wordK (op : Nat) (d a : Fin 16) (imm : BitVec 18) : Word := BitVec.ofNat 32 (op * 2 ^ 26 + d.val * 2 ^ 22 + a.val * 2 ^ 18 + imm.toNat)
def wordJ (op : Nat) (d : Fin 16) (imm : BitVec 22) : Word := BitVec.ofNat 32 (op * 2 ^ 26 + d.val * 2 ^ 22 + imm.toNat)

/-! ### Operations (R447) -/

/-- An immediate extended by its sign, and with zeros. -/
def sext18 (imm : BitVec 18) : Word := imm.signExtend 32
def zext18 (imm : BitVec 18) : Word := imm.zeroExtend 32

/-- Truth as a word. -/
def wordOf (b : Bool) : Word := if b then 1 else 0

def aluShl (x y : Word) : Word := x <<< (y.toNat % 32)
def aluShr (x y : Word) : Word := x >>> (y.toNat % 32)
def aluSar (x y : Word) : Word := x.sshiftRight (y.toNat % 32)
def aluSlt (x y : Word) : Word := wordOf (x.slt y)
def aluSltu (x y : Word) : Word := wordOf (x.ult y)
def aluMulhs (x y : Word) : Word := BitVec.ofInt 32 (x.toInt * y.toInt / 2 ^ 32)
def aluMulhu (x y : Word) : Word := BitVec.ofNat 32 (x.toNat * y.toNat / 2 ^ 32)

/-- DIV: the quotient rounded toward 0; x / 0 is all ones; the overflowing quotient wraps to its dividend. -/
def aluDiv (x y : Word) : Word := if y = 0 then 0xFFFFFFFF else BitVec.ofInt 32 (x.toInt.tdiv y.toInt)
def aluDivu (x y : Word) : Word := if y = 0 then 0xFFFFFFFF else BitVec.ofNat 32 (x.toNat / y.toNat)

/-- REM: the sign of the dividend; x rem 0 is x. -/
def aluRem (x y : Word) : Word := if y = 0 then x else BitVec.ofInt 32 (x.toInt.tmod y.toInt)
def aluRemu (x y : Word) : Word := if y = 0 then x else BitVec.ofNat 32 (x.toNat % y.toNat)

def aluMin (x y : Word) : Word := if x.slt y then x else y
def aluMax (x y : Word) : Word := if x.slt y then y else x

/-- The low 16 bits as Q15. -/
def q15Of (x : Word) : Int := signedOf 16 x.toNat

/-- A Q15 value, saturated and sign-extended. -/
def wordOfQ15 (x : Int) : Word := BitVec.ofInt 32 (sat15 x)

def aluQmul (x y : Word) : Word := wordOfQ15 (round15 (q15Of x * q15Of y))
def aluQadd (x y : Word) : Word := wordOfQ15 (q15Of x + q15Of y)
def aluQsub (x y : Word) : Word := wordOfQ15 (q15Of x - q15Of y)

end Sys2Proof.Machine
end

