-- ==== Sys2Proof/Machine/Valrek.lean ====
section
/-! DEFINITION. The Valrek instructions (R446-R451, R474-R479): each command is one instruction executed by a core at its PC, with
the operands its word carries (log 75). -/

namespace Sys2Proof.Machine

open Sys2Proof

/-! ### Executing one instruction -/

/-- What an instruction does when it completes: the state with its writes made, the next PC, its cost, the destination of a TCM
load, and what is written after the cycle's counts (R477). -/
structure Effect where
  s      : State
  next   : Word
  cost   : Cost := ⟨1, [], 0, 0⟩
  loaded : Option (Fin 16) := none
  post   : State → State := id
  /-- What is written in the last cycle before its counts (R477), and the counter that a write in it holds. -/
  early  : State → State := id
  written : Option (Fin 8) := none
  /-- The instruction leaves the sequence: what was fetched behind it is flushed (R478). -/
  leaves : Bool := false
  /-- The instruction retires; a WAIT that begins does not yet. -/
  retires : Bool := true

/-- An instruction completes, or raises an exception and completes nothing (R451). -/
inductive Ran where
  | done (e : Effect)
  | trap (s : State) (t : Trap) (cost : Cost := ⟨0, [], 0, 0⟩)

/-- The core executes instructions: clocked, not held, not waiting, not halted, and a Stoker core with a program (R74, R461). -/
def State.canRun (s : State) (c : Fin 4) : Bool :=
  let k := s.cores[c]
  s.clocksRun && !k.held && k.waiting.isNone && !k.debugHalt && (c == 0 || k.running.isSome)

/-- Whether this instruction is the next one fetched since the interval's end, or one fetched before it, the pipeline does not say (log 73);
the tagged one's record holds from then on what its fetch gives; the stage times are free (R478). -/
def State.tagFetch (s : State) (c : Fin 4) (word : Word) : State :=
  if (s.cores[c]).sampleTag && !(s.cores[c]).tagged then
    let d := s.freeNat
    let r := d.2.freeWord
    if d.1 % 2 = 1 then d.2
    else r.2.setCore c (fun k =>
      { k with flight := some { pc := k.pc, word := word, cycleLo := BitVec.ofNat 32 k.cycle, stages := r.1 &&& 0xFFFFFF00, stall := 0,
                                valid := true, retired := false, flushed := false, trapped := false, seq := 0 } })
  else s

/-- Stall cause and memory latency of a record (R478). -/
def stallWord (fetch : Cost) (loadUse : Bool) (cost : Cost) : Word :=
  BitVec.ofNat 32 (2 ^ 28 * (if fetch.cause ≠ 0 then fetch.cause else if loadUse then 2
    else if cost.cause ≠ 0 then cost.cause else if 1 < cost.cycles then 4 else 0) + cost.latency % 65536)

/-- The cycles of an instruction in which none is fetched (R475): all but one; behind one that leaves the sequence instructions were fetched
and flushed, how many is free (log 73). -/
def Effect.fetchStall (e : Effect) (s : State) (n : Nat) : Nat × State :=
  if e.leaves then
    let r := s.freeNat
    (if n = 0 then 0 else r.1 % n, r.2)
  else (n - 1, s)

/-- The last cycle of an instruction: a counter that it writes misses this cycle's counts (R477). -/
def State.lastCycle (s : State) (c : Fin 4) (n : Nat) (written : Option (Fin 8)) (evs : List (Nat × Nat)) : State :=
  evs.foldl (fun s e => s.countEventBut written c e.1 e.2) (s.setCore c (fun k => { k with cycle := (k.cycle + n) % 2 ^ 64 }))

/-- An instruction retires: its cycles pass in the mode it ran in, its events count, a sampling interval and a tagged record
advance. -/
def Effect.retire (e : Effect) (c : Fin 4) (fetch : Cost) (loadUse user ieOff : Bool) : State :=
  let n := fetch.cycles + e.cost.cycles
  let last := min n 1
  let s1 := e.s.passCyclesAs c (n - last) user ieOff false
  let r := e.fetchStall s1 n
  let s2 := e.early (r.2.countEvents c ([(0x03, b2n loadUse), (0x02, r.1)] ++ fetch.events ++ e.cost.events))
  let s3 := s2.lastCycle c last e.written [(0x01, b2n e.retires), (0x16, last * b2n user), (0x17, last * b2n ieOff)]
  let s4 := s3.setCore c (fun k =>
    { k with pc := e.next, loadDest := e.loaded, sampleTag := k.sampleTag && !(e.retires && k.tagged),
             sampleLeft := if e.retires && k.sampleCtl.getLsbD 31 then k.sampleLeft - 1 else k.sampleLeft,
             flight := if k.tagged && e.retires then
                 k.flight.map (fun (r : SampleRecord) => { r with retired := true, stall := stallWord fetch loadUse e.cost })
               else k.flight })
  e.post (if e.leaves then s4.flushTagged c else s4)

/-- A tagged instruction that traps carries what it had waited for (R478). -/
def State.stallTagged (s : State) (c : Fin 4) (w : Word) : State :=
  s.setCore c (fun k => if k.tagged then { k with flight := k.flight.map (fun r => { r with stall := w }) } else k)

/-- The exception that an instruction would raise on a core, if any. -/
def State.trapOf (s : State) (c : Fin 4) (f : State → Word → Ran) : Option Trap :=
  match s.fetchTrap c (s.cores[c]).pc.toNat with
  | some t => some t
  | none => match f s (s.cores[c]).pc with
    | .trap _ t _ => some t
    | .done _ => none

/-- An instruction of the cycle in which STOP came: the program is stopped; a trap is recorded, its action does not apply (R462). -/
def State.stoppedTrap (s : State) (c : Fin 4) (f : State → Word → Ran) : State :=
  let k := s.cores[c]
  match k.stopped with
  | none => s
  | some (cycle, status) =>
    if s.clocksRun && k.held && cycle == k.cycle then
      match (s.setCore c (fun k => { k with status := status })).trapOf c f with
      | some t => (s.setCore c (fun k => { k with ecause := BitVec.ofNat 32 t.code, eval := t.val, epc := k.pc, stopped := none })).recordTrap c
      | none => s
    else s

/-- Execute one instruction of word `word` at the PC: fetch checks, then `f` on the state and the PC. `uses` are the registers it
reads, `dest` the destination a refused window load clears (R456). -/
def State.insn (s : State) (c : Fin 4) (word : Word) (uses : List (Fin 16)) (dest : Fin 16) (f : State → Word → Ran) : State :=
  if s.canRun c then
    let k := s.cores[c]
    let s1 := s.tagFetch c word
    match s1.fetchTrap c k.pc.toNat with
    | some t => s1.raiseTrap c t dest
    | none =>
      let fc := s1.fetchCost k.pc.toNat
      let loadUse := k.loadDest.any (fun d => uses.contains d)
      match f fc.2 k.pc with
      | .trap s2 t cost => (s2.stallTagged c (stallWord fc.1 loadUse cost)).raiseTrap c t dest
      | .done e => e.retire c fc.1 loadUse (!k.privileged) (!k.ie)
  else s.stoppedTrap c f

/-- An instruction that computes a register from the core and takes `n` cycles. -/
def State.compute (s : State) (c : Fin 4) (word : Word) (uses : List (Fin 16)) (d : Fin 16) (n : Nat) (f : Core → Word) : State :=
  s.insn c word uses d (fun s pc => .done { s := s.setCore c (fun k => k.setReg d (f k)), next := pc + 4, cost := ⟨n, [], 0, 0⟩ })

/-- An instruction of format T. -/
def State.aluT (s : State) (c : Fin 4) (fn n : Nat) (d a b : Fin 16) (f : Word → Word → Word) : State :=
  s.compute c (wordT 0 fn d a b) [a, b] d n (fun k => f (k.reg a) (k.reg b))

/-- An instruction of format K on a register and an immediate. -/
def State.aluK (s : State) (c : Fin 4) (op : Nat) (d a : Fin 16) (imm : BitVec 18) (f : Word → Word) : State :=
  s.compute c (wordK op d a imm) [a] d 1 (fun k => f (k.reg a))

/-- The exceptions ILLEGAL and PRIVILEGED carry the instruction word. -/
def trapIllegal (word : Word) : Trap := ⟨1, word⟩
def trapPrivileged (word : Word) : Trap := ⟨2, word⟩

/-- A shift by an immediate, whose bits [17:5] must be 0. -/
def State.shiftK (s : State) (c : Fin 4) (op : Nat) (d a : Fin 16) (imm : BitVec 18) (f : Word → Word → Word) : State :=
  let word := wordK op d a imm
  if imm.toNat < 32 then s.compute c word [a] d 1 (fun k => f (k.reg a) (zext18 imm))
  else s.insn c word [a] d (fun s _ => .trap s (trapIllegal word))

/-! ### Arithmetic of format T -/

/-- ADD: w[d] = w[a] + w[b]. -/
def execAdd (c : Fin 4) (d a b : Fin 16) (s : State) : Host.Outcome State Fault Refusal := .next (s.aluT c 0 1 d a b (fun x y => x + y))
/-- SUB: w[d] = w[a] - w[b]. -/
def execSub (c : Fin 4) (d a b : Fin 16) (s : State) : Host.Outcome State Fault Refusal := .next (s.aluT c 1 1 d a b (fun x y => x - y))
/-- AND. -/
def execAnd (c : Fin 4) (d a b : Fin 16) (s : State) : Host.Outcome State Fault Refusal := .next (s.aluT c 2 1 d a b (fun x y => x &&& y))
/-- OR. -/
def execOr (c : Fin 4) (d a b : Fin 16) (s : State) : Host.Outcome State Fault Refusal := .next (s.aluT c 3 1 d a b (fun x y => x ||| y))
/-- XOR. -/
def execXor (c : Fin 4) (d a b : Fin 16) (s : State) : Host.Outcome State Fault Refusal := .next (s.aluT c 4 1 d a b (fun x y => x ^^^ y))
/-- SHL by w[b][4:0]. -/
def execShl (c : Fin 4) (d a b : Fin 16) (s : State) : Host.Outcome State Fault Refusal := .next (s.aluT c 5 1 d a b aluShl)
/-- SHR, logical. -/
def execShr (c : Fin 4) (d a b : Fin 16) (s : State) : Host.Outcome State Fault Refusal := .next (s.aluT c 6 1 d a b aluShr)
/-- SAR, arithmetic. -/
def execSar (c : Fin 4) (d a b : Fin 16) (s : State) : Host.Outcome State Fault Refusal := .next (s.aluT c 7 1 d a b aluSar)
/-- SLT, signed. -/
def execSlt (c : Fin 4) (d a b : Fin 16) (s : State) : Host.Outcome State Fault Refusal := .next (s.aluT c 8 1 d a b aluSlt)
/-- SLTU, unsigned. -/
def execSltu (c : Fin 4) (d a b : Fin 16) (s : State) : Host.Outcome State Fault Refusal := .next (s.aluT c 9 1 d a b aluSltu)
/-- MUL: the low 32 bits, 2 cycles. -/
def execMul (c : Fin 4) (d a b : Fin 16) (s : State) : Host.Outcome State Fault Refusal := .next (s.aluT c 10 2 d a b (fun x y => x * y))
/-- MULHS: the high 32 bits, signed. -/
def execMulhs (c : Fin 4) (d a b : Fin 16) (s : State) : Host.Outcome State Fault Refusal := .next (s.aluT c 11 2 d a b aluMulhs)
/-- MULHU: the high 32 bits, unsigned. -/
def execMulhu (c : Fin 4) (d a b : Fin 16) (s : State) : Host.Outcome State Fault Refusal := .next (s.aluT c 12 2 d a b aluMulhu)
/-- DIV, 18 cycles. -/
def execDiv (c : Fin 4) (d a b : Fin 16) (s : State) : Host.Outcome State Fault Refusal := .next (s.aluT c 13 18 d a b aluDiv)
/-- DIVU. -/
def execDivu (c : Fin 4) (d a b : Fin 16) (s : State) : Host.Outcome State Fault Refusal := .next (s.aluT c 14 18 d a b aluDivu)
/-- REM. -/
def execRem (c : Fin 4) (d a b : Fin 16) (s : State) : Host.Outcome State Fault Refusal := .next (s.aluT c 15 18 d a b aluRem)
/-- REMU. -/
def execRemu (c : Fin 4) (d a b : Fin 16) (s : State) : Host.Outcome State Fault Refusal := .next (s.aluT c 16 18 d a b aluRemu)
/-- MIN, signed. -/
def execMin (c : Fin 4) (d a b : Fin 16) (s : State) : Host.Outcome State Fault Refusal := .next (s.aluT c 17 1 d a b aluMin)
/-- MAX, signed. -/
def execMax (c : Fin 4) (d a b : Fin 16) (s : State) : Host.Outcome State Fault Refusal := .next (s.aluT c 18 1 d a b aluMax)
/-- QMUL, 2 cycles. -/
def execQmul (c : Fin 4) (d a b : Fin 16) (s : State) : Host.Outcome State Fault Refusal := .next (s.aluT c 19 2 d a b aluQmul)
/-- QADD. -/
def execQadd (c : Fin 4) (d a b : Fin 16) (s : State) : Host.Outcome State Fault Refusal := .next (s.aluT c 20 1 d a b aluQadd)
/-- QSUB. -/
def execQsub (c : Fin 4) (d a b : Fin 16) (s : State) : Host.Outcome State Fault Refusal := .next (s.aluT c 21 1 d a b aluQsub)

/-! ### Arithmetic of format K -/

/-- ADDI. -/
def execAddi (c : Fin 4) (d a : Fin 16) (imm : BitVec 18) (s : State) : Host.Outcome State Fault Refusal :=
  .next (s.aluK c 1 d a imm (fun x => x + sext18 imm))
/-- ANDI. -/
def execAndi (c : Fin 4) (d a : Fin 16) (imm : BitVec 18) (s : State) : Host.Outcome State Fault Refusal :=
  .next (s.aluK c 2 d a imm (fun x => x &&& zext18 imm))
/-- ORI. -/
def execOri (c : Fin 4) (d a : Fin 16) (imm : BitVec 18) (s : State) : Host.Outcome State Fault Refusal :=
  .next (s.aluK c 3 d a imm (fun x => x ||| zext18 imm))
/-- XORI. -/
def execXori (c : Fin 4) (d a : Fin 16) (imm : BitVec 18) (s : State) : Host.Outcome State Fault Refusal :=
  .next (s.aluK c 4 d a imm (fun x => x ^^^ zext18 imm))
/-- SHLI. -/
def execShli (c : Fin 4) (d a : Fin 16) (imm : BitVec 18) (s : State) : Host.Outcome State Fault Refusal := .next (s.shiftK c 5 d a imm aluShl)
/-- SHRI. -/
def execShri (c : Fin 4) (d a : Fin 16) (imm : BitVec 18) (s : State) : Host.Outcome State Fault Refusal := .next (s.shiftK c 6 d a imm aluShr)
/-- SARI. -/
def execSari (c : Fin 4) (d a : Fin 16) (imm : BitVec 18) (s : State) : Host.Outcome State Fault Refusal := .next (s.shiftK c 7 d a imm aluSar)
/-- SLTI. -/
def execSlti (c : Fin 4) (d a : Fin 16) (imm : BitVec 18) (s : State) : Host.Outcome State Fault Refusal :=
  .next (s.aluK c 8 d a imm (fun x => aluSlt x (sext18 imm)))
/-- SLTIU. -/
def execSltiu (c : Fin 4) (d a : Fin 16) (imm : BitVec 18) (s : State) : Host.Outcome State Fault Refusal :=
  .next (s.aluK c 9 d a imm (fun x => aluSltu x (sext18 imm)))
/-- LUI; field a must be 0. -/
def execLui (c : Fin 4) (d a : Fin 16) (imm : BitVec 18) (s : State) : Host.Outcome State Fault Refusal :=
  let word := wordK 0x0A d a imm
  .next (if a = 0 then s.compute c word [] d 1 (fun _ => zext18 imm <<< 14) else s.insn c word [] d (fun s _ => .trap s (trapIllegal word)))

/-! ### Loads and stores -/

/-- The address of a load or store. -/
def State.addrOf (s : State) (c : Fin 4) (a : Fin 16) (imm : BitVec 18) : Nat := ((s.cores[c]).reg a + sext18 imm).toNat

/-- The address lies in shared SRAM. -/
def inSram (a : Nat) : Bool := regionOf a == some .sram

/-- A load of `w` bytes; `ecc` is what the shared SRAM's code finds: 0 nothing, 1 a corrected bit, 2 a double error (R453). -/
def State.load (s : State) (c : Fin 4) (op w : Nat) (d a : Fin 16) (imm : BitVec 18) (ecc : Fin 3) (ext : Word → Word) : State :=
  s.insn c (wordK op d a imm) [a] d (fun s pc =>
    let addr := s.addrOf c a imm
    match s.loadTrap c addr w with
    | some t => .trap s t
    | none =>
      let r := s.loadCost addr
      if inSram addr ∧ ecc = 2 then .trap r.2 ⟨12, BitVec.ofNat 32 addr⟩ r.1
      else
        let cost := { r.1 with events := r.1.events ++ [(0x0A, 1)] ++ (if inSram addr ∧ ecc = 1 then [(0x09, 1)] else []) }
        if regionOf addr = some .window then
          (match r.2.windowLoad c addr with
           | (none, s1) => .trap s1 (trapGuard addr) r.1
           | (some x, s1) => .done { s := s1.setCore c (fun k => k.setReg d x), next := pc + 4, cost := cost })
        else
          let m := r.2.memLoad c addr w
          .done { s := m.2.setCore c (fun k => k.setReg d (ext m.1)), next := pc + 4, cost := cost,
                  loaded := if (regionOf addr = some .itcm ∨ regionOf addr = some .dtcm) ∧ d ≠ 0 then some d else none })

/-- A store of `w` bytes. -/
def State.store (s : State) (c : Fin 4) (op w : Nat) (d a : Fin 16) (imm : BitVec 18) : State :=
  s.insn c (wordK op d a imm) [a, d] 0 (fun s pc =>
    let addr := s.addrOf c a imm
    let v := (s.cores[c]).reg d
    match s.storeTrap c addr w with
    | some t => .trap s t
    | none =>
      let r := s.storeCost c addr
      let cost := { r.1 with events := r.1.events ++ [(0x0B, 1)] }
      if regionOf addr = some .window then
        (match r.2.windowStore c addr v with
         | (false, s1) => .trap s1 (trapGuard addr) r.1
         | (true, s1) => .done { s := s1, next := pc + 4, cost := cost })
      else if regionOf addr = some .control ∧ addr % 0x10000000 / 4 = 0x401 then
        -- LOCAL_CTRL: a raise of this cycle goes by the old setting (R481)
        .done { s := r.2, next := pc + 4, cost := cost, post := fun t => t.memStore c addr w v }
      else .done { s := r.2.memStore c addr w v, next := pc + 4, cost := cost })

/-- The low `n` bits, sign-extended. -/
def sextOf (n : Nat) (x : Word) : Word := BitVec.ofInt 32 (signedOf n x.toNat)

/-- LDW: a word, through the dictionary guard in the window (R122, R442). -/
def execLdw (c : Fin 4) (d a : Fin 16) (imm : BitVec 18) (ecc : Fin 3) (s : State) : Host.Outcome State Fault Refusal :=
  .next (s.load c 0x10 4 d a imm ecc id)
/-- LDH: a half-word, sign-extended. -/
def execLdh (c : Fin 4) (d a : Fin 16) (imm : BitVec 18) (ecc : Fin 3) (s : State) : Host.Outcome State Fault Refusal :=
  .next (s.load c 0x11 2 d a imm ecc (sextOf 16))
/-- LDHU: zero-extended. -/
def execLdhu (c : Fin 4) (d a : Fin 16) (imm : BitVec 18) (ecc : Fin 3) (s : State) : Host.Outcome State Fault Refusal :=
  .next (s.load c 0x12 2 d a imm ecc id)
/-- LDB: a byte, sign-extended. -/
def execLdb (c : Fin 4) (d a : Fin 16) (imm : BitVec 18) (ecc : Fin 3) (s : State) : Host.Outcome State Fault Refusal :=
  .next (s.load c 0x13 1 d a imm ecc (sextOf 8))
/-- LDBU: zero-extended. -/
def execLdbu (c : Fin 4) (d a : Fin 16) (imm : BitVec 18) (ecc : Fin 3) (s : State) : Host.Outcome State Fault Refusal :=
  .next (s.load c 0x14 1 d a imm ecc id)
/-- STW: a word; in the window a staged dictionary write. -/
def execStw (c : Fin 4) (d a : Fin 16) (imm : BitVec 18) (s : State) : Host.Outcome State Fault Refusal := .next (s.store c 0x18 4 d a imm)
/-- STH: the low 16 bits. -/
def execSth (c : Fin 4) (d a : Fin 16) (imm : BitVec 18) (s : State) : Host.Outcome State Fault Refusal := .next (s.store c 0x19 2 d a imm)
/-- STB: the low 8 bits. -/
def execStb (c : Fin 4) (d a : Fin 16) (imm : BitVec 18) (s : State) : Host.Outcome State Fault Refusal := .next (s.store c 0x1A 1 d a imm)

/-- XCHG: a word of DTCM or shared SRAM and w[d] change places in one step, 6 cycles. -/
def execXchg (c : Fin 4) (d a : Fin 16) (imm : BitVec 18) (ecc : Fin 3) (s : State) : Host.Outcome State Fault Refusal :=
  .next (s.insn c (wordK 0x1C d a imm) [a, d] d (fun s pc =>
    let addr := s.addrOf c a imm
    let k := s.cores[c]
    if addr % 4 ≠ 0 then .trap s (trapStoreAlign addr)
    else if regionOf addr ≠ some .dtcm ∧ regionOf addr ≠ some .sram then .trap s (trapStoreFault addr)
    else if k.mayAccess addr 0 = false then .trap s (trapLoadFault addr)
    else if k.mayAccess addr 1 = false then .trap s (trapStoreFault addr)
    else if inSram addr ∧ ecc = 2 then .trap s ⟨12, BitVec.ofNat 32 addr⟩ ⟨6, [], 4, 6⟩
    else
      let m := s.memLoad c addr 4
      let s1 := m.2.memStore c addr 4 (k.reg d)
      .done { s := s1.setCore c (fun k => k.setReg d m.1), next := pc + 4,
              cost := ⟨6, [(0x14, 1)] ++ (if inSram addr then [(0x13, 1)] else []) ++ (if inSram addr ∧ ecc = 1 then [(0x09, 1)] else []), 4, 6⟩ }))

/-! ### Branches and jumps -/

/-- A branch: taken in 3 cycles, not taken in 1. -/
def State.branch (s : State) (c : Fin 4) (op : Nat) (a b : Fin 16) (imm : BitVec 18) (f : Word → Word → Bool) : State :=
  s.insn c (wordK op a b imm) [a, b] 0 (fun s pc =>
    let k := s.cores[c]
    if f (k.reg a) (k.reg b) then .done { s := s, next := pc + (sext18 imm <<< 2), cost := ⟨3, [(0x06, 1)], 4, 0⟩, leaves := true }
    else .done { s := s, next := pc + 4, cost := ⟨1, [(0x11, 1)], 0, 0⟩ })

/-- BEQ. -/
def execBeq (c : Fin 4) (a b : Fin 16) (imm : BitVec 18) (s : State) : Host.Outcome State Fault Refusal :=
  .next (s.branch c 0x20 a b imm (fun x y => x == y))
/-- BNE. -/
def execBne (c : Fin 4) (a b : Fin 16) (imm : BitVec 18) (s : State) : Host.Outcome State Fault Refusal :=
  .next (s.branch c 0x21 a b imm (fun x y => x != y))
/-- BLT, signed. -/
def execBlt (c : Fin 4) (a b : Fin 16) (imm : BitVec 18) (s : State) : Host.Outcome State Fault Refusal :=
  .next (s.branch c 0x22 a b imm (fun x y => x.slt y))
/-- BGE, signed. -/
def execBge (c : Fin 4) (a b : Fin 16) (imm : BitVec 18) (s : State) : Host.Outcome State Fault Refusal :=
  .next (s.branch c 0x23 a b imm (fun x y => !x.slt y))
/-- BLTU, unsigned. -/
def execBltu (c : Fin 4) (a b : Fin 16) (imm : BitVec 18) (s : State) : Host.Outcome State Fault Refusal :=
  .next (s.branch c 0x24 a b imm (fun x y => x.ult y))
/-- BGEU, unsigned. -/
def execBgeu (c : Fin 4) (a b : Fin 16) (imm : BitVec 18) (s : State) : Host.Outcome State Fault Refusal :=
  .next (s.branch c 0x25 a b imm (fun x y => !x.ult y))

/-- JL: w[d] = PC + 4, then the target. -/
def execJl (c : Fin 4) (d : Fin 16) (imm : BitVec 22) (s : State) : Host.Outcome State Fault Refusal :=
  .next (s.insn c (wordJ 0x28 d imm) [] d (fun s pc =>
    .done { s := s.setCore c (fun k => k.setReg d (pc + 4)), next := pc + (imm.signExtend 32 <<< 2), cost := ⟨3, [(0x06, 1)], 4, 0⟩, leaves := true }))

/-- JLR: the target is read before w[d] is written; a target not word-aligned traps. -/
def execJlr (c : Fin 4) (d a : Fin 16) (imm : BitVec 18) (s : State) : Host.Outcome State Fault Refusal :=
  .next (s.insn c (wordK 0x29 d a imm) [a] d (fun s pc =>
    let t := (s.cores[c]).reg a + sext18 imm
    if t.toNat % 4 ≠ 0 then .trap s ⟨3, t⟩
    else .done { s := s.setCore c (fun k => k.setReg d (pc + 4)), next := t, cost := ⟨3, [(0x06, 1)], 4, 0⟩, leaves := true }))

/-! ### System registers (R448, R470, R476, R478, R479) -/

/-- Numbers user mode may read: CORE_ID and CYCLE, and the counters and the sample record when PMCTL allows (R448, R476). -/
def Core.userReads (k : Core) (n : Nat) : Bool :=
  n == 0 || n == 0x200 || n == 0x201
    || (k.pmctl.getLsbD 31 && ((Nat.ble 0x210 n && Nat.ble n 0x217) || n == 0x220 || (Nat.ble 0x231 n && Nat.ble n 0x237)))

/-- 0x236 of a record (R478). -/
def SampleRecord.state (r : SampleRecord) : Word :=
  BitVec.ofNat 32 (b2n r.valid + 2 * b2n r.retired + 4 * b2n r.flushed + 8 * b2n r.trapped + 256 * (r.seq % 256))

/-- Reading CYCLE_LO latches CYCLE_HI (R474). -/
def State.latchCycle (s : State) (c : Fin 4) : State := s.setCore c (fun k => { k with cycleHi := k.cycle / 2 ^ 32 % 2 ^ 32 })

/-- Reading 0x231 locks the record; reading 0x236 clears VALID and unlocks (R479). -/
def State.lockSample (s : State) (c : Fin 4) : State := s.setCore c (fun k => { k with sampleLocked := true })
def State.releaseSample (s : State) (c : Fin 4) : State :=
  s.setCore c (fun k => { k with sampleLocked := false, sample := { k.sample with valid := false } })

/-- Read a system register; a number the manual does not list reads a free value (log 76). -/
def State.readSys (s : State) (c : Fin 4) (n : Nat) : Word × State :=
  let k := s.cores[c]
  if n = 0 then (BitVec.ofNat 32 c.val, s)
  else if n = 1 then (k.status, s)
  else if n = 2 then (k.epc, s)
  else if n = 3 then (k.ecause, s)
  else if n = 4 then (k.eval, s)
  else if n = 0x10 then (k.vbase, s)
  else if n = 0x20 then (k.prioMask, s)
  else if 0x100 ≤ n ∧ n ≤ 0x10F then
    (if n % 2 = 0 then k.regionBase[Fin.ofNat 8 ((n - 0x100) / 2)] else k.regionAttr[Fin.ofNat 8 ((n - 0x100) / 2)], s)
  else if n = 0x200 then (BitVec.ofNat 32 k.cycle, s.latchCycle c)
  else if n = 0x201 then (BitVec.ofNat 32 k.cycleHi, s)
  else if 0x210 ≤ n ∧ n ≤ 0x217 then (k.pmc[Fin.ofNat 8 (n - 0x210)], s)
  else if 0x218 ≤ n ∧ n ≤ 0x21F then (BitVec.ofNat 32 k.pmsel[Fin.ofNat 8 (n - 0x218)], s)
  else if n = 0x220 then (k.pmovf.zeroExtend 32, s)
  else if n = 0x221 then (k.pmctl, s)
  else if n = 0x230 then (k.sampleCtl, s)
  else if n = 0x231 then (k.sample.pc, s.lockSample c)
  else if n = 0x232 then (k.sample.word, s)
  else if n = 0x233 then (k.sample.cycleLo, s)
  else if n = 0x234 then (k.sample.stages, s)
  else if n = 0x235 then (k.sample.stall, s)
  else if n = 0x236 then (k.sample.state, s.releaseSample c)
  else if n = 0x237 then (BitVec.ofNat 32 k.sampleLost, s)
  else s.freeWord

/-- The next sampling interval: N - 2^(J-1) + r, r from the LFSR, 0 to 2^J - 1 (R478; log 32). -/
def Core.nextInterval (c : Fin 4) (k : Core) : Nat :=
  let n := k.sampleCtl.toNat % 2 ^ 20
  let j := field k.sampleCtl.toNat 23 20
  if j = 0 then n else n - 2 ^ (j - 1) + Config.samplingDraw c.val k.sampleNo % 2 ^ j

/-- A value of SAMPLE_CTL as stored (R478): reserved bits 0; EN falls when N < 2^J or N < 16. -/
def sampleCtlOf (v : Word) : Word :=
  let w := v &&& 0x80FFFFFF
  let n := w.toNat % 2 ^ 20
  if n < 2 ^ field w.toNat 23 20 ∨ n < 16 then w &&& 0x7FFFFFFF else w

/-- Write SAMPLE_CTL: an interval begins when sampling is on. -/
def State.writeSampleCtl (s : State) (c : Fin 4) (v : Word) : State :=
  s.setCore c (fun k =>
    let k1 := { k with sampleCtl := sampleCtlOf v }
    if k1.sampleCtl.getLsbD 31 then { k1 with sampleLeft := Core.nextInterval c k1, sampleNo := k1.sampleNo + 1 }
    else { k1 with sampleLeft := 0, sampleTag := false })

/-- A value of PMSEL as stored: any other number is NONE (R475). -/
def pmselOf (v : Nat) : Nat := if v ≤ 0x17 then v else 0

/-- PMCTL without its reserved bits. -/
def pmctlMask : Word := 0x8000FFFF

/-- Write a system register; read-only and unlisted numbers take nothing (log 76). -/
def State.writeSys (s : State) (c : Fin 4) (n : Nat) (v : Word) : State :=
  if n = 1 then s.setCore c (fun k => { k with status := v &&& 0xF })
  else if n = 2 then s.setCore c (fun k => { k with epc := v })
  else if n = 3 then s.setCore c (fun k => { k with ecause := v })
  else if n = 4 then s.setCore c (fun k => { k with eval := v })
  else if n = 0x10 then s.setCore c (fun k => { k with vbase := v &&& 0xFFFFFF00 })
  else if n = 0x20 then s.setCore c (fun k => { k with prioMask := v })
  else if 0x100 ≤ n ∧ n ≤ 0x10F then
    s.setCore c (fun k =>
      let i := Fin.ofNat 8 ((n - 0x100) / 2)
      if n % 2 = 0 then { k with regionBase := k.regionBase.set i (v &&& 0xFFFFFC00) }
      else { k with regionAttr := k.regionAttr.set i (v &&& 0xFFFFFC0F) })
  else if 0x210 ≤ n ∧ n ≤ 0x217 then s.setCore c (fun k => { k with pmc := k.pmc.set (Fin.ofNat 8 (n - 0x210)) v })
  else if 0x218 ≤ n ∧ n ≤ 0x21F then s.setCore c (fun k => { k with pmsel := k.pmsel.set (Fin.ofNat 8 (n - 0x218)) (pmselOf v.toNat) })
  else if n = 0x220 then s.setCore c (fun k => { k with pmovf := k.pmovf &&& ~~~(v.truncate 8) })
  else if n = 0x221 then s.setCore c (fun k => { k with pmctl := v &&& pmctlMask })
  else if n = 0x230 then s.writeSampleCtl c v
  else s

/-- SRD: in user mode only the numbers R448 allows. -/
def execSrd (c : Fin 4) (d : Fin 16) (imm : BitVec 18) (s : State) : Host.Outcome State Fault Refusal :=
  let word := wordK 0x30 d 0 imm
  .next (s.insn c word [] d (fun s pc =>
    let k := s.cores[c]
    if 4096 ≤ imm.toNat then .trap s (trapIllegal word)
    else if k.privileged = false ∧ k.userReads imm.toNat = false then .trap s (trapPrivileged word)
    else
      let r := s.readSys c imm.toNat
      .done { s := r.2.setCore c (fun k => k.setReg d r.1), next := pc + 4, cost := ⟨2, [], 4, 0⟩ }))

/-- The counter that a write of system register `n` writes. -/
def counterOf (n : Nat) : Option (Fin 8) := if 0x210 ≤ n ∧ n ≤ 0x217 then some (Fin.ofNat 8 (n - 0x210)) else none

/-- SWR, privileged. A counter's write stands over the counts of its cycle, whose wrap then is none; a wrap of the cycle stands over the
clearing of its OVF bit (R477). -/
def execSwr (c : Fin 4) (a : Fin 16) (imm : BitVec 18) (s : State) : Host.Outcome State Fault Refusal :=
  let word := wordK 0x31 0 a imm
  .next (s.insn c word [a] 0 (fun s pc =>
    let k := s.cores[c]
    if k.privileged = false then .trap s (trapPrivileged word)
    else if 4096 ≤ imm.toNat then .trap s (trapIllegal word)
    else if imm.toNat = 0x220 then
      .done { s := s, next := pc + 4, cost := ⟨2, [], 4, 0⟩, early := fun t => t.writeSys c 0x220 (k.reg a) }
    else .done { s := s, next := pc + 4, cost := ⟨2, [], 4, 0⟩, written := counterOf imm.toNat,
                 post := fun t => t.writeSys c imm.toNat (k.reg a) }))

/-! ### WAIT (R449, R462) -/

/-- A WAIT ends with a value, `n` cycles after it began: the instruction retires. -/
def State.endWait (s : State) (c : Fin 4) (w : Waiting) (v : Word) (n : Nat) : State :=
  let k := s.cores[c]
  let s1 := s.passCyclesAs c (w.since + 1 + n - k.cycle) (!k.privileged) (!k.ie) true
  let s2 := s1.setCore c (fun k => ({ k with waiting := none }).setReg w.dest v)
  let e : Effect := { s := s2, next := k.pc + 4, cost := ⟨0, [], 7, 0⟩ }
  e.retire c ⟨0, [], 7, 0⟩ false false false

/-- WAIT: ends in 1 cycle when a masked bit is pending already, else the core waits. -/
def execWait (c : Fin 4) (d a : Fin 16) (imm : BitVec 18) (s : State) : Host.Outcome State Fault Refusal :=
  .next (s.insn c (wordK 0x32 d a imm) [a] d (fun s pc =>
    let k := s.cores[c]
    let v := s.pendingWord c &&& k.reg a
    let s1 := s.sampleStack c
    if v ≠ 0 then .done { s := s1.setCore c (fun k => k.setReg d v), next := pc + 4 }
    else
      .done { s := s1, next := pc, retires := false,
              post := fun t => t.setCore c (fun k1 => { k1 with waiting := some ⟨d, k.reg a, imm.toNat, k.cycle⟩ }) }))

/-- WAIT_END: a masked bit is pending; `waited` cycles passed in the WAIT. -/
def execWaitEnd (c : Fin 4) (waited : Nat) (s : State) : Host.Outcome State Fault Refusal :=
  .next (match (s.cores[c]).waiting with
    | none => s
    | some w =>
      let v := s.pendingWord c &&& w.mask
      if s.clocksRun ∧ v ≠ 0 then s.eventWake.endWait c w v waited else s)

/-- WAIT_TIMEOUT: the timeout passes; a masked bit in its last cycle wins (R462). -/
def execWaitTimeout (c : Fin 4) (s : State) : Host.Outcome State Fault Refusal :=
  .next (match (s.cores[c]).waiting with
    | none => s
    | some w => if s.clocksRun ∧ w.timeout ≠ 0 then s.eventWake.endWait c w (s.pendingWord c &&& w.mask) w.timeout else s)

/-! ### SIGNAL, BRK, ERET, FENCE -/

/-- SIGNAL: raises source 252 + imm[1:0]. -/
def execSignal (c : Fin 4) (imm : BitVec 18) (s : State) : Host.Outcome State Fault Refusal :=
  let word := wordK 0x33 0 0 imm
  .next (s.insn c word [] 0 (fun s pc =>
    if 4 ≤ imm.toNat then .trap s (trapIllegal word) else .done { s := s.raiseSource (252 + imm.toNat), next := pc + 4 }))

/-- BRK: trap BREAK, or a debug halt once the debug port is unlocked (R43). -/
def execBrk (c : Fin 4) (imm : BitVec 18) (s : State) : Host.Outcome State Fault Refusal :=
  .next (s.insn c (wordK 0x35 0 0 imm) [] 0 (fun s pc =>
    if s.startup.debugOpen then
      .done { s := s, next := pc, cost := ⟨trapCycles, [], 0, 0⟩, post := fun t => t.setCore c (fun k => { k with debugHalt := true }) }
    else .trap s ⟨11, zext18 imm⟩))

/-- ERET, privileged. -/
def execEret (c : Fin 4) (s : State) : Host.Outcome State Fault Refusal :=
  let word := wordK 0x36 0 0 0
  .next (s.insn c word [] 0 (fun s pc =>
    if (s.cores[c]).privileged = false then .trap s (trapPrivileged word)
    else .done { s := s, next := pc, cost := ⟨3, [], 4, 0⟩, leaves := true, post := fun t => t.setCore c Core.trapReturn }))

/-- FENCE: the drain of earlier stores takes a free number of cycles (log 73); the model's stores are complete already. -/
def execFence (c : Fin 4) (s : State) : Host.Outcome State Fault Refusal :=
  .next (s.insn c (wordK 0x37 0 0 0) [] 0 (fun s pc =>
    let r := s.freeNat
    .done { s := r.2, next := pc + 4, cost := ⟨1 + r.1, [(0x15, r.1)], if r.1 = 0 then 0 else 5, 0⟩ }))

/-! ### Interrupts (R451, R455) -/

/-- The highest level that is pending and enabled. -/
def State.takenLevel (s : State) (c : Fin 4) : Option Nat :=
  let w := s.pendingWord c &&& (s.cores[c]).prioMask
  ((List.range 32).map (fun i => 31 - i)).find? (fun p => w.getLsbD p)

/-- INTERRUPT_ENTRY: the highest enabled pending level is taken between instructions, or in a WAIT, which resumes later. The
monitor delivers it to the user handler; without one the event only stays pending (R455). -/
def execInterruptEntry (c : Fin 4) (s : State) : Host.Outcome State Fault Refusal :=
  .next (
    let k := s.cores[c]
    let may := s.clocksRun && !k.held && !k.debugHalt && (c == 0 || k.running.isSome) && k.ie
    match s.takenLevel c with
    | none => s
    | some p =>
      if may = false then s
      else
        let r := (s.sampleStack c).freeWord
        let s1 := (((r.2.passCycles c trapCycles).countEvent c 0x02 trapCycles).flushTagged c).setCore c (fun k =>
          { (k.enterTrap k.pc (BitVec.ofNat 32 (0x80000000 + p)) r.1 (0x80 + 4 * p)) with waiting := none, loadDest := none })
        let s2 := s1.countEvent c 0x07 1
        if k.privileged ∨ c = 0 then s2
        else match k.running with
          | none => s2
          | some i =>
            let f := s2.freeNat
            let s3 := f.2.passCycles c (f.1 % 21)
            if i.header.handler = 0xFFFFFFFF then s3.setCore c Core.trapReturn
            else
              let h := BitVec.ofNat 32 (s3.codeStart c i.header + i.header.handler)
              s3.setCore c (fun k1 =>
                { (k1.setReg 1 (BitVec.ofNat 32 p)) with
                  frame := some ⟨k.regs, k.pc, true⟩, epc := h, pc := h, status := statusOf false false false false }))

end Sys2Proof.Machine
end

