-- ==== Sys2Proof/Machine/Router.lean ====
section
/-! DEFINITION. Event router, timers, performance counters and sampling as commands of their own (R466-R481). -/

namespace Sys2Proof.Machine

open Sys2Proof

/-! ### Routes (R468, R469) -/

/-- A committed route pair: a source whose route changes loses its pending bit at its old core. -/
def State.routeCommit (s : State) (i v : Nat) : State :=
  let old := s.nat (Key.routerRoutePair i)
  let clear := fun (s : State) (half : Nat) =>
    let src := 2 * i + half
    let a := old / 65536 ^ half % 65536
    let core := field a 10 8
    if a = v / 65536 ^ half % 65536 ∨ (248 ≤ src ∧ src ≤ 251) ∨ core = 0 ∨ 3 < core then s
    else s.setCore (Fin.ofNat 4 core) (fun k => k.setPendingSource src false)
  (clear (clear s 0) 1).assign (Key.routerRoutePair i) (Int.ofNat v)

/-- ROUTE_CHANGE of the pair at subindex i + 1. -/
def execRouteChange (p : Path) (i : Fin 128) (v : BitVec 32) (s : State) : Host.Outcome State Fault Refusal :=
  .next (s.commanded p (Key.routerRoutePair i.val) v.toNat (fun s => s.routeCommit i.val v.toNat))

/-- SRC_PEND_CLEAR: a W1C write to SRC_PEND i. -/
def execSrcPendClear (c : Fin 4) (i : Fin 8) (mask : BitVec 32) (s : State) : Host.Outcome State Fault Refusal :=
  .next (s.served (fun s => s.setCore c (fun k => { k with srcPend := k.srcPend.set i (k.srcPend[i] &&& ~~~mask) })))

/-- Clear 81-83 and MERGED of every core (R473). -/
def State.routerCountersClear (s : State) : State :=
  let s1 := s.zero [Key.routerRaisesDelivered, Key.routerBellowsTriggers, Key.routerKelsisTriggers]
  { s1 with cores := Vector.map (fun (k : Core) => { k with merged := 0 }) s1.cores }

/-- EVENT_ROUTER_COUNTERS_CLEAR. -/
def execEventRouterCountersClear (p : Path) (s : State) : Host.Outcome State Fault Refusal :=
  .next (s.commanded p Key.routerClearCounters 1 (fun s => s.routerCountersClear))

/-! ### Timers (R472) -/

/-- TIMER_RUN: a store that sets RUN. -/
def execTimerRun (c : Fin 4) (t : Fin 2) (periodic : Bool) (s : State) : Host.Outcome State Fault Refusal := .next (s.served (fun s => s.timerRun c t periodic))

/-- TIMER_STOP: a store that clears RUN. -/
def execTimerStop (c : Fin 4) (t : Fin 2) (s : State) : Host.Outcome State Fault Refusal :=
  .next (s.served (fun s => s.timerStop c t (s.cores[c]).timers[t].periodic))

/-- TIMER_EXPIRY: COUNT steps from 1 to 0; a periodic timer is reloaded, a one-shot timer stops; local source 248 + t. A timer
that does not run, or runs on RELOAD 0, never expires. -/
def execTimerExpiry (c : Fin 4) (t : Fin 2) (s : State) : Host.Outcome State Fault Refusal :=
  let tm := (s.cores[c]).timers[t]
  let after : Timer := if tm.periodic then { tm with count := tm.reload, since := tm.since + 300 * tm.count.toNat - tm.phase, phase := 0 }
    else { tm with run := false, count := 0 }
  .next (if s.clocksRun ∧ tm.run ∧ tm.count ≠ 0 then (s.setCore c (fun k => { k with timers := k.timers.set t after })).raiseLocal c t.val
    else s)

/-! ### Counters (R476, R477) -/

/-- COUNTER_OVERFLOW: PMC j counts from 0xFFFF_FFFF to 0. -/
def execCounterOverflow (c : Fin 4) (j : Fin 8) (s : State) : Host.Outcome State Fault Refusal :=
  .next (s.served (fun s =>
    let k := s.cores[c]
    if k.pmctl.getLsbD j.val ∧ k.pmsel[j] ≠ 0 ∧ k.pmc[j] = 0xFFFFFFFF then
      (let r := k.passCount j 1
       let s1 := s.setCore c (fun _ => r.1)
       if r.2 then s1.raiseLocal c 2 else s1)
    else s))

/-- PMOVF_CLEAR: a W1C write to PMOVF. -/
def execPmovfClear (c : Fin 4) (mask : BitVec 8) (s : State) : Host.Outcome State Fault Refusal :=
  .next (s.served (fun s => s.setCore c (fun k => { k with pmovf := k.pmovf &&& ~~~mask })))

/-- CYCLE_LO_READ latches CYCLE_HI. -/
def execCycleLoRead (c : Fin 4) (s : State) : Host.Outcome State Fault Refusal := .next (s.served (fun s => s.latchCycle c))

/-- Zero PMC0-7, PMOVF and the count of records lost (R480). -/
def State.countersClear (s : State) (c : Fin 4) : State :=
  s.setCore c (fun k => { k with pmc := Vector.replicate 8 0, pmovf := 0, sampleLost := 0 })

/-- PERFORMANCE_COUNTERS_CLEAR. -/
def execPerformanceCountersClear (p : Path) (c : Fin 4) (s : State) : Host.Outcome State Fault Refusal :=
  .next (s.commanded p (Key.pmClearCounters c.val) 1 (fun s => s.countersClear c))

/-- A committed write to a counter object is a write of the core's register (R480). -/
def State.counterWrite (s : State) (c : Fin 4) (sub v : Nat) : State :=
  if sub = 1 then s.writeSys c 0x221 (BitVec.ofNat 32 v)
  else if 2 ≤ sub ∧ sub ≤ 9 then s.writeSys c (0x216 + sub) (BitVec.ofNat 32 v)
  else if sub = 0x15 then s.writeSys c 0x230 (BitVec.ofNat 32 v)
  else s

/-! ### Sampling (R478, R479) -/

/-- SAMPLE_INTERVAL_END: the interval's instructions have retired; the next one fetched is tagged. -/
def execSampleIntervalEnd (c : Fin 4) (s : State) : Host.Outcome State Fault Refusal :=
  .next (s.served (fun s => s.setCore c (fun k =>
    if k.sampleCtl.getLsbD 31 && k.sampleLeft == 0 then
      { k with sampleTag := true, sampleLeft := Core.nextInterval c k, sampleNo := k.sampleNo + 1 }
    else k)))

/-- SAMPLE_RECORD_READY: the tagged instruction has retired, trapped or been flushed. A locked record stands and the new one is lost; a valid
one not locked is overwritten and counts as lost (R479, R481). -/
def execSampleRecordReady (c : Fin 4) (s : State) : Host.Outcome State Fault Refusal :=
  .next (s.served (fun s => match (s.cores[c]).flight with
    | none => s
    | some r =>
      if r.retired ∨ r.trapped ∨ r.flushed then
        if (s.cores[c]).sampleLocked then s.setCore c (fun k => { k with flight := none, sampleLost := satSucc 32 k.sampleLost })
        else
          (s.setCore c (fun k =>
            { k with flight := none, sample := { r with seq := (k.sample.seq + 1) % 256 },
                     sampleLost := if k.sample.valid then satSucc 32 k.sampleLost else k.sampleLost })).raiseLocal c 3
      else s))

/-- SAMPLE_RECORD_LOCK: 0x231 is read. -/
def execSampleRecordLock (c : Fin 4) (s : State) : Host.Outcome State Fault Refusal := .next (s.served (fun s => s.lockSample c))

/-- SAMPLE_RECORD_RELEASE: 0x236 is read. -/
def execSampleRecordRelease (c : Fin 4) (s : State) : Host.Outcome State Fault Refusal := .next (s.served (fun s => s.releaseSample c))

end Sys2Proof.Machine
end

