-- ==== Sys2Proof/Machine/Modes.lean ====
section
/-! DEFINITION. What a configuration subindex's new running value asks of its block, and mode switches (R145-R151, R638). -/

namespace Sys2Proof.Machine

open Sys2Proof

/-! ### New running values -/

/-- The settings of a CAN controller that restart it (R484). -/
def canSetting (key : Nat) : Option (Fin 2) :=
  let idx := key / 256
  let sub := key % 256
  if idx = 0x3600 ∨ idx = 0x3640 then (if [1, 2, 3, 5].contains sub then some (Fin.ofNat 2 ((idx - 0x3600) / 0x40)) else none)
  else if idx = 0x3601 ∨ idx = 0x3641 then some (Fin.ofNat 2 ((idx - 0x3601) / 0x40))
  else none

/-- A subindex has a new running value: what its block does at once. -/
def State.taken (s : State) (key : Nat) : State :=
  let idx := key / 256
  let sub := key % 256
  if 0x2400 ≤ idx ∧ idx ≤ 0x243F then
    (let n := Fin.ofNat 64 (idx - 0x2400)
     if sub = 1 ∨ sub = 2 then s.channelConfigured n
     else if sub = 0x0C ∨ sub = 0x0D then s.rangeSelected n
     else if 0x0F ≤ sub ∧ sub ≤ 0x11 then s.blankSelected n
     else s)
  else if key = Key.inputsBLANK0Polarity then s.blankJudge 0 s.tickTime
  else if key = Key.inputsBLANK1Polarity then s.blankJudge 1 s.tickTime
  else if 0x2600 ≤ idx ∧ idx ≤ 0x263F ∧ sub = 1 then s.loopConfigured (Fin.ofNat 64 (idx - 0x2600))
  else if 0x2700 ≤ idx ∧ idx ≤ 0x273F ∧ 1 ≤ sub ∧ sub ≤ 3 then s.learnerConfigured (Fin.ofNat 64 (idx - 0x2700))
  else if 0x2800 ≤ idx ∧ idx ≤ 0x2813 ∧ sub = 1 then (if s.nat key = 0 then s else s.actEnabled (Fin.ofNat 20 (idx - 0x2800)))
  else if 0x3010 ≤ idx ∧ idx ≤ 0x3013 ∧ sub = 1 then s.columnConfigured (Fin.ofNat 4 (idx - 0x3010))
  else if (0x3010 ≤ idx ∧ idx ≤ 0x3013 ∧ sub = 7) ∨ (0x3040 ≤ idx ∧ idx ≤ 0x304F) then s.grainWritten key
  else if 0x3110 ≤ idx ∧ idx ≤ 0x3113 ∧ key = Key.predEnable (idx - 0x3110) then s.predictorConfigured (Fin.ofNat 4 (idx - 0x3110))
  else if idx = 0x2013 then (if s.dict.policies then s.servePolicies else s)
  else if key = Key.hostHostPaths then s.hostPathsChanged
  else if key = Key.powerDeepestStateAllowed then { s with power := { s.power with emberLogged := false } }
  else if idx = 0x3720 ∧ sub % 16 = 0 then s.portConfigured (Fin.ofNat 4 (sub / 16 - 1))
  else if idx = 0x3730 then s.grandmasterCheck
  else if idx = 0x37A0 then s.mapConfigured
  else if key = Key.cantimeReferenceRole 0 then s.setCan 0 (fun q => { q with lastSof := none })
  else match canSetting key with
    | some b => s.canRestart b
    | none => s

/-! ### Mode switches (R145-R151, R638) -/

/-- The entries of the overlay of mode `m`, as committed; none for mode 0. -/
def State.modeEntries (s : State) (m : Nat) : List OverlayEntry := if m = 0 then [] else overlayEntries (s.block (Key.overlayEntryList (m - 1)))

/-- OVERLAY_ENTRY_LIST_WRITE: the list of mode `m` + 1 is checked whole against the base. -/
def execOverlayEntryListWrite (p : Path) (m : Fin 16) (data : List Byte) (s : State) : Host.Outcome State Fault Refusal :=
  .next (s.writeNow p (Key.overlayEntryList m.val) data (fun s _ => (s.putBlock (Key.overlayEntryList m.val) data).answer p .done))

/-- The refusal of a request that commits now (R638). -/
def State.modeRefused (s : State) (m : Nat) : Option Refused := (firstBad s.baseGet (s.modeEntries m)).map (fun e => .overlayEntry e.key)

/-- A request that stands commits at this tick: PENDING for tick + 32; a request for the active mode only replaces one (R149, R150). -/
def State.modeRequest (s : State) (m : Nat) : State :=
  let s1 := s.putN Key.modeRequestedMode m
  if m = s.nat Key.modeActiveMode then ({ s1 with dict := { s1.dict with pending := none } }).putN Key.modeSwitchStatus 0
  else
    ({ s1 with dict := { s1.dict with pending := some ⟨m, s.clock.tick + 32, overlayValues (s.modeEntries m)⟩ } }).putN Key.modeSwitchStatus 1

/-- MODE_SWITCH_REQUEST. -/
def execModeSwitchRequest (p : Path) (m : BitVec 8) (s : State) : Host.Outcome State Fault Refusal :=
  .next (s.commanded p Key.modeRequestedMode m.toNat (fun s =>
    match s.modeRefused m.toNat with
    | some e => s.refuse p e
    | none => s.modeRequest m.toNat))

/-- An output's object, whose command is worked out again after a write. -/
def outputKey (key : Nat) : Bool := Nat.ble 0x2800 (key / 256) && Nat.ble (key / 256) 0x2940

/-- An output's object, or a channel that an output may take. -/
def feedsOutput (key : Nat) : Bool := outputKey key || (Nat.ble 0x2400 (key / 256) && Nat.ble (key / 256) 0x243F)

/-- A subindex whose running value a swap has changed: what its block does, and a hand-over of its loop (R151, R269). -/
def State.overlayTaken (s : State) (key : Nat) : State :=
  let idx := key / 256
  let s1 := s.taken key
  if 0x2600 ≤ idx ∧ idx ≤ 0x263F then s1.loopOverlay (Fin.ofNat 64 (idx - 0x2600))
  else if 0x2700 ≤ idx ∧ idx ≤ 0x273F then s1.loopOverlay (Fin.ofNat 64 (idx - 0x2700))
  else s1

/-- Put an overlay in force on the base: the keys of the old and the new one take the new set's values (R148). -/
def State.layOverlay (s : State) (new : List (Nat × Int)) : State :=
  let view := overlayView s.baseGet new
  let keys := (s.dict.active ++ new).map (fun e => e.1)
  let s1 := keys.foldl (fun s k => s.put k (view k)) s
  { s1 with dict := { s1.dict with active := new } }

/-- The keys a swap changes: those named by the old or the new overlay whose running value differs after it. -/
def State.swapChanges (s : State) (new : List (Nat × Int)) : List Nat :=
  let view := overlayView s.baseGet new
  (((s.dict.active ++ new).map (fun e => e.1)).eraseDups).filter (fun k => s.get k != view k)

/-- The swap: all values of the new set together, the mode saved in both copies, 0x0A01; outputs follow at once (R149, R151). -/
def State.modeSwap (s : State) (q : PendingSwitch) : State :=
  let old := s.nat Key.modeActiveMode
  let changed := s.swapChanges q.entries
  let view := overlayView s.baseGet q.entries
  let s1 := ((s.keepOld (changed.map (fun k => (k, view k)))).actsKeep changed).layOverlay q.entries
  let s2 := (((({ s1 with dict := { s1.dict with pending := none } }).saveMode q.mode).putN Key.modeSwitchStatus 0).putN Key.modeActiveMode q.mode).putN
    Key.modePreviousMode old
  let s3 := changed.foldl (fun s k => s.overlayTaken k) ((s2.bump 32 Key.modeSwitches).log 0x0A01 noSource old q.mode changed.length)
  if changed.any feedsOutput then s3.serveAllOutputs else s3

end Sys2Proof.Machine
end

