-- ==== Sys2Proof/Machine/Power.lean ====
section
/-! DEFINITION. Supplies and power states (R65-R90): brown-out, P2, backup cell, the power manager's decisions, sleep and wake. -/

namespace Sys2Proof.Machine

open Sys2Proof

/-! ### Supplies (R65-R72) -/

/-- Set the supply status bit. -/
def State.supplyBit (s : State) (n : Nat) (b : Bool) : State := s.putBit Key.supplySupplyStatus n b

/-- The operating-time counter is copied to FRAM (R72). -/
def State.saveOpTime (s : State) : State := { s with clock := { s.clock with opFram := s.clock.op } }

/-- The auxiliary 24 V outputs of X1 (pins 1 and 9) and X3 (pins 13 and 14) are on, each connector limited to 250 mA; they are off in
BANKED and EMBER (R42). WAKE_SRC of X1 is never off: the WAKE input acts in every power state. -/
def State.auxiliaryOn (s : State) : Bool :=
  match s.power.phase with
  | .asleep _ => false
  | .onCell _ => false
  | _ => true

/-- The limit of a supply in mA: an auxiliary output for its connector, the sensor supply of a drive for its pin (R42). -/
abbrev auxiliaryLimit : Nat := 250
abbrev sensorSupplyLimit : Nat := 150

/-- PLL_LOCK_LOSS: the clock monitor resets the module (R19). -/
def execPllLockLoss (s : State) : Host.Outcome State Fault Refusal := .next (if s.clocksRun ∨ s.startup.hotHold ∨ s.startup.halted then s.enterReset 1 else s)

/-- P1_BROWN_OUT in BLAZE, SIMMER or before a commit point: 0x0101, queued records, operating seconds, reset (R65, R66, R82). -/
def execP1BrownOut (s : State) : Host.Outcome State Fault Refusal :=
  .next (if s.clocksRun ∨ s.startup.hotHold ∨ s.startup.halted then
      let s1 := s.bump 16 Key.supplyP1BrownOuts
      (((s1.recordNow (s1.ashEvent 0x0101 noSource 0 0 0)).flushAsh 64).saveOpTime).enterReset 2
    else s)

/-- Let AON counts pass while the module sleeps: RTC, operating time, time in the state (R72, R85). -/
def State.sleepFor (s : State) (aon : Nat) : State :=
  let u := aon * unitsPerAon
  match s.power.phase with
  | .asleep .banked => let s1 := s.elapse u; { s1 with power := { s1.power with inBanked := s1.power.inBanked + u } }
  | .asleep .ember => let s1 := s.elapse u; { s1 with power := { s1.power with inEmber := s1.power.inEmber + u } }
  | _ => s

/-- P1_BROWN_OUT_ASLEEP after `aon` counts of sleep: AON moves to the cell; from BANKED all but the AON contents is lost (R68). It counts in
0x3B00:06 (log 92). A contact declared before EMBER outlasts the loss (log 174). -/
def execP1BrownOutAsleep (aon : Nat) (s : State) : Host.Outcome State Fault Refusal :=
  .next (match s.power.phase with
    | .asleep p =>
      let s1 := (s.sleepFor aon).putN Key.powerLastWakeCause 32
      let s2 := s1.bump 16 Key.supplyP1BrownOuts
      let s3 := { s2 with power := { s2.power with p1LostIn := some p } }
      let s4 := s3.afterReset
      { s4 with power := { s4.power with phase := .onCell p, retention := if p = .ember then s3.power.retention else none,
                                         contactDue := if p = .ember then s3.power.contactDue else none } }
    | _ => s)

/-- P1_LOW_SET and P1_LOW_CLEAR (R70): source 242. -/
def execP1LowSet (s : State) : Host.Outcome State Fault Refusal :=
  .next (if s.clocksRun ∧ s.bitOf Key.supplySupplyStatus 0 = false then (s.supplyBit 0 true).raiseSource 242 else s)
def execP1LowClear (s : State) : Host.Outcome State Fault Refusal :=
  .next (if s.clocksRun ∧ s.bitOf Key.supplySupplyStatus 0 then (s.supplyBit 0 false).raiseSource 242 else s)

/-- P2_LOSS: every actuator channel opens, 0x0102, source 243 (R69). -/
def execP2Loss (s : State) : Host.Outcome State Fault Refusal :=
  .next (if s.clocksRun ∧ s.p2Lost = false then
      let s1 := (((s.supplyBit 1 true).bump 16 Key.supplyP2Losses).log 0x0102 noSource).raiseSource 243
      ((List.finRange 20).foldl (fun s (a : Fin 20) => s.actP2Loss a) s1).serveDrives
    else s)

/-- P2_RESTORED: 0x0105, source 243; no activation is restarted. -/
def execP2Restored (s : State) : Host.Outcome State Fault Refusal :=
  .next (if s.clocksRun ∧ s.p2Lost then (((s.supplyBit 1 false).log 0x0105 noSource).raiseSource 243).serveDrives else s)

/-- The backup cell is measured (R70, R89). -/
def State.cellCheck (s : State) (mv : Nat) : State :=
  let low := decide (mv < 2500)
  let s1 := (s.putN Key.supplyBackupCellVoltage (mv % 65536)).supplyBit 2 low
  if low then s1.log 0x0106 noSource else s1

/-- CELL_CHECK, hourly. -/
def execCellCheck (mv : BitVec 16) (s : State) : Host.Outcome State Fault Refusal := .next (if s.clocksRun then s.cellCheck mv.toNat else s)

/-- CRYSTAL_STOPPED: AON_RC until a start finds the crystal running (R73). -/
def execCrystalStopped (s : State) : Host.Outcome State Fault Refusal :=
  .next (if s.bitOf Key.supplySupplyStatus 4 then s
    else
      let s1 := s.supplyBit 4 true
      match s.power.phase with
      | .awake | .entering _ | .asleep .banked => s1.log 0x0107 noSource
      -- only AON runs: the record waits for the start
      | _ => { s1 with power := { s1.power with crystalDue := true } })

/-- OPERATING_TIME_SAVE. -/
def execOperatingTimeSave (s : State) : Host.Outcome State Fault Refusal := .next (if s.clocksRun then s.saveOpTime else s)

/-- SUPPLY_COUNTERS_CLEAR: 0x3B00:06 and 07. -/
def execSupplyCountersClear (p : Path) (s : State) : Host.Outcome State Fault Refusal :=
  .next (s.commanded p Key.supplyClearCounters 1 (fun s => s.zero [Key.supplyP1BrownOuts, Key.supplyP2Losses]))

/-- Clear 0x2200:0A-0D. -/
def State.powerStatsClear (s : State) : State :=
  ({ s with power := { s.power with inSimmer := 0, inBanked := 0, inEmber := 0 } }).putN Key.powerEMBEREntries 0

/-- POWER_STATISTICS_CLEAR. -/
def execPowerStatisticsClear (p : Path) (s : State) : Host.Outcome State Fault Refusal :=
  .next (s.commanded p Key.powerClearStatistics 1 (fun s => s.powerStatsClear))

/-- The RTC is set (R85); where its second then stands is free (log 79). -/
def State.rtcWrite (s : State) (v : Nat) : State :=
  let r := s.freeNat
  ({ r.2 with clock := { r.2.clock with rtcSub := r.1 % unitsPerSecond } }).putN Key.powerRTC v

/-! ### Known events (R79) -/

/-- Nanoseconds to the next firing of the wake schedule: RTC mod period = phase (R85). -/
def State.toSchedule (s : State) : Option Nat :=
  let p := s.nat Key.powerWakePeriod
  if p = 0 then none
  else
    let d := (s.nat Key.powerWakePhase + p - s.rtc % p) % p
    some ((if d = 0 then p else d) * 1000000000 - nsOfUnits s.clock.rtcSub)

/-- Nanoseconds to the next due scan of an enabled channel (R178). -/
def State.toScan (s : State) : Option Nat :=
  let now := s.moduleNs
  let ms := now / 1000000
  let one := fun (n : Nat) =>
    let p := s.nat (Key.chanScanPeriod n)
    if chanLive s.get n ∧ p ≠ 0 then
      let d := (s.nat (Key.chanScanPhase n) % p + p - ms % p) % p
      some ((ms + (if d = 0 then p else d)) * 1000000 - now)
    else none
  ((List.range 64).filterMap one).min?

/-- Nanoseconds to the earliest WAIT timeout. -/
def State.toTimeout (s : State) : Option Nat :=
  (s.cores.toList.filterMap (fun (k : Core) => k.waiting.bind (fun w =>
    if w.timeout = 0 then none else some ((w.since + 1 + w.timeout - k.cycle) * 10 / 3)))).min?

/-- Nanoseconds to the Flue beacon duty, and to the declared contact (R88, R549). -/
def State.toBeacon (s : State) : Option Nat := s.flue.beacon.map (fun t => t * 1000000000 - s.moduleNs)
def State.toContact (s : State) : Option Nat := s.power.contactDue.map (fun t => t * 1000000000 - nsOfUnits s.clock.op)

/-- The earliest known event: nanoseconds and its source code; the lower code of equal ones. -/
def State.nextEvent (s : State) : Option (Nat × Nat) :=
  [s.toSchedule.map (fun t => (t, 1)), s.toScan.map (fun t => (t, 2)), s.toTimeout.map (fun t => (t, 3)), s.toBeacon.map (fun t => (t, 4)),
   s.toContact.map (fun t => (t, 5))].foldl
    (fun best e => match best, e with
      | none, e => e
      | b, none => b
      | some b, some e => if e.1 < b.1 then some e else some b) none

/-! ### The decision (R75, R79, R80, R81) -/

/-- Entry latency plus wake latency, and break-even, in ns (R75); SIMMER's, given as below 1 µs, are taken as 0 (log 98). -/
def latencyOf : PowerState → Nat
  | .banked => 2000000
  | .ember => 100000000
  | _ => 0
def breakEvenOf : PowerState → Nat
  | .banked => 20000000
  | .ember => 2500000000
  | _ => 0

/-- State `q` passes the tests of R79 for `t` ns to the next event, none for infinite. While AON runs on RC, 5 % of the sleep time
joins the guard (R73). -/
def State.stateAllowed (s : State) (t : Option Nat) (q : PowerState) : Bool :=
  let guard_ := s.nat Key.powerGuardTime * 1000000
  let enough := match t with
    | none => true
    | some t =>
      let extra := if s.bitOf Key.supplySupplyStatus 4 then t / 20 else 0
      decide (latencyOf q + guard_ + extra ≤ t) && decide (breakEvenOf q ≤ t)
  decide (q.code ≤ s.nat Key.powerDeepestStateAllowed) && (decide (q.code ≤ 1) || (s.capWord == 0 && !s.power.refusalHold)) && enough

/-- The deepest state that passes. -/
def State.selectState (s : State) (t : Option Nat) : PowerState :=
  if s.stateAllowed t .ember then .ember else if s.stateAllowed t .banked then .banked
  else if s.stateAllowed t .simmer then .simmer else .blaze

/-- The dictionary server has a transaction pending (R81): writes staged, answers not yet sent, a store, a transfer, a thermal reading. -/
def State.transactionPending (s : State) : Bool :=
  !s.dict.staged.isEmpty || !s.dict.replies.isEmpty || s.dict.saveOp.isSome || !s.thermal.readers.isEmpty
    || s.canopen.sdo.phase != .idle || !s.flue.serving.isEmpty || !s.flue.waiting.isEmpty

/-- What a decision for BANKED or EMBER rests on beside t_next still stands: all four cores in WAIT, no transaction, the caps and the
deepest state allowed (R80, R81). -/
def State.entryHolds (s : State) (q : PowerState) : Bool :=
  (List.finRange 4).all (fun (c : Fin 4) => (s.cores[c]).inWait) && !s.transactionPending && s.stateAllowed none q

/-- The banking notice of a seated member to its head, with the wake time in module seconds (R81, R548). -/
def State.bankingNotice (s : State) (t : Option Nat) : State :=
  if s.nat Key.flueSeatState = 2 ∧ s.headed.isEmpty then
    let wake := match t with
      | some t => (s.moduleNs + t) / 1000000000
      | none => 0xFFFFFFFF
    let s1 := s.sendFlue (s.nat Key.flueGroupAddress) (.banking wake)
    { s1 with power := { s1.power with noticeOut := true, banking := true } }
  else s

/-- The decision of R79 is shown: state, t_next in whole ms (log 93), its source. -/
def State.decided (s : State) (q : PowerState) (e : Option (Nat × Nat)) : State :=
  ((s.putN Key.powerLastDecisionState q.code).putN Key.powerLastDecisionTNext
    (match e with | some x => min (x.1 / 1000000) 0xFFFFFFFE | none => 0xFFFFFFFF)).putN Key.powerLastDecisionSource ((e.map (fun x => x.2)).getD 0)

/-- POWER_STATE_EVALUATION (R79, R81): with all four cores in WAIT and no transaction pending. An input that changes before the commit
point is judged again: an entry that no longer stands is abandoned, one decided deeper or shallower goes on so (R82; log 173). -/
def execPowerStateEvaluation (s : State) : Host.Outcome State Fault Refusal :=
  let ready := (List.finRange 4).all (fun (c : Fin 4) => (s.cores[c]).inWait) && !s.transactionPending
  let e := s.nextEvent
  let t := e.map (fun x => x.1)
  let q := s.selectState t
  .next (match s.power.phase with
    | .awake =>
      if ready = false then s
      else
        let s1 := s.decided q e
        match q with
        | .blaze => if s.power.state = .simmer then s1.returnToBlaze 0 else s1
        | .simmer => { s1 with power := { s1.power with state := .simmer } }
        | q => ({ s1 with power := { s1.power with phase := .entering q } }).bankingNotice t
    | .entering _ =>
      if ready = false then s.abandonEntry 0
      else
        let s1 := s.decided q e
        match q with
        | .blaze => s1.abandonEntry 0
        | .simmer =>
          let s2 := s1.abandonEntry 0
          { s2 with power := { s2.power with state := .simmer } }
        | q => { s1 with power := { s1.power with phase := .entering q } }
    | _ => s)

/-- What the hearth core records for a warm boot (R77). -/
def State.retentionRecord (s : State) : Retention :=
  { process := s.process, mode := s.nat Key.modeActiveMode, checkValue := s.nat Key.cfgSavedCheckValue, bank := s.nat Key.startBankStarted,
    host := s.nat Key.lostState, policies := s.dict.policies }

/-- What stops with the PLL (R74, R75): the front end, the CAN controllers, the Flue links. -/
def State.powerDown (s : State) : State :=
  let s1 := { s with thermal := { s.thermal with converting := none, demand := Vector.replicate 6 false } }
  (List.finRange 4).foldl (fun s (p : Fin 4) => s.adjacencyDown p 0) (s1.frontOff.canSleep)

/-- EMBER is entered: records and time are saved, the hearth core's retention slot takes its record (R72, R77, R84, R440). -/
def State.sleepEmber (s : State) : State :=
  let s1 := if s.power.emberLogged then s else s.log 0x0103 noSource
  let s2 := (((s1.flushAsh 64).saveOpTime).bump 32 Key.powerEMBEREntries).powerDown
  let s3 := s2.setCore 0 (fun k => { k with retention := [], record := some s.retentionRecord })
  { s3 with power := { s3.power with phase := .asleep .ember, state := .ember, emberLogged := true, retention := some s.retentionRecord } }

/-- BANKED is entered. -/
def State.sleepBanked (s : State) : State :=
  let s1 := s.saveOpTime.powerDown
  { s1 with power := { s1.power with phase := .asleep .banked, state := .banked } }

/-- SLEEP_ENTRY_COMMIT: the PLL stops (R75, R82); an input that has changed since the decision abandons the entry instead (R81; log 173). -/
def execSleepEntryCommit (s : State) : Host.Outcome State Fault Refusal :=
  .next (match s.power.phase with
    | .entering q =>
      if s.power.noticeOut then s
      else if s.entryHolds q = false then s.abandonEntry 0
      else if q = .ember then s.sleepEmber
      else if q = .banked then s.sleepBanked
      else s
    | _ => s)

/-! ### Wake (R76-R78, R82-R84) -/

/-- The record of a wake caused by the WAKE input or by CAN (R84). -/
def State.logWake (s : State) (n : Nat) : State := if 1 ≤ n ∧ n ≤ 3 then s.log 0x0104 noSource else s

/-- A wake event with its bit of R86: from SIMMER at once, before the commit point the entry is abandoned, after it AON latches the
event. A second source of the same AON cycle joins the wake or the abandoned entry (R82; log 94). -/
def State.wakeEvent (s : State) (n : Nat) (enabled : Bool) (aon : Nat) : State :=
  if enabled = false then s
  else match s.power.phase with
    | .awake =>
      let causes := s.nat Key.powerLastWakeCause
      if s.power.state = .simmer then (s.returnToBlaze (2 ^ n)).logWake n
      else if aon = 0 ∧ s.power.wokenAt = some s.clock.op ∧ causes.testBit n = false then
        let s1 := s.putBit Key.powerLastWakeCause n true
        if causes.testBit 6 || causes.testBit 1 || causes.testBit 2 || causes.testBit 3 then s1 else s1.logWake n
      else s
    | .entering _ => s.abandonEntry (2 ^ n)
    | .asleep .ember =>
      -- CAN wake is not armed in EMBER (R76)
      if n = 2 ∨ n = 3 then s else { s with power := { s.power with latchedWake := setBit s.power.latchedWake n true } }
    | .asleep _ => { s with power := { s.power with latchedWake := setBit s.power.latchedWake n true } }
    | _ => s

/-- Bit `n` of 0x2200:03. -/
def State.wakeEnabled (s : State) (n : Nat) : Bool := s.bitOf Key.powerWakeSourceEnable n

/-- RTC_ALARM after `aon` counts of sleep. -/
def execRtcAlarm (aon : Nat) (s : State) : Host.Outcome State Fault Refusal := .next ((s.sleepFor aon).wakeEvent 0 (s.wakeEnabled 0) aon)

/-- WAKE_INPUT: the input is high after filtering (R426). -/
def execWakeInput (aon : Nat) (s : State) : Host.Outcome State Fault Refusal :=
  .next (((s.sleepFor aon).putBit Key.inputsInputLevels 4 true).wakeEvent 1 (s.wakeEnabled 1) aon)

/-- A frame is a wake frame of controller `b` (R509): classical, its identifier under the mask, its DLC, a data bit that the mask has, or the
mask 0. Byte 0 of the data mask is the low byte of sub 11 (DEDUCED, log 189). -/
def State.wakeFrame (s : State) (b : Fin 2) (f : CanFrame) : Bool :=
  let id := s.nat (Key.canWakeIdentifier b)
  let mask := s.nat (Key.canWakeIdentifierMask b) % 2 ^ 29
  let dlc := s.nat (Key.canWakeDLC b)
  let bits := leBytes 4 (s.nat (Key.canWakeDataMaskBytes03 b)) ++ leBytes 4 (s.nat (Key.canWakeDataMaskBytes47 b))
  !f.id.testBit 30 && f.id.testBit 31 == id.testBit 31 && (f.id &&& mask) == (id &&& mask) && (dlc == 0xFF || dlc == f.dlc)
    && (bits.all (fun m => m == 0) || (List.zipWith (fun m d => m &&& d) bits f.data).any (fun x => x != 0))

/-- CAN_WAKE of CAN A or CAN B: from BANKED, as 0x36x0:0D arms it, by a pattern, or by the frame that came where that is a wake frame (R509). -/
def execCanWake (b : Fin 2) (frame : Option CanFrame) (aon : Nat) (s : State) : Host.Outcome State Fault Refusal :=
  let mode := s.nat (Key.canWakeMode b)
  .next ((s.sleepFor aon).wakeEvent (2 + b.val) (s.wakeEnabled (2 + b.val) && (mode == 1 || (mode == 2 && frame.any (s.wakeFrame b)))) aon)

/-- Program execution resumes after the WAIT of each core (R77; log 90). -/
def State.coresResume (s : State) : State :=
  (List.finRange 4).foldl (fun s (c : Fin 4) => match (s.cores[c]).waiting with
    | none => s
    | some w => s.endWait c w (s.pendingWord c &&& w.mask) ((s.cores[c]).cycle - (w.since + 1))) s

/-- WAKE_FROM_BANKED: outputs off, controllers and front end powered again, the watchdog restarts, AWAKE to the head (R77, R78, R83,
R84, R508, R550, R601). -/
def execWakeFromBanked (s : State) : Host.Outcome State Fault Refusal :=
  .next (match s.power.phase with
    | .asleep .banked =>
      let bits := s.power.latchedWake
      if bits = 0 then s
      else
        let s1 := (s.returnToBlaze bits).actsOff.canWake
        let s2 := (List.range 16).foldl (fun s d => s.put (Key.driveCommandApplied d) 0) s1
        let s3 := if bits.testBit 1 || bits.testBit 2 || bits.testBit 3 then s2.log 0x0104 noSource else s2
        let s4 := (s3.watchdogRestart).thermalDemands [0, 1, 2, 3, 4, 5]
        let s5 := if s4.power.banking then
            (let s5 := s4.sendFlue (s4.nat Key.flueGroupAddress) .awake
             { s5 with power := { s5.power with banking := false } })
          else s4
        s5.serveAllOutputs.coresResume
    | _ => s)

/-! ### The declared contact (R88), caps, the refusal hold -/

/-- A committed write of 0x2201:01. -/
def State.contactDeclared (s : State) (v : Nat) : State :=
  ({ s with power := { s.power with contactDue := if v = 0 then none else some (s.opSeconds + v) } }).putN Key.contactNextContact v

/-- CONTACT_TIME_REACHED after `aon` counts of sleep: the module wakes, with the cause bit of the RTC (log 95), the window opens. -/
def execContactTimeReached (aon : Nat) (s : State) : Host.Outcome State Fault Refusal :=
  .next (if s.power.contactDue.isSome ∧ s.power.phase ≠ .inReset then
      let s1 := (s.sleepFor aon).wakeEvent 0 true aon
      { s1 with power := { s1.power with contactDue := none, contactOpen := true } }
    else s)

/-- CONTACT_WINDOW_END: 0x2201:01 reads 0. -/
def execContactWindowEnd (s : State) : Host.Outcome State Fault Refusal :=
  .next (if s.power.contactOpen then ({ s with power := { s.power with contactOpen := false } }).putN Key.contactNextContact 0 else s)

/-- USB_VBUS_CHANGE. -/
def execUsbVbusChange (present : Bool) (s : State) : Host.Outcome State Fault Refusal :=
  .next { s with power := { s.power with vbus := present } }

/-- SLEEP_REFUSAL_HOLD_END. -/
def execSleepRefusalHoldEnd (s : State) : Host.Outcome State Fault Refusal :=
  .next { s with power := { s.power with refusalHold := false } }

end Sys2Proof.Machine
end

