-- ==== Sys2Proof/Machine/Startup.lean ====
section
/-! DEFINITION. Start-up, confirmation, Kindling mode and process commands (R91-R113, R637). -/

namespace Sys2Proof.Machine

open Sys2Proof

/-! ### Step 1: counters and causes (R91, R103) -/

/-- Time in reset: the RTC goes on, the operating time while P1 is above its brown-out threshold (R72). -/
def State.timeInReset (s : State) (e : StartEnv) : State :=
  let sub := s.clock.rtcSub + (e.off + e.held) * unitsPerAon
  ({ s with clock := { s.clock with op := s.clock.op + e.held * unitsPerAon, rtcSub := sub % unitsPerSecond } }).putN Key.powerRTC
    ((s.rtc + sub / unitsPerSecond) % 2 ^ 32)

/-- A lost AON loses the RTC, the operating-time counter and the retention area (R71). -/
def State.startTime (s : State) (e : StartEnv) : State :=
  if e.aonLost then
    let s1 := { s with clock := { s.clock with op := s.clock.opFram, rtcSub := 0 }, cores := s.cores.map (fun (k : Core) => { k with retention := [], record := none }) }
    (s1.putN Key.powerRTC 0).supplyBit 3 true |>.supplyBit 5 true
  else s.timeInReset e

/-- A start that ended with no cause takes 0x01; the cause words move down (R103). -/
def State.shiftCauses (s : State) : State :=
  if s.startup.opened then
    let s1 := s.recordCause 1
    ((s1.putN Key.startCauseThirdLast (s1.nat Key.startCauseSecondLast)).putN Key.startCauseSecondLast (s1.nat Key.startCauseLastStart)).putN
      Key.startCauseLastStart 0
  else s

/-- Step 1: the counters count, the causes move, the log starts, the cell is measured. `kind` is that of 0x2300:10. The sleep state of a P1
loss is word 4 of 0x0101, in the code of R85 (log 96). -/
def State.startCounts (s : State) (e : StartEnv) (kind : Nat) : State :=
  let unconfirmed := s.startup.opened && !s.startup.confirmed
  let s1 := ((s.startTime e).shiftCauses).unitWrote
  let s2 := ((s1.putN Key.startStartCounter (min 7 (s1.nat Key.startStartCounter + 1))).bump 16 Key.supplyPowerCycleCount).putN Key.startStartType kind
  let s3 := { s2 with startup := { s2.startup with
    opened := true, confirmed := false, cause := none, cycle := s2.nat Key.supplyPowerCycleCount, bank := 0, trial := false, kind := kind,
    restore := none } }
  let s4 := s3.ashStart e.header
  let s5 := if unconfirmed then s4.log 0x0B02 noSource (s4.nat Key.startCauseSecondLast % 256) else s4
  let s6 := match s5.power.p1LostIn with
    | some p => ({ s5 with power := { s5.power with p1LostIn := none } }).log 0x0101 noSource p.code
    | none => s5
  let s7 := if s6.power.crystalDue then ({ s6 with power := { s6.power with crystalDue := false } }).log 0x0107 noSource else s6
  (if e.crystal then s7.supplyBit 4 false else s7).cellCheck e.cellMv.toNat

/-! ### Step 2: which bank starts (R96, R98) -/

/-- What verifying a bank gives: its status of R112. -/
def bankStatus (b : FlashBank) (ok : Bool) : Nat :=
  if b.incomplete then 1 else if b.image.isNone then 3 else if ok then 0 else 2


/-- Check bank `b` (0 A, 1 B) and show what it found. -/
def State.checkBank (s : State) (e : StartEnv) (b : Nat) : Nat × State :=
  let st := if b = 0 then bankStatus s.startup.bankA e.bankAOk else bankStatus s.startup.bankB e.bankBOk
  (st, s.putN (if b = 0 then Key.startBankAStatus else Key.startBankBStatus) st)

/-! ### Step 4: configuration load (R99, R100, R638) -/

/-- A copy is rewritten from the other. -/
def State.bothCopies (s : State) (c : FramCopy) : State := { s.copiesWritten with dict := { s.dict with copyA := c, copyB := c } }

/-- The hearth core's own stores have altered the copy at FRAM address `base` (R28, R439). -/
def State.copyAltered (s : State) (base : Nat) : Bool := s.fram.any (fun x => decide (base ≤ x.1) && decide (x.1 < base + 0x38000))

/-- A copy's CRC-32 passes; its data are as written: `found` is what FRAM gives back (0 sound, 1 check value damaged, 2 data damaged). -/
def copyFinding (c : FramCopy) (found : Fin 3) (altered : Bool) : Bool × Bool :=
  (found == 0 && !c.torn && !altered, found != 2 && !c.torn && !altered)

/-- The copy to load, and the repair of the other one: of its check value where its data match, else of the whole copy (R2, R99, R574). -/
def State.chooseCopy (s : State) (e : StartEnv) : Option FramCopy × State :=
  let a := s.dict.copyA
  let b := s.dict.copyB
  let fa := copyFinding a e.copyA (s.copyAltered 0x60080000)
  let fb := copyFinding b e.copyB (s.copyAltered 0x600B8000)
  let equal := fa.2 && fb.2 && a == b
  match fa.1, fb.1 with
  | true, true =>
    if equal then (some a, s)
    else
      let c := if a.seq < b.seq then b else a
      (some c, (s.bothCopies c).log 0x0B04 noSource)
  | false, true => (some b, if equal then s.log 0x0A02 noSource else (s.bothCopies b).log 0x0B04 noSource)
  | true, false => (some a, if equal then s.log 0x0A02 noSource else (s.bothCopies a).log 0x0B04 noSource)
  | false, false => (none, s)

/-- The last valid configuration, for the boot ROM and Kindling mode: as chosen above, nothing repaired. -/
def State.lastValid (s : State) (e : StartEnv) : Option FramCopy := (s.chooseCopy e).1

/-- A value of the last valid configuration, else its default: what the boot ROM goes by (R96, R105; log 80). -/
def State.bootValue (s : State) (e : StartEnv) (key : Nat) : Nat :=
  match s.lastValid e with
  | some c => (readKey objDefault c.values key).toNat
  | none => (objDefault key).toNat

/-- The bank first tried: the preferred one when the count before this start's increment is even (R96). -/
def State.firstBank (s : State) (e : StartEnv) : Nat :=
  let even := (s.nat Key.startStartCounter - 1) % 2 == 0
  let order := s.bootValue e Key.startBootOrder
  if even then order else 1 - order

/-- The bank started, 1 A or 2 B, or 0; each bank checked shows its status (R96, R98). -/
def State.verifyBanks (s : State) (e : StartEnv) : Nat × State :=
  let f := s.firstBank e
  let r := s.checkBank e f
  if r.1 = 0 then (f + 1, r.2)
  else
    let q := r.2.checkBank e (1 - f)
    if q.1 = 0 then (2 - f, q.2) else (0, q.2)

/-- The bank started. -/
def State.bankChosen (s : State) (b : Nat) : State :=
  { (s.putN Key.startBankStarted b) with startup := { s.startup with bank := b } }

/-- The values of a copy become base and running values (R133, R148). -/
def State.installCopy (s : State) (c : FramCopy) : State :=
  let base := c.values.foldl (fun m v => writeKey objDefault m v.1 v.2) []
  { s with base := base, obj := base.foldl (fun m v => writeKey objDefault m v.1 v.2) s.obj,
           blk := c.blocks.foldl (fun m v => writeKey blkDefault m v.1 v.2) s.blk,
           dict := { s.dict with saved := c, crcDirty := false } }

/-- The check values of what has been loaded (R135). -/
def State.loadCheckValues (s : State) : State :=
  let v := checkValueOf s.base s.blk
  (s.putN Key.cfgSavedCheckValue v).putN Key.cfgRunningCheckValue v

/-- The active mode a copy restores, with the check of R638. -/
def State.installMode (s : State) (m : Nat) : State :=
  if m = 0 then s
  else match firstBad s.baseGet (s.modeEntries m) with
    | some x => (s.saveMode 0).log 0x0A05 noSource m (x.key * 256)
    | none => (s.layOverlay (overlayValues (s.modeEntries m))).putN Key.modeActiveMode m

/-- The front end takes up its configuration (R186, R208). -/
def State.takeChannels (s : State) : State :=
  ((List.finRange 64).foldl (fun s (n : Fin 64) => s.channelConfigured n) s).blankJudge 0 s.tickTime |>.blankJudge 1 s.tickTime

/-- Blocks take up their configuration: every item that the configuration enables; tables are wanted for the columns' grain types
(R229, R308, R358; log 58). -/
def State.takeConfig (s : State) : State :=
  let s1 := s.takeChannels
  let s2 := (List.finRange 64).foldl (fun s (l : Fin 64) =>
    if s.flag (Key.learnLearnerEnable l) then (s.loopConfigured l).learnerConfigured l else s.loopConfigured l) s1
  let s3 := (List.finRange 4).foldl (fun s (c : Fin 4) => (s.columnConfigured c).predictorConfigured c) s2
  (List.finRange 4).foldl (fun s (c : Fin 4) => if s.flag (Key.colEnable c) then s.triggerBuild (s.grainOf c) else s) s3

/-- The grain-type file's entries and directory are read (R310, R337; log 53). -/
def State.readFile (s : State) : State :=
  let image := s.block Key.tablesFileImage
  let n := min 64 (Config.grainFileEntries image)
  (s.putN Key.tablesFileEntries n).putBlock Key.tablesFileDirectory
    ((List.range n).flatMap (fun i => (Config.grainFileName image i ++ List.replicate 16 0).take 16))

/-- What the slots hold (R459, R464, R465). -/
def State.readSlots (s : State) : State :=
  stokers.foldl (fun s c => match s.images.toList.getD (c.val - 1) none with
    | some i => ((s.putN (Key.imagesSlotStatus (c.val - 1)) 1).putN (Key.imagesSlotId (c.val - 1)) i.header.imageId).putN (Key.coreProgramState c.val) 1
    | none => s) s

/-! ### Confirmation (R95, R97, R101, R613) -/

/-- The active mode of a record takes force where it differs. -/
def State.restoreMode (s : State) (m : Nat) : State :=
  if m = s.nat Key.modeActiveMode ∨ (firstBad s.baseGet (s.modeEntries m)).isSome then s
  else ((s.layOverlay (overlayValues (s.modeEntries m))).putN Key.modeActiveMode m).saveMode m

/-- The module enters STOPPED from a state in which it is armed. -/
def State.stopIfArmed (s : State) : State := if s.process = psArmed ∨ s.process = psRunning then s.enterStopped else s

/-- The process state of a record returns; a FAULT entered since the start stays. A restored FAULT has no fault event pending and leaves
0x2001:03 as it is (log 97). -/
def State.restoreProcess (s : State) (q : Nat) : State :=
  if s.process = psFault ∨ s.process = q then s
  else if q = psArmed then s.enterArmed
  else if q = psRunning then (if s.process = psArmed then s else s.enterArmed).enterRunning
  else if q = psFault then
    ((s.enterArmed.putN Key.procProcessState psFault).watchdogStop.actsSafe.serveDrives).serveOutputs
  else s.stopIfArmed

/-- Process state and active mode of a record return where its check value is the saved one; else the module is in STOPPED (R95, R613). -/
def State.restoreRecord (s : State) (r : Retention) (agrees : Bool) : State :=
  if agrees then (s.restoreMode r.mode).restoreProcess r.process else s.stopIfArmed

/-- A confirmed start from the other bank makes it the preferred one, in the running configuration and in both copies (R97; log 67). -/
def State.bankRollback (s : State) : State :=
  let b := s.startup.bank - 1
  if s.startup.bank = 0 ∨ b = s.nat Key.startBootOrder then s
  else
    let f := fun (c : FramCopy) => ({ c with values := writeKey objDefault c.values Key.startBootOrder (Int.ofNat b), seq := c.seq + 1 } : FramCopy)
    let s1 := s.copiesWritten.assign Key.startBootOrder (Int.ofNat b)
    let s2 := { s1 with dict := { s1.dict with copyA := f s1.dict.copyA, copyB := f s1.dict.copyB, saved := f s1.dict.saved } }
    (s2.putN Key.cfgSavedCheckValue (checkValueOf s2.dict.saved.values s2.dict.saved.blocks)).log 0x0B05 noSource

/-- The start is confirmed (R101); a start in INIT is not (R100). -/
def State.confirmStart (s : State) : State :=
  if s.startup.opened = false ∨ s.startup.confirmed ∨ s.process = psInit ∨ s.process = psKindling then s
  else
    let warm := s.startup.kind = 1
    let s1 := ({ s.unitWrote with startup := { s.startup with confirmed := true, cause := some 0 } }).putN Key.startStartCounter 0
    let s2 := s1.putN Key.startCauseLastStart (s1.startup.cycle * 65536 + s1.startup.bank * 256)
    let s3 := (if warm then s2.bump 32 Key.startWarmBoots else s2.log 0x0B01 noSource).bankRollback
    match s3.startup.restore with
    | none => s3
    | some r => ({ s3 with startup := { s3.startup with restore := none } }).restoreRecord r (r.checkValue == s.nat Key.cfgSavedCheckValue)

/-! ### The start as a whole -/

/-- A thermal reading found neither open nor short. -/
def readingSound (r : ThermalReading) : Bool := !r.isOpen && !r.isShort

/-- The readings of a start are those last converted (R601). -/
def State.startReadings (s : State) (e : StartEnv) : State :=
  (List.finRange 6).foldl (fun s (i : Fin 6) =>
    let s1 := (s.putW (Key.thermalTS i) (e.thermal[i]).value).bump 32 Key.thermalMeasurements
    { s1 with thermal := { s1.thermal with lastTick := s1.thermal.lastTick.set i (some s1.clock.tick) } }) s

/-- All sensors are below their restart levels (R104). -/
def startCool (e : StartEnv) : Bool :=
  (List.finRange 6).all (fun (i : Fin 6) => readingSound e.thermal[i] && !fle (thermalRestartLevel i.val) (e.thermal[i]).value)

/-- A sensor at or above its shutdown level, or a shutdown whose restart levels are not yet met (R103). -/
def State.startsHot (s : State) (e : StartEnv) : Bool :=
  (List.finRange 6).any (fun (i : Fin 6) => readingSound e.thermal[i] && fle (levelShutdown i.val) (e.thermal[i]).value) || (s.thermal.shut && !startCool e)

/-- What the start's readings ask for under R605-R607, once the module runs. -/
def State.startThermal (s : State) (e : StartEnv) : State :=
  (List.finRange 6).foldl (fun s (i : Fin 6) => (s.judgeSensor i e.thermal[i]).setSensor i (fun q => { q with last := (e.thermal[i]).value })) s

/-- What the reference check of the start has found (R192, R194). -/
def State.startReferences (s : State) (e : StartEnv) : State :=
  (List.finRange 8).foldl (fun s (v : Fin 8) => s.put (Key.convReferenceError v.val) (e.deviations[v]).toInt) s

/-- A core's reference check fails beyond 500 ppm (R192). -/
def referenceFails (e : StartEnv) : Bool := (List.finRange 8).any (fun (v : Fin 8) => decide (500 < (e.deviations[v]).toInt.natAbs))

/-- The host watchdog's state at a start: LOST and AWAIT_ACK stand over a warm boot, unless the watchdog is off (R136). -/
def State.startHost (s : State) : State :=
  if s.watchdogOff then ({ s with dict := { s.dict with policies := false } }).putN Key.lostState 3 else s

/-- Services come up: CAN, Flue, the watchdog's state (R91, R136, R601). -/
def State.services (s : State) (e : StartEnv) : State := ((((s.canStart 0).canStart 1).flueStart).startHost).startThermal e

/-- The module runs: BLAZE, the Stoker cores held until a program starts. -/
def State.awaken (s : State) : State :=
  stokers.foldl (fun s c => s.setCore c (fun k => { k with held := true }))
    { s with power := { s.power with phase := .awake, state := .blaze } }

/-- Kindling entry (R98, R105, R106): channels are scanned with the copy's base configuration, no mode's overlay laid on it (log 175). -/
def State.enterKindling (s : State) (e : StartEnv) : State :=
  let s1 := ((s.log 0x0B03 noSource).putN Key.startStartType 3).putN Key.procProcessState psKindling
  let s2 := { s1 with startup := { s1.startup with kind := 3, opened := true } }
  let s3 := match s.lastValid e with
    | some c => (s2.installCopy c).takeChannels
    | none => s2.putBit Key.cfgConfigurationStatus 0 true
  let s4 := (s3.awaken.canStart 0).flueStart
  { s4 with front := { s4.front with scanning := true } }

/-- The threshold that the boot ROM goes by: the last valid configuration's, else the default (R105; log 80). -/
def State.threshold (s : State) (e : StartEnv) : Nat := s.bootValue e Key.startKindlingThreshold

/-- The process state has reached STOPPED: the first time since the start scanning begins, programs with autostart start and AUTO mode
confirms (R101, R184, R461). -/
def State.stoppedReached (s : State) : State :=
  if s.startup.stoppedOnce then s
  else
    let s1 := { s with startup := { s.startup with stoppedOnce := true }, front := { s.front with scanning := true } }
    let s2 := s1.serveCores.programsAutostart
    if s2.nat Key.startConfirmationMode = 0 then s2.confirmStart else s2

/-- A start in INIT reaches STOPPED (R91); a thermal shutdown on the way has led to FAULT (R108). -/
def State.firstStopped (s : State) : State :=
  if s.process ≠ psInit then s else (s.putN Key.procProcessState psStopped).stoppedReached

/-- STORE_DONE; a store in CONFIG_INVALID makes the configuration valid, and the module goes to STOPPED (R100, R108). -/
def execStoreDone (s : State) : Host.Outcome State Fault Refusal :=
  .next (s.served (fun s =>
    let s1 := s.saveDone false
    if s.dict.saveOp.any (fun o => !o.restore) && s.process == psInit && s.bitOf Key.cfgConfigurationStatus 0 then
      (s1.putBit Key.cfgConfigurationStatus 0 false).firstStopped
    else s1))

/-- Steps 4 and 5 (R91, R99, R100). -/
def State.loadAndServe (s0 : State) (e : StartEnv) : State :=
  let s := s0.startReferences e
  let r := s.chooseCopy e
  match r.1 with
  | none => ((r.2.putBit Key.cfgConfigurationStatus 0 true).loadCheckValues.readFile.readSlots).awaken.services e
  | some c => (((((r.2.installCopy c).loadCheckValues.installMode c.mode).takeConfig).readFile.readSlots).awaken.services e).firstStopped

/-- Step 3 and what follows: a failed self-test stops the start, a hot module waits (R103, R104; log 80). -/
def State.testAndGo (s : State) (e : StartEnv) : State :=
  let s1 := s.startReadings e
  if e.selfTest ≠ 0 ∨ referenceFails e then
    let s2 := s1.recordCause (if e.selfTest = 2 then 6 else 5)
    { s2 with startup := { s2.startup with halted := true } }
  else if s1.startsHot e then
    let s2 := s1.recordCause 7
    { s2 with startup := { s2.startup with hotHold := true } }
  else ({ s1 with thermal := { s1.thermal with shut := false } }).loadAndServe e

/-- Step 2 and what follows. -/
def State.verifyAndGo (s : State) (e : StartEnv) : State :=
  let r := s.verifyBanks e
  if r.1 = 0 then ((r.2.log 0x0D01 noSource).recordCause 3).enterKindling e
  else (r.2.bankChosen r.1).testAndGo e

/-- A cold start from reset release (R91). What a thermal restart restores waits for the confirmation (R613). -/
def State.coldStart (s : State) (e : StartEnv) : State :=
  let kind := if s.startup.trial then 2 else 0
  let restore := s.thermal.restore
  let s1 := s.afterReset.startCounts e kind
  let s2 := { s1 with power := { s1.power with bankModified := false, emberLogged := false, retention := none },
                      startup := { s1.startup with restore := restore }, thermal := { s1.thermal with restore := none } }
  if s2.threshold e ≤ s2.nat Key.startStartCounter then s2.enterKindling e else s2.verifyAndGo e

/-- COLD_START: from reset release, or when P1 returns after BANKED (R68, R91). -/
def execColdStart (e : StartEnv) (s : State) : Host.Outcome State Fault Refusal :=
  .next (match s.power.phase with
    | .inReset => if s.startup.hotHold ∨ s.startup.halted then s else s.coldStart e
    | .onCell .banked => (s.returnToBlaze 32).coldStart e
    | _ => s)

/-- LOST and AWAIT_ACK, with their policies, outlast EMBER (R136). -/
def State.hostKept (s : State) (r : Retention) : State :=
  if r.host = 1 ∨ r.host = 2 then ({ s with dict := { s.dict with policies := r.policies } }).putN Key.lostState r.host else s

/-- A warm boot (R94, R95): no signature check, the bank of the record. -/
def State.warmBoot (s : State) (e : StartEnv) (r : Retention) : State :=
  let s0 := s.afterReset
  -- the contact declared, or its window, stands in AON (log 63)
  let s1 := (({ s0 with power := { s0.power with contactDue := s.power.contactDue, contactOpen := s.power.contactOpen } }).put
    Key.contactNextContact (s.get Key.contactNextContact)).startCounts e 1
  let s2 := ({ s1 with power := { s1.power with retention := none }, startup := { s1.startup with restore := some r } }).hostKept r
  if s2.threshold e ≤ s2.nat Key.startStartCounter then s2.enterKindling e else (s2.bankChosen r.bank).testAndGo e

/-- The start on a wake from EMBER: warm where the record holds and its bank is as it was, else cold (R68, R71, R94). -/
def State.emberStart (s : State) (e : StartEnv) : State :=
  match s.power.retention with
  | some r => if e.recordOk ∧ e.aonLost = false ∧ s.power.bankModified = false then s.warmBoot e r else s.coldStart e
  | none => s.coldStart e

/-- WARM_BOOT: a latched wake event in EMBER, or P1 back after EMBER; 0x0104 for the WAKE input (R68, R84, R94). -/
def execWarmBoot (e : StartEnv) (s : State) : Host.Outcome State Fault Refusal :=
  .next (match s.power.phase with
    | .asleep .ember =>
      let bits := s.power.latchedWake
      if bits = 0 then s
      else
        let s1 := (s.returnToBlaze bits).emberStart e
        if bits.testBit 1 then s1.log 0x0104 noSource else s1
    | .onCell .ember => (s.returnToBlaze 32).emberStart e
    | _ => s)

/-- CONFIRM: 0x5A written to 0x2300:02; without a start to confirm it has no effect. -/
def execConfirm (p : Path) (s : State) : Host.Outcome State Fault Refusal :=
  .next (s.commanded p Key.startConfirm 0x5A (fun s => s.confirmStart))

/-- CONFIRMATION_DEADLINE: the start is unconfirmed; cause 0x04 in CONFIG_INVALID, else 0x08, and a watchdog reset (R100, R102). -/
def execConfirmationDeadline (s : State) : Host.Outcome State Fault Refusal :=
  .next (if (s.clocksRun ∨ s.startup.halted) ∧ s.startup.opened ∧ s.startup.confirmed = false ∧ s.process ≠ psKindling then
      s.enterReset (if s.process = psInit ∧ s.bitOf Key.cfgConfigurationStatus 0 then 4 else 8)
    else s)

/-- WATCHDOG_RESET (R103). -/
def execWatchdogReset (s : State) : Host.Outcome State Fault Refusal :=
  .next (if s.clocksRun ∨ s.startup.hotHold ∨ s.startup.halted then s.enterReset 1 else s)

/-- HOT_START_RECHECK: the start goes on once the module is cool; the counter keeps its count (R104; log 80). -/
def execHotStartRecheck (e : StartEnv) (s : State) : Host.Outcome State Fault Refusal :=
  .next (if s.startup.hotHold = false then s
    else if !startCool e then (s.timeInReset e).startReadings e
    else
      let s1 := { s.timeInReset e with startup := { s.startup with hotHold := false }, thermal := { s.thermal with shut := false } }
      if s.startup.kind = 1 then s1.testAndGo e else s1.verifyAndGo e)

/-- A command of Kindling mode: the counter takes a value, then a cold start (R107). -/
def State.kindlingLeave (s : State) (counter : Nat) (trial : Bool) : State :=
  ({ (s.unitWrote.putN Key.startStartCounter counter) with startup := { s.startup with trial := trial } }).enterReset 1

/-- The counter of a trial: threshold - 2. -/
def State.trialCount (s : State) : Nat := s.nat Key.startKindlingThreshold - 2

/-- 0x2300:0A takes a command. -/
def State.kindlingCommand (s : State) (v : Nat) : State :=
  if v = 0x7E51 then s.kindlingLeave 0 false
  else if v = 0x7E52 then s.kindlingLeave s.trialCount true
  else s

/-- KINDLING_EXIT. -/
def execKindlingExit (p : Path) (s : State) : Host.Outcome State Fault Refusal :=
  .next (s.commanded p Key.startKindlingCommand 0x7E51 (fun s => s.kindlingLeave 0 false))

/-- KINDLING_TRIAL. -/
def execKindlingTrial (p : Path) (s : State) : Host.Outcome State Fault Refusal :=
  .next (s.commanded p Key.startKindlingCommand 0x7E52 (fun s => s.kindlingLeave s.trialCount true))

/-- AUTOMATIC_TRIAL: the interval of 0x2300:0B expires in Kindling mode; 0 is never. -/
def execAutomaticTrial (s : State) : Host.Outcome State Fault Refusal :=
  .next (if s.clocksRun ∧ s.process = psKindling ∧ s.nat Key.startAutomaticTrialInterval ≠ 0 then s.kindlingLeave s.trialCount true else s)

/-! ### Process commands (R108) -/

/-- An allowed process command takes effect: 1 ARM, 2 START, 3 HALT, 4 STOP, 5 RESET_FAULT (R108). -/
def State.processCommand (s : State) (v : Nat) : State :=
  match v with
  | 1 => s.enterArmed
  | 2 => s.enterRunning
  | 3 => s.enterArmed
  | 4 => s.enterStopped
  | 5 =>
    let s1 := (s.allSafeEnds).enterStopped
    (({ s1 with startup := { s1.startup with faultEvents := [] } }).emcyReset).stoppedReached
  | _ => s

/-- A process command as a row of the table. -/
def State.processRow (s : State) (p : Path) (v : Nat) : State := s.commanded p Key.procCommand v (fun s => s.processCommand v)

/-- ARM. -/
def execArm (p : Path) (s : State) : Host.Outcome State Fault Refusal := .next (s.processRow p 1)
/-- START. -/
def execStart (p : Path) (s : State) : Host.Outcome State Fault Refusal := .next (s.processRow p 2)
/-- HALT. -/
def execHalt (p : Path) (s : State) : Host.Outcome State Fault Refusal := .next (s.processRow p 3)
/-- STOP. -/
def execStop (p : Path) (s : State) : Host.Outcome State Fault Refusal := .next (s.processRow p 4)
/-- RESET_FAULT. -/
def execResetFault (p : Path) (s : State) : Host.Outcome State Fault Refusal := .next (s.processRow p 5)

end Sys2Proof.Machine
end

