-- ==== Sys2Proof/Machine/Requests.lean ====
section
/-! DEFINITION. A dictionary transaction of any path (R117, R120, R123-R126): a checked write is staged for the next tick, but for an entry
of a transmit port, which is queued in the order of its writes (R126, R491); a checked read is answered. -/

namespace Sys2Proof.Machine

open Sys2Proof

/-- A path other than a core serves one transaction at a time (R125). -/
def State.pathBusy (s : State) (p : Path) : Bool :=
  !writerIsCore p.writer
    && (s.dict.staged.any (fun w => w.path == p) || s.dict.saveOp.any (fun o => o.path == p) || s.thermal.readers.any (fun r => r.path == p))

/-- The key is the transmit port of a controller (R491). -/
def transmitPortOf (key : Nat) : Option (Fin 2) :=
  if key = Key.canTransmitPort 0 then some 0 else if key = Key.canTransmitPort 1 then some 1 else none

/-- What the owning chapters refuse in a DOM when its last segment has arrived: a program image (R459), a site plan (R539), a site key
(R555). -/
def State.blockRefusal (s : State) (p : Path) (key : Nat) (bs : List Byte) : Option State :=
  match imageSlot key with
  | some c => (s.imageFault c bs).map (fun st => s.imageRefuse p c st)
  | none =>
    if key = Key.planPlan ∧ planOk bs = false then some (s.refuse p (.range key))
    else if key = Key.flueSiteKey ∧ bs.length ≠ 0 ∧ bs.length ≠ 16 then some (s.refuse p (.length key))
    else none

/-- A write that has passed its checks, of path `p`. -/
def State.acceptWrite (s : State) (p : Path) (key : Nat) (v : DVal) : State :=
  match v with
  | .num _ => s.stage p key v
  | .blk bs =>
    match transmitPortOf key with
    | some b => s.portWrite p b bs
    | none => (s.blockRefusal p key bs).getD ((s.firmwareBegins key).stage p key v)

/-- A write of `bs` that its checks refuse. -/
def State.requestRefuse (s : State) (p : Path) (key : Nat) (bs : List Byte) (e : Refused) : State :=
  match transmitPortOf key with
  | some b => s.portRefuse p b bs e
  | none => s.refuse p e

/-- A write of bytes over CAN, Flue or the service port, or by DOM_WRITE. -/
def State.writeRequest (s : State) (p : Path) (key : Nat) (bs : List Byte) : State :=
  if s.pathBusy p then s
  else
    let s1 := s.touch p
    match s1.checkWrite p key (.bytes bs) with
    | .error e => s1.requestRefuse p key bs e
    | .ok v => s1.acceptWrite p key v

/-- A read of a thermal reading waits for its conversions (R603). -/
def thermalReadOf (key : Nat) : Option (Fin 6) :=
  if key / 256 = 0x3A00 ∧ 1 ≤ key % 256 ∧ key % 256 ≤ 6 then some (Fin.ofNat 6 (key % 256 - 1)) else none

/-- A read by a path other than a core. -/
def State.readRequest (s : State) (p : Path) (key : Nat) : State :=
  if s.pathBusy p then s
  else
    let s1 := s.touch p
    match s1.checkRead key with
    | .error e => s1.refuse p e
    | .ok r =>
      match thermalReadOf key with
      | some i => s1.thermalReader p i
      | none =>
        let x := s1.readRow p key r
        x.2.answer p x.1

/-- DICT_WRITE. -/
def execDictWrite (p : Path) (index : BitVec 16) (sub : BitVec 8) (data : List Byte) (s : State) : Host.Outcome State Fault Refusal :=
  .next (s.served (fun s => s.writeRequest p (index.toNat * 256 + sub.toNat) data))

/-- SERVICE_PORT_REQUEST: a write with its data, or a read (R120). -/
def execServicePortRequest (index : BitVec 16) (sub : BitVec 8) (data : Option (List Byte)) (s : State) : Host.Outcome State Fault Refusal :=
  .next (s.served (fun s => match data with
    | some bs => s.writeRequest ⟨.service, 0⟩ (index.toNat * 256 + sub.toNat) bs
    | none => s.readRequest ⟨.service, 0⟩ (index.toNat * 256 + sub.toNat)))

end Sys2Proof.Machine
end

