-- ==== Sys2Proof/Machine/FlueDict.lean ====
section
/-! DEFINITION. Dictionary transactions over Flue: requests, responses, DOM segments, fan-out writes (R541, R547, R550, R565). -/

namespace Sys2Proof.Machine

open Sys2Proof

/-! ### Responses of the server (R541) -/

/-- Ticks for which a response is kept. -/
abbrev dictKeep : Nat := 16000

/-- A response that this node has kept for a source address and TID. -/
def State.keptRsp (s : State) (src tid : Nat) : Option DictRsp :=
  (s.flue.cache.find? (fun c => c.src == src && c.rsp.tid == tid && decide (s.clock.tick < c.tick + dictKeep))).map (fun c => c.rsp)

/-- Keep a response; those past their second go. -/
def State.keepRsp (s : State) (src : Nat) (r : DictRsp) : State :=
  s.setFlue (fun u => { u with cache := ⟨src, r, s.clock.tick⟩ :: u.cache.filter (fun c =>
    decide (s.clock.tick < c.tick + dictKeep) && !(c.src == src && c.rsp.tid == r.tid)) })

/-- The key a request names. -/
def reqKey (r : DictReq) : Nat := r.index % 65536 * 256 + r.sub % 256

/-- The response that carries an answer. -/
def rspOf (q : DictReq) (a : Answer) : DictRsp :=
  match a with
  | .abort code => ⟨q.tid, q.op + 0x80, 2, code, 0, []⟩
  | .value _ | .block _ =>
    let bs := answerBytes (reqKey q) a
    if q.op = 3 then ⟨q.tid, q.op + 0x80, 0, 0, bs.length, []⟩
    else if 448 < bs.length then ⟨q.tid, q.op + 0x80, 2, abortLength, 0, []⟩
    else ⟨q.tid, q.op + 0x80, 0, 0, bs.length, bs⟩
  | _ => ⟨q.tid, q.op + 0x80, 0, 0, 0, []⟩

/-! ### This node as a client: fan-out (R547, R565) -/

/-- What an answer to a fan-out request does to its entry, in the instance of its group. -/
def State.atFan (s : State) (f : FanRequest) (g : State → State) : State := if f.group = s.currentGroup then g s else s.inGroup f.group g

/-- Clear a seat's pending bit; set its failed bit with the abort code kept. -/
def State.fanAnswered (s : State) (f : FanRequest) : State :=
  (s.setFlue (fun u => { u with fans := u.fans.filter (fun x => !(x.group == f.group && x.entry == f.entry && x.seat == f.seat)) })).atFan f
    (fun s => s.putBit (Key.fanoutPendingMask f.entry) f.seat false)
def State.fanFailed (s : State) (f : FanRequest) : State :=
  (s.fanAnswered f).atFan f (fun s => s.putBit (Key.fanoutFailedMask f.entry) f.seat true)

/-- A response reaches this node as the client. -/
def State.takeRsp (s : State) (src : Nat) (r : DictRsp) : State :=
  match s.flue.fans.find? (fun f => f.dst == src && f.tid == r.tid) with
  | none => s
  | some f =>
    if r.status = 0 then s.fanAnswered f
    else if r.status = 2 then (s.fanFailed f).atFan f (fun s => s.putN (Key.fanoutLastAbort f.entry) r.abort)
    else s

/-! ### The server -/

/-- Send a response from the address that was asked, which a SEAT in the meantime does not change (R557); to this node itself it is taken at
once. -/
def State.sendRsp (s : State) (src dst : Nat) (r : DictRsp) : State :=
  if s.answers dst then s.takeRsp src r else s.sendFrom src dst (.dictRsp r)

/-- The next eight segments of a DOM read; the transfer ends with its last one. -/
def State.sendSegments (s : State) (t : DomTransfer) : State :=
  let n := (t.bytes.length + 447) / 448
  let upto := min n (t.next + 8)
  let s1 := (List.range (upto - t.next)).foldl (fun s i =>
    let k := t.next + i
    s.sendFrom t.dst t.src (.domSeg ⟨t.req.tid, k, k + 1 == n, false, (t.bytes.drop (448 * k)).take 448⟩)) s
  s1.setFlue (fun u => { u with doms := (u.doms.filter (fun x => !(x.src == t.src && x.req.tid == t.req.tid)))
    ++ (if upto < n then [{ t with next := upto }] else []) })

/-- The first answer to a Flue client becomes its response; the transaction ends. -/
def State.respond (s : State) (src : Nat) (a : Answer) : State :=
  match s.flue.serving.find? (fun v => v.src == src) with
  | none => s
  | some v =>
    let r := rspOf v.req a
    let s1 := ((s.setFlue (fun u => { u with serving := u.serving.filter (fun x => x.src != src) })).keepRsp src r).sendRsp v.dst src r
    match v.req.op, a with
    | 3, .block bs => if bs.isEmpty then s1 else s1.sendSegments ⟨src, v.dst, v.req, 0, bs⟩
    | _, _ => s1

/-- The first segment of a firmware image that will pass the first checks marks its bank INCOMPLETE (R30, R98). -/
def State.domBegins (s : State) (p : Path) (key : Nat) : State :=
  match s.presentRow key with
  | .ok r => if (s.levelOf p).atLeast (s.levelNeeded key r) then s.firmwareBegins key else s
  | .error _ => s

/-- A DOM write announces its length: a length its object does not take is refused at once (R30, R541, R639); its start is a request, which
wakes from SIMMER (R76). -/
def State.openDom (s : State) (v : DictServe) : State :=
  let p : Path := ⟨.flue, v.src⟩
  let fits := match findRow (reqKey v.req) with
    | some r => !r.ty.isBlock || r.lengthOk v.req.length
    | none => true
  if fits = false then s.writeRequest p (reqKey v.req) (List.replicate (v.req.length % 2 ^ 23) 0)
  else if v.req.length ≤ v.req.data.length then s.writeRequest p (reqKey v.req) v.req.data
  else ((s.touch p).domBegins p (reqKey v.req)).setFlue (fun u => { u with doms := u.doms.filter (fun x => x.src != v.src) ++ [⟨v.src, v.dst, v.req, 0, v.req.data⟩] })

/-- At a group address the head serves the group's own objects only (R542). -/
def State.groupRefuses (s : State) (v : DictServe) : Bool :=
  v.dst != s.address && !(Nat.ble 0x3780 v.req.index && Nat.ble v.req.index 0x37FF)

/-- Serve a request of a source address that has none in service; at a group address it reaches that group's instance (R542). -/
def State.serveDict (s : State) (v : DictServe) : State :=
  match s.keptRsp v.src v.req.tid with
  | some r => s.sendRsp v.dst v.src r
  | none =>
    let s1 := s.setFlue (fun u => { u with serving := u.serving ++ [v] })
    let p : Path := ⟨.flue, v.src⟩
    if s1.groupRefuses v then (s1.touch p).refuse p (.noObject (reqKey v.req))
    else match v.req.op with
      | 1 => s1.atAddress v.dst (fun s => s.readRequest p (reqKey v.req))
      | 2 => s1.atAddress v.dst (fun s => s.writeRequest p (reqKey v.req) v.req.data)
      | 3 => s1.atAddress v.dst (fun s => s.readRequest p (reqKey v.req))
      | 4 => s1.atAddress v.dst (fun s => s.openDom v)
      | _ => s

/-- Answers on hand go out; the next waiting request of each client answered is served. -/
def State.flushFlue : Nat → State → State
  | 0, s => s
  | n + 1, s =>
    match s.dict.replies.find? (fun r => r.1.writer == Writer.flue) with
    | none => s
    | some r =>
      let s1 := { s with dict := { s.dict with replies := s.dict.replies.filter (fun x => x.1 != r.1) } }
      let s2 := s1.respond r.1.addr r.2
      let s3 := match s2.flue.waiting.find? (fun v => v.src == r.1.addr) with
        | none => s2
        | some v => (s2.setFlue (fun u => { u with waiting := u.waiting.erase v })).serveDict v
      State.flushFlue n s3

/-- All of them: at most one answer a client, and four waiting requests for each. -/
def State.flueReplies (s : State) : State := s.flushFlue (s.dict.replies.length + s.flue.waiting.length + 1)

/-- A request addressed to this node. -/
def State.takeReq (s : State) (v : DictServe) : State :=
  if s.flue.serving.any (fun x => x.src == v.src) then
    (match s.keptRsp v.src v.req.tid with
     | some r => s.sendRsp v.dst v.src r
     | none =>
       if (s.flue.waiting.filter (fun x => x.src == v.src)).length < 4 then s.setFlue (fun u => { u with waiting := u.waiting ++ [v] }) else s)
  else (s.serveDict v).flueReplies

/-- DICT_REQ_RECEIVED: served, queued, answered from the kept response; for another node it is on its way, or into a mailbox. -/
def execDictReqReceived (m : FlueMsg) (r : DictReq) (s : State) : Host.Outcome State Fault Refusal :=
  if s.answers m.dst then
    let a := s.arrive m (.dictReq r)
    .next (if a.1 then a.2.takeReq ⟨m.src, m.dst, r⟩ else a.2)
  else execFrameForward m (.dictReq r) s

/-- DICT_RSP_RECEIVED. -/
def execDictRspReceived (m : FlueMsg) (r : DictRsp) (s : State) : Host.Outcome State Fault Refusal :=
  if s.answers m.dst then
    let a := s.arrive m (.dictRsp r)
    .next (if a.1 then a.2.takeRsp m.src r else a.2)
  else execFrameForward m (.dictRsp r) s

/-- A segment of a DOM write (R541): in order it is taken, acknowledged every 8; the last completes the value; a missing one aborts
the transfer, its abort code not being stated (log 82). -/
def State.takeSegment (s : State) (t : DomTransfer) (d : DomSeg) : State :=
  let drop := fun (s : State) => s.setFlue (fun u => { u with doms := u.doms.filter (fun x => !(x.src == t.src && x.req.tid == t.req.tid)) })
  if d.number < t.next then s
  else if t.next < d.number then
    let w := (drop s).freeWord
    w.2.respond t.src (.abort w.1.toNat)
  else
    let bytes := t.bytes ++ d.data
    let s1 := if (d.number + 1) % 8 = 0 then s.sendFrom t.dst t.src (.domSeg ⟨d.tid, d.number, false, true, []⟩) else s
    if d.last then ((drop s1).atAddress t.dst (fun s => s.writeRequest ⟨.flue, t.src⟩ (reqKey t.req) bytes)).flueReplies
    else (drop s1).setFlue (fun u => { u with doms := u.doms ++ [{ t with next := d.number + 1, bytes := bytes }] })

/-- DOM_SEG_RECEIVED: a segment of a write, or the acknowledgement of a read. -/
def execDomSegReceived (m : FlueMsg) (d : DomSeg) (s : State) : Host.Outcome State Fault Refusal :=
  if s.answers m.dst then
    let a := s.arrive m (.domSeg d)
    .next (match a.1, a.2.flue.doms.find? (fun t => t.src == m.src && t.req.tid == d.tid && (t.req.op == 3) == d.ack) with
      | true, some t => if d.ack then a.2.sendSegments t else a.2.takeSegment t d
      | _, _ => a.2)
  else execFrameForward m (.domSeg d) s

/-! ### Fan-out -/

/-- A value as the bytes of the target's type. -/
def fanBytes (target v : Nat) : List Byte :=
  match findRow target with
  | some r => if r.ty.isBlock then leBytes 4 v else leBytes r.ty.width v
  | none => leBytes 4 v

/-- One member's write: its own seat is served here, a sleeping member's through its mailbox. -/
def State.fanSend (s : State) (e : Nat) (seat dst target v : Nat) : State :=
  let tid := s.flue.tid
  let data := fanBytes target v
  let q : DictReq := { tid := tid, op := 2, index := target / 256, sub := target % 256, length := data.length, data := data }
  let f : FanRequest := ⟨s.currentGroup, e, seat, dst, tid⟩
  let s1 := (s.setFlue (fun u => { u with tid := (tid + 1) % 65536, fans := u.fans ++ [f] })).putBit (Key.fanoutPendingMask e) seat true
  if s1.answers dst then s1.takeReq ⟨dst, dst, q⟩ else s1.sendFlue dst (.dictReq q)

/-- A committed write of a fan-out value goes to each member in the mask (R547). Pending and failed start afresh (log 83). -/
def State.fanOut (s : State) (e v : Nat) : State :=
  let s1 := (s.setFlue (fun u => { u with fans := u.fans.filter (fun f => f.entry != e || f.group != s.currentGroup) })).zero [Key.fanoutPendingMask e, Key.fanoutFailedMask e]
  match s1.lowestGroup with
  | none => s1
  | some g =>
    let t := s1.nat (Key.fanoutTargetObject e)
    (List.finRange 15).foldl (fun s (i : Fin 15) =>
      let m := g.members[i]
      if (s1.nat (Key.fanoutMemberMask e)).testBit (i.val + 1) && m.state != 0 then
        s.fanSend e (i.val + 1) m.addr (t / 256) v
      else s) s1

/-- FAN_OUT_WRITE. -/
def execFanOutWrite (p : Path) (e : Fin 16) (v : BitVec 32) (s : State) : Host.Outcome State Fault Refusal :=
  .next (s.commanded p (Key.fanoutValue e.val) v.toNat (fun s => (s.putN (Key.fanoutValue e.val) v.toNat).fanOut e.val v.toNat))

/-- FAN_OUT_ANSWER_TIMEOUT: a member's second has passed; one whose request waits in its mailbox stays pending. -/
def execFanOutAnswerTimeout (e : Fin 16) (seat : Fin 15) (s : State) : Host.Outcome State Fault Refusal :=
  .next (s.served (fun s => match s.flue.fans.find? (fun f => f.entry == e.val && f.seat == seat.val + 1) with
    | none => s
    | some f =>
      let stored := ((s.groupOf f.group).any (fun g => (g.members[seat]).state == 2 && ((g.members[seat]).mailbox).any (fun x =>
        match x.body with | .dictReq q => q.tid == f.tid | _ => false)))
      if stored then s else s.fanFailed f))

end Sys2Proof.Machine
end

