-- ==== Sys2Proof/Machine/Canopen.lean ====
section
/-! DEFINITION. The CANopen slave of CAN A (R110, R510, R511): NMT, the SDO server, PDOs, SYNC, heartbeats. Frame layouts and the
protocol's own abort codes are those of CiA 301 (log 20). -/

namespace Sys2Proof.Machine

open Sys2Proof

/-- Change the slave. -/
def State.setOpen (s : State) (f : Canopen → Canopen) : State := { s with canopen := f s.canopen }

/-! ### NMT (R110) -/

/-- A command to this node, or to all, while the slave is up. -/
def State.nmtMine (s : State) (node : Nat) : Bool := s.clocksRun && s.canopen.nmt != 0 && (node == 0 || node == s.nodeId)

/-- Enter an NMT state; Kindling mode holds pre-operational; stopping ends SDO and PDO service. -/
def State.nmtEnter (s : State) (n : Nat) : State :=
  if s.process = psKindling then s
  else if n = 4 then s.setOpen (fun c => { c with nmt := 4, sdo := .idle, rpdos := Vector.replicate 8 none })
  else s.setOpen (fun c => { c with nmt := n })

/-- NMT_START_REMOTE_NODE. -/
def execNmtStartRemoteNode (node : Fin 128) (s : State) : Host.Outcome State Fault Refusal :=
  .next (if s.nmtMine node then s.nmtEnter 5 else s)
/-- NMT_STOP_REMOTE_NODE. -/
def execNmtStopRemoteNode (node : Fin 128) (s : State) : Host.Outcome State Fault Refusal :=
  .next (if s.nmtMine node then s.nmtEnter 4 else s)
/-- NMT_ENTER_PRE_OPERATIONAL. -/
def execNmtEnterPreOperational (node : Fin 128) (s : State) : Host.Outcome State Fault Refusal :=
  .next (if s.nmtMine node then s.nmtEnter 127 else s)
/-- NMT_RESET_NODE: a cold start. -/
def execNmtResetNode (node : Fin 128) (s : State) : Host.Outcome State Fault Refusal :=
  .next (if s.nmtMine node then s.enterReset 1 else s)

/-- The communication objects take the saved values, those not saved their defaults. -/
def State.commRestore (s : State) : State :=
  let comm := fun (k : Nat) => decide (k / 256 < 0x2000)
  let saved := s.dict.saved.values.filter (fun v => comm v.1)
  { s with obj := saved ++ s.obj.filter (fun v => !comm v.1), base := saved ++ s.base.filter (fun v => !comm v.1),
           dict := { s.dict with crcDirty := true } }

/-- NMT_RESET_COMMUNICATION. -/
def execNmtResetCommunication (node : Fin 128) (s : State) : Host.Outcome State Fault Refusal :=
  .next (if s.nmtMine node then s.commRestore.nmtBootUp else s)

/-! ### SDO frames -/

/-- The server serves requests: pre-operational or operational (R110), and the frames of its client are its own (R511). -/
def State.sdoOpen (s : State) : Bool := s.clocksRun && (s.canopen.nmt == 127 || s.canopen.nmt == 5) && s.sdoOwned

/-- A frame of the server. -/
def State.sdoSend (s : State) (bs : List Byte) : State := s.sendOwn (s.cobOf Key.sdoserverCOBServerToClient 0x580) ((bs ++ List.replicate 8 0).take 8)

/-- Index and subindex of a key as they stand in a frame. -/
def muxOf (key : Nat) : List Byte := leBytes 2 (key / 256) ++ leBytes 1 (key % 256)

/-- Change the transfer. -/
def State.setSdo (s : State) (f : Sdo → Sdo) : State := s.setOpen (fun c => { c with sdo := f c.sdo })

/-- The server aborts its transfer. -/
def State.sdoAbort (s : State) (code : Nat) : State :=
  (s.sdoSend ([0x80] ++ muxOf s.canopen.sdo.key ++ leBytes 4 code)).setSdo (fun _ => .idle)

/-- Byte `i` of a frame, and the key it names. -/
def byteAt (d : List Byte) (i : Nat) : Nat := (d.getD i 0).toNat
def keyAt (d : List Byte) : Nat := (byteAt d 1 + 256 * byteAt d 2) * 256 + byteAt d 3

/-- The path of the SDO server. -/
abbrev sdoPath : Path := ⟨.canA, 0⟩

/-- The path of RPDO writes: CAN A's writer code, and no answer. -/
abbrev pdoPath : Path := ⟨.canA, 1⟩

/-- An answer on hand becomes the server's frame. -/
def State.sdoAnswer (s : State) (a : Answer) : State :=
  let t := s.canopen.sdo
  let s1 := s.setSdo (fun t => { t with asked := false })
  let up := fun (bs : List Byte) =>
    if t.phase = .blockUploadStart then
      (s1.sdoSend ([0xC6] ++ muxOf t.key ++ leBytes 4 bs.length)).setSdo (fun t => { t with bytes := bs, sent := 0 })
    else if bs.length ≤ 4 ∧ bs ≠ [] then
      (s1.sdoSend ([BitVec.ofNat 8 (0x43 + (4 - bs.length) * 4)] ++ muxOf t.key ++ bs)).setSdo (fun _ => .idle)
    else
      (s1.sdoSend ([0x41] ++ muxOf t.key ++ leBytes 4 bs.length)).setSdo (fun t => { t with phase := .upload, bytes := bs, sent := 0, toggle := false })
  match a with
  | .none => s1
  | .abort code => s1.sdoAbort code
  | .done =>
    let frame : List Byte := match t.phase with
      | .download => [BitVec.ofNat 8 (0x20 + 16 * b2n t.toggle)]
      | .blockDownloadEnd => [0xA1]
      | _ => [0x60] ++ muxOf t.key
    (s1.sdoSend frame).setSdo (fun _ => .idle)
  | a => up (answerBytes t.key a)

/-- Answers for CAN A that are on hand go out; those of RPDO writes, and of no request in service, are dropped. -/
def State.sdoReplies (s : State) : State :=
  let mine := s.dict.replies.filter (fun r => r.1.writer == Writer.canA)
  let s1 := { s with dict := { s.dict with replies := s.dict.replies.filter (fun r => r.1.writer != Writer.canA) } }
  match mine.find? (fun r => r.1 == sdoPath) with
  | some r => if s1.canopen.sdo.asked then s1.sdoAnswer r.2 else s1
  | none => s1

/-- All answers on hand, of CAN A and Flue. -/
def State.sendReplies (s : State) : State := s.sdoReplies.flueReplies

/-- Ask the dictionary on behalf of the SDO client. -/
def State.sdoWrite (s : State) (bs : List Byte) : State :=
  ((s.setSdo (fun t => { t with asked := true })).writeRequest sdoPath s.canopen.sdo.key bs).sdoReplies
def State.sdoRead (s : State) : State :=
  ((s.setSdo (fun t => { t with asked := true })).readRequest sdoPath s.canopen.sdo.key).sdoReplies

/-- What refuses data of a wrong length: the process state before the length (R117). -/
def State.lengthRefusal (s : State) (key : Nat) (r : Row) : Refused := (s.stateCheck sdoPath key r none).getD (.length key)

/-- What refuses a transfer at its start: object, subindex, right, level, and a size its type does not take (R30, R117, R639). -/
def State.earlyRefusal (s : State) (key : Nat) (size : Option Nat) : Option Refused :=
  match s.presentRow key with
  | .error e => some e
  | .ok r =>
    if r.right = .ro then some (.readOnly key)
    else if (s.levelOf sdoPath).atLeast (s.levelNeeded key r) = false then some (.level key)
    else match size with
      | none => none
      | some n => if (if r.ty.isBlock then r.lengthOk n else n == r.ty.width) then none else some (s.lengthRefusal key r)

/-- A new transfer: a dictionary request, which wakes from SIMMER (R76); the one before it, if any, is given up. A request under way is not
disturbed. -/
def State.sdoBegin (s : State) (d : List Byte) (f : State → State) : State :=
  if s.sdoOpen = false ∨ d.length ≠ 8 ∨ s.canopen.sdo.asked then s
  else f ((s.touch sdoPath).setSdo (fun _ => { Sdo.idle with key := keyAt d }))

/-- SDO_INITIATE_DOWNLOAD: expedited, or the start of a segmented download. -/
def execSdoInitiateDownload (d : List Byte) (s : State) : Host.Outcome State Fault Refusal :=
  .next (s.sdoBegin d (fun s =>
    let b := byteAt d 0
    let sized := b.testBit 0
    if b.testBit 1 then
      -- a frame that does not indicate its size counts as 4 bytes (R639)
      s.sdoWrite ((d.drop 4).take (if sized then 4 - field b 3 2 else 4))
    else
      let size := if sized then some (leNat (d.drop 4)) else none
      match s.earlyRefusal (keyAt d) size with
      | some e => ((s.setSdo (fun t => { t with asked := true })).refuse sdoPath e).sdoReplies
      | none => ((s.firmwareBegins (keyAt d)).sdoSend ([0x60] ++ muxOf (keyAt d))).setSdo (fun t => { t with phase := .download, size := size })))

/-- The data of a finished download go to the dictionary. -/
def State.sdoFinish (s : State) (bs : List Byte) : State :=
  let t := s.canopen.sdo
  if t.size.any (fun n => n != bs.length) then
    let e := match s.earlyRefusal t.key none, s.presentRow t.key with
      | some e, _ => e
      | none, .ok r => s.lengthRefusal t.key r
      | none, .error e => e
    ((s.setSdo (fun t => { t with asked := true })).refuse sdoPath e).sdoReplies
  else s.sdoWrite bs

/-- SDO_DOWNLOAD_SEGMENT. -/
def execSdoDownloadSegment (d : List Byte) (s : State) : Host.Outcome State Fault Refusal :=
  .next (let t := s.canopen.sdo
    if s.sdoOpen = false ∨ d.length ≠ 8 ∨ t.asked then s
    else if t.phase ≠ .download then s.sdoAbort 0x05040001
    else
      let b := byteAt d 0
      if b.testBit 4 ≠ t.toggle then s.sdoAbort 0x05030000
      else
        let bs := t.bytes ++ (d.drop 1).take (7 - field b 3 1)
        if b.testBit 0 then (s.setSdo (fun t => { t with bytes := bs })).sdoFinish bs
        else (s.sdoSend [BitVec.ofNat 8 (0x20 + 16 * b2n t.toggle)]).setSdo (fun t => { t with bytes := bs, toggle := !t.toggle }))

/-- SDO_INITIATE_UPLOAD. -/
def execSdoInitiateUpload (d : List Byte) (s : State) : Host.Outcome State Fault Refusal := .next (s.sdoBegin d (fun s => s.sdoRead))

/-- SDO_UPLOAD_SEGMENT. -/
def execSdoUploadSegment (d : List Byte) (s : State) : Host.Outcome State Fault Refusal :=
  .next (let t := s.canopen.sdo
    if s.sdoOpen = false ∨ d.length ≠ 8 ∨ t.asked then s
    else if t.phase ≠ .upload then s.sdoAbort 0x05040001
    else if (byteAt d 0).testBit 4 ≠ t.toggle then s.sdoAbort 0x05030000
    else
      let part := (t.bytes.drop t.sent).take 7
      let last := decide (t.bytes.length ≤ t.sent + 7)
      let s1 := s.sdoSend ([BitVec.ofNat 8 (16 * b2n t.toggle + 2 * (7 - part.length) + b2n last)] ++ part)
      if last then s1.setSdo (fun _ => .idle) else s1.setSdo (fun t => { t with sent := t.sent + 7, toggle := !t.toggle }))

/-- The CRC of block transfers: CCITT, start value 0 (CiA 301). -/
def sdoCrc (bs : List Byte) : Nat := crcOf { width := 16, poly := 0x1021, init := 0, refin := false, refout := false, xorOut := 0 } bs

/-- Segments a block that the server takes (log 20). -/
abbrev sdoBlock : Nat := 127

/-- A segment of a block download: in its order it is taken; the block's last is answered with the number taken. -/
def State.sdoBlockSegment (s : State) (d : List Byte) : State :=
  let t := s.canopen.sdo
  let b := byteAt d 0
  let inOrder := b % 128 == t.seqno + 1
  let s1 := if inOrder then s.setSdo (fun t => { t with bytes := t.bytes ++ d.drop 1, seqno := t.seqno + 1 }) else s
  let ended := inOrder && b.testBit 7
  if b.testBit 7 ∨ b % 128 = sdoBlock then
    (s1.sdoSend ([0xA2] ++ leBytes 1 s1.canopen.sdo.seqno ++ leBytes 1 sdoBlock)).setSdo (fun t =>
      { t with seqno := 0, phase := if ended then .blockDownloadEnd else .blockDownload })
  else s1

/-- SDO_BLOCK_DOWNLOAD: its start, a segment, or its end, as the transfer stands. -/
def execSdoBlockDownload (d : List Byte) (s : State) : Host.Outcome State Fault Refusal :=
  .next (let t := s.canopen.sdo
    let b := byteAt d 0
    if s.sdoOpen = false ∨ d.length ≠ 8 ∨ t.asked then s
    else if t.phase = .blockDownload then s.sdoBlockSegment d
    else if t.phase = .blockDownloadEnd then
      (if b / 32 ≠ 6 ∨ b.testBit 0 = false then s.sdoAbort 0x05040001
       else
         let bs := t.bytes.take (t.bytes.length - field b 4 2)
         if t.crc && sdoCrc bs != leNat ((d.drop 1).take 2) then s.sdoAbort 0x05040004 else s.sdoFinish bs)
    else if b.testBit 0 then s.sdoAbort 0x05040001
    else s.sdoBegin d (fun s =>
      let size := if b.testBit 1 then some (leNat (d.drop 4)) else none
      match s.earlyRefusal (keyAt d) size with
      | some e => ((s.setSdo (fun t => { t with asked := true })).refuse sdoPath e).sdoReplies
      | none => ((s.firmwareBegins (keyAt d)).sdoSend ([0xA4] ++ muxOf (keyAt d) ++ leBytes 1 sdoBlock)).setSdo (fun t =>
          { t with phase := .blockDownload, size := size, crc := b.testBit 2, seqno := 0, bytes := [] })))

/-- The next block of an upload. -/
def State.sdoSendBlock (s : State) : State :=
  let t := s.canopen.sdo
  let rest := t.bytes.drop t.sent
  let n := min t.blksize (max 1 ((rest.length + 6) / 7))
  let s1 := (List.range n).foldl (fun s i =>
    let last := decide (rest.length ≤ 7 * (i + 1))
    s.sdoSend ([BitVec.ofNat 8 (i + 1 + 128 * b2n last)] ++ (rest.drop (7 * i)).take 7)) s
  s1.setSdo (fun t => { t with phase := .blockUpload, seqno := n })

/-- SDO_BLOCK_UPLOAD: its start, the go-ahead, an acknowledgement, or its end, as the transfer stands. -/
def execSdoBlockUpload (d : List Byte) (s : State) : Host.Outcome State Fault Refusal :=
  .next (let t := s.canopen.sdo
    let b := byteAt d 0
    if s.sdoOpen = false ∨ d.length ≠ 8 ∨ t.asked then s
    else match b % 4 with
      | 0 => s.sdoBegin d (fun s =>
          let n := byteAt d 4
          if n = 0 ∨ 127 < n then s.sdoAbort 0x05040002
          else (s.setSdo (fun t => { t with phase := .blockUploadStart, blksize := n, crc := b.testBit 2 })).sdoRead)
      | 3 => if t.phase = .blockUploadStart then s.sdoSendBlock else s.sdoAbort 0x05040001
      | 2 =>
        if t.phase ≠ .blockUpload then s.sdoAbort 0x05040001
        else
          let ack := byteAt d 1
          let n := byteAt d 2
          if t.seqno < ack then s.sdoAbort 0x05040003
          else if n = 0 ∨ 127 < n then s.sdoAbort 0x05040002
          else
            let sent := min t.bytes.length (t.sent + 7 * ack)
            let s1 := s.setSdo (fun t => { t with sent := sent, blksize := n })
            if t.bytes.length ≤ sent then
              let empty := (7 - t.bytes.length % 7) % 7
              (s1.sdoSend ([BitVec.ofNat 8 (0xC1 + 4 * empty)] ++ leBytes 2 (sdoCrc t.bytes))).setSdo (fun t => { t with phase := .blockUploadEnd })
            else s1.sdoSendBlock
      | _ => if t.phase = .blockUploadEnd then s.setSdo (fun _ => .idle) else s.sdoAbort 0x05040001)

/-- SDO_ABORT by the client. A write already staged still commits. -/
def execSdoAbort (d : List Byte) (s : State) : Host.Outcome State Fault Refusal :=
  .next (if s.sdoOpen = false ∨ d.length ≠ 8 then s else s.setSdo (fun _ => .idle))

/-! ### PDOs -/

/-- The mapping entries in use: key and width in bytes. -/
def State.pdoMap (s : State) (idx : Nat) : List (Nat × Nat) :=
  (List.range (min 8 (s.nat (idx * 256)))).map (fun i => (s.nat (idx * 256 + 1 + i) / 256, s.nat (idx * 256 + 1 + i) % 256 / 8))

/-- One mapped write: checked, and staged as writer code 2 (R510). -/
def State.pdoWrite (s : State) (key : Nat) (bs : List Byte) : State :=
  match s.checkWrite pdoPath key (.bytes bs) with
  | .error e => s.putN (Key.abortDetail 2) e.word
  | .ok v => s.stage pdoPath key v

/-- The data of RPDO `k` reach their objects. -/
def State.rpdoApply (s : State) (k : Fin 8) (data : List Byte) : State :=
  ((s.pdoMap (0x1600 + k.val)).foldl (fun (r : State × List Byte) m => (r.1.pdoWrite m.1 (r.2.take m.2), r.2.drop m.2)) (s.touch pdoPath, data)).1

/-- RPDO_RECEIVED: at once, or at the next SYNC for types 0-240; data shorter than the mapping are not taken (CiA 301). -/
def execRpdoReceived (k : Fin 8) (data : List Byte) (s : State) : Host.Outcome State Fault Refusal :=
  .next (let need := ((s.pdoMap (0x1600 + k.val)).map (fun m => m.2)).sum
    let owned := (s.pdoCob (Key.rpdoCOBID k) 0x200 k).any (fun c => s.slaveOwner (cobWord c) == some (.rpdo k))
    if s.clocksRun = false ∨ s.canopen.nmt ≠ 5 ∨ owned = false ∨ data.length < need then s
    else if s.nat (Key.rpdoTransmissionType k) ≤ 240 then s.setOpen (fun c => { c with rpdos := c.rpdos.set k (some data) })
    else s.rpdoApply k data)

/-- Change a TPDO. -/
def State.setTpdo (s : State) (k : Fin 8) (f : Tpdo → Tpdo) : State := s.setOpen (fun c => { c with tpdos := c.tpdos.set k (f c.tpdos[k]) })

/-- TPDO `k` goes out with the values as read now; its inhibit time runs. -/
def State.tpdoSend (s : State) (k : Fin 8) : State :=
  match s.pdoCob (Key.tpdoCOBID k) 0x180 k with
  | none => s
  | some cob =>
    let data := (s.pdoMap (0x1A00 + k.val)).flatMap (fun m => ((findRow m.1).map (fun r => r.ty.bytesOf (s.shown sdoPath m.1))).getD [])
    (s.sendOwn cob data).setTpdo k (fun t => { t with waiting := false, last := data, inhibited := decide (254 ≤ s.nat (Key.tpdoTransmissionType k)) && s.nat (Key.tpdoInhibitTime k) != 0 })

/-- TPDO_TRANSMIT: an event (event timer, or a change of mapped data) asks for TPDO `k`, or its inhibit time ends. A synchronous TPDO
of type 0 waits for the SYNC. -/
def execTpdoTransmit (k : Fin 8) (inhibitEnd : Bool) (s : State) : Host.Outcome State Fault Refusal :=
  .next (let t := s.canopen.tpdos[k]
    if s.clocksRun = false ∨ s.canopen.nmt ≠ 5 then s
    else if inhibitEnd then
      let s1 := s.setTpdo k (fun t => { t with inhibited := false })
      if t.inhibited && t.waiting then s1.tpdoSend k else s1
    else if s.nat (Key.tpdoTransmissionType k) = 0 ∨ t.inhibited then s.setTpdo k (fun t => { t with waiting := true })
    else if 254 ≤ s.nat (Key.tpdoTransmissionType k) then s.tpdoSend k
    else s)

/-- The SYNC at a synchronous TPDO: its SYNC start value opens the count; every type-th SYNC sends; type 0 sends what waits. -/
def State.tpdoSync (s : State) (k : Fin 8) (counter : Nat) : State :=
  let ty := s.nat (Key.tpdoTransmissionType k)
  let start := s.nat (Key.tpdoSyncStart k)
  let t := s.canopen.tpdos[k]
  if 240 < ty then s
  else if ty = 0 then (if t.waiting then s.tpdoSend k else s)
  else
    let open_ := t.started || start == 0 || s.nat Key.synccntOverflow == 0
    if open_ then
      let n := t.syncs + 1
      let s1 := s.setTpdo k (fun t => { t with started := true, syncs := if ty ≤ n then 0 else n })
      if ty ≤ n then s1.tpdoSend k else s1
    else if counter = start then (s.setTpdo k (fun t => { t with started := true, syncs := 0 })).tpdoSend k
    else s

/-- SYNC_RECEIVED: a frame that SYNC owns (R511): its counter is its first byte; waiting RPDOs apply, synchronous TPDOs go out (R510). -/
def execSyncReceived (f : CanFrame) (s : State) : Host.Outcome State Fault Refusal :=
  .next (let counter := (f.data.headD 0).toNat
    if s.clocksRun = false ∨ s.canopen.nmt ≠ 5 ∨ f.remote ∨ f.id.testBit 30 ∨ s.slaveOwner f.id ≠ some .sync then s
    else
      let s1 := (List.finRange 8).foldl (fun s (k : Fin 8) => match s.canopen.rpdos[k] with
        | some d => (s.setOpen (fun c => { c with rpdos := c.rpdos.set k none })).rpdoApply k d
        | none => s) (s.setOpen (fun c => { c with syncCount := counter }))
      (List.finRange 8).foldl (fun s (k : Fin 8) => s.tpdoSync k counter) s1)

/-! ### Heartbeats -/

/-- HEARTBEAT_PRODUCE: the NMT state on 0x700 + node-ID. -/
def execHeartbeatProduce (s : State) : Host.Outcome State Fault Refusal :=
  .next (if s.clocksRun ∧ s.canopen.nmt ≠ 0 ∧ s.nat Key.hbprodTime ≠ 0 then s.sendOwn (0x700 + s.nodeId) (leBytes 1 s.canopen.nmt) else s)

/-- HEARTBEAT_CONSUMER_TIMEOUT: a consumed heartbeat is absent: 0x0806 with its node-ID in word 5, source 197, bit 4 of 0x1001 (R511). -/
def execHeartbeatConsumerTimeout (i : Fin 4) (s : State) : Host.Outcome State Fault Refusal :=
  .next (if s.clocksRun ∧ s.canopen.nmt ≠ 0 ∧ s.consumerNode i ≠ 0 ∧ s.consumerTime i ≠ 0 ∧ s.canopen.absent.contains i = false then
      ((s.setOpen (fun c => { c with absent := c.absent ++ [i] })).log 0x0806 noSource 0 (s.consumerNode i)).raiseCan 0 7
    else s)

end Sys2Proof.Machine
end

