-- ==== Sys2Proof/Machine/Svc.lean ====
section
/-! DEFINITION. Supervisor calls of the core monitor (R454, R455, R587): each is the instruction SVC with its number, from the trap's
entry to the return to the program. -/

namespace Sys2Proof.Machine

open Sys2Proof

/-- The core after the trap entry, as the monitor finds it. -/
def State.svcEnter (s : State) (c : Fin 4) (num : Nat) : State :=
  let r := (s.sampleStack c).freeNat
  ((r.2.setCore c (fun k => k.enterTrap k.pc 10 (BitVec.ofNat 32 num) 0)).passCycles c (trapCycles + r.1)).countEvent c 0x02 trapCycles

/-- The monitor returns behind the SVC. -/
def State.svcLeave (s : State) (c : Fin 4) : State := s.setCore c (fun k => ({ k with epc := k.epc + 4 } : Core).trapReturn)

/-- The call returns a result in w1. -/
def State.svcResult (s : State) (c : Fin 4) (v : Nat) : State := (s.setCore c (fun k => k.setReg 1 (BitVec.ofNat 32 v))).svcLeave c

/-- What the tagged record of an SVC says: trapped (R478). -/
def Core.svcTagged (k : Core) : Core :=
  { k with flight := if k.tagged then k.flight.map (fun r => { r with trapped := true }) else k.flight, sampleTag := false }

/-- SVC in user mode: `check` finds what the call traps on instead (R454), `serve` is the monitor's work. In privileged mode the
exception is taken as any other (R451, R456). -/
def State.svc (s : State) (c : Fin 4) (num : Nat) (check : State → Core → Option Trap) (serve : State → Core → State) : State :=
  s.insn c (wordK 0x34 0 0 (BitVec.ofNat 18 num)) [1, 2, 3] 0 (fun s _ =>
    let k := s.cores[c]
    if k.privileged then .trap s ⟨10, BitVec.ofNat 32 num⟩
    else match check s k with
      | some t => .trap s t
      | none =>
        let s1 := serve (s.svcEnter c num) k
        .done { s := s1, next := (s1.cores[c]).pc, cost := ⟨0, [(0x0F, 1), (0x10, 1)], 0, 0⟩, retires := false,
                post := fun t => (t.flushTagged c).setCore c Core.svcTagged })

/-- A call that no operand can make trap. -/
def noTrap : State → Core → Option Trap := fun _ _ => none

/-- SVC_EXIT: program state STOPPED. -/
def execSvcExit (c : Fin 4) (s : State) : Host.Outcome State Fault Refusal :=
  .next (s.svc c 0 noTrap (fun s _ => s.holdProgram c 3))

/-- SVC_EVENT_RETURN: the interrupted program goes on; without a handler running the call has nothing to end. -/
def execSvcEventReturn (c : Fin 4) (s : State) : Host.Outcome State Fault Refusal :=
  .next (s.svc c 1 noTrap (fun s k => match k.frame with
    | none => s.svcLeave c
    | some f => s.setCore c (fun k => { k with regs := f.regs, pc := f.pc, epc := f.pc, status := statusOf false false f.ie f.ie, frame := none })))

/-- SVC_LOG (R454, R587). -/
def State.svcLog (s : State) (c : Fin 4) (k : Core) : State :=
  let w1 := (k.reg 1).toNat
  if 0xF0 ≤ w1 % 256 then s.svcResult c 2
  else
    let e := { s.ashEvent (0x0E10 + w1 % 256) c.val (k.reg 2).toNat (k.reg 3).toNat 0 with severity := field w1 11 8 }
    let merges := s.ash.queue.getLast?.any (fun q => q.event.same e)
    let full := decide (ashQueueMax ≤ s.ash.queue.length) && !merges
    (s.queueAsh e).svcResult c (b2n full)

/-- SVC_LOG. -/
def execSvcLog (c : Fin 4) (s : State) : Host.Outcome State Fault Refusal := .next (s.svc c 2 noTrap (fun s k => s.svcLog c k))

/-- The first byte of a buffer that `trap` finds bad. -/
def bufferTrap (trap : Nat → Option Trap) : Nat → Nat → Option Trap
  | _, 0 => none
  | a, n + 1 => match trap (a % 2 ^ 32) with
    | some t => some t
    | none => bufferTrap trap (a + 1) n

/-- DOM_READ: as much of the DOM or VIS as the buffer takes. -/
def State.svcDomRead (s : State) (c : Fin 4) (k : Core) : State :=
  let p := corePath c
  let key := (k.reg 1).toNat / 256
  let s1 := s.touch p
  match s1.checkRead key with
  | .error e => (s1.refuse p e).svcResult c e.code
  | .ok r =>
    if r.ty.isBlock = false then (s1.refuse p (.length key)).svcResult c abortLength
    else
      let x := s1.readBlock p key
      let bs := x.1.take (k.reg 3).toNat
      ((bs.zipIdx (k.reg 2).toNat).foldl (fun s b => s.memStore c (b.2 % 2 ^ 32) 1 (BitVec.ofNat 32 b.1.toNat)) x.2).svcResult c bs.length

/-- SVC_DOM_READ. -/
def execSvcDomRead (c : Fin 4) (s : State) : Host.Outcome State Fault Refusal :=
  .next (s.svc c 3 (fun s k => bufferTrap (fun a => s.storeTrap c a 1) (k.reg 2).toNat (k.reg 3).toNat) (fun s k => s.svcDomRead c k))

/-- `n` bytes of the program's buffer. -/
def State.bufferBytes (s : State) (c : Fin 4) (a n : Nat) : List Byte × State :=
  (List.range n).foldl (fun (r : List Byte × State) i =>
    let x := r.2.memLoad c ((a + i) % 2 ^ 32) 1
    (r.1 ++ [BitVec.ofNat 8 x.1.toNat], x.2)) ([], s)

/-- DOM_WRITE: the buffer is the whole new value, staged under R126. -/
def State.svcDomWrite (s : State) (c : Fin 4) (k : Core) : State :=
  let p := corePath c
  let key := (k.reg 1).toNat / 256
  let b := s.bufferBytes c (k.reg 2).toNat (k.reg 3).toNat
  let s1 := b.2.touch p
  match s1.checkWrite p key (.bytes b.1) with
  | .error e => (s1.refuse p e).svcResult c e.code
  | .ok (.num _) => (s1.refuse p (.length key)).svcResult c abortLength
  | .ok v =>
    let s2 := ({ s1 with dict := { s1.dict with answers := s1.dict.answers.set! p.writer.code .none } }).acceptWrite p key v
    match s2.dict.answers.toList[p.writer.code]? with
    | some (Answer.abort code) => s2.svcResult c code
    | _ => s2.svcResult c 0

/-- SVC_DOM_WRITE. -/
def execSvcDomWrite (c : Fin 4) (s : State) : Host.Outcome State Fault Refusal :=
  .next (s.svc c 4 (fun s k => bufferTrap (fun a => s.loadTrap c a 1) (k.reg 2).toNat (k.reg 3).toNat) (fun s k => s.svcDomWrite c k))

/-- The levels that the routing to core `c` uses: of routed sources, and of enabled local ones (R470, R473). -/
def State.routedLevels (s : State) (c : Fin 4) : Word :=
  (List.range 256).foldl (fun w src =>
    let used := if 248 ≤ src ∧ src ≤ 251 then (s.cores[c]).localCtrl.getLsbD (8 * (src - 248) + 7) else field (s.route src) 10 8 == c.val
    if used then w ||| BitVec.ofNat 32 (2 ^ s.sourceLevel c src) else w) 0

/-- SVC_SET_LEVELS; what w1 then holds is not stated. -/
def execSvcSetLevels (c : Fin 4) (s : State) : Host.Outcome State Fault Refusal :=
  .next (s.svc c 5 noTrap (fun s k =>
    let r := s.freeWord
    (r.2.setCore c (fun q => { q with prioMask := k.reg 1 &&& r.2.routedLevels c })).svcResult c r.1.toNat))

/-- SVC_UNLISTED: a number of no service; the listed ones have rows of their own. -/
def execSvcUnlisted (c : Fin 4) (num : BitVec 12) (s : State) : Host.Outcome State Fault Refusal :=
  .next (if num.toNat ≤ 5 then s else s.svc c num.toNat noTrap (fun s _ => s.svcResult c 0xFFFFFFFF))

end Sys2Proof.Machine
end

