-- ==== Sys2Proof/Machine/Commit.lean ====
section
/-! DEFINITION. The commit of staged writes at a tick start (R123-R126, R148, R156, R638): the writes that stand are judged together, put in
force, answered, and do what their owning chapters say. -/

namespace Sys2Proof.Machine

open Sys2Proof

/-! ### What a committed write to a command does -/

/-- 0x2000-0x23FF, 0x3900, 0x3A00 and 0x3B00. -/
def State.moduleCommand (s : State) (p : Path) (key v : Nat) : Option State :=
  if key = Key.procCommand then
    some (if s.commandAllowed v then s.processCommand v else s.refuse p (.state key))
  else if key = Key.hbeatHeartbeat then some (s.heartbeat p v)
  else if key = Key.lostAcknowledge then some s.hostAcknowledge
  else if key = Key.modeRequestedMode then
    some (match s.modeRefused v with
      | some e => s.refuse p e
      | none => s.modeRequest v)
  else if key = Key.powerClearStatistics then some s.powerStatsClear
  else if key = Key.contactNextContact then some (s.contactDeclared v)
  else if key = Key.powerRTC then some (s.rtcWrite v)
  else if key = Key.startConfirm then some s.confirmStart
  else if key = Key.startKindlingCommand then some (s.kindlingCommand v)
  else if key = Key.identLevelRequest then some (s.levelRequest p v)
  else if key = Key.identServicePasscode then some (s.unitWrote.putN key v)
  else if key = Key.supplyClearCounters then some (s.zero [Key.supplyP1BrownOuts, Key.supplyP2Losses])
  else if key = Key.ashCursor then some (s.setCursor p v)
  else if key = Key.ashClear then some (s.ashClear p)
  else if key = Key.thermalRestart then some s.thermalRestartCommand
  else if key = Key.thermalBankEnable then some (if bankEnableRefused s (some (.num (Int.ofNat v))) then s.refuse p (.state key) else s.enableBank v)
  else if key = Key.thermalClearStatistics then some s.thermalStatsClear
  else if key = Key.errhistNumberOfErrors then
    some (s.zero (Key.errhistNumberOfErrors :: (List.range 8).map (fun i => Key.errhistErrorField i)))
  else none

/-- Sensor channels, converter cores, Bellows: 0x2400-0x27FF. -/
def State.frontCommand (s : State) (p : Path) (key v : Nat) : Option State :=
  let idx := key / 256
  let sub := key % 256
  if 0x2400 ≤ idx ∧ idx ≤ 0x243F then
    let n := Fin.ofNat 64 (idx - 0x2400)
    if sub = 0x13 then some (s.demandConversion n s.tickTime)
    else if sub = 0x3C then some (s.channelStatsClear n)
    else none
  else if 0x2480 ≤ idx ∧ idx ≤ 0x2487 then
    let c := Fin.ofNat 8 (idx - 0x2480)
    if sub = 9 then some (s.demandReference c s.tickTime)
    else if sub = 0x0B then some (s.zero (coreCounterKeys c.val))
    else none
  else if 0x2600 ≤ idx ∧ idx ≤ 0x263F then
    let l := Fin.ofNat 64 (idx - 0x2600)
    if sub = 3 then some (s.modeCommitted s.clock.tick l v)
    else if sub = 0x2B then some (s.loopFaultReset l)
    else if sub = 0x44 then some (s.loopStatsClear l)
    else none
  else if key = Key.bellowsClearCounters then some s.bellowsCountersClear
  else if key = Key.traceCommand then
    some (if v = 1 ∧ s.traceArmOk = false then s.refuse p (.range key) else s.traceCommand v)
  else if 0x2700 ≤ idx ∧ idx ≤ 0x273F ∧ sub = 0x0C then some (s.learnerClear (idx - 0x2700))
  else none

/-- Actuators, switches, drives, outputs and inputs: 0x2800-0x29FF. -/
def State.outputCommand (s : State) (key v : Nat) : Option State :=
  let idx := key / 256
  let sub := key % 256
  if 0x2800 ≤ idx ∧ idx ≤ 0x2813 then
    let a := Fin.ofNat 20 (idx - 0x2800)
    if sub = 2 then some (s.actCommand a v)
    else if sub = 0x19 then some (s.actFaultReset a)
    else if sub = 0x30 then some (s.actStatsClear a)
    else none
  else if 0x2820 ≤ idx ∧ idx ≤ 0x2829 then
    let h := Fin.ofNat 10 (idx - 0x2820)
    if sub = 6 then some (s.hsFaultReset h)
    else if sub = 0x0B then some (s.hsStatsClear h)
    else none
  else if 0x2900 ≤ idx ∧ idx ≤ 0x290F then
    let d := Fin.ofNat 16 (idx - 0x2900)
    if sub = 0x11 then some (s.driveFaultReset d)
    else if sub = 0x2C then some (s.driveStatsClear d)
    else none
  else if 0x2920 ≤ idx ∧ idx ≤ 0x2927 ∧ sub = 0x26 then some (s.outputStatsClear (Fin.ofNat 8 (idx - 0x2920)))
  else if 0x2930 ≤ idx ∧ idx ≤ 0x2937 ∧ sub = 8 then some (s.countReset (Fin.ofNat 8 (idx - 0x2930)))
  else none

/-- Kelsis and the predictors: 0x3000-0x3113. -/
def State.kelsisCommand (s : State) (p : Path) (key v : Nat) : Option State :=
  let idx := key / 256
  let sub := key % 256
  if key = Key.kelsisClearCounters then some s.kelsisCountersClear
  else if 0x3010 ≤ idx ∧ idx ≤ 0x3013 then
    let c := Fin.ofNat 4 (idx - 0x3010)
    if sub = 0x14 then some (s.columnReinitialise c s.clock.tick)
    else if sub = 0x55 then some (s.labSubmit c (BitVec.ofNat 32 v) s.clock.tick)
    else if sub = 0x57 then some (s.columnStatsClear c.val)
    else none
  else if key = Key.tablesRebuild then some s.tableRebuild
  else if 0x3040 ≤ idx ∧ idx ≤ 0x304F ∧ sub = 0x10 then some (s.loadFromFile (Fin.ofNat 16 (idx - 0x3040)) v)
  else if key = Key.mapSnapshot then some s.mapSnapshot
  else if key = Key.predgClearCounters then some s.predictiveCountersClear
  else if 0x3110 ≤ idx ∧ idx ≤ 0x3113 ∧ sub = 0x20 then
    let c := Fin.ofNat 4 (idx - 0x3110)
    some (if v = 1 then s.forceFeedback c
      else if returnRefused s c (some (.num (Int.ofNat v))) then s.refuse p (.state key)
      else s.orderReturn c)
  else none

/-- Cores, router, counters, CAN and Flue: 0x3400-0x37FF. -/
def State.systemCommand (s : State) (key v : Nat) : Option State :=
  let idx := key / 256
  let sub := key % 256
  let b := Fin.ofNat 2 ((idx - 0x3600) / 0x40)
  if 0x3400 ≤ idx ∧ idx ≤ 0x3403 then
    let c := Fin.ofNat 4 (idx - 0x3400)
    if sub = 2 then some (s.programCommand c v true)
    else if sub = 0x0F then some (s.coreStatsClear c.val)
    else none
  else if key = Key.imagesEraseSlot then some (s.eraseSlot v)
  else if idx = 0x3480 ∧ 1 ≤ sub ∧ sub ≤ 0x80 then some (s.routeCommit (sub - 1) v)
  else if key = Key.routerClearCounters then some s.routerCountersClear
  else if 0x3500 ≤ idx ∧ idx ≤ 0x3503 then
    let c := Fin.ofNat 4 (idx - 0x3500)
    some (if sub = 0x17 then s.countersClear c else s.counterWrite c sub v)
  else if idx = 0x3600 ∨ idx = 0x3640 then
    (if sub = 8 then some (s.busRecover b)
     else if sub = 0x21 then some (s.cancelOpen b v)
     else if sub = 0x2F then some (s.canStatsClear b)
     else none)
  else if (idx = 0x3602 ∨ idx = 0x3642) ∧ 0x50 ≤ sub ∧ sub ≤ 0x8F then
    some (s.clearObjectStatus b (Fin.ofNat 64 (sub - 0x50)) v)
  else if key = Key.flueClearStatistics then some s.flueStatsClear
  else if idx = 0x3720 ∧ sub % 16 = 0x0E then some (s.portStatsClear (Fin.ofNat 4 (sub / 16 - 1)))
  else if key = Key.ftimeClearStatistics then some s.timeStatsClear
  else if 0x3790 ≤ idx ∧ idx ≤ 0x379F ∧ sub = 3 then some ((s.putN key v).fanOut (idx - 0x3790) v)
  else none

/-- What a committed write of `v` to a command, or to a subindex whose write acts, does; none for a subindex that only takes its
value. -/
def State.commandEffect (s : State) (p : Path) (key v : Nat) : Option State :=
  let idx := key / 256
  if idx < 0x2400 ∨ 0x3900 ≤ idx then s.moduleCommand p key v
  else if idx < 0x2800 then s.frontCommand p key v
  else if idx < 0x3000 then s.outputCommand key v
  else if idx < 0x3400 then s.kelsisCommand p key v
  else s.systemCommand key v

/-- 0x1010 or 0x1011: the part, and whether it is a restore. -/
def saveRequest (key : Nat) : Option (Fin 3 × Bool) :=
  let idx := key / 256
  if (idx = 0x1010 ∨ idx = 0x1011) ∧ 1 ≤ key % 256 ∧ key % 256 ≤ 3 then some (Fin.ofNat 3 (key % 256 - 1), idx == 0x1011) else none

/-! ### The writes of one tick, judged together -/

/-- The configuration values that a list of writes lays down. -/
def stagedValues (l : List Staged) : List (Nat × Int) :=
  l.filterMap (fun w => match w.value with
    | .num v => if isConfig w.key then some (w.key, v) else none
    | .blk _ => none)

/-- The overlay list of mode `m` + 1 as it stands once the writes have committed. -/
def State.overlayListWith (s : State) (l : List Staged) (m : Nat) : List Byte :=
  match l.find? (fun w => w.key == Key.overlayEntryList m) with
  | some ⟨_, _, .blk bs⟩ => bs
  | _ => s.block (Key.overlayEntryList m)

/-- Kelsis's load stays within its budget on the base and on the base with each overlay laid on it (R326). -/
def State.loadsHold (s : State) (l : List Staged) (base : View) : Bool :=
  decide (base.kelsisLoad 0 ≤ kelsisBudget) && (List.range 16).all (fun m =>
    decide (View.kelsisLoad (overlayView base (overlayValues (overlayEntries (s.overlayListWith l m)))) 0 ≤ kelsisBudget))

/-- The combination rules hold for a write beside the others: on the running values and, for a base subindex, on the set of a mode switch
that is PENDING (R156, R638) and, for a term of the load, on the base and every overlay (R326). -/
def State.writeHolds (s : State) (l : List Staged) (w : Staged) : Bool :=
  let vs := stagedValues l
  let base := overlayView s.baseGet (vs.filter (fun e => !s.overlayNames e.1))
  isConfig w.key = false
    || (combosOk (overlayView s.get vs) w.key
      && (s.overlayNames w.key
        || ((match s.dict.pending with
             | none => true
             | some q => combosOk (overlayView base q.entries) w.key)
          && (!isLoadTerm w.key || s.loadsHold l base))))

/-- The lowest-ranked of a list of writes; of two of one rank the later (log 86). -/
def lowestRanked : List Staged → Option Staged
  | [] => none
  | w :: ws => some (ws.foldl (fun low x => if ranksAbove x.path low.path then low else x) w)

/-- While some write breaks a rule, the lowest-ranked of those that do is refused: the writes that commit, and the refused ones (log 86). -/
def State.settle (s : State) : Nat → List Staged → List Staged → List Staged × List Staged
  | 0, l, out => (l, out)
  | n + 1, l, out =>
    match lowestRanked (l.filter (fun w => !s.writeHolds l w)) with
    | none => (l, out)
    | some w => s.settle n (l.filter (fun x => x != w)) (out ++ [w])

/-! ### The commit -/

/-- A subindex whose block acts at a change of its value only: a channel's range (R171), a learner's enable and region (R279), a column's
grain type (R308), an actuator's mode (R387). -/
def actsOnChange (key : Nat) : Bool :=
  let idx := key / 256
  let sub := key % 256
  (Nat.ble 0x2400 idx && Nat.ble idx 0x243F && (sub == 0x0C || sub == 0x0D))
    || (Nat.ble 0x2700 idx && Nat.ble idx 0x273F && Nat.ble 1 sub && Nat.ble sub 3)
    || (Nat.ble 0x2800 idx && Nat.ble idx 0x2813 && sub == 1)
    || (Nat.ble 0x3010 idx && Nat.ble idx 0x3013 && sub == 7)

/-- A write that its block sees: any, but where it acts at a change only one that changes the value. -/
def State.blockSees (s : State) (w : Staged) : Bool :=
  match w.value with
  | .num v => !(actsOnChange w.key && s.get w.key == v)
  | .blk _ => true

/-- A block that has a taker of its own: an image, the site plan, the site key. -/
def hasTaker (key : Nat) : Bool := isImage key || key == Key.planPlan || key == Key.flueSiteKey

/-- One plain write lays its value in force. -/
def State.layValue (s : State) (w : Staged) : State :=
  match w.value with
  | .num v => s.assign w.key v
  | .blk bs =>
    if hasTaker w.key then s
    else if w.key = Key.tablesFileImage then
      { (s.putBlock w.key bs) with power := { s.power with bankModified := true } }
    else
      let s1 := s.putBlock w.key bs
      if isConfig w.key then { s1 with dict := { s1.dict with crcDirty := true } } else s1

/-- What the block of a plain write does once the values of the tick stand. -/
def State.takeValue (s : State) (w : Staged) : State :=
  match w.value with
  | .num _ => s.taken w.key
  | .blk bs =>
    if isImage w.key then s.imageData w.key bs
    else if w.key = Key.planPlan then s.takePlan 0 bs
    else if w.key = Key.flueSiteKey then s.takeSiteKey bs
    else s.taken w.key

/-- Plain writes: every value in force, then what the blocks do on the whole of them (R126, R196, R279). -/
def State.commitValues (s : State) (l : List Staged) : State :=
  let seen := l.filter (fun w => s.blockSees w)
  let s1 := (s.keepOld (l.filterMap (fun w => match w.value with
    | .num v => some (w.key, v)
    | .blk _ => none)))
  seen.foldl (fun s w => s.takeValue w) (l.foldl (fun s w => (s.layValue w).answer w.path .done) s1)

/-- A committed write of the tick that only lays down a value. -/
def State.isPlain (s : State) (w : Staged) : Bool :=
  (saveRequest w.key).isNone && (match w.value with
    | .blk _ => w.key != Key.cowlComputeData && w.key != Key.identVendorResponse
    | .num v => (s.commandEffect w.path w.key v.toNat).isNone)

/-- A committed write that acts: a store or restore stays unanswered until it completes (R134); every other is answered, then acts. -/
def State.commitAct (s : State) (w : Staged) : State :=
  match saveRequest w.key with
  | some (part, restore) =>
    if s.dict.saveOp.isSome then s.refuse w.path (.saveBusy w.key)
    else if restore then s.restoreStart w.path part
    else s.storeStart w.path part
  | none =>
    match w.value with
    | .num v => ((s.answer w.path .done).commandEffect w.path w.key v.toNat).getD s
    | .blk bs => if w.key = Key.identVendorResponse then s.vendorResponse w.path bs else (s.answer w.path .done).cowlCompute bs

/-- A request for a measurement: the slot it starts at this tick start still takes the old values (R196, R215). -/
def measures (w : Staged) : Bool :=
  let idx := w.key / 256
  (Nat.ble 0x2400 idx && Nat.ble idx 0x243F && w.key % 256 == 0x13) || (Nat.ble 0x2480 idx && Nat.ble idx 0x2487 && w.key % 256 == 9)

/-- A route pair: its new route holds for whatever else commits at the tick (R469). -/
def routes (w : Staged) : Bool := w.key / 256 == 0x3480 && Nat.ble 1 (w.key % 256) && Nat.ble (w.key % 256) 0x80

/-- The command of actuator channel `a`. -/
def Staged.commands (a : Nat) (w : Staged) : Bool := w.key == Key.actCommand a

/-- A write put behind those before it; but the command of an even channel goes ahead of one that its partner has (R382). -/
def putPartner (l : List Staged) (w : Staged) : List Staged :=
  if (List.range 10).any (fun h => w.commands (2 * h) && l.any (Staged.commands (2 * h + 1))) then
    let behind := fun (x : Staged) => x.key == w.key + 256
    l.takeWhile (fun x => !behind x) ++ w :: l.dropWhile (fun x => !behind x)
  else l ++ [w]

/-- The acts of a tick, the partners of a switch in the order of their channel numbers (R382). -/
def partnersInOrder (l : List Staged) : List Staged := l.foldl putPartner []

/-- START or RESTART of a core whose image another write of the tick brings (R462). -/
def startsComing (l : List Staged) (w : Staged) : Bool :=
  let idx := w.key / 256
  Nat.ble 0x3401 idx && Nat.ble idx 0x3403 && w.key % 256 == 2 && (numOf (some w.value) == 1 || numOf (some w.value) == 3)
    && l.any (fun x => x.key == Key.imagesImage (idx - 0x3401))

/-- Commands act in their order. -/
def State.commitActs (s : State) (l : List Staged) : State := l.foldl (fun s w => if s.clocksRun then s.commitAct w else s) s

/-- What one instance of the dictionary commits at a tick start: the writes that stand are found; new routes hold (R469); outputs of Kelsis are published (R291); superseded
writes and those that break a rule are refused; requests for measurements are taken up; values are put in force together; then the other
commands act in their order. -/
def State.commitStaged (s : State) : State :=
  let all := s.dict.staged
  let s1 := { s with dict := { s.dict with staged := [] } }
  let r := s1.settle all.length (standingWrites all) []
  let s2 := (s1.commitActs (r.1.filter routes)).kelsisPublish
  let s3 := r.2.foldl (fun s w => s.refuse w.path (.range w.key)) ((supersededWrites all).foldl (fun s w => s.supersede w) s2)
  let s4 := (r.1.filter (fun w => startsComing r.1 w)).foldl (fun s w => s.refuse w.path (.state w.key)) s3
  let plain := r.1.filter (fun w => s4.isPlain w)
  let acts := r.1.filter (fun w => !s4.isPlain w && !routes w && !startsComing r.1 w)
  let s5 := (s4.commitActs (acts.filter measures)).commitValues plain
  let s6 := if plain.any (fun w => feedsOutput w.key) then s5.serveAllOutputs else s5
  let s7 := s6.commitActs (partnersInOrder (acts.filter (fun w => !measures w)))
  s7.setAsh (fun a => { a with advanced := Vector.replicate 8 0 })

/-- The tick start's commit: of the dictionary, then of the groups whose own instances have writes waiting (R542). -/
def State.commit (s : State) : State :=
  let s1 := s.commitStaged
  (s1.flue.instances.filter (fun i => !i.staged.isEmpty)).foldl (fun s i => s.inGroup i.addr (fun s => s.commitStaged)) s1

/-- The start of the tick `s.clock.tick`: the commit, then the swap of a mode switch that is due at it (R149). -/
def State.tickStart (s : State) : State :=
  let s1 := s.commit
  match s1.dict.pending with
  | some q => if s1.clocksRun ∧ q.at_ ≤ s1.clock.tick then s1.modeSwap q else s1
  | none => s1

/-- MODE_SWITCH_SWAP: tick start k + 32 of the pending request, with what else commits at it; the rest of that tick follows as
BELLOWS_TICK. -/
def execModeSwitchSwap (s : State) : Host.Outcome State Fault Refusal :=
  .next (match s.dict.pending with
    | none => s
    | some q =>
      if s.clocksRun ∧ q.at_ ≤ s.clock.tick + 1 then
        let s1 := ({ s with clock := { s.clock with tick := max s.clock.tick q.at_ } }).tickStart
        { s1 with clock := { s1.clock with tick := s.clock.tick } }
      else s)

end Sys2Proof.Machine
end

