-- ==== Sys2Proof/Machine/Tick.lean ====
section
/-! DEFINITION. The tick of 62.5 µs (R14, R22, R123, R225). -/

namespace Sys2Proof.Machine

open Sys2Proof

/-- CORE cycles of a tick. -/
abbrev coreCyclesPerTick : Nat := 18750

/-- Measured values that no other command publishes: the supplies (R89), the actuator channels (R397), the switches (R401), the sensor
supplies of the drives (R429). -/
def isMeasured (key : Nat) : Bool :=
  key == Key.supplyP1Voltage || key == Key.supplyP2Voltage || key == Key.supplyP2Current
    || (List.range 20).any (fun a => key == Key.actCurrent a) || (List.range 10).any (fun h => key == Key.hsCurrent h)
    || (List.range 16).any (fun d => key == Key.driveSensorSupplyCurrent d)

/-- Publish the measured values, U16 each. -/
def State.measure (s : State) (l : List (Nat × Int)) : State :=
  l.foldl (fun s e => if isMeasured e.1 ∧ 0 ≤ e.2 ∧ e.2 < 65536 then s.put e.1 e.2 else s) s

/-- The current outputs read back their loop currents, and a fault bit clears where one is near its target again (R421). -/
def State.measureLoops (s : State) (l : List (Fin 8 × Word)) : State :=
  l.foldl (fun s e => (s.putW (Key.coutReadback e.1) e.2).outputCleared e.1) s

/-- The filtered level of WAKE, bit 4 of 0x2940:07 (R426, R436). -/
def State.wakeLevel (s : State) (high : Bool) : State := s.putBit Key.inputsInputLevels 4 high

/-- Whether the causes of faults are still present: channels 0-19, then switches as 20-29 (R396). -/
def State.measureCauses (s : State) (l : List (Nat × Bool)) : State :=
  l.foldl (fun s e =>
    if e.1 < 20 then s.setAct (Fin.ofNat 20 e.1) (fun u => { u with present := e.2 })
    else if e.1 < 30 then s.setHsPresent (Fin.ofNat 10 (e.1 - 20)) e.2
    else s) s

/-- The CYCLE counters reach this tick: cycles that a core's instructions have not taken pass as it stands (R474; log 87). -/
def State.coresTick (s : State) : State :=
  (List.finRange 4).foldl (fun s (c : Fin 4) => s.passCycles c (s.clock.tick * coreCyclesPerTick - (s.cores[c]).cycle)) s

/-- At each whole second the WAIT share of every core over the last second is published, in 0.01 % (R464). -/
def State.waitShares (s : State) : State :=
  if s.clock.tick % 16000 ≠ 0 then s
  else (List.finRange 4).foldl (fun s (c : Fin 4) =>
    let r := s.freeRound (Int.ofNat (min 300000000 (s.cores[c]).waitCycles)) 30000
    (r.2.put (Key.coreWAITShare c) r.1).setCore c (fun k => { k with waitCycles := 0 })) s

/-- A tick passes for the clocks and what only counts time. -/
def State.timePasses (s : State) : State :=
  let s1 := { s with clock := { s.clock with tick := s.clock.tick + 1 } }
  let s2 := s1.elapse unitsPerTick
  let s3 := if s2.power.state = .simmer then { s2 with power := { s2.power with inSimmer := s2.power.inSimmer + unitsPerTick } } else s2
  s3.coresTick.waitShares.thermalTick

/-- A Kelsis trigger acts as a write of 0x01 to 0x3070:05 committed at this tick (R471). -/
def State.kelsisTriggered (s : State) : State :=
  if s.router.kelsisLatch then ({ s with router := { s.router with kelsisLatch := false } }).mapSnapshot else s

/-- Tachs of drives that stand publish speed 0, and drives in IDLE take up a command (R409, R427). -/
def State.tachsTick (s : State) : State := (List.finRange 16).foldl (fun s (d : Fin 16) => (s.tachTick d).idleDrive d) s

/-- The Bellows triggers latched since the tick start before are those that this tick start sees (R471). -/
def State.seeTriggers (s : State) : State := { s with router := { s.router with bellowsSeen := s.router.bellowsLatch, bellowsLatch := [] } }

/-- BELLOWS_TICK: while a failed self-test halts the start only time passes (R72, R104); else the tick start's commit and swap, the snapshot, the loops' work, the outputs (R123, R225); answers on hand go out. -/
def execBellowsTick (i : TickInput) (s : State) : Host.Outcome State Fault Refusal :=
  .next (if s.startup.halted then s.elapse unitsPerTick else s.served (fun s =>
    let s1 := (((((s.seeTriggers.timePasses.measure i.measured).measureLoops i.loops).measureCauses i.causes).wakeLevel i.wake).kelsisTriggered).tickStart
    let s2 := if s1.clocksRun ∧ s1.process ≠ psKindling then s1.tachsTick.bellowsWork i else s1
    s2.sendReplies))

end Sys2Proof.Machine
end

