-- ==== Sys2Proof/Machine/Dispatch.lean ====
section
/-! DEFINITION. The dispatch: one arm per command, each one direct call of its meaning. -/

namespace Sys2Proof.Machine

open Sys2Proof

def exec (i : Instr) (s : State) : Host.Outcome State Fault Refusal :=
  match i with
  | .pllLockLoss => Sys2Proof.Machine.execPllLockLoss s
  | .p1BrownOut => Sys2Proof.Machine.execP1BrownOut s
  | .p1BrownOutAsleep aon => Sys2Proof.Machine.execP1BrownOutAsleep aon s
  | .p1LowSet => Sys2Proof.Machine.execP1LowSet s
  | .p1LowClear => Sys2Proof.Machine.execP1LowClear s
  | .p2Loss => Sys2Proof.Machine.execP2Loss s
  | .p2Restored => Sys2Proof.Machine.execP2Restored s
  | .cellCheck mv => Sys2Proof.Machine.execCellCheck mv s
  | .crystalStopped => Sys2Proof.Machine.execCrystalStopped s
  | .operatingTimeSave => Sys2Proof.Machine.execOperatingTimeSave s
  | .powerStateEvaluation => Sys2Proof.Machine.execPowerStateEvaluation s
  | .sleepEntryCommit => Sys2Proof.Machine.execSleepEntryCommit s
  | .rtcAlarm aon => Sys2Proof.Machine.execRtcAlarm aon s
  | .wakeInput aon => Sys2Proof.Machine.execWakeInput aon s
  | .canWake b frame aon => Sys2Proof.Machine.execCanWake b frame aon s
  | .wakeFromBanked => Sys2Proof.Machine.execWakeFromBanked s
  | .contactTimeReached aon => Sys2Proof.Machine.execContactTimeReached aon s
  | .contactWindowEnd => Sys2Proof.Machine.execContactWindowEnd s
  | .usbVbusChange present => Sys2Proof.Machine.execUsbVbusChange present s
  | .sleepRefusalHoldEnd => Sys2Proof.Machine.execSleepRefusalHoldEnd s
  | .powerStatisticsClear p => Sys2Proof.Machine.execPowerStatisticsClear p s
  | .supplyCountersClear p => Sys2Proof.Machine.execSupplyCountersClear p s
  | .coldStart e => Sys2Proof.Machine.execColdStart e s
  | .warmBoot e => Sys2Proof.Machine.execWarmBoot e s
  | .confirm p => Sys2Proof.Machine.execConfirm p s
  | .confirmationDeadline => Sys2Proof.Machine.execConfirmationDeadline s
  | .watchdogReset => Sys2Proof.Machine.execWatchdogReset s
  | .hotStartRecheck e => Sys2Proof.Machine.execHotStartRecheck e s
  | .kindlingExit p => Sys2Proof.Machine.execKindlingExit p s
  | .kindlingTrial p => Sys2Proof.Machine.execKindlingTrial p s
  | .automaticTrial => Sys2Proof.Machine.execAutomaticTrial s
  | .arm p => Sys2Proof.Machine.execArm p s
  | .start p => Sys2Proof.Machine.execStart p s
  | .halt p => Sys2Proof.Machine.execHalt p s
  | .stop p => Sys2Proof.Machine.execStop p s
  | .resetFault p => Sys2Proof.Machine.execResetFault p s
  | .nmtStartRemoteNode node => Sys2Proof.Machine.execNmtStartRemoteNode node s
  | .nmtStopRemoteNode node => Sys2Proof.Machine.execNmtStopRemoteNode node s
  | .nmtEnterPreOperational node => Sys2Proof.Machine.execNmtEnterPreOperational node s
  | .nmtResetNode node => Sys2Proof.Machine.execNmtResetNode node s
  | .nmtResetCommunication node => Sys2Proof.Machine.execNmtResetCommunication node s
  | .dictWrite p index sub data => Sys2Proof.Machine.execDictWrite p index sub data s
  | .servicePortRequest index sub data => Sys2Proof.Machine.execServicePortRequest index sub data s
  | .levelRequest p code => Sys2Proof.Machine.execLevelRequest p code s
  | .passcodeLockEnd p => Sys2Proof.Machine.execPasscodeLockEnd p s
  | .levelIdleTimeout p => Sys2Proof.Machine.execLevelIdleTimeout p s
  | .vendorChallenge p => Sys2Proof.Machine.execVendorChallenge p s
  | .vendorResponse p data => Sys2Proof.Machine.execVendorResponse p data s
  | .servicePasscodeWrite p code => Sys2Proof.Machine.execServicePasscodeWrite p code s
  | .storeParameters p part value => Sys2Proof.Machine.execStoreParameters p part value s
  | .storeDone => Sys2Proof.Machine.execStoreDone s
  | .restoreDefaults p part value => Sys2Proof.Machine.execRestoreDefaults p part value s
  | .restoreDone => Sys2Proof.Machine.execRestoreDone s
  | .checkValueRecompute => Sys2Proof.Machine.execCheckValueRecompute s
  | .heartbeat p v => Sys2Proof.Machine.execHeartbeat p v s
  | .hostPathsWrite p v => Sys2Proof.Machine.execHostPathsWrite p v s
  | .hostWatchdogExpiry => Sys2Proof.Machine.execHostWatchdogExpiry s
  | .hostAcknowledge p => Sys2Proof.Machine.execHostAcknowledge p s
  | .overlayEntryListWrite p m data => Sys2Proof.Machine.execOverlayEntryListWrite p m data s
  | .modeSwitchRequest p m => Sys2Proof.Machine.execModeSwitchRequest p m s
  | .modeSwitchSwap => Sys2Proof.Machine.execModeSwitchSwap s
  | .scanDue n t => Sys2Proof.Machine.execScanDue n t s
  | .leadCheckEnd v fail => Sys2Proof.Machine.execLeadCheckEnd v fail s
  | .conversionStart v => Sys2Proof.Machine.execConversionStart v s
  | .conversionEnd v r t => Sys2Proof.Machine.execConversionEnd v r t s
  | .resultPublish n => Sys2Proof.Machine.execResultPublish n s
  | .txsupReady n t => Sys2Proof.Machine.execTxsupReady n t s
  | .frontEndReady t => Sys2Proof.Machine.execFrontEndReady t s
  | .convertNow p n t => Sys2Proof.Machine.execConvertNow p n t s
  | .referenceCheck p v t => Sys2Proof.Machine.execReferenceCheck p v t s
  | .referenceCheckEnd v ppm t => Sys2Proof.Machine.execReferenceCheckEnd v ppm t s
  | .blankInputChange n high t => Sys2Proof.Machine.execBlankInputChange n high t s
  | .blankMaxDuration src t => Sys2Proof.Machine.execBlankMaxDuration src t s
  | .coreCountersClear p v => Sys2Proof.Machine.execCoreCountersClear p v s
  | .channelStatisticsClear p n => Sys2Proof.Machine.execChannelStatisticsClear p n s
  | .bellowsTick n => Sys2Proof.Machine.execBellowsTick n s
  | .eccWordRewrite word => Sys2Proof.Machine.execEccWordRewrite word s
  | .loopFaultReset p l => Sys2Proof.Machine.execLoopFaultReset p l s
  | .holdRequestSet p l => Sys2Proof.Machine.execHoldRequestSet p l s
  | .holdRequestClear p l => Sys2Proof.Machine.execHoldRequestClear p l s
  | .loopModeManual p l => Sys2Proof.Machine.execLoopModeManual p l s
  | .loopModeAuto p l => Sys2Proof.Machine.execLoopModeAuto p l s
  | .loopModeCascade p l => Sys2Proof.Machine.execLoopModeCascade p l s
  | .loopModePredictive p l => Sys2Proof.Machine.execLoopModePredictive p l s
  | .traceArm p => Sys2Proof.Machine.execTraceArm p s
  | .traceTrigger p => Sys2Proof.Machine.execTraceTrigger p s
  | .traceStop p => Sys2Proof.Machine.execTraceStop p s
  | .loopStatisticsClear p l => Sys2Proof.Machine.execLoopStatisticsClear p l s
  | .bellowsCountersClear p => Sys2Proof.Machine.execBellowsCountersClear p s
  | .tickCountRead p => Sys2Proof.Machine.execTickCountRead p s
  | .learnerClearMemory p l => Sys2Proof.Machine.execLearnerClearMemory p l s
  | .kelsisStepStart c => Sys2Proof.Machine.execKelsisStepStart c s
  | .kelsisStepEnd c => Sys2Proof.Machine.execKelsisStepEnd c s
  | .stepDeadline c => Sys2Proof.Machine.execStepDeadline c s
  | .columnReinitialise p c => Sys2Proof.Machine.execColumnReinitialise p c s
  | .tableBuildStart g => Sys2Proof.Machine.execTableBuildStart g s
  | .tableBuildDone => Sys2Proof.Machine.execTableBuildDone s
  | .tableRebuild p => Sys2Proof.Machine.execTableRebuild p s
  | .loadFromFile p g e => Sys2Proof.Machine.execLoadFromFile p g e s
  | .labValueSubmit p c v => Sys2Proof.Machine.execLabValueSubmit p c v s
  | .mapSnapshot p => Sys2Proof.Machine.execMapSnapshot p s
  | .mapCellRead p => Sys2Proof.Machine.execMapCellRead p s
  | .sheddingEvaluation => Sys2Proof.Machine.execSheddingEvaluation s
  | .predictionUpdateStart c => Sys2Proof.Machine.execPredictionUpdateStart c s
  | .predictionUpdateDone c => Sys2Proof.Machine.execPredictionUpdateDone c s
  | .enterFeedback p c => Sys2Proof.Machine.execEnterFeedback p c s
  | .returnToPredictive p c => Sys2Proof.Machine.execReturn p c s
  | .kelsisCountersClear p => Sys2Proof.Machine.execKelsisCountersClear p s
  | .columnStatisticsClear p c => Sys2Proof.Machine.execColumnStatisticsClear p c s
  | .predictiveCountersClear p => Sys2Proof.Machine.execPredictiveCountersClear p s
  | .actuatorCommandOff p a => Sys2Proof.Machine.execActuatorCommandOff p a s
  | .actuatorCommandOn p a => Sys2Proof.Machine.execActuatorCommandOn p a s
  | .actuatorCommandPulse p a => Sys2Proof.Machine.execActuatorCommandPulse p a s
  | .activationStart a => Sys2Proof.Machine.execActivationStart a s
  | .peakReached a us samples => Sys2Proof.Machine.execPeakReached a us samples s
  | .peakTimeMaximum a => Sys2Proof.Machine.execPeakTimeMaximum a s
  | .dwellEnd a => Sys2Proof.Machine.execDwellEnd a s
  | .deferralTimeout a => Sys2Proof.Machine.execDeferralTimeout a s
  | .pulseEnd a => Sys2Proof.Machine.execPulseEnd a s
  | .maximumOnTime a => Sys2Proof.Machine.execMaximumOnTime a s
  | .decayComplete a us => Sys2Proof.Machine.execDecayComplete a us s
  | .movementWindowEnd a => Sys2Proof.Machine.execMovementWindowEnd a s
  | .proportionalSetpointApply a => Sys2Proof.Machine.execProportionalSetpointApply a s
  | .dutyUpdate => Sys2Proof.Machine.execDutyUpdate s
  | .p2CurrentLimitEvaluation mean => Sys2Proof.Machine.execP2CurrentLimitEvaluation mean s
  | .permitLost which => Sys2Proof.Machine.execPermitLost which s
  | .permitRestored which => Sys2Proof.Machine.execPermitRestored which s
  | .hsOvercurrent h => Sys2Proof.Machine.execHsOvercurrent h s
  | .commonShort h => Sys2Proof.Machine.execCommonShort h s
  | .stuckOn h => Sys2Proof.Machine.execStuckOn h s
  | .hsOvertemp h => Sys2Proof.Machine.execHsOvertemp h s
  | .lsOvercurrent a => Sys2Proof.Machine.execLsOvercurrent a s
  | .lsStuck a => Sys2Proof.Machine.execLsStuck a s
  | .openLoad a => Sys2Proof.Machine.execOpenLoad a s
  | .actuatorFaultReset p a => Sys2Proof.Machine.execActuatorFaultReset p a s
  | .switchFaultReset p h => Sys2Proof.Machine.execSwitchFaultReset p h s
  | .actuatorStatisticsClear p a => Sys2Proof.Machine.execActuatorStatisticsClear p a s
  | .switchStatisticsClear p h => Sys2Proof.Machine.execSwitchStatisticsClear p h s
  | .startTimeout d => Sys2Proof.Machine.execStartTimeout d s
  | .retryBackoffEnd d => Sys2Proof.Machine.execRetryBackoffEnd d s
  | .tachPulse d period => Sys2Proof.Machine.execTachPulse d period s
  | .tachLoss d => Sys2Proof.Machine.execTachLoss d s
  | .driveFaultReset p d => Sys2Proof.Machine.execDriveFaultReset p d s
  | .sensorSupplyOvercurrent d mA => Sys2Proof.Machine.execSensorSupplyOvercurrent d mA s
  | .driveStatisticsClear p d => Sys2Proof.Machine.execDriveStatisticsClear p d s
  | .currentOutputLoopFault k mA => Sys2Proof.Machine.execCurrentOutputLoopFault k mA s
  | .currentOutputStatisticsClear p k => Sys2Proof.Machine.execCurrentOutputStatisticsClear p k s
  | .pulseEdge p8 high period => Sys2Proof.Machine.execPulseEdge p8 high period s
  | .frequencyGateEnd p8 => Sys2Proof.Machine.execFrequencyGateEnd p8 s
  | .pulseZeroTime p8 => Sys2Proof.Machine.execPulseZeroTime p8 s
  | .countReset p p8 => Sys2Proof.Machine.execCountReset p p8 s
  | .setpointInputFault n => Sys2Proof.Machine.execSetpointInputFault n s
  | .add c d a b => Sys2Proof.Machine.execAdd c d a b s
  | .sub c d a b => Sys2Proof.Machine.execSub c d a b s
  | .and c d a b => Sys2Proof.Machine.execAnd c d a b s
  | .or c d a b => Sys2Proof.Machine.execOr c d a b s
  | .xor c d a b => Sys2Proof.Machine.execXor c d a b s
  | .shl c d a b => Sys2Proof.Machine.execShl c d a b s
  | .shr c d a b => Sys2Proof.Machine.execShr c d a b s
  | .sar c d a b => Sys2Proof.Machine.execSar c d a b s
  | .slt c d a b => Sys2Proof.Machine.execSlt c d a b s
  | .sltu c d a b => Sys2Proof.Machine.execSltu c d a b s
  | .mul c d a b => Sys2Proof.Machine.execMul c d a b s
  | .mulhs c d a b => Sys2Proof.Machine.execMulhs c d a b s
  | .mulhu c d a b => Sys2Proof.Machine.execMulhu c d a b s
  | .div c d a b => Sys2Proof.Machine.execDiv c d a b s
  | .divu c d a b => Sys2Proof.Machine.execDivu c d a b s
  | .rem c d a b => Sys2Proof.Machine.execRem c d a b s
  | .remu c d a b => Sys2Proof.Machine.execRemu c d a b s
  | .min c d a b => Sys2Proof.Machine.execMin c d a b s
  | .max c d a b => Sys2Proof.Machine.execMax c d a b s
  | .qmul c d a b => Sys2Proof.Machine.execQmul c d a b s
  | .qadd c d a b => Sys2Proof.Machine.execQadd c d a b s
  | .qsub c d a b => Sys2Proof.Machine.execQsub c d a b s
  | .addi c d a imm => Sys2Proof.Machine.execAddi c d a imm s
  | .andi c d a imm => Sys2Proof.Machine.execAndi c d a imm s
  | .ori c d a imm => Sys2Proof.Machine.execOri c d a imm s
  | .xori c d a imm => Sys2Proof.Machine.execXori c d a imm s
  | .shli c d a imm => Sys2Proof.Machine.execShli c d a imm s
  | .shri c d a imm => Sys2Proof.Machine.execShri c d a imm s
  | .sari c d a imm => Sys2Proof.Machine.execSari c d a imm s
  | .slti c d a imm => Sys2Proof.Machine.execSlti c d a imm s
  | .sltiu c d a imm => Sys2Proof.Machine.execSltiu c d a imm s
  | .lui c d a imm => Sys2Proof.Machine.execLui c d a imm s
  | .ldw c d a imm ecc => Sys2Proof.Machine.execLdw c d a imm ecc s
  | .ldh c d a imm ecc => Sys2Proof.Machine.execLdh c d a imm ecc s
  | .ldhu c d a imm ecc => Sys2Proof.Machine.execLdhu c d a imm ecc s
  | .ldb c d a imm ecc => Sys2Proof.Machine.execLdb c d a imm ecc s
  | .ldbu c d a imm ecc => Sys2Proof.Machine.execLdbu c d a imm ecc s
  | .stw c d a imm => Sys2Proof.Machine.execStw c d a imm s
  | .sth c d a imm => Sys2Proof.Machine.execSth c d a imm s
  | .stb c d a imm => Sys2Proof.Machine.execStb c d a imm s
  | .xchg c d a imm ecc => Sys2Proof.Machine.execXchg c d a imm ecc s
  | .beq c a b imm => Sys2Proof.Machine.execBeq c a b imm s
  | .bne c a b imm => Sys2Proof.Machine.execBne c a b imm s
  | .blt c a b imm => Sys2Proof.Machine.execBlt c a b imm s
  | .bge c a b imm => Sys2Proof.Machine.execBge c a b imm s
  | .bltu c a b imm => Sys2Proof.Machine.execBltu c a b imm s
  | .bgeu c a b imm => Sys2Proof.Machine.execBgeu c a b imm s
  | .jl c d imm => Sys2Proof.Machine.execJl c d imm s
  | .jlr c d a imm => Sys2Proof.Machine.execJlr c d a imm s
  | .srd c d imm => Sys2Proof.Machine.execSrd c d imm s
  | .swr c a imm => Sys2Proof.Machine.execSwr c a imm s
  | .wait c d a imm => Sys2Proof.Machine.execWait c d a imm s
  | .waitEnd c waited => Sys2Proof.Machine.execWaitEnd c waited s
  | .waitTimeout c => Sys2Proof.Machine.execWaitTimeout c s
  | .signal c imm => Sys2Proof.Machine.execSignal c imm s
  | .brk c imm => Sys2Proof.Machine.execBrk c imm s
  | .eret c => Sys2Proof.Machine.execEret c s
  | .fence c => Sys2Proof.Machine.execFence c s
  | .interruptEntry c => Sys2Proof.Machine.execInterruptEntry c s
  | .svcExit c => Sys2Proof.Machine.execSvcExit c s
  | .svcEventReturn c => Sys2Proof.Machine.execSvcEventReturn c s
  | .svcLog c => Sys2Proof.Machine.execSvcLog c s
  | .svcDomRead c => Sys2Proof.Machine.execSvcDomRead c s
  | .svcDomWrite c => Sys2Proof.Machine.execSvcDomWrite c s
  | .svcSetLevels c => Sys2Proof.Machine.execSvcSetLevels c s
  | .svcUnlisted c num => Sys2Proof.Machine.execSvcUnlisted c num s
  | .programStart p c intact => Sys2Proof.Machine.execProgramStart p c intact s
  | .programStop p c => Sys2Proof.Machine.execProgramStop p c s
  | .programRestart p c intact => Sys2Proof.Machine.execProgramRestart p c intact s
  | .programImageWrite p c data => Sys2Proof.Machine.execProgramImageWrite p c data s
  | .eraseSlot p slot => Sys2Proof.Machine.execEraseSlot p slot s
  | .firmwareImageWrite p data done => Sys2Proof.Machine.execFirmwareImageWrite p data done s
  | .configurationImageWrite p data => Sys2Proof.Machine.execConfigurationImageWrite p data s
  | .coreStatisticsClear p c => Sys2Proof.Machine.execCoreStatisticsClear p c s
  | .debugUnlock => Sys2Proof.Machine.execDebugUnlock s
  | .routeChange p n v => Sys2Proof.Machine.execRouteChange p n v s
  | .srcPendClear c n mask => Sys2Proof.Machine.execSrcPendClear c n mask s
  | .timerRun c t periodic => Sys2Proof.Machine.execTimerRun c t periodic s
  | .timerStop c t => Sys2Proof.Machine.execTimerStop c t s
  | .timerExpiry c t => Sys2Proof.Machine.execTimerExpiry c t s
  | .eventRouterCountersClear p => Sys2Proof.Machine.execEventRouterCountersClear p s
  | .counterOverflow c j => Sys2Proof.Machine.execCounterOverflow c j s
  | .pmovfClear c mask => Sys2Proof.Machine.execPmovfClear c mask s
  | .cycleLoRead c => Sys2Proof.Machine.execCycleLoRead c s
  | .sampleIntervalEnd c => Sys2Proof.Machine.execSampleIntervalEnd c s
  | .sampleRecordReady c => Sys2Proof.Machine.execSampleRecordReady c s
  | .sampleRecordLock c => Sys2Proof.Machine.execSampleRecordLock c s
  | .sampleRecordRelease c => Sys2Proof.Machine.execSampleRecordRelease c s
  | .performanceCountersClear p c => Sys2Proof.Machine.execPerformanceCountersClear p c s
  | .canControllerRestart b => Sys2Proof.Machine.execCanControllerRestart b s
  | .busIntegrated b => Sys2Proof.Machine.execBusIntegrated b s
  | .transmitPortWrite p b data => Sys2Proof.Machine.execTransmitPortWrite p b data s
  | .transmitCancel p b tag headSof urgentSof => Sys2Proof.Machine.execTransmitCancel p b tag headSof urgentSof s
  | .notBeforeReached b => Sys2Proof.Machine.execNotBeforeReached b s
  | .frameTransmitted b t delay => Sys2Proof.Machine.execFrameTransmitted b t delay s
  | .arbitrationLost b => Sys2Proof.Machine.execArbitrationLost b s
  | .frameError b kind c => Sys2Proof.Machine.execFrameError b kind c s
  | .busOffRecovered b => Sys2Proof.Machine.execBusOffRecovered b s
  | .busOffRecover p b => Sys2Proof.Machine.execBusOffRecover p b s
  | .completionRead p b => Sys2Proof.Machine.execCompletionRead p b s
  | .frameReceived b f t => Sys2Proof.Machine.execFrameReceived b f t s
  | .fifoRead p b => Sys2Proof.Machine.execFifoRead p b s
  | .objectStatusClear p b k v => Sys2Proof.Machine.execObjectStatusClear p b k v s
  | .timeReferenceDue => Sys2Proof.Machine.execTimeReferenceDue s
  | .canStatisticsClear p b => Sys2Proof.Machine.execCanStatisticsClear p b s
  | .sdoInitiateDownload d => Sys2Proof.Machine.execSdoInitiateDownload d s
  | .sdoDownloadSegment d => Sys2Proof.Machine.execSdoDownloadSegment d s
  | .sdoInitiateUpload d => Sys2Proof.Machine.execSdoInitiateUpload d s
  | .sdoUploadSegment d => Sys2Proof.Machine.execSdoUploadSegment d s
  | .sdoBlockDownload d => Sys2Proof.Machine.execSdoBlockDownload d s
  | .sdoBlockUpload d => Sys2Proof.Machine.execSdoBlockUpload d s
  | .sdoAbort d => Sys2Proof.Machine.execSdoAbort d s
  | .rpdoReceived k data => Sys2Proof.Machine.execRpdoReceived k data s
  | .tpdoTransmit k inhibitEnd => Sys2Proof.Machine.execTpdoTransmit k inhibitEnd s
  | .syncReceived counter => Sys2Proof.Machine.execSyncReceived counter s
  | .heartbeatProduce => Sys2Proof.Machine.execHeartbeatProduce s
  | .heartbeatConsumerTimeout n => Sys2Proof.Machine.execHeartbeatConsumerTimeout n s
  | .helloSend => Sys2Proof.Machine.execHelloSend s
  | .helloReceived m h => Sys2Proof.Machine.execHelloReceived m h s
  | .adjacencyTimeout port => Sys2Proof.Machine.execAdjacencyTimeout port s
  | .phyLinkLoss port => Sys2Proof.Machine.execPhyLinkLoss port s
  | .linkStateReceived m l => Sys2Proof.Machine.execLinkStateReceived m l s
  | .linkStateRefresh => Sys2Proof.Machine.execLinkStateRefresh s
  | .election g => Sys2Proof.Machine.execElection g s
  | .headAnnounce => Sys2Proof.Machine.execHeadAnnounce s
  | .headReceived m h => Sys2Proof.Machine.execHeadReceived m h s
  | .seatReceived m uid addr => Sys2Proof.Machine.execSeatReceived m uid addr s
  | .seatAcknowledgeReceived m uid addr => Sys2Proof.Machine.execSeatAcknowledgeReceived m uid addr s
  | .statusSend => Sys2Proof.Machine.execStatusSend s
  | .statusReceived m st => Sys2Proof.Machine.execStatusReceived m st s
  | .memberAbsent g seat => Sys2Proof.Machine.execMemberAbsent g seat s
  | .bankingReceived m wake => Sys2Proof.Machine.execBankingReceived m wake s
  | .bankingAnswerReceived m accept maximum => Sys2Proof.Machine.execBankingAnswerReceived m accept maximum s
  | .bankingAnswerTimeout => Sys2Proof.Machine.execBankingAnswerTimeout s
  | .awakeReceived m => Sys2Proof.Machine.execAwakeReceived m s
  | .wakeTimeOverdue g seat => Sys2Proof.Machine.execWakeTimeOverdue g seat s
  | .sitePlanWrite p data => Sys2Proof.Machine.execSitePlanWrite p data s
  | .planReceived m group bytes => Sys2Proof.Machine.execPlanReceived m group bytes s
  | .dictReqReceived m r => Sys2Proof.Machine.execDictReqReceived m r s
  | .dictRspReceived m r => Sys2Proof.Machine.execDictRspReceived m r s
  | .domSegReceived m d => Sys2Proof.Machine.execDomSegReceived m d s
  | .boundaryReceived m b => Sys2Proof.Machine.execBoundaryReceived m b s
  | .logFrameReceived m r => Sys2Proof.Machine.execLogFrameReceived m r s
  | .mapReceived m channels => Sys2Proof.Machine.execMapReceived m channels s
  | .frameForward m body => Sys2Proof.Machine.execFrameForward m body s
  | .fanOutWrite p e v => Sys2Proof.Machine.execFanOutWrite p e v s
  | .fanOutAnswerTimeout e seat => Sys2Proof.Machine.execFanOutAnswerTimeout e seat s
  | .gptpSyncReceived port offset gm => Sys2Proof.Machine.execGptpSyncReceived port offset gm s
  | .peerDelayMeasure port => Sys2Proof.Machine.execPeerDelayMeasure port s
  | .syncMissed => Sys2Proof.Machine.execSyncMissed s
  | .holdoverTimeout => Sys2Proof.Machine.execHoldoverTimeout s
  | .siteKeyWrite p data => Sys2Proof.Machine.execSiteKeyWrite p data s
  | .flueTimeRead p => Sys2Proof.Machine.execFlueTimeRead p s
  | .flueNodeStatisticsClear p => Sys2Proof.Machine.execFlueNodeStatisticsClear p s
  | .portStatisticsClear p port => Sys2Proof.Machine.execPortStatisticsClear p port s
  | .timeStatisticsClear p => Sys2Proof.Machine.execTimeStatisticsClear p s
  | .cowlCompute p data => Sys2Proof.Machine.execCowlCompute p data s
  | .cowlContextTimeout u n => Sys2Proof.Machine.execCowlContextTimeout u n s
  | .cowlUnitStart u => Sys2Proof.Machine.execCowlUnitStart u s
  | .cowlUnitData u data => Sys2Proof.Machine.execCowlUnitData u data s
  | .ashRecordWrite result => Sys2Proof.Machine.execAshRecordWrite result s
  | .ashClear p value => Sys2Proof.Machine.execAshClear p value s
  | .ashClearDone result => Sys2Proof.Machine.execAshClearDone result s
  | .ashRecordLatch p => Sys2Proof.Machine.execAshRecordLatch p s
  | .ashCursorAdvance p => Sys2Proof.Machine.execAshCursorAdvance p s
  | .thermalSchedule => Sys2Proof.Machine.execThermalSchedule s
  | .thermalRead p n => Sys2Proof.Machine.execThermalRead p n s
  | .thermalConversionEnd r => Sys2Proof.Machine.execThermalConversionEnd r s
  | .bankEnable p bank => Sys2Proof.Machine.execBankEnable p bank s
  | .thermalRestart p => Sys2Proof.Machine.execThermalRestart p s
  | .thermalStatisticsClear p => Sys2Proof.Machine.execThermalStatisticsClear p s
  | .phyLinkUp port => Sys2Proof.Machine.execPhyLinkUp port s
  | .gptpSyncSend => Sys2Proof.Machine.execGptpSyncSend s
  | .peerDelayFrameReceived port delay => Sys2Proof.Machine.execPeerDelayFrameReceived port delay s
  | .setpointInputUpdate n raw => Sys2Proof.Machine.execSetpointInputUpdate n raw s
  | .emcyInhibitEnd => Sys2Proof.Machine.execEmcyInhibitEnd s

end Sys2Proof.Machine
end

