-- ==== Sys2Proof/Machine/Words.lean ====
section
/-! DEFINITION. The instruction a Valrek word spells (R446, R447). The rows of the table carry decoded operands, so no row brings a word;
what a core does that meets one is `runWord`. -/

namespace Sys2Proof.Machine

open Sys2Proof

/-- The register field whose lowest bit is `lo`. -/
def regField (w : Word) (lo : Nat) : Fin 16 := Fin.ofNat 16 (field w.toNat (lo + 3) lo)

/-- An instruction whose fields in `mask` must be 0; a field that its row of R447 does not use is such a reserved field (DEDUCED, log 201). -/
def whenClear (w mask : Word) (i : Instr) : Option Instr := if w &&& mask = 0 then some i else none

/-- Format T with opcode 0, by fn. -/
def instrT (c : Fin 4) (w : Word) : Option Instr :=
  let d := regField w 22
  let a := regField w 18
  let b := regField w 14
  match field w.toNat 13 0 with
  | 0 => some (.add c d a b)   | 1 => some (.sub c d a b)    | 2 => some (.and c d a b)    | 3 => some (.or c d a b)
  | 4 => some (.xor c d a b)   | 5 => some (.shl c d a b)    | 6 => some (.shr c d a b)    | 7 => some (.sar c d a b)
  | 8 => some (.slt c d a b)   | 9 => some (.sltu c d a b)   | 10 => some (.mul c d a b)   | 11 => some (.mulhs c d a b)
  | 12 => some (.mulhu c d a b) | 13 => some (.div c d a b)  | 14 => some (.divu c d a b)  | 15 => some (.rem c d a b)
  | 16 => some (.remu c d a b) | 17 => some (.min c d a b)   | 18 => some (.max c d a b)   | 19 => some (.qmul c d a b)
  | 20 => some (.qadd c d a b) | 21 => some (.qsub c d a b)
  | _ => none

/-- The row of a supervisor call (R454). -/
def svcInstr (c : Fin 4) (num : BitVec 12) : Instr :=
  match num.toNat with
  | 0 => .svcExit c
  | 1 => .svcEventReturn c
  | 2 => .svcLog c
  | 3 => .svcDomRead c
  | 4 => .svcDomWrite c
  | 5 => .svcSetLevels c
  | _ => .svcUnlisted c num

/-- The instruction of a word on core `c`, none for an opcode or fn that R447 does not list and for a reserved field that is not 0; `ecc` is
what a load of it finds in shared SRAM. -/
def instrOf (c : Fin 4) (ecc : Fin 3) (w : Word) : Option Instr :=
  let d := regField w 22
  let a := regField w 18
  let imm := w.setWidth 18
  match field w.toNat 31 26 with
  | 0x00 => instrT c w
  | 0x01 => some (.addi c d a imm)
  | 0x02 => some (.andi c d a imm)
  | 0x03 => some (.ori c d a imm)
  | 0x04 => some (.xori c d a imm)
  | 0x05 => whenClear w 0x0003FFE0 (.shli c d a imm)
  | 0x06 => whenClear w 0x0003FFE0 (.shri c d a imm)
  | 0x07 => whenClear w 0x0003FFE0 (.sari c d a imm)
  | 0x08 => some (.slti c d a imm)
  | 0x09 => some (.sltiu c d a imm)
  | 0x0A => whenClear w 0x003C0000 (.lui c d a imm)
  | 0x10 => some (.ldw c d a imm ecc)
  | 0x11 => some (.ldh c d a imm ecc)
  | 0x12 => some (.ldhu c d a imm ecc)
  | 0x13 => some (.ldb c d a imm ecc)
  | 0x14 => some (.ldbu c d a imm ecc)
  | 0x18 => some (.stw c d a imm)
  | 0x19 => some (.sth c d a imm)
  | 0x1A => some (.stb c d a imm)
  | 0x1C => some (.xchg c d a imm ecc)
  | 0x20 => some (.beq c d a imm)
  | 0x21 => some (.bne c d a imm)
  | 0x22 => some (.blt c d a imm)
  | 0x23 => some (.bge c d a imm)
  | 0x24 => some (.bltu c d a imm)
  | 0x25 => some (.bgeu c d a imm)
  | 0x28 => some (.jl c d (w.setWidth 22))
  | 0x29 => some (.jlr c d a imm)
  | 0x30 => whenClear w 0x003FF000 (.srd c d imm)
  | 0x31 => whenClear w 0x03C3F000 (.swr c a imm)
  | 0x32 => some (.wait c d a imm)
  | 0x33 => whenClear w 0x03FFFFFC (.signal c imm)
  | 0x34 => whenClear w 0x03FFF000 (svcInstr c (w.setWidth 12))
  | 0x35 => whenClear w 0x03FC0000 (.brk c imm)
  | 0x36 => whenClear w 0x03FFFFFF (.eret c)
  | 0x37 => whenClear w 0x03FFFFFF (.fence c)
  | _ => none

/-- A core runs the word at its PC: the instruction that it spells, or the exception ILLEGAL (R447, R453). -/
def runWord (c : Fin 4) (ecc : Fin 3) (w : Word) (s : State) : Host.Outcome State Fault Refusal :=
  match instrOf c ecc w with
  | some i => exec i s
  | none => .next (s.insn c w [] 0 (fun s _ => .trap s (trapIllegal w)))

end Sys2Proof.Machine
end

