-- ==== Sys2Proof/WellFormed.lean ====
section
/-! DEFINITION. What a sender can send: a path's address, a value within its subindex's width, an item that exists, a frame or a
message of a length its format admits. The meanings are total and do not rest on it. -/

namespace Sys2Proof

/-- A path's address: a Flue client's source address (R118), 0 or 1 for the two servers of CAN A (R510), else 0. -/
def pathWf (p : Path) : Bool :=
  match p.writer with
  | .flue => decide (p.addr < 2 ^ 32)
  | .canA => decide (p.addr ≤ 1)
  | _ => p.addr == 0

/-- What a tick meets: words of the coefficient memory (R256), sixteen-bit measured values, the causes of 30 items (R396). -/
def TickInput.wf (i : TickInput) : Bool :=
  i.eccRead.all (fun e => decide (e.2 < 2048)) && i.eccScrub.all (fun w => decide (w < 2048))
    && i.measured.all (fun e => decide (0 ≤ e.2 ∧ e.2 < 65536)) && i.causes.all (fun e => decide (e.1 < 30))

/-- A CAN frame: DLC 0-15, no data in a remote frame, at most 64 bytes (R492). -/
def CanFrame.wf (f : CanFrame) : Bool :=
  decide (f.id < 2 ^ 32) && decide (f.dlc ≤ 15) && decide (f.data.length ≤ 64) && (!f.remote || f.data.isEmpty)

/-- A Flue frame's EtherType (R521) and its header's fields (R525). -/
def FlueMsg.wf (m : FlueMsg) : Bool :=
  decide (m.ether < 2 ^ 16) && decide (m.head.version < 256) && decide (m.head.ftype < 256) && decide (m.head.fclass < 256)
    && decide (m.head.length < 2 ^ 16) && decide (m.head.octets ≤ 1500) && decide (m.hop < 256) && decide (m.dst < 2 ^ 32) && decide (m.src < 2 ^ 32) && decide (m.seq < 2 ^ 32) && decide (m.alive < 16)

/-- A STATUS's fields (R543). -/
def StatusInfo.wf (st : StatusInfo) : Bool := decide (st.alarm < 2 ^ 16) && decide (st.channels.length ≤ 55)

/-- A DICT_REQ's fields (R541). -/
def DictReq.wf (r : DictReq) : Bool :=
  decide (r.tid < 2 ^ 16) && decide (r.index < 2 ^ 16) && decide (r.sub < 2 ^ 8) && decide (r.data.length ≤ 448)

/-- A boundary message (R318): 1 to 16 cells. -/
def Boundary.wf (b : Boundary) : Bool := decide (b.width ≤ 16) && decide (b.values.length ≤ b.width)

/-- The command is one that a sender can send. -/
def Instr.wf : Instr → Bool
  | .pllLockLoss => true
  | .p1BrownOut => true
  | .p1BrownOutAsleep _ => true
  | .p1LowSet => true
  | .p1LowClear => true
  | .p2Loss => true
  | .p2Restored => true
  | .cellCheck _ => true
  | .crystalStopped => true
  | .operatingTimeSave => true
  | .powerStateEvaluation => true
  | .sleepEntryCommit => true
  | .rtcAlarm _ => true
  | .wakeInput _ => true
  | .canWake _ frame _ => frame.all CanFrame.wf
  | .wakeFromBanked => true
  | .contactTimeReached _ => true
  | .contactWindowEnd => true
  | .usbVbusChange _ => true
  | .sleepRefusalHoldEnd => true
  | .powerStatisticsClear p => pathWf p
  | .supplyCountersClear p => pathWf p
  | .coldStart _ => true
  | .warmBoot _ => true
  | .confirm p => pathWf p
  | .confirmationDeadline => true
  | .watchdogReset => true
  | .hotStartRecheck _ => true
  | .kindlingExit p => pathWf p
  | .kindlingTrial p => pathWf p
  | .automaticTrial => true
  | .arm p => pathWf p
  | .start p => pathWf p
  | .halt p => pathWf p
  | .stop p => pathWf p
  | .resetFault p => pathWf p
  | .nmtStartRemoteNode _ => true
  | .nmtStopRemoteNode _ => true
  | .nmtEnterPreOperational _ => true
  | .nmtResetNode _ => true
  | .nmtResetCommunication _ => true
  | .dictWrite p _ _ _ => pathWf p
  | .servicePortRequest _ _ _ => true
  | .levelRequest p code => pathWf p && decide (code < 2 ^ 32)
  | .passcodeLockEnd p => pathWf p
  | .levelIdleTimeout p => pathWf p
  | .vendorChallenge p => pathWf p
  | .vendorResponse p _ => pathWf p
  | .servicePasscodeWrite p code => pathWf p && decide (code < 2 ^ 32)
  | .storeParameters p _ value => pathWf p && decide (value < 2 ^ 32)
  | .storeDone => true
  | .restoreDefaults p _ value => pathWf p && decide (value < 2 ^ 32)
  | .restoreDone => true
  | .checkValueRecompute => true
  | .heartbeat p _ => pathWf p
  | .hostPathsWrite p _ => pathWf p
  | .hostWatchdogExpiry => true
  | .hostAcknowledge p => pathWf p
  | .overlayEntryListWrite p _ data => pathWf p && (data.length % 8 == 0 && decide (data.length ≤ 2048))
  | .modeSwitchRequest p _ => pathWf p
  | .modeSwitchSwap => true
  | .scanDue _ _ => true
  | .leadCheckEnd _ _ => true
  | .conversionStart _ => true
  | .conversionEnd _ _ _ => true
  | .resultPublish _ => true
  | .txsupReady _ _ => true
  | .frontEndReady _ => true
  | .convertNow p _ _ => pathWf p
  | .referenceCheck p _ _ => pathWf p
  | .referenceCheckEnd _ _ _ => true
  | .blankInputChange _ _ _ => true
  | .blankMaxDuration _ _ => true
  | .coreCountersClear p _ => pathWf p
  | .channelStatisticsClear p _ => pathWf p
  | .bellowsTick i => i.wf
  | .eccWordRewrite word => decide (word < 2048)
  | .loopFaultReset p _ => pathWf p
  | .holdRequestSet p _ => pathWf p
  | .holdRequestClear p _ => pathWf p
  | .loopModeManual p _ => pathWf p
  | .loopModeAuto p _ => pathWf p
  | .loopModeCascade p _ => pathWf p
  | .loopModePredictive p _ => pathWf p
  | .traceArm p => pathWf p
  | .traceTrigger p => pathWf p
  | .traceStop p => pathWf p
  | .loopStatisticsClear p _ => pathWf p
  | .bellowsCountersClear p => pathWf p
  | .tickCountRead p => pathWf p
  | .learnerClearMemory p _ => pathWf p
  | .kelsisStepStart _ => true
  | .kelsisStepEnd _ => true
  | .stepDeadline _ => true
  | .columnReinitialise p _ => pathWf p
  | .tableBuildStart _ => true
  | .tableBuildDone => true
  | .tableRebuild p => pathWf p
  | .loadFromFile p _ e => pathWf p && decide (e < 256)
  | .labValueSubmit p _ _ => pathWf p
  | .mapSnapshot p => pathWf p
  | .mapCellRead p => pathWf p
  | .sheddingEvaluation => true
  | .predictionUpdateStart _ => true
  | .predictionUpdateDone _ => true
  | .enterFeedback p _ => pathWf p
  | .returnToPredictive p _ => pathWf p
  | .kelsisCountersClear p => pathWf p
  | .columnStatisticsClear p _ => pathWf p
  | .predictiveCountersClear p => pathWf p
  | .actuatorCommandOff p _ => pathWf p
  | .actuatorCommandOn p _ => pathWf p
  | .actuatorCommandPulse p _ => pathWf p
  | .activationStart _ => true
  | .peakReached _ _ _ => true
  | .peakTimeMaximum _ => true
  | .dwellEnd _ => true
  | .deferralTimeout _ => true
  | .pulseEnd _ => true
  | .maximumOnTime _ => true
  | .decayComplete _ _ => true
  | .movementWindowEnd _ => true
  | .proportionalSetpointApply _ => true
  | .dutyUpdate => true
  | .p2CurrentLimitEvaluation _ => true
  | .permitLost _ => true
  | .permitRestored _ => true
  | .hsOvercurrent _ => true
  | .commonShort _ => true
  | .stuckOn _ => true
  | .hsOvertemp _ => true
  | .lsOvercurrent _ => true
  | .lsStuck _ => true
  | .openLoad _ => true
  | .actuatorFaultReset p _ => pathWf p
  | .switchFaultReset p _ => pathWf p
  | .actuatorStatisticsClear p _ => pathWf p
  | .switchStatisticsClear p _ => pathWf p
  | .startTimeout _ => true
  | .retryBackoffEnd _ => true
  | .tachPulse _ period => period.all (fun x => decide (0 < x))
  | .tachLoss _ => true
  | .driveFaultReset p _ => pathWf p
  | .sensorSupplyOvercurrent _ _ => true
  | .driveStatisticsClear p _ => pathWf p
  | .currentOutputLoopFault _ _ => true
  | .currentOutputStatisticsClear p _ => pathWf p
  | .pulseEdge _ _ period => period.all (fun x => decide (0 < x))
  | .frequencyGateEnd _ => true
  | .pulseZeroTime _ => true
  | .countReset p _ => pathWf p
  | .setpointInputFault _ => true
  | .add _ _ _ _ => true
  | .sub _ _ _ _ => true
  | .and _ _ _ _ => true
  | .or _ _ _ _ => true
  | .xor _ _ _ _ => true
  | .shl _ _ _ _ => true
  | .shr _ _ _ _ => true
  | .sar _ _ _ _ => true
  | .slt _ _ _ _ => true
  | .sltu _ _ _ _ => true
  | .mul _ _ _ _ => true
  | .mulhs _ _ _ _ => true
  | .mulhu _ _ _ _ => true
  | .div _ _ _ _ => true
  | .divu _ _ _ _ => true
  | .rem _ _ _ _ => true
  | .remu _ _ _ _ => true
  | .min _ _ _ _ => true
  | .max _ _ _ _ => true
  | .qmul _ _ _ _ => true
  | .qadd _ _ _ _ => true
  | .qsub _ _ _ _ => true
  | .addi _ _ _ _ => true
  | .andi _ _ _ _ => true
  | .ori _ _ _ _ => true
  | .xori _ _ _ _ => true
  | .shli _ _ _ _ => true
  | .shri _ _ _ _ => true
  | .sari _ _ _ _ => true
  | .slti _ _ _ _ => true
  | .sltiu _ _ _ _ => true
  | .lui _ _ _ _ => true
  | .ldw _ _ _ _ _ => true
  | .ldh _ _ _ _ _ => true
  | .ldhu _ _ _ _ _ => true
  | .ldb _ _ _ _ _ => true
  | .ldbu _ _ _ _ _ => true
  | .stw _ _ _ _ => true
  | .sth _ _ _ _ => true
  | .stb _ _ _ _ => true
  | .xchg _ _ _ _ _ => true
  | .beq _ _ _ _ => true
  | .bne _ _ _ _ => true
  | .blt _ _ _ _ => true
  | .bge _ _ _ _ => true
  | .bltu _ _ _ _ => true
  | .bgeu _ _ _ _ => true
  | .jl _ _ _ => true
  | .jlr _ _ _ _ => true
  | .srd _ _ _ => true
  | .swr _ _ _ => true
  | .wait _ _ _ _ => true
  | .waitEnd _ _ => true
  | .waitTimeout _ => true
  | .signal _ _ => true
  | .brk _ _ => true
  | .eret _ => true
  | .fence _ => true
  | .interruptEntry _ => true
  | .svcExit _ => true
  | .svcEventReturn _ => true
  | .svcLog _ => true
  | .svcDomRead _ => true
  | .svcDomWrite _ => true
  | .svcSetLevels _ => true
  | .svcUnlisted _ num => decide (6 ≤ num.toNat)
  | .programStart p c _ => pathWf p && c != 0
  | .programStop p c => pathWf p && c != 0
  | .programRestart p c _ => pathWf p && c != 0
  | .programImageWrite p c _ => pathWf p && c != 0
  | .eraseSlot p slot => pathWf p && decide (1 ≤ slot ∧ slot ≤ 3)
  | .firmwareImageWrite p _ _ => pathWf p
  | .configurationImageWrite p _ => pathWf p
  | .coreStatisticsClear p _ => pathWf p
  | .debugUnlock => true
  | .routeChange p _ _ => pathWf p
  | .srcPendClear _ _ _ => true
  | .timerRun _ _ _ => true
  | .timerStop _ _ => true
  | .timerExpiry _ _ => true
  | .eventRouterCountersClear p => pathWf p
  | .counterOverflow _ _ => true
  | .pmovfClear _ _ => true
  | .cycleLoRead _ => true
  | .sampleIntervalEnd _ => true
  | .sampleRecordReady _ => true
  | .sampleRecordLock _ => true
  | .sampleRecordRelease _ => true
  | .performanceCountersClear p _ => pathWf p
  | .canControllerRestart _ => true
  | .busIntegrated _ => true
  | .transmitPortWrite p _ _ => pathWf p
  | .transmitCancel p _ tag _ _ => pathWf p && decide (tag < 2 ^ 16)
  | .notBeforeReached _ => true
  | .frameTransmitted _ _ _ => true
  | .arbitrationLost _ => true
  | .frameError _ _ _ => true
  | .busOffRecovered _ => true
  | .busOffRecover p _ => pathWf p
  | .completionRead p _ => pathWf p
  | .frameReceived _ f _ => f.wf
  | .fifoRead p _ => pathWf p
  | .objectStatusClear p _ _ v => pathWf p && decide (v < 2 ^ 16)
  | .timeReferenceDue => true
  | .canStatisticsClear p _ => pathWf p
  | .sdoInitiateDownload d => d.length == 8
  | .sdoDownloadSegment d => d.length == 8
  | .sdoInitiateUpload d => d.length == 8
  | .sdoUploadSegment d => d.length == 8
  | .sdoBlockDownload d => d.length == 8
  | .sdoBlockUpload d => d.length == 8
  | .sdoAbort d => d.length == 8
  | .rpdoReceived _ data => decide (data.length ≤ 8)
  | .tpdoTransmit _ _ => true
  | .syncReceived f => f.wf
  | .heartbeatProduce => true
  | .heartbeatConsumerTimeout _ => true
  | .helloSend => true
  | .helloReceived m _ => m.wf
  | .adjacencyTimeout _ => true
  | .phyLinkLoss _ => true
  | .linkStateReceived m _ => m.wf
  | .linkStateRefresh => true
  | .election g => decide (g < 2 ^ 32)
  | .headAnnounce => true
  | .headReceived m _ => m.wf
  | .seatReceived m uid addr => m.wf && decide (uid < 2 ^ 64) && decide (addr < 2 ^ 32)
  | .seatAcknowledgeReceived m uid addr => m.wf && decide (uid < 2 ^ 64) && decide (addr < 2 ^ 32)
  | .statusSend => true
  | .statusReceived m st => m.wf && st.wf
  | .memberAbsent g _ => decide (g < 2 ^ 32)
  | .bankingReceived m wake => m.wf && decide (wake < 2 ^ 32)
  | .bankingAnswerReceived m _ _ => m.wf
  | .bankingAnswerTimeout => true
  | .awakeReceived m => m.wf
  | .wakeTimeOverdue g _ => decide (g < 2 ^ 32)
  | .sitePlanWrite p _ => pathWf p
  | .planReceived m _ bytes => m.wf && decide (bytes.length ≤ 448)
  | .dictReqReceived m r => m.wf && r.wf
  | .dictRspReceived m r => m.wf && decide (r.data.length ≤ 448)
  | .domSegReceived m d => m.wf && decide (d.data.length ≤ 448)
  | .boundaryReceived m b => m.wf && b.wf
  | .logFrameReceived m _ => m.wf
  | .mapReceived m _ => m.wf
  | .frameForward m _ => m.wf
  | .fanOutWrite p _ _ => pathWf p
  | .fanOutAnswerTimeout _ _ => true
  | .gptpSyncReceived _ _ _ => true
  | .peerDelayMeasure _ => true
  | .syncMissed => true
  | .holdoverTimeout => true
  | .siteKeyWrite p _ => pathWf p
  | .flueTimeRead p => pathWf p
  | .flueNodeStatisticsClear p => pathWf p
  | .portStatisticsClear p _ => pathWf p
  | .timeStatisticsClear p => pathWf p
  | .cowlCompute p _ => pathWf p
  | .cowlContextTimeout _ _ => true
  | .cowlUnitStart _ => true
  | .cowlUnitData _ _ => true
  | .ashRecordWrite _ => true
  | .ashClear p value => pathWf p && decide (value < 2 ^ 16)
  | .ashClearDone _ => true
  | .ashRecordLatch p => pathWf p
  | .ashCursorAdvance p => pathWf p
  | .thermalSchedule => true
  | .thermalRead p _ => pathWf p
  | .thermalConversionEnd _ => true
  | .bankEnable p bank => pathWf p && (bank == 1 || bank == 2)
  | .thermalRestart p => pathWf p
  | .thermalStatisticsClear p => pathWf p
  | .phyLinkUp _ => true
  | .gptpSyncSend => true
  | .peerDelayFrameReceived _ _ => true
  | .setpointInputUpdate _ _ => true
  | .emcyInhibitEnd => true

end Sys2Proof
end

