-- ==== Sys2Proof/Safety.lean ====
section
/-! DEFINITION. What the claims speak of: a command that answers a next state, an access that passes its checks, the bytes of the
addressed memories, the canonical form of the memories, and what an event may touch beside its own effect. -/

namespace Sys2Proof.Machine

open Sys2Proof

/-- The command answers a next state of which `P` holds. -/
def Answers (c : Instr) (s : State) (P : State → Prop) : Prop := ∃ t, exec c s = .next t ∧ P t

/-- The bytes of a number written to a subindex, at the width of its type (R115). -/
def bytesFor (key v : Nat) : List Byte :=
  match findRow key with
  | some r => r.ty.bytesOf (Int.ofNat v)
  | none => []

/-- The module runs, and a write of `v` to `key` by path `p` passes the checks of R117. -/
def Accepts (s : State) (p : Path) (key v : Nat) : Prop :=
  s.clocksRun = true ∧ ∃ d, s.checkWrite p key (.bytes (bytesFor key v)) = .ok d

/-- The module runs, and the checks of R117 refuse a write of `v` to `key` by path `p` with `e`. -/
def Refuses (s : State) (p : Path) (key v : Nat) (e : Refused) : Prop :=
  s.clocksRun = true ∧ s.checkWrite p key (.bytes (bytesFor key v)) = .error e

/-- The state in which a passed command access has been answered, before its effect. -/
def State.acknowledged (s : State) (p : Path) : State := (s.touch p).answer p .done

/-- The answer that path `p` was last given. -/
def State.lastAnswer (s : State) (p : Path) : Option Answer := s.dict.answers.toList[p.writer.code]?

/-- Outside `keys` the dictionary's running values are those of `s`. -/
def State.SameBut (s t : State) (keys : List Nat) : Prop := ∀ k, k ∉ keys → t.get k = s.get k

/-- The counters and marks that a raised source or a logged event may move beside its own effect (R471, R481, R590); with a wake from
SIMMER, its cause and the state before it (R76, R85). -/
def eventKeys : List Nat :=
  [Key.routerRaisesDelivered, Key.routerBellowsTriggers, Key.routerKelsisTriggers, Key.ashLostEvents, Key.ashQueueHighWater,
    Key.powerLastWakeCause, Key.powerPreviousState]

/-- The power manager is as it was, or a routed source has woken the module from SIMMER or abandoned an entry not yet committed (R76, R82,
R85). -/
def Woken (s t : State) : Prop :=
  t.power = s.power ∨ (s.power.phase = .awake ∧ s.power.state = .simmer ∨ ∃ q, s.power.phase = .entering q)
    ∧ t.power = { s.power with state := .blaze, phase := .awake, latchedWake := 0, noticeOut := false,
                               banking := s.power.banking && s.power.phase == .awake, wokenAt := some s.clock.op }

/-- The addressed memories (R439, R440). -/
inductive Space where
  | itcm (c : Fin 4) | dtcm (c : Fin 4) | retention (c : Fin 4) | sram
deriving DecidableEq, Repr

/-- One byte of an addressed memory. -/
def State.byteAt (s : State) (m : Space) (a : Nat) : Byte :=
  match m with
  | .itcm c => readKey (fun _ => (0 : Byte)) (s.cores[c]).itcm a
  | .dtcm c => readKey (fun _ => (0 : Byte)) (s.cores[c]).dtcm a
  | .retention c => readKey (s.cores[c]).slotDefault (s.cores[c]).retention a
  | .sram => readKey (fun _ => (0 : Byte)) s.sram a

/-- Every byte of every addressed memory is as in `s`, and so is what stores have left in FRAM. -/
def State.SameMemory (s t : State) : Prop := (∀ m a, t.byteAt m a = s.byteAt m a) ∧ t.fram = s.fram

/-- The commands that can change a byte of an addressed memory or of what stores have left in FRAM: a core's instructions, among them the stores
and those whose trap starts the program again; what starts, stops or resets a program or the module; the tick, with all that commits in it; the
module's own writes to FRAM. -/
def mayStore : Instr → Bool
  | .add .. | .sub .. | .and .. | .or .. | .xor .. | .shl .. | .shr .. | .sar .. | .slt .. | .sltu .. | .mul .. | .mulhs .. | .mulhu .. | .div ..
  | .divu .. | .rem .. | .remu .. | .min .. | .max .. | .qmul .. | .qadd .. | .qsub .. | .addi .. | .andi .. | .ori .. | .xori .. | .shli .. | .shri ..
  | .sari .. | .slti .. | .sltiu .. | .lui .. | .ldw .. | .ldh .. | .ldhu .. | .ldb .. | .ldbu .. | .stw .. | .sth .. | .stb .. | .xchg .. | .beq ..
  | .bne .. | .blt .. | .bge .. | .bltu .. | .bgeu .. | .jl .. | .jlr .. | .srd .. | .swr .. | .wait .. | .signal .. | .brk .. | .eret .. | .fence .. => true
  | .svcExit .. | .svcEventReturn .. | .svcLog .. | .svcDomRead .. | .svcDomWrite .. | .svcSetLevels .. | .svcUnlisted .. => true
  | .programStart .. | .programRestart .. | .arm .. | .start .. | .halt .. | .stop .. | .resetFault .. | .confirm .. | .kindlingExit .. => true
  | .pllLockLoss .. | .p1BrownOut .. | .p1BrownOutAsleep .. | .sleepEntryCommit .. | .coldStart .. | .warmBoot .. | .confirmationDeadline ..
  | .watchdogReset .. | .hotStartRecheck .. | .kindlingTrial .. | .automaticTrial .. | .nmtResetNode .. | .thermalConversionEnd .. | .thermalRestart .. => true
  | .bellowsTick .. | .modeSwitchSwap .. => true
  | .ashRecordWrite .. | .ashClearDone .. | .servicePasscodeWrite .. | .restoreDone .. | .storeDone .. | .configurationImageWrite .. => true
  | _ => false

/-- The memories are in their canonical form: equal memories are equal data. -/
def State.MemoriesWf (s : State) : Prop :=
  Memory.wf s.sram = true ∧ Memory.rising s.fram = true
    ∧ ∀ c : Fin 4, Memory.wf (s.cores[c]).itcm = true ∧ Memory.wf (s.cores[c]).dtcm = true
        ∧ canonical (s.cores[c]).slotDefault (s.cores[c]).retention = true

/-- From `s` to `t` nothing has changed but the running values of `keys`. -/
structure Only (s t : State) (keys : List Nat) : Prop where
  rest   : t = { s with obj := t.obj }
  values : s.SameBut t keys

/-- From `s` to `t` nothing has changed but the running values of `keys`, and those are 0. -/
def Cleared (s : State) (keys : List Nat) (t : State) : Prop := Only s t keys ∧ ∀ k ∈ keys, t.get k = 0

/-- The state without what raised sources and logged events move: values, power manager, cores, router, Ash. -/
def State.besideEvents (s : State) : State :=
  { s with obj := [], power := .reset, cores := Vector.replicate 4 .reset,
           router := { s.router with bellowsLatch := [], kelsisLatch := false }, ash := .reset }

/-- The log takes a new entry: it has not failed, it is not full, and its queue has room (R590, R591, R592). -/
def State.logOpen (s : State) : Prop :=
  s.ash.failed = false ∧ s.flag Key.ashFull = false ∧ s.ash.queue.length < ashQueueMax

/-- The youngest entry of the Ash queue is an event of this code, source and data words (R582, R588, R590). -/
def State.lastLogged (t : State) (code source : Nat) (w4 w5 w6 : Nat := 0) : Prop :=
  ∃ q, t.ash.queue.getLast? = some q ∧ q.event.code = code ∧ q.event.source = source
    ∧ q.event.w4 = w4 ∧ q.event.w5 = w5 ∧ q.event.w6 = w6

/-! ### Cores -/

/-- A core without what the passing of an instruction accounts: cycles, counters, the sampling of instructions, pending sources. -/
def Core.arch (k : Core) : Core :=
  { k with cycle := 0, pmc := Vector.replicate 8 0, pmovf := 0, sample := .reset, sampleLost := 0, sampleLeft := 0, sampleNo := 0,
           sampleTag := false, flight := none, srcPend := Vector.replicate 8 0, merged := 0, loadDest := none, stackSeen := false,
           waitCycles := 0 }

/-- The state without the cores, the router, the power manager, the running values and the model's own draws. -/
def State.besideCores (s : State) : State :=
  { s with obj := [], power := .reset, cores := Vector.replicate 4 .reset, router := { s.router with bellowsLatch := [], kelsisLatch := false }, free := 0 }

/-- From `s` to `t` nothing but accounting: cycles, counters, samples, and what a raised source moves. -/
structure Accounts (s t : State) : Prop where
  beside : t.besideCores = s.besideCores
  cores  : ∀ c : Fin 4, (t.cores[c]).arch = (s.cores[c]).arch
  values : s.SameBut t eventKeys
  power  : Woken s t

/-- From `s` to `t` nothing has changed but the running values of `keys` and what raised sources and logged events move: their counts,
the cores' pending sources and accounting, the router's latches and the log. -/
structure Moves (s t : State) (keys : List Nat) : Prop where
  beside : t.besideEvents = s.besideEvents
  cores  : ∀ c : Fin 4, (t.cores[c]).arch = (s.cores[c]).arch
  values : s.SameBut t (keys ++ eventKeys)
  power  : Woken s t

/-- Core `c` executes instructions and its next one can be fetched (R74, R443, R461). -/
def CoreReady (s : State) (c : Fin 4) : Prop := s.canRun c = true ∧ s.fetchTrap c (s.cores[c]).pc.toNat = none

/-- Core `c` is now `k` beside its accounting; the other cores and the rest of the module are as in `s`. -/
structure CoreBecomes (s : State) (c : Fin 4) (k : Core) (t : State) : Prop where
  core   : (t.cores[c]).arch = k.arch
  others : ∀ e : Fin 4, e ≠ c → (t.cores[e]).arch = (s.cores[e]).arch
  beside : t.besideCores = s.besideCores
  values : s.SameBut t eventKeys
  power  : Woken s t

/-- The register write of an instruction that completes: `w[d] = v`, discarded for w0, and the PC moves on to `pc` (R446). -/
def Core.wrote (k : Core) (d : Fin 16) (v pc : Word) : Core :=
  { k with regs := if d = 0 then k.regs else k.regs.set d v, pc := pc }

/-- Core `c` has written `v` to w[d] and moved on to the next word, and nothing else has changed but accounting. -/
def Writes (s : State) (c : Fin 4) (d : Fin 16) (v : Word) : State → Prop :=
  CoreBecomes s c ((s.cores[c]).wrote d v ((s.cores[c]).pc + 4))

/-- Core `c` goes on at `pc`, and nothing else has changed but accounting. -/
def Jumps (s : State) (c : Fin 4) (pc : Word) : State → Prop := CoreBecomes s c { s.cores[c] with pc := pc }

/-- The addressed memory that an address of core `c` falls in (R439). -/
def memoryAt (c : Fin 4) (a : Nat) : Option Space :=
  match regionOf a with
  | some .itcm => some (.itcm c)
  | some .dtcm => some (.dtcm c)
  | some .sram => some .sram
  | _ => none

/-- Half-word and word at an address, little-endian. -/
def State.halfAt (s : State) (m : Space) (a : Nat) : BitVec 16 := s.byteAt m (a + 1) ++ s.byteAt m a
def State.wordAt (s : State) (m : Space) (a : Nat) : Word := s.halfAt m (a + 2) ++ s.halfAt m a

/-- A core without its memories and its accounting; the state without the addressed memories and what accounting moves. -/
def Core.bare (k : Core) : Core := { k.arch with itcm := [], dtcm := [], retention := [] }
def State.bare (s : State) : State := { s.besideCores with sram := [], fram := [] }

/-- Core `c` has become `k` beside memory and accounting, the bytes `bs` stand at `a` of memory `m`, and every other byte of every
memory is as in `s`. -/
structure Stored (s : State) (c : Fin 4) (k : Core) (m : Space) (a : Nat) (bs : List Byte) (t : State) : Prop where
  bytes  : ∀ i : Fin bs.length, t.byteAt m (a + i.val) = bs[i]
  kept   : ∀ n b, (n = m → b < a ∨ a + bs.length ≤ b) → t.byteAt n b = s.byteAt n b
  fram   : t.fram = s.fram
  core   : (t.cores[c]).bare = k.bare
  others : ∀ e : Fin 4, e ≠ c → (t.cores[e]).bare = (s.cores[e]).bare
  beside : t.bare = s.bare
  values : s.SameBut t eventKeys
  power  : Woken s t

/-- A trap of a user-mode program with trap action STOP: recorded in the core's object, the program TRAPPED and the core held; it
completes nothing (R451, R456). -/
structure Trapped (s : State) (c : Fin 4) (code : Nat) (val : Word) (t : State) : Prop where
  state  : t.nat (Key.coreProgramState c.val) = 4
  ecause : t.nat (Key.coreLastECAUSE c.val) = code
  epc    : t.nat (Key.coreLastEPC c.val) = (s.cores[c]).pc.toNat
  eval   : t.nat (Key.coreLastEVAL c.val) = val.toNat
  count  : t.nat (Key.coreTraps c.val) = satSucc 32 (s.nat (Key.coreTraps c.val))
  held   : (t.cores[c]).held = true
  regs   : (t.cores[c]).regs = (s.cores[c]).regs
  memory : s.SameMemory t

/-- The module is in reset, as it left `s`: outputs in the reset state, cores as at reset but for their retention memory and the record of R77, shared SRAM and
all that waited lost, FRAM's counters, the operating time and the program slots kept, and with no store or restore under way the
saved copies (R19, R27, R28, R67). -/
structure InReset (s t : State) : Prop where
  phase     : t.power.phase = .inReset
  process   : t.process = psInit
  outputs   : t.outputs = .reset
  acts      : t.acts = .reset
  cores     : ∀ c : Fin 4, t.cores[c] = { Core.reset with retention := s.cores[c].retention, record := s.cores[c].record }
  sram      : t.sram = []
  staged    : t.dict.staged = []
  operating : t.clock.op = s.clock.op
  slots     : t.images = s.images
  saved     : s.dict.saveOp = none → t.dict.copyA = s.dict.copyA ∧ t.dict.copyB = s.dict.copyB

/-- The CANopen slave has one more frame on its way behind all others, with this identifier and these bytes; where CAN A is off or only
listens it has none (R485, R490). -/
def Sends (s t : State) (cob : Nat) (bs : List Byte) : Prop :=
  if s.bus 0 = busOff0 ∨ s.listenOnly 0 = true then t.can = s.can
  else ∃ e : CanEntry, e.own = true ∧ e.id = cob % 2048 ∧ e.data = bs
    ∧ (t.can[(0 : Fin 2)]).queue ++ (t.can[(0 : Fin 2)]).backlog = (s.can[(0 : Fin 2)]).queue ++ (s.can[(0 : Fin 2)]).backlog ++ [e]

/-- The server's frame on the SDO response identifier: its bytes, filled up to 8 with 0 (R510). -/
def SdoSends (s t : State) (bs : List Byte) : Prop :=
  Sends s t (s.cobOf Key.sdoserverCOBServerToClient 0x580) ((bs ++ List.replicate 8 0).take 8)

/-- The server aborts its transfer with this code (R127, R510). -/
def SdoAborts (s t : State) (key code : Nat) : Prop := SdoSends s t ([0x80] ++ muxOf key ++ leBytes 4 code) ∧ t.canopen.sdo = .idle

/-- A Flue frame for this node passes what every arriving frame passes: the port is up, its EtherType is Flue's and its check values hold, its
queue at port 0 has room, on an authenticated port its tag holds too, its addresses are valid (R531), and its alive counter, where its class has one checked, does not repeat (R525, R527, R554). -/
def State.Takes (s : State) (m : FlueMsg) (b : FlueBody) : Prop :=
  s.portUp m.port = true ∧ m.fcs = true ∧ frameSound m b = true ∧ m.room = true ∧ addressesOk m b = true ∧ (s.flag (Key.portAuthentication m.port) = true → m.tagOk = true)
    ∧ (queueOf b = 0 ∨ queueOf b = 2 → s.aliveRepeats m.src (dataIdOf b) m.alive = false)

/-- A port is up and the queue of this body's class has room (R523). -/
def State.Room (s : State) (p : Fin 4) (b : FlueBody) : Prop :=
  s.portUp p = true ∧ ((s.flue.ports[p]).queues[queueOf b]).length < if queueOf b = 1 then 4 else 16

/-- One more frame waits on a port, behind all others of its class. -/
def Queued (s t : State) (p : Fin 4) (hop dst src : Nat) (b : FlueBody) : Prop :=
  ∃ f : FlueFrame, f.hop = hop ∧ f.dst = dst ∧ f.src = src ∧ f.body = b
    ∧ (t.flue.ports[p]).queues[queueOf b] = (s.flue.ports[p]).queues[queueOf b] ++ [f]

/-- What this node sends to another address leaves by its route, where the address is no sleeper's and the queue has room (R523, R540). -/
def FlueSendsFrom (s t : State) (src dst : Nat) (b : FlueBody) : Prop :=
  ∀ p : Fin 4, s.answers dst = false → s.sleeperAt dst = none → s.routePort dst = some p → s.Room p b → Queued s t p 32 dst src b
def FlueSends (s t : State) (dst : Nat) (b : FlueBody) : Prop := FlueSendsFrom s t s.address dst b

/-- The seat of a group, as the records of this node have it. -/
def State.SeatIs (t : State) (g : Nat) (i : Fin 15) (P : FlueMember → Prop) : Prop := ∃ r, t.groupOf g = some r ∧ P r.members[i]

/-- The counters that frames move (R559, R561). -/
def flueCounters : List Nat :=
  [Key.flueUnreachableFrames, Key.flueHopLimitDiscards] ++ (List.range 4).flatMap fun p =>
    [Key.portFramesReceived p, Key.portCheckErrors p, Key.portQueueDiscards p, Key.portAuthenticationFailures p]

end Sys2Proof.Machine
end

