-- ==== Sys2Proof/Certificates/Slice0/Obligations.lean ====
section
/-! DEFINITION. The statements for the provers: each is a proposition about the model, named in OBLIGATIONS.json. A command row's
conclusion is that it answers a next state, and what that state holds; the frames `Only`, `Moves` and their kin say what stays. -/

open Sys2Proof Sys2Proof.Machine

/-- One step takes the command at the front of the queue and runs it on the state with the rest of the queue; on an empty queue the
block idles (the model's choice, log 6). -/
def Obligations.StepRunsFrontCommand : Prop :=
  (∀ (s : State) (c : Instr) (rest : List Instr), s.pending = c :: rest → step s = exec c { s with pending := rest })
    ∧ ∀ s : State, s.pending = [] → step s = .next s

/-- No command touches the commands that wait behind it, and none ends in a fault or a refusal; outside those of `mayStore` none changes a byte
of any addressed memory or of FRAM (R28, R439, R440). -/
def Obligations.EveryCommandAnswers : Prop :=
  ∀ (c : Instr) (s : State), Answers c s fun t => t.pending = s.pending ∧ (mayStore c = false → s.SameMemory t)

/-- The memories keep their canonical form through every step (the model's own form of memory, log 5). -/
def Obligations.MemoriesStayCanonical : Prop :=
  ∀ s t : State, s.MemoriesWf → step s = .next t → t.MemoriesWf

/-- The form holds at reset. -/
def Obligations.ResetMemoriesCanonical : Prop := State.reset.MemoriesWf

/-- A run of the queue is in order: every step removes exactly the front command. -/
def Obligations.QueueIsFirstInFirstOut : Prop :=
  ∀ s t : State, step s = .next t → t.pending = s.pending.tail

/-- Each clear command sets its counters to 0 and nothing else (R115 and the object tables: "Clears …"). -/
def Obligations.ClearsZeroTheirCounters : Prop :=
  ∀ (s : State) (p : Path), let b := s.acknowledged p
    (Accepts s p Key.supplyClearCounters 1 → Answers (.supplyCountersClear p) s (Cleared b [Key.supplyP1BrownOuts, Key.supplyP2Losses]))
    ∧ (∀ v : Fin 8, Accepts s p (Key.convClearCounters v.val) 1 → Answers (.coreCountersClear p v) s (Cleared b (coreCounterKeys v.val)))
    ∧ (∀ l : Fin 64, Accepts s p (Key.loopClearStatistics l) 1 →
        Answers (.loopStatisticsClear p l) s (Cleared b [Key.loopFEEvents l, Key.loopHOLDEntries l, Key.loopLockstepMismatches l]))
    ∧ (Accepts s p Key.kelsisClearCounters 1 → Answers (.kelsisCountersClear p) s (Cleared b [Key.kelsisOverruns, Key.kelsisStageChanges]))
    ∧ (∀ c : Fin 4, Accepts s p (Key.colClearStatistics c) 1 →
        Answers (.columnStatisticsClear p c) s (Cleared b [Key.colOverruns c, Key.colAssimilated c, Key.colRejected c, Key.colTooOld c,
          Key.colMemberReplacements c, Key.colLookupsClamped c]))
    ∧ (Accepts s p Key.predgClearCounters 1 →
        Answers (.predictiveCountersClear p) s (Cleared b [Key.predgUpdates, Key.predgAbandonedUpdates, Key.predgFeedbackEntries]))
    ∧ (∀ a : Fin 20, Accepts s p (Key.actClearStatistics a) 1 →
        Answers (.actuatorStatisticsClear p a) s (Cleared b [Key.actActivations a, Key.actRefusals a, Key.actPeakTimeFaults a,
          Key.actMovementFailures a]))
    ∧ (∀ h : Fin 10, Accepts s p (Key.hsClearStatistics h) 1 →
        Answers (.switchStatisticsClear p h) s (Cleared b [Key.hsDeferrals h, Key.hsOverlapRefusals h, Key.hsFaults h]))
    ∧ (∀ d : Fin 16, Accepts s p (Key.driveClearStatistics d) 1 →
        Answers (.driveStatisticsClear p d) s (Cleared b [Key.driveBLOCKEDEntries d, Key.driveTachLosses d]))
    ∧ (∀ k : Fin 8, Accepts s p (Key.coutClearStatistics k) 1 →
        Answers (.currentOutputStatisticsClear p k) s (Cleared b [Key.coutLoopFaults k, Key.coutPermitForcings k]))
    ∧ (∀ k : Fin 2, Accepts s p (Key.canClearStatistics k) 1 →
        Answers (.canStatisticsClear p k) s (Cleared b [Key.canQueueLimitReached k, Key.canFramesSent k, Key.canFramesReceived k,
          Key.canBusOffEvents k, Key.canCompletionsLost k, Key.canMirrorMoves k]))
    ∧ (Accepts s p Key.flueClearStatistics 1 →
        Answers (.flueNodeStatisticsClear p) s (Cleared b [Key.flueUnreachableFrames, Key.flueHopLimitDiscards]))
    ∧ (∀ q : Fin 4, Accepts s p (Key.portClearStatistics q) 1 →
        Answers (.portStatisticsClear p q) s (Cleared b [Key.portFramesSent q, Key.portFramesReceived q, Key.portCheckErrors q,
          Key.portQueueDiscards q, Key.portAuthenticationFailures q, Key.portAdjacencyLosses q]))
    ∧ (Accepts s p Key.ftimeClearStatistics 1 → Answers (.timeStatisticsClear p) s (Cleared b [Key.ftimeSyncLosses]))

/-- The clear commands that reach state beside the counters: the power times, a channel's extremes, the Bellows mismatch bit, a core's
stack mark, the router's merged counts, the thermal times and a core's performance counters. -/
def Obligations.ClearsBesideCounters : Prop :=
  ∀ (s : State) (p : Path), let b := s.acknowledged p
    (Accepts s p Key.powerClearStatistics 1 → Answers (.powerStatisticsClear p) s fun t =>
      t.power = { b.power with inSimmer := 0, inBanked := 0, inEmber := 0 } ∧ Cleared { b with power := t.power } [Key.powerEMBEREntries] t)
    ∧ (∀ n : Fin 64, Accepts s p (Key.chanClearStatistics n) 1 → Answers (.channelStatisticsClear p n) s fun t =>
        let c := s.front.channels[n]
        let now := if c.published = some s.tickTime then c.counted else (false, false, false)
        let y := if now.2.1 then s.get (Key.chanLastMeasuredValue n) else 0
        t.front = { s.front with channels := s.front.channels.set n { c with extremes := now.2.1 } }
        ∧ Only { b with front := t.front } t [Key.chanBROKENEntries n, Key.chanMinimum n, Key.chanMaximum n, Key.chanLinearisationErrors n]
        ∧ t.nat (Key.chanBROKENEntries n) = b2n now.1 ∧ t.get (Key.chanMinimum n) = y ∧ t.get (Key.chanMaximum n) = y
        ∧ t.nat (Key.chanLinearisationErrors n) = b2n now.2.2)
    ∧ (Accepts s p Key.bellowsClearCounters 1 → Answers (.bellowsCountersClear p) s fun t =>
        t.bitOf Key.bellowsGlobalStatus 3 = false
        ∧ Only b t [Key.bellowsBusyCyclesMaximum, Key.bellowsMismatches, Key.bellowsECCCorrections, Key.bellowsECCUncorrectable,
            Key.bellowsSelfCheckFailures, Key.bellowsGlobalStatus]
        ∧ ∀ k ∈ [Key.bellowsBusyCyclesMaximum, Key.bellowsMismatches, Key.bellowsECCCorrections, Key.bellowsECCUncorrectable,
            Key.bellowsSelfCheckFailures], t.get k = 0)
    ∧ (∀ c : Fin 4, Accepts s p (Key.coreClearStatistics c.val) 1 → Answers (.coreStatisticsClear p c) s fun t =>
        t.cores = b.cores.set c { b.cores[c] with stackSeen := false }
        ∧ Cleared { b with cores := t.cores } [Key.coreTraps c.val, Key.coreStackLowWater c.val, Key.coreGuardRefusalsSkipped c.val] t)
    ∧ (Accepts s p Key.routerClearCounters 1 → Answers (.eventRouterCountersClear p) s fun t =>
        (∀ c : Fin 4, t.cores[c] = { b.cores[c] with merged := 0 })
        ∧ Cleared { b with cores := t.cores } [Key.routerRaisesDelivered, Key.routerBellowsTriggers, Key.routerKelsisTriggers] t)
    ∧ (∀ c : Fin 4, Accepts s p (Key.pmClearCounters c.val) 1 → Answers (.performanceCountersClear p c) s fun t =>
        t = { b with cores := b.cores.set c { b.cores[c] with pmc := Vector.replicate 8 0, pmovf := 0, sampleLost := 0 } })
    ∧ (Accepts s p Key.thermalClearStatistics 1 → Answers (.thermalStatisticsClear p) s fun t =>
        t.thermal = { s.thermal with estTicks := 0, bankTicks := 0 }
        ∧ Cleared { b with thermal := t.thermal } [Key.thermalShutdowns, Key.thermalESTThrottleTime, Key.thermalBankThrottleTime] t)

/-- The register-register operations of R447: w[d] takes the result (nothing where d is w0), the PC the next word, and beside its
accounting of cycles and counters the module is as before. -/
def Obligations.RegisterArithmetic : Prop :=
  ∀ (s : State) (c : Fin 4) (d a b : Fin 16), CoreReady s c →
    let x := (s.cores[c]).reg a
    let y := (s.cores[c]).reg b
    Answers (.add c d a b) s (Writes s c d (x + y)) ∧ Answers (.sub c d a b) s (Writes s c d (x - y))
      ∧ Answers (.and c d a b) s (Writes s c d (x &&& y)) ∧ Answers (.or c d a b) s (Writes s c d (x ||| y))
      ∧ Answers (.xor c d a b) s (Writes s c d (x ^^^ y))
      ∧ Answers (.shl c d a b) s (Writes s c d (x <<< (y.toNat % 32))) ∧ Answers (.shr c d a b) s (Writes s c d (x >>> (y.toNat % 32)))
      ∧ Answers (.sar c d a b) s (Writes s c d (BitVec.ofInt 32 (x.toInt / 2 ^ (y.toNat % 32))))
      ∧ Answers (.slt c d a b) s (Writes s c d (if x.toInt < y.toInt then 1 else 0))
      ∧ Answers (.sltu c d a b) s (Writes s c d (if x.toNat < y.toNat then 1 else 0))
      ∧ Answers (.min c d a b) s (Writes s c d (if x.toInt < y.toInt then x else y))
      ∧ Answers (.max c d a b) s (Writes s c d (if x.toInt < y.toInt then y else x))

/-- The products and quotients of R447, with the corners the rule gives. -/
def Obligations.MultiplyAndDivide : Prop :=
  ∀ (s : State) (c : Fin 4) (d a b : Fin 16), CoreReady s c →
    let x := (s.cores[c]).reg a
    let y := (s.cores[c]).reg b
    Answers (.mul c d a b) s (Writes s c d (x * y))
      ∧ Answers (.mulhs c d a b) s (Writes s c d (BitVec.ofInt 32 (x.toInt * y.toInt / 2 ^ 32)))
      ∧ Answers (.mulhu c d a b) s (Writes s c d (BitVec.ofNat 32 (x.toNat * y.toNat / 2 ^ 32)))
      ∧ Answers (.div c d a b) s (Writes s c d (if y = 0 then 0xFFFFFFFF else if x = 0x80000000 ∧ y = 0xFFFFFFFF then 0x80000000
          else BitVec.ofInt 32 (x.toInt.tdiv y.toInt)))
      ∧ Answers (.divu c d a b) s (Writes s c d (if y = 0 then 0xFFFFFFFF else BitVec.ofNat 32 (x.toNat / y.toNat)))
      ∧ Answers (.rem c d a b) s (Writes s c d (if y = 0 then x else if x = 0x80000000 ∧ y = 0xFFFFFFFF then 0
          else BitVec.ofInt 32 (x.toInt.tmod y.toInt)))
      ∧ Answers (.remu c d a b) s (Writes s c d (if y = 0 then x else BitVec.ofNat 32 (x.toNat % y.toNat)))
      ∧ Answers (.qmul c d a b) s (Writes s c d (BitVec.ofInt 32 (sat15 (round15 (q15Of x * q15Of y)))))
      ∧ Answers (.qadd c d a b) s (Writes s c d (BitVec.ofInt 32 (sat15 (q15Of x + q15Of y))))
      ∧ Answers (.qsub c d a b) s (Writes s c d (BitVec.ofInt 32 (sat15 (q15Of x - q15Of y))))

/-- The operations on an immediate (R447), signed or zero-extended as the rule says, and ILLEGAL where a reserved field is not 0. -/
def Obligations.ImmediateArithmetic : Prop :=
  ∀ (s : State) (c : Fin 4) (d a : Fin 16) (imm : BitVec 18), CoreReady s c →
    let x := (s.cores[c]).reg a
    let sx := imm.signExtend 32
    let zx := imm.zeroExtend 32
    Answers (.addi c d a imm) s (Writes s c d (x + sx)) ∧ Answers (.andi c d a imm) s (Writes s c d (x &&& zx))
      ∧ Answers (.ori c d a imm) s (Writes s c d (x ||| zx)) ∧ Answers (.xori c d a imm) s (Writes s c d (x ^^^ zx))
      ∧ Answers (.slti c d a imm) s (Writes s c d (if x.toInt < sx.toInt then 1 else 0))
      ∧ Answers (.sltiu c d a imm) s (Writes s c d (if x.toNat < sx.toNat then 1 else 0))
      ∧ Answers (.lui c d 0 imm) s (Writes s c d (zx <<< 14))
      ∧ (imm.toNat < 32 → Answers (.shli c d a imm) s (Writes s c d (x <<< imm.toNat))
          ∧ Answers (.shri c d a imm) s (Writes s c d (x >>> imm.toNat))
          ∧ Answers (.sari c d a imm) s (Writes s c d (BitVec.ofInt 32 (x.toInt / 2 ^ imm.toNat))))

/-- Loads from TCM and shared SRAM (R439, R447): an aligned, permitted access whose word shows no double error gives the little-endian
value, extended as the mnemonic says; no byte of memory changes. -/
def Obligations.LoadsFromMemory : Prop :=
  ∀ (s : State) (c : Fin 4) (d a : Fin 16) (imm : BitVec 18) (ecc : Fin 3) (m : Space), CoreReady s c →
    let addr := ((s.cores[c]).reg a + imm.signExtend 32).toNat
    memoryAt c addr = some m → (m = .sram → ecc ≠ 2) →
      (s.loadTrap c addr 4 = none → Answers (.ldw c d a imm ecc) s (Writes s c d (s.wordAt m addr)))
      ∧ (s.loadTrap c addr 2 = none → Answers (.ldh c d a imm ecc) s (Writes s c d ((s.halfAt m addr).signExtend 32))
          ∧ Answers (.ldhu c d a imm ecc) s (Writes s c d ((s.halfAt m addr).zeroExtend 32)))
      ∧ (s.loadTrap c addr 1 = none → Answers (.ldb c d a imm ecc) s (Writes s c d ((s.byteAt m addr).signExtend 32))
          ∧ Answers (.ldbu c d a imm ecc) s (Writes s c d ((s.byteAt m addr).zeroExtend 32)))

/-- Loads from the other regions of R439 but the dictionary window complete too: some value reaches w[d], and nothing else changes. -/
def Obligations.LoadsFromOtherRegions : Prop :=
  ∀ (s : State) (c : Fin 4) (d a : Fin 16) (imm : BitVec 18) (ecc : Fin 3), CoreReady s c →
    let addr := ((s.cores[c]).reg a + imm.signExtend 32).toNat
    memoryAt c addr = none → regionOf addr ≠ some .window →
      (s.loadTrap c addr 4 = none → Answers (.ldw c d a imm ecc) s fun t => ∃ v, Writes s c d v t)
      ∧ (s.loadTrap c addr 2 = none → (Answers (.ldh c d a imm ecc) s fun t => ∃ v, Writes s c d v t)
          ∧ Answers (.ldhu c d a imm ecc) s fun t => ∃ v, Writes s c d v t)
      ∧ (s.loadTrap c addr 1 = none → (Answers (.ldb c d a imm ecc) s fun t => ∃ v, Writes s c d v t)
          ∧ Answers (.ldbu c d a imm ecc) s fun t => ∃ v, Writes s c d v t)

/-- Stores to TCM and shared SRAM (R447) write the low 32, 16 or 8 bits of w[d], little-endian, and no other byte; XCHG does so and
brings the old word into w[d]. -/
def Obligations.StoresToMemory : Prop :=
  ∀ (s : State) (c : Fin 4) (d a : Fin 16) (imm : BitVec 18) (ecc : Fin 3) (m : Space), CoreReady s c →
    let addr := ((s.cores[c]).reg a + imm.signExtend 32).toNat
    let v := (s.cores[c]).reg d
    let next : Core := { s.cores[c] with pc := (s.cores[c]).pc + 4 }
    let bytes : List Byte := [v.extractLsb' 0 8, v.extractLsb' 8 8, v.extractLsb' 16 8, v.extractLsb' 24 8]
    memoryAt c addr = some m →
      (s.storeTrap c addr 4 = none → Answers (.stw c d a imm) s (Stored s c next m addr bytes))
      ∧ (s.storeTrap c addr 2 = none → Answers (.sth c d a imm) s (Stored s c next m addr (bytes.take 2)))
      ∧ (s.storeTrap c addr 1 = none → Answers (.stb c d a imm) s (Stored s c next m addr (bytes.take 1)))
      ∧ (m ≠ .itcm c → (m = .sram → ecc ≠ 2) → s.loadTrap c addr 4 = none → s.storeTrap c addr 4 = none →
          Answers (.xchg c d a imm ecc) s
            (Stored s c ((s.cores[c]).wrote d (s.wordAt m addr) ((s.cores[c]).pc + 4)) m addr bytes))

/-- Branches (R447): the target is counted from the branch itself, in words; a branch not taken goes on at the next word. -/
def Obligations.Branches : Prop :=
  ∀ (s : State) (c : Fin 4) (a b : Fin 16) (imm : BitVec 18), CoreReady s c →
    let x := (s.cores[c]).reg a
    let y := (s.cores[c]).reg b
    let pc := (s.cores[c]).pc
    let target := BitVec.ofInt 32 (pc.toInt + 4 * imm.toInt)
    Answers (.beq c a b imm) s (Jumps s c (if x = y then target else pc + 4))
      ∧ Answers (.bne c a b imm) s (Jumps s c (if x ≠ y then target else pc + 4))
      ∧ Answers (.blt c a b imm) s (Jumps s c (if x.toInt < y.toInt then target else pc + 4))
      ∧ Answers (.bge c a b imm) s (Jumps s c (if y.toInt ≤ x.toInt then target else pc + 4))
      ∧ Answers (.bltu c a b imm) s (Jumps s c (if x.toNat < y.toNat then target else pc + 4))
      ∧ Answers (.bgeu c a b imm) s (Jumps s c (if y.toNat ≤ x.toNat then target else pc + 4))

/-- JL and JLR put the return address into w[d]; JLR reads w[a] first, also where d is a (R446, R447). -/
def Obligations.JumpsAndLinks : Prop :=
  ∀ (s : State) (c : Fin 4) (d a : Fin 16), CoreReady s c →
    let k := s.cores[c]
    (∀ imm : BitVec 22, Answers (.jl c d imm) s
        (CoreBecomes s c (k.wrote d (k.pc + 4) (BitVec.ofInt 32 (k.pc.toInt + 4 * imm.toInt)))))
      ∧ ∀ imm : BitVec 18, (k.reg a + imm.signExtend 32).toNat % 4 = 0 →
        Answers (.jlr c d a imm) s (CoreBecomes s c (k.wrote d (k.pc + 4) (k.reg a + imm.signExtend 32)))

/-- SRD gives the register's value, in user mode CORE_ID only of those named here; SWR writes it in privileged mode, with the reserved
bits of STATUS, VBASE and the region table at 0 (R444, R448, R450). -/
def Obligations.SystemRegisters : Prop :=
  ∀ (s : State) (c : Fin 4) (r : Fin 16), CoreReady s c →
    let k := s.cores[c]
    let v := k.reg r
    let moved : Core := { k with pc := k.pc + 4 }
    Answers (.srd c r 0) s (Writes s c r (BitVec.ofNat 32 c.val))
      ∧ (k.privileged = true →
        Answers (.srd c r 1) s (Writes s c r k.status) ∧ Answers (.srd c r 2) s (Writes s c r k.epc)
        ∧ Answers (.srd c r 3) s (Writes s c r k.ecause) ∧ Answers (.srd c r 4) s (Writes s c r k.eval)
        ∧ Answers (.srd c r 0x10) s (Writes s c r k.vbase) ∧ Answers (.srd c r 0x20) s (Writes s c r k.prioMask)
        ∧ Answers (.swr c r 1) s (CoreBecomes s c { moved with status := v &&& 0xF })
        ∧ Answers (.swr c r 2) s (CoreBecomes s c { moved with epc := v })
        ∧ Answers (.swr c r 3) s (CoreBecomes s c { moved with ecause := v })
        ∧ Answers (.swr c r 4) s (CoreBecomes s c { moved with eval := v })
        ∧ Answers (.swr c r 0x10) s (CoreBecomes s c { moved with vbase := v &&& 0xFFFFFF00 })
        ∧ Answers (.swr c r 0x20) s (CoreBecomes s c { moved with prioMask := v })
        ∧ ∀ n : Fin 8,
          Answers (.srd c r (BitVec.ofNat 18 (0x100 + 2 * n.val))) s (Writes s c r k.regionBase[n])
          ∧ Answers (.srd c r (BitVec.ofNat 18 (0x101 + 2 * n.val))) s (Writes s c r k.regionAttr[n])
          ∧ Answers (.swr c r (BitVec.ofNat 18 (0x100 + 2 * n.val))) s
              (CoreBecomes s c { moved with regionBase := k.regionBase.set n (v &&& 0xFFFFFC00) })
          ∧ Answers (.swr c r (BitVec.ofNat 18 (0x101 + 2 * n.val))) s
              (CoreBecomes s c { moved with regionAttr := k.regionAttr.set n (v &&& 0xFFFFFC0F) }))

/-- SIGNAL raises source 252 + imm and moves on; ERET restores PC, IE and PM; FENCE only moves on; BRK on an unlocked debug port halts
the core at the BRK (R43, R447, R451). -/
def Obligations.SignalFenceReturn : Prop :=
  ∀ (s : State) (c : Fin 4), CoreReady s c →
    let k := s.cores[c]
    (∀ imm : BitVec 18, imm.toNat < 4 → Answers (.signal c imm) s fun t => Jumps s c (k.pc + 4) t
        ∧ ∀ e : Fin 4, e ≠ 0 → field (s.route (252 + imm.toNat)) 10 8 = e.val → (t.cores[e]).pendingSource (252 + imm.toNat) = true)
      ∧ (k.privileged = true → Answers (.eret c) s (CoreBecomes s c { k with pc := k.epc, status := statusOf k.ppm k.ppm k.pie k.pie }))
      ∧ Answers (.fence c) s (Jumps s c (k.pc + 4))
      ∧ ∀ imm : BitVec 18, s.startup.debugOpen = true → Answers (.brk c imm) s (CoreBecomes s c { k with debugHalt := true })

/-- WAIT with a masked bit pending writes those bits into w[d] at once; without one the core waits where it stands. A wait ends with the
bits that have become pending, or at its timeout. An interrupt is taken between instructions or in a wait, at the highest level that is
pending and enabled: EPC, ECAUSE, STATUS and the vector as R451 says, for a core in privileged mode; a program's handler is the monitor's
(R449, R451, R455, R462). -/
def Obligations.WaitsAndInterrupts : Prop :=
  ∀ (s : State) (c : Fin 4) (d a : Fin 16) (imm : BitVec 18),
    let k := s.cores[c]
    (CoreReady s c → (s.pendingWord c &&& k.reg a ≠ 0 → Answers (.wait c d a imm) s fun t =>
          (t.cores[c]).regs = (k.wrote d (s.pendingWord c &&& k.reg a) k.pc).regs ∧ (t.cores[c]).pc = k.pc + 4
          ∧ (t.cores[c]).waiting = none ∧ s.SameMemory t)
      ∧ (s.pendingWord c &&& k.reg a = 0 → Answers (.wait c d a imm) s fun t =>
          (t.cores[c]).regs = k.regs ∧ (t.cores[c]).pc = k.pc ∧ (t.cores[c]).waiting = some ⟨d, k.reg a, imm.toNat, k.cycle⟩ ∧ s.SameMemory t))
    ∧ (∀ (w : Waiting) (n : Nat), s.clocksRun = true → k.waiting = some w →
        (s.pendingWord c &&& w.mask ≠ 0 → Answers (.waitEnd c n) s fun t =>
          (t.cores[c]).regs = (k.wrote w.dest (s.pendingWord c &&& w.mask) k.pc).regs ∧ (t.cores[c]).pc = k.pc + 4
          ∧ (t.cores[c]).waiting = none ∧ s.SameMemory t)
        ∧ (s.pendingWord c &&& w.mask = 0 → w.timeout ≠ 0 → Answers (.waitTimeout c) s fun t =>
          (t.cores[c]).regs = (k.wrote w.dest 0 k.pc).regs ∧ (t.cores[c]).pc = k.pc + 4
          ∧ (t.cores[c]).waiting = none ∧ s.SameMemory t))
    ∧ ∀ p : Fin 32, s.clocksRun = true → k.held = false → k.debugHalt = false → (c ≠ 0 → k.running.isSome = true) → k.ie = true →
        k.privileged = true → (s.pendingWord c &&& k.prioMask).getLsbD p.val = true →
        (∀ q : Fin 32, p < q → (s.pendingWord c &&& k.prioMask).getLsbD q.val = false) →
        Answers (.interruptEntry c) s fun t => let k' := t.cores[c]
          k'.epc = k.pc ∧ k'.ecause = BitVec.ofNat 32 (0x80000000 + p.val) ∧ k'.status = statusOf true true true false
          ∧ k'.pc = k.vbase + BitVec.ofNat 32 (0x80 + 4 * p.val) ∧ k'.waiting = none ∧ k'.regs = k.regs ∧ s.SameMemory t

/-- An instruction that traps in a user-mode program with trap action STOP completes nothing: the trap is recorded, the program is
TRAPPED (R443, R447, R451, R453, R456). -/
def Obligations.UserTraps : Prop :=
  ∀ (s : State) (c : Fin 4) (d a : Fin 16) (imm : BitVec 18) (ecc : Fin 3), c ≠ 0 → CoreReady s c →
    (s.cores[c]).privileged = false → s.nat (Key.coreTrapAction c.val) = 0 →
    let sum := (s.cores[c]).reg a + imm.signExtend 32
    (sum.toNat % 4 ≠ 0 → Answers (.ldw c d a imm ecc) s (Trapped s c 5 sum) ∧ Answers (.stw c d a imm) s (Trapped s c 6 sum)
        ∧ Answers (.xchg c d a imm ecc) s (Trapped s c 6 sum) ∧ Answers (.jlr c d a imm) s (Trapped s c 3 sum))
      ∧ (sum.toNat % 2 ≠ 0 → Answers (.ldh c d a imm ecc) s (Trapped s c 5 sum) ∧ Answers (.ldhu c d a imm ecc) s (Trapped s c 5 sum)
        ∧ Answers (.sth c d a imm) s (Trapped s c 6 sum))
      ∧ ((s.cores[c]).permits sum.toNat 0 = false → Answers (.ldb c d a imm ecc) s (Trapped s c 7 sum)
        ∧ Answers (.ldbu c d a imm ecc) s (Trapped s c 7 sum))
      ∧ ((s.cores[c]).permits sum.toNat 1 = false → Answers (.stb c d a imm) s (Trapped s c 8 sum))
      ∧ (32 ≤ imm.toNat → Answers (.shli c d a imm) s (Trapped s c 1 (wordK 5 d a imm))
        ∧ Answers (.shri c d a imm) s (Trapped s c 1 (wordK 6 d a imm)) ∧ Answers (.sari c d a imm) s (Trapped s c 1 (wordK 7 d a imm)))
      ∧ (a ≠ 0 → Answers (.lui c d a imm) s (Trapped s c 1 (wordK 0x0A d a imm)))
      ∧ (4 ≤ imm.toNat → Answers (.signal c imm) s (Trapped s c 1 (wordK 0x33 0 0 imm)))
      ∧ Answers (.swr c a imm) s (Trapped s c 2 (wordK 0x31 0 a imm)) ∧ Answers (.eret c) s (Trapped s c 2 (wordK 0x36 0 0 0))
      ∧ (s.startup.debugOpen = false → Answers (.brk c imm) s (Trapped s c 11 (imm.zeroExtend 32)))
      ∧ ∀ w : Word, instrOf c ecc w = none → ∃ t, runWord c ecc w s = .next t ∧ Trapped s c 1 w t

/-- A trap taken in privileged mode halts a Stoker core, which stays halted, and resets the module on the hearth core (R103, R456). -/
def Obligations.PrivilegedTraps : Prop :=
  ∀ (s : State) (c : Fin 4) (d a : Fin 16) (imm : BitVec 18), CoreReady s c → (s.cores[c]).privileged = true →
    let sum := (s.cores[c]).reg a + imm.signExtend 32
    sum.toNat % 4 ≠ 0 → Answers (.stw c d a imm) s fun t =>
      if c = 0 then t.power.phase = .inReset
      else t.nat (Key.coreProgramState c.val) = 5 ∧ (t.cores[c]).held = true ∧ (t.cores[c]).running = none
        ∧ (t.cores[c]).epc = (s.cores[c]).pc ∧ (t.cores[c]).ecause = 6 ∧ (t.cores[c]).eval = sum ∧ s.SameMemory t

/-- The monitor's supervisor calls, from user mode (R454): EXIT stops the program; EVENT_RETURN resumes what the handler interrupted;
LOG answers 2 for a reserved code; SET_LEVELS keeps to the routed levels; an unlisted number answers 0xFFFF_FFFF. -/
def Obligations.SupervisorCalls : Prop :=
  ∀ (s : State) (c : Fin 4), CoreReady s c → (s.cores[c]).privileged = false →
    let k := s.cores[c]
    (Answers (.svcExit c) s fun t => t.nat (Key.coreProgramState c.val) = 3 ∧ (t.cores[c]).held = true ∧ (t.cores[c]).running = none)
      ∧ (∀ f : HandlerFrame, k.frame = some f → Answers (.svcEventReturn c) s fun t =>
          (t.cores[c]).regs = f.regs ∧ (t.cores[c]).pc = f.pc ∧ (t.cores[c]).frame = none ∧ (t.cores[c]).ie = f.ie
          ∧ (t.cores[c]).privileged = false)
      ∧ (0xF0 ≤ (k.reg 1).toNat % 256 → Answers (.svcLog c) s fun t =>
          (t.cores[c]).regs = k.regs.set 1 2 ∧ (t.cores[c]).pc = k.pc + 4 ∧ t.ash = s.ash)
      ∧ ((k.reg 1).toNat % 256 < 0xF0 → s.logOpen → Answers (.svcLog c) s fun t =>
          (t.cores[c]).regs = k.regs.set 1 0 ∧ (t.cores[c]).pc = k.pc + 4
          ∧ t.lastLogged (0x0E10 + (k.reg 1).toNat % 256) c.val (k.reg 2).toNat (k.reg 3).toNat 0)
      ∧ (Answers (.svcSetLevels c) s fun t =>
          (t.cores[c]).prioMask = k.reg 1 &&& s.routedLevels c ∧ (t.cores[c]).pc = k.pc + 4
          ∧ ∀ i : Fin 16, i ≠ 1 → (t.cores[c]).regs[i] = k.regs[i])
      ∧ ∀ n : BitVec 12, 5 < n.toNat → Answers (.svcUnlisted c n) s fun t =>
          (t.cores[c]).regs = k.regs.set 1 0xFFFFFFFF ∧ (t.cores[c]).pc = k.pc + 4 ∧ (t.cores[c]).privileged = false

/-- DOM_READ and DOM_WRITE return behind the SVC with every register but w1 kept. An accepted read lays the block's first bytes in the
buffer and gives their number; an accepted write stages the buffer's bytes and gives 0; what the checks refuse gives its abort code (R126,
R128, R454). -/
def Obligations.SupervisorBlocks : Prop :=
  ∀ (s : State) (c : Fin 4), CoreReady s c → (s.cores[c]).privileged = false →
    let k := s.cores[c]; let p := corePath c; let key := (k.reg 1).toNat / 256; let a := (k.reg 2).toNat; let n := (k.reg 3).toNat
    let back : State → Prop := fun t => (t.cores[c]).pc = k.pc + 4 ∧ (t.cores[c]).privileged = false
      ∧ ∀ i : Fin 16, i ≠ 1 → (t.cores[c]).regs[i] = k.regs[i]
    let gives (v : Nat) (t : State) : Prop := (t.cores[c]).regs[1] = BitVec.ofNat 32 v
    (bufferTrap (fun x => s.storeTrap c x 1) a n = none → Answers (.svcDomRead c) s back
        ∧ (∀ e, s.checkRead key = .error e → Answers (.svcDomRead c) s fun t => back t ∧ gives e.code t ∧ s.SameMemory t)
        ∧ (∀ r, s.checkRead key = .ok r → r.ty.isBlock = false → Answers (.svcDomRead c) s fun t => gives abortLength t ∧ s.SameMemory t)
        ∧ (∀ (r : Row) (m : Space), s.checkRead key = .ok r → r.ty.isBlock = true → key ≠ Key.identVendorChallenge →
            (∀ i < n, memoryAt c (a + i) = some m) → let bs := (s.readBlock p key).1.take n
            Answers (.svcDomRead c) s fun t => back t ∧ gives bs.length t ∧ ∀ i < bs.length, t.byteAt m (a + i) = bs.getD i 0))
      ∧ (bufferTrap (fun x => s.loadTrap c x 1) a n = none → Answers (.svcDomWrite c) s back
        ∧ (∀ m : Space, (∀ i < n, memoryAt c (a + i) = some m) → let data := (List.range n).map fun i => s.byteAt m (a + i)
            (∀ e, s.checkWrite p key (.bytes data) = .error e → Answers (.svcDomWrite c) s fun t => gives e.code t ∧ t.dict.staged = s.dict.staged)
            ∧ (∀ bs, s.checkWrite p key (.bytes data) = .ok (.blk bs) → s.blockRefusal p key bs = none → transmitPortOf key = none →
                Answers (.svcDomWrite c) s fun t => back t ∧ gives 0 t
                  ∧ t.dict.staged = s.dict.staged.filter (fun w => !(w.path == p && w.key == key)) ++ [⟨p, key, .blk bs⟩])))

/-- P1_LOW follows its comparator and raises source 242; P2 loss opens every actuator channel, is counted and keeps its status bit until P2
returns; the backup cell is measured against 2.5 V; a stopped crystal sets its bit and is logged once (R69, R70, R73, R89). -/
def Obligations.SupplyEvents : Prop :=
  ∀ s : State,
    (s.clocksRun = true → s.bitOf Key.supplySupplyStatus 0 = false → Answers .p1LowSet s fun t =>
        Moves s t [Key.supplySupplyStatus] ∧ t.bitOf Key.supplySupplyStatus 0 = true ∧ ∀ n, n ≠ 0 → t.bitOf Key.supplySupplyStatus n = s.bitOf Key.supplySupplyStatus n)
    ∧ (s.clocksRun = true → s.bitOf Key.supplySupplyStatus 0 = true → Answers .p1LowClear s fun t =>
        Moves s t [Key.supplySupplyStatus] ∧ t.bitOf Key.supplySupplyStatus 0 = false ∧ ∀ n, n ≠ 0 → t.bitOf Key.supplySupplyStatus n = s.bitOf Key.supplySupplyStatus n)
    ∧ (s.clocksRun = true → s.p2Lost = false → Answers .p2Loss s fun t =>
        t.p2Lost = true ∧ t.nat Key.supplyP2Losses = satSucc 16 (s.nat Key.supplyP2Losses) ∧ ∀ a : Fin 20, (t.actUnit a).phase = .idle)
    ∧ (s.clocksRun = true → s.p2Lost = true → Answers .p2Restored s fun t => t.p2Lost = false ∧ t.acts = s.acts)
    ∧ (∀ mv : BitVec 16, s.clocksRun = true → Answers (.cellCheck mv) s fun t =>
        Moves s t [Key.supplyBackupCellVoltage, Key.supplySupplyStatus] ∧ t.nat Key.supplyBackupCellVoltage = mv.toNat
        ∧ t.bitOf Key.supplySupplyStatus 2 = decide (mv.toNat < 2500) ∧ (s.logOpen → mv.toNat < 2500 → t.lastLogged 0x0106 noSource 0 0 0))
    ∧ (s.bitOf Key.supplySupplyStatus 4 = false →
        (s.clocksRun = true ∨ s.power.phase = .asleep .banked → Answers .crystalStopped s fun t =>
          Moves s t [Key.supplySupplyStatus] ∧ t.bitOf Key.supplySupplyStatus 4 = true ∧ (s.logOpen → t.lastLogged 0x0107 noSource 0 0 0))
        ∧ (s.power.phase = .asleep .ember → Answers .crystalStopped s fun t =>
          Only { s with power := { s.power with crystalDue := true } } t [Key.supplySupplyStatus] ∧ t.bitOf Key.supplySupplyStatus 4 = true))

/-- The plain records of the power manager: the operating time goes to FRAM, VBUS and the refusal hold are noted, the contact window
closes (R72, R80, R88). -/
def Obligations.PowerRecords : Prop :=
  ∀ s : State,
    (s.clocksRun = true → Answers .operatingTimeSave s fun t => t = { s with clock := { s.clock with opFram := s.clock.op } })
    ∧ (∀ b : Bool, Answers (.usbVbusChange b) s fun t => t = { s with power := { s.power with vbus := b } })
    ∧ (Answers .sleepRefusalHoldEnd s fun t => t = { s with power := { s.power with refusalHold := false } })
    ∧ (s.power.contactOpen = true → Answers .contactWindowEnd s fun t =>
        Only { s with power := { s.power with contactOpen := false } } t [Key.contactNextContact] ∧ t.nat Key.contactNextContact = 0)
    ∧ (∀ aon : Nat, s.power.contactDue.isSome = true → s.power.phase ≠ .inReset → Answers (.contactTimeReached aon) s fun t =>
        t.power.contactDue = none ∧ t.power.contactOpen = true)
    ∧ (s.dict.crcDirty = true → Answers .checkValueRecompute s fun t =>
        Only { s with dict := { s.dict with crcDirty := false } } t [Key.cfgRunningCheckValue]
        ∧ t.nat Key.cfgRunningCheckValue = checkValueOf s.base s.blk)

/-- What resets the module leaves it in reset: the clock monitor, the watchdog, a P1 brown-out (counted, with the operating time saved), an
NMT reset, an unconfirmed start at its deadline (R19, R65, R66, R67, R102, R103, R110). -/
def Obligations.ResetsLeaveTheResetState : Prop :=
  ∀ s : State, s.clocksRun = true →
    Answers .pllLockLoss s (InReset s) ∧ Answers .watchdogReset s (InReset s)
    ∧ (Answers .p1BrownOut s fun t => InReset s t ∧ t.nat Key.supplyP1BrownOuts = satSucc 16 (s.nat Key.supplyP1BrownOuts)
        ∧ t.clock.opFram = s.clock.op)
    ∧ (∀ node : Fin 128, s.canopen.nmt ≠ 0 → (node = 0 ∨ node.val = s.nodeId) → Answers (.nmtResetNode node) s (InReset s))
    ∧ (s.startup.opened = true → s.startup.confirmed = false → s.process ≠ psKindling →
        Answers .confirmationDeadline s fun t => InReset s t ∧ (s.startup.cause = none → t.startup.cause =
          some (if s.process = psInit ∧ s.bitOf Key.cfgConfigurationStatus 0 = true then 4 else 8)))

/-- The power manager takes the deepest state that passes the tests of R79, and records its decision; BANKED and EMBER are entered at a
commit point of their own. What changes before that point is judged again: the entry goes on at the depth that is then right, or is abandoned
(R79, R81, R82; log 173). -/
def Obligations.PowerManagerDecides : Prop :=
  ∀ s : State, let next := s.nextEvent.map (fun x => x.1)
    let decides : State → PowerState → Prop := fun t q => t.nat Key.powerLastDecisionState = q.code
      ∧ (q ≠ .blaze → s.stateAllowed next q = true) ∧ (∀ r : PowerState, q.code < r.code → s.stateAllowed next r = false)
    ((∀ c : Fin 4, (s.cores[c]).inWait = true) → s.transactionPending = false →
      (s.power.phase = .awake → Answers .powerStateEvaluation s fun t => ∃ q : PowerState, decides t q
        ∧ (if q.code ≤ 1 then t.power.phase = .awake ∧ t.power.state = q else t.power.phase = .entering q ∧ t.power.state = s.power.state))
      ∧ (∀ q₀, s.power.phase = .entering q₀ → Answers .powerStateEvaluation s fun t => ∃ q : PowerState, decides t q
        ∧ (if q.code ≤ 1 then t.power.phase = .awake ∧ t.power.state = q ∧ t.nat Key.powerLastWakeCause = 64
           else t.power.phase = .entering q ∧ t.power.state = s.power.state)))
    ∧ ((∃ c : Fin 4, (s.cores[c]).inWait = false) ∨ s.transactionPending = true →
      (s.power.phase = .awake → Answers .powerStateEvaluation s fun t => t = s)
      ∧ ∀ q₀, s.power.phase = .entering q₀ → Answers .powerStateEvaluation s fun t => t.power.phase = .awake ∧ t.power.state = .blaze
        ∧ t.nat Key.powerLastWakeCause = 64)

/-- The commit point: the module sleeps in the state entered, where what the decision rested on still stands, and abandons the entry where
it does not; entries into EMBER are counted and leave the record that a warm boot needs (R72, R77, R81, R82). -/
def Obligations.SleepEntryCommits : Prop :=
  ∀ s : State, s.power.noticeOut = false →
    (∀ q, s.power.phase = .entering q → s.entryHolds q = false → Answers .sleepEntryCommit s fun t =>
        t.power.phase = .awake ∧ t.power.state = .blaze ∧ t.nat Key.powerLastWakeCause = 64)
    ∧ (s.power.phase = .entering .ember → s.entryHolds .ember = true → Answers .sleepEntryCommit s fun t =>
        t.power.phase = .asleep .ember ∧ t.power.state = .ember ∧ t.power.retention = some s.retentionRecord
        ∧ t.nat Key.powerEMBEREntries = satSucc 32 (s.nat Key.powerEMBEREntries) ∧ t.clock.opFram = s.clock.op)
    ∧ (s.power.phase = .entering .banked → s.entryHolds .banked = true → Answers .sleepEntryCommit s fun t =>
        t.power.phase = .asleep .banked ∧ t.power.state = .banked ∧ t.front.ready = false ∧ t.clock.opFram = s.clock.op)

/-- Wake events, where 0x2200:03 enables them, a CAN port's as 0x36x0:0D arms it (any pattern, or a frame that meets its rule, R509): latched by AON after the commit point (CAN not in EMBER), an entry abandoned before it, and
the return to BLAZE from SIMMER; the wake causes are those bits (R76, R82). -/
def Obligations.WakeEvents : Prop :=
  ∀ (s : State) (aon : Nat) (n : Fin 4) (f : Option CanFrame) (wake : Instr),
    wake ∈ (match n with
      | 0 => [Instr.rtcAlarm aon] | 1 => [.wakeInput aon] | 2 => [.canWake 0 f aon] | _ => [.canWake 1 f aon]) →
    s.wakeEnabled n.val = true →
    (∀ b : Fin 2, n.val = 2 + b.val → s.nat (Key.canWakeMode b) = 1 ∨ s.nat (Key.canWakeMode b) = 2 ∧ f.any (s.wakeFrame b) = true) →
      (s.power.phase = .asleep .banked → Answers wake s fun t => t.power.phase = .asleep .banked
        ∧ t.power.latchedWake = setBit s.power.latchedWake n.val true ∧ t.clock.op = s.clock.op + aon * unitsPerAon)
      ∧ (s.power.phase = .asleep .ember → Answers wake s fun t => t.power.phase = .asleep .ember
        ∧ t.power.latchedWake = (if n.val < 2 then setBit s.power.latchedWake n.val true else s.power.latchedWake))
      ∧ (∀ q, s.power.phase = .entering q → Answers wake s fun t => t.power.phase = .awake ∧ t.power.state = .blaze
        ∧ t.nat Key.powerLastWakeCause = 2 ^ n.val + 64)
      ∧ (s.power.phase = .awake → s.power.state = .simmer → Answers wake s fun t => t.power.phase = .awake ∧ t.power.state = .blaze
        ∧ t.nat Key.powerLastWakeCause = 2 ^ n.val ∧ t.nat Key.powerPreviousState = 1)

/-- A latched wake takes the module back to BLAZE from BANKED; a brown-out asleep leaves it on the backup cell, from EMBER with its record
(R68, R77, R82). -/
def Obligations.WakesAndCellFallback : Prop :=
  ∀ s : State,
    (s.power.phase = .asleep .banked → s.power.latchedWake ≠ 0 → Answers .wakeFromBanked s fun t =>
        t.power.phase = .awake ∧ t.power.state = .blaze ∧ t.power.latchedWake = 0
        ∧ t.nat Key.powerLastWakeCause = s.power.latchedWake ∧ t.nat Key.powerPreviousState = 2)
    ∧ ∀ (aon : Nat) (q : PowerState), s.power.phase = .asleep q → Answers (.p1BrownOutAsleep aon) s fun t =>
        t.power.phase = .onCell q ∧ t.power.retention = (if q = .ember then s.power.retention else none) ∧ t.power.p1LostIn = some q
        ∧ t.sram = [] ∧ t.nat Key.powerLastWakeCause = 32 ∧ t.nat Key.supplyP1BrownOuts = satSucc 16 (s.nat Key.supplyP1BrownOuts)

/-- A start from reset release or after P1 returns: the operating time goes on while the module is held in reset (or is taken from FRAM when the always-on domain was lost), the
shared SRAM is empty, and the module runs unless a self-test failed or it is too hot; Kindling mode is the only other kind (R68, R71, R72,
R91, R94, R98, R104, R105). -/
def Obligations.StartsAndWarmBoots : Prop :=
  ∀ (s : State) (e : StartEnv),
    let started : Nat → State → Prop := fun kind t =>
      t.clock.op = (if e.aonLost then s.clock.opFram else s.clock.op + e.held * unitsPerAon) ∧ t.clock.tick = 0 ∧ t.sram = []
      ∧ (t.startup.kind = kind ∨ t.startup.kind = 3)
      ∧ t.power.phase = (if t.startup.halted ∨ t.startup.hotHold then .inReset else .awake)
      ∧ (e.selfTest = 0 → referenceFails e = false → startCool e = true → t.power.phase = .awake)
    (s.power.phase = .inReset → s.startup.hotHold = false → s.startup.halted = false →
        Answers (.coldStart e) s (started (if s.startup.trial then 2 else 0)))
    ∧ (s.power.phase = .onCell .banked → Answers (.coldStart e) s (started (if s.startup.trial then 2 else 0)))
    ∧ (∀ r, s.power.retention = some r → e.recordOk = true → e.aonLost = false → s.power.bankModified = false →
        (s.power.phase = .onCell .ember → Answers (.warmBoot e) s (started 1))
        ∧ (s.power.phase = .asleep .ember → s.power.latchedWake ≠ 0 → Answers (.warmBoot e) s (started 1)))
    ∧ (s.startup.hotHold = true → startCool e = false → Answers (.hotStartRecheck e) s fun t =>
        t.startup = s.startup ∧ t.power = s.power ∧ t.clock.op = s.clock.op + e.held * unitsPerAon)
    ∧ (s.startup.hotHold = true → startCool e = true → e.selfTest = 0 → referenceFails e = false → Answers (.hotStartRecheck e) s fun t =>
        t.startup.hotHold = false ∧ t.power.phase = .awake)

/-- A confirmed start has no cause and counts from 0 again; the Kindling commands and the automatic trial leave through a reset with the
start counter at 0, or two below the threshold (R97, R101, R107). -/
def Obligations.ConfirmationAndKindling : Prop :=
  ∀ (s : State) (p : Path),
    (Accepts s p Key.startConfirm 0x5A → s.startup.opened = true → s.startup.confirmed = false → s.process ≠ psInit → s.process ≠ psKindling →
        Answers (.confirm p) s fun t => t.startup.confirmed = true ∧ t.startup.cause = some 0
          ∧ (s.startup.restore = none → t.nat Key.startStartCounter = 0))
    ∧ (Accepts s p Key.startKindlingCommand 0x7E51 → Answers (.kindlingExit p) s fun t =>
        InReset s t ∧ t.nat Key.startStartCounter = 0 ∧ t.startup.trial = false)
    ∧ (Accepts s p Key.startKindlingCommand 0x7E52 → Answers (.kindlingTrial p) s fun t =>
        InReset s t ∧ t.nat Key.startStartCounter = s.nat Key.startKindlingThreshold - 2 ∧ t.startup.trial = true)
    ∧ (s.clocksRun = true → s.process = psKindling → s.nat Key.startAutomaticTrialInterval ≠ 0 → Answers .automaticTrial s fun t =>
        InReset s t ∧ t.nat Key.startStartCounter = s.nat Key.startKindlingThreshold - 2 ∧ t.startup.trial = true)

/-- The process commands that the state allows bring the process state R108 names; STOP and a fault reset leave every actuator channel off
and the drive commands at 0 (R108, R109, R136). -/
def Obligations.ProcessCommands : Prop :=
  ∀ (s : State) (p : Path),
    (Accepts s p Key.procCommand 1 → Answers (.arm p) s fun t => t.process = psArmed)
    ∧ (Accepts s p Key.procCommand 2 → Answers (.start p) s fun t => t.process = psRunning)
    ∧ (Accepts s p Key.procCommand 3 → Answers (.halt p) s fun t => t.process = psArmed)
    ∧ (Accepts s p Key.procCommand 4 → Answers (.stop p) s fun t => t.process = psStopped ∧ t.dict.watchdog.running = false
        ∧ (∀ a : Fin 20, (t.actUnit a).phase = .idle) ∧ ∀ d : Fin 16, t.get (Key.driveCommandApplied d) = 0)
    ∧ (Accepts s p Key.procCommand 5 → (s.startup.stoppedOnce = true ∨ s.startup.restore = none) → Answers (.resetFault p) s fun t => t.process = psStopped
        ∧ t.bitOf Key.bellowsGlobalStatus 0 = false ∧ t.startup.faultEvents = [] ∧ ∀ a : Fin 20, (t.actUnit a).phase = .idle)

/-- An NMT command addressed to the node, or to all, enters its state outside Kindling mode; a communication reset boots up again in
pre-operational (R110). -/
def Obligations.NmtCommands : Prop :=
  ∀ (s : State) (node : Fin 128), s.clocksRun = true → s.canopen.nmt ≠ 0 → (node = 0 ∨ node.val = s.nodeId) →
    (s.process ≠ psKindling →
      (Answers (.nmtStartRemoteNode node) s fun t => t = { s with canopen := { s.canopen with nmt := 5 } })
      ∧ (Answers (.nmtStopRemoteNode node) s fun t => t.canopen.nmt = 4 ∧ t.canopen.sdo = .idle ∧ t = { s with canopen := t.canopen })
      ∧ (Answers (.nmtEnterPreOperational node) s fun t => t = { s with canopen := { s.canopen with nmt := 127 } }))
    ∧ (s.process = psKindling → (Answers (.nmtStartRemoteNode node) s fun t => t = s) ∧ (Answers (.nmtStopRemoteNode node) s fun t => t = s))
    ∧ Answers (.nmtResetCommunication node) s fun t => t.canopen.nmt = 127 ∧ t.process = s.process ∧ t.acts = s.acts

/-- The host watchdog: its expiry brings LOST and the policies; a heartbeat of a host path restarts it, or ends LOST as the recovery mode
says; an acknowledgement ends AWAIT_ACK; without host paths the state is OFF (R136, R137, R139, R141). -/
def Obligations.HostWatchdog : Prop :=
  ∀ (s : State) (p : Path),
    (s.clocksRun = true → s.dict.watchdog.running = true → s.nat Key.lostState = 0 → s.watchdogCounts = true → Answers .hostWatchdogExpiry s fun t =>
        t.nat Key.lostState = 1 ∧ t.dict.policies = true ∧ t.dict.watchdog.running = false
        ∧ t.nat Key.lostExpiries = satSucc 16 (s.nat Key.lostExpiries))
    ∧ (∀ v : BitVec 16, Accepts s p Key.hbeatHeartbeat v.toNat → s.hostPath p = true →
        (s.nat Key.lostState = 0 → Answers (.heartbeat p v) s fun t => t.nat Key.lostState = 0 ∧ t.nat Key.hbeatHeartbeat = v.toNat
          ∧ t.nat Key.hbeatLastHeartbeatWriter = p.writer.code
          ∧ t.dict.watchdog = ⟨s.watchdogCounts, s.clock.tick, s.nat Key.hostTimeout, s.clock.tick⟩)
        ∧ (s.nat Key.lostState = 1 → Answers (.heartbeat p v) s fun t =>
            (s.nat Key.hostRecoveryMode = 1 → t.nat Key.lostState = 0 ∧ t.dict.policies = false)
            ∧ (s.nat Key.hostRecoveryMode ≠ 1 → t.nat Key.lostState = 2 ∧ t.dict.policies = s.dict.policies)))
    ∧ (Accepts s p Key.lostAcknowledge 1 → s.nat Key.lostState = 2 → Answers (.hostAcknowledge p) s fun t =>
        t.nat Key.lostState = 0 ∧ t.dict.policies = false)
    ∧ (∀ v : BitVec 8, Accepts s p Key.hostHostPaths v.toNat → v.toNat / 2 = 0 → s.nat Key.lostState < 3 → Answers (.hostPathsWrite p v) s fun t =>
        t.nat Key.lostState = 3 ∧ t.dict.watchdog.running = false)

/-- A mode switch: an overlay list that passes is stored whole; a request is pending for 32 ticks on; at its swap the mode is active, its
overlay in force and the switch counted (R145, R148, R149, R150). -/
def Obligations.ModeSwitches : Prop :=
  ∀ (s : State) (p : Path),
    (∀ (m : Fin 16) (data : List Byte), s.clocksRun = true → (∃ d, (s.touch p).checkWrite p (Key.overlayEntryList m.val) (.bytes data) = .ok d) →
        Answers (.overlayEntryListWrite p m data) s fun t => t.block (Key.overlayEntryList m.val) = data
          ∧ t = { s.acknowledged p with blk := t.blk })
    ∧ (∀ m : BitVec 8, Accepts s p Key.modeRequestedMode m.toNat → s.modeRefused m.toNat = none →
        Answers (.modeSwitchRequest p m) s fun t => t.nat Key.modeActiveMode = s.nat Key.modeActiveMode
          ∧ (if m.toNat = s.nat Key.modeActiveMode then t.dict.pending = none ∧ t.nat Key.modeSwitchStatus = 0
             else t.dict.pending = some ⟨m.toNat, s.clock.tick + 32, overlayValues (s.modeEntries m.toNat)⟩ ∧ t.nat Key.modeSwitchStatus = 1))
    ∧ (∀ q, s.dict.pending = some q → s.clocksRun = true → q.at_ ≤ s.clock.tick + 1 → s.dict.staged = [] →
        (∀ i ∈ s.flue.instances, i.staged = []) →
        Answers .modeSwitchSwap s fun t => t.dict.pending = none ∧ t.dict.active = q.entries ∧ t.nat Key.modeActiveMode = q.mode
          ∧ t.clock.tick = s.clock.tick)

/-- Actuator commands on a SWITCHED channel: OFF opens it; ON and PULSE start it when every check of R373 passes and the peak fits the
switch's budget, and are refused with the first check that fails; channels of other switches stay as they are (R372, R373, R381). -/
def Obligations.ActuatorCommands : Prop :=
  ∀ (s : State) (p : Path) (a : Fin 20), s.nat (Key.actMode a) = 1 →
    let others : State → Prop := fun t => ∀ b : Fin 20, switchOf b ≠ switchOf a → t.actUnit b = s.actUnit b
    (Accepts s p (Key.actCommand a) 0 → s.policiesActive = false → s.process ≠ psFault → Answers (.actuatorCommandOff p a) s fun t =>
        (t.actUnit a).phase = .idle ∧ (t.actUnit a).pulse = false ∧ t.nat (Key.actCommand a) = 0 ∧ others t
        ∧ (t.actUnit a).decaying = ((s.actUnit a).decaying || (s.actUnit a).phase.active))
    ∧ ((s.actUnit a).phase = .idle → s.outputsReset = false → s.actCheck a false = none →
        s.nat (Key.actPeakCurrent a) * unitsPerMa + s.partnerClaim a ≤ s.budget a →
        (Accepts s p (Key.actCommand a) 1 → Answers (.actuatorCommandOn p a) s fun t =>
            (t.actUnit a).phase = .starting ∧ (t.actUnit a).pulse = false ∧ t.nat (Key.actCommand a) = 1 ∧ others t)
        ∧ (Accepts s p (Key.actCommand a) 2 → Answers (.actuatorCommandPulse p a) s fun t =>
            (t.actUnit a).phase = .starting ∧ (t.actUnit a).pulse = true ∧ t.nat (Key.actCommand a) = 2 ∧ others t))
    ∧ (∀ r : Nat, (s.actUnit a).phase = .idle → s.outputsReset = false → s.actCheck a false = some r → Accepts s p (Key.actCommand a) 1 →
        Answers (.actuatorCommandOn p a) s fun t => (t.actUnit a).phase = .idle ∧ t.nat (Key.actCommand a) = 0
          ∧ t.nat (Key.actLastRefusal a) = r ∧ t.nat (Key.actRefusals a) = satSucc 32 (s.nat (Key.actRefusals a)) ∧ others t)

/-- The phases of an activation: start, peak, dwell, hold; a pulse and the maximum on-time end it; the decay is measured (R372, R375,
R378). -/
def Obligations.ActivationPhases : Prop :=
  ∀ (s : State) (a : Fin 20), s.clocksRun = true → let u := s.actUnit a; let v := s.actView a
    (u.phase = .starting → Answers (.activationStart a) s fun t => (t.actUnit a).phase = .rise
        ∧ t.nat (Key.actActivations a) = satSucc 32 (s.nat (Key.actActivations a)) ∧ ∀ b, b ≠ a → t.actUnit b = s.actUnit b)
    ∧ (∀ (us : Nat) (samples : List (Nat × Nat)), u.phase = .rise → v.nat (Key.actPeakTimeMinimum a) ≤ us → v.nat (Key.actMovementWindowEnd a) = 0 →
        Answers (.peakReached a us samples) s fun t => t.nat (Key.actLastRiseTime a) = us
          ∧ (t.actUnit a).phase = (if v.nat (Key.actPeakDwell a) = 0 then .hold else .dwell))
    ∧ (u.phase = .dwell → Answers (.dwellEnd a) s fun t => (t.actUnit a).phase = .hold)
    ∧ (u.phase.active = true → u.pulse = true → u.bySafe = false → Answers (.pulseEnd a) s fun t =>
        (t.actUnit a).phase = .idle ∧ (t.actUnit a).decaying = true ∧ t.nat (Key.actCommand a) = 0)
    ∧ (u.phase.active = true → u.phase ≠ .regulating → v.nat (Key.actMaximumOnTime a) ≠ 0 → Answers (.maximumOnTime a) s fun t =>
        (t.actUnit a).phase = .idle ∧ (t.actUnit a).decaying = true ∧ t.nat (Key.actCommand a) = 0)
    ∧ (∀ us : Nat, u.decaying = true → Answers (.decayComplete a us) s fun t =>
        Moves { s with acts := t.acts } t [Key.actLastDecayTime a] ∧ t.nat (Key.actLastDecayTime a) = us
        ∧ t.actUnit a = { u with decaying := false } ∧ ∀ b, b ≠ a → t.actUnit b = s.actUnit b)

/-- A rise outside its window faults the channel, PEAK_SHORT or PEAK_LONG; a window that ends with no dip is NO_MOVE; a deferral that runs
out is an overlap refusal (R381, R384, R385, R396). -/
def Obligations.ActivationFailures : Prop :=
  ∀ (s : State) (a : Fin 20), s.clocksRun = true → let u := s.actUnit a; let v := s.actView a
    (∀ (us : Nat) (samples : List (Nat × Nat)), u.phase = .rise → us < v.nat (Key.actPeakTimeMinimum a) → s.nat (Key.actFaultCause a) = 0 →
        Answers (.peakReached a us samples) s fun t => (t.actUnit a).phase = .idle ∧ t.nat (Key.actFaultCause a) = 1
          ∧ t.nat (Key.actPeakTimeFaults a) = satSucc 32 (s.nat (Key.actPeakTimeFaults a)))
    ∧ (u.phase = .rise → s.nat (Key.actFaultCause a) = 0 → Answers (.peakTimeMaximum a) s fun t =>
        (t.actUnit a).phase = .idle ∧ t.nat (Key.actFaultCause a) = 2
        ∧ t.nat (Key.actPeakTimeFaults a) = satSucc 32 (s.nat (Key.actPeakTimeFaults a)))
    ∧ (u.phase = .rise → v.nat (Key.actMovementWindowEnd a) ≠ 0 → u.judged = false → Answers (.movementWindowEnd a) s fun t =>
        (t.actUnit a).judged = true ∧ (t.actUnit a).moved = false ∧ t.nat (Key.actLastMovementTime a) = 0xFFFFFFFF
        ∧ t.nat (Key.actMovementFailures a) = satSucc 32 (s.nat (Key.actMovementFailures a))
        ∧ (v.nat (Key.actMovementAction a) = 1 → (t.actUnit a).phase = .idle))
    ∧ (u.phase = .deferred → Answers (.deferralTimeout a) s fun t => (t.actUnit a).phase = .idle ∧ t.nat (Key.actCommand a) = 0
        ∧ t.nat (Key.actLastRefusal a) = 10 ∧ t.nat (Key.actRefusals a) = satSucc 32 (s.nat (Key.actRefusals a))
        ∧ t.nat (Key.hsOverlapRefusals (switchOf a)) = satSucc 32 (s.nat (Key.hsOverlapRefusals (switchOf a))))

/-- A PROPORTIONAL channel regulates its capped and limited target, and is off below 50 mA; the 1 ms update keeps 600 s of activity and
sets the duty limit; the P2 current limit has its two thresholds (R374, R377, R383, R387, R389). -/
def Obligations.ProportionalDutyAndLimit : Prop :=
  ∀ s : State, s.clocksRun = true →
    (∀ a : Fin 20, s.nat (Key.actMode a) = 2 → (s.actUnit a).blocked = false → s.permitAbsent a = false → s.p2Lost = false →
      let asked := s.propAsked a
      let capped := if asked < 50 * unitsPerMa then asked else s.capTarget a asked
      let want := min capped (s.budget a - s.partnerClaim a)
      (want < 50 * unitsPerMa → (s.actUnit a).phase = .regulating → Answers (.proportionalSetpointApply a) s fun t => (t.actUnit a).phase = .idle)
      ∧ (50 * unitsPerMa ≤ want → (s.actUnit a).phase = .regulating → Answers (.proportionalSetpointApply a) s fun t =>
          (t.actUnit a).phase = .regulating ∧ (t.actUnit a).target = want)
      ∧ (50 * unitsPerMa ≤ want → (s.actUnit a).phase = .idle → s.actCheck a s.policiesActive = none →
          Answers (.proportionalSetpointApply a) s fun t => (t.actUnit a).phase = .regulating ∧ (t.actUnit a).target = want
            ∧ t.nat (Key.actActivations a) = satSucc 32 (s.nat (Key.actActivations a))))
    ∧ (Answers .dutyUpdate s fun t => ∀ a : Fin 20, let u := s.actUnit a
        let w := s.nat (Key.actDutyWindow a) * 1000
        let runs := takeRuns 600000 (pushRun u.phase.active 600000 u.duty)
        let used := activeMs (takeRuns w runs) * 100000000
        let limit := s.nat (Key.actDutyLimit a) * s.derating * (if s.bankThrottled (switchOf a) then 70 else 100) * w
        (t.actUnit a).phase = u.phase ∧ (t.actUnit a).duty = runs
        ∧ ((t.actUnit a).dutyLimited = true ↔ s.nat (Key.actMode a) = 1
            ∧ (if u.dutyLimited = true then limit ≤ used + s.nat (Key.actDutyHysteresis a) * 1000000 * w else limit ≤ used)))
    ∧ ∀ mean : Nat, let f := s.derating
      (s.acts.supplyLimited = false → 25000 * f < mean * 10000 → Answers (.p2CurrentLimitEvaluation mean) s fun t =>
          Moves { s with acts := { s.acts with supplyLimited := true } } t [] ∧ (s.logOpen → t.lastLogged 0x0607 noSource noSource 0 0))
      ∧ (s.acts.supplyLimited = true → mean * 10000 < 23000 * f → Answers (.p2CurrentLimitEvaluation mean) s fun t =>
          t = { s with acts := { s.acts with supplyLimited := false } })
      ∧ (s.acts.supplyLimited = true → 23000 * f ≤ mean * 10000 → Answers (.p2CurrentLimitEvaluation mean) s fun t => t = s)

/-- A permit that goes absent opens every channel of its class and is counted; its return restarts nothing (R390). -/
def Obligations.PermitsForceOff : Prop :=
  ∀ (s : State) (w : Fin 2), s.clocksRun = true → let bit := if w = 0 then 3 else 2
    (s.bitOf Key.inputsInputLevels bit = true → Answers (.permitLost w) s fun t => t.bitOf Key.inputsInputLevels bit = false
        ∧ (∀ a : Fin 20, s.nat (Key.actClass a) = w.val + 1 → (t.actUnit a).phase = .idle ∧ t.nat (Key.actCommand a) = 0)
        ∧ (∀ a : Fin 20, (∀ b, switchOf b = switchOf a → s.nat (Key.actClass b) ≠ w.val + 1) → t.actUnit a = s.actUnit a)
        ∧ (w = 0 → t.nat Key.inputsSAFETYOKLosses = satSucc 32 (s.nat Key.inputsSAFETYOKLosses))
        ∧ (w = 1 → t.nat Key.inputsHEATPERMITLosses = satSucc 32 (s.nat Key.inputsHEATPERMITLosses)))
    ∧ Answers (.permitRestored w) s fun t => t.bitOf Key.inputsInputLevels bit = true ∧ t.acts = s.acts
        ∧ ∀ a : Fin 20, t.nat (Key.actCommand a) = s.nat (Key.actCommand a)

/-- Switch and channel faults open what they name and keep their first cause; a fault reset clears the cause and restarts nothing (R380,
R396). -/
def Obligations.DriverFaults : Prop :=
  ∀ (s : State) (p : Path), s.clocksRun = true →
    (∀ h : Fin 10, s.hsFaulty h = false →
      let tripped : Nat → State → Prop := fun cause t => t.nat (Key.hsFaultCause h) = cause
        ∧ (t.actUnit (evenOf h)).phase = .idle ∧ (t.actUnit (oddOf h)).phase = .idle ∧ t.nat (Key.hsFaults h) = satSucc 32 (s.nat (Key.hsFaults h))
      (s.switchOn h = true → Answers (.hsOvercurrent h) s (tripped 1) ∧ Answers (.commonShort h) s (tripped 2))
      ∧ (s.switchOn h = false → Answers (.stuckOn h) s (tripped 3)) ∧ Answers (.hsOvertemp h) s (tripped 4))
    ∧ (∀ a : Fin 20, let g := s.governing a; s.actFaulty g = false →
      ((s.actUnit g).phase.active = true → Answers (.lsOvercurrent a) s fun t => t.nat (Key.actFaultCause g) = 4 ∧ (t.actUnit g).phase = .idle)
      ∧ ((s.actUnit g).phase.active = false → s.hsFaulty (switchOf g) = false → Answers (.lsStuck a) s fun t =>
          t.nat (Key.actFaultCause g) = 5 ∧ t.nat (Key.hsFaultCause (switchOf g)) = 5
          ∧ (t.actUnit (evenOf (switchOf g))).phase = .idle ∧ (t.actUnit (oddOf (switchOf g))).phase = .idle)
      ∧ ((s.actUnit g).phase = .hold → 100 * unitsPerMa ≤ s.claim g → Answers (.openLoad a) s fun t =>
          t.nat (Key.actFaultCause g) = 6 ∧ (t.actUnit g).phase = .idle))
    ∧ (∀ a : Fin 20, Accepts s p (Key.actFaultReset a) 1 → Answers (.actuatorFaultReset p a) s fun t =>
        Only { s.acknowledged p with acts := t.acts } t [Key.actFaultCause a] ∧ t.nat (Key.actFaultCause a) = 0
        ∧ (∀ b, (t.actUnit b).phase = (s.actUnit b).phase))
    ∧ ∀ h : Fin 10, Accepts s p (Key.hsFaultReset h) 1 → Answers (.switchFaultReset p h) s fun t =>
        Only { s.acknowledged p with acts := t.acts } t [Key.hsFaultCause h] ∧ t.nat (Key.hsFaultCause h) = 0
        ∧ ∀ b, (t.actUnit b).phase = (s.actUnit b).phase

/-- Drive supervision: a start times out into RETRY_WAIT or, after the last retry, BLOCKED; the next attempt starts after the back-off; a
tach pulse brings RUNNING; a lost tach OPEN_LOOP, or STALL where RUNNING feedback says otherwise; all suspended while P2 is lost (R408,
R410, R411, R413). -/
def Obligations.DriveSupervision : Prop :=
  ∀ (s : State) (d : Fin 16), s.clocksRun = true → s.nat (Key.drivePulsesPerRevolution d) ≠ 0 → s.nat (Key.driveMode d) ≠ 0 → s.outputsReset = false →
    s.policiesActive = false → s.process ≠ psFault → s.nat (Key.driveCommandSource d) ≠ 1 → s.loopsNaming 1 d = [] →
    0 < s.get (Key.driveManualCommand d) →
    (s.nat (Key.driveState d) = driveStarting → s.p2Lost = false → Answers (.startTimeout d) s fun t =>
        t.nat (Key.driveState d) = (if s.nat (Key.driveStartAttempt d) ≤ s.nat (Key.driveStartRetries d) then driveRetryWait else driveBlocked)
        ∧ t.get (Key.driveCommandApplied d) = 0)
    ∧ (s.nat (Key.driveState d) = driveStarting → s.p2Lost = true → Answers (.startTimeout d) s fun t => t = s)
    ∧ (s.nat (Key.driveState d) = driveRetryWait → s.p2Lost = false → Answers (.retryBackoffEnd d) s fun t =>
        t.nat (Key.driveState d) = driveStarting ∧ t.nat (Key.driveStartAttempt d) = s.nat (Key.driveStartAttempt d) + 1)
    ∧ (s.nat (Key.driveState d) = driveStarting ∨ s.nat (Key.driveState d) = driveOpenLoop ∨ s.nat (Key.driveState d) = driveStall →
        Answers (.tachPulse d none) s fun t => t.nat (Key.driveState d) = driveRunning)
    ∧ (s.nat (Key.driveState d) = driveRunning → 0 < s.get (Key.driveCommandApplied d) → s.p2Lost = false →
        s.nat (Key.driveRUNNINGInput d) ≠ 0xFF → s.runningFb d = true →
        0 < s.get (Key.driveLastGoodDuty d) → Answers (.tachLoss d) s fun t =>
        t.nat (Key.driveState d) = driveOpenLoop ∧ t.nat (Key.driveTachLosses d) = satSucc 32 (s.nat (Key.driveTachLosses d)))

/-- Drive fault reset, the sensor supply's overcurrent, the current output's loop fault, and the setpoint input's fault and readings (R408,
R412, R421, R425). -/
def Obligations.OutputAndInputFaults : Prop :=
  ∀ (s : State) (p : Path), s.clocksRun = true →
    (∀ d : Fin 16, Accepts s p (Key.driveFaultReset d) 1 → Answers (.driveFaultReset p d) s fun t =>
        t.bitOf (Key.driveStatus d) 8 = false ∧ (s.nat (Key.driveState d) = driveBlocked → t.nat (Key.driveState d) = driveIdle)
        ∧ (s.nat (Key.driveState d) ≠ driveBlocked → t.nat (Key.driveState d) = s.nat (Key.driveState d)))
    ∧ (∀ (d : Fin 16) (mA : Nat), 150 < mA → s.bitOf (Key.driveStatus d) 8 = false → s.p2Lost = false → Answers (.sensorSupplyOvercurrent d mA) s fun t =>
        Moves s t [Key.driveStatus d, Key.driveSensorSupplyCurrent d] ∧ t.bitOf (Key.driveStatus d) 8 = true
        ∧ t.nat (Key.driveSensorSupplyCurrent d) = 0 ∧ (s.logOpen → t.lastLogged 0x0706 d d 0 0))
    ∧ (∀ (k : Fin 8) (mA : Word), (s.putW (Key.coutReadback k) mA).outputNear k = false → flt (s.word (Key.coutTarget k)) mA35 = false →
        s.bitOf (Key.coutStatus k) 1 = false → s.bitOf (Key.coutStatus k) 2 = false → Answers (.currentOutputLoopFault k mA) s fun t =>
        Moves s t [Key.coutReadback k, Key.coutStatus k, Key.coutLoopFaults k]
        ∧ t.bitOf (Key.coutStatus k) (if flt mA mA1 = true then 1 else 2) = true
        ∧ t.nat (Key.coutLoopFaults k) = satSucc 32 (s.nat (Key.coutLoopFaults k)))
    ∧ (∀ i : Fin 2, s.nat (Key.setpMode i) = 2 → setpOutside (s.word (Key.setpRawValue i)) = true → s.flag (Key.setpFault i) = false →
        Answers (.setpointInputFault i) s fun t => Moves s t [Key.setpFault i] ∧ t.flag (Key.setpFault i) = true
          ∧ (s.logOpen → t.lastLogged 0x0707 i i 0 0))
    ∧ ∀ (i : Fin 2) (raw : Word), s.nat (Key.setpMode i) ≠ 0 →
        (s.nat (Key.setpMode i) = 2 → setpOutside raw = true → Answers (.setpointInputUpdate i raw) s fun t =>
          Only s t [Key.setpRawValue i] ∧ t.word (Key.setpRawValue i) = raw)
        ∧ ((s.nat (Key.setpMode i) = 2 → setpOutside raw = false) → Answers (.setpointInputUpdate i raw) s fun t =>
          Only { s with free := t.free } t [Key.setpRawValue i, Key.setpFault i, Key.setpValueQ15 i, Key.setpValue i]
          ∧ t.word (Key.setpRawValue i) = raw ∧ t.flag (Key.setpFault i) = false)

/-- Pulse inputs: the filtered level follows; in COUNT mode a counted edge advances the count, modulo 2^32; a gate's edges make the
frequency; the zero time brings 0; a reset clears the count (R422, R423, R424). -/
def Obligations.PulseInputs : Prop :=
  ∀ (s : State) (q : Fin 8), s.clocksRun = true →
    (∀ (high : Bool) (period : Option Nat), s.flag (Key.pulseLevel q) ≠ high →
        (edgeCounts (s.nat (Key.pulseEdge q)) high = false → Answers (.pulseEdge q high period) s fun t =>
          Only s t [Key.pulseLevel q] ∧ t.flag (Key.pulseLevel q) = high)
        ∧ (edgeCounts (s.nat (Key.pulseEdge q)) high = true → s.nat (Key.pulseMode q) = 3 → Answers (.pulseEdge q high period) s fun t =>
          Moves { s with free := t.free } t [Key.pulseLevel q, Key.pulseCount q, Key.pulseCountQ15 q] ∧ t.flag (Key.pulseLevel q) = high
          ∧ t.nat (Key.pulseCount q) = (s.nat (Key.pulseCount q) + 1) % 2 ^ 32)
        ∧ (edgeCounts (s.nat (Key.pulseEdge q)) high = true → s.nat (Key.pulseMode q) = 1 → Answers (.pulseEdge q high period) s fun t =>
          (t.outputs.pulses[q]).gate = (s.outputs.pulses[q]).gate + 1))
    ∧ (s.nat (Key.pulseMode q) = 1 → Answers (.frequencyGateEnd q) s fun t =>
        t.word (Key.pulseFrequency q) = fofRatio (Int.ofNat (1000 * (s.outputs.pulses[q]).gate)) (s.nat (Key.pulseGateTime q))
        ∧ (t.outputs.pulses[q]).gate = 0 ∧ (t.outputs.pulses[q]).ageTick = some s.clock.tick)
    ∧ (s.nat (Key.pulseMode q) ≠ 0 → Answers (.pulseZeroTime q) s fun t =>
        Moves s t [Key.pulseFrequency q, Key.pulseFrequencyQ15 q] ∧ t.get (Key.pulseFrequency q) = 0 ∧ t.get (Key.pulseFrequencyQ15 q) = 0)
    ∧ ∀ p : Path, Accepts s p (Key.pulseCountReset q) 1 → Answers (.countReset p q) s fun t => t.nat (Key.pulseCount q) = 0
        ∧ Only { s.acknowledged p with free := t.free } t [Key.pulseCount q, Key.pulseCountQ15 q]

/-- A due time and an on-demand request wait while the core's slot runs, merged into the one pending, delayed by a source that blanks the
channel; on an idle core the one channel due takes its slot, on the values in force before a commit of the same cycle; the settling ends, the lead check, the power-up of the front end and TXSUP
(R159, R163, R178-R182, R184, R186, R190, R196, R206). -/
def Obligations.SensorSlots : Prop :=
  ∀ (s : State) (p : Path), s.clocksRun = true →
    (∀ (n : Fin 64) (t : Nat), let c := s.front.channels[n]; let v := coreOfChannel n
      chanLive s.get n.val = true → (s.front.converters[v]).slot.isSome = true →
      (s.front.scanning = true → s.nat (Key.chanScanPeriod n.val) ≠ 0 → c.lastScan ≠ some t →
        (∀ m : Fin 64, coreOfChannel m = v → m ≠ n → s.dueAt m t = false) →
        (c.due = none → s.blanked n.val = false → Answers (.scanDue n t) s fun u =>
            u = (s.senseAt t).setChannel n fun c => { c with lastScan := some t, due := some ⟨t, 0, false, false, true, false⟩ })
        ∧ (c.due = none → s.blanked n.val = true → Answers (.scanDue n t) s fun u =>
            u = (s.senseAt t).setChannel n fun c =>
              { c with lastScan := some t, due := some ⟨t, 0, false, true, true, false⟩, lastBlank := s.blankerOf n.val })
        ∧ (∀ d : Due, c.due = some d → s.blanked n.val = false → d.scan = true → d.held = false → Answers (.scanDue n t) s fun u =>
            u = (s.senseAt t).setChannel n fun c => { c with lastScan := some t, due := some { d with missed := d.missed + 1, late := true } })
        ∧ (∀ d : Due, c.due = some d → s.blanked n.val = false → d.scan = false → Answers (.scanDue n t) s fun u =>
            u = (s.senseAt t).setChannel n fun c => { c with lastScan := some t, due := some { d with scan := true, at_ := min d.at_ t } })
        ∧ (∀ d : Due, c.due = some d → d.scan = true → d.held = true → Answers (.scanDue n t) s fun u =>
            (u.front.channels[n]).ignoreBlank = true ∧ (u.front.channels[n]).starvedLogged = true
            ∧ (c.starvedLogged = false → s.logOpen → u.lastLogged 0x0304 n.val n.val c.lastBlank)))
      ∧ (Accepts s p (Key.chanConvertNow n.val) 1 → s.blanked n.val = false → Answers (.convertNow p n t) s fun u =>
          u = (s.acknowledged p).setChannel n fun c => { c with due := some (match c.due with
            | none => ⟨t, 0, false, false, false, false⟩
            | some d => { d with at_ := min d.at_ t }) }))
    ∧ (∀ (n : Fin 64) (t : Nat), let v := coreOfChannel n
      chanLive s.get n.val = true → s.canScan = true → s.nat (Key.chanScanPeriod n.val) ≠ 0 → s.nat (Key.chanSensorType n.val) ≠ 5 →
      s.blanked n.val = false → (s.front.converters[v]).slot = none → (s.front.converters[v]).refRunning = false →
      (s.front.converters[v]).refDue = none → (∀ m : Fin 64, coreOfChannel m = v → (s.front.channels[m]).due = none) →
      (s.front.channels[n]).lastScan ≠ some t → (∀ m : Fin 64, coreOfChannel m = v → m ≠ n → s.dueAt m t = false) →
      let before := overlayView s.get s.front.replaced
      let w := if s.front.laidAt = max t s.tickTime ∧ chanLive before n.val = true then before else s.get
      Answers (.scanDue n t) s fun u => (u.front.channels[n]).due = none
        ∧ ∃ sl, (u.front.converters[v]).slot = some sl ∧ sl.chan = n ∧ sl.due.at_ = t ∧ sl.phase = 0 ∧ sl.stale = false
          ∧ sl.convs = convsOf w n.val ∧ sl.mask = blankMaskOf w n.val ∧ sl.frozen = frozenSet w n.val
          ∧ (s.front.laidAt ≠ max t s.tickTime → u.nat (Key.chanRangeNow n.val) = s.startRange n ∧ sl.range = s.startRange n)
          ∧ ∀ e, s.front.laidAt = max t s.tickTime → chanLive before n.val = true →
              s.front.replaced.find? (fun e => e.1 == Key.chanRangeNow n.val) = some e →
              sl.range = e.2.toNat ∧ u.nat (Key.chanRangeNow n.val) = s.nat (Key.chanRangeNow n.val))
    ∧ (∀ (v : Fin 8) (sl : Slot), (s.front.converters[v]).slot = some sl → sl.phase = 0 →
        Answers (.conversionStart v) s (fun u => u = s.setConverter v fun k => { k with slot := some { sl with phase := 1 }, lastGain := some sl.range })
        ∧ (∀ fail : Bool, sl.leadCheck = true → Answers (.leadCheckEnd v fail) s fun u =>
            u = s.setChannel sl.chan fun c => { c with leadFail := fail }))
    ∧ (∀ t : Nat, Answers (.frontEndReady t) s fun u => u.front.ready = true ∧ ∀ n : Fin 64,
        (u.front.channels[n]).result = (s.front.channels[n]).result)
    ∧ ∀ (n : Fin 64) (t : Nat), s.nat (Key.chanSensorType n.val) = 5 → s.flag (Key.chanEnable n.val) = true →
        (s.front.converters[coreOfChannel n]).slot.isSome = true → Answers (.txsupReady n t) s fun u =>
        u = s.setChannel n fun c => { c with txReady := true }

/-- A conversion ends: a clip above range 0 in AUTO makes the one retake, the first of a pair is kept, the last leaves the raw word; a
blanking source aborts the slots that select it, but one whose last conversion ends in the same cycle, and stops blanking after its maximum,
unless it goes out of effect in that cycle; the reference check keeps its error and REF_FAIL
(R159, R169, R171, R174, R176, R186-R188, R190-R192). -/
def Obligations.ConversionsAndBlanking : Prop :=
  ∀ (s : State) (p : Path), s.clocksRun = true →
    (∀ (v : Fin 8) (r : Reading) (t : Nat) (sl : Slot), (s.front.converters[v]).slot = some sl → sl.phase ≠ 0 →
      let retake := sl.auto && readingClipped r && decide (0 < sl.range) && !sl.retaken
      let code := match sl.first with
        | none => r.code
        | some c => if sl.lead = 1 then halfAway (c.1 + r.code) else halfAway (c.1 - r.code)
      (retake = true → Answers (.conversionEnd v r t) s fun u =>
        Only { s with front := u.front } u [Key.convOverranges v.val, Key.chanRetakes sl.chan.val]
        ∧ u.nat (Key.chanRetakes sl.chan.val) = satSucc 32 (s.nat (Key.chanRetakes sl.chan.val))
        ∧ u.front = ((s.senseAt t).setConverter v fun k => { k with slot := some { sl with
            phase := 0, range := 0, retaken := true, first := none, clipSeen := false, openSeen := sl.openSeen || r.circuitOpen, length := sl.length + sl.convUs + 20 } }).front)
      ∧ (retake = false → sl.phase < sl.convs → Answers (.conversionEnd v r t) s fun u =>
        Only { s with front := u.front } u [Key.convOverranges v.val]
        ∧ ∃ x : Slot, (u.front.converters[v]).slot = some x ∧ x.phase = 2 ∧ x.first = some (r.code, r.inPhase) ∧ x.chan = sl.chan
          ∧ x.openSeen = (sl.openSeen || r.circuitOpen) ∧ x.clipSeen = readingClipped r)
      ∧ (retake = false → sl.convs ≤ sl.phase → sl.discard = false → sl.kind ≠ 6 → Answers (.conversionEnd v r t) s fun u =>
        u.nat (Key.convSlots v.val) = satSucc 32 (s.nat (Key.convSlots v.val))
        ∧ u.nat (Key.chanLastSlotLength sl.chan.val) = sl.length + sl.convUs
        ∧ ∃ x : RawResult, (u.front.channels[sl.chan]).result = some x ∧ x.secondary = 0 ∧ x.ratio = 0 ∧ x.endTime = t
          ∧ x.primary = rawWord (code24 code) (rawFlags sl.range (sl.stale || sl.unblanked) (sl.due.delayed || sl.unblanked)
              (sl.kind != 4 && (r.circuitOpen || sl.openSeen)) sl.retaken (readingClipped r || sl.clipSeen))))
    ∧ (∀ (i : Fin 2) (high : Bool) (t : Nat), let low := s.flag (if i.val = 0 then Key.inputsBLANK0Polarity else Key.inputsBLANK1Polarity)
        Answers (.blankInputChange i high t) s fun u => u.bitOf Key.inputsInputLevels i.val = high
          ∧ u.front.inEffect.testBit i.val = (high != low)
          ∧ (s.front.inEffect.testBit i.val = false → (high != low) = true → ∀ (v : Fin 8) (sl : Slot), (s.front.converters[v]).slot = some sl →
              sl.mask.testBit i.val = true → sl.unblanked = false →
              (s.endsAt v sl (max t s.tickTime) = false → sl.start ≠ t ∨ sl.phase ≠ 0 ∨ sl.retaken = true →
                u.nat (Key.convSlotsAborted v.val) = satSucc 32 (s.nat (Key.convSlotsAborted v.val)))
              ∧ (s.endsAt v sl (max t s.tickTime) = true → sl.phase ≠ 0 → (u.front.converters[v]).slot = some sl
                ∧ u.nat (Key.convSlotsAborted v.val) = s.nat (Key.convSlotsAborted v.val))))
    ∧ (∀ (src : Fin 38) (t : Nat), s.releasesAt src.val t = true → Answers (.blankMaxDuration src t) s fun u => u = s)
    ∧ (∀ (src : Fin 38) (t : Nat), s.front.inEffect.testBit src.val = true → s.front.timedOut.testBit src.val = false →
        s.releasesAt src.val t = false →
        Answers (.blankMaxDuration src t) s fun u => u.front.timedOut.testBit src.val = true ∧ u.front.inEffect = s.front.inEffect
          ∧ (s.logOpen → u.lastLogged 0x0303 src.val src.val))
    ∧ (∀ (v : Fin 8) (t : Nat), Accepts s p (Key.convReferenceCheck v.val) 1 → (s.front.converters[v]).slot.isSome = true →
        Answers (.referenceCheck p v t) s fun u =>
          u = (s.acknowledged p).setConverter v fun k => { k with refDue := some (k.refDue.getD t) })
    ∧ ∀ (v : Fin 8) (ppm : Int) (t : Nat), (s.front.converters[v]).refRunning = true → (s.front.converters[v]).refDue = none →
        Answers (.referenceCheckEnd v ppm t) s fun u => (u.front.converters[v]).refRunning = false
          ∧ u.get (Key.convReferenceError v.val) = ppm ∧ u.bitOf (Key.convCoreStatus v.val) 2 = decide (500 < ppm.natAbs)
          ∧ (500 < ppm.natAbs → s.logOpen → u.lastLogged 0x0305 v.val v.val)

/-- A published result takes its raw words and its input quantity to the dictionary and moves the channel's state, counts and value as the
table of R208 gives them (R174, R196, R197, R202, R208-R210). -/
def Obligations.ResultsAndChannelStates : Prop :=
  ∀ (s : State) (n : Fin 64) (r : RawResult) (w : Nat), s.clocksRun = true → (s.front.channels[n]).result = some r → chanLive s.get n.val = true →
    let f : View := overlayView s.get r.frozen
    let comp := s.companion f n.val w
    let u := inputQuantity f n.val r
    let y := linearise f n.val u comp.1
    let hard := hardReasons f n.val r u y
    let soft := match y with
      | some y => if hard = 0 then s.softReasons f n r y comp.2 else 0
      | none => 0
    let st := s.nat (Key.chanState n.val)
    let hc := s.nat (Key.chanHardCount n.val)
    let cc := s.nat (Key.chanCleanCount n.val)
    let K := f.nat (Key.coefConfirmationCount n.val)
    let N := f.nat (Key.coefRecoveryCount n.val)
    let is (t : State) (state : Nat) (value : Word) (hardCount cleanCount : Nat) : Prop := t.nat (Key.chanState n.val) = state
      ∧ t.word (Key.chanValue n.val) = value ∧ t.nat (Key.chanHardCount n.val) = hardCount ∧ t.nat (Key.chanCleanCount n.val) = cleanCount
    Answers (.resultPublish ⟨n, w⟩) s fun t => (t.front.channels[n]).result = none
      ∧ t.word (Key.chanRawSample n.val) = r.primary ∧ t.word (Key.chanRawSecondary n.val) = r.secondary
      ∧ t.word (Key.chanRawRatio n.val) = r.ratio ∧ t.word (Key.chanInputQuantity n.val) = u
      ∧ t.nat (Key.chanResults n.val) = satSucc 32 (s.nat (Key.chanResults n.val))
      ∧ (hard = 0 → soft = 0 → st = chanOk ∨ st = chanSuspect → is t chanOk (y.getD 0) 0 cc)
      ∧ (hard = 0 → soft ≠ 0 → st = chanOk ∨ st = chanSuspect → is t chanSuspect (y.getD 0) 0 cc)
      ∧ (hard ≠ 0 → st = chanOk ∨ st = chanSuspect → hc + 1 < K → is t chanSuspect (s.word (Key.chanValue n.val)) (hc + 1) cc)
      ∧ (hard ≠ 0 → st = chanOk ∨ st = chanSuspect → K ≤ hc + 1 → is t chanBroken (s.substitute f n) 0 cc)
      ∧ (hard ≠ 0 ∨ soft ≠ 0 → st = chanBroken → is t chanBroken (s.substitute f n) hc 0)
      ∧ (hard = 0 → soft = 0 → st = chanBroken → cc + 1 < N → is t chanBroken (s.substitute f n) hc (cc + 1))
      ∧ (hard = 0 → soft = 0 → st = chanBroken → N ≤ cc + 1 → is t chanOk (y.getD 0) hc 0)

/-- The Bellows commands: fault reset, HOLD request, mode, learner clear, trace, tick count, the rewrite of an uncorrectable word, and the
passing of a tick with nothing committed, at whose start steps of Kelsis that ended are published (R238, R243, R249, R256, R264, R265, R279, R291). -/
def Obligations.BellowsCommands : Prop :=
  ∀ (s : State) (p : Path), let b := s.acknowledged p
    (∀ l : Fin 64,
      (Accepts s p (Key.loopFaultReset l) 1 → Answers (.loopFaultReset p l) s fun t =>
        t = if s.nat (Key.loopCondition l) = condNormal then b else b.setLoop l fun u => { u with resetReq := true })
      ∧ (Accepts s p (Key.loopHoldRequest l) 1 → Answers (.holdRequestSet p l) s fun t =>
          Only b t [Key.loopHoldRequest l] ∧ t.nat (Key.loopHoldRequest l) = 1)
      ∧ (Accepts s p (Key.loopHoldRequest l) 0 → Answers (.holdRequestClear p l) s fun t =>
          Only b t [Key.loopHoldRequest l] ∧ t.nat (Key.loopHoldRequest l) = 0)
      ∧ (s.loopStandby l = false →
          let asked : Nat → State → Prop := fun v t => Only b t [Key.loopModeCommand l] ∧ t.nat (Key.loopModeCommand l) = v
          (Accepts s p (Key.loopModeCommand l) 0 → Answers (.loopModeManual p l) s (asked 0))
          ∧ (Accepts s p (Key.loopModeCommand l) 1 → Answers (.loopModeAuto p l) s (asked 1))
          ∧ (Accepts s p (Key.loopModeCommand l) 2 → Answers (.loopModeCascade p l) s (asked 2))
          ∧ (Accepts s p (Key.loopModeCommand l) 3 → Answers (.loopModePredictive p l) s (asked 3)))
      ∧ (Accepts s p (Key.learnClearMemory l) 1 → Answers (.learnerClearMemory p l) s fun t =>
          (s.flag (Key.learnLearnerEnable l) = false → t = b)
          ∧ (s.flag (Key.learnLearnerEnable l) = true → t = { b with bellows := { b.bellows with pool := t.bellows.pool } }
          ∧ ∀ k, t.cell k = if s.nat (Key.learnPoolOffset l) ≤ k ∧ k < s.nat (Key.learnPoolOffset l) + s.nat (Key.learnPeriod l) then 0
              else s.cell k)))
    ∧ (Accepts s p Key.traceCommand 1 → Answers (.traceArm p) s fun t =>
        (s.traceArmOk = true → Only { b with bellows := t.bellows } t [Key.traceState] ∧ t.nat Key.traceState = 1
          ∧ t.bellows = { b.bellows with trace := Vector.replicate 4 ⟨[], 0, none⟩, traceManual := false, traceReady := false })
        ∧ (s.traceArmOk = false → t = b.refuse p (.range Key.traceCommand)))
    ∧ (Accepts s p Key.traceCommand 2 → Answers (.traceTrigger p) s fun t =>
        t = if s.nat Key.traceState = 2 then { b with bellows := { b.bellows with traceManual := true } } else b)
    ∧ (Accepts s p Key.traceCommand 3 → Answers (.traceStop p) s fun t => Only b t [Key.traceState] ∧ t.nat Key.traceState = 0)
    ∧ (s.clocksRun = true → Answers (.tickCountRead p) s fun t => t.lastAnswer p = some (.value (s.clock.tick % 2 ^ 32))
        ∧ t.clock = { s.clock with tickLatch := s.clock.tick / 2 ^ 32 % 2 ^ 32 } ∧ t.obj = s.obj)
    ∧ (∀ (word : Nat) (l : Fin 64), s.clocksRun = true → word ∈ s.bellows.rewrites → word / 32 = l.val → Answers (.eccWordRewrite word) s fun t =>
        Only { s with bellows := t.bellows } t [Key.bellowsGlobalStatus] ∧ t.bitOf Key.bellowsGlobalStatus 3 = true
        ∧ t.bellows = { (s.setLoop l fun u => { u with acc := 0, d := 0, pvPrev := 0, uLast := 0, spEff := 0, uRc := 0 }).bellows with
            rewrites := s.bellows.rewrites.erase word })
    ∧ ∀ i : TickInput, s.clocksRun = true → s.startup.halted = false → s.dict.staged = [] → s.dict.pending = none →
        (∀ x ∈ s.flue.instances, x.staged = []) →
        let m := (((((s.seeTriggers.timePasses.measure i.measured).measureLoops i.loops).measureCauses i.causes).wakeLevel i.wake)).kelsisTriggered
        let k := m.kelsisPublish.setAsh fun a => { a with advanced := Vector.replicate 8 0 }
        m.clock.tick = s.clock.tick + 1 ∧ m.clock.op = s.clock.op + unitsPerTick
        ∧ Answers (.bellowsTick i) s fun t =>
          t = (if k.clocksRun = true ∧ k.process ≠ psKindling then k.tachsTick.bellowsWork i else k).sendReplies

/-- The arithmetic of a loop's sample: rounding to nearest with ties up; the error and the integrator stay in their limits, the output in
Umin-Umax and within the rate limit of the last one; without saturation the sum is exact; a hand-over leaves the applied value by one ramp
step at most; a learner cell stays within its limit (R233-R236, R269, R270, R280). -/
def Obligations.LoopArithmetic : Prop :=
  ∀ (c : LoopCoef) (x : LawState) (sp pv ff uRc : Int), c.umin ≤ c.umax → c.imin ≤ c.imax →
    let o := law c x sp pv ff uRc
    let p := c.kp * o.e * 2 ^ c.sp
    let i := x.acc + c.ki * o.e * 2 ^ c.si
    let f := c.kff * ff * 2 ^ c.sf
    let fits (v : Int) : Prop := -2 ^ 39 ≤ v ∧ v < 2 ^ 39
    (∀ v : Int, round15 v = (v + 0x4000) >>> 15 ∧ 32768 * round15 v ≤ v + 16384 ∧ v + 16384 < 32768 * (round15 v + 1)
        ∧ sat15 v = max (-32768) (min 32767 v))
    ∧ (∀ lo hi v : Int, (v < lo → clampInt lo hi v = lo) ∧ (lo ≤ v → hi < v → clampInt lo hi v = hi) ∧ (lo ≤ v → v ≤ hi → clampInt lo hi v = v))
    ∧ (sp - pv ≤ 32767 → -32768 ≤ sp - pv → o.e = sp - pv) ∧ (32767 < sp - pv → o.e = 32767) ∧ (sp - pv < -32768 → o.e = -32768)
    ∧ (∀ sp' : Int, (32767 ≤ sp - pv ∧ 32767 ≤ sp' - pv ∨ sp - pv ≤ -32768 ∧ sp' - pv ≤ -32768) → law c x sp' pv ff uRc = o)
    ∧ (∀ d y z : Int, 32767 ≤ round15 (c.kd * y * 2 ^ c.sd) → 32767 ≤ round15 (c.kd * z * 2 ^ c.sd) → derivative c d y = derivative c d z)
    ∧ (∀ d y z : Int, round15 (c.kd * y * 2 ^ c.sd) ≤ -32768 → round15 (c.kd * z * 2 ^ c.sd) ≤ -32768 → derivative c d y = derivative c d z)
    ∧ c.imin * 32768 ≤ o.next.acc ∧ o.next.acc ≤ c.imax * 32768
    ∧ (fits i → c.imin * 32768 ≤ i → i ≤ c.imax * 32768 → o.next.acc = i)
    ∧ c.umin ≤ o.u ∧ o.u ≤ c.umax ∧ o.next.uLast = o.u ∧ o.next.pvPrev = pv ∧ -32768 ≤ o.uPre ∧ o.uPre ≤ 32767
    ∧ (fits (p + o.next.acc) → fits (p + o.next.acc + o.next.d * 32768) → fits (p + o.next.acc + o.next.d * 32768 + uRc * 32768) →
        fits (p + o.next.acc + o.next.d * 32768 + uRc * 32768 + f) →
        o.uPre = sat15 (round15 (p + o.next.acc + (o.next.d + uRc) * 32768 + f)))
    ∧ (c.rl = 0 → c.umin ≤ o.uPre → o.uPre ≤ c.umax → o.u = o.uPre)
    ∧ (0 < c.rl → c.umin ≤ x.uLast → x.uLast ≤ c.umax → x.uLast - c.rl ≤ o.u ∧ o.u ≤ x.uLast + c.rl
        ∧ (x.uLast - c.rl ≤ o.uPre → o.uPre ≤ x.uLast + c.rl → c.umin ≤ o.uPre → o.uPre ≤ c.umax → o.u = o.uPre))
    ∧ (∀ (applied : Int) (h : Nat), 0 ≤ c.rl → let r := handOver c applied sp pv ff uRc h
        (r.2 = 0 → r.1.u = applied) ∧ (r.2 ≠ 0 → applied - rampLimit c.rl r.2 h ≤ r.1.u ∧ r.1.u ≤ applied + rampLimit c.rl r.2 h)
        ∧ r.1.next.d = 0 ∧ r.1.next.pvPrev = pv)
    ∧ ∀ q1 q0 before at_ after gamma e lam : Int, 0 ≤ lam →
        -lam ≤ learnCell q1 q0 before at_ after gamma e lam ∧ learnCell q1 q0 before at_ after gamma e lam ≤ lam

/-- A column's steps: a step starts once per number, its end stores what it computed, the next tick publishes it, its deadline abandons it
with an overrun; re-initialisation and LAB values, which wait for a step that starts after the commit they came with, the map snapshot and its reading (R291, R292, R313, R322, R324, R327, R330). -/
def Obligations.KelsisSteps : Prop :=
  ∀ (s : State) (p : Path), let b := s.acknowledged p
    (∀ c : Fin 4, let k := s.kelsis.columns[c]
      (s.flag (Key.colEnable c) = true → s.kelsisRuns = true → ∀ lost, Answers (.kelsisStepStart ⟨c, lost⟩) s fun t =>
        (t.kelsis.columns[c]).started = some (s.stepStart c (s.stepNumber c)))
      ∧ (s.flag (Key.colEnable c) = true → s.kelsisRuns = true → k.started = some (s.stepStart c (s.stepNumber c)) → ∀ lost, Answers (.kelsisStepStart ⟨c, lost⟩) s fun t => t = s)
      ∧ (∀ w : KWork, k.work = some w → s.flag (Key.colEnable c) = true → s.kelsisRuns = true → Answers (.kelsisStepEnd c) s fun t =>
          (t.kelsis.columns[c]).work = none ∧ (t.kelsis.columns[c]).completed = some w.number
          ∧ (t.kelsis.columns[c]).ens = some w.ens ∧ (t.kelsis.columns[c]).publish = some w
          ∧ ∀ e : Fin 4, e ≠ c → (t.kelsis.columns[e]).publish = (s.kelsis.columns[e]).publish)
      ∧ (∀ w : KWork, k.publish = some w → let t := s.kelsisPublish
          (t.kelsis.columns[c]).publish = none ∧ t.nat (Key.colLastStep c) = w.number % 2 ^ 32 ∧ t.nat (Key.colMembersInForce c) = w.ens.members.length
          ∧ t.word (Key.colOutletMoisture c) = fmean (w.outlet.map outletMoisture)
          ∧ t.word (Key.colOutletMoistureSigma c) = fsigma (w.outlet.map outletMoisture)
          ∧ t.word (Key.colInnovationMean c) = w.ens.innov)
      ∧ (∀ w : KWork, k.work = some w → s.clocksRun = true → Answers (.stepDeadline c) s fun t => (t.kelsis.columns[c]).work = none
          ∧ (t.kelsis.columns[c]).ens = k.ens ∧ (t.kelsis.columns[c]).completed = k.completed ∧ t.kelsis.overrun = true
          ∧ Moves { s with kelsis := t.kelsis } t [Key.colLABQueue c, Key.colOverruns c, Key.kelsisOverruns]
          ∧ t.nat (Key.colOverruns c) = satSucc 32 (s.nat (Key.colOverruns c))
          ∧ t.nat Key.kelsisOverruns = satSucc 32 (s.nat Key.kelsisOverruns)
          ∧ (s.logOpen → t.lastLogged 0x0501 c c 0 (s.nat Key.kelsisSheddingStage)))
      ∧ (k.work = none → Answers (.stepDeadline c) s fun t => t = s)
      ∧ (Accepts s p (Key.colReinitialise c) 1 → Answers (.columnReinitialise p c) s fun t => t = b.setColumn c fun k => { k with reinit := some (k.reinit.getD (s.clock.tick + 1)) })
      ∧ (∀ v : Word, Accepts s p (Key.colLABValue c) v.toNat → k.lab.length ≤ 8 → Answers (.labValueSubmit p c v) s fun t =>
          (∃ q, (t.kelsis.columns[c]).lab = (if k.lab.length = 8 then k.lab.drop 1 else k.lab) ++ [q] ∧ q.value = fflush v ∧ q.tick = s.clock.tick + 1)
          ∧ t.nat (Key.colLABQueue c) = min 8 (k.lab.length + 1) ∧ t.word (Key.colLABValue c) = fflush v
          ∧ t.nat (Key.colTooOld c) = (if k.lab.length = 8 then satSucc 32 (s.nat (Key.colTooOld c)) else s.nat (Key.colTooOld c))))
    ∧ (Accepts s p Key.mapSnapshot 1 → Answers (.mapSnapshot p) s fun t => Only { b with kelsis := t.kelsis } t [Key.mapSnapshotState]
        ∧ t.nat Key.mapSnapshotState = 1 ∧ t.kelsis.snapshot = none
        ∧ t.kelsis.request = some (Fin.ofNat 4 (s.nat Key.mapColumn), s.nat Key.mapMember))
    ∧ (s.clocksRun = true → ∀ r : Row, let i := s.nat Key.mapSnapshotCells - 1
        s.checkRead (Key.mapCell i) = .ok r → Answers (.mapCellRead p) s fun t => t.lastAnswer p = some (.value (s.mapCellValue i).toNat)
          ∧ t.nat Key.mapLayerCursor = (if s.nat Key.mapLayerCursor + 1 < s.nat Key.mapSnapshotLayers then s.nat Key.mapLayerCursor + 1 else 0))

/-- Table builds, the shedding stage, and the predictors: a build takes the pressure and ends ready or failed; an overrun raises the stage and
three clean evaluations lower it; an update latches its chain, counts when it is done; feedback and return (R307, R308, R328, R329, R344,
R355-R358; in Kindling mode Kelsis is not there, R106, R109). -/
def Obligations.KelsisTablesAndPredictors : Prop :=
  ∀ (s : State) (p : Path), let b := s.acknowledged p
    (∀ g : Fin 16, (s.kelsis.grains[g]).want = true → s.kelsis.building = none → s.clocksRun = true → s.process ≠ psKindling → Answers (.tableBuildStart g) s fun t =>
        Only { s with kelsis := t.kelsis } t [Key.tablesBuilderState, Key.tablesGrainTypeBuilding]
        ∧ t.kelsis.building = some ⟨g, false, s.buildPressure g⟩ ∧ (t.kelsis.grains[g]).want = false
        ∧ t.nat Key.tablesBuilderState = 1 ∧ t.nat Key.tablesGrainTypeBuilding = g)
    ∧ (s.process = psKindling → (∀ g : Fin 16, Answers (.tableBuildStart g) s fun t => t = s) ∧ Answers .tableBuildDone s fun t => t = s)
    ∧ (∀ x : KBuild, s.clocksRun = true → s.process ≠ psKindling → s.kelsis.building = some x → Answers .tableBuildDone s fun t => let made := buildTable s.get x.grain x.pressure
        (x.outdated = true → t.kelsis.building.map KBuild.grain = some x.grain ∧ t.nat Key.tablesBuilderState = 1)
        ∧ (x.outdated = false → made.failure = none → t.kelsis.building = none ∧ (t.kelsis.grains[x.grain]).ready = some made
            ∧ (t.kelsis.grains[x.grain]).failed = false ∧ t.nat Key.tablesBuilderState = 2)
        ∧ (∀ i j : Nat, x.outdated = false → made.failure = some (i, j) → t.kelsis.building = none ∧ (t.kelsis.grains[x.grain]).failed = true
            ∧ (t.kelsis.grains[x.grain]).active = (s.kelsis.grains[x.grain]).active
            ∧ t.nat Key.tablesBuildFailures = satSucc 32 (s.nat Key.tablesBuildFailures)
            ∧ (s.logOpen → t.lastLogged 0x0505 noSource x.grain i j)))
    ∧ (Accepts s p Key.tablesRebuild 1 → s.kelsis.building = none → Answers (.tableRebuild p) s fun t =>
        Only { b with kelsis := t.kelsis } t [Key.tablesBuilderState, Key.tablesGrainTypeBuilding]
        ∧ ∀ g : Fin 16, t.kelsis.grains[g] = if s.grainUsed g then { s.kelsis.grains[g] with want := true, ready := none } else s.kelsis.grains[g])
    ∧ (∀ (g : Fin 16) (e : Nat), Accepts s p (Key.grainLoadFromFile g) e → Answers (.loadFromFile p g e) s fun t =>
        (∀ i < 14, t.get (grainKey g (i + 2)) = s.fileValue e (i + 2))
        ∧ (∀ k, (∀ i < 14, k ≠ grainKey g (i + 2)) → k ≠ Key.tablesBuilderState → k ≠ Key.tablesGrainTypeBuilding → t.get k = b.get k))
    ∧ (s.clocksRun = true → (∀ c : Fin 4, (s.kelsis.preds[c]).update = none) → let stage := s.nat Key.kelsisSheddingStage
        let clean := min 3 (s.nat Key.kelsisCleanEvaluations + 1)
        Answers .sheddingEvaluation s fun t => t.kelsis.overrun = false
          ∧ (s.kelsis.overrun = true → t.nat Key.kelsisSheddingStage = if stage < 8 then stage + 1 else stage)
          ∧ (s.kelsis.overrun = true → t.nat Key.kelsisCleanEvaluations = 0)
          ∧ (s.kelsis.overrun = true → stage < 8 → t.nat Key.kelsisStageChanges = satSucc 32 (s.nat Key.kelsisStageChanges)
              ∧ (stage < 7 → s.logOpen → t.lastLogged 0x0507 noSource stage (stage + 1))
              ∧ (stage = 7 → ∀ c : Fin 4, t.bitOf (Key.colHealthReasons c) kShedFull = true))
          ∧ (s.kelsis.overrun = false → (stage = 0 ∨ clean < 3 ∨ 85 * s.kelsisPeak < View.kelsisLoad s.get (stage - 1) * 100) →
              t.nat Key.kelsisSheddingStage = stage ∧ t.nat Key.kelsisCleanEvaluations = clean)
          ∧ (s.kelsis.overrun = false → 0 < stage → clean = 3 → View.kelsisLoad s.get (stage - 1) * 100 ≤ 85 * s.kelsisPeak →
              t.nat Key.kelsisSheddingStage = stage - 1 ∧ t.nat Key.kelsisCleanEvaluations = 0
              ∧ (stage = 8 → ∀ c : Fin 4, t.bitOf (Key.colHealthReasons c) kShedFull = false)))
    ∧ ∀ c : Fin 4, let st := s.nat (Key.predState c)
      let enters : State → Prop := fun t => t.nat (Key.predState c) = (if st = predPredictive ∨ st = predPending then predFeedback else st)
        ∧ (st = predPredictive → t.nat (Key.predFeedbackEntries c) = satSucc 32 (s.nat (Key.predFeedbackEntries c)))
      (s.flag (Key.predEnable c) = true → s.process = psRunning → s.kelsisRuns = true → (s.kelsis.preds[c]).update = none →
        (s.nat Key.kelsisSheddingStage = 8 → Answers (.predictionUpdateStart c) s enters)
        ∧ (s.nat Key.kelsisSheddingStage ≠ 8 → s.autoReturn c = false → Answers (.predictionUpdateStart c) s fun t =>
            t = s.setPredictor c fun q => { q with update := s.latchUpdate c }))
      ∧ (∀ u : KUpdate, (s.kelsis.preds[c]).update = some u → s.flag (Key.predEnable c) = true → s.process = psRunning → s.kelsisRuns = true →
          Answers (.predictionUpdateDone c) s fun t => (t.kelsis.preds[c]).update = none
            ∧ t.nat (Key.predLastUpdateStep c) = u.number % 2 ^ 32 ∧ t.nat (Key.predUpdates c) = satSucc 32 (s.nat (Key.predUpdates c))
            ∧ t.nat Key.predgUpdates = satSucc 32 (s.nat Key.predgUpdates))
      ∧ (Accepts s p (Key.predCommand c) 1 → Answers (.enterFeedback p c) s fun t => enters t ∧ t.bitOf (Key.predStatus c) 6 = true)
      ∧ (Accepts s p (Key.predCommand c) 2 → Answers (.returnToPredictive p c) s fun t => Only b t [Key.predStatus c, Key.predState c]
          ∧ t.bitOf (Key.predStatus c) 6 = false ∧ t.nat (Key.predState c) = (if st = predFeedback then predPending else st))

/-- A dictionary transaction: a write that fails a check leaves its detail word and its abort and nothing else (at a transmit port, its tag and
its count of a full queue too), one that passes is staged for the next tick (a TRIGGER of the trace behind an ARM is none); a read is refused or answered; a refused command has no effect (R117, R120, R123, R125, R127, R128, R257, R516). -/
def Obligations.DictionaryAccess : Prop :=
  ∀ (s : State) (p : Path), s.clocksRun = true →
    let refusedAt (counts : List Nat) (p : Path) (e : Refused) (t : State) : Prop := t.lastAnswer p = some (.abort e.code)
      ∧ t.nat (Key.abortDetail p.writer.code) = e.word ∧ Only { s.touch p with dict := t.dict } t (Key.abortDetail p.writer.code :: counts)
      ∧ t.dict.staged = s.dict.staged
    let refused := refusedAt []
    let ports (key : Nat) : List Nat := match transmitPortOf key with
      | some b => [Key.canTagOfLastRefusal b, Key.canQueueLimitReached b]
      | none => []
    let staged (p : Path) (key : Nat) (v : DVal) (t : State) : Prop := t = { s.touch p with dict := t.dict }
      ∧ if key = Key.traceCommand ∧ v = .num 2 ∧ (∃ w ∈ s.dict.staged, w.path = p ∧ w.key = Key.traceCommand ∧ w.value = .num 1)
        then t.dict.staged = s.dict.staged else t.dict.staged = s.dict.staged.filter (fun w => !(w.path == p && w.key == key)) ++ [⟨p, key, v⟩]
    (∀ (index : BitVec 16) (sub : BitVec 8) (data : List Byte), let key := index.toNat * 256 + sub.toNat
      (s.pathBusy p = false → (∀ e, (s.touch p).checkWrite p key (.bytes data) = .error e → Answers (.dictWrite p index sub data) s (refusedAt (ports key) p e))
        ∧ (∀ n, (s.touch p).checkWrite p key (.bytes data) = .ok (.num n) →
            Answers (.dictWrite p index sub data) s (staged p key (.num n))))
      ∧ (s.pathBusy p = true → Answers (.dictWrite p index sub data) s fun t => t = s)
      ∧ (let q : Path := ⟨.service, 0⟩
        s.pathBusy q = false →
        (∀ e, (s.touch q).checkWrite q key (.bytes data) = .error e → Answers (.servicePortRequest index sub (some data)) s (refusedAt (ports key) q e))
        ∧ (∀ n, (s.touch q).checkWrite q key (.bytes data) = .ok (.num n) →
            Answers (.servicePortRequest index sub (some data)) s (staged q key (.num n)))
        ∧ (∀ e, (s.touch q).checkRead key = .error e → Answers (.servicePortRequest index sub none) s (refused q e))
        ∧ (∀ r, (s.touch q).checkRead key = .ok r → thermalReadOf key = none → Answers (.servicePortRequest index sub none) s fun t =>
            t.lastAnswer q = some ((s.touch q).readRow q key r).1)))
    ∧ ∀ e : Refused,
      (Refuses s p Key.procCommand 1 e → Answers (.arm p) s (refused p e))
      ∧ (∀ l : Fin 64, Refuses s p (Key.loopFaultReset l) 1 e → Answers (.loopFaultReset p l) s (refused p e))
      ∧ (∀ a : Fin 20, Refuses s p (Key.actCommand a) 1 e → Answers (.actuatorCommandOn p a) s (refused p e))
      ∧ (∀ d : Fin 16, Refuses s p (Key.driveFaultReset d) 1 e → Answers (.driveFaultReset p d) s (refused p e))
      ∧ (∀ c : Fin 4, Refuses s p (Key.colReinitialise c) 1 e → Answers (.columnReinitialise p c) s (refused p e))
      ∧ (Refuses s p Key.thermalRestart 1 e → Answers (.thermalRestart p) s (refused p e))

/-- Levels, the passcode and its lock, the challenge, and the store and restore of the configuration (R100, R119, R131, R133, R134). -/
def Obligations.LevelsStoresAndRestores : Prop :=
  ∀ (s : State) (p : Path), let b := s.touch p
    (∀ (code : Nat) (d : DVal), s.clocksRun = true → writerIsCore p.writer = false →
      b.checkWrite p Key.identLevelRequest (.bytes (leBytes 4 code)) = .ok d → b.noSession p = false → let v := code % 2 ^ 32
      (v = 0 → Answers (.levelRequest p code) s fun t => t.levelOf p = .operator ∧ t.lastAnswer p = some .done)
      ∧ (v ≠ 0 → (b.guardOf p).locked = true → Answers (.levelRequest p code) s fun t => t.levelOf p = b.levelOf p
          ∧ t.lastAnswer p = some (.abort 0x06010000) ∧ t.dict.guards = b.dict.guards)
      ∧ (v ≠ 0 → (b.guardOf p).locked = false → v = s.nat Key.identServicePasscode → Answers (.levelRequest p code) s fun t =>
          (t.levelOf p).atLeast .service = true ∧ t.lastAnswer p = some .done)
      ∧ (v ≠ 0 → (b.guardOf p).locked = false → v ≠ s.nat Key.identServicePasscode →
          let recent := (b.guardOf p).wrong.filter fun t => decide (s.clock.tick - t < ticksPerMinute)
          Answers (.levelRequest p code) s fun t => t.lastAnswer p = some (.abort 0x06010000)
            ∧ (t.guardOf p).locked = decide (4 ≤ recent.length)
            ∧ (4 ≤ recent.length → s.logOpen → t.lastLogged 0x0D03 p.writer.code (if p.writer = .flue then p.addr else 0) 5)))
    ∧ (s.clocksRun = true → (s.guardOf p).locked = true → Answers (.passcodeLockEnd p) s fun t => t = { s with dict := t.dict } ∧ (t.guardOf p).locked = false)
    ∧ (s.clocksRun = true → writerIsCore p.writer = false → Answers (.levelIdleTimeout p) s fun t => t = { s with dict := t.dict } ∧ t.levelOf p = .operator)
    ∧ (∀ r : Row, s.clocksRun = true → b.checkRead Key.identVendorChallenge = .ok r → Answers (.vendorChallenge p) s fun t => ∃ bs : List Byte,
        bs.length = 32 ∧ t.lastAnswer p = some (.block bs) ∧ t.dict.challenges.find? (fun c => c.1 == p) = some (p, bs))
    ∧ (∀ (data bs : List Byte) (d : DVal), s.clocksRun = true → writerIsCore p.writer = false → b.noSession p = false →
        b.checkWrite p Key.identVendorResponse (.bytes data) = .ok d → s.dict.challenges.find? (fun c => c.1 == p) = some (p, bs) →
        Answers (.vendorResponse p data) s fun t => (∀ c ∈ t.dict.challenges, c.1 ≠ p)
          ∧ (Config.vendorAnswers bs data = true → t.levelOf p = .vendor ∧ t.lastAnswer p = some .done)
          ∧ (Config.vendorAnswers bs data = false → t.lastAnswer p = some (.abort 0x06010000)))
    ∧ (∀ code : Nat, Accepts s p Key.identServicePasscode code → Answers (.servicePasscodeWrite p code) s fun t =>
        Only { s.acknowledged p with fram := t.fram } t [Key.identServicePasscode] ∧ t.nat Key.identServicePasscode = code
        ∧ t.fram = s.fram.filter fun e => decide (e.1 < 0x600F0000) || decide (0x60100000 ≤ e.1))
    ∧ (∀ (part : Fin 3) (v : Nat) (d : DVal), s.clocksRun = true →
        (b.checkWrite p (Key.storeStore part.val) (.bytes (leBytes 4 v)) = .ok d → Answers (.storeParameters p part v) s fun t =>
          t = { b with dict := { b.dict with saveOp := t.dict.saveOp } }
          ∧ t.dict.saveOp = some ⟨false, part.val, p, b.base.filter (fun e => inPart part e.1), (configBlocks b.blk).filter fun e => inPart part e.1⟩)
        ∧ (b.checkWrite p (Key.restoreRestore part.val) (.bytes (leBytes 4 v)) = .ok d → Answers (.restoreDefaults p part v) s fun t =>
          t = { b with dict := { b.dict with saveOp := some ⟨true, part.val, p, [], []⟩ } }))
    ∧ ∀ o : SaveOp, s.clocksRun = true → s.dict.saveOp = some o → let part := Fin.ofNat 3 o.part; let old := s.dict.saved
      (o.restore = false → Answers .storeDone s fun t => t.dict.saveOp = none ∧ t.dict.copyA = t.dict.copyB ∧ t.dict.saved = t.dict.copyA
        ∧ (s.process ≠ psInit ∨ s.startup.bank = 0 ∨ s.startup.bank - 1 = s.nat Key.startBootOrder → t.dict.copyA = { values := joinPart part o.values old.values, blocks := joinPart part o.blocks old.blocks, mode := old.mode, seq := old.seq + 1, torn := false })
        ∧ (s.process ≠ psInit → t.process = s.process ∧ t.lastAnswer o.path = some .done ∧ (s.logOpen → t.lastLogged 0x0A03 noSource))
        ∧ (s.process = psInit → s.startup.stoppedOnce = false → s.startup.restore = none → s.bitOf Key.cfgConfigurationStatus 0 = true →
            t.process = psStopped
            ∧ t.bitOf Key.cfgConfigurationStatus 0 = false ∧ t.front.scanning = true))
      ∧ (o.restore = true → Answers .restoreDone s fun t => t.dict.saveOp = none ∧ t.dict.copyA = t.dict.copyB ∧ t.dict.saved = t.dict.copyA
        ∧ t.dict.copyA.seq = old.seq + 1 ∧ (part ≠ 1 → t.dict.copyA.mode = 0) ∧ t.base = s.base
        ∧ t.lastAnswer o.path = some .done ∧ (s.logOpen → t.lastLogged 0x0A04 noSource))

/-- Programs and images: START puts the program in place and enters it, or finds the slot damaged; STOP holds the core; an image is judged in
the order of R459; a slot is erased; firmware goes to the other bank; a configuration image replaces both copies (R30, R98, R112, R445,
R459-R461, R463, R465). -/
def Obligations.ProgramsAndImages : Prop :=
  ∀ (s : State) (p : Path), let b := s.acknowledged p; let u := s.touch p
    (∀ (c : Fin 4) (intact : Bool) (i : ProgramImage), c ≠ 0 → s.images.toList.getD (c.val - 1) none = some i → let h := i.header
      let entered : State → Prop := fun t => (t.cores[c]).pc = BitVec.ofNat 32 (s.codeStart c h + h.entry) ∧ (t.cores[c]).held = false
        ∧ (t.cores[c]).regs = (Vector.replicate 16 0).set 15 (BitVec.ofNat 32 h.stackTop)
        ∧ (t.cores[c]).status.getLsbD 2 = false ∧ (t.cores[c]).running = some i ∧ (t.cores[c]).retention = (s.cores[c]).retention
        ∧ (h.placement = 0 → ∀ j : Nat, j < h.codeSize → 64 + j < i.raw.length → t.byteAt (.itcm c) (0x10000000 + j) = i.raw.getD (64 + j) 0)
        ∧ t.nat (Key.coreProgramState c.val) = 2 ∧ t.nat (Key.coreImageID c.val) = h.imageId ∧ t.nat (Key.coreLevelGranted c.val) = h.level
        ∧ ∀ e : Fin 4, e ≠ c → t.cores[e] = b.cores[e]
      (Accepts s p (Key.coreCommand c.val) 1 → s.nat (Key.coreProgramState c.val) ≠ 2 →
        (intact = true → i.damaged = false → i.crcOk = true → Answers (.programStart p c intact) s entered)
        ∧ (intact = false ∨ i.damaged = true ∨ i.crcOk = false → Answers (.programStart p c intact) s fun t =>
            Moves { b with images := s.images.set! (c.val - 1) (some { i with damaged := true }) } t [Key.imagesSlotStatus (c.val - 1)]
            ∧ t.nat (Key.imagesSlotStatus (c.val - 1)) = 2 ∧ (s.logOpen → t.lastLogged 0x0E03 c.val c.val)))
      ∧ (Accepts s p (Key.coreCommand c.val) 1 → s.nat (Key.coreProgramState c.val) = 2 → Answers (.programStart p c intact) s fun t => t = b)
      ∧ (Accepts s p (Key.coreCommand c.val) 3 → intact = true → i.damaged = false → i.crcOk = true → Answers (.programRestart p c intact) s entered))
    ∧ (∀ c : Fin 4, c ≠ 0 → Accepts s p (Key.coreCommand c.val) 2 →
        (s.nat (Key.coreProgramState c.val) = 2 → Answers (.programStop p c) s fun t => t.nat (Key.coreProgramState c.val) = 3
          ∧ (t.cores[c]).held = true ∧ (t.cores[c]).running = none ∧ (t.cores[c]).regs = (s.cores[c]).regs ∧ (t.cores[c]).status.getLsbD 2 = true
          ∧ Only { b with cores := t.cores } t [Key.coreProgramState c.val] ∧ ∀ e : Fin 4, e ≠ c → t.cores[e] = b.cores[e])
        ∧ (s.nat (Key.coreProgramState c.val) ≠ 2 → Answers (.programStop p c) s fun t => t = b))
    ∧ (∀ (c : Fin 4) (raw : List Byte) (d : DVal), c ≠ 0 → s.clocksRun = true →
        u.checkWrite p (Key.imagesImage (c.val - 1)) (.bytes raw) = .ok d → s.nat (Key.coreProgramState c.val) ≠ 2 →
        let i : ProgramImage := { header := parseHeader raw, raw := raw, damaged := false }
        let n := 64 + i.header.codeSize + i.header.dataSize
        let fits := i.crcOk && raw.length == n + 68
        let signed := Config.imageSigned (s.block Key.imagesOwnerKeyHash) (raw.take (n + 4)) (raw.drop (n + 4))
        let turned : Nat → State → Prop := fun st t => t.nat (Key.imagesSlotStatus (c.val - 1)) = st
          ∧ t.lastAnswer p = some (.abort 0x06090030) ∧ t.images = s.images
        (headerOk c raw = false → Answers (.programImageWrite p c raw) s (turned 4))
        ∧ (headerOk c raw = true → i.header.sizesOk = false → Answers (.programImageWrite p c raw) s (turned 5))
        ∧ (headerOk c raw = true → i.header.sizesOk = true → fits = false → Answers (.programImageWrite p c raw) s (turned 2))
        ∧ (headerOk c raw = true → i.header.sizesOk = true → fits = true → signed = false → Answers (.programImageWrite p c raw) s fun t =>
            turned 3 t ∧ (s.logOpen → t.lastLogged 0x0D01 noSource (0x10 + c.val)))
        ∧ (headerOk c raw = true → i.header.sizesOk = true → fits = true → signed = true → Answers (.programImageWrite p c raw) s fun t =>
            t.images = s.images.set! (c.val - 1) (some i) ∧ t.power = { u.power with bankModified := true } ∧ t.cores = u.cores
            ∧ t.nat (Key.imagesSlotStatus (c.val - 1)) = 1 ∧ t.nat (Key.imagesSlotId (c.val - 1)) = i.header.imageId
            ∧ t.nat (Key.coreProgramState c.val) = 1 ∧ t.lastAnswer p = some .done))
    ∧ (∀ slot : Nat, 1 ≤ slot → slot ≤ 3 → Accepts s p Key.imagesEraseSlot slot → Answers (.eraseSlot p slot) s fun t =>
        t.images = s.images.set! (slot - 1) none ∧ t.nat (Key.imagesSlotStatus (slot - 1)) = 0 ∧ t.nat (Key.imagesSlotId (slot - 1)) = 0
        ∧ t.nat (Key.coreProgramState slot) = 0)
    ∧ (∀ (data : List Byte) (done : Bool) (d : DVal), s.clocksRun = true → u.checkWrite p Key.startFirmwareImage (.bytes data) = .ok d →
        Answers (.firmwareImageWrite p data done) s fun t => t.lastAnswer p = some .done ∧ t.images = s.images
          ∧ (s.nat Key.startBankStarted = 1 → t.nat Key.startBankBStatus = (if done then 4 else 1) ∧ t.startup.bankA = s.startup.bankA
              ∧ t.startup.bankB.image = some data.length ∧ t.startup.bankB.bytes = data ∧ t.startup.bankB.incomplete = !done)
          ∧ (s.nat Key.startBankStarted = 2 → t.nat Key.startBankAStatus = (if done then 4 else 1) ∧ t.startup.bankB = s.startup.bankB
              ∧ t.startup.bankA.image = some data.length ∧ t.startup.bankA.bytes = data ∧ t.startup.bankA.incomplete = !done))
    ∧ (∀ (data : List Byte) (d : DVal), s.clocksRun = true → u.checkWrite p Key.startConfigurationImage (.bytes data) = .ok d →
        Answers (.configurationImageWrite p data) s fun t => t.lastAnswer p = some .done ∧ t.base = u.base ∧ t.blk = u.blk
          ∧ t.dict.copyA = t.dict.copyB ∧ t.dict.saved = t.dict.copyA ∧ t.dict.copyA.mode = s.dict.saved.mode
          ∧ t.dict.copyA.seq = s.dict.saved.seq + 1
          ∧ t.dict.copyA.values = (Config.configImageValues data).filter fun e => isConfig e.1)
    ∧ Answers .debugUnlock s fun t => Moves { s with startup := { s.startup with debugOpen := true } } t [] ∧ (s.logOpen → t.lastLogged 0x0D02 noSource)

/-- Router, timers and performance counters: a changed route clears the source's pending bit at its old core; write-one-to-clear; a timer
loads, stops and expires; a counter wraps; the cycle latch; sampling (R466-R480). -/
def Obligations.RouterTimersAndCounters : Prop :=
  ∀ (s : State) (p : Path), let b := s.acknowledged p
    (∀ (i : Fin 128) (v : BitVec 32), Accepts s p (Key.routerRoutePair i.val) v.toNat → let old := s.nat (Key.routerRoutePair i.val)
      Answers (.routeChange p i v) s fun t => t.nat (Key.routerRoutePair i.val) = v.toNat
        ∧ (∀ half : Fin 2, let src := 2 * i.val + half.val; let a := old / 65536 ^ half.val % 65536
            a ≠ v.toNat / 65536 ^ half.val % 65536 → (src < 248 ∨ 251 < src) → ∀ c : Fin 4, c ≠ 0 → field a 10 8 = c.val →
              (t.cores[c]).pendingSource src = false)
        ∧ ∀ (c : Fin 4) (src : Nat), src / 2 ≠ i.val → (t.cores[c]).pendingSource src = (b.cores[c]).pendingSource src)
    ∧ ∀ c : Fin 4, s.clocksRun = true → let k := s.cores[c]
      let here : State → Prop := fun t => t = { s with cores := t.cores } ∧ ∀ e : Fin 4, e ≠ c → t.cores[e] = s.cores[e]
      (∀ (i : Fin 8) (mask : BitVec 32), Answers (.srcPendClear c i mask) s fun t => here t ∧ ∀ src : Fin 256,
          (t.cores[c]).pendingSource src.val = (k.pendingSource src.val && !(src.val / 32 == i.val && mask.getLsbD (src.val % 32))))
      ∧ (∀ (i : Fin 2) (periodic : Bool), Answers (.timerRun c i periodic) s fun t => let x := (t.cores[c]).timers[i]
          x.run = true ∧ x.periodic = periodic ∧ x.reload = k.timers[i].reload ∧ x.count = k.timers[i].reload
          ∧ ∀ j : Fin 2, j ≠ i → (t.cores[c]).timers[j] = k.timers[j])
      ∧ (∀ i : Fin 2, Answers (.timerStop c i) s fun t => let x := (t.cores[c]).timers[i]
          here t ∧ x.run = false ∧ x.reload = k.timers[i].reload ∧ x.count = k.timers[i].left k.cycle
          ∧ ∀ j : Fin 2, j ≠ i → (t.cores[c]).timers[j] = k.timers[j])
      ∧ (∀ i : Fin 2, k.timers[i].run = true → k.timers[i].count ≠ 0 → Answers (.timerExpiry c i) s fun t =>
          let x := (t.cores[c]).timers[i]
          x.run = k.timers[i].periodic ∧ x.count = (if k.timers[i].periodic then k.timers[i].reload else 0)
          ∧ (k.localCtrl.getLsbD (8 * i.val + 7) = true → (t.cores[c]).pendingSource (248 + i.val) = true))
      ∧ (∀ j : Fin 8, k.pmctl.getLsbD j.val = true → k.pmsel[j] ≠ 0 → k.pmc[j] = 0xFFFFFFFF → Answers (.counterOverflow c j) s fun t =>
          (t.cores[c]).pmc = k.pmc.set j 0 ∧ (t.cores[c]).pmovf.getLsbD j.val = true
          ∧ (k.pmctl.getLsbD (8 + j.val) = true → k.localCtrl.getLsbD 23 = true → (t.cores[c]).pendingSource 250 = true))
      ∧ (∀ mask : BitVec 8, Answers (.pmovfClear c mask) s fun t => here t ∧ ∀ j : Fin 8,
          (t.cores[c]).pmovf.getLsbD j.val = (k.pmovf.getLsbD j.val && !mask.getLsbD j.val))
      ∧ Answers (.cycleLoRead c) s (fun t => here t ∧ t.cores[c] = { k with cycleHi := k.cycle / 2 ^ 32 % 2 ^ 32 })
      ∧ (k.sampleCtl.getLsbD 31 = true → k.sampleLeft = 0 → Answers (.sampleIntervalEnd c) s fun t => here t
          ∧ t.cores[c] = { k with sampleTag := true, sampleLeft := Core.nextInterval c k, sampleNo := k.sampleNo + 1 })
      ∧ (∀ r : SampleRecord, k.flight = some r → (r.retired || r.trapped || r.flushed) = true → Answers (.sampleRecordReady c) s fun t => (t.cores[c]).flight = none
          ∧ (k.sampleLocked = true → (t.cores[c]).sample = k.sample ∧ (t.cores[c]).sampleLost = satSucc 32 k.sampleLost)
          ∧ (k.sampleLocked = false → (t.cores[c]).sample = { r with seq := (k.sample.seq + 1) % 256 }
              ∧ (t.cores[c]).sampleLost = if k.sample.valid then satSucc 32 k.sampleLost else k.sampleLost))
      ∧ Answers (.sampleRecordLock c) s (fun t => here t ∧ t.cores[c] = { k with sampleLocked := true })
      ∧ Answers (.sampleRecordRelease c) s fun t => here t ∧ t.cores[c] = { k with sampleLocked := false, sample := { k.sample with valid := false } }

/-- The CAN controllers: restart, integration, the transmit port and cancel, what ends a frame, the error counters and bus-off, completion
and FIFO reads, reception into an object or the FIFO, the time reference, EMCY inhibit (R483-R485, R491-R493, R495-R500, R503-R506, R510). -/
def Obligations.CanPorts : Prop :=
  ∀ (s : State) (p : Path) (b : Fin 2), s.clocksRun = true → let q := s.can[b]; let u := s.touch p
    let ends (e : CanEntry) (status : Nat) (t : State) : Prop := (t.can[b]).queue = q.queue.drop 1 ∧ (t.can[b]).seq = (q.seq + 1) % 256
      ∧ (q.ring.length < 32 → (t.can[b]).ring = q.ring ++ [e.tag * 65536 + status * 256 + q.seq])
      ∧ (32 ≤ q.ring.length → (t.can[b]).ring = q.ring ∧ t.nat (Key.canCompletionsLost b) = satSucc 32 (s.nat (Key.canCompletionsLost b)))
    (s.process = psInit ∨ s.process = psStopped → Answers (.canControllerRestart b) s fun t =>
        t.bus b = (if s.flag (Key.canEnable b) then busIntegrating else busOff0) ∧ t.nat (Key.canTEC b) = 0 ∧ t.nat (Key.canREC b) = 0
        ∧ (t.can[b]).urgent = none ∧ (t.can[b]).reference = none ∧ (t.can[b]).fifo = [] ∧ ∀ e ∈ (t.can[b]).queue, e.own = true)
    ∧ (s.bus b = busIntegrating → Answers (.busIntegrated b) s fun t => t.bus b = busActive)
    ∧ (∀ (data : List Byte) (e : Refused), u.checkWrite p (Key.canTransmitPort b) (.bytes data) = .error e →
        Answers (.transmitPortWrite p b data) s fun t => t.lastAnswer p = some (.abort e.code) ∧ t.can = s.can
          ∧ (8 ≤ data.length → t.nat (Key.canTagOfLastRefusal b) = (entryOf data).tag)
          ∧ (e = .state (Key.canTransmitPort b) → s.listenOnly b = false →
              t.nat (Key.canQueueLimitReached b) = satSucc 32 (s.nat (Key.canQueueLimitReached b))))
    ∧ (∀ (data : List Byte) (d : DVal), u.checkWrite p (Key.canTransmitPort b) (.bytes data) = .ok d → let e := entryOf data
        (s.listenOnly b = false ∧ q.queue.length < 32)
        ∧ (entryOk (s.fdOn b) (s.moduleNs + 62500) data.length e = false → Answers (.transmitPortWrite p b data) s fun t =>
          t.lastAnswer p = some (.abort 0x06090030) ∧ t.can = s.can ∧ t.nat (Key.canTagOfLastRefusal b) = e.tag)
        ∧ (entryOk (s.fdOn b) (s.moduleNs + 62500) data.length e = true → s.bus 0 ≠ busOff →
          Answers (.transmitPortWrite p b data) s fun t => t.lastAnswer p = some .done ∧ ∃ x : CanEntry, (t.can[b]).queue = q.queue ++ [x]
            ∧ x = { e with data := x.data } ∧ (e.control.testBit 10 = false → x.data = e.data)))
    ∧ (∀ tag : Nat, Accepts s p (Key.canCancel b) tag → q.backlog = [] → s.bus 0 ≠ busOff → Answers (.transmitCancel p b tag false false) s fun t =>
        (t.can[b]).queue = q.queue.filter fun e => !(e.tag == tag && !e.own && !e.cancelled))
    ∧ (∀ (e : CanEntry) (es : List CanEntry), q.urgent = none → q.queue = e :: es → Answers (.notBeforeReached b) s fun t =>
        t = s.setCan b fun x => { x with queue := { e with released := true } :: es })
    ∧ (∀ (e : CanEntry) (t0 : Nat) (delay : Option (Fin 128)), s.onWire ⟨b, .head⟩ = some e → e.own = false → q.backlog = [] →
        (Answers (.frameTransmitted ⟨b, .head⟩ t0 delay) s fun t => ends e (if e.cancelled then canLateCancel else canDone) t
          ∧ t.nat (Key.canFramesSent b) = satSucc 32 (s.nat (Key.canFramesSent b))
          ∧ t.nat (Key.canTEC b) = min 256 (s.nat (Key.canTEC b) - 1))
        ∧ (e.cancelled = true → Answers (.arbitrationLost ⟨b, .head⟩) s (ends e canCancelled))
        ∧ (e.cancelled = false → e.oneShot = true → Answers (.arbitrationLost ⟨b, .head⟩) s (ends e canLostArb))
        ∧ (e.cancelled = false → e.oneShot = false → s.flag (Key.canOneShotAll b) = false → Answers (.arbitrationLost ⟨b, .head⟩) s fun t =>
            t = s.setCan b fun x => { x with begun := none }))
    ∧ (∀ (t0 : Nat) (e : CanEntry), s.onWire ⟨b, .reference⟩ = some e → Answers (.frameTransmitted ⟨b, .reference⟩ t0 none) s fun t => (t.can[b]).reference = none
        ∧ (t.can[b]).lastSof = some t0 ∧ (t.can[b]).queue = q.queue
        ∧ t.nat (Key.cantimeReferencesSent b) = satSucc 32 (s.nat (Key.cantimeReferencesSent b)))
    ∧ (∀ (kind : Fin 7) (k : CanSlot), s.onBus b = true → let tec := s.nat (Key.canTEC b); let rec_ := s.nat (Key.canREC b)
        (Answers (.frameError ⟨b, k⟩ kind .receive) s fun t => t.nat (Key.canLastError b) = kind ∧ t.nat (Key.canREC b) = min 255 (rec_ + 1)
          ∧ t.nat (Key.canTEC b) = min 256 tec ∧ (tec ≤ 255 → (t.can[b]).queue = q.queue))
        ∧ (Answers (.frameError ⟨b, k⟩ kind .receiveSevere) s fun t => t.nat (Key.canREC b) = min 255 (rec_ + 8))
        ∧ (Answers (.frameError ⟨b, k⟩ kind .transmit) s fun t => t.nat (Key.canLastError b) = kind ∧ t.nat (Key.canTEC b) = min 256 (tec + 8)
          ∧ (247 < tec → t.bus b = busOff ∧ t.nat (Key.canBusOffEvents b) = satSucc 32 (s.nat (Key.canBusOffEvents b)))
          ∧ (s.bus b = busActive → 120 ≤ tec → tec ≤ 247 → t.bus b = busPassive)))
    ∧ (s.canRecovering b = true → Answers (.busOffRecovered b) s fun t => t.bus b = busActive ∧ t.nat (Key.canTEC b) = 0 ∧ t.nat (Key.canREC b) = 0
        ∧ (t.can[b]).recovering = false ∧ (b = 0 → s.logOpen → t.lastLogged 0x0804 noSource))
    ∧ (Accepts s p (Key.canRecover b) 1 → Answers (.busOffRecover p b) s fun t =>
        t = (s.acknowledged p).setCan b fun x => { x with recovering := true })
    ∧ (∀ r : Row, u.checkRead (Key.canCompletion b) = .ok r → Answers (.completionRead p b) s fun t =>
        t.lastAnswer p = some (.value (q.ring.headD 0x7F00)) ∧ t.can = s.can.set b { q with ring := q.ring.tail })
    ∧ (∀ (f : CanFrame) (t0 : Nat), s.onBus b = true → f.data.length = frameLength f → f.dlc < 16 → (f.id.testBit 30 = false ∨ s.fdOn b = true) →
        (f.remote = true → s.nat (Key.canREC b) ≤ 127 → Answers (.frameReceived b f t0) s fun t =>
          t.nat (Key.canREC b) = s.nat (Key.canREC b) - 1 ∧ t.can = s.can ∧ t.blk = s.blk)
        ∧ (f.remote = false → ∀ k : Fin 64, s.nat (Key.canReceiveMode b) = 0 → s.rxObject b f = some k → (s.nat (Key.canfiltObjectId b k)).testBit 29 = false →
          Answers (.frameReceived b f t0) s fun t => t.block (Key.canfiltObjectData b k) = rxRecord f 0xF 0 q.rxSeq t0
            ∧ (t.nat (Key.canfiltObjectStatus b k)).testBit 0 = true
            ∧ t.nat (Key.canFramesReceived b) = satSucc 32 (s.nat (Key.canFramesReceived b)) ∧ (t.can[b]).rxSeq = (q.rxSeq + 1) % 65536)
        ∧ (f.remote = false → ∀ i : Nat, s.nat (Key.canReceiveMode b) ≠ 0 → i < 16 → let l := filterList (s.block (Key.canfiltFilterList b))
          l.findIdx? (fun e => e.takes (f.id.testBit 31) (field f.id 28 0)) = some i → (l.map fun e => e.action).getD i 1 = 0 →
          (q.fifo.length < 64 → Answers (.frameReceived b f t0) s fun t => (t.can[b]).fifo = q.fifo ++ [rxRecord f i 0 q.rxSeq t0])
          ∧ (64 ≤ q.fifo.length → Answers (.frameReceived b f t0) s fun t => (t.can[b]).fifo = q.fifo
            ∧ t.nat (Key.canfiltFIFODiscards b) = satSucc 32 (s.nat (Key.canfiltFIFODiscards b)))))
    ∧ (∀ r : Row, u.checkRead (Key.canfiltFIFORead b) = .ok r → Answers (.fifoRead p b) s fun t =>
        t.lastAnswer p = some (.block (q.fifo.headD [])) ∧ (t.can[b]).fifo = q.fifo.tail)
    ∧ (∀ (k : Fin 64) (v : Nat), Accepts s p (Key.canfiltObjectStatus b k) v → Answers (.objectStatusClear p b k v) s fun t =>
        Only (s.acknowledged p) t [Key.canfiltObjectStatus b k] ∧ ∀ i : Fin 2,
          t.bitOf (Key.canfiltObjectStatus b k) i.val = (s.bitOf (Key.canfiltObjectStatus b k) i.val && !v.testBit i.val))
    ∧ (s.nat (Key.cantimeReferenceRole 0) = 1 → s.process ≠ psKindling → s.bus 0 ≠ busOff0 → s.bus 0 ≠ busSleep → s.listenOnly 0 = false →
        ((s.can[(0 : Fin 2)]).reference = none → Answers .timeReferenceDue s fun t =>
          t = s.setCan 0 fun x => { x with reference := some (s.referenceEntry 0 (s.referenceData 0)), begun := x.begun.or (s.contender 0) })
        ∧ ((s.can[(0 : Fin 2)]).reference.isSome = true → Answers .timeReferenceDue s fun t =>
          t.nat (Key.cantimeReferencesDropped 0) = satSucc 32 (s.nat (Key.cantimeReferencesDropped 0))
          ∧ t.can = s.can.set 0 { s.can[(0 : Fin 2)] with reference := some (s.referenceEntry 0 (List.replicate 8 0xFF)), lastSof := none }))
    ∧ (s.canopen.emcyHeld = [] → Answers .emcyInhibitEnd s fun t => t = { s with canopen := { s.canopen with emcyInhibited := false } })
    ∧ ∀ (h : List Byte) (hs : List (List Byte)), s.canopen.emcyHeld = h :: hs → Answers .emcyInhibitEnd s fun t => t.canopen.emcyHeld = hs
        ∧ (s.emcyAllowed = true → Sends s t (s.cobOf Key.emcycobCOBID 0x80) (leBytes 2 (leNat (h.take 2)) ++ leBytes 1 s.errorRegister ++ h.drop 4))

/-- The CANopen slave: SDO transfers, expedited, segmented and in blocks, with their aborts; PDOs, SYNC and heartbeats (R510, R511; frame
layouts log 20). -/
def Obligations.CanopenServices : Prop :=
  ∀ (s : State), let x := s.canopen.sdo
    (∀ d : List Byte, s.sdoOpen = true → d.length = 8 → x.asked = false → let b := byteAt d 0; let key := keyAt d
      let last := b.testBit 0
      (b.testBit 1 = false → let size := if b.testBit 0 then some (leNat (d.drop 4)) else none
          (s.earlyRefusal key size = none → Answers (.sdoInitiateDownload d) s fun t => SdoSends s t ([0x60] ++ muxOf key)
            ∧ t.canopen.sdo = { Sdo.idle with key := key, phase := .download, size := size })
          ∧ (∀ e, s.earlyRefusal key size = some e → Answers (.sdoInitiateDownload d) s fun t => SdoAborts s t key e.code
            ∧ t.nat (Key.abortDetail 2) = e.word))
      ∧ (∀ n, b.testBit 1 = true → s.pathBusy sdoPath = false → (∀ r ∈ s.dict.replies, r.1.writer ≠ .canA) → (key ≠ Key.traceCommand ∨ n ≠ 2) →
          (s.touch sdoPath).checkWrite sdoPath key (.bytes ((d.drop 4).take (if last then 4 - field b 3 2 else 4))) = .ok (.num n) →
          Answers (.sdoInitiateDownload d) s fun t => t.canopen.sdo = { Sdo.idle with key := key, asked := true } ∧ t.can = s.can
            ∧ t.dict.staged = s.dict.staged.filter (fun w => !(w.path == sdoPath && w.key == key)) ++ [⟨sdoPath, key, .num n⟩])
      ∧ (x.phase ≠ .download → Answers (.sdoDownloadSegment d) s fun t => SdoAborts s t x.key 0x05040001)
      ∧ (x.phase = .download → b.testBit 4 ≠ x.toggle → Answers (.sdoDownloadSegment d) s fun t => SdoAborts s t x.key 0x05030000)
      ∧ (x.phase = .download → b.testBit 4 = x.toggle → last = false → Answers (.sdoDownloadSegment d) s fun t =>
          SdoSends s t [BitVec.ofNat 8 (0x20 + 16 * b2n x.toggle)]
          ∧ t.canopen.sdo = { x with bytes := x.bytes ++ (d.drop 1).take (7 - field b 3 1), toggle := !x.toggle })
      ∧ (s.pathBusy sdoPath = false → let u := ((s.touch sdoPath).setSdo fun _ => { Sdo.idle with key := key, asked := true }).touch sdoPath
          (∀ e, u.checkRead key = .error e → Answers (.sdoInitiateUpload d) s fun t => SdoAborts s t key e.code)
          ∧ (∀ r, u.checkRead key = .ok r → thermalReadOf key = none → let bs := answerBytes key (u.readRow sdoPath key r).1
              Answers (.sdoInitiateUpload d) s fun t =>
                if bs.length ≤ 4 ∧ bs ≠ [] then
                  SdoSends s t ([BitVec.ofNat 8 (0x43 + (4 - bs.length) * 4)] ++ muxOf key ++ bs) ∧ t.canopen.sdo = .idle
                else SdoSends s t ([0x41] ++ muxOf key ++ leBytes 4 bs.length)
                  ∧ t.canopen.sdo = { Sdo.idle with key := key, phase := .upload, bytes := bs }))
      ∧ (x.phase ≠ .upload → Answers (.sdoUploadSegment d) s fun t => SdoAborts s t x.key 0x05040001)
      ∧ (x.phase = .upload → b.testBit 4 = x.toggle → let part := (x.bytes.drop x.sent).take 7; let done := decide (x.bytes.length ≤ x.sent + 7)
          Answers (.sdoUploadSegment d) s fun t =>
            SdoSends s t ([BitVec.ofNat 8 (16 * b2n x.toggle + 2 * (7 - part.length) + b2n done)] ++ part)
            ∧ t.canopen.sdo = if done then .idle else { x with sent := x.sent + 7, toggle := !x.toggle })
      ∧ (x.phase = .idle → last = false → s.earlyRefusal key (if b.testBit 1 then some (leNat (d.drop 4)) else none) = none →
          Answers (.sdoBlockDownload d) s fun t => SdoSends s t ([0xA4] ++ muxOf key ++ leBytes 1 sdoBlock)
            ∧ t.canopen.sdo.phase = .blockDownload ∧ t.canopen.sdo.key = key ∧ t.canopen.sdo.crc = b.testBit 2)
      ∧ (x.phase = .blockDownload → b = x.seqno + 1 → b < 127 → Answers (.sdoBlockDownload d) s fun t =>
          t = s.setSdo fun y => { y with bytes := y.bytes ++ d.drop 1, seqno := y.seqno + 1 })
      ∧ (x.phase = .blockDownloadEnd → b / 32 = 6 → last = true → x.crc = true →
          sdoCrc (x.bytes.take (x.bytes.length - field b 4 2)) ≠ leNat ((d.drop 1).take 2) →
          Answers (.sdoBlockDownload d) s fun t => SdoAborts s t x.key 0x05040004)
      ∧ (b % 4 = 0 → byteAt d 4 = 0 ∨ 127 < byteAt d 4 → Answers (.sdoBlockUpload d) s fun t => SdoAborts s t key 0x05040002)
      ∧ (b % 4 = 3 → x.phase = .blockUploadStart → Answers (.sdoBlockUpload d) s fun t => t.canopen.sdo.phase = .blockUpload
          ∧ t.canopen.sdo.bytes = x.bytes ∧ t.canopen.sdo.seqno = min x.blksize (max 1 (((x.bytes.drop x.sent).length + 6) / 7)))
      ∧ Answers (.sdoAbort d) s fun t => t = s.setSdo fun _ => .idle)
    ∧ (s.clocksRun = true → s.canopen.nmt = 5 →
      (∀ (k : Fin 8) (data : List Byte) (cob : Nat), s.pdoCob (Key.rpdoCOBID k) 0x200 k = some cob → s.slaveOwner (cobWord cob) = some (.rpdo k) →
        ((s.pdoMap (0x1600 + k.val)).map fun m => m.2).sum ≤ data.length →
        (s.nat (Key.rpdoTransmissionType k) ≤ 240 → Answers (.rpdoReceived k data) s fun t =>
            t = s.setOpen fun c => { c with rpdos := c.rpdos.set k (some data) })
        ∧ (∀ (key n : Nat) (v : DVal), 240 < s.nat (Key.rpdoTransmissionType k) → (key ≠ Key.traceCommand ∨ v ≠ .num 2) → s.pdoMap (0x1600 + k.val) = [(key, n)] →
            (s.touch pdoPath).checkWrite pdoPath key (.bytes (data.take n)) = .ok v → Answers (.rpdoReceived k data) s fun t =>
              t.dict.staged = s.dict.staged.filter (fun w => !(w.path == pdoPath && w.key == key)) ++ [⟨pdoPath, key, v⟩]))
      ∧ (∀ (k : Fin 8) (cob : Nat), s.pdoCob (Key.tpdoCOBID k) 0x180 k = some cob → (s.canopen.tpdos[k]).inhibited = false →
          254 ≤ s.nat (Key.tpdoTransmissionType k) → Answers (.tpdoTransmit k false) s fun t => (t.canopen.tpdos[k]).waiting = false
            ∧ Sends s t cob ((s.pdoMap (0x1A00 + k.val)).flatMap fun m => ((findRow m.1).map fun r => r.ty.bytesOf (s.shown sdoPath m.1)).getD [])
            ∧ (t.canopen.tpdos[k]).inhibited = (s.nat (Key.tpdoInhibitTime k) != 0))
      ∧ (∀ k : Fin 8, s.nat (Key.tpdoTransmissionType k) = 0 → Answers (.tpdoTransmit k false) s fun t => t = s.setTpdo k fun y => { y with waiting := true })
      ∧ ∀ f : CanFrame, f.remote = false → f.id.testBit 30 = false →
          (s.slaveOwner f.id = some .sync → Answers (.syncReceived f) s fun t => t.canopen.syncCount = (f.data.headD 0).toNat
            ∧ ∀ k : Fin 8, t.canopen.rpdos[k] = none)
          ∧ (s.slaveOwner f.id ≠ some .sync → Answers (.syncReceived f) s fun t => t = s))
    ∧ (s.clocksRun = true → s.canopen.nmt ≠ 0 →
      (s.nat Key.hbprodTime ≠ 0 → Answers .heartbeatProduce s fun t => Sends s t (0x700 + s.nodeId) (leBytes 1 s.canopen.nmt) ∧ t.obj = s.obj)
      ∧ ∀ i : Fin 4, s.consumerNode i ≠ 0 → s.consumerTime i ≠ 0 → s.canopen.absent.contains i = false → Answers (.heartbeatConsumerTimeout i) s fun t =>
          Moves { s with canopen := { s.canopen with absent := s.canopen.absent ++ [i] } } t []
          ∧ (s.logOpen → t.lastLogged 0x0806 noSource 0 (s.consumerNode i)))

/-- What this node does with the Flue frames it takes: neighbours and adjacencies, link state, heads, seats, status, banking, the plan,
dictionary transactions, boundaries, logs; frames for others go on with one hop less; a bad frame is counted and nothing more (R525-R528,
R534, R535, R538-R541, R543, R546, R548-R551, R319; log 44). -/
def Obligations.FlueFramesReceived : Prop :=
  ∀ (s : State) (m : FlueMsg), let p := m.port; let tick := s.clock.tick; let port := s.flue.ports[p]
    (∀ (b : FlueBody) (i : Instr), ((b, i) ∈ [(FlueBody.awake, Instr.awakeReceived m)] ∨ (∃ l, b = .map l ∧ i = .mapReceived m l)
        ∨ (∃ x, b = .status x ∧ i = .statusReceived m x) ∨ (∃ h, b = .hello h ∧ i = .helloReceived m h)) → s.portUp p = true →
        (m.fcs = false ∨ m.check = false ∨ m.ether ≠ 0x88B5 ∨ m.head.version ≠ 1 ∨ m.head.ftype ≠ typeCode b
            ∨ m.head.fclass ≠ 64 * classOf (queueOf b) ∨ m.head.length ≠ m.head.octets ∨ 460 < m.head.length → Answers i s fun t => t = s.bump 32 (Key.portCheckErrors p))
        ∧ (m.fcs = true → frameSound m b = true → m.room = false → Answers i s fun t => Moves s t [Key.portQueueDiscards p]
            ∧ t.nat (Key.portQueueDiscards p) = satSucc 32 (s.nat (Key.portQueueDiscards p)))
        ∧ (m.fcs = true → frameSound m b = true → m.room = true → (s.flag (Key.portAuthentication p) = true → m.tagOk = true) →
            addressesOk m b = false → Answers i s fun t => t = s)
        ∧ (m.fcs = true → frameSound m b = true → m.room = true → s.flag (Key.portAuthentication p) = true → m.tagOk = false → Answers i s fun t =>
            t.nat (Key.portAuthenticationFailures p) = satSucc 32 (s.nat (Key.portAuthenticationFailures p))
            ∧ Moves { s with flue := t.flue } t [Key.portAuthenticationFailures p] ∧ t.flue.groups = s.flue.groups ∧ t.flue.wanted = s.flue.wanted)
        ∧ (s.Takes m b → Answers i s fun t => t.nat (Key.portFramesReceived p) = satSucc 32 (s.nat (Key.portFramesReceived p)))
        ∧ (m.fcs = true → frameSound m b = true → m.room = true → addressesOk m b = true → s.flag (Key.portAuthentication p) = false → s.aliveRepeats m.src (dataIdOf b) m.alive = true →
            Answers i s fun t => t = s.bump 32 (Key.portFramesReceived p)))
    ∧ (∀ h : Hello, s.Takes m (.hello h) → Answers (.helloReceived m h) s fun t => let q := t.flue.ports[p]
        let run := if port.lastHello.any (fun l => decide (tick < l + 480)) then port.runStart.getD tick else tick
        q.neighbour = some h ∧ q.lastHello = some tick ∧ q.runStart = some run ∧ t.nat (Key.portNeighbourAddress p) = h.addr
        ∧ t.nat (Key.portNeighbourUniqueIDHigh p) = h.uid / 2 ^ 32 ∧ t.nat (Key.portNeighbourUniqueIDLow p) = h.uid % 2 ^ 32
        ∧ t.nat (Key.portLinkState p) = (if s.nat (Key.portLinkState p) = 2 ∧ h.auth = s.flag (Key.portAuthentication p) ∧ run + 3200 ≤ tick then 3
            else s.nat (Key.portLinkState p)))
    ∧ (∀ l : LinkState, s.Takes m (.linkState l) → Answers (.linkStateReceived m l) s fun t =>
        (l.origin ≠ s.uid → (∀ q ∈ s.flue.lsdb, q.origin = l.origin → q.seq < l.seq) →
          t.flue.lsdb = s.flue.lsdb.filter (fun q => q.origin != l.origin) ++ [l])
        ∧ ((∃ q ∈ s.flue.lsdb, q.origin = l.origin ∧ l.seq ≤ q.seq) → t.flue.lsdb = s.flue.lsdb ∧ t.flue.ports = s.flue.ports))
    ∧ (∀ (h : HeadInfo) (r : FlueGroup), s.Takes m (.head h) → s.groupOf h.group = some r → Answers (.headReceived m h) s fun t =>
        ∃ q, t.groupOf h.group = some q ∧ q.head = h.head ∧ q.deputy = h.deputy)
    ∧ (∀ uid addr : Nat, s.Takes m (.seat uid addr false) → addrSeated addr = true → Answers (.seatReceived m uid addr) s fun t =>
        (uid = s.uid → t.address = addr ∧ t.nat Key.flueStoredAddress = addr ∧ t.myGroup = addrGroup addr ∧ t.nat Key.flueLevel = addrLevel addr
          ∧ t.nat Key.flueSeatState = if s.process = psKindling then 3 else 2)
        ∧ (uid ≠ s.uid → t.address = s.address ∧ t.flue.groups = s.flue.groups))
    ∧ (∀ addr : Nat, s.Takes m (.seat s.uid addr false) → addrSeated addr = false → Answers (.seatReceived m s.uid addr) s fun t =>
        t.address = s.address ∧ t.flue.groups = s.flue.groups ∧ t.nat Key.flueSeatState = s.nat Key.flueSeatState)
    ∧ (∀ (g : Nat) (i : Fin 15) (r : FlueGroup), s.groupOf g = some r →
        (∀ uid addr : Nat, s.Takes m (.seat uid addr true) → s.seatAt addr = some (g, i) → Answers (.seatAcknowledgeReceived m uid addr) s fun t =>
          uid ∈ t.flue.acked ∧ t.SeatIs g i fun q => q = { r.members[i] with addr := addr, uid := uid, state := 1, statusTick := some tick })
        ∧ (s.seatAt m.src = some (g, i) → let cur := r.members[i]
          (∀ x : StatusInfo, s.Takes m (.status x) → Answers (.statusReceived m x) s fun t => t.SeatIs g i fun q => q.state = 1 ∧ q.addr = m.src
            ∧ q.status = x.status ∧ q.alarm = x.alarm ∧ q.severe = x.severe ∧ q.lastSevere = x.lastSevere ∧ q.channels = x.channels
            ∧ q.statusTick = some tick)
          ∧ (∀ wake : Nat, s.Takes m (.banking wake) → let accept := !s.wouldCut r cur.uid
            Answers (.bankingReceived m wake) s fun t => FlueSends s t m.src (.bankingAnswer accept (s.nat Key.flueMaximumBankingTime))
              ∧ t.SeatIs g i fun q => q.state = (if accept then 2 else cur.state) ∧ q.wake = if accept then wake else cur.wake)
          ∧ (s.Takes m .awake → cur.state = 2 → Answers (.awakeReceived m) s fun t => t.SeatIs g i fun q => q.state = 1 ∧ q.mailbox = [])
          ∧ (s.Takes m .awake → cur.state ≠ 2 → Answers (.awakeReceived m) s fun t => t.flue.groups = s.flue.groups)))
    ∧ (∀ (accept : Bool) (maximum : Nat), s.Takes m (.bankingAnswer accept maximum) → Answers (.bankingAnswerReceived m accept maximum) s fun t =>
        t.power.noticeOut = false ∧ (s.power.noticeOut = true →
          (accept = true → t.flue.beacon = some (s.moduleNs / 1000000000 + maximum) ∧ Woken { s with power := { s.power with noticeOut := false } } t)
          ∧ (accept = false → t.power.refusalHold = true)))
    ∧ (∀ (group number : Nat) (last : Bool) (bytes had : List Byte), s.Takes m (.plan group number last bytes) →
        (number = 0 ∧ had = [] ∨ number ≠ 0 ∧ s.flue.planIn = some (group, number, had)) →
        (last = true → Answers (.planReceived m ⟨group, number, last⟩ bytes) s fun t =>
          t.block Key.planPlan = had ++ bytes ∧ t.nat Key.planPartHeld = group ∧ t.flue.planIn = none)
        ∧ (last = false → Answers (.planReceived m ⟨group, number, last⟩ bytes) s fun t =>
          t.flue.planIn = some (group, number + 1, had ++ bytes) ∧ t.block Key.planPlan = s.block Key.planPlan))
    ∧ (∀ channels : List Nat, s.Takes m (.map channels) →
        (m.dst = s.address → s.answers m.dst = true → Answers (.mapReceived m channels) s fun t => t.flue.wanted = channels)
        ∧ (∀ r, m.dst ≠ s.address → s.answers m.dst = true → s.groupOf m.dst = some r → Answers (.mapReceived m channels) s fun t =>
            t.flue.wanted = s.flue.wanted ∧ t.groupOf m.dst = some { r with wanted := channels })
        ∧ (s.answers m.dst = false → Answers (.mapReceived m channels) s fun t => t.flue.wanted = s.flue.wanted ∧ t.flue.groups = s.flue.groups))
    ∧ (∀ r : LogInfo, s.Takes m (.log r) → s.logOpen → Answers (.logFrameReceived m r) s fun t => t.lastLogged r.code r.source m.src r.w5 r.w6)
    ∧ (s.answers m.dst = true → let busy := s.flue.serving.any fun x => x.src == m.src
      (∀ r : DictReq, s.Takes m (.dictReq r) →
        (busy = true → s.keptRsp m.src r.tid = none → Answers (.dictReqReceived m r) s fun t => t.flue.waiting =
          if (s.flue.waiting.filter fun x => x.src == m.src).length < 4 then s.flue.waiting ++ [⟨m.src, m.dst, r⟩] else s.flue.waiting)
        ∧ (∀ x, busy = true → s.keptRsp m.src r.tid = some x → s.answers m.src = false → Answers (.dictReqReceived m r) s fun t =>
            FlueSendsFrom s t m.dst m.src (.dictRsp x) ∧ t.flue.waiting = s.flue.waiting)
        ∧ (∀ e, busy = false → s.keptRsp m.src r.tid = none → m.dst = s.address → r.op = 1 → s.pathBusy ⟨.flue, m.src⟩ = false →
            (s.touch ⟨.flue, m.src⟩).checkRead (reqKey r) = .error e → s.dict.replies = [] → s.flue.waiting = [] → s.answers m.src = false →
            Answers (.dictReqReceived m r) s fun t => FlueSends s t m.src (.dictRsp ⟨r.tid, r.op + 0x80, 2, e.code, 0, []⟩)
              ∧ t.flue.serving = s.flue.serving))
      ∧ (∀ (r : DictRsp) (f : FanRequest), s.Takes m (.dictRsp r) → s.flue.fans.find? (fun f => f.dst == m.src && f.tid == r.tid) = some f →
          f.group = s.currentGroup →
          (r.status = 0 ∨ r.status = 2 → Answers (.dictRspReceived m r) s fun t => t.bitOf (Key.fanoutPendingMask f.entry) f.seat = false
            ∧ (r.status = 2 → t.bitOf (Key.fanoutFailedMask f.entry) f.seat = true ∧ t.nat (Key.fanoutLastAbort f.entry) = r.abort))
          ∧ (r.status = 1 → Answers (.dictRspReceived m r) s fun t => t.flue.fans = s.flue.fans))
      ∧ (∀ (d : DomSeg) (x : DomTransfer), s.Takes m (.domSeg d) → d.ack = false →
          s.flue.doms.find? (fun t => t.src == m.src && t.req.tid == d.tid && (t.req.op == 3) == d.ack) = some x →
          let others := s.flue.doms.filter fun y => !(y.src == x.src && y.req.tid == x.req.tid)
          (d.number < x.next → Answers (.domSegReceived m d) s fun t => t.flue.doms = s.flue.doms)
          ∧ (x.next < d.number → Answers (.domSegReceived m d) s fun t => t.flue.doms = others)
          ∧ (d.number = x.next → d.last = false → Answers (.domSegReceived m d) s fun t =>
              t.flue.doms = others ++ [{ x with next := x.next + 1, bytes := x.bytes ++ d.data }]))
      ∧ ∀ b : Boundary, s.clocksRun = true → s.process ≠ psKindling → s.Takes m (.boundary b) → s.flag (Key.colEnable b.receiving) = true → s.linkMatches b.receiving b (some m.src) = true →
          let r := b.receiving
          let timely := b.step = s.stepNumber r ∧ b.period = s.stepSeconds r * 1000 ∧ b.flags.testBit 0 = true
          (timely → (b.up = true ∨ b.width = s.nat (Key.colCellsAcross r)) → Answers (.boundaryReceived m b) s fun t =>
            (if b.up then (t.kelsis.columns[r]).up = some b else (t.kelsis.columns[r]).down = some b)
            ∧ t.nat (Key.boundLastStepReceived r) = b.step
            ∧ t.nat (Key.boundMessagesAccepted r) = satSucc 32 (s.nat (Key.boundMessagesAccepted r)))
          ∧ (¬ timely → Answers (.boundaryReceived m b) s fun t => t.kelsis = s.kelsis
            ∧ t.nat (Key.boundMessagesDiscarded r) = satSucc 32 (s.nat (Key.boundMessagesDiscarded r))))
    ∧ ∀ b : FlueBody, s.clocksRun = true → s.portUp p = true → s.answers m.dst = false → frameSound m b = true →
        (s.flag (Key.portAuthentication p) = true → m.tagOk = true) →
        (m.fcs = false → queueOf b ≠ 0 → Answers (.frameForward m b) s fun t => t = s.bump 32 (Key.portCheckErrors p))
        ∧ (m.fcs = true → addressesOk m b = false → Answers (.frameForward m b) s fun t => t = s)
        ∧ (m.fcs = true → addressesOk m b = true → s.process = psKindling → Answers (.frameForward m b) s fun t =>
            t = s.bump 32 (Key.portFramesReceived p))
        ∧ (m.fcs = true → addressesOk m b = true → s.process ≠ psKindling → m.hop ≤ 1 → Answers (.frameForward m b) s fun t => t.flue = s.flue
            ∧ t.nat Key.flueHopLimitDiscards = satSucc 32 (s.nat Key.flueHopLimitDiscards))
        ∧ (m.fcs = true → addressesOk m b = true → s.process ≠ psKindling → 1 < m.hop → s.sleeperAt m.dst = none →
            (s.routePort m.dst = none → Answers (.frameForward m b) s fun t => t.flue = s.flue
              ∧ t.nat Key.flueUnreachableFrames = satSucc 32 (s.nat Key.flueUnreachableFrames))
            ∧ (∀ e : Fin 4, s.routePort m.dst = some e → s.Room e b → Answers (.frameForward m b) s fun t => Queued s t e (m.hop - 1) m.dst m.src b))
        ∧ (∀ e : Fin 4, m.fcs = false → queueOf b = 0 → addressesOk m b = true → s.process ≠ psKindling → 1 < m.hop → s.sleeperAt m.dst = none →
            s.routePort m.dst = some e → s.Room e b → Answers (.frameForward m b) s fun t =>
              t.nat (Key.portCheckErrors p) = satSucc 32 (s.nat (Key.portCheckErrors p))
              ∧ ∃ f : FlueFrame, f.spoiled = true ∧ f.body = b ∧ f.dst = m.dst
                ∧ (t.flue.ports[e]).queues[0] = (s.flue.ports[e]).queues[0] ++ [f])
        ∧ (∀ (g : Nat) (i : Fin 15) (r : FlueGroup), m.fcs = true → addressesOk m b = true → s.process ≠ psKindling → 1 < m.hop → s.sleeperAt m.dst = some (g, i) → s.groupOf g = some r →
            b = .awake → (r.members[i]).mailbox.length < 32 → Answers (.frameForward m b) s fun t => t.SeatIs g i fun q =>
              ∃ f : FlueFrame, f.body = b ∧ f.dst = m.dst ∧ f.src = m.src ∧ q.mailbox = (r.members[i]).mailbox ++ [f])

/-- What this node does on Flue of itself and on orders: HELLOs and announcements, lost and gained links, elections, its status, absent
members, the site plan and key, fan-out writes, time (R523, R533-R539, R543, R547, R549, R552, R553, R555, R562). -/
def Obligations.FlueNodeWork : Prop :=
  ∀ (s : State) (p : Path), s.clocksRun = true → let u := s.touch p
    (∀ i ∈ [Instr.linkStateRefresh, .headAnnounce, .statusSend, .gptpSyncSend], Answers i s fun t =>
        Moves { s with flue := t.flue } t flueCounters)
    ∧ (Answers .helloSend s fun t => Moves { s with flue := t.flue, free := t.free } t flueCounters ∧ ∀ k : Fin 4,
        (∀ h, s.Room k (.hello h)) → ∃ h : Hello, Queued s t k 1 0xFFFFFFFF s.address (.hello h) ∧ h.uid = s.uid ∧ h.addr = s.address
          ∧ h.group = s.myGroup ∧ h.priority = s.nat Key.flueHeadPriority ∧ h.banking = s.power.banking
          ∧ h.auth = s.flag (Key.portAuthentication k))
    ∧ (Answers .linkStateRefresh s fun t => t.flue.lsSeq = s.flue.lsSeq + 1)
    ∧ (∀ (r : FlueGroup) (k : Fin 4), r ∈ s.flue.groups → s.adjacent k = true →
        (s.neighbourGroup k = r.addr ∧ r.addr = s.myGroup ∨ r.addr ≠ s.myGroup ∧ addrUnder r.addr (s.neighbourGroup k) = true) →
        ((s.flue.ports[k]).queues[2]).length + s.flue.groups.length ≤ 16 →
        (Answers .linkStateRefresh s fun t => ∃ f ∈ (t.flue.ports[k]).queues[2],
          f.body = .linkState { s.ownLinkState with seq := s.flue.lsSeq + 1 })
        ∧ (r.head = s.uid → r.head ≠ 0 → Answers .headAnnounce s fun t => ∃ f ∈ (t.flue.ports[k]).queues[2],
          f.body = .head ⟨r.addr, r.head, r.deputy⟩))
    ∧ (∀ k : Fin 4, let up := s.nat (Key.portLinkState k) = 3; let quiet := ((s.flue.ports[k]).neighbour.map fun h => h.banking).getD false
        let lost (t : State) : Prop := (t.flue.ports[k]).lastHello = none ∧ s.flue.lsSeq < t.flue.lsSeq
          ∧ ((∀ r ∈ s.flue.groups, r.head = 0 ∨ r.head = s.uid) → t.flue.lsSeq = s.flue.lsSeq + 1)
          ∧ t.nat (Key.portAdjacencyLosses k) = satSucc 32 (s.nat (Key.portAdjacencyLosses k))
          ∧ (quiet = false → s.logOpen → (∀ r ∈ s.flue.groups, r.head = 0 ∨ r.head = s.uid) →
              t.lastLogged 0x0901 noSource k.val (s.neighbourUid k % 2 ^ 32))
          ∧ (quiet = true → (∀ r ∈ s.flue.groups, r.head = 0 ∨ r.head = s.uid) → t.ash = s.ash)
        let silent := (s.flue.ports[k]).lastHello ≠ some s.clock.tick
        (up → silent → Answers (.adjacencyTimeout k) s fun t => t.nat (Key.portLinkState k) = 2 ∧ lost t)
        ∧ (¬ up ∨ ¬ silent → Answers (.adjacencyTimeout k) s fun t => t = s)
        ∧ (up → Answers (.phyLinkLoss k) s fun t => t.nat (Key.portLinkState k) = 0 ∧ lost t)
        ∧ (¬ up → Answers (.phyLinkLoss k) s fun t => Only { s with flue := t.flue } t [Key.portLinkState k] ∧ t.nat (Key.portLinkState k) = 0
            ∧ (t.flue.ports[k]).lastHello = none)
        ∧ ∀ trained : Bool, let link := if trained then 2 else 1
          (s.flag Key.flueEnable = true → s.flag (Key.portEnable k) = true → s.nat (Key.portLinkState k) < link →
            Answers (.phyLinkUp ⟨k, trained⟩) s fun t => t = s.putN (Key.portLinkState k) link)
          ∧ (s.flag Key.flueEnable = false ∨ s.flag (Key.portEnable k) = false ∨ link ≤ s.nat (Key.portLinkState k) →
            Answers (.phyLinkUp ⟨k, trained⟩) s fun t => t = s))
    ∧ (∀ (g : Nat) (r : FlueGroup), s.groupOf g = some r → let c := s.candidates g
        Answers (.election g) s fun t => ∃ q, t.groupOf g = some q
          ∧ (r.head ≠ 0 → s.reaches g r.head = true → (∃ x ∈ c, x.1 = r.head) → q.head = r.head)
          ∧ (r.head = 0 ∨ s.reaches g r.head = false → c ≠ [] → ∃ x ∈ c, x.1 = q.head ∧ ∀ y ∈ c, y.2 < x.2 ∨ (y.2 = x.2 ∧ x.1 ≤ y.1)))
    ∧ (s.seated = false → Answers .statusSend s fun t => t = s)
    ∧ (s.seated = true → (∀ r ∈ s.flue.groups, r.head ≠ s.uid) → Answers .statusSend s fun t => FlueSends s t s.myGroup (.status s.ownStatus))
    ∧ (∀ (i : Fin 15) (r : FlueGroup), s.seated = true → s.headed.contains s.myGroup = true → s.seatAt s.address = some (s.myGroup, i) →
        s.groupOf s.myGroup = some r → (∀ q ∈ s.flue.groups, q.head = s.uid → q.addr = 0 ∨ s.seatAt q.addr = none) → Answers .statusSend s fun t =>
        t.SeatIs s.myGroup i fun q => q.state = 1 ∧ q.status = s.flueStatus ∧ q.alarm = s.alarmWord ∧ q.statusTick = some s.clock.tick)
    ∧ (∀ (g : Nat) (i : Fin 15) (r : FlueGroup), s.groupOf g = some r → s.headed.contains g = true → let cur := r.members[i]
        let absent (t : State) : Prop := Moves { s with flue := t.flue } t []
          ∧ t.SeatIs g i (fun q => q = { cur with state := 3, mailbox := [], fullLogged := false }) ∧ (s.logOpen → t.lastLogged 0x0904 noSource cur.addr)
        (cur.state = 1 → Answers (.memberAbsent g i) s absent) ∧ (cur.state ≠ 1 → Answers (.memberAbsent g i) s fun t => t = s)
        ∧ (cur.state = 2 → Answers (.wakeTimeOverdue g i) s absent) ∧ (cur.state ≠ 2 → Answers (.wakeTimeOverdue g i) s fun t => t = s))
    ∧ (Answers .bankingAnswerTimeout s fun t => t = { s with power := { s.power with noticeOut := false } })
    ∧ (∀ (data : List Byte) (d : DVal), u.checkWrite p Key.planPlan (.bytes data) = .ok d →
        (planOk data = true → Answers (.sitePlanWrite p data) s fun t => t.lastAnswer p = some .done ∧ t.block Key.planPlan = data
          ∧ t.nat Key.planPartHeld = 0)
        ∧ (planOk data = false → Answers (.sitePlanWrite p data) s fun t => t.lastAnswer p = some (.abort 0x06090030) ∧ t.flue = s.flue
          ∧ t.block Key.planPlan = s.block Key.planPlan))
    ∧ (∀ (data : List Byte) (d : DVal), u.checkWrite p Key.flueSiteKey (.bytes data) = .ok d →
        (data.length = 0 ∨ data.length = 16 → Answers (.siteKeyWrite p data) s fun t => t.lastAnswer p = some .done ∧ t.flue.siteKey = data
          ∧ (data = [] → t.nat Key.flueKeyCheckValue = 0)
          ∧ (data ≠ [] → t.nat Key.flueKeyCheckValue
              = leNat ((cmacOfZeros (data.map fun b => b.toNat)).take 4 |>.map fun n => BitVec.ofNat 8 n))))
    ∧ (∀ (data : List Byte) (e : Refused), u.checkWrite p Key.flueSiteKey (.bytes data) = .error e → Answers (.siteKeyWrite p data) s fun t =>
        t.flue = s.flue ∧ t.lastAnswer p = some (.abort e.code))
    ∧ (∀ (e : Fin 16) (v : BitVec 32), Accepts s p (Key.fanoutValue e.val) v.toNat → Answers (.fanOutWrite p e v) s fun t =>
        (s.lowestGroup = none → t.nat (Key.fanoutPendingMask e) = 0 ∧ t.nat (Key.fanoutFailedMask e) = 0 ∧ t.nat (Key.fanoutValue e) = v.toNat)
        ∧ ∀ g : FlueGroup, s.lowestGroup = some g →
            (∀ i : Fin 15, (s.nat (Key.fanoutMemberMask e)).testBit (i.val + 1) = true → (g.members[i]).state ≠ 0 →
              s.answers (g.members[i]).addr = false) → t.nat (Key.fanoutFailedMask e) = 0 ∧ ∀ i : Fin 15,
            t.bitOf (Key.fanoutPendingMask e) (i.val + 1)
              = ((s.nat (Key.fanoutMemberMask e)).testBit (i.val + 1) && (g.members[i]).state != 0))
    ∧ (∀ (e : Fin 16) (i : Fin 15), let f? := s.flue.fans.find? fun f => f.entry == e.val && f.seat == i.val + 1
        (f? = none → Answers (.fanOutAnswerTimeout e i) s fun t => t = s)
        ∧ (∀ f, f? = some f → f.group = s.currentGroup → (∀ g, s.groupOf f.group = some g → (g.members[i]).state ≠ 2) →
            Answers (.fanOutAnswerTimeout e i) s fun t =>
            t.bitOf (Key.fanoutPendingMask e) (i.val + 1) = false ∧ t.bitOf (Key.fanoutFailedMask e) (i.val + 1) = true
            ∧ t.flue.fans = s.flue.fans.filter fun x => !(x.group == f.group && x.entry == e.val && x.seat == i.val + 1)))
    ∧ (∀ k : Fin 4,
        (∀ (offset : Int) (gm : Nat), s.portUp k = true → s.isGrandmaster = false → let n := s.flue.syncs + 1
          Answers (.gptpSyncReceived k offset gm) s fun t => t.flue.syncs = n
            ∧ t.nat Key.ftimeSyncState = (if 8 ≤ n then 1 else s.nat Key.ftimeSyncState)
            ∧ (s.timeSynced = true → t.clock = { s.clock with flueOffset := s.clock.flueOffset - offset })
            ∧ t.nat Key.ftimeGrandmasterHigh = gm / 2 ^ 32 ∧ t.nat Key.ftimeGrandmasterLow = gm % 2 ^ 32
            ∧ ∀ j : Fin 4, j ≠ k → s.process ≠ psKindling → s.portUp j = true → ((s.flue.ports[j]).queues[1]).length ≤ 2 →
                ((t.flue.ports[j]).queues[1]).map FlueFrame.body = ((s.flue.ports[j]).queues[1]).map FlueFrame.body
                  ++ [.gptp 0 t.moduleNs, .gptp 1 t.moduleNs])
        ∧ (∀ (offset : Int) (gm : Nat), s.isGrandmaster = true → Answers (.gptpSyncReceived k offset gm) s fun t => t = s)
        ∧ (s.Room k (.gptp 2 s.moduleNs) → Answers (.peerDelayMeasure k) s fun t =>
            Queued s t k 1 0 s.address (.gptp 2 s.moduleNs) ∧ t.obj = s.obj)
        ∧ (s.Room k (.gptp 3 s.moduleNs) → Answers (.peerDelayFrameReceived k none) s fun t => Queued s t k 1 0 s.address (.gptp 3 s.moduleNs))
        ∧ (∀ ns : Nat, s.portUp k = true → Answers (.peerDelayFrameReceived k (some ns)) s fun t => t = s.putN (Key.portPeerDelay k) (ns % 2 ^ 32))
        ∧ (s.nat Key.ftimeSyncState = 3 → s.portUp k = true → ((s.flue.ports[k]).queues[1]).length ≤ 2 → Answers .gptpSyncSend s fun t =>
            ((t.flue.ports[k]).queues[1]).map FlueFrame.body = ((s.flue.ports[k]).queues[1]).map FlueFrame.body
              ++ [.gptp 0 s.moduleNs, .gptp 1 s.moduleNs]))
    ∧ (Answers .syncMissed s fun t => t.flue = { s.flue with syncs := 0 }
        ∧ t.nat Key.ftimeSyncState = if s.nat Key.ftimeSyncState = 1 then 2 else s.nat Key.ftimeSyncState)
    ∧ (s.nat Key.ftimeSyncState = 2 → Answers .holdoverTimeout s fun t => Moves s t [Key.ftimeSyncState, Key.ftimeSyncLosses]
        ∧ t.nat Key.ftimeSyncState = 0 ∧ t.nat Key.ftimeSyncLosses = satSucc 32 (s.nat Key.ftimeSyncLosses)
        ∧ (s.logOpen → t.lastLogged 0x0906 noSource))
    ∧ (s.nat Key.ftimeSyncState ≠ 2 → Answers .holdoverTimeout s fun t => t = s)
    ∧ ∀ r : Row, u.checkRead Key.ftimeFlueTimeSeconds = .ok r → let ns := if s.timeSynced then s.moduleNs else 0
        Answers (.flueTimeRead p) s fun t => t.lastAnswer p = some (.value (Int.ofNat (ns / 1000000000 % 2 ^ 32)))
          ∧ t.flue.nsLatch = ns % 1000000000 ∧ t.obj = u.obj

/-- Cowl, Ash and thermal commands: a check value is what its polynomial gives, a silent context times out; records are written, merged and
refused by a full or failed log, read record by record, cleared; conversions are judged against the levels (R567, R573, R575, R577,
R589-R592, R595, R596, R601-R608, R610, R613, R614). -/
def Obligations.CowlAshAndThermal : Prop :=
  ∀ (s : State) (p : Path), let b := s.acknowledged p; let u := s.touch p; let a := s.ash
    (∀ (data : List Byte) (d : DVal), s.clocksRun = true → u.checkWrite p Key.cowlComputeData (.bytes data) = .ok d →
        Answers (.cowlCompute p data) s fun t => t = b.putN Key.cowlComputeResult (crcOf (s.cowlParams (s.nat Key.cowlComputeUnit)) data))
    ∧ (∀ (n : Fin 4), s.clocksRun = true → let c := s.cowlParams n.val
        (Answers (.cowlUnitStart n) s fun t => t = { s with cowl := s.cowl.set n { s.cowl[n] with reg := c.init % 2 ^ c.width } }
          ∧ ∀ data : List Byte, Answers (.cowlUnitData n data) t fun v => let reg := (v.cowl[n]).reg
              ((if c.refout then reflect c.width reg else reg) ^^^ c.xorOut) % 2 ^ c.width = crcOf c data)
        ∧ ∀ i : Fin 16, let w := s.cowlWord n i; let x := (s.cowl[n]).contexts[i]
          let overdue := w.testBit 31 = true ∧ w.testBit 30 = false ∧ field w 11 0 ≠ 0 ∧ x.timeout = false ∧ s.cowlHeard n i = false
          (overdue → Answers (.cowlContextTimeout n i) s fun t => Moves { s with cowl := t.cowl } t [Key.cowlGapsAndTimeouts n]
            ∧ (∀ j : Fin 16, (t.cowl[n]).contexts[j] = if j = i then { x with timeout := true, result := 5 } else (s.cowl[n]).contexts[j])
            ∧ t.nat (Key.cowlGapsAndTimeouts n) = satSucc 32 (s.nat (Key.cowlGapsAndTimeouts n)))
          ∧ (¬ overdue → Answers (.cowlContextTimeout n i) s fun t => t = s))
    ∧ (a.failed = true ∨ a.clearing.isSome = true ∨ s.logRuns = false ∨ (a.queue = [] ∧ a.episode = 0) → ∀ r, Answers (.ashRecordWrite r) s fun t => t = s)
    ∧ (∀ (q : AshQueued) (qs : List AshQueued), a.failed = false → a.clearing = none → s.logRuns = true → a.queue = q :: qs →
        (qs ≠ [] ∨ a.episode = 0 →
          (s.flag Key.ashFull = false → s.merges q = false → a.slots.length < 16319 → Answers (.ashRecordWrite 0) s fun t => t.ash.queue = qs
            ∧ t.ash.slots = recordOf q.event q.first q.last q.tally :: a.slots)
          ∧ (∀ (r : AshRecord) (rs : List AshRecord), s.flag Key.ashFull = false → s.merges q = true → a.slots = r :: rs → Answers (.ashRecordWrite 0) s fun t =>
              t.ash.queue = qs ∧ t.ash.slots = { r with repeats := satAdd 16 r.repeats (1 + q.tally), offset := q.last - r.first * 1000 } :: rs
              ∧ t.obj = s.obj)
          ∧ (s.flag Key.ashFull = false → s.merges q = false → a.slots.length = 16319 → Answers (.ashRecordWrite 0) s fun t => t.flag Key.ashFull = true
              ∧ t.ash.slots.length = 16320 ∧ (t.ash.slots.head?.map fun r => r.event.code) = some 0x0C02)
          ∧ (s.flag Key.ashFull = true → Answers (.ashRecordWrite 0) s fun t => t.ash.slots.length = a.slots.length
              ∧ t.nat Key.ashLostEvents = satAdd 32 (s.nat Key.ashLostEvents) (1 + q.tally)))
        ∧ (∀ r : Fin 3, r ≠ 0 → Answers (.ashRecordWrite r) s fun t => t.ash.failed = true ∧ t.ash.queue = [] ∧ t.ash.slots = a.slots
            ∧ (s.sleeperAt s.myGroup = none →
              t.nat Key.ashLostEvents = satAdd 32 (s.nat Key.ashLostEvents) (a.queue.foldl (fun n q => n + 1 + q.tally) 0))
            ∧ (a.reserve.length < 8 → t.ash.reserve.length = a.reserve.length + 1 ∧ (t.ash.reserve.getLast?.map fun r => r.event.code) = some 0x0C03)))
    ∧ (∀ v : Nat, Accepts s p Key.ashClear v → Answers (.ashClear p v) s fun t =>
        t = { b with ash := { a with clearing := some (a.slots.length, s.nat Key.ashLostEvents, p.writer.code) } })
    ∧ (a.clearing = none ∨ s.logRuns = false → ∀ r, Answers (.ashClearDone r) s fun t => t = s)
    ∧ (∀ n lost writer : Nat, a.clearing = some (n, lost, writer) → s.logRuns = true →
        (Answers (.ashClearDone 0) s fun t => t.ash.clearing = none ∧ t.ash.reserve = [] ∧ t.ash.cursors = Vector.replicate 8 0
          ∧ t.ash.clears = satSucc 16 a.clears ∧ t.flag Key.ashFull = false ∧ t.nat Key.ashLostEvents = 0
          ∧ ∃ r, t.ash.slots = [r] ∧ r.event.code = 0x0C04 ∧ r.event.w4 = n ∧ r.event.w5 = lost ∧ r.event.w6 = writer)
        ∧ ∀ r : Fin 3, r ≠ 0 → Answers (.ashClearDone r) s fun t => t.ash.clearing = none ∧ t.ash.failed = true ∧ t.ash.slots = a.slots)
    ∧ (s.clocksRun = true → let w := writerFin p
        (∀ r : Row, u.checkRead (Key.ashRecordWord 0) = .ok r → let l := ((s.ashAt a.cursors[w]).map fun r => if a.failed then r.words else s.slotWords a.cursors[w] r).getD []
          Answers (.ashRecordLatch p) s fun t => t.lastAnswer p = some (.value (Int.ofNat (l.getD 0 0).toNat))
            ∧ t.ash = { a with latched := a.latched.set w l } ∧ t.obj = u.obj)
        ∧ (∀ r : Row, u.checkRead (Key.ashRecordWord 7) = .ok r → Answers (.ashCursorAdvance p) s fun t =>
            t.lastAnswer p = some (.value (Int.ofNat ((a.latched[w]).getD 7 0).toNat)) ∧ t.obj = u.obj
            ∧ t.ash = { a with cursors := a.cursors.set w (if a.cursors[w] < s.ashCount then a.cursors[w] + 1 else a.cursors[w]), advanced := a.advanced.set w (a.advanced[w] + 1) }))
    ∧ (s.clocksRun = false → Answers .thermalSchedule s fun t => t = s)
    ∧ (s.clocksRun = true → let amb := s.ambient; let q := ratioOf amb; let f (t : State) : Int := t.get Key.thermalDeratingFactor
        Answers .thermalSchedule s fun t => (∀ i : Fin 6, t.thermal.demand[i] = true ∨ t.thermal.converting = some i)
          ∧ t.word Key.thermalAmbientInUse = amb ∧ t.bitOf Key.thermalStatus 7 = decide (60 * Int.ofNat q.2 < q.1)
          ∧ (q.1 ≤ 60 * Int.ofNat q.2 → f t = 10000) ∧ (60 * Int.ofNat q.2 < q.1 → 85 * Int.ofNat q.2 ≤ q.1 → f t = 5000)
          ∧ (60 * Int.ofNat q.2 < q.1 → q.1 < 85 * Int.ofNat q.2 → 0 < q.2 →
              (f t * Int.ofNat q.2 - (22000 * Int.ofNat q.2 - 200 * q.1)).natAbs < q.2))
    ∧ (∀ (i : Fin 6) (r : Row), s.clocksRun = true → u.checkRead (Key.thermalTS i) = .ok r → Answers (.thermalRead p i) s fun t =>
        (∀ j : Fin 6, t.thermal.demand[j] = true ∨ t.thermal.converting = some j) ∧ t.obj = u.obj
        ∧ (writerIsCore p.writer = true → t.lastAnswer p = some (.value (s.get (Key.thermalTS i))))
        ∧ (writerIsCore p.writer = false → t.dict = u.dict ∧ ∃ x ∈ t.thermal.readers, x.path = p ∧ x.sensor = i))
    ∧ (∀ bank : Nat, Accepts s p Key.thermalBankEnable bank → Answers (.bankEnable p bank) s fun t =>
        Only b t [Key.thermalStatus] ∧ t.bitOf Key.thermalStatus (3 + bank) = false)
    ∧ (Accepts s p Key.thermalRestart 1 → Answers (.thermalRestart p) s fun t => InReset s t ∧ t.thermal.records = s.thermal.records
        ∧ t.thermal.restore = if s.process = psFault ∧ s.startup.faultEvents.contains 0x0203 = true then
            s.thermal.records.head?.map fun e => ⟨e.process, e.mode, e.check, 0, 0, false⟩ else none)
    ∧ (∀ x : ThermalReading, s.thermal.converting = none → Answers (.thermalConversionEnd x) s fun t => t = s)
    ∧ ∀ (i : Fin 6) (x : ThermalReading), s.clocksRun = true → s.thermal.converting = some i → s.coldHold = false →
        let broken := s.bitOf Key.thermalStatus (8 + i.val); let k := s.thermal.sensors[i]; let g := throttleGroup i
        let runs (P : State → Prop) := Answers (.thermalConversionEnd x) s fun t => t.word (Key.thermalTS i) = x.value
          ∧ t.thermal.lastTick[i] = some s.clock.tick ∧ P t
        let sound := broken = false ∧ x.isOpen = false ∧ x.isShort = false ∧ (k.known = false ∨ apart20 x.value k.valid = false)
        (sound → fle (levelThrottle i) x.value = true → fle (levelShutdown i) x.value = false → runs fun t => t.bitOf Key.thermalStatus g = true)
        ∧ (sound → fle (levelThrottle i) x.value = false → s.bitOf Key.thermalStatus g = true → fle x.value (levelRelease i) = false →
            runs fun t => t.bitOf Key.thermalStatus g = true)
        ∧ (sound → g ≠ 0 → fle (levelShutdown i) x.value = true → fle (levelHard i) x.value = false → runs fun t =>
            t.bitOf Key.thermalStatus (3 + g) = true ∧ t.process = s.process)
        ∧ (sound → (g = 0 ∧ fle (levelShutdown i) x.value = true ∨ fle (levelShutdown i) x.value = true ∧ fle (levelHard i) x.value = true) →
            runs fun t => t.bitOf Key.thermalStatus 6 = true ∧ t.process = (if s.process = psKindling then psKindling else psFault)
              ∧ t.nat Key.thermalLastShutdownSensor = i
              ∧ t.word Key.thermalLastShutdownReading = x.value ∧ t.nat Key.thermalShutdowns = satSucc 32 (s.nat Key.thermalShutdowns))
        ∧ (broken = false → x.isOpen = true ∨ x.isShort = true → runs fun t => t.bitOf Key.thermalStatus (8 + i.val) = true
            ∧ t.bitOf Key.thermalStatus (if g = 0 then 0 else 3 + g) = true
            ∧ (∀ j ∈ groupSensors 0, g = 0 → j ≠ i → s.bitOf Key.thermalStatus (8 + j.val) = true → t.bitOf Key.thermalStatus 6 = true
                ∧ t.nat Key.thermalLastShutdownSensor = 0xFF))
        ∧ (broken = true → let good := if x.isOpen || x.isShort || apart20 x.value k.last then 0 else k.good + 1
            runs fun t => t.bitOf Key.thermalStatus (8 + i.val) = decide (good < 3))
end

