-- ==== Sys2Proof/Laws/Store.lean ====
section
/-! SUPPORT. The laws of keyed stores: read after write, and the canonical form that every operation keeps. -/

namespace Sys2Proof.Machine

variable {α : Type}

theorem lookupKey_insertKey_same (m : List (Nat × α)) (k : Nat) (v : α) : lookupKey (insertKey m k v) k = some v := by
  induction m with
  | nil => simp [insertKey, lookupKey]
  | cons e t ih =>
    obtain ⟨a, w⟩ := e
    simp only [insertKey]
    split
    · simp [lookupKey]
    · split
      · simp [lookupKey]
      · rename_i _ h
        simp [lookupKey, Ne.symm h, ih]

theorem lookupKey_insertKey_other (m : List (Nat × α)) (k j : Nat) (v : α) (h : j ≠ k) :
    lookupKey (insertKey m k v) j = lookupKey m j := by
  induction m with
  | nil => simp [insertKey, lookupKey, Ne.symm h]
  | cons e t ih =>
    obtain ⟨a, w⟩ := e
    simp only [insertKey]
    split
    · simp [lookupKey, Ne.symm h]
    · split
      · rename_i _ e
        subst e
        simp [lookupKey, Ne.symm h]
      · simp [lookupKey, ih]

theorem lookupKey_eraseKey_same (m : List (Nat × α)) (k : Nat) : lookupKey (eraseKey m k) k = none := by
  induction m with
  | nil => rfl
  | cons e t ih =>
    obtain ⟨a, w⟩ := e
    by_cases h : a = k
    · simpa [eraseKey, List.filter_cons, h] using ih
    · simpa [eraseKey, List.filter_cons, h, lookupKey] using ih

theorem lookupKey_eraseKey_other (m : List (Nat × α)) (k j : Nat) (h : j ≠ k) : lookupKey (eraseKey m k) j = lookupKey m j := by
  induction m with
  | nil => rfl
  | cons e t ih =>
    obtain ⟨a, w⟩ := e
    by_cases hk : a = k
    · have : a ≠ j := fun e => h (e.symm.trans hk)
      simpa [eraseKey, List.filter_cons, hk, lookupKey, this, Ne.symm h] using ih
    · simp only [eraseKey, List.filter_cons, bne_iff_ne, ne_eq, hk, not_false_eq_true, ↓reduceIte, lookupKey]
      split
      · rfl
      · simpa [eraseKey] using ih

variable [DecidableEq α]

/-- Read after write, the same key. -/
@[simp] theorem readKey_writeKey_same (d : Nat → α) (m : List (Nat × α)) (k : Nat) (v : α) : readKey d (writeKey d m k v) k = v := by
  unfold readKey writeKey
  split
  · rename_i w h
    split at h
    · simp [lookupKey_eraseKey_same] at h
    · simpa [lookupKey_insertKey_same] using h.symm
  · rename_i h
    split at h
    · rename_i e; exact e.symm
    · simp [lookupKey_insertKey_same] at h

/-- Read after write, another key. -/
theorem readKey_writeKey_other (d : Nat → α) (m : List (Nat × α)) (k j : Nat) (v : α) (h : j ≠ k) :
    readKey d (writeKey d m k v) j = readKey d m j := by
  by_cases hv : v = d k
  · simp only [readKey, writeKey, hv, if_true, lookupKey_eraseKey_other m k j h]
  · simp only [readKey, writeKey, hv, if_false, lookupKey_insertKey_other m k j v h]

/-! ### The canonical form -/

/-- The canonical form as two properties of a list. -/
theorem canonicalFrom_iff (d : Nat → α) (m : List (Nat × α)) (b : Nat) :
    canonicalFrom d b m = true ↔ m.Pairwise (fun x y => x.1 < y.1) ∧ ∀ e ∈ m, b ≤ e.1 ∧ e.2 ≠ d e.1 := by
  induction m generalizing b with
  | nil => simp [canonicalFrom]
  | cons e t ih =>
    obtain ⟨a, v⟩ := e
    simp only [canonicalFrom, Bool.and_eq_true, decide_eq_true_eq, ih, List.pairwise_cons, List.mem_cons, forall_eq_or_imp]
    constructor
    · rintro ⟨⟨h1, h2⟩, h3, h4⟩
      exact ⟨⟨fun x hx => (h4 x hx).1, h3⟩, ⟨h1, h2⟩, fun x hx => ⟨by have := (h4 x hx).1; omega, (h4 x hx).2⟩⟩
    · rintro ⟨⟨h1, h2⟩, ⟨h3, h4⟩, h5⟩
      exact ⟨⟨h3, h4⟩, h2, fun x hx => ⟨h1 x hx, (h5 x hx).2⟩⟩

theorem canonical_iff (d : Nat → α) (m : List (Nat × α)) :
    canonical d m = true ↔ m.Pairwise (fun x y => x.1 < y.1) ∧ ∀ e ∈ m, e.2 ≠ d e.1 := by
  simp [canonical, canonicalFrom_iff]

omit [DecidableEq α] in
theorem mem_insertKey (m : List (Nat × α)) (k : Nat) (v : α) (e : Nat × α) (h : e ∈ insertKey m k v) : e = (k, v) ∨ e ∈ m := by
  induction m with
  | nil => simp [insertKey] at h; exact .inl h
  | cons x t ih =>
    obtain ⟨a, w⟩ := x
    simp only [insertKey] at h
    split at h
    · simp at h; simpa using h
    · split at h
      · simp at h; rcases h with h | h
        · exact .inl h
        · exact .inr (List.mem_cons_of_mem _ h)
      · simp at h; rcases h with h | h
        · exact .inr (by simp [h])
        · rcases ih h with h | h
          · exact .inl h
          · exact .inr (List.mem_cons_of_mem _ h)

omit [DecidableEq α] in
/-- Inserting keeps the keys rising. -/
theorem pairwise_insertKey (m : List (Nat × α)) (k : Nat) (v : α) (h : m.Pairwise (fun x y => x.1 < y.1)) :
    (insertKey m k v).Pairwise (fun x y => x.1 < y.1) := by
  induction m with
  | nil => simp [insertKey]
  | cons x t ih =>
    obtain ⟨a, w⟩ := x
    rw [List.pairwise_cons] at h
    simp only [insertKey]
    split
    · rename_i hk
      refine List.pairwise_cons.mpr ⟨fun y hy => ?_, List.pairwise_cons.mpr h⟩
      rcases List.mem_cons.mp hy with rfl | hy
      · exact hk
      · exact Nat.lt_trans hk (h.1 y hy)
    · split
      · rename_i hk; subst hk
        exact List.pairwise_cons.mpr ⟨h.1, h.2⟩
      · rename_i h1 h2
        refine List.pairwise_cons.mpr ⟨fun y hy => ?_, ih h.2⟩
        rcases mem_insertKey t k v y hy with rfl | hy
        · show a < k; omega
        · exact h.1 y hy

/-- Every write keeps the canonical form. -/
theorem canonical_writeKey (d : Nat → α) (m : List (Nat × α)) (k : Nat) (v : α) (h : canonical d m = true) :
    canonical d (writeKey d m k v) = true := by
  rw [canonical_iff] at *
  unfold writeKey
  split
  · exact ⟨h.1.filter _, fun e he => h.2 e (List.mem_filter.mp he).1⟩
  · rename_i hv
    refine ⟨pairwise_insertKey m k v h.1, fun e he => ?_⟩
    rcases mem_insertKey m k v e he with rfl | he
    · exact hv
    · exact h.2 e he

/-- Removing entries keeps the canonical form. -/
theorem canonical_filter (d : Nat → α) (m : List (Nat × α)) (p : Nat × α → Bool) (h : canonical d m = true) :
    canonical d (m.filter p) = true := by
  rw [canonical_iff] at *
  exact ⟨h.1.filter _, fun e he => h.2 e (List.mem_filter.mp he).1⟩

end Sys2Proof.Machine
end

