-- ==== Sys2Proof/Laws/State.lean ====
section
/-! SUPPORT. What the dictionary's and the cores' updates do, field by field, and reading after writing. -/

namespace Sys2Proof.Machine

open Sys2Proof

/-! ### Fields -/

@[simp] theorem State.put_base (s : State) (k : Nat) (v : Int) : (s.put k v).base = s.base := rfl
@[simp] theorem State.put_blk (s : State) (k : Nat) (v : Int) : (s.put k v).blk = s.blk := rfl
@[simp] theorem State.put_clock (s : State) (k : Nat) (v : Int) : (s.put k v).clock = s.clock := rfl
@[simp] theorem State.put_power (s : State) (k : Nat) (v : Int) : (s.put k v).power = s.power := rfl
@[simp] theorem State.put_startup (s : State) (k : Nat) (v : Int) : (s.put k v).startup = s.startup := rfl
@[simp] theorem State.put_dict (s : State) (k : Nat) (v : Int) : (s.put k v).dict = s.dict := rfl
@[simp] theorem State.put_cores (s : State) (k : Nat) (v : Int) : (s.put k v).cores = s.cores := rfl
@[simp] theorem State.put_sram (s : State) (k : Nat) (v : Int) : (s.put k v).sram = s.sram := rfl
@[simp] theorem State.put_fram (s : State) (k : Nat) (v : Int) : (s.put k v).fram = s.fram := rfl
@[simp] theorem State.put_images (s : State) (k : Nat) (v : Int) : (s.put k v).images = s.images := rfl
@[simp] theorem State.put_front (s : State) (k : Nat) (v : Int) : (s.put k v).front = s.front := rfl
@[simp] theorem State.put_router (s : State) (k : Nat) (v : Int) : (s.put k v).router = s.router := rfl
@[simp] theorem State.put_cowl (s : State) (k : Nat) (v : Int) : (s.put k v).cowl = s.cowl := rfl
@[simp] theorem State.put_ash (s : State) (k : Nat) (v : Int) : (s.put k v).ash = s.ash := rfl
@[simp] theorem State.put_outputs (s : State) (k : Nat) (v : Int) : (s.put k v).outputs = s.outputs := rfl
@[simp] theorem State.put_acts (s : State) (k : Nat) (v : Int) : (s.put k v).acts = s.acts := rfl
@[simp] theorem State.put_thermal (s : State) (k : Nat) (v : Int) : (s.put k v).thermal = s.thermal := rfl
@[simp] theorem State.put_bellows (s : State) (k : Nat) (v : Int) : (s.put k v).bellows = s.bellows := rfl
@[simp] theorem State.put_kelsis (s : State) (k : Nat) (v : Int) : (s.put k v).kelsis = s.kelsis := rfl
@[simp] theorem State.put_can (s : State) (k : Nat) (v : Int) : (s.put k v).can = s.can := rfl
@[simp] theorem State.put_canopen (s : State) (k : Nat) (v : Int) : (s.put k v).canopen = s.canopen := rfl
@[simp] theorem State.put_flue (s : State) (k : Nat) (v : Int) : (s.put k v).flue = s.flue := rfl
@[simp] theorem State.put_free (s : State) (k : Nat) (v : Int) : (s.put k v).free = s.free := rfl
@[simp] theorem State.put_pending (s : State) (k : Nat) (v : Int) : (s.put k v).pending = s.pending := rfl

@[simp] theorem State.putN_base (s : State) (k v : Nat) : (s.putN k v).base = s.base := rfl
@[simp] theorem State.putN_blk (s : State) (k v : Nat) : (s.putN k v).blk = s.blk := rfl
@[simp] theorem State.putN_clock (s : State) (k v : Nat) : (s.putN k v).clock = s.clock := rfl
@[simp] theorem State.putN_power (s : State) (k v : Nat) : (s.putN k v).power = s.power := rfl
@[simp] theorem State.putN_startup (s : State) (k v : Nat) : (s.putN k v).startup = s.startup := rfl
@[simp] theorem State.putN_dict (s : State) (k v : Nat) : (s.putN k v).dict = s.dict := rfl
@[simp] theorem State.putN_cores (s : State) (k v : Nat) : (s.putN k v).cores = s.cores := rfl
@[simp] theorem State.putN_sram (s : State) (k v : Nat) : (s.putN k v).sram = s.sram := rfl
@[simp] theorem State.putN_fram (s : State) (k v : Nat) : (s.putN k v).fram = s.fram := rfl
@[simp] theorem State.putN_images (s : State) (k v : Nat) : (s.putN k v).images = s.images := rfl
@[simp] theorem State.putN_front (s : State) (k v : Nat) : (s.putN k v).front = s.front := rfl
@[simp] theorem State.putN_router (s : State) (k v : Nat) : (s.putN k v).router = s.router := rfl
@[simp] theorem State.putN_cowl (s : State) (k v : Nat) : (s.putN k v).cowl = s.cowl := rfl
@[simp] theorem State.putN_ash (s : State) (k v : Nat) : (s.putN k v).ash = s.ash := rfl
@[simp] theorem State.putN_outputs (s : State) (k v : Nat) : (s.putN k v).outputs = s.outputs := rfl
@[simp] theorem State.putN_acts (s : State) (k v : Nat) : (s.putN k v).acts = s.acts := rfl
@[simp] theorem State.putN_thermal (s : State) (k v : Nat) : (s.putN k v).thermal = s.thermal := rfl
@[simp] theorem State.putN_bellows (s : State) (k v : Nat) : (s.putN k v).bellows = s.bellows := rfl
@[simp] theorem State.putN_kelsis (s : State) (k v : Nat) : (s.putN k v).kelsis = s.kelsis := rfl
@[simp] theorem State.putN_can (s : State) (k v : Nat) : (s.putN k v).can = s.can := rfl
@[simp] theorem State.putN_canopen (s : State) (k v : Nat) : (s.putN k v).canopen = s.canopen := rfl
@[simp] theorem State.putN_flue (s : State) (k v : Nat) : (s.putN k v).flue = s.flue := rfl
@[simp] theorem State.putN_free (s : State) (k v : Nat) : (s.putN k v).free = s.free := rfl
@[simp] theorem State.putN_pending (s : State) (k v : Nat) : (s.putN k v).pending = s.pending := rfl

@[simp] theorem State.putW_base (s : State) (k : Nat) (v : Word) : (s.putW k v).base = s.base := rfl
@[simp] theorem State.putW_blk (s : State) (k : Nat) (v : Word) : (s.putW k v).blk = s.blk := rfl
@[simp] theorem State.putW_clock (s : State) (k : Nat) (v : Word) : (s.putW k v).clock = s.clock := rfl
@[simp] theorem State.putW_power (s : State) (k : Nat) (v : Word) : (s.putW k v).power = s.power := rfl
@[simp] theorem State.putW_startup (s : State) (k : Nat) (v : Word) : (s.putW k v).startup = s.startup := rfl
@[simp] theorem State.putW_dict (s : State) (k : Nat) (v : Word) : (s.putW k v).dict = s.dict := rfl
@[simp] theorem State.putW_cores (s : State) (k : Nat) (v : Word) : (s.putW k v).cores = s.cores := rfl
@[simp] theorem State.putW_sram (s : State) (k : Nat) (v : Word) : (s.putW k v).sram = s.sram := rfl
@[simp] theorem State.putW_fram (s : State) (k : Nat) (v : Word) : (s.putW k v).fram = s.fram := rfl
@[simp] theorem State.putW_images (s : State) (k : Nat) (v : Word) : (s.putW k v).images = s.images := rfl
@[simp] theorem State.putW_front (s : State) (k : Nat) (v : Word) : (s.putW k v).front = s.front := rfl
@[simp] theorem State.putW_router (s : State) (k : Nat) (v : Word) : (s.putW k v).router = s.router := rfl
@[simp] theorem State.putW_cowl (s : State) (k : Nat) (v : Word) : (s.putW k v).cowl = s.cowl := rfl
@[simp] theorem State.putW_ash (s : State) (k : Nat) (v : Word) : (s.putW k v).ash = s.ash := rfl
@[simp] theorem State.putW_outputs (s : State) (k : Nat) (v : Word) : (s.putW k v).outputs = s.outputs := rfl
@[simp] theorem State.putW_acts (s : State) (k : Nat) (v : Word) : (s.putW k v).acts = s.acts := rfl
@[simp] theorem State.putW_thermal (s : State) (k : Nat) (v : Word) : (s.putW k v).thermal = s.thermal := rfl
@[simp] theorem State.putW_bellows (s : State) (k : Nat) (v : Word) : (s.putW k v).bellows = s.bellows := rfl
@[simp] theorem State.putW_kelsis (s : State) (k : Nat) (v : Word) : (s.putW k v).kelsis = s.kelsis := rfl
@[simp] theorem State.putW_can (s : State) (k : Nat) (v : Word) : (s.putW k v).can = s.can := rfl
@[simp] theorem State.putW_canopen (s : State) (k : Nat) (v : Word) : (s.putW k v).canopen = s.canopen := rfl
@[simp] theorem State.putW_flue (s : State) (k : Nat) (v : Word) : (s.putW k v).flue = s.flue := rfl
@[simp] theorem State.putW_free (s : State) (k : Nat) (v : Word) : (s.putW k v).free = s.free := rfl
@[simp] theorem State.putW_pending (s : State) (k : Nat) (v : Word) : (s.putW k v).pending = s.pending := rfl

@[simp] theorem State.putB_base (s : State) (k : Nat) (b : Bool) : (s.putB k b).base = s.base := rfl
@[simp] theorem State.putB_blk (s : State) (k : Nat) (b : Bool) : (s.putB k b).blk = s.blk := rfl
@[simp] theorem State.putB_clock (s : State) (k : Nat) (b : Bool) : (s.putB k b).clock = s.clock := rfl
@[simp] theorem State.putB_power (s : State) (k : Nat) (b : Bool) : (s.putB k b).power = s.power := rfl
@[simp] theorem State.putB_startup (s : State) (k : Nat) (b : Bool) : (s.putB k b).startup = s.startup := rfl
@[simp] theorem State.putB_dict (s : State) (k : Nat) (b : Bool) : (s.putB k b).dict = s.dict := rfl
@[simp] theorem State.putB_cores (s : State) (k : Nat) (b : Bool) : (s.putB k b).cores = s.cores := rfl
@[simp] theorem State.putB_sram (s : State) (k : Nat) (b : Bool) : (s.putB k b).sram = s.sram := rfl
@[simp] theorem State.putB_fram (s : State) (k : Nat) (b : Bool) : (s.putB k b).fram = s.fram := rfl
@[simp] theorem State.putB_images (s : State) (k : Nat) (b : Bool) : (s.putB k b).images = s.images := rfl
@[simp] theorem State.putB_front (s : State) (k : Nat) (b : Bool) : (s.putB k b).front = s.front := rfl
@[simp] theorem State.putB_router (s : State) (k : Nat) (b : Bool) : (s.putB k b).router = s.router := rfl
@[simp] theorem State.putB_cowl (s : State) (k : Nat) (b : Bool) : (s.putB k b).cowl = s.cowl := rfl
@[simp] theorem State.putB_ash (s : State) (k : Nat) (b : Bool) : (s.putB k b).ash = s.ash := rfl
@[simp] theorem State.putB_outputs (s : State) (k : Nat) (b : Bool) : (s.putB k b).outputs = s.outputs := rfl
@[simp] theorem State.putB_acts (s : State) (k : Nat) (b : Bool) : (s.putB k b).acts = s.acts := rfl
@[simp] theorem State.putB_thermal (s : State) (k : Nat) (b : Bool) : (s.putB k b).thermal = s.thermal := rfl
@[simp] theorem State.putB_bellows (s : State) (k : Nat) (b : Bool) : (s.putB k b).bellows = s.bellows := rfl
@[simp] theorem State.putB_kelsis (s : State) (k : Nat) (b : Bool) : (s.putB k b).kelsis = s.kelsis := rfl
@[simp] theorem State.putB_can (s : State) (k : Nat) (b : Bool) : (s.putB k b).can = s.can := rfl
@[simp] theorem State.putB_canopen (s : State) (k : Nat) (b : Bool) : (s.putB k b).canopen = s.canopen := rfl
@[simp] theorem State.putB_flue (s : State) (k : Nat) (b : Bool) : (s.putB k b).flue = s.flue := rfl
@[simp] theorem State.putB_free (s : State) (k : Nat) (b : Bool) : (s.putB k b).free = s.free := rfl
@[simp] theorem State.putB_pending (s : State) (k : Nat) (b : Bool) : (s.putB k b).pending = s.pending := rfl

@[simp] theorem State.putBit_base (s : State) (k n : Nat) (b : Bool) : (s.putBit k n b).base = s.base := rfl
@[simp] theorem State.putBit_blk (s : State) (k n : Nat) (b : Bool) : (s.putBit k n b).blk = s.blk := rfl
@[simp] theorem State.putBit_clock (s : State) (k n : Nat) (b : Bool) : (s.putBit k n b).clock = s.clock := rfl
@[simp] theorem State.putBit_power (s : State) (k n : Nat) (b : Bool) : (s.putBit k n b).power = s.power := rfl
@[simp] theorem State.putBit_startup (s : State) (k n : Nat) (b : Bool) : (s.putBit k n b).startup = s.startup := rfl
@[simp] theorem State.putBit_dict (s : State) (k n : Nat) (b : Bool) : (s.putBit k n b).dict = s.dict := rfl
@[simp] theorem State.putBit_cores (s : State) (k n : Nat) (b : Bool) : (s.putBit k n b).cores = s.cores := rfl
@[simp] theorem State.putBit_sram (s : State) (k n : Nat) (b : Bool) : (s.putBit k n b).sram = s.sram := rfl
@[simp] theorem State.putBit_fram (s : State) (k n : Nat) (b : Bool) : (s.putBit k n b).fram = s.fram := rfl
@[simp] theorem State.putBit_images (s : State) (k n : Nat) (b : Bool) : (s.putBit k n b).images = s.images := rfl
@[simp] theorem State.putBit_front (s : State) (k n : Nat) (b : Bool) : (s.putBit k n b).front = s.front := rfl
@[simp] theorem State.putBit_router (s : State) (k n : Nat) (b : Bool) : (s.putBit k n b).router = s.router := rfl
@[simp] theorem State.putBit_cowl (s : State) (k n : Nat) (b : Bool) : (s.putBit k n b).cowl = s.cowl := rfl
@[simp] theorem State.putBit_ash (s : State) (k n : Nat) (b : Bool) : (s.putBit k n b).ash = s.ash := rfl
@[simp] theorem State.putBit_outputs (s : State) (k n : Nat) (b : Bool) : (s.putBit k n b).outputs = s.outputs := rfl
@[simp] theorem State.putBit_acts (s : State) (k n : Nat) (b : Bool) : (s.putBit k n b).acts = s.acts := rfl
@[simp] theorem State.putBit_thermal (s : State) (k n : Nat) (b : Bool) : (s.putBit k n b).thermal = s.thermal := rfl
@[simp] theorem State.putBit_bellows (s : State) (k n : Nat) (b : Bool) : (s.putBit k n b).bellows = s.bellows := rfl
@[simp] theorem State.putBit_kelsis (s : State) (k n : Nat) (b : Bool) : (s.putBit k n b).kelsis = s.kelsis := rfl
@[simp] theorem State.putBit_can (s : State) (k n : Nat) (b : Bool) : (s.putBit k n b).can = s.can := rfl
@[simp] theorem State.putBit_canopen (s : State) (k n : Nat) (b : Bool) : (s.putBit k n b).canopen = s.canopen := rfl
@[simp] theorem State.putBit_flue (s : State) (k n : Nat) (b : Bool) : (s.putBit k n b).flue = s.flue := rfl
@[simp] theorem State.putBit_free (s : State) (k n : Nat) (b : Bool) : (s.putBit k n b).free = s.free := rfl
@[simp] theorem State.putBit_pending (s : State) (k n : Nat) (b : Bool) : (s.putBit k n b).pending = s.pending := rfl

@[simp] theorem State.putDefault_base (s : State) (k : Nat) : (s.putDefault k).base = s.base := rfl
@[simp] theorem State.putDefault_blk (s : State) (k : Nat) : (s.putDefault k).blk = s.blk := rfl
@[simp] theorem State.putDefault_clock (s : State) (k : Nat) : (s.putDefault k).clock = s.clock := rfl
@[simp] theorem State.putDefault_power (s : State) (k : Nat) : (s.putDefault k).power = s.power := rfl
@[simp] theorem State.putDefault_startup (s : State) (k : Nat) : (s.putDefault k).startup = s.startup := rfl
@[simp] theorem State.putDefault_dict (s : State) (k : Nat) : (s.putDefault k).dict = s.dict := rfl
@[simp] theorem State.putDefault_cores (s : State) (k : Nat) : (s.putDefault k).cores = s.cores := rfl
@[simp] theorem State.putDefault_sram (s : State) (k : Nat) : (s.putDefault k).sram = s.sram := rfl
@[simp] theorem State.putDefault_fram (s : State) (k : Nat) : (s.putDefault k).fram = s.fram := rfl
@[simp] theorem State.putDefault_images (s : State) (k : Nat) : (s.putDefault k).images = s.images := rfl
@[simp] theorem State.putDefault_front (s : State) (k : Nat) : (s.putDefault k).front = s.front := rfl
@[simp] theorem State.putDefault_router (s : State) (k : Nat) : (s.putDefault k).router = s.router := rfl
@[simp] theorem State.putDefault_cowl (s : State) (k : Nat) : (s.putDefault k).cowl = s.cowl := rfl
@[simp] theorem State.putDefault_ash (s : State) (k : Nat) : (s.putDefault k).ash = s.ash := rfl
@[simp] theorem State.putDefault_outputs (s : State) (k : Nat) : (s.putDefault k).outputs = s.outputs := rfl
@[simp] theorem State.putDefault_acts (s : State) (k : Nat) : (s.putDefault k).acts = s.acts := rfl
@[simp] theorem State.putDefault_thermal (s : State) (k : Nat) : (s.putDefault k).thermal = s.thermal := rfl
@[simp] theorem State.putDefault_bellows (s : State) (k : Nat) : (s.putDefault k).bellows = s.bellows := rfl
@[simp] theorem State.putDefault_kelsis (s : State) (k : Nat) : (s.putDefault k).kelsis = s.kelsis := rfl
@[simp] theorem State.putDefault_can (s : State) (k : Nat) : (s.putDefault k).can = s.can := rfl
@[simp] theorem State.putDefault_canopen (s : State) (k : Nat) : (s.putDefault k).canopen = s.canopen := rfl
@[simp] theorem State.putDefault_flue (s : State) (k : Nat) : (s.putDefault k).flue = s.flue := rfl
@[simp] theorem State.putDefault_free (s : State) (k : Nat) : (s.putDefault k).free = s.free := rfl
@[simp] theorem State.putDefault_pending (s : State) (k : Nat) : (s.putDefault k).pending = s.pending := rfl

@[simp] theorem State.bumpWrap_base (s : State) (k : Nat) : (s.bumpWrap k).base = s.base := rfl
@[simp] theorem State.bumpWrap_blk (s : State) (k : Nat) : (s.bumpWrap k).blk = s.blk := rfl
@[simp] theorem State.bumpWrap_clock (s : State) (k : Nat) : (s.bumpWrap k).clock = s.clock := rfl
@[simp] theorem State.bumpWrap_power (s : State) (k : Nat) : (s.bumpWrap k).power = s.power := rfl
@[simp] theorem State.bumpWrap_startup (s : State) (k : Nat) : (s.bumpWrap k).startup = s.startup := rfl
@[simp] theorem State.bumpWrap_dict (s : State) (k : Nat) : (s.bumpWrap k).dict = s.dict := rfl
@[simp] theorem State.bumpWrap_cores (s : State) (k : Nat) : (s.bumpWrap k).cores = s.cores := rfl
@[simp] theorem State.bumpWrap_sram (s : State) (k : Nat) : (s.bumpWrap k).sram = s.sram := rfl
@[simp] theorem State.bumpWrap_fram (s : State) (k : Nat) : (s.bumpWrap k).fram = s.fram := rfl
@[simp] theorem State.bumpWrap_images (s : State) (k : Nat) : (s.bumpWrap k).images = s.images := rfl
@[simp] theorem State.bumpWrap_front (s : State) (k : Nat) : (s.bumpWrap k).front = s.front := rfl
@[simp] theorem State.bumpWrap_router (s : State) (k : Nat) : (s.bumpWrap k).router = s.router := rfl
@[simp] theorem State.bumpWrap_cowl (s : State) (k : Nat) : (s.bumpWrap k).cowl = s.cowl := rfl
@[simp] theorem State.bumpWrap_ash (s : State) (k : Nat) : (s.bumpWrap k).ash = s.ash := rfl
@[simp] theorem State.bumpWrap_outputs (s : State) (k : Nat) : (s.bumpWrap k).outputs = s.outputs := rfl
@[simp] theorem State.bumpWrap_acts (s : State) (k : Nat) : (s.bumpWrap k).acts = s.acts := rfl
@[simp] theorem State.bumpWrap_thermal (s : State) (k : Nat) : (s.bumpWrap k).thermal = s.thermal := rfl
@[simp] theorem State.bumpWrap_bellows (s : State) (k : Nat) : (s.bumpWrap k).bellows = s.bellows := rfl
@[simp] theorem State.bumpWrap_kelsis (s : State) (k : Nat) : (s.bumpWrap k).kelsis = s.kelsis := rfl
@[simp] theorem State.bumpWrap_can (s : State) (k : Nat) : (s.bumpWrap k).can = s.can := rfl
@[simp] theorem State.bumpWrap_canopen (s : State) (k : Nat) : (s.bumpWrap k).canopen = s.canopen := rfl
@[simp] theorem State.bumpWrap_flue (s : State) (k : Nat) : (s.bumpWrap k).flue = s.flue := rfl
@[simp] theorem State.bumpWrap_free (s : State) (k : Nat) : (s.bumpWrap k).free = s.free := rfl
@[simp] theorem State.bumpWrap_pending (s : State) (k : Nat) : (s.bumpWrap k).pending = s.pending := rfl

@[simp] theorem State.putBase_obj (s : State) (k : Nat) (v : Int) : (s.putBase k v).obj = s.obj := rfl
@[simp] theorem State.putBase_blk (s : State) (k : Nat) (v : Int) : (s.putBase k v).blk = s.blk := rfl
@[simp] theorem State.putBase_clock (s : State) (k : Nat) (v : Int) : (s.putBase k v).clock = s.clock := rfl
@[simp] theorem State.putBase_power (s : State) (k : Nat) (v : Int) : (s.putBase k v).power = s.power := rfl
@[simp] theorem State.putBase_startup (s : State) (k : Nat) (v : Int) : (s.putBase k v).startup = s.startup := rfl
@[simp] theorem State.putBase_cores (s : State) (k : Nat) (v : Int) : (s.putBase k v).cores = s.cores := rfl
@[simp] theorem State.putBase_sram (s : State) (k : Nat) (v : Int) : (s.putBase k v).sram = s.sram := rfl
@[simp] theorem State.putBase_fram (s : State) (k : Nat) (v : Int) : (s.putBase k v).fram = s.fram := rfl
@[simp] theorem State.putBase_images (s : State) (k : Nat) (v : Int) : (s.putBase k v).images = s.images := rfl
@[simp] theorem State.putBase_front (s : State) (k : Nat) (v : Int) : (s.putBase k v).front = s.front := rfl
@[simp] theorem State.putBase_router (s : State) (k : Nat) (v : Int) : (s.putBase k v).router = s.router := rfl
@[simp] theorem State.putBase_cowl (s : State) (k : Nat) (v : Int) : (s.putBase k v).cowl = s.cowl := rfl
@[simp] theorem State.putBase_ash (s : State) (k : Nat) (v : Int) : (s.putBase k v).ash = s.ash := rfl
@[simp] theorem State.putBase_outputs (s : State) (k : Nat) (v : Int) : (s.putBase k v).outputs = s.outputs := rfl
@[simp] theorem State.putBase_acts (s : State) (k : Nat) (v : Int) : (s.putBase k v).acts = s.acts := rfl
@[simp] theorem State.putBase_thermal (s : State) (k : Nat) (v : Int) : (s.putBase k v).thermal = s.thermal := rfl
@[simp] theorem State.putBase_bellows (s : State) (k : Nat) (v : Int) : (s.putBase k v).bellows = s.bellows := rfl
@[simp] theorem State.putBase_kelsis (s : State) (k : Nat) (v : Int) : (s.putBase k v).kelsis = s.kelsis := rfl
@[simp] theorem State.putBase_can (s : State) (k : Nat) (v : Int) : (s.putBase k v).can = s.can := rfl
@[simp] theorem State.putBase_canopen (s : State) (k : Nat) (v : Int) : (s.putBase k v).canopen = s.canopen := rfl
@[simp] theorem State.putBase_flue (s : State) (k : Nat) (v : Int) : (s.putBase k v).flue = s.flue := rfl
@[simp] theorem State.putBase_free (s : State) (k : Nat) (v : Int) : (s.putBase k v).free = s.free := rfl
@[simp] theorem State.putBase_pending (s : State) (k : Nat) (v : Int) : (s.putBase k v).pending = s.pending := rfl

@[simp] theorem State.putBlock_obj (s : State) (k : Nat) (bs : List Byte) : (s.putBlock k bs).obj = s.obj := rfl
@[simp] theorem State.putBlock_base (s : State) (k : Nat) (bs : List Byte) : (s.putBlock k bs).base = s.base := rfl
@[simp] theorem State.putBlock_clock (s : State) (k : Nat) (bs : List Byte) : (s.putBlock k bs).clock = s.clock := rfl
@[simp] theorem State.putBlock_power (s : State) (k : Nat) (bs : List Byte) : (s.putBlock k bs).power = s.power := rfl
@[simp] theorem State.putBlock_startup (s : State) (k : Nat) (bs : List Byte) : (s.putBlock k bs).startup = s.startup := rfl
@[simp] theorem State.putBlock_dict (s : State) (k : Nat) (bs : List Byte) : (s.putBlock k bs).dict = s.dict := rfl
@[simp] theorem State.putBlock_cores (s : State) (k : Nat) (bs : List Byte) : (s.putBlock k bs).cores = s.cores := rfl
@[simp] theorem State.putBlock_sram (s : State) (k : Nat) (bs : List Byte) : (s.putBlock k bs).sram = s.sram := rfl
@[simp] theorem State.putBlock_fram (s : State) (k : Nat) (bs : List Byte) : (s.putBlock k bs).fram = s.fram := rfl
@[simp] theorem State.putBlock_images (s : State) (k : Nat) (bs : List Byte) : (s.putBlock k bs).images = s.images := rfl
@[simp] theorem State.putBlock_front (s : State) (k : Nat) (bs : List Byte) : (s.putBlock k bs).front = s.front := rfl
@[simp] theorem State.putBlock_router (s : State) (k : Nat) (bs : List Byte) : (s.putBlock k bs).router = s.router := rfl
@[simp] theorem State.putBlock_cowl (s : State) (k : Nat) (bs : List Byte) : (s.putBlock k bs).cowl = s.cowl := rfl
@[simp] theorem State.putBlock_ash (s : State) (k : Nat) (bs : List Byte) : (s.putBlock k bs).ash = s.ash := rfl
@[simp] theorem State.putBlock_outputs (s : State) (k : Nat) (bs : List Byte) : (s.putBlock k bs).outputs = s.outputs := rfl
@[simp] theorem State.putBlock_acts (s : State) (k : Nat) (bs : List Byte) : (s.putBlock k bs).acts = s.acts := rfl
@[simp] theorem State.putBlock_thermal (s : State) (k : Nat) (bs : List Byte) : (s.putBlock k bs).thermal = s.thermal := rfl
@[simp] theorem State.putBlock_bellows (s : State) (k : Nat) (bs : List Byte) : (s.putBlock k bs).bellows = s.bellows := rfl
@[simp] theorem State.putBlock_kelsis (s : State) (k : Nat) (bs : List Byte) : (s.putBlock k bs).kelsis = s.kelsis := rfl
@[simp] theorem State.putBlock_can (s : State) (k : Nat) (bs : List Byte) : (s.putBlock k bs).can = s.can := rfl
@[simp] theorem State.putBlock_canopen (s : State) (k : Nat) (bs : List Byte) : (s.putBlock k bs).canopen = s.canopen := rfl
@[simp] theorem State.putBlock_flue (s : State) (k : Nat) (bs : List Byte) : (s.putBlock k bs).flue = s.flue := rfl
@[simp] theorem State.putBlock_free (s : State) (k : Nat) (bs : List Byte) : (s.putBlock k bs).free = s.free := rfl
@[simp] theorem State.putBlock_pending (s : State) (k : Nat) (bs : List Byte) : (s.putBlock k bs).pending = s.pending := rfl

@[simp] theorem State.setCore_obj (s : State) (c : Fin 4) (f : Core → Core) : (s.setCore c f).obj = s.obj := rfl
@[simp] theorem State.setCore_base (s : State) (c : Fin 4) (f : Core → Core) : (s.setCore c f).base = s.base := rfl
@[simp] theorem State.setCore_blk (s : State) (c : Fin 4) (f : Core → Core) : (s.setCore c f).blk = s.blk := rfl
@[simp] theorem State.setCore_clock (s : State) (c : Fin 4) (f : Core → Core) : (s.setCore c f).clock = s.clock := rfl
@[simp] theorem State.setCore_power (s : State) (c : Fin 4) (f : Core → Core) : (s.setCore c f).power = s.power := rfl
@[simp] theorem State.setCore_startup (s : State) (c : Fin 4) (f : Core → Core) : (s.setCore c f).startup = s.startup := rfl
@[simp] theorem State.setCore_dict (s : State) (c : Fin 4) (f : Core → Core) : (s.setCore c f).dict = s.dict := rfl
@[simp] theorem State.setCore_sram (s : State) (c : Fin 4) (f : Core → Core) : (s.setCore c f).sram = s.sram := rfl
@[simp] theorem State.setCore_fram (s : State) (c : Fin 4) (f : Core → Core) : (s.setCore c f).fram = s.fram := rfl
@[simp] theorem State.setCore_images (s : State) (c : Fin 4) (f : Core → Core) : (s.setCore c f).images = s.images := rfl
@[simp] theorem State.setCore_front (s : State) (c : Fin 4) (f : Core → Core) : (s.setCore c f).front = s.front := rfl
@[simp] theorem State.setCore_router (s : State) (c : Fin 4) (f : Core → Core) : (s.setCore c f).router = s.router := rfl
@[simp] theorem State.setCore_cowl (s : State) (c : Fin 4) (f : Core → Core) : (s.setCore c f).cowl = s.cowl := rfl
@[simp] theorem State.setCore_ash (s : State) (c : Fin 4) (f : Core → Core) : (s.setCore c f).ash = s.ash := rfl
@[simp] theorem State.setCore_outputs (s : State) (c : Fin 4) (f : Core → Core) : (s.setCore c f).outputs = s.outputs := rfl
@[simp] theorem State.setCore_acts (s : State) (c : Fin 4) (f : Core → Core) : (s.setCore c f).acts = s.acts := rfl
@[simp] theorem State.setCore_thermal (s : State) (c : Fin 4) (f : Core → Core) : (s.setCore c f).thermal = s.thermal := rfl
@[simp] theorem State.setCore_bellows (s : State) (c : Fin 4) (f : Core → Core) : (s.setCore c f).bellows = s.bellows := rfl
@[simp] theorem State.setCore_kelsis (s : State) (c : Fin 4) (f : Core → Core) : (s.setCore c f).kelsis = s.kelsis := rfl
@[simp] theorem State.setCore_can (s : State) (c : Fin 4) (f : Core → Core) : (s.setCore c f).can = s.can := rfl
@[simp] theorem State.setCore_canopen (s : State) (c : Fin 4) (f : Core → Core) : (s.setCore c f).canopen = s.canopen := rfl
@[simp] theorem State.setCore_flue (s : State) (c : Fin 4) (f : Core → Core) : (s.setCore c f).flue = s.flue := rfl
@[simp] theorem State.setCore_free (s : State) (c : Fin 4) (f : Core → Core) : (s.setCore c f).free = s.free := rfl
@[simp] theorem State.setCore_pending (s : State) (c : Fin 4) (f : Core → Core) : (s.setCore c f).pending = s.pending := rfl

@[simp] theorem State.bump_base (w : Nat) (s : State) (k : Nat) : (State.bump w s k).base = s.base := rfl
@[simp] theorem State.bump_blk (w : Nat) (s : State) (k : Nat) : (State.bump w s k).blk = s.blk := rfl
@[simp] theorem State.bump_clock (w : Nat) (s : State) (k : Nat) : (State.bump w s k).clock = s.clock := rfl
@[simp] theorem State.bump_power (w : Nat) (s : State) (k : Nat) : (State.bump w s k).power = s.power := rfl
@[simp] theorem State.bump_startup (w : Nat) (s : State) (k : Nat) : (State.bump w s k).startup = s.startup := rfl
@[simp] theorem State.bump_dict (w : Nat) (s : State) (k : Nat) : (State.bump w s k).dict = s.dict := rfl
@[simp] theorem State.bump_cores (w : Nat) (s : State) (k : Nat) : (State.bump w s k).cores = s.cores := rfl
@[simp] theorem State.bump_sram (w : Nat) (s : State) (k : Nat) : (State.bump w s k).sram = s.sram := rfl
@[simp] theorem State.bump_fram (w : Nat) (s : State) (k : Nat) : (State.bump w s k).fram = s.fram := rfl
@[simp] theorem State.bump_images (w : Nat) (s : State) (k : Nat) : (State.bump w s k).images = s.images := rfl
@[simp] theorem State.bump_front (w : Nat) (s : State) (k : Nat) : (State.bump w s k).front = s.front := rfl
@[simp] theorem State.bump_router (w : Nat) (s : State) (k : Nat) : (State.bump w s k).router = s.router := rfl
@[simp] theorem State.bump_cowl (w : Nat) (s : State) (k : Nat) : (State.bump w s k).cowl = s.cowl := rfl
@[simp] theorem State.bump_ash (w : Nat) (s : State) (k : Nat) : (State.bump w s k).ash = s.ash := rfl
@[simp] theorem State.bump_outputs (w : Nat) (s : State) (k : Nat) : (State.bump w s k).outputs = s.outputs := rfl
@[simp] theorem State.bump_acts (w : Nat) (s : State) (k : Nat) : (State.bump w s k).acts = s.acts := rfl
@[simp] theorem State.bump_thermal (w : Nat) (s : State) (k : Nat) : (State.bump w s k).thermal = s.thermal := rfl
@[simp] theorem State.bump_bellows (w : Nat) (s : State) (k : Nat) : (State.bump w s k).bellows = s.bellows := rfl
@[simp] theorem State.bump_kelsis (w : Nat) (s : State) (k : Nat) : (State.bump w s k).kelsis = s.kelsis := rfl
@[simp] theorem State.bump_can (w : Nat) (s : State) (k : Nat) : (State.bump w s k).can = s.can := rfl
@[simp] theorem State.bump_canopen (w : Nat) (s : State) (k : Nat) : (State.bump w s k).canopen = s.canopen := rfl
@[simp] theorem State.bump_flue (w : Nat) (s : State) (k : Nat) : (State.bump w s k).flue = s.flue := rfl
@[simp] theorem State.bump_free (w : Nat) (s : State) (k : Nat) : (State.bump w s k).free = s.free := rfl
@[simp] theorem State.bump_pending (w : Nat) (s : State) (k : Nat) : (State.bump w s k).pending = s.pending := rfl

@[simp] theorem State.zero_base (s : State) (l : List Nat) : (s.zero l).base = s.base := by
  induction l generalizing s with
  | nil => rfl
  | cons k t ih => rw [State.zero, ih]; rfl
@[simp] theorem State.zero_blk (s : State) (l : List Nat) : (s.zero l).blk = s.blk := by
  induction l generalizing s with
  | nil => rfl
  | cons k t ih => rw [State.zero, ih]; rfl
@[simp] theorem State.zero_clock (s : State) (l : List Nat) : (s.zero l).clock = s.clock := by
  induction l generalizing s with
  | nil => rfl
  | cons k t ih => rw [State.zero, ih]; rfl
@[simp] theorem State.zero_power (s : State) (l : List Nat) : (s.zero l).power = s.power := by
  induction l generalizing s with
  | nil => rfl
  | cons k t ih => rw [State.zero, ih]; rfl
@[simp] theorem State.zero_startup (s : State) (l : List Nat) : (s.zero l).startup = s.startup := by
  induction l generalizing s with
  | nil => rfl
  | cons k t ih => rw [State.zero, ih]; rfl
@[simp] theorem State.zero_dict (s : State) (l : List Nat) : (s.zero l).dict = s.dict := by
  induction l generalizing s with
  | nil => rfl
  | cons k t ih => rw [State.zero, ih]; rfl
@[simp] theorem State.zero_cores (s : State) (l : List Nat) : (s.zero l).cores = s.cores := by
  induction l generalizing s with
  | nil => rfl
  | cons k t ih => rw [State.zero, ih]; rfl
@[simp] theorem State.zero_sram (s : State) (l : List Nat) : (s.zero l).sram = s.sram := by
  induction l generalizing s with
  | nil => rfl
  | cons k t ih => rw [State.zero, ih]; rfl
@[simp] theorem State.zero_fram (s : State) (l : List Nat) : (s.zero l).fram = s.fram := by
  induction l generalizing s with
  | nil => rfl
  | cons k t ih => rw [State.zero, ih]; rfl
@[simp] theorem State.zero_images (s : State) (l : List Nat) : (s.zero l).images = s.images := by
  induction l generalizing s with
  | nil => rfl
  | cons k t ih => rw [State.zero, ih]; rfl
@[simp] theorem State.zero_front (s : State) (l : List Nat) : (s.zero l).front = s.front := by
  induction l generalizing s with
  | nil => rfl
  | cons k t ih => rw [State.zero, ih]; rfl
@[simp] theorem State.zero_router (s : State) (l : List Nat) : (s.zero l).router = s.router := by
  induction l generalizing s with
  | nil => rfl
  | cons k t ih => rw [State.zero, ih]; rfl
@[simp] theorem State.zero_cowl (s : State) (l : List Nat) : (s.zero l).cowl = s.cowl := by
  induction l generalizing s with
  | nil => rfl
  | cons k t ih => rw [State.zero, ih]; rfl
@[simp] theorem State.zero_ash (s : State) (l : List Nat) : (s.zero l).ash = s.ash := by
  induction l generalizing s with
  | nil => rfl
  | cons k t ih => rw [State.zero, ih]; rfl
@[simp] theorem State.zero_outputs (s : State) (l : List Nat) : (s.zero l).outputs = s.outputs := by
  induction l generalizing s with
  | nil => rfl
  | cons k t ih => rw [State.zero, ih]; rfl
@[simp] theorem State.zero_acts (s : State) (l : List Nat) : (s.zero l).acts = s.acts := by
  induction l generalizing s with
  | nil => rfl
  | cons k t ih => rw [State.zero, ih]; rfl
@[simp] theorem State.zero_thermal (s : State) (l : List Nat) : (s.zero l).thermal = s.thermal := by
  induction l generalizing s with
  | nil => rfl
  | cons k t ih => rw [State.zero, ih]; rfl
@[simp] theorem State.zero_bellows (s : State) (l : List Nat) : (s.zero l).bellows = s.bellows := by
  induction l generalizing s with
  | nil => rfl
  | cons k t ih => rw [State.zero, ih]; rfl
@[simp] theorem State.zero_kelsis (s : State) (l : List Nat) : (s.zero l).kelsis = s.kelsis := by
  induction l generalizing s with
  | nil => rfl
  | cons k t ih => rw [State.zero, ih]; rfl
@[simp] theorem State.zero_can (s : State) (l : List Nat) : (s.zero l).can = s.can := by
  induction l generalizing s with
  | nil => rfl
  | cons k t ih => rw [State.zero, ih]; rfl
@[simp] theorem State.zero_canopen (s : State) (l : List Nat) : (s.zero l).canopen = s.canopen := by
  induction l generalizing s with
  | nil => rfl
  | cons k t ih => rw [State.zero, ih]; rfl
@[simp] theorem State.zero_flue (s : State) (l : List Nat) : (s.zero l).flue = s.flue := by
  induction l generalizing s with
  | nil => rfl
  | cons k t ih => rw [State.zero, ih]; rfl
@[simp] theorem State.zero_free (s : State) (l : List Nat) : (s.zero l).free = s.free := by
  induction l generalizing s with
  | nil => rfl
  | cons k t ih => rw [State.zero, ih]; rfl
@[simp] theorem State.zero_pending (s : State) (l : List Nat) : (s.zero l).pending = s.pending := by
  induction l generalizing s with
  | nil => rfl
  | cons k t ih => rw [State.zero, ih]; rfl

/-! ### Reading after writing -/

@[simp] theorem State.get_put_same (s : State) (k : Nat) (v : Int) : (s.put k v).get k = v := readKey_writeKey_same _ _ _ _
theorem State.get_put_other (s : State) (k j : Nat) (v : Int) (h : j ≠ k) : (s.put k v).get j = s.get j := readKey_writeKey_other _ _ _ _ _ h
theorem State.get_put (s : State) (k j : Nat) (v : Int) : (s.put k v).get j = if j = k then v else s.get j := by
  split
  · rename_i h; subst h; exact State.get_put_same s j v
  · rename_i h; exact State.get_put_other s k j v h
theorem State.get_putN (s : State) (k j v : Nat) : (s.putN k v).get j = if j = k then Int.ofNat v else s.get j := State.get_put s k j _
theorem State.get_putB (s : State) (k j : Nat) (b : Bool) : (s.putB k b).get j = if j = k then Int.ofNat (b2n b) else s.get j := State.get_put s k j _
theorem State.get_putW (s : State) (k j : Nat) (v : Word) : (s.putW k v).get j = if j = k then Int.ofNat v.toNat else s.get j := State.get_put s k j _
theorem State.get_putBit (s : State) (k j n : Nat) (b : Bool) :
    (s.putBit k n b).get j = if j = k then Int.ofNat (setBit (s.nat k) n b) else s.get j := State.get_put s k j _
theorem State.get_bump (s : State) (w k j : Nat) : (State.bump w s k).get j = if j = k then Int.ofNat (satSucc w (s.nat k)) else s.get j :=
  State.get_put s k j _
@[simp] theorem State.nat_putN_same (s : State) (k v : Nat) : (s.putN k v).nat k = v := by simp [State.nat, State.putN]

/-- A clear gives every key of its list 0, and no other key anything. -/
theorem State.get_zero (s : State) (l : List Nat) (j : Nat) : (s.zero l).get j = if j ∈ l then 0 else s.get j := by
  induction l generalizing s with
  | nil => simp [State.zero]
  | cons k t ih =>
    rw [State.zero, ih, State.get_put]
    by_cases h1 : j ∈ t <;> by_cases h2 : j = k <;> simp [h1, h2]

@[simp] theorem State.get_setCore (s : State) (c : Fin 4) (f : Core → Core) (k : Nat) : (s.setCore c f).get k = s.get k := rfl
@[simp] theorem State.get_putBase (s : State) (k j : Nat) (v : Int) : (s.putBase k v).get j = s.get j := rfl
@[simp] theorem State.get_putBlock (s : State) (k j : Nat) (bs : List Byte) : (s.putBlock k bs).get j = s.get j := rfl
@[simp] theorem State.block_putBlock_same (s : State) (k : Nat) (bs : List Byte) : (s.putBlock k bs).block k = bs := readKey_writeKey_same _ _ _ _
theorem State.block_putBlock_other (s : State) (k j : Nat) (bs : List Byte) (h : j ≠ k) : (s.putBlock k bs).block j = s.block j :=
  readKey_writeKey_other _ _ _ _ _ h

/-- A core update reaches that core and no other. -/
theorem State.cores_setCore (s : State) (c d : Fin 4) (f : Core → Core) :
    (s.setCore c f).cores[d] = if c = d then f s.cores[d] else s.cores[d] := by
  simp only [State.setCore, Fin.getElem_fin, Vector.getElem_set, Fin.ext_iff]
  split
  · rename_i h; simp only [h]
  · rfl
@[simp] theorem State.cores_setCore_same (s : State) (c : Fin 4) (f : Core → Core) : (s.setCore c f).cores[c] = f s.cores[c] :=
  (State.cores_setCore s c c f).trans (if_pos rfl)

end Sys2Proof.Machine
end

