-- ==== Sys2Proof/Laws/Events.lean ====
section
/-! SUPPORT. What an accepted command access, a raised source and a logged event do beside their effect. -/

namespace Sys2Proof.Machine

open Sys2Proof

/-! ### Accepted and refused accesses -/

/-- An accepted command access is acknowledged, then takes effect. -/
theorem commanded_accepts (s : State) (p : Path) (key v : Nat) (f : State → State) (h : Accepts s p key v) :
    s.commanded p key v f = f (s.acknowledged p) := by
  obtain ⟨h1, d, h2⟩ := h
  unfold bytesFor at h2
  unfold State.commanded State.served
  dsimp only
  rw [if_pos h1]
  cases hr : findRow key with
  | none => simp only [hr] at h2 ⊢; rw [h2]; rfl
  | some r => simp only [hr] at h2 ⊢; rw [h2]; rfl

/-- A refused one leaves the refusal and nothing else. -/
theorem commanded_refuses (s : State) (p : Path) (key v : Nat) (e : Refused) (f : State → State) (h : Refuses s p key v e) :
    s.commanded p key v f = (s.touch p).refuse p e := by
  obtain ⟨h1, h2⟩ := h
  unfold bytesFor at h2
  unfold State.commanded State.served
  dsimp only
  rw [if_pos h1]
  cases hr : findRow key with
  | none => simp only [hr] at h2 ⊢; rw [h2]
  | some r => simp only [hr] at h2 ⊢; rw [h2]

/-! ### Raised sources -/

theorem get_deliverTo (s : State) (c : Fin 4) (src k : Nat) (h : k ∉ eventKeys) : (s.deliverTo c src).get k = s.get k := by
  simp only [eventKeys, List.mem_cons, not_or] at h
  unfold State.deliverTo
  dsimp only
  split
  · rfl
  · rw [State.get_bump, if_neg h.1, State.get_setCore]

theorem get_triggers (s : State) (src r k : Nat) (h : k ∉ eventKeys) : (s.triggers src r).get k = s.get k := by
  simp only [eventKeys, List.mem_cons, not_or] at h
  unfold State.triggers
  dsimp only
  split
  · rw [State.get_bump, if_neg h.2.2.1]
    show State.get (if _ then _ else _) k = _
    split
    · rw [State.get_bump, if_neg h.2.1]; rfl
    · rfl
  · split
    · rw [State.get_bump, if_neg h.2.1]; rfl
    · rfl

theorem get_deliverSource (s : State) (src k : Nat) (h : k ∉ eventKeys) : (s.deliverSource src).get k = s.get k := by
  unfold State.deliverSource
  dsimp only
  rw [get_triggers _ _ _ _ h]
  (repeat' split) <;> first | exact get_deliverTo _ _ _ _ h | rfl

theorem get_returnToBlaze (s : State) (n k : Nat) (h : k ∉ eventKeys) : (s.returnToBlaze n).get k = s.get k := by
  have h' := h
  simp only [eventKeys, List.mem_cons, not_or] at h'
  unfold State.returnToBlaze
  dsimp only
  rw [get_deliverSource _ _ _ h]
  refine (State.get_putN _ _ _ _).trans ?_
  rw [if_neg h'.2.2.2.2.2.2.1, State.get_putN, if_neg h'.2.2.2.2.2.1]

theorem get_abandonEntry (s : State) (n k : Nat) (h : k ∉ eventKeys) : (s.abandonEntry n).get k = s.get k := by
  unfold State.abandonEntry
  split
  · rw [get_deliverSource _ _ _ h, get_returnToBlaze _ _ _ h]; rfl
  · rfl

theorem get_eventWake (s : State) (k : Nat) (h : k ∉ eventKeys) : s.eventWake.get k = s.get k := by
  have h' := h
  simp only [eventKeys, List.mem_cons, not_or] at h'
  unfold State.eventWake
  (repeat' split) <;> first
    | rfl
    | exact get_returnToBlaze _ _ _ h
    | exact get_abandonEntry _ _ _ h
    | rw [State.get_putBit, if_neg h'.2.2.2.2.2.1]

/-- A raised source moves no running value but the router's counts and, where it wakes the module, what shows the wake. -/
theorem get_raiseSource (s : State) (src k : Nat) (h : k ∉ eventKeys) : (s.raiseSource src).get k = s.get k := by
  unfold State.raiseSource
  dsimp only
  split
  · rw [get_eventWake _ _ h, get_deliverSource _ _ _ h]
  · exact get_deliverSource _ _ _ h

theorem get_raiseLocal (s : State) (c : Fin 4) (j k : Nat) (h : k ∉ eventKeys) : (s.raiseLocal c j).get k = s.get k := by
  have e : State.get (if (s.cores[c]).localCtrl.getLsbD (8 * j + 7) then (s.deliverTo c (248 + j)).eventWake else s) k = s.get k := by
    split
    · rw [get_eventWake _ _ h, get_deliverTo _ _ _ _ h]
    · rfl
  unfold State.raiseLocal
  dsimp only
  split
  · rw [get_triggers _ _ _ _ h]; exact e
  · exact e

/-- A logged event moves no running value but the Ash counts and, through source 231, the router's. -/
theorem get_queueAsh (s : State) (e : AshEvent) (k : Nat) (h : k ∉ eventKeys) : (s.queueAsh e).get k = s.get k := by
  have h' := h
  simp only [eventKeys, List.mem_cons, not_or] at h'
  unfold State.queueAsh
  dsimp only
  split
  · rw [State.get_bump, if_neg h'.2.2.2.1]
  · split
    · rw [State.get_bump, if_neg h'.2.2.2.1]; rfl
    · split
      · split
        · rfl
        · split
          · rw [State.get_putN, if_neg h'.2.2.2.2.1]; rfl
          · split
            · rw [get_raiseSource _ _ _ h, State.get_bump, if_neg h'.2.2.2.1]; rfl
            · rw [State.get_bump, if_neg h'.2.2.2.1]; rfl
      · rw [State.get_putN, if_neg h'.2.2.2.2.1]; rfl

theorem get_log (s : State) (code source w4 w5 w6 k : Nat) (h : k ∉ eventKeys) : (s.log code source w4 w5 w6).get k = s.get k :=
  get_queueAsh _ _ _ h

@[simp] theorem deliverTo_base (s : State) (c : Fin 4) (src : Nat) : (s.deliverTo c src).base = s.base := by
  unfold State.deliverTo; dsimp only; split <;> rfl
@[simp] theorem triggers_base (s : State) (src r : Nat) : (s.triggers src r).base = s.base := by
  unfold State.triggers; dsimp only; split <;> split <;> rfl
@[simp] theorem deliverSource_base (s : State) (src : Nat) : (s.deliverSource src).base = s.base := by
  unfold State.deliverSource; dsimp only; rw [triggers_base]; (repeat' split) <;> rfl
@[simp] theorem returnToBlaze_base (s : State) (n : Nat) : (s.returnToBlaze n).base = s.base := deliverSource_base _ _
@[simp] theorem abandonEntry_base (s : State) (n : Nat) : (s.abandonEntry n).base = s.base := by
  unfold State.abandonEntry; split <;> first | rfl | rw [deliverSource_base, returnToBlaze_base]
@[simp] theorem eventWake_base (s : State) : s.eventWake.base = s.base := by
  unfold State.eventWake; (repeat' split) <;> first | rfl | exact returnToBlaze_base _ _ | exact abandonEntry_base _ _
@[simp] theorem raiseSource_base (s : State) (src : Nat) : (s.raiseSource src).base = s.base := by
  unfold State.raiseSource; dsimp only; split <;> simp
@[simp] theorem deliverTo_blk (s : State) (c : Fin 4) (src : Nat) : (s.deliverTo c src).blk = s.blk := by
  unfold State.deliverTo; dsimp only; split <;> rfl
@[simp] theorem triggers_blk (s : State) (src r : Nat) : (s.triggers src r).blk = s.blk := by
  unfold State.triggers; dsimp only; split <;> split <;> rfl
@[simp] theorem deliverSource_blk (s : State) (src : Nat) : (s.deliverSource src).blk = s.blk := by
  unfold State.deliverSource; dsimp only; rw [triggers_blk]; (repeat' split) <;> rfl
@[simp] theorem returnToBlaze_blk (s : State) (n : Nat) : (s.returnToBlaze n).blk = s.blk := deliverSource_blk _ _
@[simp] theorem abandonEntry_blk (s : State) (n : Nat) : (s.abandonEntry n).blk = s.blk := by
  unfold State.abandonEntry; split <;> first | rfl | rw [deliverSource_blk, returnToBlaze_blk]
@[simp] theorem eventWake_blk (s : State) : s.eventWake.blk = s.blk := by
  unfold State.eventWake; (repeat' split) <;> first | rfl | exact returnToBlaze_blk _ _ | exact abandonEntry_blk _ _
@[simp] theorem raiseSource_blk (s : State) (src : Nat) : (s.raiseSource src).blk = s.blk := by
  unfold State.raiseSource; dsimp only; split <;> simp
@[simp] theorem deliverTo_clock (s : State) (c : Fin 4) (src : Nat) : (s.deliverTo c src).clock = s.clock := by
  unfold State.deliverTo; dsimp only; split <;> rfl
@[simp] theorem triggers_clock (s : State) (src r : Nat) : (s.triggers src r).clock = s.clock := by
  unfold State.triggers; dsimp only; split <;> split <;> rfl
@[simp] theorem deliverSource_clock (s : State) (src : Nat) : (s.deliverSource src).clock = s.clock := by
  unfold State.deliverSource; dsimp only; rw [triggers_clock]; (repeat' split) <;> rfl
@[simp] theorem returnToBlaze_clock (s : State) (n : Nat) : (s.returnToBlaze n).clock = s.clock := deliverSource_clock _ _
@[simp] theorem abandonEntry_clock (s : State) (n : Nat) : (s.abandonEntry n).clock = s.clock := by
  unfold State.abandonEntry; split <;> first | rfl | rw [deliverSource_clock, returnToBlaze_clock]
@[simp] theorem eventWake_clock (s : State) : s.eventWake.clock = s.clock := by
  unfold State.eventWake; (repeat' split) <;> first | rfl | exact returnToBlaze_clock _ _ | exact abandonEntry_clock _ _
@[simp] theorem raiseSource_clock (s : State) (src : Nat) : (s.raiseSource src).clock = s.clock := by
  unfold State.raiseSource; dsimp only; split <;> simp
@[simp] theorem deliverTo_power (s : State) (c : Fin 4) (src : Nat) : (s.deliverTo c src).power = s.power := by
  unfold State.deliverTo; dsimp only; split <;> rfl
@[simp] theorem triggers_power (s : State) (src r : Nat) : (s.triggers src r).power = s.power := by
  unfold State.triggers; dsimp only; split <;> split <;> rfl
@[simp] theorem deliverTo_startup (s : State) (c : Fin 4) (src : Nat) : (s.deliverTo c src).startup = s.startup := by
  unfold State.deliverTo; dsimp only; split <;> rfl
@[simp] theorem triggers_startup (s : State) (src r : Nat) : (s.triggers src r).startup = s.startup := by
  unfold State.triggers; dsimp only; split <;> split <;> rfl
@[simp] theorem deliverSource_startup (s : State) (src : Nat) : (s.deliverSource src).startup = s.startup := by
  unfold State.deliverSource; dsimp only; rw [triggers_startup]; (repeat' split) <;> rfl
@[simp] theorem returnToBlaze_startup (s : State) (n : Nat) : (s.returnToBlaze n).startup = s.startup := deliverSource_startup _ _
@[simp] theorem abandonEntry_startup (s : State) (n : Nat) : (s.abandonEntry n).startup = s.startup := by
  unfold State.abandonEntry; split <;> first | rfl | rw [deliverSource_startup, returnToBlaze_startup]
@[simp] theorem eventWake_startup (s : State) : s.eventWake.startup = s.startup := by
  unfold State.eventWake; (repeat' split) <;> first | rfl | exact returnToBlaze_startup _ _ | exact abandonEntry_startup _ _
@[simp] theorem raiseSource_startup (s : State) (src : Nat) : (s.raiseSource src).startup = s.startup := by
  unfold State.raiseSource; dsimp only; split <;> simp
@[simp] theorem deliverTo_dict (s : State) (c : Fin 4) (src : Nat) : (s.deliverTo c src).dict = s.dict := by
  unfold State.deliverTo; dsimp only; split <;> rfl
@[simp] theorem triggers_dict (s : State) (src r : Nat) : (s.triggers src r).dict = s.dict := by
  unfold State.triggers; dsimp only; split <;> split <;> rfl
@[simp] theorem deliverSource_dict (s : State) (src : Nat) : (s.deliverSource src).dict = s.dict := by
  unfold State.deliverSource; dsimp only; rw [triggers_dict]; (repeat' split) <;> rfl
@[simp] theorem returnToBlaze_dict (s : State) (n : Nat) : (s.returnToBlaze n).dict = s.dict := deliverSource_dict _ _
@[simp] theorem abandonEntry_dict (s : State) (n : Nat) : (s.abandonEntry n).dict = s.dict := by
  unfold State.abandonEntry; split <;> first | rfl | rw [deliverSource_dict, returnToBlaze_dict]
@[simp] theorem eventWake_dict (s : State) : s.eventWake.dict = s.dict := by
  unfold State.eventWake; (repeat' split) <;> first | rfl | exact returnToBlaze_dict _ _ | exact abandonEntry_dict _ _
@[simp] theorem raiseSource_dict (s : State) (src : Nat) : (s.raiseSource src).dict = s.dict := by
  unfold State.raiseSource; dsimp only; split <;> simp
@[simp] theorem deliverTo_sram (s : State) (c : Fin 4) (src : Nat) : (s.deliverTo c src).sram = s.sram := by
  unfold State.deliverTo; dsimp only; split <;> rfl
@[simp] theorem triggers_sram (s : State) (src r : Nat) : (s.triggers src r).sram = s.sram := by
  unfold State.triggers; dsimp only; split <;> split <;> rfl
@[simp] theorem deliverSource_sram (s : State) (src : Nat) : (s.deliverSource src).sram = s.sram := by
  unfold State.deliverSource; dsimp only; rw [triggers_sram]; (repeat' split) <;> rfl
@[simp] theorem returnToBlaze_sram (s : State) (n : Nat) : (s.returnToBlaze n).sram = s.sram := deliverSource_sram _ _
@[simp] theorem abandonEntry_sram (s : State) (n : Nat) : (s.abandonEntry n).sram = s.sram := by
  unfold State.abandonEntry; split <;> first | rfl | rw [deliverSource_sram, returnToBlaze_sram]
@[simp] theorem eventWake_sram (s : State) : s.eventWake.sram = s.sram := by
  unfold State.eventWake; (repeat' split) <;> first | rfl | exact returnToBlaze_sram _ _ | exact abandonEntry_sram _ _
@[simp] theorem raiseSource_sram (s : State) (src : Nat) : (s.raiseSource src).sram = s.sram := by
  unfold State.raiseSource; dsimp only; split <;> simp
@[simp] theorem deliverTo_fram (s : State) (c : Fin 4) (src : Nat) : (s.deliverTo c src).fram = s.fram := by
  unfold State.deliverTo; dsimp only; split <;> rfl
@[simp] theorem triggers_fram (s : State) (src r : Nat) : (s.triggers src r).fram = s.fram := by
  unfold State.triggers; dsimp only; split <;> split <;> rfl
@[simp] theorem deliverSource_fram (s : State) (src : Nat) : (s.deliverSource src).fram = s.fram := by
  unfold State.deliverSource; dsimp only; rw [triggers_fram]; (repeat' split) <;> rfl
@[simp] theorem returnToBlaze_fram (s : State) (n : Nat) : (s.returnToBlaze n).fram = s.fram := deliverSource_fram _ _
@[simp] theorem abandonEntry_fram (s : State) (n : Nat) : (s.abandonEntry n).fram = s.fram := by
  unfold State.abandonEntry; split <;> first | rfl | rw [deliverSource_fram, returnToBlaze_fram]
@[simp] theorem eventWake_fram (s : State) : s.eventWake.fram = s.fram := by
  unfold State.eventWake; (repeat' split) <;> first | rfl | exact returnToBlaze_fram _ _ | exact abandonEntry_fram _ _
@[simp] theorem raiseSource_fram (s : State) (src : Nat) : (s.raiseSource src).fram = s.fram := by
  unfold State.raiseSource; dsimp only; split <;> simp
@[simp] theorem deliverTo_images (s : State) (c : Fin 4) (src : Nat) : (s.deliverTo c src).images = s.images := by
  unfold State.deliverTo; dsimp only; split <;> rfl
@[simp] theorem triggers_images (s : State) (src r : Nat) : (s.triggers src r).images = s.images := by
  unfold State.triggers; dsimp only; split <;> split <;> rfl
@[simp] theorem deliverSource_images (s : State) (src : Nat) : (s.deliverSource src).images = s.images := by
  unfold State.deliverSource; dsimp only; rw [triggers_images]; (repeat' split) <;> rfl
@[simp] theorem returnToBlaze_images (s : State) (n : Nat) : (s.returnToBlaze n).images = s.images := deliverSource_images _ _
@[simp] theorem abandonEntry_images (s : State) (n : Nat) : (s.abandonEntry n).images = s.images := by
  unfold State.abandonEntry; split <;> first | rfl | rw [deliverSource_images, returnToBlaze_images]
@[simp] theorem eventWake_images (s : State) : s.eventWake.images = s.images := by
  unfold State.eventWake; (repeat' split) <;> first | rfl | exact returnToBlaze_images _ _ | exact abandonEntry_images _ _
@[simp] theorem raiseSource_images (s : State) (src : Nat) : (s.raiseSource src).images = s.images := by
  unfold State.raiseSource; dsimp only; split <;> simp
@[simp] theorem deliverTo_front (s : State) (c : Fin 4) (src : Nat) : (s.deliverTo c src).front = s.front := by
  unfold State.deliverTo; dsimp only; split <;> rfl
@[simp] theorem triggers_front (s : State) (src r : Nat) : (s.triggers src r).front = s.front := by
  unfold State.triggers; dsimp only; split <;> split <;> rfl
@[simp] theorem deliverSource_front (s : State) (src : Nat) : (s.deliverSource src).front = s.front := by
  unfold State.deliverSource; dsimp only; rw [triggers_front]; (repeat' split) <;> rfl
@[simp] theorem returnToBlaze_front (s : State) (n : Nat) : (s.returnToBlaze n).front = s.front := deliverSource_front _ _
@[simp] theorem abandonEntry_front (s : State) (n : Nat) : (s.abandonEntry n).front = s.front := by
  unfold State.abandonEntry; split <;> first | rfl | rw [deliverSource_front, returnToBlaze_front]
@[simp] theorem eventWake_front (s : State) : s.eventWake.front = s.front := by
  unfold State.eventWake; (repeat' split) <;> first | rfl | exact returnToBlaze_front _ _ | exact abandonEntry_front _ _
@[simp] theorem raiseSource_front (s : State) (src : Nat) : (s.raiseSource src).front = s.front := by
  unfold State.raiseSource; dsimp only; split <;> simp
@[simp] theorem deliverTo_cowl (s : State) (c : Fin 4) (src : Nat) : (s.deliverTo c src).cowl = s.cowl := by
  unfold State.deliverTo; dsimp only; split <;> rfl
@[simp] theorem triggers_cowl (s : State) (src r : Nat) : (s.triggers src r).cowl = s.cowl := by
  unfold State.triggers; dsimp only; split <;> split <;> rfl
@[simp] theorem deliverSource_cowl (s : State) (src : Nat) : (s.deliverSource src).cowl = s.cowl := by
  unfold State.deliverSource; dsimp only; rw [triggers_cowl]; (repeat' split) <;> rfl
@[simp] theorem returnToBlaze_cowl (s : State) (n : Nat) : (s.returnToBlaze n).cowl = s.cowl := deliverSource_cowl _ _
@[simp] theorem abandonEntry_cowl (s : State) (n : Nat) : (s.abandonEntry n).cowl = s.cowl := by
  unfold State.abandonEntry; split <;> first | rfl | rw [deliverSource_cowl, returnToBlaze_cowl]
@[simp] theorem eventWake_cowl (s : State) : s.eventWake.cowl = s.cowl := by
  unfold State.eventWake; (repeat' split) <;> first | rfl | exact returnToBlaze_cowl _ _ | exact abandonEntry_cowl _ _
@[simp] theorem raiseSource_cowl (s : State) (src : Nat) : (s.raiseSource src).cowl = s.cowl := by
  unfold State.raiseSource; dsimp only; split <;> simp
@[simp] theorem deliverTo_outputs (s : State) (c : Fin 4) (src : Nat) : (s.deliverTo c src).outputs = s.outputs := by
  unfold State.deliverTo; dsimp only; split <;> rfl
@[simp] theorem triggers_outputs (s : State) (src r : Nat) : (s.triggers src r).outputs = s.outputs := by
  unfold State.triggers; dsimp only; split <;> split <;> rfl
@[simp] theorem deliverSource_outputs (s : State) (src : Nat) : (s.deliverSource src).outputs = s.outputs := by
  unfold State.deliverSource; dsimp only; rw [triggers_outputs]; (repeat' split) <;> rfl
@[simp] theorem returnToBlaze_outputs (s : State) (n : Nat) : (s.returnToBlaze n).outputs = s.outputs := deliverSource_outputs _ _
@[simp] theorem abandonEntry_outputs (s : State) (n : Nat) : (s.abandonEntry n).outputs = s.outputs := by
  unfold State.abandonEntry; split <;> first | rfl | rw [deliverSource_outputs, returnToBlaze_outputs]
@[simp] theorem eventWake_outputs (s : State) : s.eventWake.outputs = s.outputs := by
  unfold State.eventWake; (repeat' split) <;> first | rfl | exact returnToBlaze_outputs _ _ | exact abandonEntry_outputs _ _
@[simp] theorem raiseSource_outputs (s : State) (src : Nat) : (s.raiseSource src).outputs = s.outputs := by
  unfold State.raiseSource; dsimp only; split <;> simp
@[simp] theorem deliverTo_acts (s : State) (c : Fin 4) (src : Nat) : (s.deliverTo c src).acts = s.acts := by
  unfold State.deliverTo; dsimp only; split <;> rfl
@[simp] theorem triggers_acts (s : State) (src r : Nat) : (s.triggers src r).acts = s.acts := by
  unfold State.triggers; dsimp only; split <;> split <;> rfl
@[simp] theorem deliverSource_acts (s : State) (src : Nat) : (s.deliverSource src).acts = s.acts := by
  unfold State.deliverSource; dsimp only; rw [triggers_acts]; (repeat' split) <;> rfl
@[simp] theorem returnToBlaze_acts (s : State) (n : Nat) : (s.returnToBlaze n).acts = s.acts := deliverSource_acts _ _
@[simp] theorem abandonEntry_acts (s : State) (n : Nat) : (s.abandonEntry n).acts = s.acts := by
  unfold State.abandonEntry; split <;> first | rfl | rw [deliverSource_acts, returnToBlaze_acts]
@[simp] theorem eventWake_acts (s : State) : s.eventWake.acts = s.acts := by
  unfold State.eventWake; (repeat' split) <;> first | rfl | exact returnToBlaze_acts _ _ | exact abandonEntry_acts _ _
@[simp] theorem raiseSource_acts (s : State) (src : Nat) : (s.raiseSource src).acts = s.acts := by
  unfold State.raiseSource; dsimp only; split <;> simp
@[simp] theorem deliverTo_thermal (s : State) (c : Fin 4) (src : Nat) : (s.deliverTo c src).thermal = s.thermal := by
  unfold State.deliverTo; dsimp only; split <;> rfl
@[simp] theorem triggers_thermal (s : State) (src r : Nat) : (s.triggers src r).thermal = s.thermal := by
  unfold State.triggers; dsimp only; split <;> split <;> rfl
@[simp] theorem deliverSource_thermal (s : State) (src : Nat) : (s.deliverSource src).thermal = s.thermal := by
  unfold State.deliverSource; dsimp only; rw [triggers_thermal]; (repeat' split) <;> rfl
@[simp] theorem returnToBlaze_thermal (s : State) (n : Nat) : (s.returnToBlaze n).thermal = s.thermal := deliverSource_thermal _ _
@[simp] theorem abandonEntry_thermal (s : State) (n : Nat) : (s.abandonEntry n).thermal = s.thermal := by
  unfold State.abandonEntry; split <;> first | rfl | rw [deliverSource_thermal, returnToBlaze_thermal]
@[simp] theorem eventWake_thermal (s : State) : s.eventWake.thermal = s.thermal := by
  unfold State.eventWake; (repeat' split) <;> first | rfl | exact returnToBlaze_thermal _ _ | exact abandonEntry_thermal _ _
@[simp] theorem raiseSource_thermal (s : State) (src : Nat) : (s.raiseSource src).thermal = s.thermal := by
  unfold State.raiseSource; dsimp only; split <;> simp
@[simp] theorem deliverTo_bellows (s : State) (c : Fin 4) (src : Nat) : (s.deliverTo c src).bellows = s.bellows := by
  unfold State.deliverTo; dsimp only; split <;> rfl
@[simp] theorem triggers_bellows (s : State) (src r : Nat) : (s.triggers src r).bellows = s.bellows := by
  unfold State.triggers; dsimp only; split <;> split <;> rfl
@[simp] theorem deliverSource_bellows (s : State) (src : Nat) : (s.deliverSource src).bellows = s.bellows := by
  unfold State.deliverSource; dsimp only; rw [triggers_bellows]; (repeat' split) <;> rfl
@[simp] theorem returnToBlaze_bellows (s : State) (n : Nat) : (s.returnToBlaze n).bellows = s.bellows := deliverSource_bellows _ _
@[simp] theorem abandonEntry_bellows (s : State) (n : Nat) : (s.abandonEntry n).bellows = s.bellows := by
  unfold State.abandonEntry; split <;> first | rfl | rw [deliverSource_bellows, returnToBlaze_bellows]
@[simp] theorem eventWake_bellows (s : State) : s.eventWake.bellows = s.bellows := by
  unfold State.eventWake; (repeat' split) <;> first | rfl | exact returnToBlaze_bellows _ _ | exact abandonEntry_bellows _ _
@[simp] theorem raiseSource_bellows (s : State) (src : Nat) : (s.raiseSource src).bellows = s.bellows := by
  unfold State.raiseSource; dsimp only; split <;> simp
@[simp] theorem deliverTo_kelsis (s : State) (c : Fin 4) (src : Nat) : (s.deliverTo c src).kelsis = s.kelsis := by
  unfold State.deliverTo; dsimp only; split <;> rfl
@[simp] theorem triggers_kelsis (s : State) (src r : Nat) : (s.triggers src r).kelsis = s.kelsis := by
  unfold State.triggers; dsimp only; split <;> split <;> rfl
@[simp] theorem deliverSource_kelsis (s : State) (src : Nat) : (s.deliverSource src).kelsis = s.kelsis := by
  unfold State.deliverSource; dsimp only; rw [triggers_kelsis]; (repeat' split) <;> rfl
@[simp] theorem returnToBlaze_kelsis (s : State) (n : Nat) : (s.returnToBlaze n).kelsis = s.kelsis := deliverSource_kelsis _ _
@[simp] theorem abandonEntry_kelsis (s : State) (n : Nat) : (s.abandonEntry n).kelsis = s.kelsis := by
  unfold State.abandonEntry; split <;> first | rfl | rw [deliverSource_kelsis, returnToBlaze_kelsis]
@[simp] theorem eventWake_kelsis (s : State) : s.eventWake.kelsis = s.kelsis := by
  unfold State.eventWake; (repeat' split) <;> first | rfl | exact returnToBlaze_kelsis _ _ | exact abandonEntry_kelsis _ _
@[simp] theorem raiseSource_kelsis (s : State) (src : Nat) : (s.raiseSource src).kelsis = s.kelsis := by
  unfold State.raiseSource; dsimp only; split <;> simp
@[simp] theorem deliverTo_can (s : State) (c : Fin 4) (src : Nat) : (s.deliverTo c src).can = s.can := by
  unfold State.deliverTo; dsimp only; split <;> rfl
@[simp] theorem triggers_can (s : State) (src r : Nat) : (s.triggers src r).can = s.can := by
  unfold State.triggers; dsimp only; split <;> split <;> rfl
@[simp] theorem deliverSource_can (s : State) (src : Nat) : (s.deliverSource src).can = s.can := by
  unfold State.deliverSource; dsimp only; rw [triggers_can]; (repeat' split) <;> rfl
@[simp] theorem returnToBlaze_can (s : State) (n : Nat) : (s.returnToBlaze n).can = s.can := deliverSource_can _ _
@[simp] theorem abandonEntry_can (s : State) (n : Nat) : (s.abandonEntry n).can = s.can := by
  unfold State.abandonEntry; split <;> first | rfl | rw [deliverSource_can, returnToBlaze_can]
@[simp] theorem eventWake_can (s : State) : s.eventWake.can = s.can := by
  unfold State.eventWake; (repeat' split) <;> first | rfl | exact returnToBlaze_can _ _ | exact abandonEntry_can _ _
@[simp] theorem raiseSource_can (s : State) (src : Nat) : (s.raiseSource src).can = s.can := by
  unfold State.raiseSource; dsimp only; split <;> simp
@[simp] theorem deliverTo_canopen (s : State) (c : Fin 4) (src : Nat) : (s.deliverTo c src).canopen = s.canopen := by
  unfold State.deliverTo; dsimp only; split <;> rfl
@[simp] theorem triggers_canopen (s : State) (src r : Nat) : (s.triggers src r).canopen = s.canopen := by
  unfold State.triggers; dsimp only; split <;> split <;> rfl
@[simp] theorem deliverSource_canopen (s : State) (src : Nat) : (s.deliverSource src).canopen = s.canopen := by
  unfold State.deliverSource; dsimp only; rw [triggers_canopen]; (repeat' split) <;> rfl
@[simp] theorem returnToBlaze_canopen (s : State) (n : Nat) : (s.returnToBlaze n).canopen = s.canopen := deliverSource_canopen _ _
@[simp] theorem abandonEntry_canopen (s : State) (n : Nat) : (s.abandonEntry n).canopen = s.canopen := by
  unfold State.abandonEntry; split <;> first | rfl | rw [deliverSource_canopen, returnToBlaze_canopen]
@[simp] theorem eventWake_canopen (s : State) : s.eventWake.canopen = s.canopen := by
  unfold State.eventWake; (repeat' split) <;> first | rfl | exact returnToBlaze_canopen _ _ | exact abandonEntry_canopen _ _
@[simp] theorem raiseSource_canopen (s : State) (src : Nat) : (s.raiseSource src).canopen = s.canopen := by
  unfold State.raiseSource; dsimp only; split <;> simp
@[simp] theorem deliverTo_flue (s : State) (c : Fin 4) (src : Nat) : (s.deliverTo c src).flue = s.flue := by
  unfold State.deliverTo; dsimp only; split <;> rfl
@[simp] theorem triggers_flue (s : State) (src r : Nat) : (s.triggers src r).flue = s.flue := by
  unfold State.triggers; dsimp only; split <;> split <;> rfl
@[simp] theorem deliverSource_flue (s : State) (src : Nat) : (s.deliverSource src).flue = s.flue := by
  unfold State.deliverSource; dsimp only; rw [triggers_flue]; (repeat' split) <;> rfl
@[simp] theorem returnToBlaze_flue (s : State) (n : Nat) : (s.returnToBlaze n).flue = s.flue := deliverSource_flue _ _
@[simp] theorem abandonEntry_flue (s : State) (n : Nat) : (s.abandonEntry n).flue = s.flue := by
  unfold State.abandonEntry; split <;> first | rfl | rw [deliverSource_flue, returnToBlaze_flue]
@[simp] theorem eventWake_flue (s : State) : s.eventWake.flue = s.flue := by
  unfold State.eventWake; (repeat' split) <;> first | rfl | exact returnToBlaze_flue _ _ | exact abandonEntry_flue _ _
@[simp] theorem raiseSource_flue (s : State) (src : Nat) : (s.raiseSource src).flue = s.flue := by
  unfold State.raiseSource; dsimp only; split <;> simp
@[simp] theorem deliverTo_free (s : State) (c : Fin 4) (src : Nat) : (s.deliverTo c src).free = s.free := by
  unfold State.deliverTo; dsimp only; split <;> rfl
@[simp] theorem triggers_free (s : State) (src r : Nat) : (s.triggers src r).free = s.free := by
  unfold State.triggers; dsimp only; split <;> split <;> rfl
@[simp] theorem deliverSource_free (s : State) (src : Nat) : (s.deliverSource src).free = s.free := by
  unfold State.deliverSource; dsimp only; rw [triggers_free]; (repeat' split) <;> rfl
@[simp] theorem returnToBlaze_free (s : State) (n : Nat) : (s.returnToBlaze n).free = s.free := deliverSource_free _ _
@[simp] theorem abandonEntry_free (s : State) (n : Nat) : (s.abandonEntry n).free = s.free := by
  unfold State.abandonEntry; split <;> first | rfl | rw [deliverSource_free, returnToBlaze_free]
@[simp] theorem eventWake_free (s : State) : s.eventWake.free = s.free := by
  unfold State.eventWake; (repeat' split) <;> first | rfl | exact returnToBlaze_free _ _ | exact abandonEntry_free _ _
@[simp] theorem raiseSource_free (s : State) (src : Nat) : (s.raiseSource src).free = s.free := by
  unfold State.raiseSource; dsimp only; split <;> simp
@[simp] theorem deliverTo_pending (s : State) (c : Fin 4) (src : Nat) : (s.deliverTo c src).pending = s.pending := by
  unfold State.deliverTo; dsimp only; split <;> rfl
@[simp] theorem triggers_pending (s : State) (src r : Nat) : (s.triggers src r).pending = s.pending := by
  unfold State.triggers; dsimp only; split <;> split <;> rfl
@[simp] theorem deliverSource_pending (s : State) (src : Nat) : (s.deliverSource src).pending = s.pending := by
  unfold State.deliverSource; dsimp only; rw [triggers_pending]; (repeat' split) <;> rfl
@[simp] theorem returnToBlaze_pending (s : State) (n : Nat) : (s.returnToBlaze n).pending = s.pending := deliverSource_pending _ _
@[simp] theorem abandonEntry_pending (s : State) (n : Nat) : (s.abandonEntry n).pending = s.pending := by
  unfold State.abandonEntry; split <;> first | rfl | rw [deliverSource_pending, returnToBlaze_pending]
@[simp] theorem eventWake_pending (s : State) : s.eventWake.pending = s.pending := by
  unfold State.eventWake; (repeat' split) <;> first | rfl | exact returnToBlaze_pending _ _ | exact abandonEntry_pending _ _
@[simp] theorem raiseSource_pending (s : State) (src : Nat) : (s.raiseSource src).pending = s.pending := by
  unfold State.raiseSource; dsimp only; split <;> simp
@[simp] theorem deliverTo_ash (s : State) (c : Fin 4) (src : Nat) : (s.deliverTo c src).ash = s.ash := by
  unfold State.deliverTo; dsimp only; split <;> rfl
@[simp] theorem triggers_ash (s : State) (src r : Nat) : (s.triggers src r).ash = s.ash := by
  unfold State.triggers; dsimp only; split <;> split <;> rfl
@[simp] theorem deliverSource_ash (s : State) (src : Nat) : (s.deliverSource src).ash = s.ash := by
  unfold State.deliverSource; dsimp only; rw [triggers_ash]; (repeat' split) <;> rfl
@[simp] theorem returnToBlaze_ash (s : State) (n : Nat) : (s.returnToBlaze n).ash = s.ash := deliverSource_ash _ _
@[simp] theorem abandonEntry_ash (s : State) (n : Nat) : (s.abandonEntry n).ash = s.ash := by
  unfold State.abandonEntry; split <;> first | rfl | rw [deliverSource_ash, returnToBlaze_ash]
@[simp] theorem eventWake_ash (s : State) : s.eventWake.ash = s.ash := by
  unfold State.eventWake; (repeat' split) <;> first | rfl | exact returnToBlaze_ash _ _ | exact abandonEntry_ash _ _
@[simp] theorem raiseSource_ash (s : State) (src : Nat) : (s.raiseSource src).ash = s.ash := by
  unfold State.raiseSource; dsimp only; split <;> simp
@[simp] theorem queueAsh_base (s : State) (e : AshEvent) : (s.queueAsh e).base = s.base := by
  unfold State.queueAsh; dsimp only; (repeat' split) <;> first | rfl | exact raiseSource_base _ _
@[simp] theorem log_base (s : State) (c src a b d : Nat) : (s.log c src a b d).base = s.base := queueAsh_base _ _
@[simp] theorem queueAsh_blk (s : State) (e : AshEvent) : (s.queueAsh e).blk = s.blk := by
  unfold State.queueAsh; dsimp only; (repeat' split) <;> first | rfl | exact raiseSource_blk _ _
@[simp] theorem log_blk (s : State) (c src a b d : Nat) : (s.log c src a b d).blk = s.blk := queueAsh_blk _ _
@[simp] theorem queueAsh_clock (s : State) (e : AshEvent) : (s.queueAsh e).clock = s.clock := by
  unfold State.queueAsh; dsimp only; (repeat' split) <;> first | rfl | exact raiseSource_clock _ _
@[simp] theorem log_clock (s : State) (c src a b d : Nat) : (s.log c src a b d).clock = s.clock := queueAsh_clock _ _
@[simp] theorem queueAsh_startup (s : State) (e : AshEvent) : (s.queueAsh e).startup = s.startup := by
  unfold State.queueAsh; dsimp only; (repeat' split) <;> first | rfl | exact raiseSource_startup _ _
@[simp] theorem log_startup (s : State) (c src a b d : Nat) : (s.log c src a b d).startup = s.startup := queueAsh_startup _ _
@[simp] theorem queueAsh_dict (s : State) (e : AshEvent) : (s.queueAsh e).dict = s.dict := by
  unfold State.queueAsh; dsimp only; (repeat' split) <;> first | rfl | exact raiseSource_dict _ _
@[simp] theorem log_dict (s : State) (c src a b d : Nat) : (s.log c src a b d).dict = s.dict := queueAsh_dict _ _
@[simp] theorem queueAsh_sram (s : State) (e : AshEvent) : (s.queueAsh e).sram = s.sram := by
  unfold State.queueAsh; dsimp only; (repeat' split) <;> first | rfl | exact raiseSource_sram _ _
@[simp] theorem log_sram (s : State) (c src a b d : Nat) : (s.log c src a b d).sram = s.sram := queueAsh_sram _ _
@[simp] theorem queueAsh_fram (s : State) (e : AshEvent) : (s.queueAsh e).fram = s.fram := by
  unfold State.queueAsh; dsimp only; (repeat' split) <;> first | rfl | exact raiseSource_fram _ _
@[simp] theorem log_fram (s : State) (c src a b d : Nat) : (s.log c src a b d).fram = s.fram := queueAsh_fram _ _
@[simp] theorem queueAsh_images (s : State) (e : AshEvent) : (s.queueAsh e).images = s.images := by
  unfold State.queueAsh; dsimp only; (repeat' split) <;> first | rfl | exact raiseSource_images _ _
@[simp] theorem log_images (s : State) (c src a b d : Nat) : (s.log c src a b d).images = s.images := queueAsh_images _ _
@[simp] theorem queueAsh_front (s : State) (e : AshEvent) : (s.queueAsh e).front = s.front := by
  unfold State.queueAsh; dsimp only; (repeat' split) <;> first | rfl | exact raiseSource_front _ _
@[simp] theorem log_front (s : State) (c src a b d : Nat) : (s.log c src a b d).front = s.front := queueAsh_front _ _
@[simp] theorem queueAsh_cowl (s : State) (e : AshEvent) : (s.queueAsh e).cowl = s.cowl := by
  unfold State.queueAsh; dsimp only; (repeat' split) <;> first | rfl | exact raiseSource_cowl _ _
@[simp] theorem log_cowl (s : State) (c src a b d : Nat) : (s.log c src a b d).cowl = s.cowl := queueAsh_cowl _ _
@[simp] theorem queueAsh_outputs (s : State) (e : AshEvent) : (s.queueAsh e).outputs = s.outputs := by
  unfold State.queueAsh; dsimp only; (repeat' split) <;> first | rfl | exact raiseSource_outputs _ _
@[simp] theorem log_outputs (s : State) (c src a b d : Nat) : (s.log c src a b d).outputs = s.outputs := queueAsh_outputs _ _
@[simp] theorem queueAsh_acts (s : State) (e : AshEvent) : (s.queueAsh e).acts = s.acts := by
  unfold State.queueAsh; dsimp only; (repeat' split) <;> first | rfl | exact raiseSource_acts _ _
@[simp] theorem log_acts (s : State) (c src a b d : Nat) : (s.log c src a b d).acts = s.acts := queueAsh_acts _ _
@[simp] theorem queueAsh_thermal (s : State) (e : AshEvent) : (s.queueAsh e).thermal = s.thermal := by
  unfold State.queueAsh; dsimp only; (repeat' split) <;> first | rfl | exact raiseSource_thermal _ _
@[simp] theorem log_thermal (s : State) (c src a b d : Nat) : (s.log c src a b d).thermal = s.thermal := queueAsh_thermal _ _
@[simp] theorem queueAsh_bellows (s : State) (e : AshEvent) : (s.queueAsh e).bellows = s.bellows := by
  unfold State.queueAsh; dsimp only; (repeat' split) <;> first | rfl | exact raiseSource_bellows _ _
@[simp] theorem log_bellows (s : State) (c src a b d : Nat) : (s.log c src a b d).bellows = s.bellows := queueAsh_bellows _ _
@[simp] theorem queueAsh_kelsis (s : State) (e : AshEvent) : (s.queueAsh e).kelsis = s.kelsis := by
  unfold State.queueAsh; dsimp only; (repeat' split) <;> first | rfl | exact raiseSource_kelsis _ _
@[simp] theorem log_kelsis (s : State) (c src a b d : Nat) : (s.log c src a b d).kelsis = s.kelsis := queueAsh_kelsis _ _
@[simp] theorem queueAsh_can (s : State) (e : AshEvent) : (s.queueAsh e).can = s.can := by
  unfold State.queueAsh; dsimp only; (repeat' split) <;> first | rfl | exact raiseSource_can _ _
@[simp] theorem log_can (s : State) (c src a b d : Nat) : (s.log c src a b d).can = s.can := queueAsh_can _ _
@[simp] theorem queueAsh_canopen (s : State) (e : AshEvent) : (s.queueAsh e).canopen = s.canopen := by
  unfold State.queueAsh; dsimp only; (repeat' split) <;> first | rfl | exact raiseSource_canopen _ _
@[simp] theorem log_canopen (s : State) (c src a b d : Nat) : (s.log c src a b d).canopen = s.canopen := queueAsh_canopen _ _
@[simp] theorem queueAsh_flue (s : State) (e : AshEvent) : (s.queueAsh e).flue = s.flue := by
  unfold State.queueAsh; dsimp only; (repeat' split) <;> first | rfl | exact raiseSource_flue _ _
@[simp] theorem log_flue (s : State) (c src a b d : Nat) : (s.log c src a b d).flue = s.flue := queueAsh_flue _ _
@[simp] theorem queueAsh_free (s : State) (e : AshEvent) : (s.queueAsh e).free = s.free := by
  unfold State.queueAsh; dsimp only; (repeat' split) <;> first | rfl | exact raiseSource_free _ _
@[simp] theorem log_free (s : State) (c src a b d : Nat) : (s.log c src a b d).free = s.free := queueAsh_free _ _
@[simp] theorem queueAsh_pending (s : State) (e : AshEvent) : (s.queueAsh e).pending = s.pending := by
  unfold State.queueAsh; dsimp only; (repeat' split) <;> first | rfl | exact raiseSource_pending _ _
@[simp] theorem log_pending (s : State) (c src a b d : Nat) : (s.log c src a b d).pending = s.pending := queueAsh_pending _ _

/-! ### Accesses -/

@[simp] theorem State.noteAccess_obj (s : State) (p : Path) : (s.noteAccess p).obj = s.obj := by unfold State.noteAccess; dsimp only; split <;> rfl
@[simp] theorem State.answer_obj (s : State) (p : Path) (a : Answer) : (s.answer p a).obj = s.obj := rfl
@[simp] theorem State.noteAccess_base (s : State) (p : Path) : (s.noteAccess p).base = s.base := by unfold State.noteAccess; dsimp only; split <;> rfl
@[simp] theorem State.answer_base (s : State) (p : Path) (a : Answer) : (s.answer p a).base = s.base := rfl
@[simp] theorem State.touch_base (s : State) (p : Path) : (s.touch p).base = s.base := by unfold State.touch; split <;> simp
@[simp] theorem State.acknowledged_base (s : State) (p : Path) : (s.acknowledged p).base = s.base := by simp [State.acknowledged]
@[simp] theorem State.noteAccess_blk (s : State) (p : Path) : (s.noteAccess p).blk = s.blk := by unfold State.noteAccess; dsimp only; split <;> rfl
@[simp] theorem State.answer_blk (s : State) (p : Path) (a : Answer) : (s.answer p a).blk = s.blk := rfl
@[simp] theorem State.touch_blk (s : State) (p : Path) : (s.touch p).blk = s.blk := by unfold State.touch; split <;> simp
@[simp] theorem State.acknowledged_blk (s : State) (p : Path) : (s.acknowledged p).blk = s.blk := by simp [State.acknowledged]
@[simp] theorem State.noteAccess_clock (s : State) (p : Path) : (s.noteAccess p).clock = s.clock := by unfold State.noteAccess; dsimp only; split <;> rfl
@[simp] theorem State.answer_clock (s : State) (p : Path) (a : Answer) : (s.answer p a).clock = s.clock := rfl
@[simp] theorem State.touch_clock (s : State) (p : Path) : (s.touch p).clock = s.clock := by unfold State.touch; split <;> simp
@[simp] theorem State.acknowledged_clock (s : State) (p : Path) : (s.acknowledged p).clock = s.clock := by simp [State.acknowledged]
@[simp] theorem State.noteAccess_power (s : State) (p : Path) : (s.noteAccess p).power = s.power := by unfold State.noteAccess; dsimp only; split <;> rfl
@[simp] theorem State.answer_power (s : State) (p : Path) (a : Answer) : (s.answer p a).power = s.power := rfl
@[simp] theorem State.noteAccess_startup (s : State) (p : Path) : (s.noteAccess p).startup = s.startup := by unfold State.noteAccess; dsimp only; split <;> rfl
@[simp] theorem State.answer_startup (s : State) (p : Path) (a : Answer) : (s.answer p a).startup = s.startup := rfl
@[simp] theorem State.touch_startup (s : State) (p : Path) : (s.touch p).startup = s.startup := by unfold State.touch; split <;> simp
@[simp] theorem State.acknowledged_startup (s : State) (p : Path) : (s.acknowledged p).startup = s.startup := by simp [State.acknowledged]
@[simp] theorem State.noteAccess_cores (s : State) (p : Path) : (s.noteAccess p).cores = s.cores := by unfold State.noteAccess; dsimp only; split <;> rfl
@[simp] theorem State.answer_cores (s : State) (p : Path) (a : Answer) : (s.answer p a).cores = s.cores := rfl
@[simp] theorem State.noteAccess_sram (s : State) (p : Path) : (s.noteAccess p).sram = s.sram := by unfold State.noteAccess; dsimp only; split <;> rfl
@[simp] theorem State.answer_sram (s : State) (p : Path) (a : Answer) : (s.answer p a).sram = s.sram := rfl
@[simp] theorem State.touch_sram (s : State) (p : Path) : (s.touch p).sram = s.sram := by unfold State.touch; split <;> simp
@[simp] theorem State.acknowledged_sram (s : State) (p : Path) : (s.acknowledged p).sram = s.sram := by simp [State.acknowledged]
@[simp] theorem State.noteAccess_fram (s : State) (p : Path) : (s.noteAccess p).fram = s.fram := by unfold State.noteAccess; dsimp only; split <;> rfl
@[simp] theorem State.answer_fram (s : State) (p : Path) (a : Answer) : (s.answer p a).fram = s.fram := rfl
@[simp] theorem State.touch_fram (s : State) (p : Path) : (s.touch p).fram = s.fram := by unfold State.touch; split <;> simp
@[simp] theorem State.acknowledged_fram (s : State) (p : Path) : (s.acknowledged p).fram = s.fram := by simp [State.acknowledged]
@[simp] theorem State.noteAccess_images (s : State) (p : Path) : (s.noteAccess p).images = s.images := by unfold State.noteAccess; dsimp only; split <;> rfl
@[simp] theorem State.answer_images (s : State) (p : Path) (a : Answer) : (s.answer p a).images = s.images := rfl
@[simp] theorem State.touch_images (s : State) (p : Path) : (s.touch p).images = s.images := by unfold State.touch; split <;> simp
@[simp] theorem State.acknowledged_images (s : State) (p : Path) : (s.acknowledged p).images = s.images := by simp [State.acknowledged]
@[simp] theorem State.noteAccess_front (s : State) (p : Path) : (s.noteAccess p).front = s.front := by unfold State.noteAccess; dsimp only; split <;> rfl
@[simp] theorem State.answer_front (s : State) (p : Path) (a : Answer) : (s.answer p a).front = s.front := rfl
@[simp] theorem State.touch_front (s : State) (p : Path) : (s.touch p).front = s.front := by unfold State.touch; split <;> simp
@[simp] theorem State.acknowledged_front (s : State) (p : Path) : (s.acknowledged p).front = s.front := by simp [State.acknowledged]
@[simp] theorem State.noteAccess_router (s : State) (p : Path) : (s.noteAccess p).router = s.router := by unfold State.noteAccess; dsimp only; split <;> rfl
@[simp] theorem State.answer_router (s : State) (p : Path) (a : Answer) : (s.answer p a).router = s.router := rfl
@[simp] theorem State.noteAccess_cowl (s : State) (p : Path) : (s.noteAccess p).cowl = s.cowl := by unfold State.noteAccess; dsimp only; split <;> rfl
@[simp] theorem State.answer_cowl (s : State) (p : Path) (a : Answer) : (s.answer p a).cowl = s.cowl := rfl
@[simp] theorem State.touch_cowl (s : State) (p : Path) : (s.touch p).cowl = s.cowl := by unfold State.touch; split <;> simp
@[simp] theorem State.acknowledged_cowl (s : State) (p : Path) : (s.acknowledged p).cowl = s.cowl := by simp [State.acknowledged]
@[simp] theorem State.noteAccess_ash (s : State) (p : Path) : (s.noteAccess p).ash = s.ash := by unfold State.noteAccess; dsimp only; split <;> rfl
@[simp] theorem State.answer_ash (s : State) (p : Path) (a : Answer) : (s.answer p a).ash = s.ash := rfl
@[simp] theorem State.touch_ash (s : State) (p : Path) : (s.touch p).ash = s.ash := by unfold State.touch; split <;> simp
@[simp] theorem State.acknowledged_ash (s : State) (p : Path) : (s.acknowledged p).ash = s.ash := by simp [State.acknowledged]
@[simp] theorem State.noteAccess_outputs (s : State) (p : Path) : (s.noteAccess p).outputs = s.outputs := by unfold State.noteAccess; dsimp only; split <;> rfl
@[simp] theorem State.answer_outputs (s : State) (p : Path) (a : Answer) : (s.answer p a).outputs = s.outputs := rfl
@[simp] theorem State.touch_outputs (s : State) (p : Path) : (s.touch p).outputs = s.outputs := by unfold State.touch; split <;> simp
@[simp] theorem State.acknowledged_outputs (s : State) (p : Path) : (s.acknowledged p).outputs = s.outputs := by simp [State.acknowledged]
@[simp] theorem State.noteAccess_acts (s : State) (p : Path) : (s.noteAccess p).acts = s.acts := by unfold State.noteAccess; dsimp only; split <;> rfl
@[simp] theorem State.answer_acts (s : State) (p : Path) (a : Answer) : (s.answer p a).acts = s.acts := rfl
@[simp] theorem State.touch_acts (s : State) (p : Path) : (s.touch p).acts = s.acts := by unfold State.touch; split <;> simp
@[simp] theorem State.acknowledged_acts (s : State) (p : Path) : (s.acknowledged p).acts = s.acts := by simp [State.acknowledged]
@[simp] theorem State.noteAccess_thermal (s : State) (p : Path) : (s.noteAccess p).thermal = s.thermal := by unfold State.noteAccess; dsimp only; split <;> rfl
@[simp] theorem State.answer_thermal (s : State) (p : Path) (a : Answer) : (s.answer p a).thermal = s.thermal := rfl
@[simp] theorem State.touch_thermal (s : State) (p : Path) : (s.touch p).thermal = s.thermal := by unfold State.touch; split <;> simp
@[simp] theorem State.acknowledged_thermal (s : State) (p : Path) : (s.acknowledged p).thermal = s.thermal := by simp [State.acknowledged]
@[simp] theorem State.noteAccess_bellows (s : State) (p : Path) : (s.noteAccess p).bellows = s.bellows := by unfold State.noteAccess; dsimp only; split <;> rfl
@[simp] theorem State.answer_bellows (s : State) (p : Path) (a : Answer) : (s.answer p a).bellows = s.bellows := rfl
@[simp] theorem State.touch_bellows (s : State) (p : Path) : (s.touch p).bellows = s.bellows := by unfold State.touch; split <;> simp
@[simp] theorem State.acknowledged_bellows (s : State) (p : Path) : (s.acknowledged p).bellows = s.bellows := by simp [State.acknowledged]
@[simp] theorem State.noteAccess_kelsis (s : State) (p : Path) : (s.noteAccess p).kelsis = s.kelsis := by unfold State.noteAccess; dsimp only; split <;> rfl
@[simp] theorem State.answer_kelsis (s : State) (p : Path) (a : Answer) : (s.answer p a).kelsis = s.kelsis := rfl
@[simp] theorem State.touch_kelsis (s : State) (p : Path) : (s.touch p).kelsis = s.kelsis := by unfold State.touch; split <;> simp
@[simp] theorem State.acknowledged_kelsis (s : State) (p : Path) : (s.acknowledged p).kelsis = s.kelsis := by simp [State.acknowledged]
@[simp] theorem State.noteAccess_can (s : State) (p : Path) : (s.noteAccess p).can = s.can := by unfold State.noteAccess; dsimp only; split <;> rfl
@[simp] theorem State.answer_can (s : State) (p : Path) (a : Answer) : (s.answer p a).can = s.can := rfl
@[simp] theorem State.touch_can (s : State) (p : Path) : (s.touch p).can = s.can := by unfold State.touch; split <;> simp
@[simp] theorem State.acknowledged_can (s : State) (p : Path) : (s.acknowledged p).can = s.can := by simp [State.acknowledged]
@[simp] theorem State.noteAccess_canopen (s : State) (p : Path) : (s.noteAccess p).canopen = s.canopen := by unfold State.noteAccess; dsimp only; split <;> rfl
@[simp] theorem State.answer_canopen (s : State) (p : Path) (a : Answer) : (s.answer p a).canopen = s.canopen := rfl
@[simp] theorem State.touch_canopen (s : State) (p : Path) : (s.touch p).canopen = s.canopen := by unfold State.touch; split <;> simp
@[simp] theorem State.acknowledged_canopen (s : State) (p : Path) : (s.acknowledged p).canopen = s.canopen := by simp [State.acknowledged]
@[simp] theorem State.noteAccess_flue (s : State) (p : Path) : (s.noteAccess p).flue = s.flue := by unfold State.noteAccess; dsimp only; split <;> rfl
@[simp] theorem State.answer_flue (s : State) (p : Path) (a : Answer) : (s.answer p a).flue = s.flue := rfl
@[simp] theorem State.touch_flue (s : State) (p : Path) : (s.touch p).flue = s.flue := by unfold State.touch; split <;> simp
@[simp] theorem State.acknowledged_flue (s : State) (p : Path) : (s.acknowledged p).flue = s.flue := by simp [State.acknowledged]
@[simp] theorem State.noteAccess_free (s : State) (p : Path) : (s.noteAccess p).free = s.free := by unfold State.noteAccess; dsimp only; split <;> rfl
@[simp] theorem State.answer_free (s : State) (p : Path) (a : Answer) : (s.answer p a).free = s.free := rfl
@[simp] theorem State.touch_free (s : State) (p : Path) : (s.touch p).free = s.free := by unfold State.touch; split <;> simp
@[simp] theorem State.acknowledged_free (s : State) (p : Path) : (s.acknowledged p).free = s.free := by simp [State.acknowledged]
@[simp] theorem State.noteAccess_pending (s : State) (p : Path) : (s.noteAccess p).pending = s.pending := by unfold State.noteAccess; dsimp only; split <;> rfl
@[simp] theorem State.answer_pending (s : State) (p : Path) (a : Answer) : (s.answer p a).pending = s.pending := rfl
@[simp] theorem State.touch_pending (s : State) (p : Path) : (s.touch p).pending = s.pending := by unfold State.touch; split <;> simp
@[simp] theorem State.acknowledged_pending (s : State) (p : Path) : (s.acknowledged p).pending = s.pending := by simp [State.acknowledged]
@[simp] theorem State.get_answer (s : State) (p : Path) (a : Answer) (k : Nat) : (s.answer p a).get k = s.get k := rfl
@[simp] theorem State.get_noteAccess (s : State) (p : Path) (k : Nat) : (s.noteAccess p).get k = s.get k := by simp [State.get]
/-- An access moves a running value only where it wakes the module. -/
theorem State.get_touch (s : State) (p : Path) (k : Nat) (h : k ∉ eventKeys) : (s.touch p).get k = s.get k := by
  unfold State.touch; split
  · rw [State.get_noteAccess]
  · rw [State.get_noteAccess, get_eventWake _ _ h]
theorem State.get_acknowledged (s : State) (p : Path) (k : Nat) (h : k ∉ eventKeys) : (s.acknowledged p).get k = s.get k :=
  State.get_touch s p k h

end Sys2Proof.Machine
end

