-- ==== Sys2Proof/Laws/Cores.lean ====
section
/-! SUPPORT. What executing an instruction accounts beside its effect: cycles, counters, samples. -/

namespace Sys2Proof.Machine

open Sys2Proof

/-- What follows a wake is no second one. -/
theorem Woken.trans {a b c : State} (h : Woken a b) (g : Woken b c) (hc : b.clock = a.clock) : Woken a c := by
  rcases h with h | ⟨h1, h3⟩
  · rcases g with g | ⟨g1, g3⟩
    · exact .inl (g.trans h)
    · exact .inr ⟨by rw [← h]; exact g1, by rw [g3, h, hc]⟩
  · rcases g with g | ⟨g1, g3⟩
    · exact .inr ⟨h1, g.trans h3⟩
    · rw [h3] at g1; rcases g1 with ⟨_, g⟩ | ⟨q, g⟩ <;> cases g
theorem Woken.of_eq {a b : State} (h : b.power = a.power) : Woken a b := .inl h

theorem Accounts.refl (s : State) : Accounts s s := ⟨rfl, fun _ => rfl, fun _ _ => rfl, .inl rfl⟩
theorem Accounts.clock {s t : State} (h : Accounts s t) : t.clock = s.clock := (congrArg State.clock h.beside : t.besideCores.clock = s.besideCores.clock)
theorem CoreBecomes.clock {s t : State} {c : Fin 4} {k : Core} (h : CoreBecomes s c k t) : t.clock = s.clock := (congrArg State.clock h.beside : t.besideCores.clock = s.besideCores.clock)
theorem Accounts.trans {a b c : State} (h : Accounts a b) (g : Accounts b c) : Accounts a c :=
  ⟨g.beside.trans h.beside, fun d => (g.cores d).trans (h.cores d), fun k hk => (g.values k hk).trans (h.values k hk), h.power.trans g.power h.clock⟩
theorem Accounts.ite {a b c : State} {p : Prop} [Decidable p] (h : Accounts a b) (g : Accounts a c) : Accounts a (if p then b else c) := by
  split
  · exact h
  · exact g
theorem Accounts.foldl {α : Type} (f : State → α → State) (l : List α) (s : State) (h : ∀ s x, Accounts s (f s x)) :
    Accounts s (l.foldl f s) := by
  induction l generalizing s with
  | nil => exact .refl s
  | cons x t ih => exact (h s x).trans (ih _)

/-- A core update that its accounting hides. -/
theorem Accounts.setCore (s : State) (c : Fin 4) (f : Core → Core) (h : (f s.cores[c]).arch = (s.cores[c]).arch) :
    Accounts s (s.setCore c f) := by
  refine ⟨rfl, fun d => ?_, fun _ _ => rfl, .inl rfl⟩
  rw [State.cores_setCore]
  split
  · rename_i e; subst e; exact h
  · rfl

theorem arch_deliver (k : Core) (src : Nat) : (k.deliver src).arch = k.arch := by
  unfold Core.deliver Core.setPendingSource
  split
  · rfl
  · split <;> rfl

theorem Accounts.bump (s : State) (w k : Nat) (h : k ∈ eventKeys) : Accounts s (State.bump w s k) :=
  ⟨rfl, fun _ => rfl, fun j hj => by rw [State.get_bump, if_neg]; rintro rfl; exact hj h, .inl rfl⟩
theorem Accounts.deliverTo (s : State) (c : Fin 4) (src : Nat) : Accounts s (s.deliverTo c src) := by
  have h := Accounts.setCore s c (fun k => k.deliver src) (arch_deliver _ _)
  unfold State.deliverTo
  dsimp only
  split
  · exact h
  · exact h.trans (Accounts.bump _ 32 Key.routerRaisesDelivered (by simp [eventKeys]))
theorem Accounts.router (s : State) (r : Router) (h : r.bellowsSeen = s.router.bellowsSeen) : Accounts s { s with router := r } := by
  refine ⟨?_, fun _ => rfl, fun _ _ => rfl, .inl rfl⟩
  simp only [State.besideCores, h]
theorem Accounts.triggers (s : State) (src r : Nat) : Accounts s (s.triggers src r) := by
  unfold State.triggers
  dsimp only
  have h1 : ∀ s : State, Accounts s (State.bump 32 { s with router := { s.router with bellowsLatch := s.router.bellowsLatch ++ [src] } } Key.routerBellowsTriggers) :=
    fun s => (Accounts.router s { s.router with bellowsLatch := s.router.bellowsLatch ++ [src] } rfl).trans (Accounts.bump _ 32 Key.routerBellowsTriggers (by simp [eventKeys]))
  have h2 : ∀ s : State, Accounts s (State.bump 32 { s with router := { s.router with kelsisLatch := true } } Key.routerKelsisTriggers) :=
    fun s => (Accounts.router s { s.router with kelsisLatch := true } rfl).trans (Accounts.bump _ 32 Key.routerKelsisTriggers (by simp [eventKeys]))
  split <;> split
  · exact (h1 s).trans (h2 _)
  · exact (h2 s)
  · exact (h1 s)
  · exact .refl s
theorem Accounts.deliverSource (s : State) (src : Nat) : Accounts s (s.deliverSource src) := by
  unfold State.deliverSource
  dsimp only
  refine Accounts.trans ?_ (Accounts.triggers _ _ _)
  (repeat' split) <;> first | exact Accounts.deliverTo _ _ _ | exact .refl _
/-- The return to BLAZE, for a module that SIMMER or an entry not yet committed holds. -/
theorem Accounts.blaze (s : State) (n : Nat) (h : s.power.phase = .awake ∧ s.power.state = .simmer ∨ ∃ q, s.power.phase = .entering q) (hn : n ≠ 0)
    (b : Bool) (hb : b = (s.power.banking && s.power.phase == .awake)) :
    Accounts s (State.returnToBlaze { s with power := { s.power with banking := b } } n) := by
  subst hb
  unfold State.returnToBlaze
  dsimp only
  refine Accounts.trans ?_ (Accounts.deliverSource _ _)
  refine ⟨rfl, fun _ => rfl, fun k hk => ?_, .inr ⟨h, ?_⟩⟩
  · simp only [eventKeys, List.mem_cons, not_or] at hk
    refine (State.get_putN _ _ _ _).trans ?_
    rw [if_neg hk.2.2.2.2.2.2.1, State.get_putN, if_neg hk.2.2.2.2.2.1]; rfl
  · simp [hn]
theorem Accounts.eventWake (s : State) : Accounts s s.eventWake := by
  unfold State.eventWake
  split
  · exact .refl s
  · split
    · rename_i hp
      split
      · rename_i h
        exact Accounts.blaze s 16 (.inl ⟨hp, h⟩) (by decide) s.power.banking (by simp [hp])
      · split
        · refine ⟨rfl, fun _ => rfl, fun k hk => ?_, .inl rfl⟩
          rw [State.get_putBit, if_neg]
          rintro rfl
          exact hk (by simp [eventKeys])
        · exact .refl s
    · rename_i q hp
      unfold State.abandonEntry
      split
      · refine Accounts.trans ?_ (Accounts.deliverSource _ _)
        exact Accounts.blaze s 80 (.inr ⟨q, hp⟩) (by decide) false (by simp [hp])
      · exact .refl s
    · exact .refl s
theorem Accounts.raiseSource (s : State) (src : Nat) : Accounts s (s.raiseSource src) := by
  unfold State.raiseSource
  dsimp only
  split
  · exact (Accounts.deliverSource _ _).trans (Accounts.eventWake _)
  · exact Accounts.deliverSource _ _
theorem Accounts.raiseLocal (s : State) (c : Fin 4) (j : Nat) : Accounts s (s.raiseLocal c j) := by
  unfold State.raiseLocal
  dsimp only
  have h : Accounts s (if (s.cores[c]).localCtrl.getLsbD (8 * j + 7) then (s.deliverTo c (248 + j)).eventWake else s) :=
    .ite ((Accounts.deliverTo _ _ _).trans (Accounts.eventWake _)) (.refl _)
  split
  · exact h.trans (Accounts.triggers _ _ _)
  · exact h
theorem Accounts.countEventBut (s : State) (w : Option (Fin 8)) (c : Fin 4) (ev n : Nat) : Accounts s (s.countEventBut w c ev n) := by
  unfold State.countEventBut
  refine Accounts.foldl _ _ _ fun s j => ?_
  split
  · have h : Accounts s (s.setCore c fun _ => ((s.cores[c]).passCount j n).1) := Accounts.setCore s c _ rfl
    dsimp only
    split
    · exact h.trans (Accounts.raiseLocal _ _ _)
    · exact h
  · exact .refl s
theorem Accounts.countEvent (s : State) (c : Fin 4) (ev n : Nat) : Accounts s (s.countEvent c ev n) := Accounts.countEventBut _ _ _ _ _
theorem Accounts.countEvents (s : State) (c : Fin 4) (l : List (Nat × Nat)) : Accounts s (s.countEvents c l) :=
  Accounts.foldl _ _ _ fun s e => Accounts.countEvent s c e.1 e.2
theorem Accounts.passCyclesAs (s : State) (c : Fin 4) (n : Nat) (u i w : Bool) : Accounts s (s.passCyclesAs c n u i w) :=
  (Accounts.setCore s c _ rfl).trans (Accounts.countEvents _ _ _)
theorem Accounts.passCycles (s : State) (c : Fin 4) (n : Nat) : Accounts s (s.passCycles c n) := Accounts.passCyclesAs _ _ _ _ _ _
theorem Accounts.free (s : State) (n : Nat) : Accounts s { s with free := n } := ⟨rfl, fun _ => rfl, fun _ _ => rfl, .inl rfl⟩
theorem Accounts.tagFetch (s : State) (c : Fin 4) (w : Word) : Accounts s (s.tagFetch c w) := by
  unfold State.tagFetch
  split
  · dsimp only
    split
    · exact Accounts.free s _
    · exact (Accounts.free s _).trans ((Accounts.free _ _).trans (Accounts.setCore _ c _ rfl))
  · exact .refl s
theorem Accounts.flushTagged (s : State) (c : Fin 4) : Accounts s (s.flushTagged c) := by
  unfold State.flushTagged
  split
  · exact (Accounts.free s _).trans (Accounts.setCore _ c _ rfl)
  · exact .refl s
theorem Accounts.lastCycle (s : State) (c : Fin 4) (n : Nat) (w : Option (Fin 8)) (l : List (Nat × Nat)) : Accounts s (s.lastCycle c n w l) :=
  (Accounts.setCore s c _ rfl).trans (Accounts.foldl _ _ _ fun s e => Accounts.countEventBut s w c e.1 e.2)
theorem Accounts.fetchStall (e : Effect) (s : State) (n : Nat) : Accounts s (e.fetchStall s n).2 := by
  unfold Effect.fetchStall
  split
  · exact Accounts.free s _
  · exact .refl s
theorem Accounts.xipCost (s : State) : Accounts s s.xipCost.2 := by
  unfold State.xipCost; dsimp only; split <;> exact Accounts.free s _
theorem Accounts.loadCost (s : State) (a : Nat) : Accounts s (s.loadCost a).2 := by
  unfold State.loadCost; split <;> first | exact .refl s | exact Accounts.free s _ | exact Accounts.xipCost s
theorem Accounts.storeCost (s : State) (c : Fin 4) (a : Nat) : Accounts s (s.storeCost c a).2 := by
  unfold State.storeCost; split <;> first | exact .refl s | (dsimp only; split <;> exact Accounts.free s _)
theorem Accounts.fetchCost (s : State) (a : Nat) : Accounts s (s.fetchCost a).2 := by
  unfold State.fetchCost; split <;> first | exact .refl s | exact Accounts.free s _ | exact Accounts.loadCost s _

/-- What may be fetched and run is not the accounting's business. -/
theorem Accounts.pc {s t : State} (h : Accounts s t) (c : Fin 4) : (t.cores[c]).pc = (s.cores[c]).pc := by
  have e := congrArg Core.pc (h.cores c); exact e
theorem Accounts.regs {s t : State} (h : Accounts s t) (c : Fin 4) : (t.cores[c]).regs = (s.cores[c]).regs := by
  have e := congrArg Core.regs (h.cores c); exact e
theorem Accounts.reg {s t : State} (h : Accounts s t) (c : Fin 4) (i : Fin 16) : (t.cores[c]).reg i = (s.cores[c]).reg i := by
  unfold Core.reg; rw [h.regs c]
theorem Accounts.status {s t : State} (h : Accounts s t) (c : Fin 4) : (t.cores[c]).status = (s.cores[c]).status := by
  have e := congrArg Core.status (h.cores c); exact e
theorem Accounts.privileged {s t : State} (h : Accounts s t) (c : Fin 4) : (t.cores[c]).privileged = (s.cores[c]).privileged := by
  unfold Core.privileged; rw [h.status c]
theorem Accounts.mayAccess {s t : State} (h : Accounts s t) (c : Fin 4) (a p : Nat) : (t.cores[c]).mayAccess a p = (s.cores[c]).mayAccess a p := by
  have h1 : (t.cores[c]).regionBase = (s.cores[c]).regionBase := by
    have e := congrArg Core.regionBase (h.cores c); exact e
  have h2 : (t.cores[c]).regionAttr = (s.cores[c]).regionAttr := by
    have e := congrArg Core.regionAttr (h.cores c); exact e
  unfold Core.mayAccess Core.permits Core.covers
  rw [h.privileged c, h1, h2]
theorem Accounts.fetchTrap {s t : State} (h : Accounts s t) (c : Fin 4) (a : Nat) : t.fetchTrap c a = s.fetchTrap c a := by
  unfold State.fetchTrap; dsimp only; rw [h.mayAccess c, h.privileged c]
theorem Accounts.loadTrap {s t : State} (h : Accounts s t) (c : Fin 4) (a w : Nat) : t.loadTrap c a w = s.loadTrap c a w := by
  unfold State.loadTrap; dsimp only; rw [h.mayAccess c, h.privileged c]
theorem Accounts.storeTrap {s t : State} (h : Accounts s t) (c : Fin 4) (a w : Nat) : t.storeTrap c a w = s.storeTrap c a w := by
  unfold State.storeTrap; dsimp only; rw [h.mayAccess c]

/-- An effect of the core alone, then accounting. -/
theorem CoreBecomes.of {s m t : State} {c : Fin 4} (f : Core → Core) (h : Accounts s m) (g : Accounts (m.setCore c f) t) :
    CoreBecomes s c (f m.cores[c]) t := by
  refine ⟨(g.cores c).trans ?_, fun e he => (g.cores e).trans ?_, g.beside.trans h.beside, fun k hk => (g.values k hk).trans (h.values k hk), ?_⟩
  · rw [State.cores_setCore_same]
  · rw [State.cores_setCore, if_neg (Ne.symm he)]; exact h.cores e
  · exact h.power.trans g.power h.clock

/-- Accounting, a core's change, a core's change with accounting. -/
theorem CoreBecomes.after {s m t : State} {c : Fin 4} {k : Core} (h : Accounts s m) (g : CoreBecomes m c k t) : CoreBecomes s c k t :=
  ⟨g.core, fun e he => (g.others e he).trans (h.cores e), g.beside.trans h.beside, fun x hx => (g.values x hx).trans (h.values x hx),
    h.power.trans g.power h.clock⟩
/-- A core's change, then accounting. -/
theorem CoreBecomes.before {s m t : State} {c : Fin 4} {k : Core} (g : CoreBecomes s c k m) (h : Accounts m t) : CoreBecomes s c k t :=
  ⟨(h.cores c).trans g.core, fun e he => (h.cores e).trans (g.others e he), h.beside.trans g.beside,
    fun x hx => (h.values x hx).trans (g.values x hx), g.power.trans h.power g.clock⟩

/-- How an instruction retires: accounting, what it writes ahead of its last cycle's counts, the PC moved with accounting, and `post`. -/
theorem retire_early (e : Effect) (c : Fin 4) (fetch : Cost) (u w i : Bool) :
    ∃ m1 m, Accounts e.s m1 ∧ CoreBecomes (e.early m1) c { (e.early m1).cores[c] with pc := e.next } m ∧ e.retire c fetch u w i = e.post m := by
  let n := fetch.cycles + e.cost.cycles
  let r := e.fetchStall (e.s.passCyclesAs c (n - min n 1) w i false) n
  refine ⟨r.2.countEvents c ([(0x03, b2n u), (0x02, r.1)] ++ fetch.events ++ e.cost.events), _, ?_, ?_, rfl⟩
  · exact (Accounts.passCyclesAs _ _ _ _ _ _).trans ((Accounts.fetchStall e _ _).trans (Accounts.countEvents _ c _))
  · generalize e.early _ = s2
    have h := Accounts.lastCycle s2 c (min (fetch.cycles + e.cost.cycles) 1) e.written
      [(0x01, b2n e.retires), (0x16, min (fetch.cycles + e.cost.cycles) 1 * b2n w), (0x17, min (fetch.cycles + e.cost.cycles) 1 * b2n i)]
    revert h
    generalize s2.lastCycle c _ _ _ = s3
    intro h
    have g : ∀ f : Core → Core, (f s3.cores[c]).arch = ({ s3.cores[c] with pc := e.next } : Core).arch →
        CoreBecomes s2 c { s2.cores[c] with pc := e.next } (s3.setCore c f) := by
      intro f hf
      refine ⟨?_, fun x hx => ?_, h.beside, h.values, h.power⟩
      · rw [State.cores_setCore_same]
        have e1 := congrArg (fun k : Core => { k with pc := e.next }) (h.cores c)
        exact hf.trans e1
      · rw [State.cores_setCore, if_neg (Ne.symm hx)]; exact h.cores x
    split
    · exact (g _ rfl).before (Accounts.flushTagged _ _)
    · exact g _ rfl

/-- What `post` is applied to when an instruction retires: the PC has moved, the rest is accounting. -/
theorem retire_post (e : Effect) (c : Fin 4) (fetch : Cost) (u w i : Bool) (he : e.early = id) :
    ∃ m, CoreBecomes e.s c { e.s.cores[c] with pc := e.next } m ∧ e.retire c fetch u w i = e.post m := by
  obtain ⟨m1, m, h, g, hr⟩ := retire_early e c fetch u w i
  rw [he] at g
  refine ⟨m, CoreBecomes.after h ⟨g.core.trans ?_, g.others, g.beside, g.values, g.power⟩, hr⟩
  have e1 := congrArg (fun k : Core => { k with pc := e.next }) (h.cores c)
  exact e1

theorem arch_setReg {k q : Core} (h : k.arch = q.arch) (d : Fin 16) (v : Word) : (k.setReg d v).arch = (q.setReg d v).arch := by
  unfold Core.setReg
  split
  · exact h
  · have hr : k.regs = q.regs := by
      have e := congrArg Core.regs h; exact e
    have e := congrArg (fun k : Core => { k with regs := q.regs.set d v }) h
    simpa only [hr, Core.arch] using e
theorem arch_pc {k q : Core} (h : k.arch = q.arch) (pc : Word) : ({ k with pc := pc } : Core).arch = ({ q with pc := pc } : Core).arch := by
  have e := congrArg (fun k : Core => { k with pc := pc }) h
  exact e
theorem arch_wrote (k : Core) (d : Fin 16) (v pc : Word) : ({ k.setReg d v with pc := pc } : Core).arch = (k.wrote d v pc).arch := by
  unfold Core.wrote Core.setReg; split <;> rfl

theorem CoreBecomes.setCore {s t : State} {c : Fin 4} {k : Core} (f : Core → Core) (g : CoreBecomes (s.setCore c f) c k t) : CoreBecomes s c k t :=
  ⟨g.core, fun e he => (g.others e he).trans (by rw [State.cores_setCore, if_neg (Ne.symm he)]), g.beside, g.values, g.power⟩
theorem CoreBecomes.arch {s t : State} {c : Fin 4} {k q : Core} (g : CoreBecomes s c k t) (h : k.arch = q.arch) : CoreBecomes s c q t :=
  ⟨g.core.trans h, g.others, g.beside, g.values, g.power⟩

/-- A ready core's instruction runs on a state that differs by accounting only. -/
theorem insn_ready (s : State) (c : Fin 4) (w : Word) (u : List (Fin 16)) (d : Fin 16) (f : State → Word → Ran) (h : CoreReady s c) :
    ∃ m fetch b1 b2 b3, Accounts s m ∧ s.insn c w u d f = (match f m (s.cores[c]).pc with
      | .trap s2 t cost => (s2.stallTagged c (stallWord fetch b1 cost)).raiseTrap c t d
      | .done e => e.retire c fetch b1 b2 b3) := by
  obtain ⟨h1, h2⟩ := h
  have ha := Accounts.tagFetch s c w
  refine ⟨((s.tagFetch c w).fetchCost (s.cores[c]).pc.toNat).2, ((s.tagFetch c w).fetchCost (s.cores[c]).pc.toNat).1,
    (s.cores[c]).loadDest.any (fun d => u.contains d), !(s.cores[c]).privileged, !(s.cores[c]).ie, ha.trans (Accounts.fetchCost _ _), ?_⟩
  unfold State.insn
  rw [if_pos h1]
  dsimp only
  rw [ha.fetchTrap, h2]
  all_goals cases f ((s.tagFetch c w).fetchCost (s.cores[c]).pc.toNat).2 (s.cores[c]).pc <;> rfl

/-- An instruction that computes a register and moves on. -/
theorem compute_ready (s : State) (c : Fin 4) (w : Word) (u : List (Fin 16)) (d : Fin 16) (n : Nat) (f : Core → Word) (h : CoreReady s c)
    (hf : ∀ k : Core, k.arch = (s.cores[c]).arch → f k = f (s.cores[c])) :
    CoreBecomes s c ((s.cores[c]).wrote d (f s.cores[c]) ((s.cores[c]).pc + 4)) (s.compute c w u d n f) := by
  obtain ⟨m, fetch, b1, b2, b3, ha, e⟩ := insn_ready s c w u d
    (fun s pc => .done { s := s.setCore c (fun k => k.setReg d (f k)), next := pc + 4, cost := ⟨n, [], 0, 0⟩ }) h
  unfold State.compute
  rw [e]
  obtain ⟨m2, hb, e2⟩ := retire_post { s := m.setCore c (fun k => k.setReg d (f k)), next := (s.cores[c]).pc + 4, cost := ⟨n, [], 0, 0⟩ } c fetch b1 b2 b3 rfl
  refine Eq.subst (motive := CoreBecomes s c _) e2.symm ?_
  refine CoreBecomes.after ha ?_
  refine CoreBecomes.setCore (fun k => k.setReg d (f k)) ?_
  refine CoreBecomes.arch hb ?_
  have hk : (m.cores[c]).arch = (s.cores[c]).arch := ha.cores c
  show ({ (m.setCore c (fun k => k.setReg d (f k))).cores[c] with pc := (s.cores[c]).pc + 4 } : Core).arch = _
  rw [State.cores_setCore_same, hf _ hk]
  exact (arch_pc (arch_setReg hk d _) _).trans (arch_wrote _ _ _ _)

/-- An instruction that completes with a change `g` of its own core, followed by a change `p` after accounting. -/
theorem done_ready (s : State) (c : Fin 4) (w : Word) (u : List (Fin 16)) (d : Fin 16) (f : State → Word → Ran) (h : CoreReady s c)
    (q : Core → Core) (p : Core → Core) (next : Word)
    (hf : ∀ m, Accounts s m → ∃ m' cost loaded, Accounts m m' ∧ f m (s.cores[c]).pc = .done { s := m'.setCore c q, next := next, cost := cost, loaded := loaded, post := fun t => t.setCore c p })
    (hq : ∀ k : Core, k.arch = (s.cores[c]).arch → (q k).arch = (q s.cores[c]).arch)
    (hp : ∀ k : Core, k.arch = ({ q s.cores[c] with pc := next } : Core).arch → (p k).arch = (p { q s.cores[c] with pc := next }).arch) :
    CoreBecomes s c (p { q s.cores[c] with pc := next }) (s.insn c w u d f) := by
  obtain ⟨m, fetch, b1, b2, b3, ha, e⟩ := insn_ready s c w u d f h
  obtain ⟨m', cost, loaded, hm, hd⟩ := hf m ha
  rw [hd] at e
  obtain ⟨m2, hb, e2⟩ := retire_post { s := m'.setCore c q, next := next, cost := cost, loaded := loaded, post := fun t => t.setCore c p } c fetch b1 b2 b3 rfl
  rw [e]
  refine Eq.subst (motive := CoreBecomes s c _) e2.symm ?_
  have hk := ha.trans hm
  have h1 : (m2.cores[c]).arch = ({ q s.cores[c] with pc := next } : Core).arch := by
    refine hb.core.trans ?_
    show ({ (m'.setCore c q).cores[c] with pc := next } : Core).arch = _
    rw [State.cores_setCore_same]
    exact arch_pc (hq _ (hk.cores c)) _
  refine ⟨?_, fun x hx => ?_, ?_, ?_, ?_⟩
  · show (((m2.setCore c p).cores[c])).arch = _
    rw [State.cores_setCore_same]; exact hp _ h1
  · show ((m2.setCore c p).cores[x]).arch = _
    rw [State.cores_setCore, if_neg (Ne.symm hx)]
    have := hb.others x hx
    refine this.trans ?_
    show ((m'.setCore c q).cores[x]).arch = _
    rw [State.cores_setCore, if_neg (Ne.symm hx)]; exact hk.cores x
  · exact hb.beside.trans hk.beside
  · intro k hkk; exact (hb.values k hkk).trans (hk.values k hkk)
  · exact hk.power.trans hb.power hk.clock

end Sys2Proof.Machine
end

