-- ==== Sys2Proof/Laws/Frames.lean ====
section
/-! SUPPORT. How the frames `Only` and `Moves` are built up, one operation at a time, and what a logged event leaves in the log. -/

namespace Sys2Proof.Machine

open Sys2Proof

/-! ### Values only -/

theorem Only.refl (s : State) (keys : List Nat) : Only s s keys := ⟨rfl, fun _ _ => rfl⟩
theorem Only.put {s m : State} {keys : List Nat} (h : Only s m keys) (k : Nat) (v : Int) (hk : k ∈ keys) : Only s (m.put k v) keys := by
  refine ⟨?_, fun j hj => ?_⟩
  · have := h.rest
    conv_lhs => rw [this]
    rfl
  · rw [State.get_put_other _ _ _ _ (by rintro rfl; exact hj hk)]; exact h.values j hj
theorem Only.putN {s m : State} {keys : List Nat} (h : Only s m keys) (k v : Nat) (hk : k ∈ keys) : Only s (m.putN k v) keys := h.put _ _ hk
theorem Only.putB {s m : State} {keys : List Nat} (h : Only s m keys) (k : Nat) (b : Bool) (hk : k ∈ keys) : Only s (m.putB k b) keys := h.put _ _ hk
theorem Only.putW {s m : State} {keys : List Nat} (h : Only s m keys) (k : Nat) (v : Word) (hk : k ∈ keys) : Only s (m.putW k v) keys := h.put _ _ hk
theorem Only.putBit {s m : State} {keys : List Nat} (h : Only s m keys) (k n : Nat) (b : Bool) (hk : k ∈ keys) : Only s (m.putBit k n b) keys :=
  h.put _ _ hk
theorem Only.bump {s m : State} {keys : List Nat} (h : Only s m keys) (w k : Nat) (hk : k ∈ keys) : Only s (State.bump w m k) keys := h.put _ _ hk
theorem Only.zero {s m : State} {keys : List Nat} (h : Only s m keys) (l : List Nat) (hl : ∀ k ∈ l, k ∈ keys) : Only s (m.zero l) keys := by
  induction l generalizing m with
  | nil => exact h
  | cons k t ih => exact ih (h.put k 0 (hl k (by simp))) (fun j hj => hl j (by simp [hj]))
theorem Only.foldl {α : Type} {s m : State} {keys : List Nat} (f : State → α → State) (l : List α) (h : Only s m keys)
    (hf : ∀ m x, x ∈ l → Only s m keys → Only s (f m x) keys) : Only s (l.foldl f m) keys := by
  induction l generalizing m with
  | nil => exact h
  | cons x t ih => exact ih (hf _ _ (by simp) h) (fun m y hy => hf m y (by simp [hy]))
theorem Only.ite {s a b : State} {keys : List Nat} {p : Prop} [Decidable p] (h : Only s a keys) (g : Only s b keys) :
    Only s (if p then a else b) keys := by
  split
  · exact h
  · exact g
theorem Only.more {s t : State} {keys l : List Nat} (h : Only s t keys) (hl : ∀ k ∈ keys, k ∈ l) : Only s t l :=
  ⟨h.rest, fun k hk => h.values k fun hj => hk (hl k hj)⟩

/-! ### Values, sources and events -/

theorem Moves.refl (s : State) (keys : List Nat) : Moves s s keys := ⟨rfl, fun _ => rfl, fun _ _ => rfl, .inl rfl⟩
theorem Moves.clock {s t : State} {keys : List Nat} (h : Moves s t keys) : t.clock = s.clock := (congrArg State.clock h.beside : t.besideEvents.clock = s.besideEvents.clock)
theorem Only.moves {s t : State} {keys : List Nat} (h : Only s t keys) : Moves s t keys := by
  have e := h.rest
  refine ⟨by rw [e]; rfl, fun c => by rw [e], fun k hk => h.values k fun hj => hk (by simp [hj]), .inl (by rw [e])⟩
theorem Moves.put {s m : State} {keys : List Nat} (h : Moves s m keys) (k : Nat) (v : Int) (hk : k ∈ keys) : Moves s (m.put k v) keys := by
  refine ⟨h.beside, h.cores, fun j hj => ?_, h.power⟩
  rw [State.get_put_other _ _ _ _ (by rintro rfl; exact hj (by simp [hk]))]; exact h.values j hj
theorem Moves.putN {s m : State} {keys : List Nat} (h : Moves s m keys) (k v : Nat) (hk : k ∈ keys) : Moves s (m.putN k v) keys := h.put _ _ hk
theorem Moves.putB {s m : State} {keys : List Nat} (h : Moves s m keys) (k : Nat) (b : Bool) (hk : k ∈ keys) : Moves s (m.putB k b) keys := h.put _ _ hk
theorem Moves.putW {s m : State} {keys : List Nat} (h : Moves s m keys) (k : Nat) (v : Word) (hk : k ∈ keys) : Moves s (m.putW k v) keys := h.put _ _ hk
theorem Moves.putBit {s m : State} {keys : List Nat} (h : Moves s m keys) (k n : Nat) (b : Bool) (hk : k ∈ keys) : Moves s (m.putBit k n b) keys :=
  h.put _ _ hk
theorem Moves.bump {s m : State} {keys : List Nat} (h : Moves s m keys) (w k : Nat) (hk : k ∈ keys) : Moves s (State.bump w m k) keys := h.put _ _ hk
theorem Moves.zero {s m : State} {keys : List Nat} (h : Moves s m keys) (l : List Nat) (hl : ∀ k ∈ l, k ∈ keys) : Moves s (m.zero l) keys := by
  induction l generalizing m with
  | nil => exact h
  | cons k t ih => exact ih (h.put k 0 (hl k (by simp))) (fun j hj => hl j (by simp [hj]))
theorem Moves.ite {s a b : State} {keys : List Nat} {p : Prop} [Decidable p] (h : Moves s a keys) (g : Moves s b keys) :
    Moves s (if p then a else b) keys := by
  split
  · exact h
  · exact g
theorem besideEvents_of {s t : State} (h : t.besideCores = s.besideCores) (hf : t.free = s.free) : t.besideEvents = s.besideEvents := by
  have e : ∀ x : State, x.besideEvents = { x.besideCores with ash := .reset, free := x.free } := fun _ => rfl
  rw [e t, e s, h, hf]
theorem Moves.accounts {s m t : State} {keys : List Nat} (h : Moves s m keys) (g : Accounts m t) (hf : t.free = m.free) : Moves s t keys :=
  ⟨(besideEvents_of g.beside hf).trans h.beside, fun c => (g.cores c).trans (h.cores c),
    fun k hk => (g.values k fun hj => hk (by simp [hj])).trans (h.values k hk), h.power.trans g.power h.clock⟩
theorem Moves.raiseSource {s m : State} {keys : List Nat} (h : Moves s m keys) (src : Nat) : Moves s (m.raiseSource src) keys :=
  h.accounts (Accounts.raiseSource _ _) (by simp)
theorem Moves.ash {s m : State} {keys : List Nat} (h : Moves s m keys) (a : Ash) : Moves s { m with ash := a } keys := ⟨h.beside, h.cores, h.values, h.power⟩
theorem Moves.count {s m : State} {keys : List Nat} (h : Moves s m keys) (w k : Nat) (hk : k ∈ eventKeys) : Moves s (State.bump w m k) keys := by
  refine ⟨h.beside, h.cores, fun j hj => ?_, h.power⟩
  rw [State.get_bump, if_neg (by rintro rfl; exact hj (by simp [hk]))]; exact h.values j hj
theorem Moves.mark {s m : State} {keys : List Nat} (h : Moves s m keys) (v k : Nat) (hk : k ∈ eventKeys) : Moves s (m.putN k v) keys := by
  refine ⟨h.beside, h.cores, fun j hj => ?_, h.power⟩
  rw [State.get_putN, if_neg (by rintro rfl; exact hj (by simp [hk]))]; exact h.values j hj
theorem Moves.queueAsh {s m : State} {keys : List Nat} (h : Moves s m keys) (e : AshEvent) : Moves s (m.queueAsh e) keys := by
  have k1 : Key.ashLostEvents ∈ eventKeys := by simp [eventKeys]
  have k2 : Key.ashQueueHighWater ∈ eventKeys := by simp [eventKeys]
  unfold State.queueAsh
  dsimp only
  split
  · exact h.count _ _ k1
  · split
    · exact (h.ash _).count _ _ k1
    · split
      · split
        · exact h.ash _
        · split
          · exact (h.ash _).mark _ _ k2
          · split
            · exact ((h.ash _).count _ _ k1).raiseSource _
            · exact (h.ash _).count _ _ k1
      · exact (h.ash _).mark _ _ k2
theorem Moves.log {s m : State} {keys : List Nat} (h : Moves s m keys) (code source w4 w5 w6 : Nat) :
    Moves s (m.log code source w4 w5 w6) keys := h.queueAsh _
theorem Moves.more {s t : State} {keys l : List Nat} (h : Moves s t keys) (hl : ∀ k ∈ keys, k ∈ l) : Moves s t l :=
  ⟨h.beside, h.cores, fun k hk => h.values k fun hj => hk (by
    rcases List.mem_append.1 hj with a | a
    · exact List.mem_append.2 (.inl (hl k a))
    · exact List.mem_append.2 (.inr a)), h.power⟩
theorem Moves.get {s t : State} {keys : List Nat} (h : Moves s t keys) (k : Nat) (hk : k ∉ keys ++ eventKeys) : t.get k = s.get k := h.values k hk

/-- An access that is noted, before the answer. -/
theorem Moves.eventWake {s m : State} {keys : List Nat} (h : Moves s m keys) : Moves s m.eventWake keys :=
  h.accounts (Accounts.eventWake _) (by simp)

/-! ### Bits -/

theorem add_pow_or (x n : Nat) (h : x.testBit n = false) : x + 2 ^ n = x ||| 2 ^ n := by
  have : x &&& 2 ^ n = 0 := by
    apply Nat.eq_of_testBit_eq
    intro i
    rw [Nat.testBit_and, Nat.testBit_two_pow]
    by_cases e : n = i
    · subst e; simp [h]
    · simp [e]
  have h1 : x < 2 ^ (x + n + 2) := lt_trans Nat.lt_two_pow_self (Nat.pow_lt_pow_right (by omega) (by omega))
  have h2 : 2 ^ n < 2 ^ (x + n + 1) := Nat.pow_lt_pow_right (by omega) (by omega)
  have h3 : x < 2 ^ (x + n + 1) := lt_trans Nat.lt_two_pow_self (Nat.pow_lt_pow_right (by omega) (by omega))
  have h4 : 2 ^ (x + n + 2) = 2 ^ (x + n + 1) + 2 ^ (x + n + 1) := by rw [Nat.pow_succ]; omega
  have e := BitVec.add_eq_or_of_and_eq_zero (BitVec.ofNat (x + n + 2) x) (BitVec.ofNat (x + n + 2) (2 ^ n)) (by
    apply BitVec.eq_of_toNat_eq
    rw [BitVec.toNat_and, BitVec.toNat_ofNat, BitVec.toNat_ofNat, Nat.mod_eq_of_lt (by omega), Nat.mod_eq_of_lt (by omega), this]; rfl)
  have e' := congrArg BitVec.toNat e
  rw [BitVec.toNat_add, BitVec.toNat_or, BitVec.toNat_ofNat, BitVec.toNat_ofNat, Nat.mod_eq_of_lt (by omega : x < _), Nat.mod_eq_of_lt (by omega : 2 ^ n < _),
    Nat.mod_eq_of_lt (by omega)] at e'
  exact e'
theorem testBit_add_pow (x n m : Nat) (h : x.testBit n = false) : (x + 2 ^ n).testBit m = if m = n then true else x.testBit m := by
  rw [add_pow_or x n h, Nat.testBit_or, Nat.testBit_two_pow]
  by_cases e : n = m
  · subst e; simp
  · simp [e, Ne.symm e]
theorem testBit_setBit (x n m : Nat) (b : Bool) : (setBit x n b).testBit m = if m = n then b else x.testBit m := by
  unfold setBit
  split
  · rename_i h; split
    · rename_i e; subst e; exact h
    · rfl
  · rename_i h
    split
    · rename_i hb
      subst hb
      exact testBit_add_pow x n m (by simpa using h)
    · rename_i hb
      have hb : b = false := by simpa using hb
      subst hb
      have hx : x.testBit n = true := by simpa using h
      have hle : 2 ^ n ≤ x := Nat.ge_two_pow_of_testBit hx
      obtain ⟨y, rfl⟩ : ∃ y, x = y + 2 ^ n := ⟨x - 2 ^ n, by omega⟩
      rw [Nat.add_sub_cancel]
      have hy : y.testBit n = false := by
        rw [Nat.add_comm, Nat.testBit_two_pow_add_eq] at hx; simpa using hx
      rw [testBit_add_pow y n m hy]
      split
      · rename_i e; subst e; exact hy
      · rfl

/-- A bit written reads back, and its neighbours are as before. -/
@[simp] theorem bitOf_putBit_same (s : State) (k n : Nat) (b : Bool) : (s.putBit k n b).bitOf k n = b := by
  unfold State.bitOf State.putBit; rw [State.nat_putN_same, testBit_setBit, if_pos rfl]
theorem bitOf_putBit_bit (s : State) (k n m : Nat) (b : Bool) (h : m ≠ n) : (s.putBit k n b).bitOf k m = s.bitOf k m := by
  unfold State.bitOf State.putBit; rw [State.nat_putN_same, testBit_setBit, if_neg h]
theorem bitOf_of {s t : State} {k : Nat} (n : Nat) (h : t.get k = s.get k) : t.bitOf k n = s.bitOf k n := by
  unfold State.bitOf State.nat; rw [h]

/-! ### What a logged event leaves -/

theorem mapLast_concat {α : Type} (f : α → α) (l : List α) (x : α) (h : l.getLast? = some x) : (mapLast f l).getLast? = some (f x) := by
  induction l with
  | nil => cases h
  | cons a t ih =>
    cases t with
    | nil => cases h; rfl
    | cons b u =>
      have h' : (b :: u).getLast? = some x := by rw [← h, List.getLast?_cons_cons]
      have hu := ih h'
      show (a :: mapLast f (b :: u)).getLast? = _
      cases hm : mapLast f (b :: u) with
      | nil => rw [hm] at hu; cases hu
      | cons c v => rw [hm] at hu; rw [List.getLast?_cons_cons]; exact hu

theorem lastLogged_log (s : State) (code source w4 w5 w6 : Nat) (h : s.logOpen) :
    (s.log code source w4 w5 w6).lastLogged code source w4 w5 w6 := by
  obtain ⟨h1, h2, h3⟩ := h
  unfold State.log State.queueAsh State.lastLogged
  dsimp only
  rw [if_neg (by simp [h1]), if_neg (by simp [h2])]
  split
  · rename_i q hq
    split
    · rename_i hs
      refine ⟨_, mapLast_concat _ _ _ hq, ?_⟩
      unfold AshEvent.same State.ashEvent at hs
      simp only [Bool.and_eq_true, beq_iff_eq] at hs
      obtain ⟨⟨⟨⟨⟨e1, e2⟩, e3⟩, e4⟩, e5⟩, -⟩ := hs
      exact ⟨e1, e2, e3, e4, e5⟩
    · rename_i hs
      exact ⟨_, List.getLast?_concat, rfl, rfl, rfl, rfl, rfl⟩
  · exact ⟨_, rfl, rfl, rfl, rfl, rfl, rfl⟩

/-- Only the log's own marks decide whether it is open. -/
theorem logOpen_of {s t : State} (h : s.logOpen) (ha : t.ash = s.ash) (hf : t.get Key.ashFull = s.get Key.ashFull) : t.logOpen := by
  unfold State.logOpen State.flag at *
  rw [ha, hf]; exact h

/-- A raised source leaves the log as it is. -/
theorem lastLogged_raise {s : State} {code source w4 w5 w6 : Nat} (src : Nat) (h : s.lastLogged code source w4 w5 w6) :
    (s.raiseSource src).lastLogged code source w4 w5 w6 := by
  unfold State.lastLogged at *
  rw [raiseSource_ash]; exact h

end Sys2Proof.Machine
end

