-- ==== Sys2Proof/Laws/StillBase.lean ====
section
/-! SUPPORT. Frames of the base operations and the dictionary: each function here leaves the waiting commands and the addressed memories alone. -/

set_option linter.all false

namespace Sys2Proof.Machine

open Sys2Proof

/-- A core's memories, and the record under its retention memory. -/
abbrev Rams := List Host.Cell × List Host.Cell × List Host.Cell × Option Retention
def Core.rams (k : Core) : Rams := (k.itcm, k.dtcm, k.retention, k.record)

/-- What few functions touch: the waiting commands and the addressed memories. -/
def State.still (s : State) : List Instr × List Host.Cell × List Host.Cell × Vector Rams 4 :=
  (s.pending, s.sram, s.fram, s.cores.map Core.rams)

@[simp] theorem rams_mk (c0 c1 c2 c3 c4 c5 c6 c7 c8 c9 c10 c11 c12 c13 c14 c15 c16 c17 c18 c19 c20 c21 c22 c23 c24 c25 c26 c27 c28 c29 c30 c31 c32 c33 c34 c35 c36 c37 c38 c39 c40 c41 c42) :
    Core.rams (Core.mk c0 c1 c2 c3 c4 c5 c6 c7 c8 c9 c10 c11 c12 c13 c14 c15 c16 c17 c18 c19 c20 c21 c22 c23 c24 c25 c26 c27 c28 c29 c30 c31 c32 c33 c34 c35 c36 c37 c38 c39 c40 c41 c42) = (c30, c31, c32, c33) := rfl
@[simp] theorem rams_eta (k : Core) : (k.itcm, k.dtcm, k.retention, k.record) = k.rams := rfl
@[simp] theorem still_mk (x0 x1 x2 x3 x4 x5 x6 x7 x8 x9 x10 x11 x12 x13 x14 x15 x16 x17 x18 x19 x20 x21 x22 x23 x24) :
    State.still (State.mk x0 x1 x2 x3 x4 x5 x6 x7 x8 x9 x10 x11 x12 x13 x14 x15 x16 x17 x18 x19 x20 x21 x22 x23 x24) = (x24, x8, x9, Vector.map Core.rams x7) := rfl
@[simp] theorem still_eta (s : State) : (s.pending, s.sram, s.fram, s.cores.map Core.rams) = s.still := rfl
@[simp] theorem still_ite (c : Prop) [Decidable c] (a b : State) : (if c then a else b).still = if c then a.still else b.still := by split <;> rfl
@[simp] theorem still_foldl {α : Type} (f : State → α → State) (l : List α) (s : State) (h : ∀ s x, (f s x).still = s.still) :
    (l.foldl f s).still = s.still := by
  induction l generalizing s with
  | nil => rfl
  | cons x t ih => rw [List.foldl_cons, ih, h]
@[simp] theorem sampleEnd_state_ite (c : Prop) [Decidable c] (a b : SampleEnd) : (if c then a else b).state = if c then a.state else b.state := by split <;> rfl
@[simp] theorem snd_state_ite {α : Type} (c : Prop) [Decidable c] (a b : α × State) : (if c then a else b).2 = if c then a.2 else b.2 := by split <;> rfl
@[simp] theorem fst_state_ite {α : Type} (c : Prop) [Decidable c] (a b : State × α) : (if c then a else b).1 = if c then a.1 else b.1 := by split <;> rfl
@[simp] theorem rams_ite (c : Prop) [Decidable c] (a b : Core) : (if c then a else b).rams = if c then a.rams else b.rams := by split <;> rfl
@[simp] theorem rams_set_self (v : Vector Core 4) (c : Fin 4) :
    (Vector.map Core.rams v).set c (v[c]).rams = Vector.map Core.rams v := by
  apply Vector.ext
  intro i hi
  simp only [Vector.getElem_map, Vector.getElem_set]
  split
  · rename_i e; subst e; rfl
  · rfl
@[simp] theorem rams_set_self' (v : Vector Core 4) (c : Nat) (h : c < 4) :
    (Vector.map Core.rams v).set c (v[c]).rams = Vector.map Core.rams v := rams_set_self v ⟨c, h⟩
@[simp] theorem still_setCore (s : State) (c : Fin 4) (f : Core → Core) :
    (s.setCore c f).still = (s.pending, s.sram, s.fram, (Vector.map Core.rams s.cores).set c (f s.cores[c]).rams) := by
  simp [State.setCore, State.still, Vector.map_set]
@[simp] theorem still_served (s : State) (f : State → State) (h : ∀ s, (f s).still = s.still) : (s.served f).still = s.still := by
  unfold State.served; split <;> simp [h]
@[simp] theorem still_vfoldl {α : Type} {n : Nat} (f : State → α → State) (v : Vector α n) (s : State) (h : ∀ s x, (f s x).still = s.still) :
    (Vector.foldl f s v).still = s.still := by
  rw [← Vector.foldl_toList]; exact still_foldl f _ s h
@[simp] theorem still_put (s : State) (k : Nat) (v : Int) : (s.put k v).still = s.still := by simp [State.put]
@[simp] theorem still_zero (s : State) (l : List Nat) : (s.zero l).still = s.still := by
  induction l generalizing s with
  | nil => rfl
  | cons k t ih => simp [State.zero, ih]

@[simp] theorem still_putN (s : State) (k : Nat) (v : Nat) : (State.putN s k v).still = s.still := by simp [State.putN]
@[simp] theorem still_putW (s : State) (k : Nat) (v : Word) : (State.putW s k v).still = s.still := by simp [State.putW]
@[simp] theorem still_putB (s : State) (k : Nat) (b : Bool) : (State.putB s k b).still = s.still := by simp [State.putB]
@[simp] theorem still_putDefault (s : State) (k : Nat) : (State.putDefault s k).still = s.still := by simp [State.putDefault]
@[simp] theorem still_putBit (s : State) (k n : Nat) (b : Bool) : (State.putBit s k n b).still = s.still := by simp [State.putBit]
@[simp] theorem still_bump (w : Nat) (s : State) (k : Nat) : (State.bump w s k).still = s.still := by simp [State.bump]
@[simp] theorem still_bumpWrap (s : State) (k : Nat) : (State.bumpWrap s k).still = s.still := by simp [State.bumpWrap]
@[simp] theorem still_putBase (s : State) (k : Nat) (v : Int) : (State.putBase s k v).still = s.still := by simp [State.putBase]
@[simp] theorem still_putBlock (s : State) (k : Nat) (bs : List Byte) : (State.putBlock s k bs).still = s.still := by simp [State.putBlock]
@[simp] theorem still_freeNat (s : State) : (State.freeNat s).2.still = s.still := by simp [State.freeNat]
@[simp] theorem still_freeWord (s : State) : (State.freeWord s).2.still = s.still := by simp [State.freeWord]
@[simp] theorem still_freeBytes (s : State) (n : Nat) : (State.freeBytes s n).2.still = s.still := by simp [State.freeBytes]
@[simp] theorem still_freeRound (s : State) (n : Int) (d : Nat) : (State.freeRound s n d).2.still = s.still := by simp [State.freeRound]
@[simp] theorem still_sat15Of (s : State) (n : Int) (d : Nat) : (State.sat15Of s n d).2.still = s.still := by simp [State.sat15Of]
@[simp] theorem still_elapse (s : State) (units : Nat) : (State.elapse s units).still = s.still := by simp [State.elapse]
@[simp] theorem still_thermalDemands (s : State) (l : List (Fin 6)) : (State.thermalDemands s l).still = s.still := by simp [State.thermalDemands]
@[simp] theorem still_thermalDemand (s : State) (i : Fin 6) (ticks : Nat) : (State.thermalDemand s i ticks).still = s.still := by simp [State.thermalDemand]
@[simp] theorem rams_setPendingSource (c : Core) (src : Nat) (b : Bool) : (Core.setPendingSource c src b).rams = c.rams := by unfold Core.setPendingSource; split <;> simp
@[simp] theorem rams_deliver (c : Core) (src : Nat) : (Core.deliver c src).rams = c.rams := by simp [Core.deliver]
@[simp] theorem still_deliverTo (s : State) (c : Fin 4) (src : Nat) : (State.deliverTo s c src).still = s.still := by simp [State.deliverTo]
@[simp] theorem still_triggers (s : State) (src r : Nat) : (State.triggers s src r).still = s.still := by simp [State.triggers]
@[simp] theorem still_deliverSource (s : State) (src : Nat) : (State.deliverSource s src).still = s.still := by unfold State.deliverSource; dsimp only; (repeat' split) <;> simp
@[simp] theorem still_returnToBlaze (s : State) (bits : Nat) : (State.returnToBlaze s bits).still = s.still := by
  unfold State.returnToBlaze; dsimp only; rw [still_deliverSource]
  have e : ∀ (x : State) (p : Power), ({ x with power := p } : State).still = x.still := fun _ _ => rfl
  exact (e _ _).trans ((still_putN _ _ _).trans (still_putN _ _ _))
@[simp] theorem still_abandonEntry (s : State) (bits : Nat) : (State.abandonEntry s bits).still = s.still := by
  unfold State.abandonEntry; split
  · rw [still_deliverSource, still_returnToBlaze]; rfl
  · rfl
@[simp] theorem still_eventWake (s : State) : (State.eventWake s).still = s.still := by unfold State.eventWake; (repeat' split) <;> simp
@[simp] theorem still_raiseSource (s : State) (src : Nat) : (State.raiseSource s src).still = s.still := by simp [State.raiseSource]
@[simp] theorem still_raiseLocal (s : State) (c : Fin 4) (j : Nat) : (State.raiseLocal s c j).still = s.still := by
  unfold State.raiseLocal; dsimp only; (repeat' split) <;> simp
@[simp] theorem still_noteAccess (s : State) (p : Path) : (State.noteAccess s p).still = s.still := by unfold State.noteAccess; dsimp only; split <;> rfl
@[simp] theorem still_touch (s : State) (p : Path) : (State.touch s p).still = s.still := by unfold State.touch; split <;> simp
@[simp] theorem still_queueAsh (s : State) (e : AshEvent) : (State.queueAsh s e).still = s.still := by unfold State.queueAsh; (repeat' split) <;> simp
@[simp] theorem still_log (s : State) (code source : Nat) (w4 : Nat) (w5 : Nat) (w6 : Nat) : (State.log s code source w4 w5 w6).still = s.still := by simp [State.log]
@[simp] theorem log_rams (s : State) (c src a b d : Nat) : (s.log c src a b d).cores.map Core.rams = s.cores.map Core.rams :=
  congrArg (fun x => x.2.2.2) (still_log s c src a b d)
@[simp] theorem still_answer (s : State) (p : Path) (a : Answer) : (State.answer s p a).still = s.still := by simp [State.answer]
@[simp] theorem still_refuse (s : State) (p : Path) (r : Refused) : (State.refuse s p r).still = s.still := by simp [State.refuse]
@[simp] theorem still_setLevel (s : State) (p : Path) (l : Level) : (State.setLevel s p l).still = s.still := by unfold State.setLevel; split <;> simp
@[simp] theorem still_stage (s : State) (p : Path) (key : Nat) (v : DVal) : (State.stage s p key v).still = s.still := by simp [State.stage]
@[simp] theorem still_supersede (s : State) (w : Staged × Nat) : (State.supersede s w).still = s.still := by simp [State.supersede]
@[simp] theorem still_assign (s : State) (key : Nat) (v : Int) : (State.assign s key v).still = s.still := by simp [State.assign]
@[simp] theorem still_commanded (s : State) (p : Path) (key v : Nat) (f : State → State) (h : ∀ s, (f s).still = s.still) :
    (s.commanded p key v f).still = s.still := by
  unfold State.commanded; apply still_served; intro s; split <;> simp [h]
@[simp] theorem still_setCowlContext (s : State) (u : Fin 4) (i : Fin 16) (f : CowlContext → CowlContext) : (State.setCowlContext s u i f).still = s.still := by simp [State.setCowlContext]
@[simp] theorem still_cowlResult (s : State) (u : Fin 4) (res : Nat) : (State.cowlResult s u res).still = s.still := by simp [State.cowlResult]
@[simp] theorem still_cowlReceive (s : State) (u : Fin 4) (dataId counter : Nat) (good : Bool) : (State.cowlReceive s u dataId counter good).2.still = s.still := by unfold State.cowlReceive; split <;> simp
@[simp] theorem still_cowlTransmit (s : State) (u : Fin 4) (dataId : Nat) : (State.cowlTransmit s u dataId).2.still = s.still := by unfold State.cowlTransmit; split <;> simp
@[simp] theorem still_cowlCompute (s : State) (data : List Byte) : (State.cowlCompute s data).still = s.still := by simp [State.cowlCompute]
@[simp] theorem still_cowlStart (s : State) (u : Fin 4) : (State.cowlStart s u).still = s.still := rfl
@[simp] theorem still_cowlFeed (s : State) (u : Fin 4) (data : List Byte) : (State.cowlFeed s u data).still = s.still := rfl
@[simp] theorem still_cowlLoad (s : State) (u : Fin 4) (r : Nat) : (State.cowlLoad s u r).2.still = s.still := by
  unfold State.cowlLoad; split <;> simp
@[simp] theorem still_cowlStore (s : State) (u : Fin 4) (r : Nat) (w : Word) (bs : List Byte) (n : Nat) : (State.cowlStore s u r w bs n).still = s.still := by
  unfold State.cowlStore; split <;> first | exact still_putN _ _ _ | rfl
@[simp] theorem still_cowlSilent (s : State) (u : Fin 4) (i : Fin 16) : (State.cowlSilent s u i).still = s.still := by simp [State.cowlSilent]

end Sys2Proof.Machine
end

