-- ==== Sys2Proof/Laws/StillFront.lean ====
section
/-! SUPPORT. Frames of the front end, drives, actuators and loops: each function here leaves the waiting commands and the addressed memories alone. -/

set_option linter.all false

namespace Sys2Proof.Machine

open Sys2Proof

@[simp] theorem still_setChannel (s : State) (n : Fin 64) (f : Channel → Channel) : (State.setChannel s n f).still = s.still := by simp [State.setChannel]
@[simp] theorem still_setConverter (s : State) (v : Fin 8) (f : Converter → Converter) : (State.setConverter s v f).still = s.still := by simp [State.setConverter]
@[simp] theorem still_senseAt (s : State) (t : Nat) : (State.senseAt s t).still = s.still := by simp [State.senseAt]
@[simp] theorem still_keepOld (s : State) (l : List (Nat × Int)) : (State.keepOld s l).still = s.still := by simp [State.keepOld]
@[simp] theorem still_startSlot (s : State) (v : Fin 8) (n : Fin 64) : (State.startSlot s v n).still = s.still := by simp only [State.startSlot]; (repeat' split) <;> simp
@[simp] theorem still_markHeld (s : State) (v : Fin 8) (taken : Option (Fin 64 × Nat)) : (State.markHeld s v taken).still = s.still := by simp [State.markHeld]
@[simp] theorem still_serveCore (s0 : State) (v : Fin 8) : (State.serveCore s0 v).still = s0.still := by simp only [State.serveCore]; (repeat' split) <;> simp
@[simp] theorem still_serveCores (s : State) : (State.serveCores s).still = s.still := by simp [State.serveCores]
@[simp] theorem still_markDelayed (s : State) (n : Fin 64) (src : Nat) : (State.markDelayed s n src).still = s.still := by simp [State.markDelayed]
@[simp] theorem still_starve (s : State) (n : Fin 64) : (State.starve s n).still = s.still := by simp [State.starve]
@[simp] theorem still_scanDueOne (s : State) (n : Fin 64) (t : Nat) : (State.scanDueOne s n t).still = s.still := by simp only [State.scanDueOne]; (repeat' split) <;> simp
@[simp] theorem still_scanDue (s : State) (n : Fin 64) (t : Nat) : (State.scanDue s n t).still = s.still := by unfold State.scanDue; (repeat' split) <;> simp
@[simp] theorem still_demandConversion (s : State) (n : Fin 64) (t : Nat) : (State.demandConversion s n t).still = s.still := by unfold State.demandConversion; split <;> simp
@[simp] theorem still_ratioCode (s : State) (q1 q2 : Int) : (State.ratioCode s q1 q2).2.still = s.still := by simp [State.ratioCode]
@[simp] theorem still_combine (s : State) (sl : Slot) (r : Reading) : (State.combine s sl r).2.still = s.still := by unfold State.combine; split <;> simp
@[simp] theorem still_endSlot (s : State) (v : Fin 8) (sl : Slot) (r : Reading) (t : Nat) : (State.endSlot s v sl r t).still = s.still := by simp [State.endSlot]
@[simp] theorem still_conversionEnd (s : State) (v : Fin 8) (r : Reading) (t : Nat) : (State.conversionEnd s v r t).still = s.still := by unfold State.conversionEnd; split <;> simp
@[simp] theorem still_abortedRetake (s : State) (n : Fin 64) : (State.abortedRetake s n).still = s.still := by simp [State.abortedRetake]
@[simp] theorem still_abortSlot (s : State) (v : Fin 8) (src t : Nat) : (State.abortSlot s v src t).still = s.still := by unfold State.abortSlot; split <;> simp
@[simp] theorem still_unstartSlot (s : State) (v : Fin 8) (src t : Nat) : (State.unstartSlot s v src t).still = s.still := by unfold State.unstartSlot; split <;> simp
@[simp] theorem still_blankAssert (s : State) (src t : Nat) : (State.blankAssert s src t).still = s.still := by simp [State.blankAssert]
@[simp] theorem still_blankRelease (s : State) (src : Nat) : (State.blankRelease s src).still = s.still := by simp [State.blankRelease]
@[simp] theorem still_blankAgain (s : State) (src : Nat) : (State.blankAgain s src).still = s.still := by simp [State.blankAgain]
@[simp] theorem still_blankJudge (s : State) (i : Fin 2) (t : Nat) : (State.blankJudge s i t).still = s.still := by simp [State.blankJudge]
@[simp] theorem still_blankSelected (s : State) (n : Fin 64) : (State.blankSelected s n).still = s.still := by simp [State.blankSelected]
@[simp] theorem still_rangeSelected (s : State) (n : Fin 64) : (State.rangeSelected s n).still = s.still := by simp [State.rangeSelected]
@[simp] theorem still_frontOff (s : State) : s.frontOff.still = s.still := by
  have e : ∀ (x : State) (p : FrontEnd), ({ x with front := p } : State).still = x.still := fun _ _ => rfl
  unfold State.frontOff
  extract_lets s1
  rw [e]
  exact still_foldl _ _ _ fun s x => by dsimp only; split <;> simp
@[simp] theorem still_demandReference (s : State) (v : Fin 8) (t : Nat) : (State.demandReference s v t).still = s.still := by simp [State.demandReference]
@[simp] theorem still_setDrive (s : State) (d : Fin 16) (f : DriveUnit → DriveUnit) : (State.setDrive s d f).still = s.still := by simp [State.setDrive]
@[simp] theorem still_setOutput (s : State) (k : Fin 8) (f : OutputUnit → OutputUnit) : (State.setOutput s k f).still = s.still := by simp [State.setOutput]
@[simp] theorem still_evalTable (s : State) (d k : Nat) : (State.evalTable s d k).still = s.still := by simp [State.evalTable]
@[simp] theorem still_driveEnter (s : State) (d : Fin 16) (st : Nat) : (State.driveEnter s d st).still = s.still := by simp [State.driveEnter]
@[simp] theorem still_driveStart (s : State) (d : Fin 16) (n : Nat) : (State.driveStart s d n).still = s.still := by simp [State.driveStart]
@[simp] theorem still_driveAdvance (s : State) (d : Fin 16) : (State.driveAdvance s d).still = s.still := by simp [State.driveAdvance]
@[simp] theorem still_driveHold (s : State) (d : Fin 16) : (State.driveHold s d).still = s.still := by simp [State.driveHold]
@[simp] theorem still_tableUse (s : State) (d : Fin 16) : (State.tableUse s d).still = s.still := by simp [State.tableUse]
@[simp] theorem still_serveDrive (s : State) (d : Fin 16) : (State.serveDrive s d).still = s.still := by simp [State.serveDrive]
@[simp] theorem still_serveDrives (s : State) : (State.serveDrives s).still = s.still := by simp [State.serveDrives]
@[simp] theorem still_tachMeasured (s : State) (d : Fin 16) : (State.tachMeasured s d).still = s.still := by simp [State.tachMeasured]
@[simp] theorem still_idleDrive (s : State) (d : Fin 16) : (State.idleDrive s d).still = s.still := by simp [State.idleDrive]
@[simp] theorem still_tachTick (s : State) (d : Fin 16) : (State.tachTick s d).still = s.still := by simp [State.tachTick]
@[simp] theorem still_tachSpeed (s : State) (d : Fin 16) (period : Nat) : (State.tachSpeed s d period).still = s.still := by simp [State.tachSpeed]
@[simp] theorem still_driveFaultReset (s : State) (d : Fin 16) : (State.driveFaultReset s d).still = s.still := by simp [State.driveFaultReset]
@[simp] theorem still_driveStatsClear (s : State) (d : Fin 16) : (State.driveStatsClear s d).still = s.still := by simp [State.driveStatsClear]
@[simp] theorem still_outputCleared (s : State) (k : Nat) : (State.outputCleared s k).still = s.still := by simp [State.outputCleared]
@[simp] theorem still_serveOutput (s : State) (k : Fin 8) : (State.serveOutput s k).still = s.still := by simp [State.serveOutput]
@[simp] theorem still_serveOutputs (s : State) : (State.serveOutputs s).still = s.still := by simp [State.serveOutputs]
@[simp] theorem still_serveColumnOutputs (s : State) (c : Nat) : (State.serveColumnOutputs s c).still = s.still := by simp [State.serveColumnOutputs]
@[simp] theorem still_serveLoopOutputs (s : State) (l : Nat) : (State.serveLoopOutputs s l).still = s.still := by simp [State.serveLoopOutputs]
@[simp] theorem still_outputStatsClear (s : State) (k : Fin 8) : (State.outputStatsClear s k).still = s.still := by simp [State.outputStatsClear]
@[simp] theorem still_setpPublish (s : State) (i : Nat) (raw : Word) : (State.setpPublish s i raw).still = s.still := by simp [State.setpPublish]
@[simp] theorem still_setChanState (s : State) (n st : Nat) : (State.setChanState s n st).still = s.still := by simp [State.setChanState]
@[simp] theorem still_noteMeasured (s : State) (n : Fin 64) (r : RawResult) (y : Word) : (State.noteMeasured s n r y).still = s.still := by simp [State.noteMeasured]
@[simp] theorem still_channelConsumers (s : State) (n : Nat) : (State.channelConsumers s n).still = s.still := by simp [State.channelConsumers]
@[simp] theorem still_publish (s : State) (n : Fin 64) (r : RawResult) (t : Nat) : (State.publish s n r t).still = s.still := by simp [State.publish]
@[simp] theorem still_channelConfigured (s : State) (n : Fin 64) : (State.channelConfigured s n).still = s.still := by unfold State.channelConfigured; (try dsimp only); (repeat' split) <;> (try simp) <;> (try (rw [still_foldl] <;> (try intro s x) <;> (try dsimp only) <;> (repeat' split) <;> simp))
@[simp] theorem still_channelStatsClear (s : State) (n : Fin 64) : (State.channelStatsClear s n).still = s.still := by simp [State.channelStatsClear]
@[simp] theorem still_setAct (s : State) (a : Fin 20) (f : ActUnit → ActUnit) : (State.setAct s a f).still = s.still := by simp [State.setAct]
@[simp] theorem still_actKeep (s : State) (changed : List Nat) (a : Fin 20) : (State.actKeep s changed a).still = s.still := by simp [State.actKeep]
@[simp] theorem still_actsKeep (s : State) (changed : List Nat) : (State.actsKeep s changed).still = s.still := by simp [State.actsKeep]
@[simp] theorem still_raiseAct (s : State) (a : Fin 20) : (State.raiseAct s a).still = s.still := by simp [State.raiseAct]
@[simp] theorem still_actOpen (s : State) (a : Fin 20) : (State.actOpen s a).still = s.still := by simp [State.actOpen]
@[simp] theorem still_actOff (s : State) (a : Fin 20) : (State.actOff s a).still = s.still := by simp [State.actOff]
@[simp] theorem still_actRefuse (s : State) (a : Fin 20) (reason : Nat) : (State.actRefuse s a reason).still = s.still := by simp [State.actRefuse]
@[simp] theorem still_overlapRefuse (s : State) (a : Fin 20) : (State.overlapRefuse s a).still = s.still := by simp [State.overlapRefuse]
@[simp] theorem still_actFault (s : State) (a : Fin 20) (cause : Nat) : (State.actFault s a cause).still = s.still := by simp [State.actFault]
@[simp] theorem still_propBlock (s : State) (a : Fin 20) : (State.propBlock s a).still = s.still := by simp [State.propBlock]
@[simp] theorem still_openSwitch (s : State) (h : Fin 10) : (State.openSwitch s h).still = s.still := by simp [State.openSwitch]
@[simp] theorem still_hsFault (s : State) (h : Fin 10) (cause : Nat) : (State.hsFault s h cause).still = s.still := by simp [State.hsFault]
@[simp] theorem still_actTake (s : State) (a : Fin 20) : (State.actTake s a).still = s.still := by simp [State.actTake]
@[simp] theorem still_actOverlap (s : State) (a : Fin 20) : (State.actOverlap s a).still = s.still := by simp [State.actOverlap]
@[simp] theorem still_actRequest (s : State) (a : Fin 20) (pulse safe : Bool) : (State.actRequest s a pulse safe).still = s.still := by unfold State.actRequest; (repeat' split) <;> simp
@[simp] theorem still_startDeferred (s : State) (a : Fin 20) : (State.startDeferred s a).still = s.still := by simp [State.startDeferred]
@[simp] theorem still_serveProp (s : State) (a : Fin 20) : (State.serveProp s a).still = s.still := by simp only [State.serveProp]; (repeat' split) <;> simp
@[simp] theorem still_claimChanged (s : State) (a : Fin 20) : (State.claimChanged s a).still = s.still := by simp [State.claimChanged]
@[simp] theorem still_actCommand (s : State) (a : Fin 20) (v : Nat) : (State.actCommand s a v).still = s.still := by simp [State.actCommand]
@[simp] theorem still_actBegin (s : State) (a : Fin 20) : (State.actBegin s a).still = s.still := by simp [State.actBegin]
@[simp] theorem still_actEnterHold (s : State) (a : Fin 20) : (State.actEnterHold s a).still = s.still := by simp [State.actEnterHold]
@[simp] theorem still_noMove (s : State) (a : Fin 20) : (State.noMove s a).still = s.still := by simp [State.noMove]
@[simp] theorem still_judgeMovement (s : State) (a : Fin 20) (samples : List (Nat × Nat)) : (State.judgeMovement s a samples).still = s.still := by simp only [State.judgeMovement]; (repeat' split) <;> simp
@[simp] theorem still_peakFault (s : State) (a : Fin 20) (cause us : Nat) : (State.peakFault s a cause us).still = s.still := by simp [State.peakFault]
@[simp] theorem still_dutyUpdate (s : State) (a : Fin 20) : (State.dutyUpdate s a).still = s.still := by simp [State.dutyUpdate]
@[simp] theorem still_permitForce (s : State) (class_ : Nat) (a : Fin 20) : (State.permitForce s class_ a).still = s.still := by simp [State.permitForce]
@[simp] theorem still_actSafe (s : State) (a : Fin 20) : (State.actSafe s a).still = s.still := by simp [State.actSafe]
@[simp] theorem still_actPolicyTaken (s : State) (a : Fin 20) : (State.actPolicyTaken s a).still = s.still := by simp only [State.actPolicyTaken]; (repeat' split) <;> simp
@[simp] theorem still_actPolicy (s : State) (a : Fin 20) : (State.actPolicy s a).still = s.still := by simp only [State.actPolicy]; (repeat' split) <;> simp
@[simp] theorem still_serveActPolicies (s : State) : (State.serveActPolicies s).still = s.still := by simp [State.serveActPolicies]
@[simp] theorem still_actsOff (s : State) : (State.actsOff s).still = s.still := by simp [State.actsOff]
@[simp] theorem still_actsSafe (s : State) : (State.actsSafe s).still = s.still := by simp [State.actsSafe]
@[simp] theorem still_actEnabled (s : State) (a : Fin 20) : (State.actEnabled s a).still = s.still := by simp [State.actEnabled]
@[simp] theorem still_dutyRestart (s : State) : (State.dutyRestart s).still = s.still := by simp [State.dutyRestart]
@[simp] theorem still_actP2Loss (s : State) (a : Fin 20) : (State.actP2Loss s a).still = s.still := by simp [State.actP2Loss]
@[simp] theorem still_actBankOff (s : State) (bank : Nat) : (State.actBankOff s bank).still = s.still := by simp [State.actBankOff]
@[simp] theorem still_hsTrip (s : State) (h : Fin 10) (cause : Nat) : (State.hsTrip s h cause).still = s.still := by simp [State.hsTrip]
@[simp] theorem still_setHsPresent (s : State) (h : Fin 10) (b : Bool) : (State.setHsPresent s h b).still = s.still := by simp [State.setHsPresent]
@[simp] theorem still_actFaultReset (s : State) (a : Fin 20) : (State.actFaultReset s a).still = s.still := by simp [State.actFaultReset]
@[simp] theorem still_hsFaultReset (s : State) (h : Fin 10) : (State.hsFaultReset s h).still = s.still := by simp [State.hsFaultReset]
@[simp] theorem still_actStatsClear (s : State) (a : Fin 20) : (State.actStatsClear s a).still = s.still := by simp [State.actStatsClear]
@[simp] theorem still_hsStatsClear (s : State) (h : Fin 10) : (State.hsStatsClear s h).still = s.still := by simp [State.hsStatsClear]
@[simp] theorem still_setLoop (s : State) (l : Fin 64) (f : LoopUnit → LoopUnit) : (State.setLoop s l f).still = s.still := by simp [State.setLoop]
@[simp] theorem still_setCell (s : State) (i : Nat) (v : Int) : (State.setCell s i v).still = s.still := by simp [State.setCell]
@[simp] theorem still_learn (s : State) (l i : Nat) (e : Int) : (State.learn s l i e).still = s.still := by simp [State.learn]
@[simp] theorem still_clearRegion (s : State) (l : Nat) : (State.clearRegion s l).still = s.still := by simp [State.clearRegion]
@[simp] theorem still_loopLog (s : State) (code : Nat) (l : Fin 64) (w6 : Nat) : (State.loopLog s code l w6).still = s.still := by simp [State.loopLog]
@[simp] theorem still_noteHandOver (s : State) (l : Fin 64) (cause outgoing : Nat) (r : Int) : (State.noteHandOver s l cause outgoing r).still = s.still := by simp [State.noteHandOver]
@[simp] theorem still_publishSample (s : State) (l : Fin 64) (mode cond : Nat) (x : LoopInputs) (e uPre : Int) : (State.publishSample s l mode cond x e uPre).still = s.still := by simp [State.publishSample]
@[simp] theorem still_learnerSample (s : State) (l : Fin 64) (computing : Bool) : (State.learnerSample s l computing).still = s.still := by simp [State.learnerSample]
@[simp] theorem still_feExpire (s : State) (l : Fin 64) (e : Int) : (State.feExpire s l e).1.still = s.still := by unfold State.feExpire; (repeat' split) <;> simp
@[simp] theorem still_computeSample (s0 s : State) (l : Fin 64) (mode : Nat) (x : LoopInputs) : (State.computeSample s0 s l mode x).state.still = s.still := by simp [State.computeSample]
@[simp] theorem still_idleSample (s0 s : State) (l : Fin 64) (mode cond : Nat) (x : LoopInputs) (toSafe bypass : Bool) (track : Option Int) : (State.idleSample s0 s l mode cond x toSafe bypass track).state.still = s.still := by simp [State.idleSample]
@[simp] theorem still_noteEntry (s : State) (l : Fin 64) (old new : Nat) (mode : Nat) (x : LoopInputs) (wasAge wasBroken : Bool) : (State.noteEntry s l old new mode x wasAge wasBroken).still = s.still := by simp [State.noteEntry]
@[simp] theorem still_takeMode (s : State) (l : Fin 64) (u : LoopUnit) : (State.takeMode s l u).1.still = s.still := by simp [State.takeMode]
@[simp] theorem still_putHandOverState (s : State) (l : Fin 64) (track : Option Int) : (State.putHandOverState s l track).still = s.still := by simp [State.putHandOverState]
@[simp] theorem still_loopSample (s0 s : State) (l : Fin 64) : (s0.loopSample s l).state.still = s.still := by
  unfold State.loopSample
  extract_lets u0 wasCond wasAge wasBroken ending src u1 u1' s2 took s3 mode u3 x sp spLimited s4 cond s5 holdEnd s6 track s7 standby computing s8 s9 r s10 s11 nowCond
  have h2 : s2.still = s.still := by simp only [s2]; split <;> simp
  have h3 : s3.still = s.still := by simp [s3, took, h2]
  have h5 : s5.still = s.still := by simp [s5, s4, h3]
  have h6 : s6.still = s.still := by simp only [s6]; split <;> simp [h5]
  have h7 : s7.still = s.still := by simp only [s7]; split <;> simp [h6]
  have h9 : s9.still = s.still := by simp [s9, s8, h7]
  have hr : r.state.still = s.still := by simp only [r]; (repeat' split) <;> simp [h9]
  have h11 : s11.still = s.still := by simp only [s11, s10]; split <;> simp [hr]
  dsimp only
  split <;> simp [h11]
@[simp] theorem still_loopFaulted (s : State) (l : Fin 64) (f : LoopFault) : (State.loopFaulted s l f).still = s.still := by simp [State.loopFaulted]
@[simp] theorem still_countSample (s : State) (l : Fin 64) : (State.countSample s l).still = s.still := by simp [State.countSample]
@[simp] theorem still_faultSample (s0 s : State) (l : Fin 64) : (State.faultSample s0 s l).still = s.still := by
  unfold State.faultSample
  extract_lets took track s1 s2
  have h1 : s1.still = s.still := by simp [s1, took]
  have h2 : s2.still = s.still := by simp [s2, h1]
  split <;> simp [h2]
@[simp] theorem still_loopSlot (s0 : State) (i : TickInput) (acc : State × List (Fin 64) × List (Fin 64 × Fin 64)) (l : Fin 64) :
    (State.loopSlot s0 i acc l).1.still = acc.1.still := by
  unfold State.loopSlot; dsimp only; (repeat' split) <;> simp
@[simp] theorem still_loopSlots (s0 : State) (i : TickInput) (ls : List (Fin 64)) (acc : State × List (Fin 64) × List (Fin 64 × Fin 64)) :
    (ls.foldl (State.loopSlot s0 i) acc).1.still = acc.1.still := by
  induction ls generalizing acc with
  | nil => rfl
  | cons x t ih => rw [List.foldl_cons, ih, still_loopSlot]
@[simp] theorem still_enterFault (s : State) (cause : Nat) : (State.enterFault s cause).still = s.still := by simp [State.enterFault]
@[simp] theorem still_allLoopsSafe (s : State) (bit_ code w6 : Nat) : (State.allLoopsSafe s bit_ code w6).still = s.still := by simp [State.allLoopsSafe]
@[simp] theorem still_loopWrite (s : State) (l : Fin 64) : (State.loopWrite s l).still = s.still := by simp only [State.loopWrite]; (repeat' split) <;> simp
@[simp] theorem still_takeover (s : State) (l m : Fin 64) (cause notBefore : Nat) : (State.takeover s l m cause notBefore).still = s.still := by simp [State.takeover]
@[simp] theorem still_setTrace (s : State) (c : Fin 4) (f : TraceChannel → TraceChannel) : (State.setTrace s c f).still = s.still := by simp [State.setTrace]
@[simp] theorem still_traceTick (s : State) (due : List (Fin 64)) (events : List Nat) : (State.traceTick s due events).still = s.still := by simp [State.traceTick]
@[simp] theorem still_traceCommand (s : State) (v : Nat) : (State.traceCommand s v).still = s.still := by unfold State.traceCommand; split <;> simp
@[simp] theorem still_selfCheck (s : State) (fails : Bool) : (State.selfCheck s fails).still = s.still := by simp [State.selfCheck]
@[simp] theorem still_scrubFind (s : State) (word : Nat) : (State.scrubFind s word).still = s.still := by unfold State.scrubFind; split <;> simp
@[simp] theorem still_bellowsWork (s : State) (i : TickInput) : (s.bellowsWork i).still = s.still := by
  unfold State.bellowsWork
  extract_lets due r s1 recent src s2 third s3 s4 writers s5 s6 busy s7 s8
  have hr : r.1.still = s.still := by simp only [r]; rw [still_loopSlots]
  have h1 : s1.still = s.still := by simp [s1, hr]
  have h2 : s2.still = s.still := by simp only [s2, still_putN]; exact h1
  have h4 : s4.still = s.still := by simp only [s4, s3]; split <;> simp [h2]
  have h5 : s5.still = s.still := by simp [s5, h4]
  have h8 : s8.still = s.still := by simp [s8, s7, s6, h5]
  simp [h8]
@[simp] theorem still_modeCommitted (s : State) (k : Nat) (l : Fin 64) (v : Nat) : (State.modeCommitted s k l v).still = s.still := by unfold State.modeCommitted; split <;> simp
@[simp] theorem still_modeOrdered (s : State) (l : Fin 64) (v : Nat) : (State.modeOrdered s l v).still = s.still := by simp [State.modeOrdered]
@[simp] theorem still_loopFaultReset (s : State) (l : Fin 64) : (State.loopFaultReset s l).still = s.still := by simp [State.loopFaultReset]
@[simp] theorem still_loopStatsClear (s : State) (l : Nat) : (State.loopStatsClear s l).still = s.still := by simp [State.loopStatsClear]
@[simp] theorem still_bellowsCountersClear (s : State) : (State.bellowsCountersClear s).still = s.still := by simp [State.bellowsCountersClear]
@[simp] theorem still_latchTick (s : State) : (State.latchTick s).still = s.still := by simp [State.latchTick]
@[simp] theorem still_learnerClear (s : State) (l : Nat) : (State.learnerClear s l).still = s.still := by simp [State.learnerClear]
@[simp] theorem still_learnerConfigured (s : State) (l : Fin 64) : (State.learnerConfigured s l).still = s.still := by simp [State.learnerConfigured]
@[simp] theorem still_loopOff (s : State) (l : Fin 64) : (State.loopOff s l).still = s.still := by simp [State.loopOff]
@[simp] theorem still_loopsOff (s : State) : (State.loopsOff s).still = s.still := by simp [State.loopsOff]
@[simp] theorem still_loopConfigured (s : State) (l : Fin 64) : (State.loopConfigured s l).still = s.still := by
  unfold State.loopConfigured
  split
  · split <;> simp
  · split
    · extract_lets run s1 s2
      have h1 : s1.still = s.still := by simp [s1]
      have h2 : s2.still = s.still := by simp only [s2]; (repeat' split) <;> simp [h1]
      simp [h2]
    · rfl
@[simp] theorem still_loopsToManual (s : State) : (State.loopsToManual s).still = s.still := by simp [State.loopsToManual]
@[simp] theorem still_loopsToRun (s : State) : (State.loopsToRun s).still = s.still := by simp [State.loopsToRun]
@[simp] theorem still_loopOverlay (s : State) (l : Fin 64) : (State.loopOverlay s l).still = s.still := by simp [State.loopOverlay]
@[simp] theorem still_policyApplied (s : State) (l : Fin 64) : (State.policyApplied s l).2.still = s.still := by unfold State.policyApplied; split <;> simp
@[simp] theorem still_loopsHostReturn (s : State) : (State.loopsHostReturn s).still = s.still := by simp [State.loopsHostReturn]
@[simp] theorem still_kelsisHandover (s : State) (l : Fin 64) (v : Int) : (State.kelsisHandover s l v).still = s.still := by simp [State.kelsisHandover]
@[simp] theorem still_setPulse (s : State) (p8 : Fin 8) (f : PulseUnit → PulseUnit) : (State.setPulse s p8 f).still = s.still := by simp [State.setPulse]
@[simp] theorem still_pulseFrequency (s : State) (p8 : Fin 8) (n d : Nat) : (State.pulseFrequency s p8 n d).still = s.still := by simp [State.pulseFrequency]
@[simp] theorem still_pulseFresh (s : State) (p8 : Fin 8) : (State.pulseFresh s p8).still = s.still := by simp [State.pulseFresh]
@[simp] theorem still_pulseCount (s : State) (p8 : Fin 8) (n : Nat) : (State.pulseCount s p8 n).still = s.still := by simp [State.pulseCount]
@[simp] theorem still_pulsePeriod (s : State) (p8 : Fin 8) (c : Nat) : (State.pulsePeriod s p8 c).still = s.still := by simp [State.pulsePeriod]
@[simp] theorem still_indexPulse (s : State) (p8 : Fin 8) : (State.indexPulse s p8).still = s.still := by simp [State.indexPulse]
@[simp] theorem still_pulseEdge (s : State) (p8 : Fin 8) (period : Option Nat) : (State.pulseEdge s p8 period).still = s.still := by unfold State.pulseEdge; (repeat' split) <;> simp
@[simp] theorem still_countReset (s : State) (p8 : Fin 8) : (State.countReset s p8).still = s.still := by simp [State.countReset]

end Sys2Proof.Machine
end

