-- ==== Sys2Proof/Laws/StillBuses.lean ====
section
/-! SUPPORT. Frames of CAN, Flue, the Ash log and Kelsis: each function here leaves the waiting commands and the addressed memories alone. -/

set_option linter.all false

namespace Sys2Proof.Machine

open Sys2Proof

@[simp] theorem still_setCan (s : State) (b : Fin 2) (f : CanPort → CanPort) : (State.setCan s b f).still = s.still := by simp [State.setCan]
@[simp] theorem still_raiseCan (s : State) (b : Fin 2) (i : Nat) : (State.raiseCan s b i).still = s.still := by simp [State.raiseCan]
@[simp] theorem still_guardEntry (s : State) (b : Fin 2) (e : CanEntry) : (State.guardEntry s b e).2.still = s.still := by simp [State.guardEntry]
@[simp] theorem still_canComplete (s : State) (b : Fin 2) (e : CanEntry) (status : Nat) (mirrored : Bool) : (State.canComplete s b e status mirrored).still = s.still := by simp [State.canComplete]
@[simp] theorem still_fillSlot (s : State) (b : Fin 2) (f : CanPort → CanPort) : (State.fillSlot s b f).still = s.still := by simp [State.fillSlot]
@[simp] theorem still_frameOver (s : State) (b : Fin 2) : (State.frameOver s b).still = s.still := by simp [State.frameOver]
@[simp] theorem still_mirrorMove (s : State) : (State.mirrorMove s).still = s.still := by simp only [State.mirrorMove]; (repeat' split) <;> simp
@[simp] theorem still_endWire (s : State) (w : OnWire) (e : CanEntry) (status : Nat) : (State.endWire s w e status).still = s.still := by unfold State.endWire; split <;> simp
@[simp] theorem still_portRefuse (s : State) (p : Path) (b : Fin 2) (bs : List Byte) (r : Refused) : (State.portRefuse s p b bs r).still = s.still := by simp [State.portRefuse]
@[simp] theorem still_portWrite (s : State) (p : Path) (b : Fin 2) (bs : List Byte) : (State.portWrite s p b bs).still = s.still := by simp [State.portWrite]
@[simp] theorem still_transmitWrite (s : State) (p : Path) (b : Fin 2) (bs : List Byte) : (State.transmitWrite s p b bs).still = s.still := by unfold State.transmitWrite; split <;> simp
@[simp] theorem still_cancelTag (s : State) (b : Fin 2) (tag : Nat) (headSof urgentSof : Bool) : (s.cancelTag b tag headSof urgentSof).still = s.still := by
  unfold State.cancelTag
  extract_lets hit late s2 s3 gone s4
  have h0 : ∀ (s : State) (w : OnWire) (b : Bool), (late s w b).still = s.still := fun s w b => by simp only [late]; split <;> simp
  have h2 : s2.still = s.still := (h0 _ _ _).trans (h0 _ _ _)
  have h3 : s3.still = s.still := by simp only [s3]; (repeat' split) <;> simp [h2]
  have h4 : s4.still = s.still := by simp [s4, h3]
  simp [h4]
@[simp] theorem still_cancelOpen (s : State) (b : Fin 2) (tag : Nat) : (State.cancelOpen s b tag).still = s.still := by simp [State.cancelOpen]
@[simp] theorem still_canCounters (s : State) (b : Fin 2) (tec rec_ : Nat) : (State.canCounters s b tec rec_).still = s.still := by simp [State.canCounters]
@[simp] theorem still_frameFailed (s : State) (w : OnWire) (status : Nat) : (State.frameFailed s w status).still = s.still := by unfold State.frameFailed; split <;> simp
@[simp] theorem still_referenceSent (s : State) (b : Fin 2) (t : Nat) : (State.referenceSent s b t).still = s.still := by simp [State.referenceSent]
@[simp] theorem still_canSent (s : State) (b : Fin 2) : (State.canSent s b).still = s.still := by simp [State.canSent]
@[simp] theorem still_busRecover (s : State) (b : Fin 2) : (State.busRecover s b).still = s.still := by simp [State.busRecover]
@[simp] theorem still_takeCompletion (s : State) (b : Fin 2) : (State.takeCompletion s b).2.still = s.still := by unfold State.takeCompletion; split <;> simp
@[simp] theorem still_rxNext (s : State) (b : Fin 2) : (State.rxNext s b).still = s.still := by simp [State.rxNext]
@[simp] theorem still_storeObject (s : State) (b : Fin 2) (k : Fin 64) (f : CanFrame) (t : Nat) : (State.storeObject s b k f t).still = s.still := by simp [State.storeObject]
@[simp] theorem still_storeFifo (s : State) (b : Fin 2) (element : Nat) (f : CanFrame) (t : Nat) : (State.storeFifo s b element f t).still = s.still := by simp [State.storeFifo]
@[simp] theorem still_rxList (s : State) (b : Fin 2) (f : CanFrame) (t : Nat) : (State.rxList s b f t).still = s.still := by simp only [State.rxList]; (repeat' split) <;> simp
@[simp] theorem still_rxGood (s : State) (b : Fin 2) : (State.rxGood s b).still = s.still := by simp [State.rxGood]
@[simp] theorem still_heartbeatHeard (s : State) (b : Fin 2) (f : CanFrame) : (State.heartbeatHeard s b f).still = s.still := by simp [State.heartbeatHeard]
@[simp] theorem still_takeFifo (s : State) (b : Fin 2) : (State.takeFifo s b).2.still = s.still := by unfold State.takeFifo; split <;> simp
@[simp] theorem still_clearObjectStatus (s : State) (b : Fin 2) (k : Fin 64) (v : Nat) : (State.clearObjectStatus s b k v).still = s.still := by simp [State.clearObjectStatus]
@[simp] theorem still_canStatsClear (s : State) (b : Fin 2) : (State.canStatsClear s b).still = s.still := by simp [State.canStatsClear]
@[simp] theorem still_sendOwn (s : State) (cob : Nat) (data : List Byte) : (State.sendOwn s cob data).still = s.still := by simp [State.sendOwn]
@[simp] theorem still_emcyQueue (s : State) (code more : Nat) (tail : List Byte) : (State.emcyQueue s code more tail).still = s.still := by simp [State.emcyQueue]
@[simp] theorem still_emcySend (s : State) (code more : Nat) (tail : List Byte) : (State.emcySend s code more tail).still = s.still := by simp [State.emcySend]
@[simp] theorem still_emcyRecord (s : State) (r : AshRecord) : (State.emcyRecord s r).still = s.still := by simp [State.emcyRecord]
@[simp] theorem still_emcyReset (s : State) : (State.emcyReset s).still = s.still := by simp [State.emcyReset]
@[simp] theorem still_nmtBootUp (s : State) : (State.nmtBootUp s).still = s.still := by simp [State.nmtBootUp]
@[simp] theorem still_canStart (s : State) (b : Fin 2) : (State.canStart s b).still = s.still := by simp [State.canStart]
@[simp] theorem still_canForget (s : State) (b : Fin 2) : (State.canForget s b).still = s.still := by simp [State.canForget]
@[simp] theorem still_canRestart (s : State) (b : Fin 2) : (State.canRestart s b).still = s.still := by simp only [State.canRestart]; (repeat' split) <;> simp
@[simp] theorem still_canSleep (s : State) : (State.canSleep s).still = s.still := by simp [State.canSleep]
@[simp] theorem still_canWake (s : State) : (State.canWake s).still = s.still := by simp [State.canWake]
@[simp] theorem still_setFlue (s : State) (f : Flue → Flue) : (State.setFlue s f).still = s.still := by simp [State.setFlue]
@[simp] theorem still_setPort (s : State) (p : Fin 4) (f : FluePort → FluePort) : (State.setPort s p f).still = s.still := by simp [State.setPort]
@[simp] theorem still_raiseFlue (s : State) (i : Nat) : (State.raiseFlue s i).still = s.still := by simp [State.raiseFlue]
@[simp] theorem still_setGroup (s : State) (g : Nat) (f : FlueGroup → FlueGroup) : (State.setGroup s g f).still = s.still := by simp [State.setGroup]
@[simp] theorem still_loadBank (s : State) (i : FlueInstance) : (State.loadBank s i).still = s.still := by simp [State.loadBank]
@[simp] theorem still_turnTo (s : State) (g : Nat) : (State.turnTo s g).still = s.still := by simp [State.turnTo]
@[simp] theorem still_inGroup (s : State) (g : Nat) (f : State → State) (h : ∀ s, (f s).still = s.still) : (s.inGroup g f).still = s.still := by
  have e : ∀ (x : State) (b : List (Nat × Int)) (d : Dict), ({ x with base := b, dict := d } : State).still = x.still := fun _ _ _ => rfl
  unfold State.inGroup
  extract_lets here back t
  have ht : t.still = s.still := by simp [t, h]
  split
  · exact ht
  · rw [e]; exact ht
@[simp] theorem still_atAddress (s : State) (dst : Nat) (f : State → State) (h : ∀ s, (f s).still = s.still) : (s.atAddress dst f).still = s.still := by
  unfold State.atAddress; (repeat' split) <;> simp [h]
@[simp] theorem still_enqueueFrame (s : State) (p : Fin 4) (f : FlueFrame) : (State.enqueueFrame s p f).still = s.still := by simp [State.enqueueFrame]
@[simp] theorem still_makeFrame (s : State) (dst : Nat) (b : FlueBody) : (State.makeFrame s dst b).2.still = s.still := by simp [State.makeFrame]
@[simp] theorem still_setMember (s : State) (g : Nat) (i : Fin 15) (f : FlueMember → FlueMember) : (State.setMember s g i f).still = s.still := by simp [State.setMember]
@[simp] theorem still_noRoute (s : State) : (State.noRoute s).still = s.still := by simp [State.noRoute]
@[simp] theorem still_routeFrame (s : State) (f : FlueFrame) : (State.routeFrame s f).still = s.still := by unfold State.routeFrame; split <;> simp
@[simp] theorem still_mailOrRoute (s : State) (f : FlueFrame) : (State.mailOrRoute s f).1.still = s.still := by unfold State.mailOrRoute; (repeat' split) <;> simp
@[simp] theorem still_deliverMail (s : State) (f : FlueFrame) : (State.deliverMail s f).still = s.still := by unfold State.deliverMail; (repeat' split) <;> simp
@[simp] theorem still_sendFrom (s : State) (src dst : Nat) (b : FlueBody) : (State.sendFrom s src dst b).still = s.still := by simp [State.sendFrom]
@[simp] theorem still_sendFlue (s : State) (dst : Nat) (b : FlueBody) : (State.sendFlue s dst b).still = s.still := by simp [State.sendFlue]
@[simp] theorem still_flood (s : State) (g : Nat) (except_ : Option (Fin 4)) (b : FlueBody) : (State.flood s g except_ b).still = s.still := by simp [State.flood]
@[simp] theorem still_passOn (s : State) (g : Nat) (m : FlueMsg) (b : FlueBody) : (State.passOn s g m b).still = s.still := by simp [State.passOn]
@[simp] theorem still_floodLinkState (s : State) : (State.floodLinkState s).still = s.still := by simp [State.floodLinkState]
@[simp] theorem still_authFailed (s : State) (p : Fin 4) : (State.authFailed s p).still = s.still := by simp [State.authFailed]
@[simp] theorem still_noteAlive (s : State) (src id alive : Nat) : (State.noteAlive s src id alive).still = s.still := by simp [State.noteAlive]
@[simp] theorem still_noRoom (s : State) (m : FlueMsg) (b : FlueBody) : (State.noRoom s m b).still = s.still := by simp [State.noRoom]
@[simp] theorem still_arrive (s : State) (m : FlueMsg) (b : FlueBody) : (State.arrive s m b).2.still = s.still := by simp [State.arrive]
@[simp] theorem still_transmit (s : State) (p : Fin 4) (f : FlueFrame) : (State.transmit s p f).still = s.still := by simp [State.transmit]
@[simp] theorem still_drainPorts (s : State) : (State.drainPorts s).still = s.still := by unfold State.drainPorts; (try dsimp only); (repeat' split) <;> first | (simp; done) | (refine (still_foldl _ _ _ (fun s x => ?_)).trans ?_ <;> (try dsimp only) <;> (repeat' split) <;> simp)
@[simp] theorem still_updateMember (s : State) (g : Nat) (i : Fin 15) (f : FlueMember → FlueMember) : (State.updateMember s g i f).still = s.still := by simp only [State.updateMember]; (repeat' split) <;> simp
@[simp] theorem still_setSync (s : State) (v : Nat) : (State.setSync s v).still = s.still := by simp [State.setSync]
@[simp] theorem still_setFlueTime (s : State) (ns : Nat) : (State.setFlueTime s ns).still = s.still := by simp [State.setFlueTime]
@[simp] theorem still_grandmasterCheck (s : State) : (State.grandmasterCheck s).still = s.still := by simp [State.grandmasterCheck]
@[simp] theorem still_showGroup (s : State) : (State.showGroup s).still = s.still := by simp [State.showGroup]
@[simp] theorem still_adoptAddress (s : State) (a : Nat) : (State.adoptAddress s a).still = s.still := by simp [State.adoptAddress]
@[simp] theorem still_leaveUnseated (s : State) (uid : Nat) (f : State → State) (h : ∀ s, (f s).still = s.still) : (s.leaveUnseated uid f).still = s.still := by
  unfold State.leaveUnseated; split <;> simp [h]
@[simp] theorem still_headSees (s : State) (uid addr : Nat) : (State.headSees s uid addr).still = s.still := by simp only [State.headSees]; (repeat' split) <;> simp
@[simp] theorem still_reseat (s : State) : (State.reseat s).still = s.still := by simp only [State.reseat]; (repeat' split) <;> simp
@[simp] theorem still_sendPlan (s : State) (dst g : Nat) (bytes : List Byte) : (State.sendPlan s dst g bytes).still = s.still := by simp [State.sendPlan]
@[simp] theorem still_distributePlan (s : State) : (State.distributePlan s).still = s.still := by unfold State.distributePlan; (try dsimp only); (repeat' split) <;> first | (simp; done) | (refine (still_foldl _ _ _ (fun s x => ?_)).trans ?_ <;> (try dsimp only) <;> (repeat' split) <;> simp)
@[simp] theorem still_takePlan (s : State) (g : Nat) (bs : List Byte) : (State.takePlan s g bs).still = s.still := by simp [State.takePlan]
@[simp] theorem still_planWrite (s : State) (p : Path) (bs : List Byte) : (State.planWrite s p bs).still = s.still := by unfold State.planWrite; split <;> simp
@[simp] theorem still_standAbove (s : State) (g : Nat) (head : Bool) : (State.standAbove s g head).still = s.still := by simp [State.standAbove]
@[simp] theorem still_setHead (s : State) (g head deputy : Nat) : (State.setHead s g head deputy).still = s.still := by unfold State.setHead; split <;> simp
@[simp] theorem still_elect (s : State) (g : Nat) : (State.elect s g).still = s.still := by unfold State.elect; split <;> simp
@[simp] theorem still_deputyCheck (s : State) : (State.deputyCheck s).still = s.still := by simp [State.deputyCheck]
@[simp] theorem still_adjacencyUp (s : State) (p : Fin 4) : (State.adjacencyUp s p).still = s.still := by simp [State.adjacencyUp]
@[simp] theorem still_linkLost (s : State) (p : Fin 4) (link : Nat) : (State.linkLost s p link).still = s.still := by simp [State.linkLost]
@[simp] theorem still_adjacencyDown (s : State) (p : Fin 4) (link : Nat) : (State.adjacencyDown s p link).still = s.still := by simp [State.adjacencyDown]
@[simp] theorem still_takeStatus (s : State) (src : Nat) (st : StatusInfo) : (State.takeStatus s src st).still = s.still := by unfold State.takeStatus; split <;> simp
@[simp] theorem still_memberAbsent (s : State) (g : Nat) (i : Fin 15) (from_ : Nat) : (State.memberAbsent s g i from_).still = s.still := by unfold State.memberAbsent; split <;> simp
@[simp] theorem still_wantOf (s : State) (a : Nat) (l : List Nat) : (State.wantOf s a l).still = s.still := by simp [State.wantOf]
@[simp] theorem still_mapConfigured (s : State) : (State.mapConfigured s).still = s.still := by unfold State.mapConfigured; split <;> simp
@[simp] theorem still_sendGptp (s : State) (p : Fin 4) (kind : Fin 4) : (State.sendGptp s p kind).still = s.still := by simp [State.sendGptp]
@[simp] theorem still_syncOut (s : State) (e : Option (Fin 4)) : (State.syncOut s e).still = s.still := by
  refine still_foldl _ _ _ (fun s x => ?_); split <;> simp
@[simp] theorem still_readFlueTime (s : State) : (State.readFlueTime s).2.still = s.still := by simp [State.readFlueTime]
@[simp] theorem still_takeSiteKey (s : State) (bs : List Byte) : (State.takeSiteKey s bs).still = s.still := by simp [State.takeSiteKey]
@[simp] theorem still_siteKeyWrite (s : State) (p : Path) (bs : List Byte) : (State.siteKeyWrite s p bs).still = s.still := by unfold State.siteKeyWrite; split <;> simp
@[simp] theorem still_flueStatsClear (s : State) : (State.flueStatsClear s).still = s.still := by simp [State.flueStatsClear]
@[simp] theorem still_portStatsClear (s : State) (p : Fin 4) : (State.portStatsClear s p).still = s.still := by simp [State.portStatsClear]
@[simp] theorem still_timeStatsClear (s : State) : (State.timeStatsClear s).still = s.still := by simp [State.timeStatsClear]
@[simp] theorem still_flueFresh (s : State) : (State.flueFresh s).still = s.still := by simp [State.flueFresh]
@[simp] theorem still_flueStart (s : State) : (State.flueStart s).still = s.still := by simp [State.flueStart]
@[simp] theorem still_portConfigured (s : State) (p : Fin 4) : (State.portConfigured s p).still = s.still := by simp [State.portConfigured]
@[simp] theorem still_setAsh (s : State) (f : Ash → Ash) : (State.setAsh s f).still = s.still := by simp [State.setAsh]
@[simp] theorem still_bankWritten (s : State) : (State.bankWritten s).still = s.still := by simp [State.bankWritten]
@[simp] theorem still_reserveRecord (s : State) (e : AshEvent) : (State.reserveRecord s e).still = s.still := by simp [State.reserveRecord]
@[simp] theorem still_mediaFail (s : State) (why addr : Nat) : (State.mediaFail s why addr).still = s.still := by simp [State.mediaFail]
@[simp] theorem still_ashLatch (s : State) (w : Fin 8) : (State.ashLatch s w).still = s.still := by simp [State.ashLatch]
@[simp] theorem still_ashAdvance (s : State) (w : Fin 8) : (State.ashAdvance s w).still = s.still := by simp [State.ashAdvance]
@[simp] theorem still_readAshFirst (s : State) (w : Fin 8) : (State.readAshFirst s w).2.still = s.still := by simp [State.readAshFirst]
@[simp] theorem still_readAshLast (s : State) (w : Fin 8) : (State.readAshLast s w).2.still = s.still := by simp [State.readAshLast]
@[simp] theorem still_ashRead (s : State) (p : Path) (key : Nat) (f : State → Nat × State) (h : ∀ s, (f s).2.still = s.still) :
    (s.ashRead p key f).still = s.still := by
  unfold State.ashRead; dsimp only; split <;> simp [h]
@[simp] theorem still_setCursor (s : State) (p : Path) (v : Nat) : (State.setCursor s p v).still = s.still := by simp [State.setCursor]
@[simp] theorem still_ashClear (s : State) (p : Path) : (State.ashClear s p).still = s.still := by simp [State.ashClear]
@[simp] theorem still_setColumn (s : State) (c : Fin 4) (f : KColumn → KColumn) : (State.setColumn s c f).still = s.still := by simp [State.setColumn]
@[simp] theorem still_setGrain (s : State) (g : Fin 16) (f : KGrain → KGrain) : (State.setGrain s g f).still = s.still := by simp [State.setGrain]
@[simp] theorem still_setPredictor (s : State) (c : Fin 4) (f : KPredictor → KPredictor) : (State.setPredictor s c f).still = s.still := by simp [State.setPredictor]
@[simp] theorem still_setReasons (s : State) (c : Nat) (w : Nat) : (State.setReasons s c w).still = s.still := by simp [State.setReasons]
@[simp] theorem still_setReason (s : State) (c bitNo : Nat) (b : Bool) : (State.setReason s c bitNo b).still = s.still := by simp [State.setReason]
@[simp] theorem still_latchForcing (s : State) (c : Fin 4) (f : Fin 8) : (State.latchForcing s c f).still = s.still := by simp only [State.latchForcing]; (repeat' split) <;> simp
@[simp] theorem still_showBuilder (s : State) : (State.showBuilder s).still = s.still := by simp [State.showBuilder]
@[simp] theorem still_triggerBuild (s : State) (g : Fin 16) : (State.triggerBuild s g).still = s.still := by simp [State.triggerBuild]
@[simp] theorem still_startBuild (s : State) (g : Fin 16) : (State.startBuild s g).still = s.still := by simp [State.startBuild]
@[simp] theorem still_tableRebuild (s : State) : (State.tableRebuild s).still = s.still := by simp [State.tableRebuild]
@[simp] theorem still_loadFromFile (s : State) (g : Fin 16) (e : Nat) : (State.loadFromFile s g e).still = s.still := by simp [State.loadFromFile]
@[simp] theorem still_swapTables (s : State) (g : Fin 16) : (State.swapTables s g).still = s.still := by simp only [State.swapTables]; (repeat' split) <;> simp
@[simp] theorem still_pressureTrigger (s : State) (c : Fin 4) (g : Fin 16) : (State.pressureTrigger s c g).still = s.still := by simp only [State.pressureTrigger]; (repeat' split) <;> simp
@[simp] theorem still_tableStep (s : State) (c : Fin 4) : (State.tableStep s c).still = s.still := by simp [State.tableStep]
@[simp] theorem still_freeBoundary (n : Nat) (s : State) : (State.freeBoundary n s).2.still = s.still := by
  induction n generalizing s with
  | zero => rfl
  | succ n ih => simp [State.freeBoundary, ih]
@[simp] theorem still_boundaryStep (s : State) (c : Fin 4) (n : Nat) : (s.boundaryStep c n).still = s.still := by
  unfold State.boundaryStep; dsimp only; (repeat' split) <;> simp
@[simp] theorem still_displacementStep (s : State) (c : Fin 4) (n : Nat) : (State.displacementStep s c n).still = s.still := by simp only [State.displacementStep]; (repeat' split) <;> simp
@[simp] theorem still_judgeBoundary (s : State) (b : Boundary) (src : Option Nat) (gap : Bool) : (State.judgeBoundary s b src gap).still = s.still := by simp [State.judgeBoundary]
@[simp] theorem still_sendBoundaries (s : State) (c : Fin 4) (b : Boundary) (up : Boundary) : (State.sendBoundaries s c b up).still = s.still := by simp only [State.sendBoundaries]; (repeat' split) <;> simp
@[simp] theorem still_abandonStep (s : State) (c : Fin 4) : (State.abandonStep s c).still = s.still := by unfold State.abandonStep; split <;> simp
@[simp] theorem still_beginStep (s : State) (c : Fin 4) (n : Nat) (tab : KTable) (lost : List Nat) : (State.beginStep s c n tab lost).still = s.still := by
  unfold State.beginStep
  extract_lets s1 s2 s3 w s4
  have h1 : s1.still = s.still := still_foldl _ _ _ fun s x => by simp
  have h3 : s3.still = s.still := by simp [s3, s2, h1]
  simp [s4, h3]
@[simp] theorem still_enterFeedback (s : State) (c : Fin 4) (reasons : Nat) : (State.enterFeedback s c reasons).still = s.still := by simp [State.enterFeedback]
@[simp] theorem still_fallBack (s : State) (c : Fin 4) : (State.fallBack s c).still = s.still := by simp [State.fallBack]
@[simp] theorem still_healthSeen (s : State) (entry : Bool) (c : Fin 4) : (State.healthSeen s entry c).still = s.still := by simp [State.healthSeen]
@[simp] theorem still_predictorHealth (s : State) (col c : Fin 4) : (State.predictorHealth s col c).still = s.still := by simp [State.predictorHealth]
@[simp] theorem still_snapshotAt (s : State) (c : Fin 4) (w : KWork) : (State.snapshotAt s c w).still = s.still := by unfold State.snapshotAt; split <;> simp
@[simp] theorem still_publishStep (s : State) (c : Fin 4) (w : KWork) : (State.publishStep s c w).still = s.still := by simp [State.publishStep]
@[simp] theorem still_publishColumn (s : State) (c : Fin 4) : (State.publishColumn s c).still = s.still := by unfold State.publishColumn; split <;> simp
@[simp] theorem still_kelsisPublish (s : State) : (State.kelsisPublish s).still = s.still := by unfold State.kelsisPublish; (try dsimp only); (repeat' split) <;> first | (simp; done) | (refine (still_foldl _ _ _ (fun s x => ?_)).trans ?_ <;> (try dsimp only) <;> (repeat' split) <;> simp)
@[simp] theorem still_staleEnd (s : State) (c : Fin 4) : (State.staleEnd s c).still = s.still := by simp [State.staleEnd]
@[simp] theorem still_columnReinitialise (s : State) (c : Fin 4) (t : Nat) : (State.columnReinitialise s c t).still = s.still := by simp [State.columnReinitialise]
@[simp] theorem still_labSubmit (s : State) (c : Fin 4) (v : Word) (at_ : Nat) : (State.labSubmit s c v at_).still = s.still := by simp [State.labSubmit]
@[simp] theorem still_mapSnapshot (s : State) : (State.mapSnapshot s).still = s.still := by simp [State.mapSnapshot]
@[simp] theorem still_mapAdvance (s : State) : (State.mapAdvance s).still = s.still := by simp [State.mapAdvance]
@[simp] theorem still_kelsisCountersClear (s : State) : (State.kelsisCountersClear s).still = s.still := by simp [State.kelsisCountersClear]
@[simp] theorem still_columnStatsClear (s : State) (c : Nat) : (State.columnStatsClear s c).still = s.still := by simp [State.columnStatsClear]
@[simp] theorem still_grainWritten (s : State) (key : Nat) : (s.grainWritten key).still = s.still := by
  unfold State.grainWritten; dsimp only; (repeat' split) <;> first | exact still_triggerBuild _ _ | rfl
@[simp] theorem still_columnConfigured (s : State) (c : Fin 4) : (State.columnConfigured s c).still = s.still := by simp [State.columnConfigured]
@[simp] theorem still_kelsisHalt (s : State) : (State.kelsisHalt s).still = s.still := by simp [State.kelsisHalt]
@[simp] theorem still_countClamps (s : State) (u : KUpdate) (l : List Nat) : (State.countClamps s u l).still = s.still := by simp [State.countClamps]
@[simp] theorem still_checkBindings (s : State) (c : Fin 4) (u : KUpdate) : (State.checkBindings s c u).still = s.still := by simp [State.checkBindings]
@[simp] theorem still_handRole (s : State) (c : Fin 4) (loop : Nat) (v : Int) : (State.handRole s c loop v).still = s.still := by unfold State.handRole; split <;> simp
@[simp] theorem still_reportChoice (s : State) (c : Fin 4) (i : Nat) (x : Candidate) : (State.reportChoice s c i x).still = s.still := by simp [State.reportChoice]
@[simp] theorem still_takeReturn (s : State) (c : Fin 4) (u : KUpdate) : (State.takeReturn s c u).still = s.still := by simp [State.takeReturn]
@[simp] theorem still_finishContinuous (s : State) (c : Fin 4) (u : KUpdate) : (State.finishContinuous s c u).still = s.still := by simp only [State.finishContinuous]; (repeat' split) <;> simp
@[simp] theorem still_timeToTarget (s : State) (tu nh : Nat) (target start : Word) (bed : Nat → Word) : (State.timeToTarget s tu nh target start bed).2.still = s.still := by unfold State.timeToTarget; (repeat' split) <;> simp
@[simp] theorem still_finishBatch (s : State) (c : Fin 4) (u : KUpdate) : (State.finishBatch s c u).still = s.still := by simp [State.finishBatch]
@[simp] theorem still_finishBin (s : State) (c : Fin 4) (u : KUpdate) : (State.finishBin s c u).still = s.still := by simp [State.finishBin]
@[simp] theorem still_abandonUpdate (s : State) (c : Fin 4) : (State.abandonUpdate s c).still = s.still := by unfold State.abandonUpdate; split <;> simp
@[simp] theorem still_forceFeedback (s : State) (c : Fin 4) : (State.forceFeedback s c).still = s.still := by simp [State.forceFeedback]
@[simp] theorem still_orderReturn (s : State) (c : Fin 4) : (State.orderReturn s c).still = s.still := by simp [State.orderReturn]
@[simp] theorem still_predictiveCountersClear (s : State) : (State.predictiveCountersClear s).still = s.still := by simp [State.predictiveCountersClear]
@[simp] theorem still_shedReasons (s : State) (full : Bool) : (State.shedReasons s full).still = s.still := by simp [State.shedReasons]
@[simp] theorem still_setStage (s : State) (new : Nat) : (State.setStage s new).still = s.still := by simp [State.setStage]
@[simp] theorem still_abandonOverdue (s : State) : (State.abandonOverdue s).still = s.still := by unfold State.abandonOverdue; (try dsimp only); (repeat' split) <;> first | (simp; done) | (refine (still_foldl _ _ _ (fun s x => ?_)).trans ?_ <;> (try dsimp only) <;> (repeat' split) <;> simp)
@[simp] theorem still_restage (s : State) : (State.restage s).still = s.still := by simp [State.restage]
@[simp] theorem still_predictorConfigured (s : State) (c : Fin 4) : (State.predictorConfigured s c).still = s.still := by simp [State.predictorConfigured]
@[simp] theorem still_predictorsStart (s : State) : (State.predictorsStart s).still = s.still := by simp [State.predictorsStart]
@[simp] theorem still_predictorsStop (s : State) : (State.predictorsStop s).still = s.still := by simp [State.predictorsStop]
@[simp] theorem still_newChallenge (s : State) (p : Path) : (State.newChallenge s p).2.still = s.still := by simp [State.newChallenge]
@[simp] theorem still_readNum (s : State) (p : Path) (key : Nat) : (State.readNum s p key).2.still = s.still := by simp [State.readNum]
@[simp] theorem still_readBlock (s : State) (p : Path) (key : Nat) : (State.readBlock s p key).2.still = s.still := by simp [State.readBlock]
@[simp] theorem still_readRow (s : State) (p : Path) (key : Nat) (r : Row) : (State.readRow s p key r).2.still = s.still := by simp [State.readRow]

end Sys2Proof.Machine
end

