-- ==== Sys2Proof/Laws/StillCores.lean ====
section
/-! SUPPORT. Frames of the dictionary server, programs and cores: each function here leaves the waiting commands and the addressed memories alone. -/

set_option linter.all false

namespace Sys2Proof.Machine

open Sys2Proof

@[simp] theorem still_saveInterrupted (s : State) : (State.saveInterrupted s).still = s.still := by unfold State.saveInterrupted; split <;> simp
@[simp] theorem still_setGuard (s : State) (g : PasscodeGuard) : (State.setGuard s g).still = s.still := by simp [State.setGuard]
@[simp] theorem still_raiseLevel (s : State) (p : Path) (l : Level) : (State.raiseLevel s p l).still = s.still := by simp [State.raiseLevel]
@[simp] theorem still_wrongPasscode (s : State) (p : Path) : (State.wrongPasscode s p).still = s.still := by simp [State.wrongPasscode]
@[simp] theorem still_levelRequest (s : State) (p : Path) (v : Nat) : (State.levelRequest s p v).still = s.still := by simp [State.levelRequest]
@[simp] theorem still_vendorResponse (s : State) (p : Path) (bs : List Byte) : (State.vendorResponse s p bs).still = s.still := by simp [State.vendorResponse]
@[simp] theorem still_writeNow (s : State) (p : Path) (key : Nat) (bs : List Byte) (f : State → DVal → State) (h : ∀ s v, (f s v).still = s.still) :
    (s.writeNow p key bs f).still = s.still := by
  unfold State.writeNow; apply still_served; intro s; dsimp only; split <;> simp [h]
@[simp] theorem still_windowLoad (s : State) (c : Fin 4) (addr : Nat) : (State.windowLoad s c addr).2.still = s.still := by simp only [State.windowLoad]; (repeat' split) <;> simp
@[simp] theorem still_windowStore (s : State) (c : Fin 4) (addr : Nat) (w : Word) : (State.windowStore s c addr w).2.still = s.still := by simp only [State.windowStore]; (repeat' split) <;> simp
@[simp] theorem rams_setReg (k : Core) (i : Fin 16) (v : Word) : (Core.setReg k i v).rams = k.rams := by simp [Core.setReg]
@[simp] theorem rams_passCount (k : Core) (j : Fin 8) (n : Nat) : (Core.passCount k j n).1.rams = k.rams := by simp [Core.passCount]
@[simp] theorem still_countEventBut (s : State) (written : Option (Fin 8)) (c : Fin 4) (ev n : Nat) : (State.countEventBut s written c ev n).still = s.still := by simp [State.countEventBut]
@[simp] theorem still_countEvent (s : State) (c : Fin 4) (ev n : Nat) : (State.countEvent s c ev n).still = s.still := by simp [State.countEvent]
@[simp] theorem still_countEvents (s : State) (c : Fin 4) (evs : List (Nat × Nat)) : (State.countEvents s c evs).still = s.still := by simp [State.countEvents]
@[simp] theorem still_passCyclesAs (s : State) (c : Fin 4) (n : Nat) (user ieOff wait : Bool) : (State.passCyclesAs s c n user ieOff wait).still = s.still := by simp [State.passCyclesAs]
@[simp] theorem still_passCycles (s : State) (c : Fin 4) (n : Nat) : (State.passCycles s c n).still = s.still := by simp [State.passCycles]
@[simp] theorem still_timerRun (s : State) (c : Fin 4) (t : Fin 2) (periodic : Bool) : (State.timerRun s c t periodic).still = s.still := by simp [State.timerRun]
@[simp] theorem still_timerStop (s : State) (c : Fin 4) (t : Fin 2) (periodic : Bool) : (State.timerStop s c t periodic).still = s.still := by simp [State.timerStop]
@[simp] theorem still_controlWord (s : State) (c : Fin 4) (off : Nat) : (State.controlWord s c off).2.still = s.still := by unfold State.controlWord; (repeat' split) <;> simp
@[simp] theorem still_unitValue (s : State) (e : Nat × Nat) : (State.unitValue s e).still = s.still := by simp [State.unitValue]
@[simp] theorem still_unitRecord (s : State) (q : ThermalRecord) : (State.unitRecord s q).2.still = s.still := by simp [State.unitRecord]
@[simp] theorem still_memLoad (s : State) (c : Fin 4) (a w : Nat) : (State.memLoad s c a w).2.still = s.still := by unfold State.memLoad; split <;> simp
@[simp] theorem still_xipCost (s : State) : (State.xipCost s).2.still = s.still := by simp [State.xipCost]
@[simp] theorem still_loadCost (s : State) (a : Nat) : (State.loadCost s a).2.still = s.still := by unfold State.loadCost; split <;> simp
@[simp] theorem still_storeCost (s : State) (c : Fin 4) (a : Nat) : (State.storeCost s c a).2.still = s.still := by unfold State.storeCost; split <;> simp
@[simp] theorem still_fetchCost (s : State) (a : Nat) : (State.fetchCost s a).2.still = s.still := by unfold State.fetchCost; split <;> simp
@[simp] theorem rams_enterTrap (k : Core) (epc ecause eval : Word) (offset : Nat) : (Core.enterTrap k epc ecause eval offset).rams = k.rams := by simp [Core.enterTrap]
@[simp] theorem rams_trapReturn (k : Core) : (Core.trapReturn k).rams = k.rams := by simp [Core.trapReturn]
@[simp] theorem still_sampleStack (s : State) (c : Fin 4) : (State.sampleStack s c).still = s.still := by simp only [State.sampleStack]; (repeat' split) <;> simp
@[simp] theorem still_holdProgram (s : State) (c : Fin 4) (st : Nat) : (State.holdProgram s c st).still = s.still := by simp [State.holdProgram]
@[simp] theorem still_programStop (s : State) (c : Fin 4) : (State.programStop s c).still = s.still := by simp [State.programStop]
@[simp] theorem still_programsStop (s : State) : (State.programsStop s).still = s.still := by simp [State.programsStop]
@[simp] theorem still_programsToStopped (s : State) : (State.programsToStopped s).still = s.still := by simp [State.programsToStopped]
@[simp] theorem still_recordTrap (s : State) (c : Fin 4) : (State.recordTrap s c).still = s.still := by simp [State.recordTrap]
@[simp] theorem still_flushTagged (s : State) (c : Fin 4) : (State.flushTagged s c).still = s.still := by simp [State.flushTagged]
@[simp] theorem still_imageRefuse (s : State) (p : Path) (c : Fin 4) (st : Nat) : (State.imageRefuse s p c st).still = s.still := by simp [State.imageRefuse]
@[simp] theorem still_imageStore (s : State) (c : Fin 4) (raw : List Byte) : (State.imageStore s c raw).still = s.still := by simp [State.imageStore]
@[simp] theorem still_eraseSlot (s : State) (n : Nat) : (State.eraseSlot s n).still = s.still := by simp [State.eraseSlot]
@[simp] theorem still_coreStatsClear (s : State) (c : Nat) : (State.coreStatsClear s c).still = s.still := by simp [State.coreStatsClear]
@[simp] theorem still_tagFetch (s : State) (c : Fin 4) (word : Word) : (s.tagFetch c word).still = s.still := by
  unfold State.tagFetch; split <;> simp
@[simp] theorem still_Effect_fetchStall (e : Effect) (s : State) (n : Nat) : (Effect.fetchStall e s n).2.still = s.still := by simp [Effect.fetchStall]
@[simp] theorem still_lastCycle (s : State) (c : Fin 4) (n : Nat) (written : Option (Fin 8)) (evs : List (Nat × Nat)) : (State.lastCycle s c n written evs).still = s.still := by simp [State.lastCycle]
@[simp] theorem still_stallTagged (s : State) (c : Fin 4) (w : Word) : (State.stallTagged s c w).still = s.still := by simp [State.stallTagged]
@[simp] theorem still_stoppedTrap (s : State) (c : Fin 4) (f : State → Word → Ran) : (State.stoppedTrap s c f).still = s.still := by simp only [State.stoppedTrap]; (repeat' split) <;> simp
@[simp] theorem still_latchCycle (s : State) (c : Fin 4) : (State.latchCycle s c).still = s.still := by simp [State.latchCycle]
@[simp] theorem still_lockSample (s : State) (c : Fin 4) : (State.lockSample s c).still = s.still := by simp [State.lockSample]
@[simp] theorem still_releaseSample (s : State) (c : Fin 4) : (State.releaseSample s c).still = s.still := by simp [State.releaseSample]
@[simp] theorem still_readSys (s : State) (c : Fin 4) (n : Nat) : (s.readSys c n).2.still = s.still := by
  simp only [State.readSys, snd_state_ite, still_ite, still_latchCycle, still_lockSample, still_releaseSample, still_freeWord, ite_self]
@[simp] theorem still_writeSampleCtl (s : State) (c : Fin 4) (v : Word) : (s.writeSampleCtl c v).still = s.still := by
  unfold State.writeSampleCtl; dsimp only; simp
@[simp] theorem still_writeSys (s : State) (c : Fin 4) (n : Nat) (v : Word) : (s.writeSys c n v).still = s.still := by
  simp only [State.writeSys, still_ite, still_writeSampleCtl, still_setCore, rams_mk, rams_ite, rams_eta, rams_set_self, still_eta, ite_self]
theorem still_retire (e : Effect) (c : Fin 4) (fetch : Cost) (a b d : Bool) (h : ∀ s, (e.post s).still = s.still)
    (he : ∀ s, (e.early s).still = s.still) : (e.retire c fetch a b d).still = e.s.still := by
  unfold Effect.retire; dsimp only; rw [h]; split <;> simp [he]
@[simp] theorem still_endWait (s : State) (c : Fin 4) (w : Waiting) (v : Word) (n : Nat) : (s.endWait c w v n).still = s.still := by
  unfold State.endWait; dsimp only; rw [still_retire _ _ _ _ _ _ (fun _ => rfl) (fun _ => rfl)]; simp

end Sys2Proof.Machine
end

