-- ==== Sys2Proof/Laws/StillSystem.lean ====
section
/-! SUPPORT. Frames of the module as a whole: each function here leaves the waiting commands and the addressed memories alone. -/

set_option linter.all false

namespace Sys2Proof.Machine

open Sys2Proof

@[simp] theorem still_setSensor (s : State) (i : Fin 6) (f : ThermalSensor → ThermalSensor) : (State.setSensor s i f).still = s.still := by simp [State.setSensor]
@[simp] theorem still_serveProps (s : State) : (State.serveProps s).still = s.still := by simp [State.serveProps]
@[simp] theorem still_throttle (s : State) (g : Nat) (i : Fin 6) (r : Word) : (State.throttle s g i r).still = s.still := by simp [State.throttle]
@[simp] theorem still_release (s : State) (g : Nat) (i : Fin 6) (r : Word) : (State.release s g i r).still = s.still := by simp [State.release]
@[simp] theorem still_disableBank (s : State) (bank : Nat) : (State.disableBank s bank).still = s.still := by simp [State.disableBank]
@[simp] theorem still_firmwareAbandon (s : State) : (State.firmwareAbandon s).still = s.still := by simp [State.firmwareAbandon]
@[simp] theorem still_answerReaders (s : State) : (State.answerReaders s).still = s.still := by simp [State.answerReaders]
@[simp] theorem still_formDerating (s : State) : (State.formDerating s).still = s.still := by simp [State.formDerating]
@[simp] theorem still_thermalReader (s : State) (p : Path) (i : Fin 6) : (State.thermalReader s p i).still = s.still := by simp [State.thermalReader]
@[simp] theorem still_enableBank (s : State) (bank : Nat) : (State.enableBank s bank).still = s.still := by simp [State.enableBank]
@[simp] theorem still_thermalStatsClear (s : State) : (State.thermalStatsClear s).still = s.still := by simp [State.thermalStatsClear]
@[simp] theorem still_thermalTick (s : State) : (State.thermalTick s).still = s.still := by simp [State.thermalTick]
@[simp] theorem still_storeStart (s : State) (p : Path) (part : Fin 3) : (State.storeStart s p part).still = s.still := by simp [State.storeStart]
@[simp] theorem still_restoreStart (s : State) (p : Path) (part : Fin 3) : (State.restoreStart s p part).still = s.still := by simp [State.restoreStart]
@[simp] theorem still_saveCommand (s : State) (p : Path) (key v : Nat) (f : State → State) (h : ∀ s, (f s).still = s.still) :
    (s.saveCommand p key v f).still = s.still := still_writeNow _ _ _ _ _ (fun s _ => h s)
@[simp] theorem still_updateBank (s : State) : (State.updateBank s).2.still = s.still := by simp [State.updateBank]
@[simp] theorem still_firmwareWrite (s : State) (bs : List Byte) (done : Bool) : (State.firmwareWrite s bs done).still = s.still := by simp [State.firmwareWrite]
@[simp] theorem still_firmwareBegins (s : State) (key : Nat) : (State.firmwareBegins s key).still = s.still := by simp [State.firmwareBegins]
@[simp] theorem still_routeCommit (s : State) (i v : Nat) : (State.routeCommit s i v).still = s.still := by simp [State.routeCommit]
@[simp] theorem still_countersClear (s : State) (c : Fin 4) : (State.countersClear s c).still = s.still := by simp [State.countersClear]
@[simp] theorem still_counterWrite (s : State) (c : Fin 4) (sub v : Nat) : (State.counterWrite s c sub v).still = s.still := by simp [State.counterWrite]
@[simp] theorem still_watchdogRestart (s : State) : (State.watchdogRestart s).still = s.still := by simp [State.watchdogRestart]
@[simp] theorem still_watchdogStop (s : State) : (State.watchdogStop s).still = s.still := by simp [State.watchdogStop]
@[simp] theorem still_serveAllOutputs (s : State) : (State.serveAllOutputs s).still = s.still := by simp [State.serveAllOutputs]
@[simp] theorem still_enterRunning (s : State) : (State.enterRunning s).still = s.still := by simp [State.enterRunning]
@[simp] theorem still_enterStopped (s : State) : (State.enterStopped s).still = s.still := by simp [State.enterStopped]
@[simp] theorem still_allSafeEnds (s : State) : (State.allSafeEnds s).still = s.still := by simp [State.allSafeEnds]
@[simp] theorem still_servePolicies (s : State) : (State.servePolicies s).still = s.still := by simp [State.servePolicies]
@[simp] theorem still_hostReturn (s : State) : (State.hostReturn s).still = s.still := by simp [State.hostReturn]
@[simp] theorem still_heartbeat (s : State) (p : Path) (v : Nat) : (State.heartbeat s p v).still = s.still := by simp only [State.heartbeat]; (repeat' split) <;> simp
@[simp] theorem still_hostPathsChanged (s : State) : (State.hostPathsChanged s).still = s.still := by simp [State.hostPathsChanged]
@[simp] theorem still_hostAcknowledge (s : State) : (State.hostAcknowledge s).still = s.still := by simp [State.hostAcknowledge]
@[simp] theorem still_modeRequest (s : State) (m : Nat) : (State.modeRequest s m).still = s.still := by simp [State.modeRequest]
@[simp] theorem still_layOverlay (s : State) (new : List (Nat × Int)) : (State.layOverlay s new).still = s.still := by simp [State.layOverlay]
@[simp] theorem still_supplyBit (s : State) (n : Nat) (b : Bool) : (State.supplyBit s n b).still = s.still := by simp [State.supplyBit]
@[simp] theorem still_saveOpTime (s : State) : (State.saveOpTime s).still = s.still := by simp [State.saveOpTime]
@[simp] theorem still_sleepFor (s : State) (aon : Nat) : (State.sleepFor s aon).still = s.still := by unfold State.sleepFor; split <;> simp
@[simp] theorem still_cellCheck (s : State) (mv : Nat) : (State.cellCheck s mv).still = s.still := by simp [State.cellCheck]
@[simp] theorem still_powerStatsClear (s : State) : (State.powerStatsClear s).still = s.still := by simp [State.powerStatsClear]
@[simp] theorem still_rtcWrite (s : State) (v : Nat) : (State.rtcWrite s v).still = s.still := by simp [State.rtcWrite]
@[simp] theorem still_bankingNotice (s : State) (t : Option Nat) : (State.bankingNotice s t).still = s.still := by simp [State.bankingNotice]
@[simp] theorem still_decided (s : State) (q : PowerState) (e : Option (Nat × Nat)) : (State.decided s q e).still = s.still := by simp [State.decided]
@[simp] theorem still_powerDown (s : State) : (State.powerDown s).still = s.still := by simp [State.powerDown]
@[simp] theorem still_sleepBanked (s : State) : (State.sleepBanked s).still = s.still := by simp [State.sleepBanked]
@[simp] theorem still_logWake (s : State) (n : Nat) : (State.logWake s n).still = s.still := by simp [State.logWake]
@[simp] theorem still_wakeEvent (s : State) (n : Nat) (enabled : Bool) (aon : Nat) : (State.wakeEvent s n enabled aon).still = s.still := by unfold State.wakeEvent; (repeat' split) <;> simp
@[simp] theorem still_coresResume (s : State) : (State.coresResume s).still = s.still := by unfold State.coresResume; (try dsimp only); (repeat' split) <;> first | (simp; done) | (refine (still_foldl _ _ _ (fun s x => ?_)).trans ?_ <;> (try dsimp only) <;> (repeat' split) <;> simp)
@[simp] theorem still_contactDeclared (s : State) (v : Nat) : (State.contactDeclared s v).still = s.still := by simp [State.contactDeclared]
@[simp] theorem still_timeInReset (s : State) (e : StartEnv) : (State.timeInReset s e).still = s.still := by simp [State.timeInReset]
@[simp] theorem still_checkBank (s : State) (e : StartEnv) (b : Nat) : (State.checkBank s e b).2.still = s.still := by simp [State.checkBank]
@[simp] theorem still_verifyBanks (s : State) (e : StartEnv) : (State.verifyBanks s e).2.still = s.still := by simp [State.verifyBanks]
@[simp] theorem still_bankChosen (s : State) (b : Nat) : (State.bankChosen s b).still = s.still := by simp [State.bankChosen]
@[simp] theorem still_installCopy (s : State) (c : FramCopy) : (State.installCopy s c).still = s.still := by simp [State.installCopy]
@[simp] theorem still_loadCheckValues (s : State) : (State.loadCheckValues s).still = s.still := by simp [State.loadCheckValues]
@[simp] theorem still_takeChannels (s : State) : (State.takeChannels s).still = s.still := by simp [State.takeChannels]
@[simp] theorem still_takeConfig (s : State) : (State.takeConfig s).still = s.still := by simp [State.takeConfig]
@[simp] theorem still_readFile (s : State) : (State.readFile s).still = s.still := by simp [State.readFile]
@[simp] theorem still_readSlots (s : State) : (State.readSlots s).still = s.still := by unfold State.readSlots; (try dsimp only); (repeat' split) <;> first | (simp; done) | (refine (still_foldl _ _ _ (fun s x => ?_)).trans ?_ <;> (try dsimp only) <;> (repeat' split) <;> simp)
@[simp] theorem still_stopIfArmed (s : State) : (State.stopIfArmed s).still = s.still := by simp [State.stopIfArmed]
@[simp] theorem still_startReadings (s : State) (e : StartEnv) : (State.startReadings s e).still = s.still := by unfold State.startReadings; (try dsimp only); (repeat' split) <;> first | (simp; done) | (refine (still_foldl _ _ _ (fun s x => ?_)).trans ?_ <;> (try dsimp only) <;> (repeat' split) <;> simp)
@[simp] theorem still_startReferences (s : State) (e : StartEnv) : (State.startReferences s e).still = s.still := by simp [State.startReferences]
@[simp] theorem still_startHost (s : State) : (State.startHost s).still = s.still := by simp [State.startHost]
@[simp] theorem still_awaken (s : State) : (State.awaken s).still = s.still := by unfold State.awaken; (try dsimp only); (repeat' split) <;> first | (simp; done) | (refine (still_foldl _ _ _ (fun s x => ?_)).trans ?_ <;> (try dsimp only) <;> (repeat' split) <;> simp)
@[simp] theorem still_enterKindling (s : State) (e : StartEnv) : (State.enterKindling s e).still = s.still := by unfold State.enterKindling; split <;> simp
@[simp] theorem still_hostKept (s : State) (r : Retention) : (State.hostKept s r).still = s.still := by simp [State.hostKept]
@[simp] theorem still_blockRefusal (s : State) (p : Path) (key : Nat) (bs : List Byte) : ∀ t, (State.blockRefusal s p key bs) = some t → t.still = s.still := by unfold State.blockRefusal; (repeat' split) <;> simp
@[simp] theorem still_acceptWrite (s : State) (p : Path) (key : Nat) (v : DVal) : (s.acceptWrite p key v).still = s.still := by
  unfold State.acceptWrite
  cases v with
  | num n => simp
  | blk bs =>
    dsimp only
    split
    · simp
    · cases e : s.blockRefusal p key bs with
      | none => simp
      | some t => simpa using still_blockRefusal s p key bs t e
@[simp] theorem still_requestRefuse (s : State) (p : Path) (key : Nat) (bs : List Byte) (e : Refused) : (State.requestRefuse s p key bs e).still = s.still := by unfold State.requestRefuse; split <;> simp
@[simp] theorem still_writeRequest (s : State) (p : Path) (key : Nat) (bs : List Byte) : (State.writeRequest s p key bs).still = s.still := by simp only [State.writeRequest]; (repeat' split) <;> simp
@[simp] theorem still_readRequest (s : State) (p : Path) (key : Nat) : (State.readRequest s p key).still = s.still := by simp only [State.readRequest]; (repeat' split) <;> simp
@[simp] theorem still_keepRsp (s : State) (src : Nat) (r : DictRsp) : (State.keepRsp s src r).still = s.still := by simp [State.keepRsp]
@[simp] theorem still_atFan (s : State) (f : FanRequest) (g : State → State) (h : ∀ s, (g s).still = s.still) : (s.atFan f g).still = s.still := by
  unfold State.atFan; (repeat' split) <;> simp [h]
@[simp] theorem still_fanAnswered (s : State) (f : FanRequest) : (State.fanAnswered s f).still = s.still := by simp [State.fanAnswered]
@[simp] theorem still_fanFailed (s : State) (f : FanRequest) : (State.fanFailed s f).still = s.still := by simp [State.fanFailed]
@[simp] theorem still_takeRsp (s : State) (src : Nat) (r : DictRsp) : (State.takeRsp s src r).still = s.still := by unfold State.takeRsp; split <;> simp
@[simp] theorem still_sendRsp (s : State) (src dst : Nat) (r : DictRsp) : (State.sendRsp s src dst r).still = s.still := by simp [State.sendRsp]
@[simp] theorem still_sendSegments (s : State) (t : DomTransfer) : (State.sendSegments s t).still = s.still := by simp [State.sendSegments]
@[simp] theorem still_respond (s : State) (src : Nat) (a : Answer) : (State.respond s src a).still = s.still := by unfold State.respond; (repeat' split) <;> simp
@[simp] theorem still_domBegins (s : State) (p : Path) (key : Nat) : (State.domBegins s p key).still = s.still := by unfold State.domBegins; split <;> simp
@[simp] theorem still_openDom (s : State) (v : DictServe) : (State.openDom s v).still = s.still := by simp [State.openDom]
@[simp] theorem still_serveDict (s : State) (v : DictServe) : (State.serveDict s v).still = s.still := by unfold State.serveDict; (repeat' split) <;> simp
@[simp] theorem still_setOpen (s : State) (f : Canopen → Canopen) : (State.setOpen s f).still = s.still := by simp [State.setOpen]
@[simp] theorem still_nmtEnter (s : State) (n : Nat) : (State.nmtEnter s n).still = s.still := by simp [State.nmtEnter]
@[simp] theorem still_commRestore (s : State) : (State.commRestore s).still = s.still := by simp [State.commRestore]
@[simp] theorem still_sdoSend (s : State) (bs : List Byte) : (State.sdoSend s bs).still = s.still := by simp [State.sdoSend]
@[simp] theorem still_setSdo (s : State) (f : Sdo → Sdo) : (State.setSdo s f).still = s.still := by simp [State.setSdo]
@[simp] theorem still_sdoAbort (s : State) (code : Nat) : (State.sdoAbort s code).still = s.still := by simp [State.sdoAbort]
@[simp] theorem still_sdoAnswer (s : State) (a : Answer) : (State.sdoAnswer s a).still = s.still := by unfold State.sdoAnswer; split <;> simp
@[simp] theorem still_sdoReplies (s : State) : (State.sdoReplies s).still = s.still := by simp only [State.sdoReplies]; (repeat' split) <;> simp
@[simp] theorem still_sdoWrite (s : State) (bs : List Byte) : (State.sdoWrite s bs).still = s.still := by simp [State.sdoWrite]
@[simp] theorem still_sdoRead (s : State) : (State.sdoRead s).still = s.still := by simp [State.sdoRead]
@[simp] theorem still_sdoFinish (s : State) (bs : List Byte) : (State.sdoFinish s bs).still = s.still := by simp [State.sdoFinish]
@[simp] theorem still_sdoBlockSegment (s : State) (d : List Byte) : (State.sdoBlockSegment s d).still = s.still := by simp [State.sdoBlockSegment]
@[simp] theorem still_sdoSendBlock (s : State) : (State.sdoSendBlock s).still = s.still := by simp [State.sdoSendBlock]
@[simp] theorem still_pdoWrite (s : State) (key : Nat) (bs : List Byte) : (State.pdoWrite s key bs).still = s.still := by unfold State.pdoWrite; split <;> simp
@[simp] theorem still_setTpdo (s : State) (k : Fin 8) (f : Tpdo → Tpdo) : (State.setTpdo s k f).still = s.still := by simp [State.setTpdo]
@[simp] theorem still_tpdoSend (s : State) (k : Fin 8) : (State.tpdoSend s k).still = s.still := by unfold State.tpdoSend; split <;> simp
@[simp] theorem still_tpdoSync (s : State) (k : Fin 8) (counter : Nat) : (State.tpdoSync s k counter).still = s.still := by simp [State.tpdoSync]
@[simp] theorem still_svcEnter (s : State) (c : Fin 4) (num : Nat) : (State.svcEnter s c num).still = s.still := by simp [State.svcEnter]
@[simp] theorem still_svcLeave (s : State) (c : Fin 4) : (State.svcLeave s c).still = s.still := by simp [State.svcLeave]
@[simp] theorem still_svcResult (s : State) (c : Fin 4) (v : Nat) : (State.svcResult s c v).still = s.still := by simp [State.svcResult]
@[simp] theorem rams_svcTagged (k : Core) : (Core.svcTagged k).rams = k.rams := by simp [Core.svcTagged]
@[simp] theorem still_svcLog (s : State) (c : Fin 4) (k : Core) : (State.svcLog s c k).still = s.still := by simp [State.svcLog]
@[simp] theorem still_layValue (s : State) (w : Staged) : (State.layValue s w).still = s.still := by unfold State.layValue; split <;> simp
@[simp] theorem still_measure (s : State) (l : List (Nat × Int)) : (State.measure s l).still = s.still := by simp [State.measure]
@[simp] theorem still_measureLoops (s : State) (l : List (Fin 8 × Word)) : (State.measureLoops s l).still = s.still := by simp [State.measureLoops]
@[simp] theorem still_wakeLevel (s : State) (high : Bool) : (State.wakeLevel s high).still = s.still := by simp [State.wakeLevel]
@[simp] theorem still_measureCauses (s : State) (l : List (Nat × Bool)) : (State.measureCauses s l).still = s.still := by simp [State.measureCauses]
@[simp] theorem still_coresTick (s : State) : (State.coresTick s).still = s.still := by simp [State.coresTick]
@[simp] theorem still_waitShares (s : State) : (State.waitShares s).still = s.still := by simp [State.waitShares]
@[simp] theorem still_timePasses (s : State) : (State.timePasses s).still = s.still := by simp [State.timePasses]
@[simp] theorem still_kelsisTriggered (s : State) : (State.kelsisTriggered s).still = s.still := by simp [State.kelsisTriggered]
@[simp] theorem still_tachsTick (s : State) : (State.tachsTick s).still = s.still := by simp [State.tachsTick]
@[simp] theorem still_seeTriggers (s : State) : (State.seeTriggers s).still = s.still := by simp [State.seeTriggers]

end Sys2Proof.Machine
end

