-- ==== Sys2Proof/Laws/KeptCores.lean ====
section
/-! SUPPORT. What a function may do to the queue and the memories: nothing to the queue, and canonical memories stay canonical. Here: stores, programs, traps, instructions. -/

set_option linter.all false

namespace Sys2Proof.Machine

open Sys2Proof

/-- The type of `State.still`. -/
abbrev Still := List Instr × List Host.Cell × List Host.Cell × Vector Rams 4

/-- The three memories of a core are in their canonical form. -/
def ramsOk (r : Rams) : Prop :=
  Memory.wf r.1 = true ∧ Memory.wf r.2.1 = true ∧ canonical (Core.slotDefault { Core.reset with record := r.2.2.2 }) r.2.2.1 = true

/-- The memories of a state are in their canonical form. -/
def Still.ok (m : Still) : Prop :=
  Memory.wf m.2.1 = true ∧ Memory.rising m.2.2.1 = true ∧ ∀ i : Fin 4, ramsOk m.2.2.2[i]

/-- From `a` to `m` the queue stands and canonical memories stay canonical. -/
def Kept (a m : Still) : Prop := m.1 = a.1 ∧ (a.ok → m.ok)

@[simp] theorem Kept.refl (a : Still) : Kept a a := ⟨rfl, id⟩
theorem Kept.trans {a b c : Still} (h : Kept a b) (g : Kept b c) : Kept a c := ⟨g.1.trans h.1, fun x => g.2 (h.2 x)⟩
theorem Kept.ite {a x y : Still} {c : Prop} [Decidable c] (h : Kept a x) (g : Kept a y) : Kept a (if c then x else y) := by
  split
  · exact h
  · exact g
theorem Kept.of {a : Still} {s t : State} (h : Kept a s.still) (g : t.still = s.still) : Kept a t.still := by rw [g]; exact h
theorem Kept.foldl {α : Type} {a : Still} (f : State → α → State) (l : List α) (s : State) (h : Kept a s.still)
    (hf : ∀ s x, Kept s.still (f s x).still) : Kept a (l.foldl f s).still := by
  induction l generalizing s with
  | nil => exact h
  | cons x t ih => exact ih _ (h.trans (hf s x))

/-- Where queue and memories stand, every byte is as before. -/
theorem sameMemory_of_still {s t : State} (h : t.still = s.still) : s.SameMemory t := by
  have hr : ∀ c : Fin 4, (t.cores[c]).rams = (s.cores[c]).rams := fun c => by
    have h3 := congrArg (fun x : Still => x.2.2.2[c]) h
    simpa only [State.still, Fin.getElem_fin, Vector.getElem_map] using h3
  refine ⟨fun m a => ?_, congrArg (fun x : Still => x.2.2.1) h⟩
  cases m with
  | itcm c => exact congrArg (fun r : Rams => readKey (fun _ => (0 : Byte)) r.1 a) (hr c)
  | dtcm c => exact congrArg (fun r : Rams => readKey (fun _ => (0 : Byte)) r.2.1 a) (hr c)
  | retention c => exact congrArg (fun r : Rams => readKey (Core.slotDefault { Core.reset with record := r.2.2.2 }) r.2.2.1 a) (hr c)
  | sram => exact congrArg (fun x : Still => readKey (fun _ => (0 : Byte)) x.2.1 a) h

/-- A core update keeps. -/
theorem Kept.setCore {a : Still} (s : State) (c : Fin 4) (f : Core → Core) (h : Kept a s.still)
    (hf : ramsOk (s.cores[c]).rams → ramsOk (f s.cores[c]).rams) : Kept a (s.setCore c f).still := by
  refine h.trans ?_
  rw [still_setCore]
  refine ⟨rfl, fun ⟨x, y, z⟩ => ⟨x, y, fun i => ?_⟩⟩
  have zc := z c
  have zi := z i
  simp only [State.still, Fin.getElem_fin, Vector.getElem_map] at zc zi
  simp only [Fin.getElem_fin, Vector.getElem_set, Vector.getElem_map]
  split
  · exact hf zc
  · exact zi

theorem canonical_storeOver (d : Nat → Byte) (m : List Host.Cell) (a : Nat) (bs : List Byte) (h : canonical d m = true) :
    canonical d (storeOver d m a bs) = true := by
  induction bs generalizing m a with
  | nil => exact h
  | cons b t ih => exact ih _ _ (canonical_writeKey _ _ _ _ h)

theorem wf_storeBytes (m : List Host.Cell) (a : Nat) (bs : List Byte) (h : Memory.wf m = true) : Memory.wf (storeBytes m a bs) = true := by
  induction bs generalizing m a with
  | nil => exact h
  | cons b t ih => exact ih _ _ (canonical_writeKey _ _ _ _ h)

theorem rising_insertKey (m : List Host.Cell) (a : Nat) (b : Byte) (h : Memory.rising m = true) : Memory.rising (insertKey m a b) = true := by
  unfold Memory.rising at *
  rw [decide_eq_true_eq] at *
  exact pairwise_insertKey m a b h
theorem rising_writeKey (d : Nat → Byte) (m : List Host.Cell) (a : Nat) (b : Byte) (h : Memory.rising m = true) : Memory.rising (writeKey d m a b) = true := by
  unfold writeKey; split
  · unfold Memory.rising at *
    rw [decide_eq_true_eq] at *
    exact h.filter _
  · exact rising_insertKey m a b h
theorem rising_foldl (d : Nat → Byte) (bs : List (Byte × Nat)) (m : List Host.Cell) (a : Nat) (h : Memory.rising m = true) :
    Memory.rising (bs.foldl (fun m b => writeKey d m (a + b.2) b.1) m) = true := by
  induction bs generalizing m with
  | nil => exact h
  | cons b t ih => exact ih _ (rising_writeKey _ _ _ _ h)

/-- Raw stores in FRAM dropped where something else is written. -/
@[simp] theorem Kept.framWrote {a : Still} (s : State) (x n : Nat) (h : Kept a s.still) : Kept a (s.framWrote x n).still := by
  refine h.trans ⟨rfl, fun ⟨u, v, w⟩ => ⟨u, ?_, w⟩⟩
  unfold Memory.rising at *
  rw [decide_eq_true_eq] at *
  exact v.filter _

@[simp] theorem Kept.writeHeader {a_ : Still} (s : State) (f : Ash → Ash) (h_ : Kept a_ s.still) : Kept a_ (State.writeHeader s f).still := by
  first
  | (simp [State.writeHeader, h_]; done)
  | (unfold State.writeHeader; (repeat' split) <;> (simp [h_]; done))
  | (unfold State.writeHeader; dsimp only; (repeat' split) <;> (simp [h_]; done))
@[simp] theorem Kept.rewriteNewest {a_ : Still} (s : State) (f : AshRecord → AshRecord) (h_ : Kept a_ s.still) : Kept a_ (State.rewriteNewest s f).still := by
  first
  | (simp [State.rewriteNewest, h_]; done)
  | (unfold State.rewriteNewest; (repeat' split) <;> (simp [h_]; done))
  | (unfold State.rewriteNewest; dsimp only; (repeat' split) <;> (simp [h_]; done))
@[simp] theorem Kept.newRecord {a_ : Still} (s : State) (r : AshRecord) (h_ : Kept a_ s.still) : Kept a_ (State.newRecord s r).still := by
  first
  | (simp [State.newRecord, h_]; done)
  | (unfold State.newRecord; (repeat' split) <;> (simp [h_]; done))
  | (unfold State.newRecord; dsimp only; (repeat' split) <;> (simp [h_]; done))
@[simp] theorem Kept.countFull {a_ : Still} (s : State) (n stamp : Nat) (h_ : Kept a_ s.still) : Kept a_ (State.countFull s n stamp).still := by
  first
  | (simp [State.countFull, h_]; done)
  | (unfold State.countFull; (repeat' split) <;> (simp [h_]; done))
  | (unfold State.countFull; dsimp only; (repeat' split) <;> (simp [h_]; done))
@[simp] theorem Kept.writeFull {a_ : Still} (s : State) (stamp : Nat) (h_ : Kept a_ s.still) : Kept a_ (State.writeFull s stamp).still := by
  first
  | (simp [State.writeFull, h_]; done)
  | (unfold State.writeFull; (repeat' split) <;> (simp [h_]; done))
  | (unfold State.writeFull; dsimp only; (repeat' split) <;> (simp [h_]; done))
@[simp] theorem Kept.recordEvent {a_ : Still} (s : State) (q : AshQueued) (h_ : Kept a_ s.still) : Kept a_ (State.recordEvent s q).still := by
  first
  | (simp [State.recordEvent, h_]; done)
  | (unfold State.recordEvent; (repeat' split) <;> (simp [h_]; done))
  | (unfold State.recordEvent; dsimp only; (repeat' split) <;> (simp [h_]; done))
@[simp] theorem Kept.closeEpisode {a_ : Still} (s : State) (h_ : Kept a_ s.still) : Kept a_ (State.closeEpisode s).still := by
  first
  | (simp [State.closeEpisode, h_]; done)
  | (unfold State.closeEpisode; (repeat' split) <;> (simp [h_]; done))
  | (unfold State.closeEpisode; dsimp only; (repeat' split) <;> (simp [h_]; done))
@[simp] theorem Kept.recordNow {a_ : Still} (s : State) (e : AshEvent) (h_ : Kept a_ s.still) : Kept a_ (State.recordNow s e).still := by
  first
  | (simp [State.recordNow, h_]; done)
  | (unfold State.recordNow; (repeat' split) <;> (simp [h_]; done))
  | (unfold State.recordNow; dsimp only; (repeat' split) <;> (simp [h_]; done))
@[simp] theorem Kept.ashStart {a_ : Still} (s : State) (header : Fin 3) (h_ : Kept a_ s.still) : Kept a_ (State.ashStart s header).still := by
  first
  | (simp [State.ashStart, h_]; done)
  | (unfold State.ashStart; (repeat' split) <;> (simp [h_]; done))
  | (unfold State.ashStart; dsimp only; (repeat' split) <;> (simp [h_]; done))
@[simp] theorem Kept.flushAsh {a : Still} (n : Nat) (s : State) (h : Kept a s.still) : Kept a (State.flushAsh n s).still := by
  induction n generalizing s with
  | zero => exact h
  | succ n ih => unfold State.flushAsh; (repeat' split) <;> first | exact h | (apply ih; simp [h])

theorem wf_nil : Memory.wf ([] : List Host.Cell) = true := rfl
@[simp] theorem Kept.resetKeeping {a : Still} (s : State) (h : Kept a s.still) : Kept a s.resetKeeping.still := by
  refine h.trans ⟨rfl, fun ⟨x, y, z⟩ => ⟨rfl, y, fun i => ?_⟩⟩
  have zi := z i
  simp only [State.still, State.resetKeeping, Fin.getElem_fin, Vector.getElem_map] at zi ⊢
  exact ⟨rfl, rfl, zi.2.2⟩
@[simp] theorem Kept.afterReset {a : Still} (s : State) (h : Kept a s.still) : Kept a s.afterReset.still := by
  unfold State.afterReset; exact Kept.resetKeeping _ (h.of (still_saveInterrupted s))
@[simp] theorem Kept.unitWrote {a : Still} (s : State) (h : Kept a s.still) : Kept a s.unitWrote.still := Kept.framWrote s _ _ h
@[simp] theorem Kept.recordCause {a : Still} (s : State) (n : Nat) (h : Kept a s.still) : Kept a (s.recordCause n).still := by
  unfold State.recordCause
  split
  · rw [still_putN]; exact Kept.unitWrote s h
  · exact h
@[simp] theorem Kept.enterReset {a : Still} (s : State) (n : Nat) (h : Kept a s.still) : Kept a (s.enterReset n).still := by
  unfold State.enterReset; exact Kept.afterReset _ (Kept.recordCause s n h)

theorem Kept.controlStore {a : Still} (s : State) (c : Fin 4) (off w : Nat) (v : Word) (h : Kept a s.still) :
    Kept a (s.controlStore c off w v).still := by
  unfold State.controlStore
  dsimp only
  (repeat' split) <;> first
    | exact h
    | exact h.of (still_timerRun _ _ _ _)
    | exact h.of (still_timerStop _ _ _ _)
    | exact h.of (still_cowlStore _ _ _ _ _ _)
    | exact h.setCore _ _ _ id
    | exact h.setCore _ _ _ fun ⟨x, y, z⟩ => ⟨x, y, canonical_storeOver _ _ _ _ z⟩

@[simp] theorem still_unitStored (s : State) : s.unitStored.still = s.still := by
  have e : ∀ (x : State) (p : Thermal), ({ x with thermal := p } : State).still = x.still := fun _ _ => rfl
  have hr : ∀ (l : List ThermalRecord) (acc : List ThermalRecord × State),
      (l.foldl (fun (acc : List ThermalRecord × State) q => (acc.1 ++ [(acc.2.unitRecord q).1], (acc.2.unitRecord q).2)) acc).2.still = acc.2.still := by
    intro l
    induction l with
    | nil => intro acc; rfl
    | cons q t ih => intro acc; rw [List.foldl_cons, ih]; simp
  unfold State.unitStored
  extract_lets s1 r
  have h1 : s1.still = s.still := still_foldl _ _ _ fun s x => by simp
  rw [e]
  exact (hr _ _).trans h1

@[simp] theorem Kept.memStore {a : Still} (s : State) (c : Fin 4) (ad w : Nat) (v : Word) (h : Kept a s.still) :
    Kept a (s.memStore c ad w v).still := by
  unfold State.memStore
  split
  · exact h.setCore _ _ _ fun ⟨x, y, z⟩ => ⟨wf_storeBytes _ _ _ x, y, z⟩
  · exact h.setCore _ _ _ fun ⟨x, y, z⟩ => ⟨x, wf_storeBytes _ _ _ y, z⟩
  · exact h.trans ⟨rfl, fun ⟨x, y, z⟩ => ⟨wf_storeBytes _ _ _ x, y, z⟩⟩
  · exact h.controlStore _ _ _ _ _
  · dsimp only
    split
    · rw [still_unitStored]; exact h.trans ⟨rfl, fun ⟨x, y, z⟩ => ⟨x, rising_foldl _ _ _ _ y, z⟩⟩
    · exact h.trans ⟨rfl, fun ⟨x, y, z⟩ => ⟨x, rising_foldl _ _ _ _ y, z⟩⟩
  · exact h

theorem wf_iff (m : List Host.Cell) : Memory.wf m = true ↔ m.Pairwise (fun x y => x.1 < y.1) ∧ ∀ e ∈ m, e.2 ≠ 0 := canonical_iff _ m

theorem wf_blank (m : List Host.Cell) (a n : Nat) (h : Memory.wf m = true) : Memory.wf (blank m a n) = true := canonical_filter _ _ _ h

theorem pairwise_bytes (bs : List Byte) (a : Nat) :
    ((bs.zipIdx a).filterMap (fun b => if b.1 = 0 then none else some (b.2, b.1))).Pairwise (fun x y : Host.Cell => x.1 < y.1) := by
  induction bs generalizing a with
  | nil => exact .nil
  | cons b t ih =>
    rw [List.zipIdx_cons, List.filterMap_cons]
    split
    · exact ih _
    · rename_i e he
      split at he
      · cases he
      · cases he
        refine List.pairwise_cons.mpr ⟨fun y hy => ?_, ih _⟩
        obtain ⟨x, hx, hy⟩ := List.mem_filterMap.mp hy
        split at hy
        · cases hy
        · cases hy
          have := List.le_snd_of_mem_zipIdx hx
          show a < x.2
          omega

theorem wf_overwrite (m : List Host.Cell) (a : Nat) (bs : List Byte) (h : Memory.wf m = true) : Memory.wf (overwrite m a bs) = true := by
  rw [wf_iff] at *
  have mid : ∀ y ∈ (bs.zipIdx a).filterMap (fun b => if b.1 = 0 then none else some (b.2, b.1)), (a ≤ y.1 ∧ y.1 < a + bs.length) ∧ y.2 ≠ 0 := by
    intro y hy
    obtain ⟨x, hx, hy⟩ := List.mem_filterMap.mp hy
    split at hy
    · cases hy
    · rename_i hb
      cases hy
      exact ⟨⟨List.le_snd_of_mem_zipIdx hx, List.snd_lt_add_of_mem_zipIdx hx⟩, hb⟩
  constructor
  · refine List.pairwise_append.mpr ⟨List.pairwise_append.mpr ⟨h.1.filter _, pairwise_bytes bs a, fun x hx y hy => ?_⟩, h.1.filter _, fun x hx y hy => ?_⟩
    · have h1 := (List.mem_filter.mp hx).2
      have h2 := (mid y hy).1.1
      simp only [decide_eq_true_eq] at h1
      exact Nat.lt_of_lt_of_le h1 h2
    · have h2 := (List.mem_filter.mp hy).2
      simp only [decide_eq_true_eq] at h2
      rcases List.mem_append.mp hx with hx | hx
      · have h1 := (List.mem_filter.mp hx).2
        simp only [decide_eq_true_eq] at h1
        show x.1 < y.1
        omega
      · have := (mid x hx).1.2
        show x.1 < y.1
        omega
  · intro e he
    rcases List.mem_append.mp he with he | he
    · rcases List.mem_append.mp he with he | he
      · exact h.2 e (List.mem_filter.mp he).1
      · exact (mid e he).2
    · exact h.2 e (List.mem_filter.mp he).1

@[simp] theorem Kept.enterProgram {a : Still} (s : State) (c : Fin 4) (i : ProgramImage) (h : Kept a s.still) : Kept a (s.enterProgram c i).still := by
  unfold State.enterProgram
  rw [still_putN, still_putN, still_putN]
  refine h.setCore _ _ _ fun ⟨x, y, z⟩ => ⟨?_, wf_blank _ _ _ (wf_overwrite _ _ _ y), z⟩
  show Memory.wf (if _ then _ else _) = true
  split
  · exact wf_overwrite _ _ _ x
  · exact x
@[simp] theorem Kept.programStart {a : Still} (s : State) (c : Fin 4) (b : Bool) (h : Kept a s.still) : Kept a (s.programStart c b).still := by
  unfold State.programStart; (repeat' split) <;> simp [h]
@[simp] theorem Kept.programRestart {a : Still} (s : State) (c : Fin 4) (b : Bool) (h : Kept a s.still) : Kept a (s.programRestart c b).still := by
  simp [State.programRestart, h]
@[simp] theorem Kept.programCommand {a : Still} (s : State) (c : Fin 4) (n : Nat) (b : Bool) (h : Kept a s.still) : Kept a (s.programCommand c n b).still := by
  unfold State.programCommand; (repeat' split) <;> simp [h]
@[simp] theorem still_imageWrite (s : State) (p : Path) (c : Fin 4) (raw : List Byte) : (s.imageWrite p c raw).still = s.still := by
  unfold State.imageWrite
  split
  · exact still_imageRefuse _ _ _ _
  · exact (still_answer _ _ _).trans (still_imageStore _ _ _)
@[simp] theorem Kept.programsArm {a : Still} (s : State) (h : Kept a s.still) : Kept a s.programsArm.still :=
  Kept.foldl _ _ _ h fun s c => by split <;> simp
@[simp] theorem Kept.programsAutostart {a : Still} (s : State) (h : Kept a s.still) : Kept a s.programsAutostart.still :=
  Kept.foldl _ _ _ h fun s c => by split <;> simp
@[simp] theorem Kept.trapAction {a : Still} (s : State) (c : Fin 4) (h : Kept a s.still) : Kept a (s.trapAction c).still := by
  unfold State.trapAction; dsimp only; split
  · exact ((h.setCore s c _ id).of (still_holdProgram _ _ _)).programStart _ _ _
  · exact h.of (still_holdProgram _ _ _)
@[simp] theorem Kept.raiseTrap {a : Still} (s : State) (c : Fin 4) (t : Trap) (d : Fin 16) (h : Kept a s.still) : Kept a (s.raiseTrap c t d).still := by
  have h1 : Kept a ((((s.sampleStack c).passCycles c trapCycles).countEvent c 0x02 trapCycles).flushTagged c).still := h.of (by simp)
  unfold State.raiseTrap; dsimp only
  generalize (((s.sampleStack c).passCycles c trapCycles).countEvent c 0x02 trapCycles).flushTagged c = s1 at h1 ⊢
  have h2 : ∀ f evs, (∀ k : Core, (f k).rams = k.rams) → Kept a ((s1.setCore c f).countEvents c evs).still := fun f evs hf => by
    refine Kept.of (h1.setCore _ c f fun x => ?_) (still_countEvents _ _ _)
    rw [hf]; exact x
  specialize h2 _ ([(0x0F, 1)] ++ (if t.code = 9 then [(0x0E, 1)] else []) ++ (if t.code = 10 then [(0x10, 1)] else [])) (fun k => show ({ (k.enterTrap (s.cores[c]).pc (BitVec.ofNat 32 t.code) t.val 0) with
              flight := if k.tagged then k.flight.map (fun r => { r with trapped := true }) else k.flight,
              sampleTag := false, loadDest := none } : Core).rams = k.rams by simp)
  generalize (s1.setCore c _).countEvents c _ = s2 at h2 ⊢
  (repeat' split)
  · exact h2.enterReset _ _
  · rw [still_log, still_putN]; exact h2.setCore s2 c _ id
  · exact Kept.of (h2.setCore s2 c (fun k => { (k.trapReturn).setReg d 0 with pc := (s.cores[c]).pc + 4, epc := (s.cores[c]).pc + 4 }) fun x => by simpa using x) (still_bump _ _ _)
  · exact (h2.of (still_recordTrap _ _)).trapAction _ _


/-- What an instruction's effect must do for its command to keep the memories. -/
def RanKept (a : Still) : Ran → Prop
  | .done e => Kept a e.s.still ∧ (∀ s, (e.early s).still = s.still) ∧ ∀ b s, Kept b s.still → Kept b (e.post s).still
  | .trap s _ _ => Kept a s.still

theorem Kept.retire {a : Still} (e : Effect) (c : Fin 4) (fetch : Cost) (x y z : Bool) (h : Kept a e.s.still)
    (he : ∀ s, (e.early s).still = s.still) (hp : ∀ b s, Kept b s.still → Kept b (e.post s).still) : Kept a (e.retire c fetch x y z).still := by
  unfold Effect.retire; dsimp only
  refine hp _ _ (h.of ?_)
  split <;> simp [he]

theorem Kept.insn {a : Still} (s : State) (c : Fin 4) (w : Word) (u : List (Fin 16)) (d : Fin 16) (f : State → Word → Ran)
    (h : Kept a s.still) (hf : ∀ s pc, RanKept s.still (f s pc)) : Kept a (s.insn c w u d f).still := by
  have h1 : Kept a (s.tagFetch c w).still := h.of (still_tagFetch _ _ _)
  unfold State.insn
  split
  · dsimp only
    split
    · exact h1.raiseTrap _ _ _ _
    · have h2 : Kept a ((s.tagFetch c w).fetchCost (s.cores[c]).pc.toNat).2.still := h1.of (by simp)
      have h3 := hf ((s.tagFetch c w).fetchCost (s.cores[c]).pc.toNat).2 (s.cores[c]).pc
      generalize f ((s.tagFetch c w).fetchCost (s.cores[c]).pc.toNat).2 (s.cores[c]).pc = r at h3 ⊢
      cases r with
      | trap s2 t cost => exact (Kept.of (h2.trans h3) (still_stallTagged _ _ _)).raiseTrap _ _ _ _
      | done x => exact Kept.retire _ _ _ _ _ _ (h2.trans h3.1) h3.2.1 h3.2.2
  · exact h.of (still_stoppedTrap _ _ _)
@[simp] theorem RanKept.trap {a : Still} (s : State) (t : Trap) (n : Cost) : RanKept a (.trap s t n) = Kept a s.still := rfl
@[simp] theorem RanKept.done {a : Still} (e : Effect) :
    RanKept a (.done e) = (Kept a e.s.still ∧ (∀ s, (e.early s).still = s.still) ∧ ∀ b s, Kept b s.still → Kept b (e.post s).still) := rfl
/-- An effect with nothing before or after the counts. -/
theorem RanKept.plain {a : Still} (s : State) (n : Word) (c : Cost) (l : Option (Fin 16)) (o : Option (Fin 8)) (x r : Bool) (h : Kept a s.still) :
    RanKept a (.done { s := s, next := n, cost := c, loaded := l, written := o, leaves := x, retires := r }) := ⟨h, fun _ => rfl, fun _ _ h => h⟩
@[simp] theorem still_setReg (s : State) (c : Fin 4) (d : Fin 16) (f : Core → Word) : (s.setCore c (fun k => k.setReg d (f k))).still = s.still := by
  simp
theorem RanKept.ite {a : Still} (c : Prop) [Decidable c] (x y : Ran) (h : c → RanKept a x) (g : ¬c → RanKept a y) : RanKept a (if c then x else y) := by
  split
  · exact h ‹_›
  · exact g ‹_›

@[simp] theorem Kept.compute {a : Still} (s : State) (c : Fin 4) (w : Word) (u : List (Fin 16)) (d : Fin 16) (n : Nat) (f : Core → Word)
    (h : Kept a s.still) : Kept a (s.compute c w u d n f).still :=
  h.insn _ _ _ _ _ _ fun s pc => .plain _ _ _ _ _ _ _ (by simp)
@[simp] theorem Kept.aluT {a : Still} (s : State) (c : Fin 4) (fn n : Nat) (d x y : Fin 16) (f : Word → Word → Word)
    (h : Kept a s.still) : Kept a (s.aluT c fn n d x y f).still := h.compute _ _ _ _ _ _ _
@[simp] theorem Kept.aluK {a : Still} (s : State) (c : Fin 4) (op : Nat) (d x : Fin 16) (i : BitVec 18) (f : Word → Word)
    (h : Kept a s.still) : Kept a (s.aluK c op d x i f).still := h.compute _ _ _ _ _ _ _
@[simp] theorem Kept.shiftK {a : Still} (s : State) (c : Fin 4) (op : Nat) (d x : Fin 16) (i : BitVec 18) (f : Word → Word → Word)
    (h : Kept a s.still) : Kept a (s.shiftK c op d x i f).still := by
  unfold State.shiftK; dsimp only; split
  · exact h.compute _ _ _ _ _ _ _
  · exact h.insn _ _ _ _ _ _ fun s pc => by rw [RanKept.trap]; exact .refl _
@[simp] theorem Kept.branch {a : Still} (s : State) (c : Fin 4) (op : Nat) (x y : Fin 16) (i : BitVec 18) (f : Word → Word → Bool)
    (h : Kept a s.still) : Kept a (s.branch c op x y i f).still :=
  h.insn _ _ _ _ _ _ fun s pc => by dsimp only; split <;> exact .plain _ _ _ _ _ _ _ (.refl _)
@[simp] theorem Kept.store {a : Still} (s : State) (c : Fin 4) (op w : Nat) (d x : Fin 16) (i : BitVec 18)
    (h : Kept a s.still) : Kept a (s.store c op w d x i).still :=
  h.insn _ _ _ _ _ _ fun s pc => by
    have h0 : Kept s.still (s.storeCost c (s.addrOf c x i)).2.still := by simp
    dsimp only
    split
    · rw [RanKept.trap]; exact .refl _
    · split
      · have e := still_windowStore (s.storeCost c (s.addrOf c x i)).2 c (s.addrOf c x i) ((s.cores[c]).reg d)
        split <;> (rename_i e2; simp only [Fin.getElem_fin] at e e2; rw [e2] at e)
        · rw [RanKept.trap]; exact h0.of e
        · exact .plain _ _ _ _ _ _ _ (h0.of e)
      · split
        · exact ⟨h0, fun _ => rfl, fun b t ht => Kept.memStore _ _ _ _ _ ht⟩
        · exact .plain _ _ _ _ _ _ _ (Kept.memStore _ _ _ _ _ h0)
@[simp] theorem Kept.load {a : Still} (s : State) (c : Fin 4) (op w : Nat) (d x : Fin 16) (i : BitVec 18) (ecc : Fin 3) (f : Word → Word)
    (h : Kept a s.still) : Kept a (s.load c op w d x i ecc f).still :=
  h.insn _ _ _ _ _ _ fun s pc => by
    have h0 : Kept s.still (s.loadCost (s.addrOf c x i)).2.still := by simp
    dsimp only
    split
    · rw [RanKept.trap]; exact .refl _
    · split
      · rw [RanKept.trap]; exact h0
      · split
        · have e := still_windowLoad (s.loadCost (s.addrOf c x i)).2 c (s.addrOf c x i)
          split <;> (rename_i e2; rw [e2] at e)
          · rw [RanKept.trap]; exact h0.of e
          · exact .plain _ _ _ _ _ _ _ ((h0.of e).of (by simp))
        · exact .plain _ _ _ _ _ _ _ (h0.of (by simp))

end Sys2Proof.Machine
end

