-- ==== Sys2Proof/Laws/KeptCommit.lean ====
section
/-! SUPPORT. Queue and memories, kept by commands, starts, commits and the tick start. -/

set_option linter.all false

namespace Sys2Proof.Machine

open Sys2Proof

theorem Kept.siteS {a : Still} (c : Prop) [Decidable c] (x y : State) (h : Kept a x.still) (g : Kept a y.still) : Kept a (if c then x else y).still := by
  split
  · exact h
  · exact g
theorem Kept.noDict {a : Still} (s : State) (d : Dict) (h : Kept a s.still) : Kept a ({ s with dict := d } : State).still := h
theorem Kept.noThermal {a : Still} (s : State) (t : Thermal) (h : Kept a s.still) : Kept a ({ s with thermal := t } : State).still := h
@[simp] theorem Kept.copiesWritten {a : Still} (s : State) (h : Kept a s.still) : Kept a s.copiesWritten.still := Kept.framWrote _ _ _ h
@[simp] theorem Kept.writeCopies {a : Still} (s : State) (c : FramCopy) (h : Kept a s.still) : Kept a (s.writeCopies c).still := by
  unfold State.writeCopies; dsimp only
  exact Kept.of (Kept.noDict _ _ (Kept.copiesWritten _ h)) (still_putN _ _ _)
@[simp] theorem Kept.saveMode {a : Still} (s : State) (m : Nat) (h : Kept a s.still) : Kept a (s.saveMode m).still := by
  unfold State.saveMode; exact Kept.noDict _ _ (Kept.copiesWritten _ h)
@[simp] theorem Kept.saveDone {a : Still} (s : State) (r : Bool) (h : Kept a s.still) : Kept a (s.saveDone r).still := by
  unfold State.saveDone; split
  · exact h
  · split
    · exact Kept.of (Kept.noDict _ _ (Kept.writeCopies _ _ h)) ((still_answer _ _ _).trans (still_log _ _ _ _ _ _))
    · exact h
@[simp] theorem Kept.configImage {a : Still} (s : State) (bs : List Byte) (h : Kept a s.still) : Kept a (s.configImage bs).still := by
  unfold State.configImage; exact Kept.writeCopies _ _ h
theorem Kept.served {a : Still} (s : State) (f : State → State) (h : Kept a s.still) (hf : ∀ s, Kept s.still (f s).still) : Kept a (s.served f).still := by
  unfold State.served; split
  · exact h.trans (hf _)
  · exact h
theorem Kept.writeNow {a : Still} (s : State) (p : Path) (key : Nat) (bs : List Byte) (f : State → DVal → State) (h : Kept a s.still)
    (hf : ∀ s v, Kept s.still (f s v).still) : Kept a (s.writeNow p key bs f).still :=
  h.served _ _ fun s => by
    dsimp only; split
    · simp
    · exact Kept.trans (Kept.of (.refl _) (still_touch s p)) (hf _ _)
theorem Kept.commanded {a : Still} (s : State) (p : Path) (key v : Nat) (f : State → State) (h : Kept a s.still)
    (hf : ∀ s, Kept s.still (f s).still) : Kept a (s.commanded p key v f).still :=
  h.served _ _ fun s => by
    split
    · simp
    · exact Kept.trans (Kept.of (.refl _) (by simp)) (hf _)
theorem stillIte {a : Still} {c : Prop} [Decidable c] {x y : State} (h : x.still = a) (g : y.still = a) : (if c then x else y).still = a := by
  split
  · exact h
  · exact g
theorem rams_map_eq (v : Vector Core 4) (f : Core → Core) (h : ∀ k, (f k).rams = k.rams) : Vector.map Core.rams (Vector.map f v) = Vector.map Core.rams v := by
  rw [Vector.map_map]; congr 1; funext k; exact h k
@[simp] theorem still_raiseThermal (s : State) (i n : Nat) : (s.raiseThermal i n).still = s.still := by
  induction n generalizing s with
  | zero => rfl
  | succ n ih => unfold State.raiseThermal; rw [ih]; simp
@[simp] theorem Kept.thermalShutdown {a : Still} (s : State) (w : Nat) (r : Word) (h : Kept a s.still) : Kept a (s.thermalShutdown w r).still := by
  unfold State.thermalShutdown
  split
  · exact h
  · extract_lets entry s1 y z s2 s3 u s4 s5
    have h1 : Kept a s1.still := h.of (by simp [s1])
    have h2 : Kept a s2.still := Kept.noThermal s1.unitWrote _ (Kept.unitWrote s1 h1)
    have h3 : Kept a s3.still := h2.of (by simp [s3])
    have h4 : Kept a s4.still := Kept.noThermal s3 _ h3
    have h5 : Kept a s5.still := h4.of (still_log _ _ _ _ _ _)
    rw [still_serveOutputs, still_serveDrives]
    exact Kept.siteS _ _ _ h5 (h5.of (still_enterFault _ _))
@[simp] theorem Kept.breakSensor {a : Still} (s : State) (i : Fin 6) (n : Nat) (r : Word) (h : Kept a s.still) : Kept a (s.breakSensor i n r).still := by
  unfold State.breakSensor
  extract_lets s1 broken s2
  have h1 : Kept a s1.still := h.of (by simp [s1])
  have h2 : Kept a s2.still := h1.of (by simp [s2])
  (repeat' split)
  · exact Kept.thermalShutdown _ _ _ h2
  · exact h2
  · exact h1.of (still_disableBank _ _)
@[simp] theorem Kept.judgeReading {a : Still} (s : State) (i : Fin 6) (r : Word) (h : Kept a s.still) : Kept a (s.judgeReading i r).still := by
  unfold State.judgeReading
  extract_lets s1 s2 s3 g s4
  have h3 : Kept a s3.still := h.of (by simp only [s3, s2, s1]; (repeat' split) <;> simp)
  (repeat' split) <;> simp [h3, s4]
@[simp] theorem Kept.judgeSensor {a : Still} (s : State) (i : Fin 6) (r : ThermalReading) (h : Kept a s.still) : Kept a (s.judgeSensor i r).still := by
  unfold State.judgeSensor; dsimp only; (repeat' split) <;> simp [h]
@[simp] theorem Kept.thermalRestartNow {a : Still} (s : State) (h : Kept a s.still) : Kept a s.thermalRestartNow.still := Kept.enterReset _ _ h
@[simp] theorem Kept.coldHoldEnd {a : Still} (s : State) (h : Kept a s.still) : Kept a s.coldHoldEnd.still := by
  unfold State.coldHoldEnd
  extract_lets x0 x1 s1 x2
  have h1 : Kept a s1.still := Kept.noThermal x0 _ (h.of (still_putBit _ _ _ _))
  split
  · exact Kept.thermalRestartNow _ (Kept.noThermal s1 _ h1)
  · split
    · exact h1
    · exact h1.of (by simp)
@[simp] theorem Kept.thermalRestartCommand {a : Still} (s : State) (h : Kept a s.still) : Kept a s.thermalRestartCommand.still := by
  unfold State.thermalRestartCommand; split
  · exact h.thermalRestartNow
  · exact Kept.enterReset _ _ h

@[simp] theorem still_routerCountersClear (s : State) : s.routerCountersClear.still = s.still := by
  unfold State.routerCountersClear
  have := still_zero s [Key.routerRaisesDelivered, Key.routerBellowsTriggers, Key.routerKelsisTriggers]
  generalize s.zero _ = s1 at this ⊢
  rw [← this]
  simp only [State.still]
  exact congrArg (fun x => (s1.pending, s1.sram, s1.fram, x)) (rams_map_eq s1.cores (fun k => { k with merged := 0 }) (fun k => rfl))
@[simp] theorem Kept.enterArmed {a_ : Still} (s : State) (h_ : Kept a_ s.still) : Kept a_ (State.enterArmed s).still := by
  first
  | (simp [State.enterArmed, h_]; done)
  | (unfold State.enterArmed; (repeat' split) <;> (simp [h_]; done))
  | (unfold State.enterArmed; dsimp only; (repeat' split) <;> (simp [h_]; done))
@[simp] theorem still_taken (s : State) (key : Nat) : (s.taken key).still = s.still := by
  unfold State.taken
  extract_lets
  repeat' with_reducible refine stillIte ?_ ?_
  all_goals try extract_lets
  all_goals repeat' with_reducible refine stillIte ?_ ?_
  all_goals first
    | with_reducible exact still_channelConfigured _ _
    | with_reducible exact still_rangeSelected _ _
    | with_reducible exact still_blankSelected _ _
    | with_reducible exact still_blankJudge _ _ _
    | with_reducible exact still_loopConfigured _ _
    | with_reducible exact still_learnerConfigured _ _
    | with_reducible exact still_actEnabled _ _
    | with_reducible exact still_columnConfigured _ _
    | with_reducible exact still_grainWritten _ _
    | with_reducible exact still_predictorConfigured _ _
    | with_reducible exact still_servePolicies _
    | with_reducible exact still_hostPathsChanged _
    | with_reducible exact still_portConfigured _ _
    | with_reducible exact still_grandmasterCheck _
    | with_reducible exact still_mapConfigured _
    | rfl
    | with_reducible exact still_setCan _ _ _
    | (split <;> first | with_reducible exact still_canRestart _ _ | rfl)
@[simp] theorem still_overlayTaken (s : State) (key : Nat) : (s.overlayTaken key).still = s.still := by
  unfold State.overlayTaken
  dsimp only
  repeat' with_reducible refine stillIte ?_ ?_
  all_goals first
    | with_reducible exact (still_loopOverlay _ _).trans (still_taken _ _)
    | with_reducible exact still_taken _ _
theorem Kept.foldOverlay {a : Still} (l : List Nat) (s : State) (h : Kept a s.still) : Kept a (l.foldl (fun s k => s.overlayTaken k) s).still :=
  Kept.foldl _ _ _ h fun s k => by simp
@[simp] theorem Kept.modeSwap {a : Still} (s : State) (q : PendingSwitch) (h : Kept a s.still) : Kept a (s.modeSwap q).still := by
  unfold State.modeSwap
  extract_lets old changed view s1 x s2 s3
  have h1 : Kept a s1.still := h.of (by simp [s1])
  have h2 : Kept a s2.still := by
    simp only [s2, still_putN]
    exact Kept.saveMode _ _ (Kept.noDict _ _ h1)
  have h3 : Kept a s3.still := by
    refine Kept.foldOverlay _ _ ?_
    rw [still_log, still_bump]; exact h2
  split
  · exact h3.of (still_serveAllOutputs _)
  · exact h3
theorem Kept.noPower {a : Still} (s : State) (c : Power) (h : Kept a s.still) : Kept a ({ s with power := c } : State).still := h
theorem Kept.emptySlot {a : Still} (s : State) (r : Option Retention) (h : Kept a s.still) :
    Kept a (s.setCore 0 (fun k => { k with retention := [], record := r })).still :=
  Kept.setCore _ _ _ h fun ⟨x, y, _⟩ => ⟨x, y, rfl⟩
@[simp] theorem Kept.sleepEmber {a : Still} (s : State) (h : Kept a s.still) : Kept a s.sleepEmber.still := by
  have h1 : Kept a (if s.power.emberLogged then s else s.log 0x0103 noSource).still := Kept.siteS _ _ _ h (h.of (still_log _ _ _ _ _ _))
  have h2 := Kept.of (Kept.flushAsh 64 _ h1) ((still_powerDown _).trans ((still_bump 32 _ Key.powerEMBEREntries).trans (still_saveOpTime _)))
  unfold State.sleepEmber
  dsimp only
  exact Kept.noPower (State.setCore _ 0 _) _ (Kept.emptySlot _ _ h2)
theorem Kept.dropRetention {a : Still} (s : State) (h : Kept a s.still) :
    Kept a ({ s with cores := s.cores.map (fun (k : Core) => { k with retention := [], record := none }) } : State).still := by
  refine h.trans ⟨rfl, fun ⟨x, y, z⟩ => ⟨x, y, fun i => ?_⟩⟩
  have zi := z i
  simp only [State.still, Fin.getElem_fin, Vector.getElem_map] at zi ⊢
  exact ⟨zi.1, zi.2.1, rfl⟩
theorem Kept.noClock {a : Still} (s : State) (c : Clock) (h : Kept a s.still) : Kept a ({ s with clock := c } : State).still := h
theorem Kept.noStartup {a : Still} (s : State) (c : Startup) (h : Kept a s.still) : Kept a ({ s with startup := c } : State).still := h
theorem Kept.noFront {a : Still} (s : State) (c : FrontEnd) (h : Kept a s.still) : Kept a ({ s with front := c } : State).still := h
@[simp] theorem Kept.startTime {a : Still} (s : State) (e : StartEnv) (h : Kept a s.still) : Kept a (s.startTime e).still := by
  unfold State.startTime; split
  · extract_lets x s1
    have h1 : Kept a s1.still := Kept.noClock ({ s with cores := s.cores.map (fun (k : Core) => { k with retention := [], record := none }) }) _ (Kept.dropRetention _ h)
    exact h1.of (by simp)
  · exact h.of (still_timeInReset _ _)
@[simp] theorem Kept.shiftCauses {a : Still} (s : State) (h : Kept a s.still) : Kept a s.shiftCauses.still := by
  unfold State.shiftCauses
  split
  · simp [h]
  · exact h
@[simp] theorem Kept.startCounts {a : Still} (s : State) (e : StartEnv) (k : Nat) (h : Kept a s.still) : Kept a (s.startCounts e k).still := by
  unfold State.startCounts
  extract_lets unconfirmed s1 s2 x3 s3 s4 s5 x6 s6 x7 s7
  have h1 : Kept a s1.still := Kept.unitWrote _ (Kept.shiftCauses _ (Kept.startTime _ _ h))
  have h2 : Kept a s2.still := h1.of (by simp [s2])
  have h4 : Kept a s4.still := Kept.ashStart _ _ (Kept.noStartup _ _ h2)
  have h5 : Kept a s5.still := by simp only [s5]; split <;> simp [h4]
  have h6 : Kept a s6.still := by
    simp only [s6]; split
    · rw [still_log]; exact Kept.noPower _ _ h5
    · exact h5
  have h7 : Kept a s7.still := by
    simp only [s7]; split
    · rw [still_log]; exact Kept.noPower _ _ h6
    · exact h6
  rw [still_cellCheck]; split <;> simp [h7]
@[simp] theorem Kept.bothCopies {a : Still} (s : State) (c : FramCopy) (h : Kept a s.still) : Kept a (s.bothCopies c).still :=
  Kept.noDict _ _ (Kept.copiesWritten _ h)
@[simp] theorem Kept.chooseCopy {a : Still} (s : State) (e : StartEnv) (h : Kept a s.still) : Kept a (s.chooseCopy e).2.still := by
  unfold State.chooseCopy; dsimp only; (repeat' split) <;> first | exact h | simp [h]
@[simp] theorem Kept.installMode {a : Still} (s : State) (m : Nat) (h : Kept a s.still) : Kept a (s.installMode m).still := by
  unfold State.installMode; (repeat' split) <;> simp [h]
@[simp] theorem Kept.restoreMode {a_ : Still} (s : State) (m : Nat) (h_ : Kept a_ s.still) : Kept a_ (State.restoreMode s m).still := by
  first
  | (simp [State.restoreMode, h_]; done)
  | (unfold State.restoreMode; (repeat' split) <;> (simp [h_]; done))
  | (unfold State.restoreMode; dsimp only; (repeat' split) <;> (simp [h_]; done))
@[simp] theorem Kept.restoreProcess {a : Still} (s : State) (q : Nat) (h : Kept a s.still) : Kept a (s.restoreProcess q).still := by
  unfold State.restoreProcess; (repeat' split) <;> simp [h]
@[simp] theorem Kept.restoreRecord {a : Still} (s : State) (r : Retention) (b : Bool) (h : Kept a s.still) : Kept a (s.restoreRecord r b).still := by
  unfold State.restoreRecord; split <;> simp [h]
theorem Kept.noObj {a : Still} (s : State) (o : List (Nat × Int)) (h : Kept a s.still) : Kept a ({ s with obj := o } : State).still := h
@[simp] theorem Kept.bankRollback {a : Still} (s : State) (h : Kept a s.still) : Kept a s.bankRollback.still := by
  unfold State.bankRollback
  extract_lets b f s1 s2
  split
  · exact h
  · rw [still_log, still_putN]
    refine Kept.noDict _ _ ?_
    simp only [s1, still_assign]
    exact Kept.copiesWritten _ h
@[simp] theorem Kept.confirmStart {a : Still} (s : State) (h : Kept a s.still) : Kept a s.confirmStart.still := by
  unfold State.confirmStart
  split
  · exact h
  · extract_lets warm x y s1 s2 s3
    have h2 : Kept a s2.still := by simp only [s2, s1, still_putN]; exact Kept.noStartup s.unitWrote _ (Kept.unitWrote _ h)
    have h3 : Kept a s3.still := by simp only [s3]; refine Kept.bankRollback _ ?_; split <;> simp [h2]
    split
    · exact h3
    · exact Kept.restoreRecord _ _ _ (Kept.noStartup _ _ h3)
@[simp] theorem Kept.startThermal {a : Still} (s : State) (e : StartEnv) (h : Kept a s.still) : Kept a (s.startThermal e).still :=
  Kept.foldl _ _ _ h fun s i => by simp
@[simp] theorem Kept.services {a : Still} (s : State) (e : StartEnv) (h : Kept a s.still) : Kept a (s.services e).still := by
  unfold State.services; exact Kept.startThermal _ _ (h.of (by simp))
@[simp] theorem Kept.stoppedReached {a : Still} (s : State) (h : Kept a s.still) : Kept a s.stoppedReached.still := by
  unfold State.stoppedReached
  split
  · exact h
  · extract_lets x y s1 s2
    have h2 : Kept a s2.still := Kept.programsAutostart _ (Kept.of (t := s1.serveCores) (s := s1) (Kept.noFront { s with startup := { s.startup with stoppedOnce := true } } _ h) (still_serveCores _))
    split
    · exact Kept.confirmStart _ h2
    · exact h2
@[simp] theorem Kept.firstStopped {a : Still} (s : State) (h : Kept a s.still) : Kept a s.firstStopped.still := by
  unfold State.firstStopped
  split
  · exact h
  · exact Kept.stoppedReached _ (h.of (still_putN _ _ _))
@[simp] theorem Kept.processCommand {a : Still} (s : State) (v : Nat) (h : Kept a s.still) : Kept a (s.processCommand v).still := by
  unfold State.processCommand
  split
  · simp [h]
  · simp [h]
  · simp [h]
  · simp [h]
  · extract_lets s1
    have h1 : Kept a s1.still := h.of (by simp [s1])
    exact Kept.stoppedReached _ (Kept.of (t := State.emcyReset _) (Kept.noStartup _ _ h1) (still_emcyReset _))
  · exact h
@[simp] theorem Kept.processRow {a : Still} (s : State) (p : Path) (v : Nat) (h : Kept a s.still) : Kept a (s.processRow p v).still :=
  h.commanded _ _ _ _ _ fun s => by simp
@[simp] theorem Kept.loadAndServe {a : Still} (s : State) (e : StartEnv) (h : Kept a s.still) : Kept a (s.loadAndServe e).still := by
  unfold State.loadAndServe
  extract_lets s0 r
  have hr : Kept a r.2.still := Kept.chooseCopy _ _ (h.of (still_startReferences _ _))
  split
  · exact Kept.services _ _ (hr.of (by simp))
  · refine Kept.firstStopped _ (Kept.services _ _ ?_)
    rw [still_awaken, still_readSlots, still_readFile, still_takeConfig]
    refine Kept.installMode _ _ ?_
    exact hr.of (by simp)
@[simp] theorem Kept.testAndGo {a : Still} (s : State) (e : StartEnv) (h : Kept a s.still) : Kept a (s.testAndGo e).still := by
  unfold State.testAndGo
  extract_lets s1 s2 x2 s3 x3 x4
  have h1 : Kept a s1.still := h.of (still_startReadings _ _)
  split
  · exact Kept.noStartup _ _ (Kept.recordCause _ _ h1)
  · split
    · exact Kept.noStartup _ _ (Kept.recordCause _ _ h1)
    · exact Kept.loadAndServe _ _ (Kept.noThermal _ _ h1)
@[simp] theorem Kept.verifyAndGo {a : Still} (s : State) (e : StartEnv) (h : Kept a s.still) : Kept a (s.verifyAndGo e).still := by
  unfold State.verifyAndGo
  extract_lets r
  have hr : Kept a r.2.still := h.of (still_verifyBanks _ _)
  split
  · rw [still_enterKindling]; exact Kept.recordCause _ _ (hr.of (still_log _ _ _ _ _ _))
  · exact Kept.testAndGo _ _ (hr.of (still_bankChosen _ _))
theorem Kept.noStart {a : Still} (s : State) (p : Power) (u : Startup) (t : Thermal) (h : Kept a s.still) :
    Kept a ({ s with power := p, startup := u, thermal := t } : State).still := h
@[simp] theorem Kept.coldStart {a : Still} (s : State) (e : StartEnv) (h : Kept a s.still) : Kept a (s.coldStart e).still := by
  unfold State.coldStart
  extract_lets kind restore s1 x y z s2
  have h1 : Kept a s1.still := Kept.startCounts _ _ _ (Kept.afterReset _ h)
  have h2 : Kept a s2.still := Kept.noStart _ _ _ _ h1
  split
  · exact h2.of (still_enterKindling _ _)
  · exact Kept.verifyAndGo _ _ h2
@[simp] theorem Kept.warmBoot {a : Still} (s : State) (e : StartEnv) (r : Retention) (h : Kept a s.still) : Kept a (s.warmBoot e r).still := by
  unfold State.warmBoot
  extract_lets s0 x s1 y z s2
  have h0 : Kept a s0.still := Kept.afterReset _ h
  have h1 : Kept a s1.still := by
    refine Kept.startCounts _ _ _ ?_
    rw [still_put]; exact Kept.noPower s0 _ h0
  have h2 : Kept a s2.still := Kept.of (Kept.noStart _ _ _ s1.thermal h1) (still_hostKept _ _)
  split
  · exact h2.of (still_enterKindling _ _)
  · exact Kept.testAndGo _ _ (h2.of (still_bankChosen _ _))
@[simp] theorem Kept.emberStart {a : Still} (s : State) (e : StartEnv) (h : Kept a s.still) : Kept a (s.emberStart e).still := by
  unfold State.emberStart; (repeat' split) <;> simp [h]
@[simp] theorem Kept.kindlingLeave {a : Still} (s : State) (n : Nat) (t : Bool) (h : Kept a s.still) : Kept a (s.kindlingLeave n t).still := by
  unfold State.kindlingLeave; exact Kept.enterReset _ _ (Kept.noStartup _ _ (Kept.of (Kept.unitWrote _ h) (still_putN _ _ _)))
@[simp] theorem Kept.kindlingCommand {a_ : Still} (s : State) (v : Nat) (h_ : Kept a_ s.still) : Kept a_ (State.kindlingCommand s v).still := by
  first
  | (simp [State.kindlingCommand, h_]; done)
  | (unfold State.kindlingCommand; (repeat' split) <;> (simp [h_]; done))
  | (unfold State.kindlingCommand; dsimp only; (repeat' split) <;> (simp [h_]; done))
@[simp] theorem still_flushFlue (n : Nat) (s : State) : (State.flushFlue n s).still = s.still := by
  induction n generalizing s with
  | zero => rfl
  | succ n ih =>
    unfold State.flushFlue
    dsimp only
    split
    · rfl
    · rw [ih]
      split <;> simp
@[simp] theorem still_flueReplies (s : State) : s.flueReplies.still = s.still := still_flushFlue _ _
@[simp] theorem still_takeReq (s : State) (v : DictServe) : (s.takeReq v).still = s.still := by
  unfold State.takeReq; (repeat' split) <;> simp
@[simp] theorem still_takeSegment (s : State) (t : DomTransfer) (d : DomSeg) : (s.takeSegment t d).still = s.still := by
  unfold State.takeSegment; dsimp only; (repeat' split) <;> simp
@[simp] theorem still_fanSend (s : State) (e seat dst target v : Nat) : (s.fanSend e seat dst target v).still = s.still := by
  simp [State.fanSend]
@[simp] theorem still_fanOut (s : State) (e v : Nat) : (s.fanOut e v).still = s.still := by
  unfold State.fanOut; dsimp only; split
  · simp
  · rw [still_foldl]
    · simp
    · intro s x; split <;> simp
@[simp] theorem still_sendReplies (s : State) : s.sendReplies.still = s.still := by simp [State.sendReplies]
@[simp] theorem still_sdoBegin (s : State) (d : List Byte) (f : State → State) (h : ∀ s, (f s).still = s.still) : (s.sdoBegin d f).still = s.still := by
  unfold State.sdoBegin; split
  · rfl
  · rw [h]; simp
theorem still_pdoFold (l : List (Nat × Nat)) (r : State × List Byte) :
    (l.foldl (fun (r : State × List Byte) m => (r.1.pdoWrite m.1 (r.2.take m.2), r.2.drop m.2)) r).1.still = r.1.still := by
  induction l generalizing r with
  | nil => rfl
  | cons x t ih => rw [List.foldl_cons, ih]; simp
@[simp] theorem still_rpdoApply (s : State) (k : Fin 8) (d : List Byte) : (s.rpdoApply k d).still = s.still := by
  unfold State.rpdoApply; rw [still_pdoFold]; simp
theorem Kept.svc {a : Still} (s : State) (c : Fin 4) (n : Nat) (k : State → Core → Option Trap) (f : State → Core → State) (h : Kept a s.still)
    (hf : ∀ s q, Kept s.still (f s q).still) : Kept a (s.svc c n k f).still :=
  h.insn _ _ _ _ _ _ fun s pc => by
    dsimp only; split
    · rw [RanKept.trap]; exact .refl _
    · split
      · rw [RanKept.trap]; exact .refl _
      · exact ⟨Kept.trans (Kept.of (.refl _) (still_svcEnter s c n)) (hf _ _), fun t => rfl,
          fun b t ht => Kept.setCore _ _ _ (ht.of (by simp)) fun x => by rw [rams_svcTagged]; exact x⟩
@[simp] theorem Kept.svcDomRead {a : Still} (s : State) (c : Fin 4) (k : Core) (h : Kept a s.still) : Kept a (s.svcDomRead c k).still := by
  unfold State.svcDomRead; dsimp only; split
  · simp [h]
  · split
    · simp [h]
    · rw [still_svcResult]
      exact Kept.foldl _ _ _ (h.of (by simp)) fun s b => by simp
theorem still_bufferFold (c : Fin 4) (a : Nat) (l : List Nat) (r : List Byte × State) :
    (l.foldl (fun (r : List Byte × State) i =>
    let x := r.2.memLoad c ((a + i) % 2 ^ 32) 1
    (r.1 ++ [BitVec.ofNat 8 x.1.toNat], x.2)) r).2.still = r.2.still := by
  induction l generalizing r with
  | nil => rfl
  | cons x t ih => rw [List.foldl_cons, ih]; simp
@[simp] theorem still_bufferBytes (s : State) (c : Fin 4) (a n : Nat) : (s.bufferBytes c a n).2.still = s.still := still_bufferFold _ _ _ _
@[simp] theorem Kept.svcDomWrite {a : Still} (s : State) (c : Fin 4) (k : Core) (h : Kept a s.still) : Kept a (s.svcDomWrite c k).still := by
  have hd : ∀ (x : State) (d : Dict), ({ x with dict := d } : State).still = x.still := fun _ _ => rfl
  refine h.of ?_
  unfold State.svcDomWrite
  extract_lets p key b s1 s2
  have h1 : s1.still = s.still := by simp [s1, b]
  split
  · simp [h1]
  · simp [h1]
  · rename_i v _ _
    have h2 : (({ s1 with dict := { s1.dict with answers := s1.dict.answers.set! p.writer.code .none } } : State).acceptWrite p key v).still = s.still := by
      rw [still_acceptWrite, hd, h1]
    dsimp only
    split <;> exact (still_svcResult _ _ _).trans h2
theorem OptKept.ite {a : Still} {c : Prop} [Decidable c] {x y : Option State} (h : ∀ t, x = some t → Kept a t.still) (g : ∀ t, y = some t → Kept a t.still) :
    ∀ t, (if c then x else y) = some t → Kept a t.still := by
  split
  · exact h
  · exact g
theorem OptKept.some {a : Still} {x : State} (h : Kept a x.still) : ∀ t, Option.some x = .some t → Kept a t.still := by
  rintro t ⟨⟩; exact h
theorem OptKept.none {a : Still} : ∀ t, (.none : Option State) = .some t → Kept a t.still := by rintro t ⟨⟩
theorem Kept.moduleCommand {a : Still} (s : State) (p : Path) (key v : Nat) (h : Kept a s.still) : ∀ t, s.moduleCommand p key v = some t → Kept a t.still := by
  unfold State.moduleCommand
  repeat' with_reducible refine OptKept.ite ?_ ?_
  all_goals repeat' with_reducible refine OptKept.ite ?_ ?_
  all_goals first
    | with_reducible exact OptKept.none
    | (refine OptKept.some ?_; simp [h]; done)
    | (refine OptKept.some ?_; (repeat' split) <;> simp [h])
theorem Kept.frontCommand {a : Still} (s : State) (p : Path) (key v : Nat) (h : Kept a s.still) : ∀ t, s.frontCommand p key v = some t → Kept a t.still := by
  unfold State.frontCommand
  extract_lets
  repeat' with_reducible refine OptKept.ite ?_ ?_
  all_goals try extract_lets
  all_goals repeat' with_reducible refine OptKept.ite ?_ ?_
  all_goals first
    | with_reducible exact OptKept.none
    | (refine OptKept.some ?_; simp [h]; done)
    | (refine OptKept.some ?_; (repeat' split) <;> simp [h])
theorem Kept.outputCommand {a : Still} (s : State) (key v : Nat) (h : Kept a s.still) : ∀ t, s.outputCommand key v = some t → Kept a t.still := by
  unfold State.outputCommand
  extract_lets
  repeat' with_reducible refine OptKept.ite ?_ ?_
  all_goals try extract_lets
  all_goals repeat' with_reducible refine OptKept.ite ?_ ?_
  all_goals first
    | with_reducible exact OptKept.none
    | (refine OptKept.some (h.of ?_); with_reducible first | rfl | apply still_actCommand | apply still_actFaultReset | apply still_actStatsClear | apply still_hsFaultReset | apply still_hsStatsClear | apply still_driveFaultReset | apply still_driveStatsClear | apply still_outputStatsClear | apply still_countReset)
theorem Kept.kelsisCommand {a : Still} (s : State) (p : Path) (key v : Nat) (h : Kept a s.still) : ∀ t, s.kelsisCommand p key v = some t → Kept a t.still := by
  unfold State.kelsisCommand
  extract_lets
  repeat' with_reducible refine OptKept.ite ?_ ?_
  all_goals try extract_lets
  all_goals repeat' with_reducible refine OptKept.ite ?_ ?_
  all_goals first
    | with_reducible exact OptKept.none
    | (refine OptKept.some (h.of ?_); (split <;> [skip; split]) <;> first | apply still_forceFeedback | apply still_orderReturn | apply still_refuse)
    | (refine OptKept.some (h.of ?_); with_reducible first | rfl | apply still_kelsisCountersClear | apply still_columnReinitialise | apply still_labSubmit | apply still_columnStatsClear | apply still_tableRebuild | apply still_loadFromFile | apply still_mapSnapshot | apply still_predictiveCountersClear| (split <;> first | apply still_forceFeedback | apply still_orderReturn))
theorem Kept.systemCommand {a : Still} (s : State) (key v : Nat) (h : Kept a s.still) : ∀ t, s.systemCommand key v = some t → Kept a t.still := by
  unfold State.systemCommand
  extract_lets
  repeat' with_reducible refine OptKept.ite ?_ ?_
  all_goals try extract_lets
  all_goals repeat' with_reducible refine OptKept.ite ?_ ?_
  all_goals first
    | with_reducible exact OptKept.none
    | (refine OptKept.some ?_; simp [h]; done)
    | (refine OptKept.some ?_; (repeat' split) <;> simp [h])
theorem Kept.commandEffect {a : Still} (s : State) (p : Path) (key v : Nat) (h : Kept a s.still) : ∀ t, s.commandEffect p key v = some t → Kept a t.still := by
  unfold State.commandEffect
  repeat' with_reducible refine OptKept.ite ?_ ?_
  · exact Kept.moduleCommand _ _ _ _ h
  · exact Kept.frontCommand _ _ _ _ h
  · exact Kept.outputCommand _ _ _ h
  · exact Kept.kelsisCommand _ _ _ _ h
  · exact Kept.systemCommand _ _ _ h
@[simp] theorem Kept.imageData {a : Still} (s : State) (key : Nat) (bs : List Byte) (h : Kept a s.still) : Kept a (s.imageData key bs).still := by
  unfold State.imageData; (repeat' split) <;> simp [h]
@[simp] theorem Kept.takeValue {a : Still} (s : State) (w : Staged) (h : Kept a s.still) : Kept a (s.takeValue w).still := by
  unfold State.takeValue; (repeat' split) <;> simp [h]
@[simp] theorem Kept.commitValues {a : Still} (s : State) (l : List Staged) (h : Kept a s.still) : Kept a (s.commitValues l).still := by
  unfold State.commitValues; dsimp only
  refine Kept.foldl _ _ _ (h.of ?_) fun s w => by simp
  rw [still_foldl]
  · simp
  · intro s w; simp
theorem Kept.getD {a : Still} (o : Option State) (s : State) (h : Kept a s.still) (g : ∀ t, o = some t → Kept a t.still) : Kept a (o.getD s).still := by
  cases o with
  | none => exact h
  | some x => exact g x rfl
@[simp] theorem Kept.commitAct {a : Still} (s : State) (w : Staged) (h : Kept a s.still) : Kept a (s.commitAct w).still := by
  unfold State.commitAct; split
  · (repeat' split) <;> simp [h]
  · split
    · exact Kept.getD _ _ h (Kept.commandEffect _ _ _ _ (h.of (still_answer _ _ _)))
    · simp [h]
@[simp] theorem Kept.commitActs {a : Still} (s : State) (l : List Staged) (h : Kept a s.still) : Kept a (s.commitActs l).still :=
  Kept.foldl _ _ _ h fun s w => by split <;> simp
@[simp] theorem Kept.commitStaged {a : Still} (s : State) (h : Kept a s.still) : Kept a s.commitStaged.still := by
  unfold State.commitStaged
  extract_lets all x s1 r s2 s3 s4 plain acts s5 s6 s7
  have h1 : Kept a s1.still := h
  have h2 : Kept a s2.still := Kept.of (Kept.commitActs _ _ h1) (still_kelsisPublish _)
  have h4 : Kept a s4.still := h2.of ((still_foldl _ _ _ fun s w => by simp).trans ((still_foldl _ _ _ fun s w => by simp).trans (still_foldl _ _ _ fun s w => by simp)))
  have h5 : Kept a s5.still := Kept.commitValues _ _ (Kept.commitActs _ _ h4)
  have h6 : Kept a s6.still := by
    simp only [s6]; split
    · exact h5.of (still_serveAllOutputs _)
    · exact h5
  exact Kept.of (Kept.commitActs _ _ h6) (still_setAsh _ _)
@[simp] theorem Kept.inGroup {a : Still} (s : State) (g : Nat) (f : State → State) (h : Kept a s.still) (hf : ∀ s, Kept s.still (f s).still) :
    Kept a (s.inGroup g f).still := by
  have e : ∀ (x : State) (b : List (Nat × Int)) (d : Dict), ({ x with base := b, dict := d } : State).still = x.still := fun _ _ _ => rfl
  unfold State.inGroup
  extract_lets here back t
  have h0 : Kept a (s.turnTo g).still := h.of (still_turnTo _ _)
  have ht : Kept a t.still :=
    Kept.of (Kept.of (Kept.trans (Kept.of h0 (still_setFlue _ _)) (hf _)) (still_turnTo _ _)) (still_setFlue _ _)
  split
  · exact ht
  · rw [e]; exact ht
@[simp] theorem Kept.commit {a : Still} (s : State) (h : Kept a s.still) : Kept a s.commit.still := by
  unfold State.commit; dsimp only
  exact Kept.foldl _ _ _ (Kept.commitStaged _ h) fun s i => Kept.inGroup _ _ _ (.refl _) fun s => by simp
@[simp] theorem Kept.tickStart {a : Still} (s : State) (h : Kept a s.still) : Kept a s.tickStart.still := by
  unfold State.tickStart; dsimp only; (repeat' split) <;> simp [h]

end Sys2Proof.Machine
end

