-- ==== Sys2Proof/Laws/KeptRowsA.lean ====
section
/-! SUPPORT. Queue and memories, command by command: most leave them as they are (unmoved_…), the others keep them (keeps_…). -/

set_option linter.all false

namespace Sys2Proof.Machine

open Sys2Proof

theorem unmoved_execCowlCompute (p : Path) (data : List Byte) (s : State) {t_ : State} (e_ : execCowlCompute p data s = .next t_) : t_.still = s.still := by
  unfold execCowlCompute at e_; cases e_; refine still_served _ _ fun s => ?_; (try dsimp only); (repeat' split) <;> simp

theorem unmoved_execCowlContextTimeout (u : Fin 4) (i : Fin 16) (s : State) {t_ : State} (e_ : execCowlContextTimeout u i s = .next t_) : t_.still = s.still := by
  unfold execCowlContextTimeout at e_; cases e_; simp

theorem unmoved_execCowlUnitStart (u : Fin 4) (s : State) {t_ : State} (e_ : execCowlUnitStart u s = .next t_) : t_.still = s.still := by
  unfold execCowlUnitStart at e_; cases e_; refine still_served _ _ fun s => ?_; (try dsimp only); (repeat' split) <;> simp

theorem unmoved_execCowlUnitData (u : Fin 4) (data : List Byte) (s : State) {t_ : State} (e_ : execCowlUnitData u data s = .next t_) : t_.still = s.still := by
  unfold execCowlUnitData at e_; cases e_; refine still_served _ _ fun s => ?_; (try dsimp only); (repeat' split) <;> simp

theorem unmoved_execScanDue (n : Fin 64) (t : Nat) (s : State) {t_ : State} (e_ : execScanDue n t s = .next t_) : t_.still = s.still := by
  unfold execScanDue at e_; cases e_; simp

theorem unmoved_execConvertNow (p : Path) (n : Fin 64) (t : Nat) (s : State) {t_ : State} (e_ : execConvertNow p n t s = .next t_) : t_.still = s.still := by
  unfold execConvertNow at e_; cases e_; simp

theorem unmoved_execConversionStart (v : Fin 8) (s : State) {t_ : State} (e_ : execConversionStart v s = .next t_) : t_.still = s.still := by
  unfold execConversionStart at e_; cases e_; refine still_served _ _ fun s => ?_; (try dsimp only); (repeat' split) <;> simp

theorem unmoved_execLeadCheckEnd (v : Fin 8) (fail : Bool) (s : State) {t_ : State} (e_ : execLeadCheckEnd v fail s = .next t_) : t_.still = s.still := by
  unfold execLeadCheckEnd at e_; cases e_; refine still_served _ _ fun s => ?_; (try dsimp only); (repeat' split) <;> simp

theorem unmoved_execConversionEnd (v : Fin 8) (r : Reading) (t : Nat) (s : State) {t_ : State} (e_ : execConversionEnd v r t s = .next t_) : t_.still = s.still := by
  unfold execConversionEnd at e_; cases e_; simp

theorem unmoved_execBlankInputChange (i : Fin 2) (high : Bool) (t : Nat) (s : State) {t_ : State} (e_ : execBlankInputChange i high t s = .next t_) : t_.still = s.still := by
  unfold execBlankInputChange at e_; cases e_; simp

theorem unmoved_execBlankMaxDuration (src : Fin 38) (t : Nat) (s : State) {t_ : State} (e_ : execBlankMaxDuration src t s = .next t_) : t_.still = s.still := by
  unfold execBlankMaxDuration at e_; cases e_; simp

theorem unmoved_execFrontEndReady (_t : Nat) (s : State) {t_ : State} (e_ : execFrontEndReady _t s = .next t_) : t_.still = s.still := by
  unfold execFrontEndReady at e_; cases e_; simp

theorem unmoved_execTxsupReady (n : Fin 64) (_t : Nat) (s : State) {t_ : State} (e_ : execTxsupReady n _t s = .next t_) : t_.still = s.still := by
  unfold execTxsupReady at e_; cases e_; simp

theorem unmoved_execReferenceCheck (p : Path) (v : Fin 8) (t : Nat) (s : State) {t_ : State} (e_ : execReferenceCheck p v t s = .next t_) : t_.still = s.still := by
  unfold execReferenceCheck at e_; cases e_; simp

theorem unmoved_execReferenceCheckEnd (v : Fin 8) (ppm : Int) (_t : Nat) (s : State) {t_ : State} (e_ : execReferenceCheckEnd v ppm _t s = .next t_) : t_.still = s.still := by
  unfold execReferenceCheckEnd at e_; cases e_; simp

theorem unmoved_execCoreCountersClear (p : Path) (v : Fin 8) (s : State) {t_ : State} (e_ : execCoreCountersClear p v s = .next t_) : t_.still = s.still := by
  unfold execCoreCountersClear at e_; cases e_; simp

theorem unmoved_execTachPulse (d : Fin 16) (period : Option Nat) (s : State) {t_ : State} (e_ : execTachPulse d period s = .next t_) : t_.still = s.still := by
  unfold execTachPulse at e_; cases e_; refine still_served _ _ fun s => ?_; (try dsimp only); (repeat' split) <;> simp

theorem unmoved_execStartTimeout (d : Fin 16) (s : State) {t_ : State} (e_ : execStartTimeout d s = .next t_) : t_.still = s.still := by
  unfold execStartTimeout at e_; cases e_; simp

theorem unmoved_execRetryBackoffEnd (d : Fin 16) (s : State) {t_ : State} (e_ : execRetryBackoffEnd d s = .next t_) : t_.still = s.still := by
  unfold execRetryBackoffEnd at e_; cases e_; simp

theorem unmoved_execTachLoss (d : Fin 16) (s : State) {t_ : State} (e_ : execTachLoss d s = .next t_) : t_.still = s.still := by
  unfold execTachLoss at e_; cases e_; simp

theorem unmoved_execDriveFaultReset (p : Path) (d : Fin 16) (s : State) {t_ : State} (e_ : execDriveFaultReset p d s = .next t_) : t_.still = s.still := by
  unfold execDriveFaultReset at e_; cases e_; simp

theorem unmoved_execSensorSupplyOvercurrent (d : Fin 16) (mA : Nat) (s : State) {t_ : State} (e_ : execSensorSupplyOvercurrent d mA s = .next t_) : t_.still = s.still := by
  unfold execSensorSupplyOvercurrent at e_; cases e_; simp

theorem unmoved_execDriveStatisticsClear (p : Path) (d : Fin 16) (s : State) {t_ : State} (e_ : execDriveStatisticsClear p d s = .next t_) : t_.still = s.still := by
  unfold execDriveStatisticsClear at e_; cases e_; simp

theorem unmoved_execCurrentOutputLoopFault (k : Fin 8) (mA : Word) (s : State) {t_ : State} (e_ : execCurrentOutputLoopFault k mA s = .next t_) : t_.still = s.still := by
  unfold execCurrentOutputLoopFault at e_; cases e_; simp

theorem unmoved_execCurrentOutputStatisticsClear (p : Path) (k : Fin 8) (s : State) {t_ : State} (e_ : execCurrentOutputStatisticsClear p k s = .next t_) : t_.still = s.still := by
  unfold execCurrentOutputStatisticsClear at e_; cases e_; simp

theorem unmoved_execSetpointInputUpdate (i : Fin 2) (raw : Word) (s : State) {t_ : State} (e_ : execSetpointInputUpdate i raw s = .next t_) : t_.still = s.still := by
  unfold execSetpointInputUpdate at e_; cases e_; simp

theorem unmoved_execSetpointInputFault (i : Fin 2) (s : State) {t_ : State} (e_ : execSetpointInputFault i s = .next t_) : t_.still = s.still := by
  unfold execSetpointInputFault at e_; cases e_; simp

theorem unmoved_execResultPublish (p : Publication) (s : State) {t_ : State} (e_ : execResultPublish p s = .next t_) : t_.still = s.still := by
  unfold execResultPublish at e_; cases e_; refine still_served _ _ fun s => ?_; (try dsimp only); (repeat' split) <;> simp

theorem unmoved_execChannelStatisticsClear (p : Path) (n : Fin 64) (s : State) {t_ : State} (e_ : execChannelStatisticsClear p n s = .next t_) : t_.still = s.still := by
  unfold execChannelStatisticsClear at e_; cases e_; simp

theorem unmoved_execProportionalSetpointApply (a : Fin 20) (s : State) {t_ : State} (e_ : execProportionalSetpointApply a s = .next t_) : t_.still = s.still := by
  unfold execProportionalSetpointApply at e_; cases e_; simp

theorem unmoved_execActuatorCommandOff (p : Path) (a : Fin 20) (s : State) {t_ : State} (e_ : execActuatorCommandOff p a s = .next t_) : t_.still = s.still := by
  unfold execActuatorCommandOff at e_; cases e_; simp

theorem unmoved_execActuatorCommandOn (p : Path) (a : Fin 20) (s : State) {t_ : State} (e_ : execActuatorCommandOn p a s = .next t_) : t_.still = s.still := by
  unfold execActuatorCommandOn at e_; cases e_; simp

theorem unmoved_execActuatorCommandPulse (p : Path) (a : Fin 20) (s : State) {t_ : State} (e_ : execActuatorCommandPulse p a s = .next t_) : t_.still = s.still := by
  unfold execActuatorCommandPulse at e_; cases e_; simp

theorem unmoved_execActivationStart (a : Fin 20) (s : State) {t_ : State} (e_ : execActivationStart a s = .next t_) : t_.still = s.still := by
  unfold execActivationStart at e_; cases e_; simp

theorem unmoved_execPeakReached (a : Fin 20) (us : Nat) (samples : List (Nat × Nat)) (s : State) {t_ : State} (e_ : execPeakReached a us samples s = .next t_) : t_.still = s.still := by
  unfold execPeakReached at e_; cases e_; simp

theorem unmoved_execPeakTimeMaximum (a : Fin 20) (s : State) {t_ : State} (e_ : execPeakTimeMaximum a s = .next t_) : t_.still = s.still := by
  unfold execPeakTimeMaximum at e_; cases e_; simp

theorem unmoved_execDwellEnd (a : Fin 20) (s : State) {t_ : State} (e_ : execDwellEnd a s = .next t_) : t_.still = s.still := by
  unfold execDwellEnd at e_; cases e_; simp

theorem unmoved_execDeferralTimeout (a : Fin 20) (s : State) {t_ : State} (e_ : execDeferralTimeout a s = .next t_) : t_.still = s.still := by
  unfold execDeferralTimeout at e_; cases e_; simp

theorem unmoved_execPulseEnd (a : Fin 20) (s : State) {t_ : State} (e_ : execPulseEnd a s = .next t_) : t_.still = s.still := by
  unfold execPulseEnd at e_; cases e_; simp

theorem unmoved_execMaximumOnTime (a : Fin 20) (s : State) {t_ : State} (e_ : execMaximumOnTime a s = .next t_) : t_.still = s.still := by
  unfold execMaximumOnTime at e_; cases e_; simp

theorem unmoved_execDecayComplete (a : Fin 20) (us : Nat) (s : State) {t_ : State} (e_ : execDecayComplete a us s = .next t_) : t_.still = s.still := by
  unfold execDecayComplete at e_; cases e_; simp

theorem unmoved_execMovementWindowEnd (a : Fin 20) (s : State) {t_ : State} (e_ : execMovementWindowEnd a s = .next t_) : t_.still = s.still := by
  unfold execMovementWindowEnd at e_; cases e_; simp

theorem unmoved_execDutyUpdate (s : State) {t_ : State} (e_ : execDutyUpdate s = .next t_) : t_.still = s.still := by
  unfold execDutyUpdate at e_; cases e_; simp

theorem unmoved_execP2CurrentLimitEvaluation (mean : Nat) (s : State) {t_ : State} (e_ : execP2CurrentLimitEvaluation mean s = .next t_) : t_.still = s.still := by
  unfold execP2CurrentLimitEvaluation at e_; cases e_; simp

theorem unmoved_execPermitLost (which : Fin 2) (s : State) {t_ : State} (e_ : execPermitLost which s = .next t_) : t_.still = s.still := by
  unfold execPermitLost at e_; cases e_; refine still_served _ _ fun s => ?_; (try dsimp only); (repeat' split) <;> simp

theorem unmoved_execPermitRestored (which : Fin 2) (s : State) {t_ : State} (e_ : execPermitRestored which s = .next t_) : t_.still = s.still := by
  unfold execPermitRestored at e_; cases e_; simp

theorem unmoved_execHsOvercurrent (h : Fin 10) (s : State) {t_ : State} (e_ : execHsOvercurrent h s = .next t_) : t_.still = s.still := by
  unfold execHsOvercurrent at e_; cases e_; simp

theorem unmoved_execCommonShort (h : Fin 10) (s : State) {t_ : State} (e_ : execCommonShort h s = .next t_) : t_.still = s.still := by
  unfold execCommonShort at e_; cases e_; simp

theorem unmoved_execStuckOn (h : Fin 10) (s : State) {t_ : State} (e_ : execStuckOn h s = .next t_) : t_.still = s.still := by
  unfold execStuckOn at e_; cases e_; simp

theorem unmoved_execHsOvertemp (h : Fin 10) (s : State) {t_ : State} (e_ : execHsOvertemp h s = .next t_) : t_.still = s.still := by
  unfold execHsOvertemp at e_; cases e_; simp

theorem unmoved_execLsOvercurrent (a : Fin 20) (s : State) {t_ : State} (e_ : execLsOvercurrent a s = .next t_) : t_.still = s.still := by
  unfold execLsOvercurrent at e_; cases e_; simp

theorem unmoved_execLsStuck (a : Fin 20) (s : State) {t_ : State} (e_ : execLsStuck a s = .next t_) : t_.still = s.still := by
  unfold execLsStuck at e_; cases e_; simp

theorem unmoved_execOpenLoad (a : Fin 20) (s : State) {t_ : State} (e_ : execOpenLoad a s = .next t_) : t_.still = s.still := by
  unfold execOpenLoad at e_; cases e_; simp

theorem unmoved_execActuatorFaultReset (p : Path) (a : Fin 20) (s : State) {t_ : State} (e_ : execActuatorFaultReset p a s = .next t_) : t_.still = s.still := by
  unfold execActuatorFaultReset at e_; cases e_; simp

theorem unmoved_execSwitchFaultReset (p : Path) (h : Fin 10) (s : State) {t_ : State} (e_ : execSwitchFaultReset p h s = .next t_) : t_.still = s.still := by
  unfold execSwitchFaultReset at e_; cases e_; simp

theorem unmoved_execActuatorStatisticsClear (p : Path) (a : Fin 20) (s : State) {t_ : State} (e_ : execActuatorStatisticsClear p a s = .next t_) : t_.still = s.still := by
  unfold execActuatorStatisticsClear at e_; cases e_; simp

theorem unmoved_execSwitchStatisticsClear (p : Path) (h : Fin 10) (s : State) {t_ : State} (e_ : execSwitchStatisticsClear p h s = .next t_) : t_.still = s.still := by
  unfold execSwitchStatisticsClear at e_; cases e_; simp

theorem unmoved_execTraceArm (p : Path) (s : State) {t_ : State} (e_ : execTraceArm p s = .next t_) : t_.still = s.still := by
  unfold execTraceArm at e_; cases e_; simp

theorem unmoved_execTraceTrigger (p : Path) (s : State) {t_ : State} (e_ : execTraceTrigger p s = .next t_) : t_.still = s.still := by
  unfold execTraceTrigger at e_; cases e_; simp

theorem unmoved_execTraceStop (p : Path) (s : State) {t_ : State} (e_ : execTraceStop p s = .next t_) : t_.still = s.still := by
  unfold execTraceStop at e_; cases e_; simp

theorem unmoved_execEccWordRewrite (word : Nat) (s : State) {t_ : State} (e_ : execEccWordRewrite word s = .next t_) : t_.still = s.still := by
  unfold execEccWordRewrite at e_; cases e_; refine still_served _ _ fun s => ?_; (try dsimp only); (repeat' split) <;> simp

theorem unmoved_execLoopModeManual (p : Path) (l : Fin 64) (s : State) {t_ : State} (e_ : execLoopModeManual p l s = .next t_) : t_.still = s.still := by
  unfold execLoopModeManual at e_; cases e_; simp

theorem unmoved_execLoopModeAuto (p : Path) (l : Fin 64) (s : State) {t_ : State} (e_ : execLoopModeAuto p l s = .next t_) : t_.still = s.still := by
  unfold execLoopModeAuto at e_; cases e_; simp

theorem unmoved_execLoopModeCascade (p : Path) (l : Fin 64) (s : State) {t_ : State} (e_ : execLoopModeCascade p l s = .next t_) : t_.still = s.still := by
  unfold execLoopModeCascade at e_; cases e_; simp

theorem unmoved_execLoopModePredictive (p : Path) (l : Fin 64) (s : State) {t_ : State} (e_ : execLoopModePredictive p l s = .next t_) : t_.still = s.still := by
  unfold execLoopModePredictive at e_; cases e_; simp

theorem unmoved_execLoopFaultReset (p : Path) (l : Fin 64) (s : State) {t_ : State} (e_ : execLoopFaultReset p l s = .next t_) : t_.still = s.still := by
  unfold execLoopFaultReset at e_; cases e_; simp

theorem unmoved_execHoldRequestSet (p : Path) (l : Fin 64) (s : State) {t_ : State} (e_ : execHoldRequestSet p l s = .next t_) : t_.still = s.still := by
  unfold execHoldRequestSet at e_; cases e_; simp

theorem unmoved_execHoldRequestClear (p : Path) (l : Fin 64) (s : State) {t_ : State} (e_ : execHoldRequestClear p l s = .next t_) : t_.still = s.still := by
  unfold execHoldRequestClear at e_; cases e_; simp

theorem unmoved_execLoopStatisticsClear (p : Path) (l : Fin 64) (s : State) {t_ : State} (e_ : execLoopStatisticsClear p l s = .next t_) : t_.still = s.still := by
  unfold execLoopStatisticsClear at e_; cases e_; simp

theorem unmoved_execBellowsCountersClear (p : Path) (s : State) {t_ : State} (e_ : execBellowsCountersClear p s = .next t_) : t_.still = s.still := by
  unfold execBellowsCountersClear at e_; cases e_; simp

theorem unmoved_execTickCountRead (p : Path) (s : State) {t_ : State} (e_ : execTickCountRead p s = .next t_) : t_.still = s.still := by
  unfold execTickCountRead at e_; cases e_; simp

theorem unmoved_execLearnerClearMemory (p : Path) (l : Fin 64) (s : State) {t_ : State} (e_ : execLearnerClearMemory p l s = .next t_) : t_.still = s.still := by
  unfold execLearnerClearMemory at e_; cases e_; simp

theorem unmoved_execPulseEdge (p8 : Fin 8) (high : Bool) (period : Option Nat) (s : State) {t_ : State} (e_ : execPulseEdge p8 high period s = .next t_) : t_.still = s.still := by
  unfold execPulseEdge at e_; cases e_; simp

theorem unmoved_execFrequencyGateEnd (p8 : Fin 8) (s : State) {t_ : State} (e_ : execFrequencyGateEnd p8 s = .next t_) : t_.still = s.still := by
  unfold execFrequencyGateEnd at e_; cases e_; simp

theorem unmoved_execPulseZeroTime (p8 : Fin 8) (s : State) {t_ : State} (e_ : execPulseZeroTime p8 s = .next t_) : t_.still = s.still := by
  unfold execPulseZeroTime at e_; cases e_; simp

theorem unmoved_execCountReset (p : Path) (p8 : Fin 8) (s : State) {t_ : State} (e_ : execCountReset p p8 s = .next t_) : t_.still = s.still := by
  unfold execCountReset at e_; cases e_; simp

theorem unmoved_execTransmitPortWrite (p : Path) (b : Fin 2) (data : List Byte) (s : State) {t_ : State} (e_ : execTransmitPortWrite p b data s = .next t_) : t_.still = s.still := by
  unfold execTransmitPortWrite at e_; cases e_; simp

theorem unmoved_execTransmitCancel (p : Path) (b : Fin 2) (tag : Nat) (headSof urgentSof : Bool) (s : State) {t_ : State} (e_ : execTransmitCancel p b tag headSof urgentSof s = .next t_) : t_.still = s.still := by
  unfold execTransmitCancel at e_; cases e_; simp

theorem unmoved_execNotBeforeReached (b : Fin 2) (s : State) {t_ : State} (e_ : execNotBeforeReached b s = .next t_) : t_.still = s.still := by
  unfold execNotBeforeReached at e_; cases e_; simp

theorem unmoved_execFrameError (w : OnWire) (kind : Fin 7) (c : ErrorClass) (s : State) {t_ : State} (e_ : execFrameError w kind c s = .next t_) : t_.still = s.still := by
  unfold execFrameError at e_; cases e_; refine still_served _ _ fun s => ?_; (try dsimp only); (repeat' split) <;> simp

theorem unmoved_execArbitrationLost (w : OnWire) (s : State) {t_ : State} (e_ : execArbitrationLost w s = .next t_) : t_.still = s.still := by
  unfold execArbitrationLost at e_; cases e_; simp

theorem unmoved_execFrameTransmitted (w : OnWire) (t : Nat) (delay : Option (Fin 128)) (s : State) {t_ : State} (e_ : execFrameTransmitted w t delay s = .next t_) : t_.still = s.still := by
  unfold execFrameTransmitted at e_; cases e_; refine still_served _ _ fun s => ?_; (try dsimp only); (repeat' split) <;> simp

theorem unmoved_execBusIntegrated (b : Fin 2) (s : State) {t_ : State} (e_ : execBusIntegrated b s = .next t_) : t_.still = s.still := by
  unfold execBusIntegrated at e_; cases e_; simp

theorem unmoved_execBusOffRecovered (b : Fin 2) (s : State) {t_ : State} (e_ : execBusOffRecovered b s = .next t_) : t_.still = s.still := by
  unfold execBusOffRecovered at e_; cases e_; simp

theorem unmoved_execBusOffRecover (p : Path) (b : Fin 2) (s : State) {t_ : State} (e_ : execBusOffRecover p b s = .next t_) : t_.still = s.still := by
  unfold execBusOffRecover at e_; cases e_; simp

theorem unmoved_execCompletionRead (p : Path) (b : Fin 2) (s : State) {t_ : State} (e_ : execCompletionRead p b s = .next t_) : t_.still = s.still := by
  unfold execCompletionRead at e_; cases e_; refine still_served _ _ fun s => ?_; (try dsimp only); (repeat' split) <;> simp

theorem unmoved_execFrameReceived (b : Fin 2) (f : CanFrame) (t : Nat) (s : State) {t_ : State} (e_ : execFrameReceived b f t s = .next t_) : t_.still = s.still := by
  unfold execFrameReceived at e_; cases e_; refine still_served _ _ fun s => ?_; (try dsimp only); (repeat' split) <;> simp

theorem unmoved_execFifoRead (p : Path) (b : Fin 2) (s : State) {t_ : State} (e_ : execFifoRead p b s = .next t_) : t_.still = s.still := by
  unfold execFifoRead at e_; cases e_; refine still_served _ _ fun s => ?_; (try dsimp only); (repeat' split) <;> simp

theorem unmoved_execObjectStatusClear (p : Path) (b : Fin 2) (k : Fin 64) (v : Nat) (s : State) {t_ : State} (e_ : execObjectStatusClear p b k v s = .next t_) : t_.still = s.still := by
  unfold execObjectStatusClear at e_; cases e_; simp

theorem unmoved_execTimeReferenceDue (s : State) {t_ : State} (e_ : execTimeReferenceDue s = .next t_) : t_.still = s.still := by
  unfold execTimeReferenceDue at e_; cases e_; refine still_served _ _ fun s => ?_; (try dsimp only); (repeat' split) <;> simp

theorem unmoved_execCanStatisticsClear (p : Path) (b : Fin 2) (s : State) {t_ : State} (e_ : execCanStatisticsClear p b s = .next t_) : t_.still = s.still := by
  unfold execCanStatisticsClear at e_; cases e_; simp

theorem unmoved_execEmcyInhibitEnd (s : State) {t_ : State} (e_ : execEmcyInhibitEnd s = .next t_) : t_.still = s.still := by
  unfold execEmcyInhibitEnd at e_; cases e_; refine still_served _ _ fun s => ?_; (try dsimp only); (repeat' split) <;> simp

theorem unmoved_execCanControllerRestart (b : Fin 2) (s : State) {t_ : State} (e_ : execCanControllerRestart b s = .next t_) : t_.still = s.still := by
  unfold execCanControllerRestart at e_; cases e_; simp

theorem unmoved_execSitePlanWrite (p : Path) (data : List Byte) (s : State) {t_ : State} (e_ : execSitePlanWrite p data s = .next t_) : t_.still = s.still := by
  unfold execSitePlanWrite at e_; cases e_; simp

theorem unmoved_execPlanReceived (m : FlueMsg) (part : PlanSlice) (bytes : List Byte) (s : State) {t_ : State} (e_ : execPlanReceived m part bytes s = .next t_) : t_.still = s.still := by
  unfold execPlanReceived at e_; dsimp only at e_; cases e_; (repeat' split) <;> simp

theorem unmoved_execSeatReceived (m : FlueMsg) (uid addr : Nat) (s : State) {t_ : State} (e_ : execSeatReceived m uid addr s = .next t_) : t_.still = s.still := by
  unfold execSeatReceived at e_; cases e_; simp

theorem unmoved_execSeatAcknowledgeReceived (m : FlueMsg) (uid addr : Nat) (s : State) {t_ : State} (e_ : execSeatAcknowledgeReceived m uid addr s = .next t_) : t_.still = s.still := by
  unfold execSeatAcknowledgeReceived at e_; dsimp only at e_; cases e_; (repeat' split) <;> simp

theorem unmoved_execElection (g : Nat) (s : State) {t_ : State} (e_ : execElection g s = .next t_) : t_.still = s.still := by
  unfold execElection at e_; cases e_; simp

theorem unmoved_execHeadAnnounce (s : State) {t_ : State} (e_ : execHeadAnnounce s = .next t_) : t_.still = s.still := by
  unfold execHeadAnnounce at e_; cases e_; simp

theorem unmoved_execHeadReceived (m : FlueMsg) (h : HeadInfo) (s : State) {t_ : State} (e_ : execHeadReceived m h s = .next t_) : t_.still = s.still := by
  unfold execHeadReceived at e_; cases e_; simp

theorem unmoved_execHelloSend (s : State) {t_ : State} (e_ : execHelloSend s = .next t_) : t_.still = s.still := by
  unfold execHelloSend at e_; cases e_; simp

theorem unmoved_execHelloReceived (m : FlueMsg) (h : Hello) (s : State) {t_ : State} (e_ : execHelloReceived m h s = .next t_) : t_.still = s.still := by
  unfold execHelloReceived at e_; cases e_; simp

theorem unmoved_execAdjacencyTimeout (port : Fin 4) (s : State) {t_ : State} (e_ : execAdjacencyTimeout port s = .next t_) : t_.still = s.still := by
  unfold execAdjacencyTimeout at e_; cases e_; simp

theorem unmoved_execPhyLinkLoss (port : Fin 4) (s : State) {t_ : State} (e_ : execPhyLinkLoss port s = .next t_) : t_.still = s.still := by
  unfold execPhyLinkLoss at e_; cases e_; simp

theorem unmoved_execPhyLinkUp (i : PhyStep) (s : State) {t_ : State} (e_ : execPhyLinkUp i s = .next t_) : t_.still = s.still := by
  unfold execPhyLinkUp at e_; cases e_; simp

theorem unmoved_execLinkStateReceived (m : FlueMsg) (l : LinkState) (s : State) {t_ : State} (e_ : execLinkStateReceived m l s = .next t_) : t_.still = s.still := by
  unfold execLinkStateReceived at e_; cases e_; simp

theorem unmoved_execLinkStateRefresh (s : State) {t_ : State} (e_ : execLinkStateRefresh s = .next t_) : t_.still = s.still := by
  unfold execLinkStateRefresh at e_; cases e_; simp

theorem unmoved_execStatusSend (s : State) {t_ : State} (e_ : execStatusSend s = .next t_) : t_.still = s.still := by
  unfold execStatusSend at e_; cases e_; simp

theorem unmoved_execStatusReceived (m : FlueMsg) (st : StatusInfo) (s : State) {t_ : State} (e_ : execStatusReceived m st s = .next t_) : t_.still = s.still := by
  unfold execStatusReceived at e_; cases e_; simp

theorem unmoved_execMemberAbsent (g : Nat) (seat : Fin 15) (s : State) {t_ : State} (e_ : execMemberAbsent g seat s = .next t_) : t_.still = s.still := by
  unfold execMemberAbsent at e_; cases e_; simp

end Sys2Proof.Machine
end

