-- ==== Sys2Proof/Laws/KeptRowsB.lean ====
section
/-! SUPPORT. Queue and memories, command by command: most leave them as they are (unmoved_…), the others keep them (keeps_…). -/

set_option linter.all false

namespace Sys2Proof.Machine

open Sys2Proof

theorem unmoved_execWakeTimeOverdue (g : Nat) (seat : Fin 15) (s : State) {t_ : State} (e_ : execWakeTimeOverdue g seat s = .next t_) : t_.still = s.still := by
  unfold execWakeTimeOverdue at e_; cases e_; simp

theorem unmoved_execMapReceived (m : FlueMsg) (channels : List Nat) (s : State) {t_ : State} (e_ : execMapReceived m channels s = .next t_) : t_.still = s.still := by
  unfold execMapReceived at e_; cases e_; simp

theorem unmoved_execBankingReceived (m : FlueMsg) (wake : Nat) (s : State) {t_ : State} (e_ : execBankingReceived m wake s = .next t_) : t_.still = s.still := by
  unfold execBankingReceived at e_; dsimp only at e_; cases e_; (repeat' split) <;> simp

theorem unmoved_execBankingAnswerReceived (m : FlueMsg) (accept : Bool) (maximum : Nat) (s : State) {t_ : State} (e_ : execBankingAnswerReceived m accept maximum s = .next t_) : t_.still = s.still := by
  unfold execBankingAnswerReceived at e_; cases e_; simp

theorem unmoved_execBankingAnswerTimeout (s : State) {t_ : State} (e_ : execBankingAnswerTimeout s = .next t_) : t_.still = s.still := by
  unfold execBankingAnswerTimeout at e_; cases e_; refine still_served _ _ fun s => ?_; (try dsimp only); (repeat' split) <;> simp

theorem unmoved_execAwakeReceived (m : FlueMsg) (s : State) {t_ : State} (e_ : execAwakeReceived m s = .next t_) : t_.still = s.still := by
  unfold execAwakeReceived at e_; dsimp only at e_; cases e_; (repeat' split) <;> simp

theorem unmoved_execFrameForward (m : FlueMsg) (body : FlueBody) (s : State) {t_ : State} (e_ : execFrameForward m body s = .next t_) : t_.still = s.still := by
  unfold execFrameForward at e_; cases e_; refine still_served _ _ fun s => ?_; (try dsimp only); (repeat' split) <;> simp

theorem unmoved_execLogFrameReceived (m : FlueMsg) (r : LogInfo) (s : State) {t_ : State} (e_ : execLogFrameReceived m r s = .next t_) : t_.still = s.still := by
  unfold execLogFrameReceived at e_; cases e_; simp

theorem unmoved_execGptpSyncReceived (port : Fin 4) (offset : Int) (gm : Nat) (s : State) {t_ : State} (e_ : execGptpSyncReceived port offset gm s = .next t_) : t_.still = s.still := by
  unfold execGptpSyncReceived at e_; cases e_; simp

theorem unmoved_execSyncMissed (s : State) {t_ : State} (e_ : execSyncMissed s = .next t_) : t_.still = s.still := by
  unfold execSyncMissed at e_; cases e_; simp

theorem unmoved_execHoldoverTimeout (s : State) {t_ : State} (e_ : execHoldoverTimeout s = .next t_) : t_.still = s.still := by
  unfold execHoldoverTimeout at e_; cases e_; simp

theorem unmoved_execGptpSyncSend (s : State) {t_ : State} (e_ : execGptpSyncSend s = .next t_) : t_.still = s.still := by
  unfold execGptpSyncSend at e_; cases e_; simp

theorem unmoved_execPeerDelayMeasure (port : Fin 4) (s : State) {t_ : State} (e_ : execPeerDelayMeasure port s = .next t_) : t_.still = s.still := by
  unfold execPeerDelayMeasure at e_; cases e_; simp

theorem unmoved_execPeerDelayFrameReceived (port : Fin 4) (delay : Option Nat) (s : State) {t_ : State} (e_ : execPeerDelayFrameReceived port delay s = .next t_) : t_.still = s.still := by
  unfold execPeerDelayFrameReceived at e_; cases e_; refine still_served _ _ fun s => ?_; (try dsimp only); (repeat' split) <;> simp

theorem unmoved_execFlueTimeRead (p : Path) (s : State) {t_ : State} (e_ : execFlueTimeRead p s = .next t_) : t_.still = s.still := by
  unfold execFlueTimeRead at e_; cases e_; refine still_served _ _ fun s => ?_; (try dsimp only); (repeat' split) <;> simp

theorem unmoved_execSiteKeyWrite (p : Path) (data : List Byte) (s : State) {t_ : State} (e_ : execSiteKeyWrite p data s = .next t_) : t_.still = s.still := by
  unfold execSiteKeyWrite at e_; cases e_; simp

theorem unmoved_execFlueNodeStatisticsClear (p : Path) (s : State) {t_ : State} (e_ : execFlueNodeStatisticsClear p s = .next t_) : t_.still = s.still := by
  unfold execFlueNodeStatisticsClear at e_; cases e_; simp

theorem unmoved_execPortStatisticsClear (p : Path) (port : Fin 4) (s : State) {t_ : State} (e_ : execPortStatisticsClear p port s = .next t_) : t_.still = s.still := by
  unfold execPortStatisticsClear at e_; cases e_; simp

theorem unmoved_execTimeStatisticsClear (p : Path) (s : State) {t_ : State} (e_ : execTimeStatisticsClear p s = .next t_) : t_.still = s.still := by
  unfold execTimeStatisticsClear at e_; cases e_; simp

theorem keeps_execAshRecordWrite (result : Fin 3) (s : State) {t_ : State} (e_ : execAshRecordWrite result s = .next t_) : Kept s.still t_.still := by
  unfold execAshRecordWrite at e_; (try dsimp only at e_); cases e_; (repeat' split) <;> simp

theorem unmoved_execAshRecordLatch (p : Path) (s : State) {t_ : State} (e_ : execAshRecordLatch p s = .next t_) : t_.still = s.still := by
  unfold execAshRecordLatch at e_; cases e_; simp

theorem unmoved_execAshCursorAdvance (p : Path) (s : State) {t_ : State} (e_ : execAshCursorAdvance p s = .next t_) : t_.still = s.still := by
  unfold execAshCursorAdvance at e_; cases e_; simp

theorem unmoved_execAshClear (p : Path) (value : Nat) (s : State) {t_ : State} (e_ : execAshClear p value s = .next t_) : t_.still = s.still := by
  unfold execAshClear at e_; cases e_; simp

theorem keeps_execAshClearDone (result : Fin 3) (s : State) {t_ : State} (e_ : execAshClearDone result s = .next t_) : Kept s.still t_.still := by
  unfold execAshClearDone at e_; dsimp only at e_; cases e_; (repeat' split) <;> simp

theorem unmoved_execTableBuildStart (g : Fin 16) (s : State) {t_ : State} (e_ : execTableBuildStart g s = .next t_) : t_.still = s.still := by
  unfold execTableBuildStart at e_; cases e_; simp

theorem unmoved_execTableBuildDone (s : State) {t_ : State} (e_ : execTableBuildDone s = .next t_) : t_.still = s.still := by
  unfold execTableBuildDone at e_; cases e_; refine still_served _ _ fun s => ?_; (try dsimp only); (repeat' split) <;> simp

theorem unmoved_execTableRebuild (p : Path) (s : State) {t_ : State} (e_ : execTableRebuild p s = .next t_) : t_.still = s.still := by
  unfold execTableRebuild at e_; cases e_; simp

theorem unmoved_execLoadFromFile (p : Path) (g : Fin 16) (e : Nat) (s : State) {t_ : State} (e_ : execLoadFromFile p g e s = .next t_) : t_.still = s.still := by
  unfold execLoadFromFile at e_; cases e_; simp

theorem unmoved_execBoundaryReceived (m : FlueMsg) (b : Boundary) (s : State) {t_ : State} (e_ : execBoundaryReceived m b s = .next t_) : t_.still = s.still := by
  unfold execBoundaryReceived at e_; cases e_; simp

theorem unmoved_execKelsisStepStart (k : StepStart) (s : State) {t_ : State} (e_ : execKelsisStepStart k s = .next t_) : t_.still = s.still := by
  unfold execKelsisStepStart at e_; cases e_; refine still_served _ _ fun s => ?_; (try dsimp only); (repeat' split) <;> simp

theorem unmoved_execKelsisStepEnd (c : Fin 4) (s : State) {t_ : State} (e_ : execKelsisStepEnd c s = .next t_) : t_.still = s.still := by
  unfold execKelsisStepEnd at e_; cases e_; refine still_served _ _ fun s => ?_; (try dsimp only); (repeat' split) <;> simp

theorem unmoved_execStepDeadline (c : Fin 4) (s : State) {t_ : State} (e_ : execStepDeadline c s = .next t_) : t_.still = s.still := by
  unfold execStepDeadline at e_; cases e_; simp

theorem unmoved_execColumnReinitialise (p : Path) (c : Fin 4) (s : State) {t_ : State} (e_ : execColumnReinitialise p c s = .next t_) : t_.still = s.still := by
  unfold execColumnReinitialise at e_; cases e_; simp

theorem unmoved_execLabValueSubmit (p : Path) (c : Fin 4) (v : Word) (s : State) {t_ : State} (e_ : execLabValueSubmit p c v s = .next t_) : t_.still = s.still := by
  unfold execLabValueSubmit at e_; cases e_; simp

theorem unmoved_execMapSnapshot (p : Path) (s : State) {t_ : State} (e_ : execMapSnapshot p s = .next t_) : t_.still = s.still := by
  unfold execMapSnapshot at e_; cases e_; simp

theorem unmoved_execMapCellRead (p : Path) (s : State) {t_ : State} (e_ : execMapCellRead p s = .next t_) : t_.still = s.still := by
  unfold execMapCellRead at e_; cases e_; refine still_served _ _ fun s => ?_; (try dsimp only); (repeat' split) <;> simp

theorem unmoved_execKelsisCountersClear (p : Path) (s : State) {t_ : State} (e_ : execKelsisCountersClear p s = .next t_) : t_.still = s.still := by
  unfold execKelsisCountersClear at e_; cases e_; simp

theorem unmoved_execColumnStatisticsClear (p : Path) (c : Fin 4) (s : State) {t_ : State} (e_ : execColumnStatisticsClear p c s = .next t_) : t_.still = s.still := by
  unfold execColumnStatisticsClear at e_; cases e_; simp

theorem unmoved_execPredictionUpdateStart (c : Fin 4) (s : State) {t_ : State} (e_ : execPredictionUpdateStart c s = .next t_) : t_.still = s.still := by
  unfold execPredictionUpdateStart at e_; cases e_; simp

theorem unmoved_execPredictionUpdateDone (c : Fin 4) (s : State) {t_ : State} (e_ : execPredictionUpdateDone c s = .next t_) : t_.still = s.still := by
  unfold execPredictionUpdateDone at e_; cases e_; refine still_served _ _ fun s => ?_; (try dsimp only); (repeat' split) <;> simp

theorem unmoved_execEnterFeedback (p : Path) (c : Fin 4) (s : State) {t_ : State} (e_ : execEnterFeedback p c s = .next t_) : t_.still = s.still := by
  unfold execEnterFeedback at e_; cases e_; simp

theorem unmoved_execReturn (p : Path) (c : Fin 4) (s : State) {t_ : State} (e_ : execReturn p c s = .next t_) : t_.still = s.still := by
  unfold execReturn at e_; cases e_; simp

theorem unmoved_execPredictiveCountersClear (p : Path) (s : State) {t_ : State} (e_ : execPredictiveCountersClear p s = .next t_) : t_.still = s.still := by
  unfold execPredictiveCountersClear at e_; cases e_; simp

theorem unmoved_execSheddingEvaluation (s : State) {t_ : State} (e_ : execSheddingEvaluation s = .next t_) : t_.still = s.still := by
  unfold execSheddingEvaluation at e_; cases e_; simp

theorem unmoved_execLevelRequest (p : Path) (code : Nat) (s : State) {t_ : State} (e_ : execLevelRequest p code s = .next t_) : t_.still = s.still := by
  unfold execLevelRequest at e_; cases e_; simp

theorem unmoved_execPasscodeLockEnd (p : Path) (s : State) {t_ : State} (e_ : execPasscodeLockEnd p s = .next t_) : t_.still = s.still := by
  unfold execPasscodeLockEnd at e_; cases e_; simp

theorem unmoved_execLevelIdleTimeout (p : Path) (s : State) {t_ : State} (e_ : execLevelIdleTimeout p s = .next t_) : t_.still = s.still := by
  unfold execLevelIdleTimeout at e_; cases e_; simp

theorem unmoved_execVendorChallenge (p : Path) (s : State) {t_ : State} (e_ : execVendorChallenge p s = .next t_) : t_.still = s.still := by
  unfold execVendorChallenge at e_; cases e_; refine still_served _ _ fun s => ?_; (try dsimp only); (repeat' split) <;> simp

theorem unmoved_execVendorResponse (p : Path) (data : List Byte) (s : State) {t_ : State} (e_ : execVendorResponse p data s = .next t_) : t_.still = s.still := by
  unfold execVendorResponse at e_; cases e_; simp

theorem keeps_execServicePasscodeWrite (p : Path) (code : Nat) (s : State) {t_ : State} (e_ : execServicePasscodeWrite p code s = .next t_) : Kept s.still t_.still := by
  unfold execServicePasscodeWrite at e_; cases e_; refine Kept.commanded _ _ _ _ _ (.refl _) fun s => ?_; (try dsimp only); (repeat' split) <;> simp

theorem keeps_execAdd (c : Fin 4) (d a b : Fin 16) (s : State) {t_ : State} (e_ : execAdd c d a b s = .next t_) : Kept s.still t_.still := by
  unfold execAdd at e_; cases e_; simp

theorem keeps_execSub (c : Fin 4) (d a b : Fin 16) (s : State) {t_ : State} (e_ : execSub c d a b s = .next t_) : Kept s.still t_.still := by
  unfold execSub at e_; cases e_; simp

theorem keeps_execAnd (c : Fin 4) (d a b : Fin 16) (s : State) {t_ : State} (e_ : execAnd c d a b s = .next t_) : Kept s.still t_.still := by
  unfold execAnd at e_; cases e_; simp

theorem keeps_execOr (c : Fin 4) (d a b : Fin 16) (s : State) {t_ : State} (e_ : execOr c d a b s = .next t_) : Kept s.still t_.still := by
  unfold execOr at e_; cases e_; simp

theorem keeps_execXor (c : Fin 4) (d a b : Fin 16) (s : State) {t_ : State} (e_ : execXor c d a b s = .next t_) : Kept s.still t_.still := by
  unfold execXor at e_; cases e_; simp

theorem keeps_execShl (c : Fin 4) (d a b : Fin 16) (s : State) {t_ : State} (e_ : execShl c d a b s = .next t_) : Kept s.still t_.still := by
  unfold execShl at e_; cases e_; simp

theorem keeps_execShr (c : Fin 4) (d a b : Fin 16) (s : State) {t_ : State} (e_ : execShr c d a b s = .next t_) : Kept s.still t_.still := by
  unfold execShr at e_; cases e_; simp

theorem keeps_execSar (c : Fin 4) (d a b : Fin 16) (s : State) {t_ : State} (e_ : execSar c d a b s = .next t_) : Kept s.still t_.still := by
  unfold execSar at e_; cases e_; simp

theorem keeps_execSlt (c : Fin 4) (d a b : Fin 16) (s : State) {t_ : State} (e_ : execSlt c d a b s = .next t_) : Kept s.still t_.still := by
  unfold execSlt at e_; cases e_; simp

theorem keeps_execSltu (c : Fin 4) (d a b : Fin 16) (s : State) {t_ : State} (e_ : execSltu c d a b s = .next t_) : Kept s.still t_.still := by
  unfold execSltu at e_; cases e_; simp

theorem keeps_execMul (c : Fin 4) (d a b : Fin 16) (s : State) {t_ : State} (e_ : execMul c d a b s = .next t_) : Kept s.still t_.still := by
  unfold execMul at e_; cases e_; simp

theorem keeps_execMulhs (c : Fin 4) (d a b : Fin 16) (s : State) {t_ : State} (e_ : execMulhs c d a b s = .next t_) : Kept s.still t_.still := by
  unfold execMulhs at e_; cases e_; simp

theorem keeps_execMulhu (c : Fin 4) (d a b : Fin 16) (s : State) {t_ : State} (e_ : execMulhu c d a b s = .next t_) : Kept s.still t_.still := by
  unfold execMulhu at e_; cases e_; simp

theorem keeps_execDiv (c : Fin 4) (d a b : Fin 16) (s : State) {t_ : State} (e_ : execDiv c d a b s = .next t_) : Kept s.still t_.still := by
  unfold execDiv at e_; cases e_; simp

theorem keeps_execDivu (c : Fin 4) (d a b : Fin 16) (s : State) {t_ : State} (e_ : execDivu c d a b s = .next t_) : Kept s.still t_.still := by
  unfold execDivu at e_; cases e_; simp

theorem keeps_execRem (c : Fin 4) (d a b : Fin 16) (s : State) {t_ : State} (e_ : execRem c d a b s = .next t_) : Kept s.still t_.still := by
  unfold execRem at e_; cases e_; simp

theorem keeps_execRemu (c : Fin 4) (d a b : Fin 16) (s : State) {t_ : State} (e_ : execRemu c d a b s = .next t_) : Kept s.still t_.still := by
  unfold execRemu at e_; cases e_; simp

theorem keeps_execMin (c : Fin 4) (d a b : Fin 16) (s : State) {t_ : State} (e_ : execMin c d a b s = .next t_) : Kept s.still t_.still := by
  unfold execMin at e_; cases e_; simp

theorem keeps_execMax (c : Fin 4) (d a b : Fin 16) (s : State) {t_ : State} (e_ : execMax c d a b s = .next t_) : Kept s.still t_.still := by
  unfold execMax at e_; cases e_; simp

theorem keeps_execQmul (c : Fin 4) (d a b : Fin 16) (s : State) {t_ : State} (e_ : execQmul c d a b s = .next t_) : Kept s.still t_.still := by
  unfold execQmul at e_; cases e_; simp

theorem keeps_execQadd (c : Fin 4) (d a b : Fin 16) (s : State) {t_ : State} (e_ : execQadd c d a b s = .next t_) : Kept s.still t_.still := by
  unfold execQadd at e_; cases e_; simp

theorem keeps_execQsub (c : Fin 4) (d a b : Fin 16) (s : State) {t_ : State} (e_ : execQsub c d a b s = .next t_) : Kept s.still t_.still := by
  unfold execQsub at e_; cases e_; simp

theorem keeps_execAddi (c : Fin 4) (d a : Fin 16) (imm : BitVec 18) (s : State) {t_ : State} (e_ : execAddi c d a imm s = .next t_) : Kept s.still t_.still := by
  unfold execAddi at e_; cases e_; simp

theorem keeps_execAndi (c : Fin 4) (d a : Fin 16) (imm : BitVec 18) (s : State) {t_ : State} (e_ : execAndi c d a imm s = .next t_) : Kept s.still t_.still := by
  unfold execAndi at e_; cases e_; simp

theorem keeps_execOri (c : Fin 4) (d a : Fin 16) (imm : BitVec 18) (s : State) {t_ : State} (e_ : execOri c d a imm s = .next t_) : Kept s.still t_.still := by
  unfold execOri at e_; cases e_; simp

theorem keeps_execXori (c : Fin 4) (d a : Fin 16) (imm : BitVec 18) (s : State) {t_ : State} (e_ : execXori c d a imm s = .next t_) : Kept s.still t_.still := by
  unfold execXori at e_; cases e_; simp

theorem keeps_execShli (c : Fin 4) (d a : Fin 16) (imm : BitVec 18) (s : State) {t_ : State} (e_ : execShli c d a imm s = .next t_) : Kept s.still t_.still := by
  unfold execShli at e_; cases e_; simp

theorem keeps_execShri (c : Fin 4) (d a : Fin 16) (imm : BitVec 18) (s : State) {t_ : State} (e_ : execShri c d a imm s = .next t_) : Kept s.still t_.still := by
  unfold execShri at e_; cases e_; simp

theorem keeps_execSari (c : Fin 4) (d a : Fin 16) (imm : BitVec 18) (s : State) {t_ : State} (e_ : execSari c d a imm s = .next t_) : Kept s.still t_.still := by
  unfold execSari at e_; cases e_; simp

theorem keeps_execSlti (c : Fin 4) (d a : Fin 16) (imm : BitVec 18) (s : State) {t_ : State} (e_ : execSlti c d a imm s = .next t_) : Kept s.still t_.still := by
  unfold execSlti at e_; cases e_; simp

theorem keeps_execSltiu (c : Fin 4) (d a : Fin 16) (imm : BitVec 18) (s : State) {t_ : State} (e_ : execSltiu c d a imm s = .next t_) : Kept s.still t_.still := by
  unfold execSltiu at e_; cases e_; simp

theorem keeps_execLui (c : Fin 4) (d a : Fin 16) (imm : BitVec 18) (s : State) {t_ : State} (e_ : execLui c d a imm s = .next t_) : Kept s.still t_.still := by
  unfold execLui at e_; cases e_
  refine Kept.siteS _ _ _ ?_ ?_
  · exact Kept.compute _ _ _ _ _ _ _ (.refl _)
  · exact Kept.insn _ _ _ _ _ _ (.refl _) fun s pc => .refl _

theorem keeps_execLdw (c : Fin 4) (d a : Fin 16) (imm : BitVec 18) (ecc : Fin 3) (s : State) {t_ : State} (e_ : execLdw c d a imm ecc s = .next t_) : Kept s.still t_.still := by
  unfold execLdw at e_; cases e_; simp

theorem keeps_execLdh (c : Fin 4) (d a : Fin 16) (imm : BitVec 18) (ecc : Fin 3) (s : State) {t_ : State} (e_ : execLdh c d a imm ecc s = .next t_) : Kept s.still t_.still := by
  unfold execLdh at e_; cases e_; simp

theorem keeps_execLdhu (c : Fin 4) (d a : Fin 16) (imm : BitVec 18) (ecc : Fin 3) (s : State) {t_ : State} (e_ : execLdhu c d a imm ecc s = .next t_) : Kept s.still t_.still := by
  unfold execLdhu at e_; cases e_; simp

theorem keeps_execLdb (c : Fin 4) (d a : Fin 16) (imm : BitVec 18) (ecc : Fin 3) (s : State) {t_ : State} (e_ : execLdb c d a imm ecc s = .next t_) : Kept s.still t_.still := by
  unfold execLdb at e_; cases e_; simp

theorem keeps_execLdbu (c : Fin 4) (d a : Fin 16) (imm : BitVec 18) (ecc : Fin 3) (s : State) {t_ : State} (e_ : execLdbu c d a imm ecc s = .next t_) : Kept s.still t_.still := by
  unfold execLdbu at e_; cases e_; simp

theorem keeps_execStw (c : Fin 4) (d a : Fin 16) (imm : BitVec 18) (s : State) {t_ : State} (e_ : execStw c d a imm s = .next t_) : Kept s.still t_.still := by
  unfold execStw at e_; cases e_; simp

theorem keeps_execSth (c : Fin 4) (d a : Fin 16) (imm : BitVec 18) (s : State) {t_ : State} (e_ : execSth c d a imm s = .next t_) : Kept s.still t_.still := by
  unfold execSth at e_; cases e_; simp

theorem keeps_execStb (c : Fin 4) (d a : Fin 16) (imm : BitVec 18) (s : State) {t_ : State} (e_ : execStb c d a imm s = .next t_) : Kept s.still t_.still := by
  unfold execStb at e_; cases e_; simp

theorem keeps_execXchg (c : Fin 4) (d a : Fin 16) (imm : BitVec 18) (ecc : Fin 3) (s : State) {t_ : State} (e_ : execXchg c d a imm ecc s = .next t_) : Kept s.still t_.still := by
  unfold execXchg at e_; cases e_; refine Kept.insn _ _ _ _ _ _ (.refl _) fun s pc => ?_; dsimp only; (repeat' split) <;> simp

theorem keeps_execBeq (c : Fin 4) (a b : Fin 16) (imm : BitVec 18) (s : State) {t_ : State} (e_ : execBeq c a b imm s = .next t_) : Kept s.still t_.still := by
  unfold execBeq at e_; cases e_; simp

theorem keeps_execBne (c : Fin 4) (a b : Fin 16) (imm : BitVec 18) (s : State) {t_ : State} (e_ : execBne c a b imm s = .next t_) : Kept s.still t_.still := by
  unfold execBne at e_; cases e_; simp

theorem keeps_execBlt (c : Fin 4) (a b : Fin 16) (imm : BitVec 18) (s : State) {t_ : State} (e_ : execBlt c a b imm s = .next t_) : Kept s.still t_.still := by
  unfold execBlt at e_; cases e_; simp

theorem keeps_execBge (c : Fin 4) (a b : Fin 16) (imm : BitVec 18) (s : State) {t_ : State} (e_ : execBge c a b imm s = .next t_) : Kept s.still t_.still := by
  unfold execBge at e_; cases e_; simp

theorem keeps_execBltu (c : Fin 4) (a b : Fin 16) (imm : BitVec 18) (s : State) {t_ : State} (e_ : execBltu c a b imm s = .next t_) : Kept s.still t_.still := by
  unfold execBltu at e_; cases e_; simp

theorem keeps_execBgeu (c : Fin 4) (a b : Fin 16) (imm : BitVec 18) (s : State) {t_ : State} (e_ : execBgeu c a b imm s = .next t_) : Kept s.still t_.still := by
  unfold execBgeu at e_; cases e_; simp

theorem keeps_execJl (c : Fin 4) (d : Fin 16) (imm : BitVec 22) (s : State) {t_ : State} (e_ : execJl c d imm s = .next t_) : Kept s.still t_.still := by
  unfold execJl at e_; cases e_
  exact Kept.insn _ _ _ _ _ _ (.refl _) fun s pc => .plain _ _ _ _ _ _ _ (Kept.of (.refl _) (still_setReg _ _ _ _))

theorem keeps_execJlr (c : Fin 4) (d a : Fin 16) (imm : BitVec 18) (s : State) {t_ : State} (e_ : execJlr c d a imm s = .next t_) : Kept s.still t_.still := by
  unfold execJlr at e_; cases e_; refine Kept.insn _ _ _ _ _ _ (.refl _) fun s pc => ?_; dsimp only; (repeat' split) <;> simp

theorem keeps_execSrd (c : Fin 4) (d : Fin 16) (imm : BitVec 18) (s : State) {t_ : State} (e_ : execSrd c d imm s = .next t_) : Kept s.still t_.still := by
  unfold execSrd at e_; cases e_; refine Kept.insn _ _ _ _ _ _ (.refl _) fun s pc => ?_; dsimp only; (repeat' split) <;> simp

theorem keeps_execSwr (c : Fin 4) (a : Fin 16) (imm : BitVec 18) (s : State) {t_ : State} (e_ : execSwr c a imm s = .next t_) : Kept s.still t_.still := by
  unfold execSwr at e_; cases e_; refine Kept.insn _ _ _ _ _ _ (.refl _) fun s pc => ?_; dsimp only; (repeat' split) <;> simp

theorem keeps_execWait (c : Fin 4) (d a : Fin 16) (imm : BitVec 18) (s : State) {t_ : State} (e_ : execWait c d a imm s = .next t_) : Kept s.still t_.still := by
  unfold execWait at e_; cases e_; refine Kept.insn _ _ _ _ _ _ (.refl _) fun s pc => ?_; dsimp only; (repeat' split) <;> simp

theorem unmoved_execWaitEnd (c : Fin 4) (waited : Nat) (s : State) {t_ : State} (e_ : execWaitEnd c waited s = .next t_) : t_.still = s.still := by
  unfold execWaitEnd at e_; dsimp only at e_; cases e_; (repeat' split) <;> simp

theorem unmoved_execWaitTimeout (c : Fin 4) (s : State) {t_ : State} (e_ : execWaitTimeout c s = .next t_) : t_.still = s.still := by
  unfold execWaitTimeout at e_; cases e_; (repeat' split) <;> simp

theorem keeps_execSignal (c : Fin 4) (imm : BitVec 18) (s : State) {t_ : State} (e_ : execSignal c imm s = .next t_) : Kept s.still t_.still := by
  unfold execSignal at e_; cases e_
  exact Kept.insn _ _ _ _ _ _ (.refl _) fun s pc => RanKept.ite _ _ _ (fun _ => .refl _) fun _ => .plain _ _ _ _ _ _ _ (Kept.of (.refl _) (still_raiseSource _ _))

theorem keeps_execBrk (c : Fin 4) (imm : BitVec 18) (s : State) {t_ : State} (e_ : execBrk c imm s = .next t_) : Kept s.still t_.still := by
  unfold execBrk at e_; cases e_
  exact Kept.insn _ _ _ _ _ _ (.refl _) fun s pc => RanKept.ite _ _ _
    (fun _ => ⟨.refl _, fun _ => rfl, fun b t ht => Kept.setCore t c _ ht id⟩) fun _ => .refl _

theorem keeps_execEret (c : Fin 4) (s : State) {t_ : State} (e_ : execEret c s = .next t_) : Kept s.still t_.still := by
  unfold execEret at e_; cases e_
  exact Kept.insn _ _ _ _ _ _ (.refl _) fun s pc => RanKept.ite _ _ _ (fun _ => .refl _)
    fun _ => ⟨.refl _, fun _ => rfl, fun b t ht => Kept.setCore t c _ ht fun x => by rw [rams_trapReturn]; exact x⟩

theorem keeps_execFence (c : Fin 4) (s : State) {t_ : State} (e_ : execFence c s = .next t_) : Kept s.still t_.still := by
  unfold execFence at e_; cases e_; refine Kept.insn _ _ _ _ _ _ (.refl _) fun s pc => ?_; dsimp only; (repeat' split) <;> simp

theorem unmoved_execInterruptEntry (c : Fin 4) (s : State) {t_ : State} (e_ : execInterruptEntry c s = .next t_) : t_.still = s.still := by
  unfold execInterruptEntry at e_; dsimp only at e_; cases e_; (repeat' split) <;> simp

theorem keeps_execThermalConversionEnd (r : ThermalReading) (s : State) {t_ : State} (e_ : execThermalConversionEnd r s = .next t_) : Kept s.still t_.still := by
  unfold execThermalConversionEnd at e_; cases e_; refine Kept.served _ _ (.refl _) fun s => ?_; (try dsimp only); (repeat' split) <;> simp

end Sys2Proof.Machine
end

