-- ==== Sys2Proof/Laws/KeptRowsC.lean ====
section
/-! SUPPORT. Queue and memories, command by command: most leave them as they are (unmoved_…), the others keep them (keeps_…). -/

set_option linter.all false

namespace Sys2Proof.Machine

open Sys2Proof

theorem unmoved_execThermalSchedule (s : State) {t_ : State} (e_ : execThermalSchedule s = .next t_) : t_.still = s.still := by
  unfold execThermalSchedule at e_; cases e_; simp

theorem unmoved_execThermalRead (p : Path) (i : Fin 6) (s : State) {t_ : State} (e_ : execThermalRead p i s = .next t_) : t_.still = s.still := by
  unfold execThermalRead at e_; cases e_; refine still_served _ _ fun s => ?_; (try dsimp only); (repeat' split) <;> simp

theorem unmoved_execBankEnable (p : Path) (bank : Nat) (s : State) {t_ : State} (e_ : execBankEnable p bank s = .next t_) : t_.still = s.still := by
  unfold execBankEnable at e_; cases e_; simp

theorem keeps_execThermalRestart (p : Path) (s : State) {t_ : State} (e_ : execThermalRestart p s = .next t_) : Kept s.still t_.still := by
  unfold execThermalRestart at e_; cases e_; refine Kept.commanded _ _ _ _ _ (.refl _) fun s => ?_; (try dsimp only); (repeat' split) <;> simp

theorem unmoved_execThermalStatisticsClear (p : Path) (s : State) {t_ : State} (e_ : execThermalStatisticsClear p s = .next t_) : t_.still = s.still := by
  unfold execThermalStatisticsClear at e_; cases e_; simp

theorem unmoved_execCheckValueRecompute (s : State) {t_ : State} (e_ : execCheckValueRecompute s = .next t_) : t_.still = s.still := by
  unfold execCheckValueRecompute at e_; cases e_
  have hd : ∀ (x : State) (d : Dict), ({ x with dict := d } : State).still = x.still := fun _ _ => rfl
  exact stillIte ((hd _ _).trans (still_putN _ _ _)) rfl

theorem unmoved_execStoreParameters (p : Path) (part : Fin 3) (value : Nat) (s : State) {t_ : State} (e_ : execStoreParameters p part value s = .next t_) : t_.still = s.still := by
  unfold execStoreParameters at e_; cases e_; simp

theorem unmoved_execRestoreDefaults (p : Path) (part : Fin 3) (value : Nat) (s : State) {t_ : State} (e_ : execRestoreDefaults p part value s = .next t_) : t_.still = s.still := by
  unfold execRestoreDefaults at e_; cases e_; simp

theorem keeps_execRestoreDone (s : State) {t_ : State} (e_ : execRestoreDone s = .next t_) : Kept s.still t_.still := by
  unfold execRestoreDone at e_; cases e_
  refine Kept.served _ _ (.refl _) fun s => ?_
  exact Kept.saveDone _ _ (.refl _)

theorem keeps_execProgramStart (p : Path) (c : Fin 4) (intact : Bool) (s : State) {t_ : State} (e_ : execProgramStart p c intact s = .next t_) : Kept s.still t_.still := by
  unfold execProgramStart at e_; cases e_; refine Kept.commanded _ _ _ _ _ (.refl _) fun s => ?_; (try dsimp only); (repeat' split) <;> simp

theorem unmoved_execProgramStop (p : Path) (c : Fin 4) (s : State) {t_ : State} (e_ : execProgramStop p c s = .next t_) : t_.still = s.still := by
  unfold execProgramStop at e_; cases e_; simp

theorem keeps_execProgramRestart (p : Path) (c : Fin 4) (intact : Bool) (s : State) {t_ : State} (e_ : execProgramRestart p c intact s = .next t_) : Kept s.still t_.still := by
  unfold execProgramRestart at e_; cases e_; refine Kept.commanded _ _ _ _ _ (.refl _) fun s => ?_; (try dsimp only); (repeat' split) <;> simp

theorem unmoved_execProgramImageWrite (p : Path) (c : Fin 4) (data : List Byte) (s : State) {t_ : State} (e_ : execProgramImageWrite p c data s = .next t_) : t_.still = s.still := by
  unfold execProgramImageWrite at e_; cases e_; simp

theorem unmoved_execEraseSlot (p : Path) (slot : Nat) (s : State) {t_ : State} (e_ : execEraseSlot p slot s = .next t_) : t_.still = s.still := by
  unfold execEraseSlot at e_; cases e_; simp

theorem unmoved_execFirmwareImageWrite (p : Path) (data : List Byte) (done : Bool) (s : State) {t_ : State} (e_ : execFirmwareImageWrite p data done s = .next t_) : t_.still = s.still := by
  unfold execFirmwareImageWrite at e_; cases e_; simp

theorem keeps_execConfigurationImageWrite (p : Path) (data : List Byte) (s : State) {t_ : State} (e_ : execConfigurationImageWrite p data s = .next t_) : Kept s.still t_.still := by
  unfold execConfigurationImageWrite at e_; cases e_
  refine Kept.writeNow _ _ _ _ _ (.refl _) fun s v => ?_
  rw [still_answer]; exact Kept.configImage _ _ (.refl _)

theorem unmoved_execCoreStatisticsClear (p : Path) (c : Fin 4) (s : State) {t_ : State} (e_ : execCoreStatisticsClear p c s = .next t_) : t_.still = s.still := by
  unfold execCoreStatisticsClear at e_; cases e_; simp

theorem unmoved_execDebugUnlock (s : State) {t_ : State} (e_ : execDebugUnlock s = .next t_) : t_.still = s.still := by
  unfold execDebugUnlock at e_; cases e_; simp

theorem unmoved_execRouteChange (p : Path) (i : Fin 128) (v : BitVec 32) (s : State) {t_ : State} (e_ : execRouteChange p i v s = .next t_) : t_.still = s.still := by
  unfold execRouteChange at e_; cases e_; simp

theorem unmoved_execSrcPendClear (c : Fin 4) (i : Fin 8) (mask : BitVec 32) (s : State) {t_ : State} (e_ : execSrcPendClear c i mask s = .next t_) : t_.still = s.still := by
  unfold execSrcPendClear at e_; cases e_; simp

theorem unmoved_execEventRouterCountersClear (p : Path) (s : State) {t_ : State} (e_ : execEventRouterCountersClear p s = .next t_) : t_.still = s.still := by
  unfold execEventRouterCountersClear at e_; cases e_; simp

theorem unmoved_execTimerRun (c : Fin 4) (t : Fin 2) (periodic : Bool) (s : State) {t_ : State} (e_ : execTimerRun c t periodic s = .next t_) : t_.still = s.still := by
  unfold execTimerRun at e_; cases e_; simp

theorem unmoved_execTimerStop (c : Fin 4) (t : Fin 2) (s : State) {t_ : State} (e_ : execTimerStop c t s = .next t_) : t_.still = s.still := by
  unfold execTimerStop at e_; cases e_; simp

theorem unmoved_execTimerExpiry (c : Fin 4) (t : Fin 2) (s : State) {t_ : State} (e_ : execTimerExpiry c t s = .next t_) : t_.still = s.still := by
  unfold execTimerExpiry at e_; cases e_; simp

theorem unmoved_execCounterOverflow (c : Fin 4) (j : Fin 8) (s : State) {t_ : State} (e_ : execCounterOverflow c j s = .next t_) : t_.still = s.still := by
  unfold execCounterOverflow at e_; cases e_; simp

theorem unmoved_execPmovfClear (c : Fin 4) (mask : BitVec 8) (s : State) {t_ : State} (e_ : execPmovfClear c mask s = .next t_) : t_.still = s.still := by
  unfold execPmovfClear at e_; cases e_; simp

theorem unmoved_execCycleLoRead (c : Fin 4) (s : State) {t_ : State} (e_ : execCycleLoRead c s = .next t_) : t_.still = s.still := by
  unfold execCycleLoRead at e_; cases e_; simp

theorem unmoved_execPerformanceCountersClear (p : Path) (c : Fin 4) (s : State) {t_ : State} (e_ : execPerformanceCountersClear p c s = .next t_) : t_.still = s.still := by
  unfold execPerformanceCountersClear at e_; cases e_; simp

theorem unmoved_execSampleIntervalEnd (c : Fin 4) (s : State) {t_ : State} (e_ : execSampleIntervalEnd c s = .next t_) : t_.still = s.still := by
  unfold execSampleIntervalEnd at e_; cases e_; simp

theorem unmoved_execSampleRecordReady (c : Fin 4) (s : State) {t_ : State} (e_ : execSampleRecordReady c s = .next t_) : t_.still = s.still := by
  unfold execSampleRecordReady at e_; cases e_; refine still_served _ _ fun s => ?_; (try dsimp only); (repeat' split) <;> simp

theorem unmoved_execSampleRecordLock (c : Fin 4) (s : State) {t_ : State} (e_ : execSampleRecordLock c s = .next t_) : t_.still = s.still := by
  unfold execSampleRecordLock at e_; cases e_; simp

theorem unmoved_execSampleRecordRelease (c : Fin 4) (s : State) {t_ : State} (e_ : execSampleRecordRelease c s = .next t_) : t_.still = s.still := by
  unfold execSampleRecordRelease at e_; cases e_; simp

theorem unmoved_execHostWatchdogExpiry (s : State) {t_ : State} (e_ : execHostWatchdogExpiry s = .next t_) : t_.still = s.still := by
  unfold execHostWatchdogExpiry at e_; cases e_; simp

theorem unmoved_execHeartbeat (p : Path) (v : BitVec 16) (s : State) {t_ : State} (e_ : execHeartbeat p v s = .next t_) : t_.still = s.still := by
  unfold execHeartbeat at e_; cases e_; simp

theorem unmoved_execHostPathsWrite (p : Path) (v : BitVec 8) (s : State) {t_ : State} (e_ : execHostPathsWrite p v s = .next t_) : t_.still = s.still := by
  unfold execHostPathsWrite at e_; cases e_; simp

theorem unmoved_execHostAcknowledge (p : Path) (s : State) {t_ : State} (e_ : execHostAcknowledge p s = .next t_) : t_.still = s.still := by
  unfold execHostAcknowledge at e_; cases e_; simp

theorem unmoved_execOverlayEntryListWrite (p : Path) (m : Fin 16) (data : List Byte) (s : State) {t_ : State} (e_ : execOverlayEntryListWrite p m data s = .next t_) : t_.still = s.still := by
  unfold execOverlayEntryListWrite at e_; cases e_; simp

theorem unmoved_execModeSwitchRequest (p : Path) (m : BitVec 8) (s : State) {t_ : State} (e_ : execModeSwitchRequest p m s = .next t_) : t_.still = s.still := by
  unfold execModeSwitchRequest at e_; cases e_; refine still_commanded _ _ _ _ _ fun s => ?_; (try dsimp only); (repeat' split) <;> simp

theorem keeps_execPllLockLoss (s : State) {t_ : State} (e_ : execPllLockLoss s = .next t_) : Kept s.still t_.still := by
  unfold execPllLockLoss at e_; (try dsimp only at e_); cases e_; (repeat' split) <;> simp

theorem keeps_execP1BrownOut (s : State) {t_ : State} (e_ : execP1BrownOut s = .next t_) : Kept s.still t_.still := by
  unfold execP1BrownOut at e_; cases e_
  refine Kept.siteS _ _ _ (Kept.enterReset _ _ ?_) (.refl _)
  rw [still_saveOpTime]
  exact Kept.flushAsh _ _ (Kept.recordNow _ _ (Kept.of (.refl _) (still_bump _ _ _)))

theorem keeps_execP1BrownOutAsleep (aon : Nat) (s : State) {t_ : State} (e_ : execP1BrownOutAsleep aon s = .next t_) : Kept s.still t_.still := by
  unfold execP1BrownOutAsleep at e_; dsimp only at e_; cases e_; (repeat' split) <;> simp

theorem unmoved_execP1LowSet (s : State) {t_ : State} (e_ : execP1LowSet s = .next t_) : t_.still = s.still := by
  unfold execP1LowSet at e_; cases e_; simp

theorem unmoved_execP1LowClear (s : State) {t_ : State} (e_ : execP1LowClear s = .next t_) : t_.still = s.still := by
  unfold execP1LowClear at e_; cases e_; simp

theorem unmoved_execP2Loss (s : State) {t_ : State} (e_ : execP2Loss s = .next t_) : t_.still = s.still := by
  unfold execP2Loss at e_; cases e_; simp

theorem unmoved_execP2Restored (s : State) {t_ : State} (e_ : execP2Restored s = .next t_) : t_.still = s.still := by
  unfold execP2Restored at e_; cases e_; simp

theorem unmoved_execCellCheck (mv : BitVec 16) (s : State) {t_ : State} (e_ : execCellCheck mv s = .next t_) : t_.still = s.still := by
  unfold execCellCheck at e_; cases e_; simp

theorem unmoved_execCrystalStopped (s : State) {t_ : State} (e_ : execCrystalStopped s = .next t_) : t_.still = s.still := by
  unfold execCrystalStopped at e_; dsimp only at e_; cases e_; (repeat' split) <;> simp

theorem unmoved_execOperatingTimeSave (s : State) {t_ : State} (e_ : execOperatingTimeSave s = .next t_) : t_.still = s.still := by
  unfold execOperatingTimeSave at e_; cases e_; simp

theorem unmoved_execSupplyCountersClear (p : Path) (s : State) {t_ : State} (e_ : execSupplyCountersClear p s = .next t_) : t_.still = s.still := by
  unfold execSupplyCountersClear at e_; cases e_; simp

theorem unmoved_execPowerStatisticsClear (p : Path) (s : State) {t_ : State} (e_ : execPowerStatisticsClear p s = .next t_) : t_.still = s.still := by
  unfold execPowerStatisticsClear at e_; cases e_; simp

theorem unmoved_execPowerStateEvaluation (s : State) {t_ : State} (e_ : execPowerStateEvaluation s = .next t_) : t_.still = s.still := by
  unfold execPowerStateEvaluation at e_; dsimp only at e_; cases e_
  have hp : ∀ (x : State) (p : Power), ({ x with power := p } : State).still = x.still := fun _ _ => rfl
  (repeat' split) <;> (try rfl) <;> simp only [still_returnToBlaze, still_decided, still_bankingNotice, still_abandonEntry, hp]

theorem keeps_execSleepEntryCommit (s : State) {t_ : State} (e_ : execSleepEntryCommit s = .next t_) : Kept s.still t_.still := by
  unfold execSleepEntryCommit at e_; cases e_
  (repeat' split) <;> simp

theorem unmoved_execRtcAlarm (aon : Nat) (s : State) {t_ : State} (e_ : execRtcAlarm aon s = .next t_) : t_.still = s.still := by
  unfold execRtcAlarm at e_; cases e_; simp

theorem unmoved_execWakeInput (aon : Nat) (s : State) {t_ : State} (e_ : execWakeInput aon s = .next t_) : t_.still = s.still := by
  unfold execWakeInput at e_; cases e_; simp

theorem unmoved_execCanWake (b : Fin 2) (frame : Option CanFrame) (aon : Nat) (s : State) {t_ : State} (e_ : execCanWake b frame aon s = .next t_) : t_.still = s.still := by
  unfold execCanWake at e_; cases e_; simp

theorem unmoved_execWakeFromBanked (s : State) {t_ : State} (e_ : execWakeFromBanked s = .next t_) : t_.still = s.still := by
  unfold execWakeFromBanked at e_; dsimp only at e_; cases e_; (repeat' split) <;> simp

theorem unmoved_execContactTimeReached (aon : Nat) (s : State) {t_ : State} (e_ : execContactTimeReached aon s = .next t_) : t_.still = s.still := by
  unfold execContactTimeReached at e_; cases e_; simp

theorem unmoved_execContactWindowEnd (s : State) {t_ : State} (e_ : execContactWindowEnd s = .next t_) : t_.still = s.still := by
  unfold execContactWindowEnd at e_; cases e_; simp

theorem unmoved_execUsbVbusChange (present : Bool) (s : State) {t_ : State} (e_ : execUsbVbusChange present s = .next t_) : t_.still = s.still := by
  unfold execUsbVbusChange at e_; cases e_; simp

theorem unmoved_execSleepRefusalHoldEnd (s : State) {t_ : State} (e_ : execSleepRefusalHoldEnd s = .next t_) : t_.still = s.still := by
  unfold execSleepRefusalHoldEnd at e_; cases e_; simp

theorem keeps_execStoreDone (s : State) {t_ : State} (e_ : execStoreDone s = .next t_) : Kept s.still t_.still := by
  unfold execStoreDone at e_; cases e_
  refine Kept.served _ _ (.refl _) fun s => ?_
  have h : Kept s.still (s.saveDone false).still := Kept.saveDone _ _ (.refl _)
  refine Kept.siteS _ _ _ (Kept.firstStopped _ ?_) h
  exact h.of (still_putBit _ _ _ _)

theorem keeps_execColdStart (e : StartEnv) (s : State) {t_ : State} (e_ : execColdStart e s = .next t_) : Kept s.still t_.still := by
  unfold execColdStart at e_; (try dsimp only at e_); cases e_; (repeat' split) <;> simp

theorem keeps_execWarmBoot (e : StartEnv) (s : State) {t_ : State} (e_ : execWarmBoot e s = .next t_) : Kept s.still t_.still := by
  unfold execWarmBoot at e_; dsimp only at e_; cases e_; (repeat' split) <;> simp

theorem keeps_execConfirm (p : Path) (s : State) {t_ : State} (e_ : execConfirm p s = .next t_) : Kept s.still t_.still := by
  unfold execConfirm at e_; cases e_; refine Kept.commanded _ _ _ _ _ (.refl _) fun s => ?_; (try dsimp only); (repeat' split) <;> simp

theorem keeps_execConfirmationDeadline (s : State) {t_ : State} (e_ : execConfirmationDeadline s = .next t_) : Kept s.still t_.still := by
  unfold execConfirmationDeadline at e_; (try dsimp only at e_); cases e_; (repeat' split) <;> simp

theorem keeps_execWatchdogReset (s : State) {t_ : State} (e_ : execWatchdogReset s = .next t_) : Kept s.still t_.still := by
  unfold execWatchdogReset at e_; (try dsimp only at e_); cases e_; (repeat' split) <;> simp

theorem keeps_execHotStartRecheck (e : StartEnv) (s : State) {t_ : State} (e_ : execHotStartRecheck e s = .next t_) : Kept s.still t_.still := by
  unfold execHotStartRecheck at e_; cases e_
  have h0 : Kept s.still (s.timeInReset e).still := Kept.of (.refl _) (still_timeInReset _ _)
  have h : Kept s.still ({ s.timeInReset e with startup := { s.startup with hotHold := false }, thermal := { s.thermal with shut := false } } : State).still := h0
  refine Kept.siteS _ _ _ (.refl _) (Kept.siteS _ _ _ (h0.of (still_startReadings _ _)) ?_)
  exact Kept.siteS _ _ _ (Kept.testAndGo _ _ h) (Kept.verifyAndGo _ _ h)

theorem keeps_execKindlingExit (p : Path) (s : State) {t_ : State} (e_ : execKindlingExit p s = .next t_) : Kept s.still t_.still := by
  unfold execKindlingExit at e_; cases e_; refine Kept.commanded _ _ _ _ _ (.refl _) fun s => ?_; (try dsimp only); (repeat' split) <;> simp

theorem keeps_execKindlingTrial (p : Path) (s : State) {t_ : State} (e_ : execKindlingTrial p s = .next t_) : Kept s.still t_.still := by
  unfold execKindlingTrial at e_; cases e_; refine Kept.commanded _ _ _ _ _ (.refl _) fun s => ?_; (try dsimp only); (repeat' split) <;> simp

theorem keeps_execAutomaticTrial (s : State) {t_ : State} (e_ : execAutomaticTrial s = .next t_) : Kept s.still t_.still := by
  unfold execAutomaticTrial at e_; (try dsimp only at e_); cases e_; (repeat' split) <;> simp

theorem keeps_execArm (p : Path) (s : State) {t_ : State} (e_ : execArm p s = .next t_) : Kept s.still t_.still := by
  unfold execArm at e_; cases e_; simp

theorem keeps_execStart (p : Path) (s : State) {t_ : State} (e_ : execStart p s = .next t_) : Kept s.still t_.still := by
  unfold execStart at e_; cases e_; simp

theorem keeps_execHalt (p : Path) (s : State) {t_ : State} (e_ : execHalt p s = .next t_) : Kept s.still t_.still := by
  unfold execHalt at e_; cases e_; simp

theorem keeps_execStop (p : Path) (s : State) {t_ : State} (e_ : execStop p s = .next t_) : Kept s.still t_.still := by
  unfold execStop at e_; cases e_; simp

theorem keeps_execResetFault (p : Path) (s : State) {t_ : State} (e_ : execResetFault p s = .next t_) : Kept s.still t_.still := by
  unfold execResetFault at e_; cases e_; simp

theorem unmoved_execDictWrite (p : Path) (index : BitVec 16) (sub : BitVec 8) (data : List Byte) (s : State) {t_ : State} (e_ : execDictWrite p index sub data s = .next t_) : t_.still = s.still := by
  unfold execDictWrite at e_; cases e_; simp

theorem unmoved_execServicePortRequest (index : BitVec 16) (sub : BitVec 8) (data : Option (List Byte)) (s : State) {t_ : State} (e_ : execServicePortRequest index sub data s = .next t_) : t_.still = s.still := by
  unfold execServicePortRequest at e_; cases e_; refine still_served _ _ fun s => ?_; (try dsimp only); (repeat' split) <;> simp

theorem unmoved_execDictReqReceived (m : FlueMsg) (r : DictReq) (s : State) {t_ : State} (e_ : execDictReqReceived m r s = .next t_) : t_.still = s.still := by
  unfold execDictReqReceived at e_
  split at e_
  · cases e_; (repeat' split) <;> simp
  · exact unmoved_execFrameForward _ _ _ e_

theorem unmoved_execDictRspReceived (m : FlueMsg) (r : DictRsp) (s : State) {t_ : State} (e_ : execDictRspReceived m r s = .next t_) : t_.still = s.still := by
  unfold execDictRspReceived at e_
  split at e_
  · dsimp only at e_; cases e_; (repeat' split) <;> simp
  · exact unmoved_execFrameForward _ _ _ e_

theorem unmoved_execDomSegReceived (m : FlueMsg) (d : DomSeg) (s : State) {t_ : State} (e_ : execDomSegReceived m d s = .next t_) : t_.still = s.still := by
  unfold execDomSegReceived at e_
  split at e_
  · dsimp only at e_; cases e_; (repeat' split) <;> simp
  · exact unmoved_execFrameForward _ _ _ e_

theorem unmoved_execFanOutWrite (p : Path) (e : Fin 16) (v : BitVec 32) (s : State) {t_ : State} (e_ : execFanOutWrite p e v s = .next t_) : t_.still = s.still := by
  unfold execFanOutWrite at e_; cases e_; simp

theorem unmoved_execFanOutAnswerTimeout (e : Fin 16) (seat : Fin 15) (s : State) {t_ : State} (e_ : execFanOutAnswerTimeout e seat s = .next t_) : t_.still = s.still := by
  unfold execFanOutAnswerTimeout at e_; cases e_; refine still_served _ _ fun s => ?_; (try dsimp only); (repeat' split) <;> simp

theorem unmoved_execNmtStartRemoteNode (node : Fin 128) (s : State) {t_ : State} (e_ : execNmtStartRemoteNode node s = .next t_) : t_.still = s.still := by
  unfold execNmtStartRemoteNode at e_; cases e_; simp

theorem unmoved_execNmtStopRemoteNode (node : Fin 128) (s : State) {t_ : State} (e_ : execNmtStopRemoteNode node s = .next t_) : t_.still = s.still := by
  unfold execNmtStopRemoteNode at e_; cases e_; simp

theorem unmoved_execNmtEnterPreOperational (node : Fin 128) (s : State) {t_ : State} (e_ : execNmtEnterPreOperational node s = .next t_) : t_.still = s.still := by
  unfold execNmtEnterPreOperational at e_; cases e_; simp

theorem keeps_execNmtResetNode (node : Fin 128) (s : State) {t_ : State} (e_ : execNmtResetNode node s = .next t_) : Kept s.still t_.still := by
  unfold execNmtResetNode at e_; (try dsimp only at e_); cases e_; (repeat' split) <;> simp

theorem unmoved_execNmtResetCommunication (node : Fin 128) (s : State) {t_ : State} (e_ : execNmtResetCommunication node s = .next t_) : t_.still = s.still := by
  unfold execNmtResetCommunication at e_; cases e_; simp

theorem unmoved_execSdoInitiateDownload (d : List Byte) (s : State) {t_ : State} (e_ : execSdoInitiateDownload d s = .next t_) : t_.still = s.still := by
  unfold execSdoInitiateDownload at e_; cases e_
  refine still_sdoBegin _ _ _ fun s => ?_
  dsimp only; (repeat' split) <;> simp

theorem unmoved_execSdoDownloadSegment (d : List Byte) (s : State) {t_ : State} (e_ : execSdoDownloadSegment d s = .next t_) : t_.still = s.still := by
  unfold execSdoDownloadSegment at e_; cases e_; simp

theorem unmoved_execSdoInitiateUpload (d : List Byte) (s : State) {t_ : State} (e_ : execSdoInitiateUpload d s = .next t_) : t_.still = s.still := by
  unfold execSdoInitiateUpload at e_; cases e_; simp

theorem unmoved_execSdoUploadSegment (d : List Byte) (s : State) {t_ : State} (e_ : execSdoUploadSegment d s = .next t_) : t_.still = s.still := by
  unfold execSdoUploadSegment at e_; cases e_; simp

theorem unmoved_execSdoBlockDownload (d : List Byte) (s : State) {t_ : State} (e_ : execSdoBlockDownload d s = .next t_) : t_.still = s.still := by
  unfold execSdoBlockDownload at e_; cases e_
  dsimp only
  refine stillIte rfl (stillIte (by simp) (stillIte ?_ (stillIte (by simp) (still_sdoBegin _ _ _ fun s => ?_))))
  · (repeat' split) <;> simp
  · (repeat' split) <;> simp

theorem unmoved_execSdoBlockUpload (d : List Byte) (s : State) {t_ : State} (e_ : execSdoBlockUpload d s = .next t_) : t_.still = s.still := by
  unfold execSdoBlockUpload at e_; dsimp only at e_; cases e_; (repeat' split) <;> simp

theorem unmoved_execSdoAbort (d : List Byte) (s : State) {t_ : State} (e_ : execSdoAbort d s = .next t_) : t_.still = s.still := by
  unfold execSdoAbort at e_; cases e_; simp

theorem unmoved_execRpdoReceived (k : Fin 8) (data : List Byte) (s : State) {t_ : State} (e_ : execRpdoReceived k data s = .next t_) : t_.still = s.still := by
  unfold execRpdoReceived at e_; cases e_; simp

theorem unmoved_execTpdoTransmit (k : Fin 8) (inhibitEnd : Bool) (s : State) {t_ : State} (e_ : execTpdoTransmit k inhibitEnd s = .next t_) : t_.still = s.still := by
  unfold execTpdoTransmit at e_; cases e_; simp

theorem unmoved_execSyncReceived (f : CanFrame) (s : State) {t_ : State} (e_ : execSyncReceived f s = .next t_) : t_.still = s.still := by
  unfold execSyncReceived at e_; cases e_
  refine stillIte rfl ?_
  refine (still_foldl _ _ _ fun s k => still_tpdoSync _ _ _).trans ((still_foldl _ _ _ fun s k => ?_).trans (still_setOpen _ _))
  split <;> simp

theorem unmoved_execHeartbeatProduce (s : State) {t_ : State} (e_ : execHeartbeatProduce s = .next t_) : t_.still = s.still := by
  unfold execHeartbeatProduce at e_; cases e_; simp

theorem unmoved_execHeartbeatConsumerTimeout (i : Fin 4) (s : State) {t_ : State} (e_ : execHeartbeatConsumerTimeout i s = .next t_) : t_.still = s.still := by
  unfold execHeartbeatConsumerTimeout at e_; cases e_; simp

theorem keeps_execSvcExit (c : Fin 4) (s : State) {t_ : State} (e_ : execSvcExit c s = .next t_) : Kept s.still t_.still := by
  unfold execSvcExit at e_; cases e_; refine Kept.insn _ _ _ _ _ _ (.refl _) fun s pc => ?_; dsimp only; (repeat' split) <;> simp

theorem keeps_execSvcEventReturn (c : Fin 4) (s : State) {t_ : State} (e_ : execSvcEventReturn c s = .next t_) : Kept s.still t_.still := by
  unfold execSvcEventReturn at e_; cases e_; refine Kept.insn _ _ _ _ _ _ (.refl _) fun s pc => ?_; dsimp only; (repeat' split) <;> simp

theorem keeps_execSvcLog (c : Fin 4) (s : State) {t_ : State} (e_ : execSvcLog c s = .next t_) : Kept s.still t_.still := by
  unfold execSvcLog at e_; cases e_; refine Kept.insn _ _ _ _ _ _ (.refl _) fun s pc => ?_; dsimp only; (repeat' split) <;> simp

theorem keeps_execSvcDomRead (c : Fin 4) (s : State) {t_ : State} (e_ : execSvcDomRead c s = .next t_) : Kept s.still t_.still := by
  unfold execSvcDomRead at e_; cases e_; refine Kept.insn _ _ _ _ _ _ (.refl _) fun s pc => ?_; dsimp only; (repeat' split) <;> simp

theorem keeps_execSvcDomWrite (c : Fin 4) (s : State) {t_ : State} (e_ : execSvcDomWrite c s = .next t_) : Kept s.still t_.still := by
  unfold execSvcDomWrite at e_; cases e_; refine Kept.insn _ _ _ _ _ _ (.refl _) fun s pc => ?_; dsimp only; (repeat' split) <;> simp

theorem keeps_execSvcSetLevels (c : Fin 4) (s : State) {t_ : State} (e_ : execSvcSetLevels c s = .next t_) : Kept s.still t_.still := by
  unfold execSvcSetLevels at e_; cases e_; refine Kept.insn _ _ _ _ _ _ (.refl _) fun s pc => ?_; dsimp only; (repeat' split) <;> simp

theorem keeps_execSvcUnlisted (c : Fin 4) (num : BitVec 12) (s : State) {t_ : State} (e_ : execSvcUnlisted c num s = .next t_) : Kept s.still t_.still := by
  unfold execSvcUnlisted at e_; cases e_
  exact Kept.siteS _ _ _ (.refl _) (Kept.svc _ _ _ _ _ (.refl _) fun s k => Kept.of (.refl _) (still_svcResult _ _ _))

theorem keeps_execModeSwitchSwap (s : State) {t_ : State} (e_ : execModeSwitchSwap s = .next t_) : Kept s.still t_.still := by
  unfold execModeSwitchSwap at e_; cases e_
  split
  · exact .refl _
  · rename_i q _
    have h : Kept s.still ({ s with clock := { s.clock with tick := max s.clock.tick q.at_ } } : State).still := .refl _
    refine Kept.siteS _ _ _ ?_ (.refl _)
    exact Kept.noClock _ _ (Kept.tickStart _ h)

theorem keeps_execBellowsTick (i : TickInput) (s : State) {t_ : State} (e_ : execBellowsTick i s = .next t_) : Kept s.still t_.still := by
  unfold execBellowsTick at e_; cases e_
  refine Kept.siteS _ _ _ (Kept.of (.refl _) (still_elapse _ _)) (Kept.served _ _ (.refl _) fun s => ?_)
  dsimp only
  rw [still_sendReplies]
  have h : Kept s.still (State.tickStart (((((s.seeTriggers.timePasses.measure i.measured).measureLoops i.loops).measureCauses i.causes).wakeLevel i.wake).kelsisTriggered)).still :=
    Kept.tickStart _ (Kept.of (.refl _) (by simp))
  split
  · exact h.of (by simp)
  · exact h

end Sys2Proof.Machine
end

