-- ==== Sys2Proof/Tests/Slice0.lean ====
section
/-! SUPPORT. Small tests whose expected results are the manual's worked examples and tables, a term that each check of
well-formedness refuses, and for each statement with hypotheses a state that meets them. -/

namespace Sys2Proof.Tests

set_option Elab.async false

open Sys2Proof Sys2Proof.Machine

/-! ### Helpers -/

/-- The state after reset with the module awake: the clocks run. -/
def awake : State := { State.reset with power := { State.reset.power with phase := .awake } }

/-- The hearth core's path, and the service port's. -/
def hearth : Path := ⟨.hearth, 0⟩
def service : Path := ⟨.service, 0⟩

/-- Running values laid over a state. -/
def with_ (s : State) (l : List (Nat × Nat)) : State := l.foldl (fun s e => s.putN e.1 e.2) s

/-- The command answers a next state that passes a check. -/
def gives (c : Instr) (s : State) (check : State → Bool) : Bool :=
  match exec c s with
  | .next t => check t
  | _ => false

/-- A write of `v` to `key` passes the checks; what `Accepts` says, as a Bool. -/
def passes (s : State) (p : Path) (key v : Nat) : Bool :=
  s.clocksRun && (match s.checkWrite p key (.bytes (bytesFor key v)) with | .ok _ => true | .error _ => false)

theorem accepts_of_passes {s : State} {p : Path} {key v : Nat} (h : passes s p key v = true) : Accepts s p key v := by
  unfold passes at h
  rw [Bool.and_eq_true] at h
  refine ⟨h.1, ?_⟩
  generalize s.checkWrite p key (.bytes (bytesFor key v)) = r at h
  cases r with
  | ok d => exact ⟨d, rfl⟩
  | error e => exact absurd h.2 (by simp)

/-- The same for a list of writes. -/
theorem accepts_all {s : State} {p : Path} {l : List (Nat × Nat)} (h : (l.all fun e => passes s p e.1 e.2) = true) :
    ∀ e ∈ l, Accepts s p e.1 e.2 := fun e he => accepts_of_passes (List.all_eq_true.mp h e he)

/-! ### Well-formedness: a term that each check refuses -/

/-- A header with a field too wide. -/
def badHeader : FlueMsg := ⟨0, 0x88B5, ⟨1, 0, 0, 0, 0⟩, 256, 0, 0, 0, 0, true, true, true, true⟩
def goodHeader : FlueMsg := ⟨0, 0x88B5, ⟨1, 0, 0, 0, 0⟩, 32, 0x11000000, 0x12000000, 0, 0, true, true, true, true⟩

theorem test_wellFormed_refuses_paths : ([.arm ⟨.service, 3⟩, .confirm ⟨.canA, 2⟩, .traceArm ⟨.flue, 2 ^ 32⟩] : List Instr).all (fun c => !c.wf) = true := by
  decide

theorem test_wellFormed_refuses_values : ([.levelRequest service (2 ^ 32), .servicePasscodeWrite service (2 ^ 32),
    .storeParameters service 0 (2 ^ 32), .restoreDefaults service 0 (2 ^ 32), .loadFromFile hearth 0 256, .eccWordRewrite 2048,
    .svcUnlisted 1 5, .eraseSlot hearth 0, .eraseSlot hearth 4, .transmitCancel hearth 0 65536 false false,
    .objectStatusClear hearth 0 0 65536, .ashClear hearth 65536, .bankEnable hearth 3] : List Instr).all (fun c => !c.wf) = true := by
  decide

theorem test_wellFormed_refuses_items : ([.programStart hearth 0 true, .programStop hearth 0, .programRestart hearth 0 true,
    .programImageWrite hearth 0 [], .tachPulse 0 (some 0), .pulseEdge 0 true (some 0)] : List Instr).all (fun c => !c.wf) = true := by
  decide

theorem test_wellFormed_refuses_lengths : ([.overlayEntryListWrite hearth 0 [1], .sdoInitiateDownload [], .sdoDownloadSegment [],
    .sdoInitiateUpload [], .sdoUploadSegment [], .sdoBlockDownload [], .sdoBlockUpload [], .sdoAbort [],
    .rpdoReceived 0 (List.replicate 9 0)] : List Instr).all (fun c => !c.wf) = true := by
  decide

theorem test_wellFormed_refuses_ticks : ([.bellowsTick { TickInput.quiet with eccRead := [(0, 2048)] }, .bellowsTick { TickInput.quiet with eccScrub := [2048] },
    .bellowsTick { TickInput.quiet with measured := [(0, 65536)] }, .bellowsTick { TickInput.quiet with causes := [(30, true)] },
    .frameReceived 0 ⟨2 ^ 32, 0, false, []⟩ 0, .frameReceived 0 ⟨0, 16, false, []⟩ 0, .frameReceived 0 ⟨0, 1, true, [0]⟩ 0, .syncReceived ⟨0x80, 16, false, []⟩, .canWake 0 (some ⟨0, 16, false, []⟩) 0] : List Instr).all (fun c => !c.wf) = true := by
  decide

theorem test_wellFormed_refuses_flue : ([.election (2 ^ 32), .memberAbsent (2 ^ 32) 0, .wakeTimeOverdue (2 ^ 32) 0, .awakeReceived badHeader,
    .awakeReceived { goodHeader with head := ⟨256, 0, 0, 0, 0⟩ }, .awakeReceived { goodHeader with ether := 2 ^ 16 },
    .helloReceived badHeader ⟨0, 0, 0, 0, 0, 0, false, false⟩, .headReceived badHeader ⟨0, 0, 0⟩, .seatReceived goodHeader (2 ^ 64) 0,
    .seatAcknowledgeReceived goodHeader 0 (2 ^ 32), .statusReceived goodHeader ⟨0, 2 ^ 16, 0, 0, []⟩, .bankingReceived goodHeader (2 ^ 32),
    .planReceived goodHeader ⟨0, 0, true⟩ (List.replicate 449 0), .dictReqReceived goodHeader ⟨2 ^ 16, 0, 0, 0, 0, []⟩,
    .boundaryReceived goodHeader ⟨0, true, 0, 0, 17, 0, 0, 0, 0, []⟩] : List Instr).all (fun c => !c.wf) = true := by
  decide +kernel

/-! ### The manual's worked examples -/

/-- R447's example words: LDW w2, 0x024(w11) and BEQ w2, w0, -1. -/
theorem test_instruction_words : wordK 0x10 2 11 0x24 = 0x40AC0024 ∧ wordK 0x20 2 0 0x3FFFF = 0x8083FFFF := by decide

/-- The checks of chapter 18 over the ASCII string 123456789: configuration and program images. -/
theorem test_crc_configuration : crcOf configCrc [0x31, 0x32, 0x33, 0x34, 0x35, 0x36, 0x37, 0x38, 0x39] = 0xCBF43926 := by decide +kernel

/-- Channel 28 of Hollin Barns (R177): code 6,616,397 on range 2 without flags. -/
theorem test_raw_word : rawWord 6616397 (rawFlags 2 false false false false false) = 0x64F54D40 := by decide

/-- The gains of loop 4 at Hollin Barns (chapter 08, after R236). -/
def loop4 : LoopCoef :=
  { kp := 0x3333, sp := 0, ki := 0x0148, si := 0, kd := 0x2000, sd := 2, alpha := 0x6000, kff := 0, sf := 0, imin := 0, imax := 0x6000,
    umin := 0, umax := 0x7FFF, rl := 0x100 }

/-- Its sample at tick 112: e, P, I, d, the sum and the output. -/
theorem test_loop_sample : law loop4 { acc := 268435456, d := -40, pvPrev := 15806, uLast := 8700 } 17476 15838 0 0 =
    { next := { acc := 268972720, d := -38, pvPrev := 15838, uLast := 8826 }, e := 1638, p := 21469266, f := 0, uPre := 8826, u := 8826 } := by
  decide

/-- The hand-over of chapter 09: without a clamp no ramp follows; with Imax 0.25 the difference is 614. -/
theorem test_hand_over : let c := { loop4 with kp := 0x2000, imax := 0x3000 }
    (handOver c 8900 17476 15900 0 (-300) 1).1.next.acc = 288555008 ∧ (handOver c 8900 17476 15900 0 (-300) 1).2 = 0
      ∧ (handOver { c with imax := 0x2000 } 8900 17476 15900 0 (-300) 1).2 = 614 := by decide

/-- The DAC codes of the drive example (R405): 0.75 gives 3,071, 0.5 gives 2,048, full duty 4,095. -/
theorem test_voltage_codes : voltageCode 24576 = 3071 ∧ voltageCode 16384 = 2048 ∧ voltageCode 0x7FFF = 4095 := by decide

/-- The record of chapter 19's example after its tenth merge: words 0 to 6. -/
theorem test_ash_words : ((recordOf { code := 0x0604, source := 7, severity := 5, w4 := 7, w5 := 4000, w6 := 0, cycle := 413, forwarded := false }
      3600250420 3600310420 10).words.take 7) = [0x06040750, 0x019D000A, 0x0036EF7A, 0x0000F1A4, 7, 0xFA0, 0] := by decide +kernel

/-- Core CV3 of Hollin Barns (chapter 06): channels 24-27 IMP dual, 28-30 Pt100 by reversal, 31 a bridge. -/
def barn : State := with_ awake ((List.range 8).flatMap (fun i => let n := 24 + i
  [(Key.chanEnable n, 1), (Key.chanSensorType n, if i < 4 then 6 else if i < 7 then 1 else 3), (Key.chanLeadMode n, if i < 4 then 0 else if i < 7 then 3 else 2),
    (Key.chanSettlingDelay n, if i < 4 then 20 else if i < 7 then 50 else 10), (Key.chanConversionTime n, if i < 4 then 2 else if i < 7 then 3 else 1),
    (Key.chanRangeMode n, if i < 4 then 0 else if i < 7 then 1 else 0), (Key.chanIMPSecondFrequency n, 1), (Key.chanScanPeriod n, if i = 7 then 100 else 1000)]))

theorem test_slot_lengths : slotNominal barn.get 24 = 4200 ∧ slotMaximum barn.get 24 = 8220 ∧ slotNominal barn.get 28 = 16500 ∧ slotMaximum barn.get 28 = 16500
    ∧ slotNominal barn.get 31 = 600 ∧ slotMaximum barn.get 31 = 1120 := by decide +kernel

theorem test_core_load : sumOfMaxima barn.get 3 = 83500 ∧ coreLoad barn.get slotNominal 3 = 723 ∧ coreLoad barn.get slotMaximum 3 = 936
    ∧ boundInvalid barn.get 3 = false ∧ boundInvalid (barn.putN (Key.chanScanPeriod 31) 20).get 3 = true := by decide +kernel

/-- The other check values of R568. -/
def digits : List Byte := [0x31, 0x32, 0x33, 0x34, 0x35, 0x36, 0x37, 0x38, 0x39]
theorem test_crc_flue : crcOf flueCrc digits = 0xE3069283 := by decide +kernel
theorem test_crc_ash : crcOf ashCrc digits = 0x29B1 := by decide +kernel
theorem test_crc_cowl_default : crcOf (awake.cowlParams 3) digits = 0xDF := by decide +kernel

/-- The moisture example of chapter 07: y = 14.2625 %, and its Q15 value over 10-30 % is 6,984. -/
theorem test_poly2d : (poly2d (fun i j => if i = 0 ∧ j = 0 then 0x41000000 else if i = 1 ∧ j = 0 then 0x41100000 else if i = 2 ∧ j = 0 then 0x4019999A
      else if i = 0 ∧ j = 1 then 0xBD23D70A else if i = 1 ∧ j = 1 then 0xBCA3D70A else 0) 0x3F600000 0x42700000).map (fun y => q15OfSpan y 0x41200000 0x41F00000)
    = some 6984 := by decide +kernel

/-- The Kelsis budget example of chapter 10: two predictors of 32 candidates over 180 steps, four CROSS columns of 512 by 16. -/
def budgeted : State := with_ awake ((List.range 4).flatMap (fun c =>
  [(Key.colEnable c, 1), (Key.colLayers c, 512), (Key.colCellsAcross c, 16), (Key.colMembers c, 64), (Key.colStepPeriod c, 1), (Key.colLocalisationHalfWidth c, 8)]))
theorem test_kelsis_budget : View.estimatorTotal budgeted.get 0 = 6292 ∧ View.estimatorLoad budgeted.get 0 3 = 1573 := by decide +kernel

/-- The alive counter of a Cowl context: the next value is accepted, the same again repeats, a bad check counts towards k, a gap within
G + k is accepted, a larger one is reported (R571). -/
theorem test_cowl_counter : let c0 : CowlContext := { aLast := 4, k := 0, result := 0, timeout := false, lastGood := 0 }
    let on (c : CowlContext) (n : Nat) (good : Bool) := c.after (c.judge 2 n good) n 0
    let c1 := on c0 5 true
    let c2 := on c1 5 true
    let c3 := on c2 7 false
    let c4 := on c3 8 true
    (c1.result, c2.result, c3.result, c3.k, c4.result, (on c4 12 true).result) = (cowlOk, cowlRepeat, cowlCrcErr, 1, cowlOk, cowlGap) := by
  decide

/-! ### Witnesses: for each statement with hypotheses, states and operands that meet them, clause by clause -/

/-- What a passed check of a transaction gives. -/
theorem written_of {s : State} {p : Path} {key : Nat} {v : WData}
    (h : (match s.checkWrite p key v with | .ok _ => true | .error _ => false) = true) : ∃ d, s.checkWrite p key v = .ok d := by
  cases r : s.checkWrite p key v with
  | ok d => exact ⟨d, rfl⟩
  | error e => rw [r] at h; exact absurd h (by simp)

theorem read_of {s : State} {key : Nat} (h : (match s.checkRead key with | .ok _ => true | .error _ => false) = true) :
    ∃ r, s.checkRead key = .ok r := by
  cases q : s.checkRead key with
  | ok d => exact ⟨d, rfl⟩
  | error e => rw [q] at h; exact absurd h (by simp)

def queued : State := { State.reset with pending := [.permitLost 0, .dwellEnd 19] }

theorem witness_StepRunsFrontCommand : queued.pending = .permitLost 0 :: [.dwellEnd 19] ∧ State.reset.pending = [] := by decide

theorem witness_MemoriesStayCanonical : queued.MemoriesWf ∧ ∃ t, step queued = .next t := ⟨by unfold State.MemoriesWf; decide, _, rfl⟩

theorem witness_QueueIsFirstInFirstOut : ∃ t, step queued = .next t := ⟨_, rfl⟩

theorem witness_ClearsZeroTheirCounters : ∀ e ∈ [(Key.supplyClearCounters, 1), (Key.convClearCounters 7, 1), (Key.loopClearStatistics 63, 1),
    (Key.kelsisClearCounters, 1), (Key.colClearStatistics 3, 1), (Key.predgClearCounters, 1), (Key.actClearStatistics 19, 1),
    (Key.hsClearStatistics 9, 1), (Key.driveClearStatistics 15, 1), (Key.coutClearStatistics 7, 1), (Key.canClearStatistics 1, 1),
    (Key.flueClearStatistics, 1), (Key.portClearStatistics 3, 1), (Key.ftimeClearStatistics, 1)], Accepts awake hearth e.1 e.2 :=
  accepts_all (by decide +kernel)

theorem witness_ClearsBesideCounters : ∀ e ∈ [(Key.powerClearStatistics, 1), (Key.chanClearStatistics 63, 1), (Key.bellowsClearCounters, 1),
    (Key.coreClearStatistics 3, 1), (Key.routerClearCounters, 1), (Key.pmClearCounters 3, 1), (Key.thermalClearStatistics, 1)],
    Accepts awake hearth e.1 e.2 := accepts_all (by decide +kernel)

/-- Registers and region words from a short list of those that are not 0. -/
def words (n : Nat) (l : List (Nat × Word)) : Vector Word n := Vector.ofFn fun i => ((l.find? (fun e => e.1 == i.val)).map (·.2)).getD 0

/-- A core that runs privileged at the start of its instruction TCM, and one in user mode that may reach all three memories. -/
def privCore (regs : List (Nat × Word)) : Core := { Core.reset with
  pc := 0x10000100, regs := words 16 regs, status := 4, epc := 0x10000200,
  running := some ⟨⟨0, 0xE, 1, 0, 64, 0, 0, 1024, 0, 0, 0, 0, 0, 0⟩, [], false⟩ }
def userCore (regs : List (Nat × Word)) : Core := { privCore regs with
  status := 1, regionBase := words 8 [(0, 0x10000000), (1, 0x11000000), (2, 0x20000000)],
  regionAttr := words 8 [(0, 0x1001FC0F), (1, 0x1100FC0F), (2, 0x201FFC0F)] }
def onCores (k : Core) (s : State := awake) : State := { s with cores := Vector.replicate 4 k }

theorem witness_CoreReady : CoreReady (onCores (privCore [])) 0 ∧ CoreReady (onCores (userCore [])) 3 := by unfold CoreReady; decide +kernel

/-- Of RegisterArithmetic, MultiplyAndDivide, Branches: a core that is ready. -/
theorem witness_RegisterArithmetic : CoreReady (onCores (userCore [(1, 0x80000000), (2, 0xFFFFFFFF)])) 3 := by unfold CoreReady; decide +kernel
theorem witness_MultiplyAndDivide : CoreReady (onCores (userCore [(1, 0x80000000), (2, 0xFFFFFFFF)])) 3 := witness_RegisterArithmetic
theorem witness_Branches : CoreReady (onCores (privCore [(1, 0x80000000), (2, 0x7FFFFFFF)])) 0 := by unfold CoreReady; decide +kernel
theorem witness_ImmediateArithmetic : CoreReady (onCores (userCore [(1, 1)])) 3 ∧ (31 : BitVec 18).toNat < 32 := by unfold CoreReady; decide +kernel

/-- Loads and stores at the last word, half and byte of each memory. -/
theorem witness_LoadsFromMemory : let s := onCores (userCore [(1, 0x1001FFFC), (2, 0x1100FFFE), (3, 0x201FFFFF)])
    CoreReady s 3 ∧ memoryAt 3 0x1001FFFC = some (.itcm 3) ∧ s.loadTrap 3 0x1001FFFC 4 = none ∧ memoryAt 3 0x1100FFFE = some (.dtcm 3)
      ∧ s.loadTrap 3 0x1100FFFE 2 = none ∧ memoryAt 3 0x201FFFFF = some .sram ∧ s.loadTrap 3 0x201FFFFF 1 = none := by
  unfold CoreReady; decide +kernel

theorem witness_LoadsFromOtherRegions : let s := onCores (privCore [(1, 0x00000000)])
    CoreReady s 0 ∧ memoryAt 0 0 = none ∧ regionOf 0 ≠ some .window ∧ s.loadTrap 0 0 4 = none ∧ s.loadTrap 0 0 2 = none
      ∧ s.loadTrap 0 0 1 = none := by unfold CoreReady; decide +kernel

theorem witness_StoresToMemory : let s := onCores (privCore [(1, 0x1001FFFC), (2, 0x1100FFFC), (3, 0x201FFFFF)])
    CoreReady s 3 ∧ memoryAt 3 0x1100FFFC = some (.dtcm 3) ∧ s.storeTrap 3 0x1100FFFC 4 = none ∧ s.storeTrap 3 0x1100FFFC 2 = none
      ∧ s.loadTrap 3 0x1100FFFC 4 = none ∧ Space.dtcm 3 ≠ .itcm 3 ∧ memoryAt 3 0x201FFFFF = some .sram ∧ s.storeTrap 3 0x201FFFFF 1 = none := by
  unfold CoreReady; decide +kernel

theorem witness_JumpsAndLinks : let s := onCores (userCore [(7, 0x10000200)])
    CoreReady s 3 ∧ ((s.cores[3]).reg 7 + BitVec.signExtend 32 (0x3FFFC : BitVec 18)).toNat % 4 = 0 := by unfold CoreReady; decide +kernel

theorem witness_SystemRegisters : CoreReady (onCores (privCore [(1, 5)])) 3 ∧ (privCore [(1, 5)]).privileged = true := by unfold CoreReady; decide +kernel

theorem witness_SignalFenceReturn : let s := onCores (privCore []) { awake with startup := { awake.startup with debugOpen := true } }
    CoreReady s 3 ∧ (s.cores[3]).privileged = true ∧ (3 : BitVec 18).toNat < 4 ∧ s.startup.debugOpen = true := by unfold CoreReady; decide +kernel

/-- A core whose local source 251 is pending at level 0, 31 where `high`; waiting where `w`. -/
def pendingCore (level : Nat) (status : Word) (w : Option Waiting) : Core :=
  { privCore [(1, BitVec.ofNat 32 (2 ^ level))] with
    status := status, waiting := w, prioMask := BitVec.ofNat 32 (2 ^ level),
    srcPend := (Vector.replicate 8 0).set 7 (BitVec.ofNat 32 (2 ^ 27)), localCtrl := BitVec.ofNat 32 ((0x80 + level) * 2 ^ 24) }

theorem witness_WaitsAndInterrupts :
    (CoreReady (onCores (pendingCore 31 4 none)) 3 ∧ (onCores (pendingCore 31 4 none)).pendingWord 3 &&& (pendingCore 31 4 none).reg 1 ≠ 0)
      ∧ (onCores (privCore [(1, 1)])).pendingWord 3 &&& (privCore [(1, 1)]).reg 1 = 0
      ∧ (let w : Waiting := ⟨3, 0x80000000, 5, 0⟩; let s := onCores (pendingCore 31 4 (some w))
          s.clocksRun = true ∧ (s.cores[3]).waiting = some w ∧ s.pendingWord 3 &&& w.mask ≠ 0)
      ∧ (let w : Waiting := ⟨3, 1, 5, 0⟩; let s := onCores (pendingCore 31 4 (some w))
          (s.cores[3]).waiting = some w ∧ s.pendingWord 3 &&& w.mask = 0 ∧ w.timeout ≠ 0)
      ∧ ∀ p ∈ [(0 : Fin 32), 31], let s := onCores (pendingCore p.val 5 none); let k := s.cores[3]
          k.held = false ∧ k.debugHalt = false ∧ k.running.isSome = true ∧ k.ie = true ∧ k.privileged = true
          ∧ (s.pendingWord 3 &&& k.prioMask).getLsbD p.val = true
          ∧ ∀ q : Fin 32, p < q → (s.pendingWord 3 &&& k.prioMask).getLsbD q.val = false := by
  unfold CoreReady; decide +kernel

theorem witness_UserTraps : let s := onCores (userCore [(1, 0x11000001), (2, 0x30000000), (3, 0x11000002)])
    CoreReady s 3 ∧ (s.cores[3]).privileged = false ∧ s.nat (Key.coreTrapAction 3) = 0 ∧ ((s.cores[3]).reg 3).toNat % 4 ≠ 0
      ∧ ((s.cores[3]).reg 1).toNat % 2 ≠ 0 ∧ (s.cores[3]).permits 0x30000000 0 = false ∧ (s.cores[3]).permits 0x30000000 1 = false
      ∧ 32 ≤ (32 : BitVec 18).toNat ∧ 4 ≤ (4 : BitVec 18).toNat ∧ s.startup.debugOpen = false ∧ instrOf 3 0 0xFC000000 = none := by unfold CoreReady; decide +kernel

theorem witness_PrivilegedTraps : let s := onCores (privCore [(1, 0x11000001)])
    CoreReady s 0 ∧ CoreReady s 3 ∧ (s.cores[3]).privileged = true ∧ ((s.cores[3]).reg 1 + BitVec.signExtend 32 (1 : BitVec 18)).toNat % 4 ≠ 0 := by
  unfold CoreReady; decide +kernel

theorem witness_SupervisorCalls : let f : HandlerFrame := ⟨words 16 [(3, 3)], 0x10000104, true⟩
    let s := onCores { userCore [(1, 0xF0)] with frame := some f }
    CoreReady s 3 ∧ (s.cores[3]).privileged = false ∧ (s.cores[3]).frame = some f ∧ 0xF0 ≤ ((s.cores[3]).reg 1).toNat % 256
      ∧ ((userCore [(1, 0xEF)]).reg 1).toNat % 256 < 0xF0 ∧ s.logOpen ∧ 5 < (6 : BitVec 12).toNat := by
  unfold CoreReady State.logOpen; decide +kernel

/-- A command that may store, and one that may not. -/
theorem witness_EveryCommandAnswers : mayStore (.stw 3 0 0 0) = true ∧ mayStore (.election 0) = false := by decide

/-- A user-mode core 3 with w1 to w3, at level SERVICE. -/
def calling (w1 w2 w3 : Word) : State := (onCores (userCore [(1, w1), (2, w2), (3, w3)])).putN (Key.coreLevelGranted 3) 1

theorem witness_SupervisorBlocks : let s := calling 0x30200A00 0x1100FFF0 16; let k := s.cores[3]; let key := (k.reg 1).toNat / 256
    CoreReady s 3 ∧ k.privileged = false
      ∧ (bufferTrap (fun x => s.storeTrap 3 x 1) (k.reg 2).toNat (k.reg 3).toNat = none
        ∧ (∃ r, s.checkRead key = .ok r ∧ r.ty.isBlock = true) ∧ key ≠ Key.identVendorChallenge
        ∧ (∀ i < 16, memoryAt 3 ((k.reg 2).toNat + i) = some (.dtcm 3))
        ∧ (∃ e, s.checkRead (0x99999900 / 256) = .error e) ∧ ∃ r, s.checkRead Key.procProcessState = .ok r ∧ r.ty.isBlock = false)
      ∧ (bufferTrap (fun x => s.loadTrap 3 x 1) (k.reg 2).toNat (k.reg 3).toNat = none
        ∧ (∃ e, s.checkWrite (corePath 3) (0x99999900 / 256) (.bytes [0]) = .error e)
        ∧ ∃ bs, s.checkWrite (corePath 3) (Key.cowlComputeData) (.bytes [1]) = .ok (.blk bs) ∧ s.blockRefusal (corePath 3) Key.cowlComputeData bs = none
          ∧ transmitPortOf Key.cowlComputeData = none ∧ Key.cowlComputeData ≠ Key.identVendorResponse) := by
  have ready : CoreReady (calling 0x30200A00 0x1100FFF0 16) 3 := by unfold CoreReady; decide +kernel
  have state : (calling 0x30200A00 0x1100FFF0 16).checkRead Key.procProcessState = .ok ((findRow Key.procProcessState).get (by decide)) := by decide +kernel
  refine ⟨ready, ?_, ⟨?_, ⟨_, rfl, ?_⟩, ?_, ?_, ⟨_, rfl⟩, _, state, ?_⟩, ?_, ⟨_, rfl⟩, _, rfl, ?_⟩ <;> decide +kernel

theorem witness_SupplyEvents : (awake.clocksRun = true ∧ awake.bitOf Key.supplySupplyStatus 0 = false ∧ awake.p2Lost = false
      ∧ awake.bitOf Key.supplySupplyStatus 4 = false ∧ awake.logOpen ∧ (2499 : BitVec 16).toNat < 2500)
    ∧ (let s := awake.putN Key.supplySupplyStatus 3; s.clocksRun = true ∧ s.bitOf Key.supplySupplyStatus 0 = true ∧ s.p2Lost = true)
    ∧ (∀ q ∈ [PowerState.banked, .ember], let s : State := { awake with power := { awake.power with phase := .asleep q } };
        s.power.phase = .asleep q ∧ s.bitOf Key.supplySupplyStatus 4 = false) := by
  unfold State.logOpen; decide

theorem witness_PowerRecords : awake.clocksRun = true
    ∧ (let s := { awake with power := { awake.power with contactOpen := true, contactDue := some 7 }, dict := { awake.dict with crcDirty := true } };
        s.power.contactOpen = true ∧ s.power.contactDue.isSome = true ∧ s.power.phase ≠ .inReset ∧ s.dict.crcDirty = true) := by decide

/-- A start that is opened and not confirmed. -/
def started (s : State) : State := { s with startup := { s.startup with opened := true, confirmed := false } }

theorem witness_ResetsLeaveTheResetState : let s := started { awake with canopen := { awake.canopen with nmt := 127 } }
    s.clocksRun = true ∧ s.canopen.nmt ≠ 0 ∧ ((127 : Fin 128) = 0 ∨ (127 : Fin 128).val = (s.putN (Key.canNodeID 0) 127).nodeId)
      ∧ s.startup.opened = true ∧ s.startup.confirmed = false ∧ s.process ≠ psKindling ∧ s.startup.cause = none := by decide

/-- Every core in WAIT. -/
def waiting : State := onCores { privCore [] with waiting := some ⟨0, 0, 0, 0⟩ }

theorem witness_PowerManagerDecides : waiting.power.phase = .awake ∧ (∀ c : Fin 4, (waiting.cores[c]).inWait = true)
    ∧ waiting.transactionPending = false ∧ waiting.stateAllowed (waiting.nextEvent.map (fun x => x.1)) .simmer = true
    ∧ (awake.cores[3]).inWait = false ∧ awake.power.phase = .awake := by decide +kernel

def phased (p : PowerPhase) (s : State := awake) : State := { s with power := { s.power with phase := p } }

/-- The same, with an entry decided: the cores still in WAIT, and no longer. -/
theorem witness_PowerManagerDecides_again : let s := phased (.entering .ember) waiting; let u := phased (.entering .banked)
    s.power.phase = .entering .ember ∧ (∀ c : Fin 4, (s.cores[c]).inWait = true) ∧ s.transactionPending = false
      ∧ u.power.phase = .entering .banked ∧ (u.cores[0]).inWait = false := by decide +kernel

theorem witness_SleepEntryCommits : (∀ q ∈ [PowerState.ember, .banked], let s := phased (.entering q) waiting
      s.power.noticeOut = false ∧ s.power.phase = .entering q ∧ s.entryHolds q = true)
    ∧ (phased (.entering .ember)).power.noticeOut = false ∧ (phased (.entering .ember)).entryHolds .ember = false := by decide +kernel

/-- All wake sources enabled, CAN A in wake mode 1 and CAN B in mode 2. -/
def wakeable : State := with_ awake [(Key.powerWakeSourceEnable, 0x1F), (Key.canWakeMode 0, 1), (Key.canWakeMode 1, 2)]

theorem witness_WakeEvents : (∀ n : Fin 4, wakeable.wakeEnabled n.val = true)
    ∧ (∀ n : Fin 4, ∀ b : Fin 2, n.val = 2 + b.val → wakeable.nat (Key.canWakeMode b) = 1 ∨ wakeable.nat (Key.canWakeMode b) = 2)
    ∧ (wakeable.nat (Key.canWakeMode 1) = 2 ∧ (some ⟨0, 0, false, []⟩ : Option CanFrame).any (wakeable.wakeFrame 1) = true)
    ∧ (phased (.asleep .banked) wakeable).power.phase = .asleep .banked ∧ (phased (.entering .ember) wakeable).wakeEnabled 3 = true
    ∧ ({ wakeable with power := { wakeable.power with state := .simmer } } : State).power.state = .simmer := by decide +kernel

theorem witness_WakesAndCellFallback : let s := { phased (.asleep .banked) with power := { (phased (.asleep .banked)).power with latchedWake := 3 } }
    s.power.phase = .asleep .banked ∧ s.power.latchedWake ≠ 0 ∧ (phased (.asleep .ember)).power.phase = .asleep .ember := by decide

theorem witness_StartsAndWarmBoots : State.reset.power.phase = .inReset ∧ State.reset.startup.hotHold = false ∧ State.reset.startup.halted = false
    ∧ StartEnv.sound.selfTest = 0 ∧ referenceFails StartEnv.sound = false ∧ startCool StartEnv.sound = true
    ∧ (phased (.onCell .banked)).power.phase = .onCell .banked
    ∧ (let s := { phased (.onCell .ember) with power := { (phased (.onCell .ember)).power with retention := some awake.retentionRecord } };
        s.power.retention.isSome = true ∧ s.power.phase = .onCell .ember ∧ s.power.bankModified = false)
    ∧ (let s := { phased (.asleep .ember) with power := { (phased (.asleep .ember)).power with retention := some awake.retentionRecord, latchedWake := 1 } };
        s.power.retention.isSome = true ∧ StartEnv.sound.recordOk = true ∧ StartEnv.sound.aonLost = false ∧ s.power.bankModified = false
        ∧ s.power.phase = .asleep .ember ∧ s.power.latchedWake ≠ 0)
    ∧ (let s := { State.reset with startup := { State.reset.startup with hotHold := true } };
        s.startup.hotHold = true ∧ startCool { StartEnv.sound with thermal := Vector.replicate 6 ⟨0x43200000, false, false⟩ } = false) := by
  decide +kernel

def inProcess (n : Nat) (s : State := awake) : State := s.putN Key.procProcessState n

theorem witness_ConfirmationAndKindling : (Accepts (started (inProcess 1)) service Key.startConfirm 0x5A
      ∧ (started (inProcess 1)).process ≠ psInit ∧ (started (inProcess 1)).process ≠ psKindling ∧ (started (inProcess 1)).startup.restore = none)
    ∧ (Accepts (inProcess 5) hearth Key.startKindlingCommand 0x7E51 ∧ Accepts (inProcess 5) hearth Key.startKindlingCommand 0x7E52)
    ∧ (inProcess 5).clocksRun = true ∧ (inProcess 5).process = psKindling
    ∧ ((inProcess 5).putN Key.startAutomaticTrialInterval 1).nat Key.startAutomaticTrialInterval ≠ 0 :=
  ⟨⟨accepts_of_passes (by decide +kernel), by decide, by decide, rfl⟩, ⟨accepts_of_passes (by decide +kernel), accepts_of_passes (by decide +kernel)⟩,
    by decide, by decide, by decide⟩

theorem witness_ProcessCommands : Accepts (inProcess 1) hearth Key.procCommand 1 ∧ Accepts (inProcess 2) hearth Key.procCommand 2
    ∧ Accepts (inProcess 3) hearth Key.procCommand 3 ∧ Accepts (inProcess 3) hearth Key.procCommand 4 ∧ Accepts (inProcess 4) hearth Key.procCommand 5
    ∧ (inProcess 4).startup.restore = none := by
  refine ⟨?_, ?_, ?_, ?_, ?_, rfl⟩ <;> exact accepts_of_passes (by decide +kernel)

theorem witness_NmtCommands : let s := { inProcess 3 with canopen := { awake.canopen with nmt := 5 } }
    s.clocksRun = true ∧ s.canopen.nmt ≠ 0 ∧ s.process ≠ psKindling ∧ ({ inProcess 5 with canopen := s.canopen } : State).process = psKindling := by decide

theorem witness_HostWatchdog :
    (let s := { (inProcess 3).putN Key.hostHostPaths 0xFE with dict := { awake.dict with watchdog := ⟨true, 0, 5000, 0⟩ } };
      s.clocksRun = true ∧ s.dict.watchdog.running = true ∧ s.nat Key.lostState = 0 ∧ s.watchdogCounts = true
      ∧ (Accepts s service Key.hbeatHeartbeat 0xFFFF ∧ s.hostPath service = true)
      ∧ Accepts s hearth Key.hostHostPaths 0)
    ∧ (let s := (inProcess 3).putN Key.lostState 1; s.nat Key.lostState = 1 ∧ s.nat Key.hostRecoveryMode ≠ 1 ∧ (s.putN Key.hostRecoveryMode 1).nat Key.hostRecoveryMode = 1)
    ∧ (let s := (inProcess 3).putN Key.lostState 2; Accepts s service Key.lostAcknowledge 1 ∧ s.nat Key.lostState = 2) :=
  ⟨⟨by decide, by decide, by decide, by decide +kernel, ⟨accepts_of_passes (by decide +kernel), by decide +kernel⟩, accepts_of_passes (by decide +kernel)⟩,
    by decide, accepts_of_passes (by decide +kernel), by decide⟩

/-- A switch to mode 15 that is due at tick 33. -/
def switching : State := { inProcess 3 with dict := { awake.dict with pending := some ⟨15, 1, []⟩ } }

theorem witness_ModeSwitches : (∃ d, (awake.touch hearth).checkWrite hearth (Key.overlayEntryList 15) (.bytes []) = .ok d)
    ∧ (Accepts awake hearth Key.modeRequestedMode 15 ∧ awake.modeRefused 15 = none ∧ Accepts awake hearth Key.modeRequestedMode 0)
    ∧ switching.dict.pending = some ⟨15, 1, []⟩ ∧ switching.clocksRun = true ∧ 1 ≤ switching.clock.tick + 1 ∧ switching.dict.staged = []
    ∧ switching.flue.instances = [] :=
  ⟨⟨_, rfl⟩, ⟨accepts_of_passes (by decide +kernel), by decide +kernel, accepts_of_passes (by decide +kernel)⟩, by decide⟩

/-- RUNNING with all four digital inputs high: both permits are there. -/
def permitted : State := (inProcess 3).putN Key.inputsInputLevels 0xF

/-- Channel 19 SWITCHED (or in the mode given), rise window from 2 (R371). -/
def switched (mode : Nat := 1) : State := with_ permitted [(Key.actMode 19, mode), (Key.actPeakTimeMinimum 19, 2)]

/-- Channel 19 in a phase. -/
def inPhase (f : ActUnit → ActUnit) (s : State := switched) : State := s.setAct 19 f

theorem witness_ActuatorCommands : let s := switched; let t := s.putN (Key.actFaultCause 19) 1
    s.nat (Key.actMode 19) = 1 ∧ (Accepts s service (Key.actCommand 19) 0 ∧ s.policiesActive = false ∧ s.process ≠ psFault)
      ∧ ((s.actUnit 19).phase = .idle ∧ s.outputsReset = false ∧ s.actCheck 19 false = none
        ∧ s.nat (Key.actPeakCurrent 19) * unitsPerMa + s.partnerClaim 19 ≤ s.budget 19
        ∧ Accepts s service (Key.actCommand 19) 1 ∧ Accepts s service (Key.actCommand 19) 2)
      ∧ ((t.actUnit 19).phase = .idle ∧ (∃ r, t.actCheck 19 false = some r) ∧ Accepts t service (Key.actCommand 19) 1) :=
  ⟨by decide +kernel, ⟨accepts_of_passes (by decide +kernel), by decide +kernel, by decide +kernel⟩,
    ⟨by decide +kernel, by decide +kernel, by decide +kernel, by decide +kernel, accepts_of_passes (by decide +kernel), accepts_of_passes (by decide +kernel)⟩,
    by decide +kernel, ⟨_, rfl⟩, accepts_of_passes (by decide +kernel)⟩

theorem witness_ActivationPhases : (∀ p ∈ [ActPhase.starting, .rise, .dwell, .hold], ((inPhase fun u => { u with phase := p }).actUnit 19).phase = p)
    ∧ (let s := inPhase (fun u => { u with phase := .rise, pulse := true, decaying := true }) (switched.putN (Key.actMaximumOnTime 19) 1); let u := s.actUnit 19;
      s.clocksRun = true ∧ (s.actView 19).nat (Key.actPeakTimeMinimum 19) ≤ 2 ∧ (s.actView 19).nat (Key.actMovementWindowEnd 19) = 0
      ∧ u.phase.active = true ∧ u.pulse = true ∧ u.bySafe = false ∧ u.phase ≠ .regulating ∧ (s.actView 19).nat (Key.actMaximumOnTime 19) ≠ 0
      ∧ u.decaying = true) := by decide +kernel

theorem witness_ActivationFailures : (let s := inPhase fun u => { u with phase := .rise };
      s.clocksRun = true ∧ (s.actUnit 19).phase = .rise ∧ 1 < (s.actView 19).nat (Key.actPeakTimeMinimum 19) ∧ s.nat (Key.actFaultCause 19) = 0
      ∧ (s.actUnit 19).judged = false)
    ∧ ((inPhase (fun u => { u with phase := .rise }) (switched.putN (Key.actMovementWindowEnd 19) 30)).actView 19).nat (Key.actMovementWindowEnd 19) ≠ 0
    ∧ ((inPhase fun u => { u with phase := .deferred }).actUnit 19).phase = .deferred := by decide +kernel

/-- Channel 19 PROPORTIONAL at a setpoint, in a phase. -/
def proportional (setpoint : Nat) (p : ActPhase) : State := inPhase (fun u => { u with phase := p })
  (with_ (switched 2) [(Key.actPeakCurrent 19, 1000), (Key.actProportionalSetpoint 19, setpoint)])

theorem witness_ProportionalDutyAndLimit :
    let want (s : State) := min (if s.propAsked 19 < 50 * unitsPerMa then s.propAsked 19 else s.capTarget 19 (s.propAsked 19)) (s.budget 19 - s.partnerClaim 19)
    (let s := proportional 10 .regulating;
      s.clocksRun = true ∧ s.nat (Key.actMode 19) = 2 ∧ (s.actUnit 19).blocked = false ∧ s.permitAbsent 19 = false ∧ s.p2Lost = false
      ∧ want s < 50 * unitsPerMa ∧ (s.actUnit 19).phase = .regulating)
    ∧ (let s := proportional 9000 .regulating; 50 * unitsPerMa ≤ want s ∧ (s.actUnit 19).phase = .regulating)
    ∧ (let s := proportional 9000 .idle; 50 * unitsPerMa ≤ want s ∧ (s.actUnit 19).phase = .idle ∧ s.actCheck 19 s.policiesActive = none)
    ∧ (permitted.acts.supplyLimited = false ∧ 25000 * permitted.derating < 25001 * 10000)
    ∧ (let s := { permitted with acts := { permitted.acts with supplyLimited := true } };
      s.acts.supplyLimited = true ∧ 22999 * 10000 < 23000 * s.derating ∧ 23000 * s.derating ≤ 23000 * 10000) := by decide +kernel

theorem witness_PermitsForceOff : let s := permitted.putN (Key.actClass 19) 2
    s.clocksRun = true ∧ s.bitOf Key.inputsInputLevels 3 = true ∧ s.bitOf Key.inputsInputLevels 2 = true ∧ s.nat (Key.actClass 19) = 1 + 1
      ∧ ∀ b : Fin 20, switchOf b = switchOf 0 → s.nat (Key.actClass b) ≠ 1 + 1 := by decide +kernel

theorem witness_DriverFaults : (let s := inPhase fun u => { u with phase := .hold }; let g := s.governing 19;
      s.clocksRun = true ∧ s.hsFaulty 9 = false ∧ s.switchOn 9 = true ∧ s.switchOn 0 = false ∧ s.actFaulty g = false
      ∧ (s.actUnit g).phase.active = true ∧ (s.actUnit g).phase = .hold ∧ 100 * unitsPerMa ≤ s.claim g)
    ∧ (let s := switched; (s.actUnit (s.governing 19)).phase.active = false ∧ s.hsFaulty (switchOf (s.governing 19)) = false)
    ∧ Accepts switched service (Key.actFaultReset 19) 1 ∧ Accepts switched service (Key.hsFaultReset 9) 1 :=
  ⟨by decide +kernel, by decide +kernel, accepts_of_passes (by decide +kernel), accepts_of_passes (by decide +kernel)⟩

/-- Drive 15 with a tach and a manual command, in a supervision state. -/
def driven (st : Nat) : State := (with_ permitted [(Key.driveMode 15, 1), (Key.driveCommandSource 15, 0), (Key.drivePulsesPerRevolution 15, 2),
  (Key.driveManualCommand 15, 9000), (Key.driveCommandApplied 15, 700), (Key.driveLastGoodDuty 15, 50), (Key.driveRUNNINGInput 15, 7),
  (Key.pulseLevel 7, 1), (Key.driveState 15, st)])

theorem witness_DriveSupervision : (let s := driven driveStarting;
      s.clocksRun = true ∧ s.nat (Key.drivePulsesPerRevolution 15) ≠ 0 ∧ s.nat (Key.driveMode 15) ≠ 0 ∧ s.outputsReset = false ∧ s.policiesActive = false
      ∧ s.process ≠ psFault ∧ s.nat (Key.driveCommandSource 15) ≠ 1 ∧ s.loopsNaming 1 15 = [] ∧ 0 < s.get (Key.driveManualCommand 15)
      ∧ s.nat (Key.driveState 15) = driveStarting ∧ s.p2Lost = false ∧ ((s.putBit Key.supplySupplyStatus 1 true).p2Lost = true))
    ∧ (driven driveRetryWait).nat (Key.driveState 15) = driveRetryWait ∧ (driven driveStall).nat (Key.driveState 15) = driveStall
    ∧ (let s := driven driveRunning;
      s.nat (Key.driveState 15) = driveRunning ∧ 0 < s.get (Key.driveCommandApplied 15) ∧ s.nat (Key.driveRUNNINGInput 15) ≠ 0xFF
      ∧ s.runningFb 15 = true ∧ 0 < s.get (Key.driveLastGoodDuty 15)) := by decide +kernel

theorem witness_OutputAndInputFaults : (let s := with_ permitted [(Key.driveState 15, driveBlocked), (Key.coutTarget 7, 0x41200000), (Key.setpMode 1, 2), (Key.setpRawValue 1, 0)];
      s.clocksRun = true ∧ Accepts s service (Key.driveFaultReset 15) 1 ∧ s.nat (Key.driveState 15) = driveBlocked ∧ driveRunning ≠ driveBlocked
      ∧ (150 < 151 ∧ s.bitOf (Key.driveStatus 15) 8 = false ∧ s.p2Lost = false)
      ∧ ((s.putW (Key.coutReadback 7) 0).outputNear 7 = false ∧ flt (s.word (Key.coutTarget 7)) mA35 = false ∧ s.bitOf (Key.coutStatus 7) 1 = false
        ∧ s.bitOf (Key.coutStatus 7) 2 = false)
      ∧ (s.nat (Key.setpMode 1) = 2 ∧ setpOutside (s.word (Key.setpRawValue 1)) = true ∧ s.flag (Key.setpFault 1) = false)
      ∧ s.nat (Key.setpMode 1) ≠ 0 ∧ setpOutside 0x41200000 = false) :=
  ⟨by decide +kernel, accepts_of_passes (by decide +kernel), by decide +kernel⟩

theorem witness_PulseInputs : let count := with_ permitted [(Key.pulseMode 7, 3), (Key.pulseEdge 7, 2)]; let frequency := count.putN (Key.pulseMode 7) 1
    count.clocksRun = true ∧ count.flag (Key.pulseLevel 7) ≠ true ∧ edgeCounts (permitted.nat (Key.pulseEdge 7)) false = false
      ∧ edgeCounts (count.nat (Key.pulseEdge 7)) true = true ∧ count.nat (Key.pulseMode 7) = 3 ∧ frequency.nat (Key.pulseMode 7) = 1
      ∧ Accepts count service (Key.pulseCountReset 7) 1 :=
  ⟨by decide +kernel, by decide +kernel, by decide +kernel, by decide +kernel, by decide +kernel, by decide +kernel, accepts_of_passes (by decide +kernel)⟩

/-- Channel 63 live with a period, on a front end that scans; its core's slot and its own due time as given. -/
def scanning (slot : Option Slot) (due : Option Due) : State :=
  let s := with_ awake [(Key.chanEnable 63, 1), (Key.chanSensorType 63, 1), (Key.chanScanPeriod 63, 100)]
  { s with
    front := { s.front with
      ready := true, scanning := true,
      converters := s.front.converters.set 7 { s.front.converters[7] with slot := slot },
      channels := s.front.channels.set 63 { s.front.channels[63] with due := due } } }

/-- A slot of channel 63: two conversions by reversal on range 1 of AUTO, with the lead check. -/
def slot63 : Slot := {
  chan := 63, due := ⟨5, 0, false, false, true, false⟩, start := 5, mask := 3, leadCheck := true, range := 1, kind := 2, lead := 1,
  convs := 2, convUs := 400, auto := true, downCount := 3, dual := false, phase := 0, retaken := false, first := none, openSeen := false,
  clipSeen := false, stale := false, unblanked := false, length := 20, frozen := [], discard := false }

/-- Channel 63 selects BLANK0, and BLANK0 is in effect. -/
def blanked63 (slot : Option Slot) : State := let s := (scanning slot none).putN (Key.chanBlankInputs 63) 1
  { s with front := { s.front with inEffect := 1 } }

theorem witness_SensorSlots :
    (let s := scanning (some slot63) none;
      s.clocksRun = true ∧ chanLive s.get 63 = true ∧ (s.front.converters[7]).slot.isSome = true ∧ s.front.scanning = true
      ∧ s.nat (Key.chanScanPeriod 63) ≠ 0 ∧ (s.front.channels[63]).lastScan ≠ some 7 ∧ (s.front.channels[63]).due = none ∧ s.blanked 63 = false
      ∧ Accepts s service (Key.chanConvertNow 63) 1)
    ∧ (∀ m : Fin 64, coreOfChannel m = 7 → m ≠ 63 → (scanning (some slot63) none).dueAt m 7 = false)
    ∧ (blanked63 (some slot63)).blanked 63 = true
    ∧ (∀ d ∈ [Due.mk 3 1 false false true false, ⟨3, 1, false, false, false, false⟩, ⟨3, 1, false, false, true, true⟩],
        ((scanning (some slot63) (some d)).front.channels[63]).due = some d)
    ∧ (let s := scanning none none;
      chanLive s.get 63 = true ∧ s.canScan = true ∧ s.nat (Key.chanSensorType 63) ≠ 5 ∧ s.blanked 63 = false ∧ (s.front.converters[7]).slot = none
      ∧ (s.front.converters[7]).refRunning = false ∧ (s.front.converters[7]).refDue = none
      ∧ (s.front.channels[63]).lastScan ≠ some 7 ∧ (∀ m : Fin 64, coreOfChannel m = 7 → (s.front.channels[m]).due = none)
      ∧ ∀ m : Fin 64, coreOfChannel m = 7 → m ≠ 63 → s.dueAt m 7 = false)
    ∧ (let s := { scanning none none with front := { (scanning none none).front with laidAt := max 7 awake.tickTime, replaced := [(Key.chanRangeNow 63, 1)] } };
      s.front.laidAt = max 7 s.tickTime ∧ chanLive (overlayView s.get s.front.replaced) 63 = true
      ∧ (s.front.replaced.find? (fun e => e.1 == Key.chanRangeNow 63)).isSome = true ∧ (scanning none none).front.laidAt ≠ max 70 awake.tickTime)
    ∧ (slot63.phase = 0 ∧ slot63.leadCheck = true)
    ∧ (let s := (scanning (some slot63) none).putN (Key.chanSensorType 63) 5;
      s.nat (Key.chanSensorType 63) = 5 ∧ s.flag (Key.chanEnable 63) = true ∧ (s.front.converters[7]).slot.isSome = true) := by
  refine ⟨⟨?_, ?_, ?_, ?_, ?_, ?_, ?_, ?_, ?_⟩, ?_⟩ <;> first | exact accepts_of_passes (by decide +kernel) | decide +kernel

theorem witness_ConversionsAndBlanking :
    let retake (sl : Slot) (r : Reading) := sl.auto && readingClipped r && decide (0 < sl.range) && !sl.retaken
    let running := { slot63 with phase := 1 }
    (let s := scanning (some running) none;
      s.clocksRun = true ∧ (s.front.converters[7]).slot = some running ∧ running.phase ≠ 0 ∧ retake running ⟨0, 0, true, false⟩ = true
      ∧ retake running ⟨5, 0, false, false⟩ = false ∧ running.phase < running.convs ∧ s.front.inEffect.testBit 0 = false
      ∧ running.mask.testBit 1 = true ∧ running.unblanked = false ∧ Accepts s hearth (Key.convReferenceCheck 7) 1)
    ∧ (let last := { slot63 with phase := 2, first := some (5, 6) };
      retake last ⟨5, 0, false, false⟩ = false ∧ last.convs ≤ last.phase ∧ last.discard = false ∧ last.kind ≠ 6)
    ∧ (let s := { awake with front := { awake.front with inEffect := 2 ^ 37 } }; s.front.inEffect.testBit 37 = true ∧ s.front.timedOut.testBit 37 = false)
    ∧ (let s := { awake with front := { awake.front with converters := awake.front.converters.set 7 { awake.front.converters[7] with refRunning := true } } };
      (s.front.converters[7]).refRunning = true ∧ (s.front.converters[7]).refDue = none ∧ 500 < (-501 : Int).natAbs ∧ s.logOpen) := by
  unfold State.logOpen
  refine ⟨⟨?_, ?_, ?_, ?_, ?_, ?_, ?_, ?_, ?_, ?_⟩, ?_⟩ <;> first | exact accepts_of_passes (by decide +kernel) | decide +kernel

/-- In the cycle of a blanking input's change: a last conversion that ends then, one that does not, and an input that goes out of effect. -/
theorem witness_ConversionsAndBlanking_together : let last := { slot63 with phase := 2, first := some (5, 6) }
    let s := { scanning (some last) none with pending := [.conversionEnd 7 ⟨5, 0, false, false⟩ 9] }
    (s.front.inEffect.testBit 0 = false ∧ last.mask.testBit 0 = true ∧ last.unblanked = false ∧ max 9 s.tickTime = 9
      ∧ s.endsAt 7 last 9 = true ∧ last.phase ≠ 0 ∧ s.endsAt 7 last 10 = false)
    ∧ (∀ high ∈ [true, false], let u := { awake with front := { awake.front with inEffect := 1 }, pending := [.blankInputChange 0 high 9] }
      (u.releasesAt 0 9 = (high == u.flag Key.inputsBLANK0Polarity) ∧ u.front.inEffect.testBit 0 = true ∧ u.front.timedOut.testBit 0 = false)) := by
  decide +kernel

/-- Channel 63 with a result: a clean code or one the slot cut, under plausibility limits that bar nothing or everything. -/
def resulted (word : Word) (high : Int) (st hc cc : Nat) : State :=
  let s := with_ awake [(Key.chanEnable 63, 1), (Key.chanSensorType 63, 4), (Key.chanState 63, st), (Key.chanHardCount 63, hc), (Key.chanCleanCount 63, cc)]
  { s with front := { s.front with channels := s.front.channels.set 63 { s.front.channels[63] with
      result := some { primary := word, secondary := 0, ratio := 0, leadFail := false, endTick := 3, endTime := 7, frozen := [(Key.coefPlausibleHigh 63, high)] } } } }

/-- The frozen set, the input quantity and the reasons of that result. -/
def judged (s : State) : Nat × Nat × Nat × Nat :=
  match s.front.channels[63].result with
  | none => (99, 99, 0, 0)
  | some r =>
    let f : View := overlayView s.get r.frozen
    let comp := s.companion f 63 0
    let u := inputQuantity f 63 r
    let y := linearise f 63 u comp.1
    let hard := hardReasons f 63 r u y
    let soft := match y with
      | some y => if hard = 0 then s.softReasons f 63 r y comp.2 else 0
      | none => 0
    (hard, soft, f.nat (Key.coefConfirmationCount 63), f.nat (Key.coefRecoveryCount 63))

theorem witness_ResultsAndChannelStates : let clean := 0x00012300; let cut := 0x00012301
    (∀ st ∈ [chanOk, chanSuspect, chanBroken], let s := resulted clean 0x7F800000 st 0 0
      s.clocksRun = true ∧ (s.front.channels[63]).result.isSome = true ∧ chanLive s.get 63 = true ∧ (judged s).1 = 0 ∧ (judged s).2.1 = 0
      ∧ s.nat (Key.chanState 63) = st ∧ s.nat (Key.chanCleanCount 63) + 1 < (judged s).2.2.2)
    ∧ (let s := resulted clean 0xFF7FFFFF chanOk 0 0; (judged s).1 = 0 ∧ (judged s).2.1 ≠ 0)
    ∧ (let s := resulted cut 0x7F800000 chanOk 0 0; (judged s).1 ≠ 0 ∧ s.nat (Key.chanHardCount 63) + 1 < (judged s).2.2.1)
    ∧ (let s := resulted cut 0x7F800000 chanSuspect 2 0; (judged s).1 ≠ 0 ∧ (judged s).2.2.1 ≤ s.nat (Key.chanHardCount 63) + 1)
    ∧ (let s := resulted cut 0x7F800000 chanBroken 0 0; (judged s).1 ≠ 0 ∧ s.nat (Key.chanState 63) = chanBroken)
    ∧ (let s := resulted clean 0x7F800000 chanBroken 0 9; (judged s).1 = 0 ∧ (judged s).2.1 = 0 ∧ (judged s).2.2.2 ≤ s.nat (Key.chanCleanCount 63) + 1) := by
  decide +kernel

theorem witness_BellowsCommands :
    (∀ e ∈ [(Key.loopFaultReset 63, 1), (Key.loopHoldRequest 63, 1), (Key.loopHoldRequest 63, 0), (Key.loopModeCommand 63, 0), (Key.loopModeCommand 63, 1),
      (Key.loopModeCommand 63, 2), (Key.learnClearMemory 63, 1), (Key.traceCommand, 1), (Key.traceCommand, 2), (Key.traceCommand, 3)],
      Accepts ((inProcess 3).putN (Key.loopSPSourceType 63) 8) hearth e.1 e.2)
    ∧ (∀ e ∈ [(Key.loopModeCommand 63, 3)], Accepts ((inProcess 3).putN (Key.loopSPSourceType 63) 9) hearth e.1 e.2)
    ∧ awake.loopStandby 63 = false ∧ awake.traceArmOk = true ∧ (awake.putN Key.traceDecimation 0).traceArmOk = false
    ∧ awake.flag (Key.learnLearnerEnable 63) = false ∧ (awake.putN (Key.learnLearnerEnable 63) 1).flag (Key.learnLearnerEnable 63) = true
    ∧ (awake.putN Key.traceState 2).nat Key.traceState = 2
    ∧ (let s := { awake with bellows := { awake.bellows with rewrites := [2047] } }; s.clocksRun = true ∧ 2047 ∈ s.bellows.rewrites ∧ 2047 / 32 = (63 : Fin 64).val)
    ∧ awake.dict.staged = [] ∧ awake.dict.pending = none :=
  ⟨accepts_all (by decide +kernel), accepts_all (by decide +kernel), by decide +kernel⟩

theorem witness_LoopArithmetic : loop4.umin ≤ loop4.umax ∧ loop4.imin ≤ loop4.imax ∧ 0 < loop4.rl ∧ ({ loop4 with rl := 0 } : LoopCoef).rl = 0
    ∧ loop4.umin ≤ (8700 : Int) ∧ 8700 ≤ loop4.umax := by decide

/-- A step under way of one member of one cell, and its column. -/
def cell0 : KCell := ⟨0x3F000000, 0x3E800000, 0x41C80000, 0x3DCCCCCD⟩
def ens0 : KEnsemble := ⟨[⟨[cell0], 0, 0, 0, 0, 0⟩], 0, [], 0x3F000000⟩
def work0 : KWork := {
  number := 7, initial := false, ens := ens0, shifted := 1, capped := true, distance := 0x3F000000, outlet := [[cell0]], heat := 0, water := 0, dt := 10,
  nus := [], accepted := 1, rejected := 1, tooOld := 0, clamped := 2, replaced := 1, ruined := false, lab := [], start := 0, shape := ⟨1, 1, 1, 1⟩, kept := [] }
def columned (k : KColumn) (s : State := (inProcess 3).putN (Key.colEnable 3) 1) : State := { s with kelsis := { s.kelsis with columns := Vector.replicate 4 k } }

theorem witness_KelsisSteps : (let s := columned { KColumn.reset with work := some work0, started := some ((inProcess 3).stepStart 3 ((inProcess 3).stepNumber 3)) }
      s.flag (Key.colEnable 3) = true ∧ s.kelsisRuns = true ∧ s.clocksRun = true ∧ (s.kelsis.columns[3]).started = some (s.stepStart 3 (s.stepNumber 3))
      ∧ (s.kelsis.columns[3]).work = some work0)
    ∧ (((columned { KColumn.reset with publish := some work0 }).kelsis.columns[3]).publish = some work0 ∧ ((columned .reset).kelsis.columns[3]).work = none)
    ∧ ((columned { KColumn.reset with lab := List.replicate 8 ⟨1, 2, 0⟩ }).kelsis.columns[3]).lab.length ≤ 8 ∧ (columned .reset).logOpen
    ∧ (∀ e ∈ [(Key.colReinitialise 3, 1), (Key.colLABValue 3, 0x3F000000), (Key.mapSnapshot, 1)], Accepts (columned .reset) hearth e.1 e.2)
    ∧ ∃ r, ((columned .reset).putN Key.mapSnapshotState 2).checkRead (Key.mapCell 0) = .ok r :=
  ⟨by decide +kernel, by decide +kernel, by decide +kernel, by unfold State.logOpen; decide +kernel, accepts_all (by decide +kernel), read_of (by decide +kernel)⟩

/-- Grain type 15 wants a build, none runs; and one runs. -/
def wanting : State := { awake with kelsis := { awake.kelsis with grains := Vector.replicate 16 ⟨none, none, true, false⟩ } }
def building (outdated : Bool) : State := { awake with kelsis := { awake.kelsis with building := some ⟨15, outdated, 0x42C80000⟩ } }
def predicting (st : Nat) : State := with_ (inProcess 3) [(Key.predEnable 3, 1), (Key.predState 3, st)]

theorem witness_KelsisTablesAndPredictors :
    ((wanting.kelsis.grains[15]).want = true ∧ wanting.kelsis.building = none ∧ wanting.clocksRun = true ∧ wanting.process ≠ psKindling
      ∧ (inProcess 5).process = psKindling)
    ∧ ((building true).kelsis.building.isSome = true ∧ (building false).logOpen ∧ (building true).process ≠ psKindling)
    ∧ (Accepts awake hearth Key.tablesRebuild 1 ∧ awake.kelsis.building = none ∧ Accepts (awake.putN Key.tablesFileEntries 64) hearth (Key.grainLoadFromFile 15) 63)
    ∧ ((∀ c : Fin 4, (awake.kelsis.preds[c]).update = none)
      ∧ (let s := with_ awake [(Key.kelsisSheddingStage, 1), (Key.kelsisCleanEvaluations, 2)]
        s.kelsis.overrun = false ∧ 0 < s.nat Key.kelsisSheddingStage ∧ min 3 (s.nat Key.kelsisCleanEvaluations + 1) = 3
        ∧ View.kelsisLoad s.get (s.nat Key.kelsisSheddingStage - 1) * 100 ≤ 85 * s.kelsisPeak)
      ∧ (let s := with_ awake [(Key.kelsisSheddingStage, 8), (Key.kelsisCleanEvaluations, 2)]
        s.nat Key.kelsisSheddingStage = 8 ∧ View.kelsisLoad s.get 7 * 100 ≤ 85 * s.kelsisPeak)
      ∧ ({ awake with kelsis := { awake.kelsis with overrun := true } } : State).kelsis.overrun = true ∧ awake.logOpen)
    ∧ (let s := predicting predPredictive; s.flag (Key.predEnable 3) = true ∧ s.process = psRunning ∧ s.kelsisRuns = true ∧ (s.kelsis.preds[3]).update = none
        ∧ s.nat Key.kelsisSheddingStage ≠ 8 ∧ s.autoReturn 3 = false ∧ (s.putN Key.kelsisSheddingStage 8).nat Key.kelsisSheddingStage = 8
        ∧ (((s.setPredictor 3 fun q => { q with update := some ⟨0, 1, 0, false, [], [], 0, 0⟩ }).kelsis.preds[3]).update.isSome = true))
    ∧ (Accepts (predicting predPredictive) hearth (Key.predCommand 3) 1 ∧ Accepts (predicting predFeedback) hearth (Key.predCommand 3) 2) := by
  unfold State.logOpen
  refine ⟨?_, ?_, ⟨?_, ?_, ?_⟩, ?_, ?_, ?_, ?_⟩ <;> first | exact accepts_of_passes (by decide +kernel) | decide +kernel

/-- Two of the hypotheses of DictionaryAccess: what the checks of a transaction let pass, and what they refuse. -/
theorem witness_DictionaryAccess : awake.clocksRun = true ∧ awake.pathBusy service = false
    ∧ (∃ e, (awake.touch service).checkWrite service 0x999901 (.bytes [1]) = .error e)
    ∧ (∃ n, (awake.touch hearth).checkWrite hearth (Key.loopKp 63) (.bytes [1, 0]) = .ok (.num n) ∧ Key.loopKp 63 ≠ Key.identLevelRequest)
    ∧ (({ awake with dict := { awake.dict with staged := [⟨service, Key.loopKp 63, .num 1⟩] } } : State).pathBusy service = true)
    ∧ (let s : State := { awake with dict := { awake.dict with staged := [⟨hearth, Key.traceCommand, .num 1⟩] } }
        ∃ w ∈ s.dict.staged, w.path = hearth ∧ w.key = Key.traceCommand ∧ w.value = .num 1)
    ∧ (∃ b, transmitPortOf (Key.canTransmitPort 1) = some b)
    ∧ (∃ e, (awake.touch service).checkRead 0x999901 = .error e)
    ∧ (∃ r, (awake.touch service).checkRead Key.procProcessState = .ok r ∧ thermalReadOf Key.procProcessState = none)
    ∧ (∃ e, Refuses awake hearth Key.procCommand 1 e) ∧ (∃ e, Refuses (inProcess 5) hearth (Key.loopFaultReset 63) 1 e)
    ∧ (∃ e, Refuses (inProcess 5) hearth (Key.actCommand 19) 1 e) ∧ (∃ e, Refuses (inProcess 5) hearth (Key.driveFaultReset 15) 1 e)
    ∧ (∃ e, Refuses (inProcess 5) hearth (Key.colReinitialise 3) 1 e) ∧ ∃ e, Refuses awake service Key.thermalRestart 1 e := by
  refine ⟨by decide, by decide +kernel, ⟨_, rfl⟩, ⟨_, rfl, by decide⟩, by decide +kernel, ⟨_, .head _, rfl, rfl, rfl⟩, ⟨1, rfl⟩, ⟨_, rfl⟩,
    ⟨_, rfl, by decide⟩, ?_, ?_, ?_, ?_, ?_, ?_⟩ <;> exact ⟨_, rfl, rfl⟩

/-- The service port at level OPERATOR, with a challenge out; its guard as given at tick 100. -/
def porter (wrong : List Nat) (locked : Bool) : State :=
  { awake with
    clock := { awake.clock with tick := 100 },
    dict := { awake.dict with challenges := [(service, List.replicate 32 5)], guards := [⟨service, wrong, locked⟩] } }

def saving (o : SaveOp) (s : State) : State := { s with dict := { s.dict with saveOp := some o } }

theorem witness_LevelsStoresAndRestores :
    (let b := (porter [] false).touch service;
      awake.clocksRun = true ∧ writerIsCore service.writer = false ∧ (∃ d, b.checkWrite service Key.identLevelRequest (.bytes (leBytes 4 0)) = .ok d)
      ∧ b.noSession service = false ∧ (b.guardOf service).locked = false
      ∧ (∃ d, b.checkWrite service Key.identVendorResponse (.bytes (List.replicate 64 0)) = .ok d)
      ∧ b.dict.challenges.find? (fun c => c.1 == service) = some (service, List.replicate 32 5)
      ∧ ∃ r, b.checkRead Key.identVendorChallenge = .ok r)
    ∧ ((porter [] true).guardOf service).locked = true
    ∧ (4 ≤ (((porter [90, 91, 92, 93] false).guardOf service).wrong.filter fun t => decide (100 - t < ticksPerMinute)).length ∧ (porter [] false).logOpen)
    ∧ Accepts awake hearth Key.identServicePasscode 0xFFFFFFFF
    ∧ (∃ d, (awake.touch hearth).checkWrite hearth (Key.storeStore 2) (.bytes (leBytes 4 0x65766173)) = .ok d)
    ∧ (∃ d, (awake.touch hearth).checkWrite hearth (Key.restoreRestore 2) (.bytes (leBytes 4 0x64616F6C)) = .ok d)
    ∧ (let o : SaveOp := ⟨false, 2, hearth, [], []⟩; let s := saving o (inProcess 1)
      s.dict.saveOp = some o ∧ o.restore = false ∧ s.process ≠ psInit ∧ s.logOpen
      ∧ ((inProcess 0).putBit Key.cfgConfigurationStatus 0 true).bitOf Key.cfgConfigurationStatus 0 = true
      ∧ (inProcess 0).process = psInit ∧ (inProcess 0).startup.stoppedOnce = false ∧ (inProcess 0).startup.restore = none)
    ∧ (SaveOp.mk true 0 hearth [] []).restore = true := by
  unfold State.logOpen
  refine ⟨⟨?_, ?_, written_of ?_, ?_, ?_, written_of ?_, ?_, read_of ?_⟩, ?_, ?_, accepts_of_passes ?_, written_of ?_, written_of ?_, ?_, ?_⟩ <;>
    decide +kernel

/-- The first 34 bytes of a program image for any Stoker core (R458), the next 34 with 4 bytes of code in ITCM, and the whole image with a
check value (0x5AB211E0 is the right one, computed by hand from the polynomial) and a signature. -/
def imageHead : List Byte := [0x56, 0x4C, 0x52, 0x4B, 1, 0, 1, 14, 77, 0, 0, 0, 5, 0, 0, 0, 4, 0, 0, 0, 0, 0, 0, 0, 16, 0, 0, 0, 64, 0, 0, 0, 0, 0]
def imageTail (placement : Byte) : List Byte :=
  [0, 0, 0xFF, 0xFF, 0xFF, 0xFF, placement] ++ List.replicate 23 0 ++ [1, 2, 3, 4]
def imageBytes (placement : Byte) (check : Nat) : List Byte := (imageHead ++ imageTail placement) ++ leBytes 4 check ++ List.replicate 64 0x55
def image0 : ProgramImage := ⟨parseHeader (imageBytes 0 0x5AB211E0), imageBytes 0 0x5AB211E0, false⟩

/-- A check value from the register that its bytes leave. -/
theorem crcOf_of_register {p : CrcParams} {bs : List Byte} {reg : Nat}
    (h : bs.foldl (crcByte p.width p.poly p.refin) (p.init % 2 ^ p.width) = reg) :
    crcOf p bs = ((if p.refout then reflect p.width reg else reg) ^^^ p.xorOut) % 2 ^ p.width := by unfold crcOf; rw [h]

theorem imageHead_register : imageHead.foldl (crcByte configCrc.width configCrc.poly configCrc.refin) (configCrc.init % 2 ^ configCrc.width)
    = 0x3D889A3F := by decide +kernel
theorem imageTail_register : (imageTail 0).foldl (crcByte configCrc.width configCrc.poly configCrc.refin) 0x3D889A3F = 0xF877B2A5 := by decide +kernel

theorem test_image_check_value : crcOf configCrc (imageHead ++ imageTail 0) = 0x5AB211E0 := by
  have h : (imageHead ++ imageTail 0).foldl (crcByte configCrc.width configCrc.poly configCrc.refin) (configCrc.init % 2 ^ configCrc.width)
      = 0xF877B2A5 := by rw [List.foldl_append, imageHead_register, imageTail_register]
  rw [crcOf_of_register h]
  decide

theorem image0_crcOk : image0.crcOk = true := by
  have n : 64 + image0.header.codeSize + image0.header.dataSize = 68 := by decide
  have r : image0.raw.take 68 = imageHead ++ imageTail 0 := by decide
  have c : leNat ((image0.raw.drop 68).take 4) = 0x5AB211E0 := by decide +kernel
  have l : decide (68 + 4 ≤ image0.raw.length) = true := by decide +kernel
  unfold ProgramImage.crcOk
  simp only [n, r, c, l, test_image_check_value, beq_self_eq_true, Bool.and_self]

/-- The image in slot 3, its program in a state. -/
def loaded (st : Nat) : State := { (inProcess 3).putN (Key.coreProgramState 3) st with images := Vector.replicate 3 (some image0) }

theorem witness_ProgramsAndImages :
    ((loaded 1).images.toList.getD (3 - 1) none = some image0 ∧ image0.crcOk = true ∧ image0.damaged = false ∧ image0.header.placement = 0
      ∧ (Accepts (loaded 1) hearth (Key.coreCommand 3) 1 ∧ (loaded 1).nat (Key.coreProgramState 3) ≠ 2)
      ∧ (Accepts (loaded 2) hearth (Key.coreCommand 3) 1 ∧ (loaded 2).nat (Key.coreProgramState 3) = 2)
      ∧ Accepts (loaded 3) hearth (Key.coreCommand 3) 3 ∧ Accepts (loaded 2) hearth (Key.coreCommand 3) 2)
    ∧ ((∃ d, (awake.touch hearth).checkWrite hearth (Key.imagesImage 2) (.bytes (imageBytes 0 0x5AB211E0)) = .ok d) ∧ awake.nat (Key.coreProgramState 3) ≠ 2
      ∧ headerOk 3 (imageBytes 2 0) = false ∧ headerOk 3 (imageBytes 0 0) = true ∧ image0.header.sizesOk = true ∧ (imageBytes 0 0).length = 64 + 4 + 0 + 68
      ∧ awake.logOpen)
    ∧ (∀ e ∈ [(Key.imagesEraseSlot, 1), (Key.imagesEraseSlot, 3)], Accepts awake hearth e.1 e.2)
    ∧ ((∃ d, (awake.touch hearth).checkWrite hearth Key.startFirmwareImage (.bytes [1]) = .ok d)
      ∧ (awake.putN Key.startBankStarted 1).nat Key.startBankStarted = 1 ∧ (awake.putN Key.startBankStarted 2).nat Key.startBankStarted = 2)
    ∧ ∃ d, (awake.touch hearth).checkWrite hearth Key.startConfigurationImage (.bytes [1]) = .ok d := by
  unfold State.logOpen
  refine ⟨⟨?_, image0_crcOk, ?_, ?_, ⟨accepts_of_passes ?_, ?_⟩, ⟨accepts_of_passes ?_, ?_⟩, accepts_of_passes ?_, accepts_of_passes ?_⟩,
    ⟨written_of ?_, ?_⟩, accepts_all ?_, ⟨written_of ?_, ?_⟩, written_of ?_⟩ <;> decide +kernel

/-- A core with a running periodic timer, a full counter, a record of sampling retired. -/
def counting : Core := { privCore [] with
  timers := Vector.replicate 2 { (privCore []).timers[0] with run := true, periodic := true, reload := 9, count := 3 },
  localCtrl := BitVec.allOnes 32, pmctl := 0xFFFF, pmsel := Vector.replicate 8 1, pmc := Vector.replicate 8 0xFFFFFFFF, sampleCtl := 0x80000010,
  flight := some { SampleRecord.reset with retired := true } }

theorem witness_RouterTimersAndCounters : Accepts awake hearth (Key.routerRoutePair 127) 0x81028301
    ∧ (let s := awake.putN (Key.routerRoutePair 0) 0x8302; let a := s.nat (Key.routerRoutePair 0) / 65536 ^ (0 : Fin 2).val % 65536
      a ≠ 0 ∧ ((0 : Nat) < 248 ∨ 251 < 0) ∧ field a 10 8 = (3 : Fin 4).val)
    ∧ (let s := onCores counting; let k := s.cores[3]
      s.clocksRun = true ∧ k.timers[(1 : Fin 2)].run = true ∧ k.timers[(1 : Fin 2)].count ≠ 0 ∧ k.localCtrl.getLsbD (8 * 1 + 7) = true
      ∧ k.pmctl.getLsbD 7 = true ∧ k.pmsel[(7 : Fin 8)] ≠ 0 ∧ k.pmc[(7 : Fin 8)] = 0xFFFFFFFF ∧ k.pmctl.getLsbD 15 = true ∧ k.localCtrl.getLsbD 23 = true
      ∧ k.sampleCtl.getLsbD 31 = true ∧ k.sampleLeft = 0 ∧ k.flight.isSome = true ∧ k.sampleLocked = false
      ∧ ({ k with sampleLocked := true } : Core).sampleLocked = true) :=
  ⟨accepts_of_passes (by decide +kernel), by decide +kernel⟩

/-- CAN B with a port and a bus state, the module RUNNING. -/
def canB (q : CanPort) (bus : Nat) (s : State := inProcess 3) : State := { s.putN (Key.canBusState 1) bus with can := Vector.replicate 2 q }
def entry0 : CanEntry := { id := 0x123, control := 2, tag := 65535, notBefore := 0, data := [7, 7], own := false, released := true, cancelled := false }
def portOf (q : List CanEntry) (ring fifo : Nat) : CanPort := { CanPort.reset with queue := q, ring := List.replicate ring 5, fifo := List.replicate fifo [1] }
def portBytes : List Byte := leBytes 4 5 ++ leBytes 2 2 ++ leBytes 2 65535 ++ leBytes 8 0 ++ [9, 9]
def frame0 : CanFrame := ⟨0x80000123, 2, false, [1, 2]⟩

theorem witness_CanPorts :
    (let s := canB (portOf [entry0] 32 0) busActive; let q := s.can[(1 : Fin 2)]
      s.clocksRun = true ∧ s.contender 1 = some .head ∧ s.onWire ⟨1, .head⟩ = some entry0 ∧ entry0.own = false ∧ q.backlog = [] ∧ 32 ≤ q.ring.length ∧ q.urgent = none
      ∧ q.queue = entry0 :: [] ∧ entry0.cancelled = false ∧ entry0.oneShot = false ∧ s.flag (Key.canOneShotAll 1) = false ∧ s.onBus 1 = true
      ∧ s.bus 0 ≠ busOff ∧ Accepts s service (Key.canCancel 1) 65535 ∧ Accepts (canB .reset busOff) service (Key.canRecover 1) 1)
    ∧ ((portOf [] 31 63).ring.length < 32 ∧ (portOf [] 31 63).fifo.length < 64 ∧ 64 ≤ (portOf [] 0 64).fifo.length
      ∧ ({ entry0 with cancelled := true } : CanEntry).cancelled = true ∧ ({ entry0 with control := 0x22 } : CanEntry).oneShot = true)
    ∧ ((inProcess 1).process = psInit ∨ (inProcess 1).process = psStopped) ∧ (canB .reset busIntegrating).bus 1 = busIntegrating
    ∧ ((∃ d, ((canB .reset busActive).touch service).checkWrite service (Key.canTransmitPort 1) (.bytes portBytes) = .ok d)
      ∧ (∃ e, ((canB (portOf (List.replicate 32 entry0) 0 0) busActive).touch service).checkWrite service (Key.canTransmitPort 1) (.bytes portBytes) = .error e
        ∧ e = .state (Key.canTransmitPort 1)) ∧ 8 ≤ portBytes.length
      ∧ (canB (portOf (List.replicate 32 entry0) 0 0) busActive).listenOnly 1 = false ∧ (canB .reset busActive).bus 0 ≠ busOff
      ∧ entryOk ((canB .reset busActive).fdOn 1) ((canB .reset busActive).moduleNs + 62500) portBytes.length (entryOf portBytes) = true
      ∧ entryOk ((canB .reset busActive).fdOn 1) ((canB .reset busActive).moduleNs + 62500) (portBytes ++ [0]).length (entryOf (portBytes ++ [0])) = false)
    ∧ (canB { CanPort.reset with reference := some entry0 } busActive).onWire ⟨1, .reference⟩ = some entry0
    ∧ (let s := (canB .reset busActive).putN (Key.canTEC 1) 247; s.bus 1 = busActive ∧ 120 ≤ s.nat (Key.canTEC 1) ∧ s.nat (Key.canTEC 1) ≤ 247
        ∧ 247 < (s.putN (Key.canTEC 1) 248).nat (Key.canTEC 1))
    ∧ (canB { CanPort.reset with recovering := true } busOff).canRecovering 1 = true
    ∧ ((∃ r, ((canB .reset busActive).touch service).checkRead (Key.canCompletion 1) = .ok r) ∧ ∃ r, ((canB .reset busActive).touch service).checkRead (Key.canfiltFIFORead 1) = .ok r)
    ∧ (frame0.data.length = frameLength frame0 ∧ frame0.dlc < 16 ∧ frame0.remote = false ∧ frame0.id.testBit 30 = false
      ∧ (∃ f : CanFrame, f = ⟨0x123, 2, true, []⟩ ∧ f.remote = true ∧ f.data.length = frameLength f) ∧ (canB .reset busActive).nat (Key.canREC 1) ≤ 127)
    ∧ (let s := (canB .reset busActive).putN (Key.canfiltObjectId 1 63) 0xC0000123
      s.nat (Key.canReceiveMode 1) = 0 ∧ s.rxObject 1 frame0 = some 63 ∧ (s.nat (Key.canfiltObjectId 1 63)).testBit 29 = false
      ∧ Accepts s service (Key.canfiltObjectStatus 1 63) 3)
    ∧ (let s := { (canB .reset busActive).putN (Key.cantimeReferenceRole 0) 1 with canopen := { awake.canopen with emcyHeld := [[1, 2, 3, 4, 5, 6, 7, 8]] } }
        |>.putN (Key.canBusState 0) busActive
      s.nat (Key.cantimeReferenceRole 0) = 1 ∧ s.process ≠ psKindling ∧ s.bus 0 ≠ busOff0 ∧ s.bus 0 ≠ busSleep ∧ s.listenOnly 0 = false
      ∧ (s.can[(0 : Fin 2)]).reference = none ∧ ((s.canopen.emcyHeld).length = 1) ∧ awake.canopen.emcyHeld = [])
    ∧ ((canB { CanPort.reset with reference := some entry0 } busActive).can[(0 : Fin 2)]).reference.isSome = true := by
  refine ⟨⟨?_, ?_, ?_, ?_, ?_, ?_, ?_, ?_, ?_, ?_, ?_, ?_, ?_, accepts_of_passes ?_, accepts_of_passes ?_⟩, ?_, ?_, ?_,
    ⟨written_of ?_, ⟨_, rfl, by decide⟩, ?_⟩, ?_, ?_, ?_, ⟨read_of ?_, read_of ?_⟩, ⟨?_, ?_, ?_, ?_, ⟨_, rfl, ?_⟩, ?_⟩,
    ⟨?_, ?_, ?_, accepts_of_passes ?_⟩, ?_, ?_⟩ <;> decide +kernel

/-- The CANopen slave operational on CAN A, its path at level SERVICE, a transfer in a phase. -/
def open_ (x : Sdo) : State := let s := (inProcess 3).putN (Key.canBusState 0) busActive
  { s with
    dict := { s.dict with canA := ⟨.service, 3⟩ },
    canopen := { s.canopen with nmt := 5, sdo := x } }
def sdoIn (p : SdoPhase) : Sdo := { Sdo.idle with phase := p, key := 0x240003, bytes := List.replicate 20 5, blksize := 4 }
def sdoFrame (a b c d e : Byte) : List Byte := [a, b, c, d, e, 0, 0, 0]

theorem witness_CanopenServices :
    (let s := open_ .idle;
      s.sdoOpen = true ∧ (sdoFrame 0x21 0 0x24 3 2).length = 8 ∧ s.canopen.sdo.asked = false ∧ (byteAt (sdoFrame 0x21 0 0x24 3 2) 0).testBit 1 = false
      ∧ s.earlyRefusal Key.cowlComputeData none = none ∧ (∃ e, s.earlyRefusal 0x999901 none = some e)
      ∧ (byteAt (sdoFrame 0x2B 0 0x26 0x13 1) 0).testBit 1 = true ∧ s.pathBusy sdoPath = false ∧ (∀ r ∈ s.dict.replies, r.1.writer ≠ .canA)
      ∧ Key.loopKp 0 ≠ Key.identLevelRequest ∧ (∃ n, (s.touch sdoPath).checkWrite sdoPath (Key.loopKp 0) (.bytes [1, 0]) = .ok (.num n))
      ∧ s.canopen.sdo.phase ≠ .download ∧ s.canopen.sdo.phase ≠ .upload ∧ s.canopen.sdo.phase = .idle)
    ∧ (let u := ((open_ .idle).setSdo fun _ => { Sdo.idle with key := 0x999901, asked := true }).touch sdoPath
      (∃ e, u.checkRead 0x999901 = .error e) ∧ (∃ r, u.checkRead Key.procProcessState = .ok r) ∧ thermalReadOf Key.procProcessState = none)
    ∧ (∀ p ∈ [SdoPhase.download, .upload, .blockDownload, .blockDownloadEnd, .blockUploadStart], (open_ (sdoIn p)).canopen.sdo.phase = p)
    ∧ (byteAt (sdoFrame 0x10 0 0 0 0) 0).testBit 4 ≠ (sdoIn .download).toggle ∧ (byteAt (sdoFrame 0 0 0 0 0) 0).testBit 4 = (sdoIn .upload).toggle
    ∧ (byteAt (sdoFrame 0xC6 0 0x24 3 2) 0).testBit 0 = false ∧ byteAt (sdoFrame 1 0 0 0 0) 0 = (sdoIn .blockDownload).seqno + 1
    ∧ (byteAt (sdoFrame 0xC1 0 0 0 0) 0 / 32 = 6 ∧ sdoCrc ((sdoIn .blockDownloadEnd).bytes.take 20) ≠ 0)
    ∧ (byteAt (sdoFrame 0xA0 0 0 0 0) 0 % 4 = 0 ∧ byteAt (sdoFrame 0xA0 0 0 0 0) 4 = 0 ∧ 127 < byteAt (sdoFrame 0xA0 0 0 0 0x80) 4) ∧ byteAt (sdoFrame 0xA3 0 0 0 0) 0 % 4 = 3
    ∧ (let s := with_ (open_ .idle) [(Key.canNodeID 0, 9), (Key.rpdoCOBID 7, 0x280), (Key.tpdoCOBID 7, 0x180), (Key.rpdoTransmissionType 7, 255), (Key.tpdoTransmissionType 7, 254),
          (0x1607 * 256, 1), (0x1607 * 256 + 1, Key.loopKp 0 * 256 + 16), (Key.hbprodTime, 1), (Key.hbconsConsumer 3, 0x50064)];
      s.canopen.nmt = 5 ∧ (s.pdoCob (Key.rpdoCOBID 7) 0x200 7).isSome = true ∧ ((s.pdoMap 0x1607).map fun m => m.2).sum ≤ 2
      ∧ s.pdoMap 0x1607 = [(Key.loopKp 0, 2)] ∧ 240 < s.nat (Key.rpdoTransmissionType 7) ∧ s.nat (Key.rpdoTransmissionType 0) ≤ 255
      ∧ (∃ v, (s.touch pdoPath).checkWrite pdoPath (Key.loopKp 0) (.bytes [1, 0]) = .ok v)
      ∧ (s.pdoCob (Key.tpdoCOBID 7) 0x180 7).isSome = true ∧ (s.canopen.tpdos[7]).inhibited = false ∧ 254 ≤ s.nat (Key.tpdoTransmissionType 7)
      ∧ (s.putN (Key.tpdoTransmissionType 7) 0).nat (Key.tpdoTransmissionType 7) = 0 ∧ (s.putN (Key.rpdoTransmissionType 7) 240).nat (Key.rpdoTransmissionType 7) ≤ 240
      ∧ s.slaveOwner (cobWord 0x280) = some (.rpdo 7) ∧ s.pdoCob (Key.rpdoCOBID 7) 0x200 7 = some 0x280 ∧ s.slaveOwner 0x80 = some .sync
      ∧ s.slaveOwner 0x81 ≠ some .sync ∧ (Key.loopKp 0 ≠ Key.traceCommand)
      ∧ s.nat Key.hbprodTime ≠ 0 ∧ s.consumerNode 3 ≠ 0 ∧ s.consumerTime 3 ≠ 0 ∧ s.canopen.absent.contains 3 = false) := by
  refine ⟨⟨?_, ?_, ?_, ?_, ?_, ⟨_, rfl⟩, ?_, ?_, ?_, ?_, ⟨_, rfl⟩, ?_⟩, ⟨⟨_, rfl⟩, read_of ?_, ?_⟩, ?_, ?_, ?_, ?_, ?_, ?_, ?_, ?_,
    ?_, ?_, ?_, ?_, ?_, ?_, written_of ?_, ?_⟩ <;> decide +kernel

/-- A node with Flue on, port 3 adjacent to the neighbour 0x18000000, head of its group 0x10000000 in which it holds seat 1 itself; seats
8 (present) and 15 (absent or sleeping) are taken too. -/
def hello0 : Hello := { uid := 9, addr := 0x18000000, role := 0, group := 0x10000000, priority := 7, nonce := 5, banking := false, auth := false }
def member0 (addr uid state : Nat) : FlueMember := { FlueMember.empty with addr := addr, uid := uid, state := state }
def group0 (head deputy : Nat) : FlueGroup := {
  addr := 0x10000000, head := head, deputy := deputy, part := [(9, 0x11000000)], wanted := [],
  members := ((Vector.replicate 15 FlueMember.empty).set 7 (member0 0x18000000 9 1)).set 14 (member0 0x1F000000 11 2) }
def noded (process : Nat := 3) (head : Nat := 77) (ls : Nat := 3) : State :=
  let s := with_ (inProcess process) [(Key.flueEnable, 1), (Key.portEnable 3, 1), (Key.portLinkState 3, ls), (Key.identUniqueIDLowWord, 77),
    (Key.flueAddressInForce, 0x11000000), (Key.flueGroupAddress, 0x10000000), (Key.flueSeatState, 2), (Key.flueLevel, 1), (Key.portNeighbourAddress 3, 0x18000000)]
  { s with flue := { s.flue with
      groups := [group0 head 9],
      ports := s.flue.ports.set 3 { s.flue.ports[3] with neighbour := some hello0, lastHello := some 0, runStart := some 0 } } }

def link0 : LinkState := ⟨9, 0x18000000, 9, 5, [0x10000000], [], [77], [], false⟩

/-- A frame on port 3 from seat 8 to this node. -/
def msg0 : FlueMsg := ⟨3, 0x88B5, ⟨1, 7, 64, 0, 0⟩, 5, 0x11000000, 0x18000000, 0, 1, true, true, true, true⟩
/-- A second group of the node, headed by it too: a map may come to its address. -/
def upper0 : FlueGroup := { group0 77 9 with addr := 0x12000000 }

/-- The frame `m` with the header of a body is taken. -/
def FrameTaken (s : State) (m : FlueMsg) (b : FlueBody) : Prop :=
  s.Takes { m with head := ⟨1, typeCode b, 64 * classOf (queueOf b), 20, 20⟩ } b

theorem witness_FlueFramesReceived : let s := noded; let status : StatusInfo := ⟨1, 2, 3, 4, []⟩; let m := { msg0 with src := 0x18000000 }
    (s.portUp 3 = true ∧ frameSound msg0 .awake = true ∧ frameSound { msg0 with ether := 0x8100 } .awake = false
      ∧ ([⟨2, 7, 64, 0, 0⟩, ⟨1, 0x0F, 64, 0, 0⟩, ⟨1, 7, 65, 0, 0⟩, ⟨1, 7, 64, 1, 0⟩, ⟨1, 7, 64, 461, 461⟩] : List FlueHead).all (fun h => !headSound h .awake) = true ∧ addressesOk { msg0 with dst := 0xFFFFFFFF } .awake = false ∧ (s.putN (Key.portAuthentication 3) 1).flag (Key.portAuthentication 3) = true
      ∧ FrameTaken s m .awake ∧ FrameTaken s m (.status status) ∧ FrameTaken s { msg0 with hop := 1, dst := 0xFFFFFFFF } (.hello hello0) ∧ FrameTaken s m (.map [1])
      ∧ ({ s with flue := { s.flue with rxAlive := [(0x18000000, dataIdOf .awake, 1)] } } : State).aliveRepeats 0x18000000 (dataIdOf .awake) 1 = true)
    ∧ FrameTaken s m (.linkState link0) ∧ (link0.origin ≠ s.uid ∧ (∀ q ∈ s.flue.lsdb, q.origin = link0.origin → q.seq < link0.seq))
    ∧ (∃ q ∈ ({ s with flue := { s.flue with lsdb := [link0] } } : State).flue.lsdb, q.origin = link0.origin ∧ link0.seq ≤ q.seq)
    ∧ (FrameTaken s m (.head ⟨0x10000000, 9, 77⟩) ∧ s.groupOf 0x10000000 = some (group0 77 9))
    ∧ (FrameTaken s m (.seat 77 0x12000000 false) ∧ addrSeated 0x12000000 = true ∧ s.uid = 77 ∧ FrameTaken s m (.seat s.uid 0x10100000 false) ∧ addrSeated 0x10100000 = false)
    ∧ (FrameTaken s m (.seat 9 0x18000000 true) ∧ s.seatAt 0x18000000 = some (0x10000000, 7) ∧ FrameTaken s m (.banking 5) ∧ ((group0 77 9).members[(14 : Fin 15)]).state = 2
      ∧ ((group0 77 9).members[(7 : Fin 15)]).state ≠ 2)
    ∧ (FrameTaken s m (.bankingAnswer true 5) ∧ ({ s with power := { s.power with noticeOut := true } } : State).power.noticeOut = true)
    ∧ FrameTaken s m (.plan 0x10000000 0 true [1]) ∧ (FrameTaken s m (.plan 0x10000000 1 false [1])
      ∧ ({ s with flue := { s.flue with planIn := some (0x10000000, 1, [5]) } } : State).flue.planIn = some (0x10000000, 1, [5]))
    ∧ (let w := { s with flue := { s.flue with groups := s.flue.groups ++ [upper0] } }; let n := { m with dst := 0x12000000 }
      FrameTaken w n (.map [1]) ∧ n.dst ≠ w.address ∧ w.answers n.dst = true ∧ w.groupOf n.dst = some upper0 ∧ s.answers n.dst = false)
    ∧ (FrameTaken s m (.log ⟨0x0304, 5, 1, 2, 3, 4⟩) ∧ s.logOpen)
    ∧ (s.answers m.dst = true ∧ FrameTaken s m (.dictReq ⟨5, 1, 0x9999, 1, 0, []⟩) ∧ s.keptRsp m.src 5 = none ∧ m.dst = s.address ∧ s.pathBusy ⟨.flue, m.src⟩ = false
      ∧ (∃ e, (s.touch ⟨.flue, m.src⟩).checkRead 0x999901 = .error e) ∧ s.dict.replies = [] ∧ s.flue.waiting = [] ∧ s.answers m.src = false
      ∧ ({ s with flue := { s.flue with cache := [⟨m.src, ⟨5, 0x82, 0, 0, 0, []⟩, 0⟩] } } : State).keptRsp m.src 5 = some ⟨5, 0x82, 0, 0, 0, []⟩)
    ∧ (let u := { s with flue := { s.flue with
        fans := [⟨0x10000000, 15, 8, 0x18000000, 0⟩], serving := [⟨0x18000000, 0x11000000, ⟨5, 1, 0x2000, 2, 0, []⟩⟩],
        doms := [⟨0x18000000, 0x11000000, ⟨2, 4, 0x2110, 1, 0, []⟩, 1, [5]⟩] } };
      FrameTaken u m (.dictRsp ⟨0, 0x82, 0, 0, 0, []⟩) ∧ u.flue.fans.find? (fun f => f.dst == m.src && f.tid == 0) = some ⟨0x10000000, 15, 8, 0x18000000, 0⟩ ∧ u.currentGroup = 0x10000000
      ∧ u.flue.serving.any (fun x => x.src == m.src) = true ∧ FrameTaken u m (.domSeg ⟨2, 1, false, false, [7]⟩)
      ∧ (u.flue.doms.find? (fun t => t.src == m.src && t.req.tid == 2 && (t.req.op == 3) == false)).isSome = true)
    ∧ (let v := with_ s [(Key.colEnable 3, 1), (Key.boundDownstreamAddress 3, 0x18000000), (Key.boundDownstreamColumn 3, 2)]
      let b : Boundary := ⟨v.stepNumber 3, true, 2, 3, 4, 1, 0, 0, v.stepSeconds 3 * 1000, []⟩
      v.clocksRun = true ∧ v.process ≠ psKindling ∧ FrameTaken v m (.boundary b) ∧ v.flag (Key.colEnable 3) = true ∧ v.linkMatches 3 b (some m.src) = true
      ∧ b.period = v.stepSeconds 3 * 1000 ∧ b.flags.testBit 0 = true ∧ b.up = true)
    ∧ (s.answers 0x18000000 = false ∧ addressesOk { msg0 with dst := 0x18000000 } .awake = true ∧ s.process ≠ psKindling ∧ (noded 5).process = psKindling ∧ 1 < msg0.hop
      ∧ s.sleeperAt 0x18000000 = none ∧ s.routePort 0x18000000 = some 3 ∧ s.Room 3 .awake ∧ s.routePort 0x22000000 = none
      ∧ s.sleeperAt 0x1F000000 = some (0x10000000, 14)
      ∧ s.groupOf 0x10000000 = some (group0 77 9) ∧ ((group0 77 9).members[(14 : Fin 15)]).mailbox.length < 32 ∧ ({ msg0 with hop := 1 }).hop ≤ 1
      ∧ s.Room 3 (.boundary ⟨0, true, 0, 1, 4, 1, 0, 0, 0, []⟩) ∧ s.clocksRun = true ∧ queueOf .awake ≠ 0 ∧ queueOf (.boundary ⟨0, true, 0, 1, 4, 1, 0, 0, 0, []⟩) = 0) := by
  unfold FrameTaken State.Takes State.Room State.logOpen
  refine ⟨?_, ?_, ?_, ?_, ?_, ?_, ?_, ?_, ?_, ?_, ?_, ?_, ⟨?_, ?_, ?_, ?_, ?_, ⟨_, rfl⟩, ?_⟩, ?_, ?_, ?_⟩ <;> decide +kernel

/-- The head of the root group; a module whose service port is at level SERVICE. -/
def rooted : State := { noded 1 with flue := { noded.flue with groups := [{ group0 77 9 with addr := 0 }] } }
def keyed : State := { awake with dict := { awake.dict with service := ⟨.service, 0⟩ } }

theorem witness_FlueNodeWork : let s := noded; let u := s.touch hearth
    (s.clocksRun = true ∧ (∀ h, s.Room 3 (.hello h)) ∧ s.neighbourGroup 3 = (group0 77 9).addr ∧ (group0 77 9).addr = s.myGroup ∧ group0 77 9 ∈ s.flue.groups ∧ s.adjacent 3 = true ∧ s.neighbourGroup 3 = 0x10000000
      ∧ ((s.flue.ports[3]).queues[2]).length + s.flue.groups.length ≤ 16 ∧ (group0 77 9).head = s.uid ∧ (group0 77 9).head ≠ 0)
    ∧ (s.nat (Key.portLinkState 3) = 3 ∧ ((s.setPort 3 (fun u => { u with lastHello := none })).flue.ports[(3 : Fin 4)]).lastHello ≠ some s.clock.tick
      ∧ ((s.setPort 3 (fun u => { u with lastHello := some s.clock.tick })).flue.ports[(3 : Fin 4)]).lastHello = some s.clock.tick
      ∧ ¬ s.nat (Key.portLinkState 0) = 3 ∧ s.logOpen ∧ ∀ r ∈ s.flue.groups, r.head = 0 ∨ r.head = s.uid)
    ∧ (s.flag Key.flueEnable = true ∧ s.flag (Key.portEnable 3) = true ∧ (noded 3 77 1).nat (Key.portLinkState 3) < 2 ∧ (noded 3 77 0).nat (Key.portLinkState 3) < 1)
    ∧ (s.groupOf 0x10000000 = some (group0 77 9) ∧ s.reaches 0x10000000 77 = true ∧ (group0 77 9).head ≠ 0 ∧ ∃ x ∈ s.candidates 0x10000000, x.1 = 77)
    ∧ ((noded 3 50).reaches 0x10000000 50 = false ∧ (noded 3 50).candidates 0x10000000 ≠ [])
    ∧ (awake.seated = false ∧ s.seated = true ∧ ∀ r ∈ (noded 3 50).flue.groups, r.head ≠ (noded 3 50).uid)
    ∧ (s.headed.contains s.myGroup = true ∧ s.seatAt s.address = some (s.myGroup, 0) ∧ s.groupOf s.myGroup = some (group0 77 9)
      ∧ ∀ q ∈ s.flue.groups, q.head = s.uid → q.addr = 0 ∨ s.seatAt q.addr = none)
    ∧ (((group0 77 9).members[(7 : Fin 15)]).state = 1 ∧ ((group0 77 9).members[(14 : Fin 15)]).state = 2)
    ∧ ((∃ d, (rooted.touch hearth).checkWrite hearth Key.planPlan (.bytes (List.replicate 16 1)) = .ok d) ∧ (∃ d, (keyed.touch service).checkWrite service Key.flueSiteKey (.bytes (List.replicate 16 7)) = .ok d)
      ∧ (∃ e, (keyed.touch service).checkWrite service Key.flueSiteKey (.bytes (List.replicate 5 7)) = .error e)
      ∧ Accepts s hearth (Key.fanoutValue 15) 0xFFFFFFFF)
    ∧ (s.lowestGroup = some (group0 77 9) ∧ awake.lowestGroup = none
      ∧ ∀ i : Fin 15, (s.nat (Key.fanoutMemberMask (15 : Fin 16))).testBit (i.val + 1) = true → ((group0 77 9).members[i]).state ≠ 0 → s.answers ((group0 77 9).members[i]).addr = false)
    ∧ (let v := { s with flue := { s.flue with fans := [⟨0x10000000, 15, 8, 0x18000000, 0⟩] } };
      (v.flue.fans.find? fun f => f.entry == 15 && f.seat == (7 : Fin 15).val + 1) = some ⟨0x10000000, 15, 8, 0x18000000, 0⟩
      ∧ v.currentGroup = 0x10000000 ∧ ∀ g, v.groupOf 0x10000000 = some g → (g.members[(7 : Fin 15)]).state ≠ 2)
    ∧ (s.portUp 3 = true ∧ s.isGrandmaster = false ∧ s.Room 3 (.gptp 2 s.moduleNs) ∧ s.Room 3 (.gptp 3 s.moduleNs)
      ∧ (let v := with_ s [(Key.portLinkState 2, 2)]; v.portUp 3 = true ∧ v.portUp 2 = true ∧ v.isGrandmaster = false ∧ v.process ≠ psKindling
        ∧ ((v.flue.ports[(2 : Fin 4)]).queues[1]).length ≤ 2))
    ∧ (let g := with_ s [(Key.ftimeSyncState, 3), (Key.ftimeGrandmasterChoice, 1), (Key.ftimeNamedGrandmasterLow, 77)]; g.isGrandmaster = true ∧ g.nat Key.ftimeSyncState = 3 ∧ g.portUp 3 = true
        ∧ ((g.flue.ports[3]).queues[1]).length ≤ 2)
    ∧ (s.putN Key.ftimeSyncState 2).nat Key.ftimeSyncState = 2 ∧ ∃ r, u.checkRead Key.ftimeFlueTimeSeconds = .ok r := by
  unfold State.Room State.logOpen
  refine ⟨⟨?_, fun _ => ?hello, ?_⟩, ?_, ?_, ?_, ?_, ?_, ?_, ?_, ⟨written_of ?_, written_of ?_, ⟨_, rfl⟩, accepts_of_passes ?_⟩, ?_,
    ⟨?_, ?_, fun g h => ?group⟩, ?_, ?_, ?_, read_of ?_⟩
  case group => injection h with h; subst h; decide
  case hello =>
    exact (by decide +kernel : noded.portUp 3 = true ∧ ((noded.flue.ports[(3 : Fin 4)]).queues[queueOf (.hello hello0)]).length
      < if queueOf (.hello hello0) = 1 then 4 else 16)
  all_goals decide +kernel

/-- A log with a queue and slots; a sensor of the thermal unit converting, the other readings known. -/
def event0 (code : Nat) : AshEvent := { code := code, source := 5, severity := 1, w4 := 1, w5 := 2, w6 := 3, cycle := 4, forwarded := false }
def queued0 : AshQueued := ⟨event0 0x304, 1000, 1500, 2⟩
def record0 : AshRecord := ⟨event0 0x304, false, 1, 1, 300⟩
def logging (a : Ash) (s : State := inProcess 3) : State := { s with ash := a }
def converting (i : Fin 6) (status : Nat) (known : Bool := true) (s : State := inProcess 3) : State :=
  { s.putN Key.thermalStatus status with thermal := { Thermal.reset with converting := some i, sensors := Vector.replicate 6 ⟨0x41C80000, 0x42F00000, known, 2⟩ } }

theorem witness_CowlAshAndThermal :
    ((∃ d, (awake.touch hearth).checkWrite hearth Key.cowlComputeData (.bytes [1, 2]) = .ok d)
      ∧ (let s := awake; s.clocksRun = true ∧ ¬ (s.cowlWord 3 15).testBit 31 = true)
      ∧ (let s := awake.putN (Key.cowlContext 63) 0x80000001; let w := s.cowlWord 3 15
        w.testBit 31 = true ∧ w.testBit 30 = false ∧ field w 11 0 ≠ 0 ∧ (s.cowl[3]).contexts[15].timeout = false ∧ s.cowlHeard 3 15 = false))
    ∧ (∃ a, a = { Ash.reset with queue := [queued0], slots := List.replicate 16319 record0 } ∧ a.slots.length = 16319)
    ∧ (let a := { Ash.reset with queue := [queued0], slots := [record0] }; let s := logging a
      s.ash.failed = false ∧ s.ash.clearing = none ∧ s.logRuns = true ∧ s.ash.queue = queued0 :: [] ∧ s.ash.episode = 0 ∧ s.flag Key.ashFull = false
      ∧ s.merges queued0 = true ∧ s.ash.slots = record0 :: [] ∧ s.ash.reserve.length < 8 ∧ s.sleeperAt s.myGroup = none)
    ∧ (let s := logging { Ash.reset with queue := [queued0] }; s.merges queued0 = false ∧ s.ash.slots.length < 16319 ∧ (s.putN Key.ashFull 1).flag Key.ashFull = true)
    ∧ (Ash.reset.queue = [] ∧ Ash.reset.episode = 0 ∧ awake.logRuns = true ∧ Ash.reset.clearing = none)
    ∧ ({ Ash.reset with failed := true }.failed = true ∧ (logging { Ash.reset with clearing := some (2, 3, 7) }).ash.clearing.isSome = true)
    ∧ Accepts awake hearth Key.ashClear 0xC1EA
    ∧ (logging { Ash.reset with clearing := some (2, 3, 7) }).ash.clearing = some (2, 3, 7)
    ∧ ((∃ r, (awake.touch hearth).checkRead (Key.ashRecordWord 0) = .ok r) ∧ ∃ r, (awake.touch hearth).checkRead (Key.ashRecordWord 7) = .ok r)
    ∧ (State.reset.clocksRun = false ∧ (ratioOf awake.ambient).1 ≤ 60 * Int.ofNat (ratioOf awake.ambient).2)
    ∧ ((∃ r, (awake.touch service).checkRead (Key.thermalTS 5) = .ok r) ∧ writerIsCore service.writer = false ∧ writerIsCore .core3 = true)
    ∧ (∀ e ∈ [(Key.thermalBankEnable, 1), (Key.thermalBankEnable, 2)], Accepts (awake.putN Key.thermalStatus 0x30) hearth e.1 e.2)
    ∧ (let s := { inProcess 4 with startup := { awake.startup with faultEvents := [0x0203] } }
      Accepts s hearth Key.thermalRestart 1 ∧ s.process = psFault ∧ s.startup.faultEvents.contains 0x0203 = true) := by
  refine ⟨⟨written_of ?_, ?_⟩, ⟨_, rfl, List.length_replicate⟩, ?_, ?_, ?_, ?_, accepts_of_passes ?_, ?_, ⟨read_of ?_, read_of ?_⟩, ?_, ⟨read_of ?_, ?_⟩, accepts_all ?_,
    accepts_of_passes ?_, ?_⟩ <;> decide +kernel

/-- The readings of the conversion clauses of CowlAshAndThermal, at the levels of R604 themselves. -/
theorem witness_ThermalLevels : (∀ i : Fin 6, let s := converting i 0 false
      s.clocksRun = true ∧ s.thermal.converting = some i ∧ s.coldHold = false ∧ s.bitOf Key.thermalStatus (8 + i.val) = false
      ∧ fle (levelThrottle i) (levelThrottle i) = true ∧ fle (levelShutdown i) (levelThrottle i) = false
      ∧ fle (levelShutdown i) (levelShutdown i) = true ∧ (throttleGroup i ≠ 0 → fle (levelHard i) (levelShutdown i) = false) ∧ fle (levelHard i) (levelHard i) = true)
    ∧ (∀ i : Fin 6, let s := converting i 7; s.bitOf Key.thermalStatus (throttleGroup i) = true ∧ fle (levelRelease i) (levelRelease i) = true)
    ∧ (∀ i : Fin 6, (converting i 0x3F00).bitOf Key.thermalStatus (8 + i.val) = true)
    ∧ (1 : Fin 6) ∈ groupSensors 0 ∧ throttleGroup 0 = 0 := by decide +kernel

/-! ### Single steps -/

theorem test_add_wraps : gives (.add 3 4 1 2) (onCores (userCore [(1, 0xFFFFFFFF), (2, 2)])) (fun t => (t.cores[3]).reg 4 == 1 && (t.cores[3]).pc == 0x10000104) = true := by
  decide +kernel

theorem test_w0_stays_zero : gives (.addi 3 0 1 5) (onCores (userCore [(1, 7)])) (fun t => (t.cores[3]).reg 0 == 0) = true := by decide +kernel

/-- The quotient of the most negative number by −1 is itself, and by 0 all ones (R447). -/
theorem test_div_corners : gives (.div 3 4 1 2) (onCores (userCore [(1, 0x80000000), (2, 0xFFFFFFFF)])) (fun t => (t.cores[3]).reg 4 == 0x80000000) = true
    ∧ gives (.div 3 4 1 0) (onCores (userCore [(1, 7)])) (fun t => (t.cores[3]).reg 4 == 0xFFFFFFFF) = true := by decide +kernel

/-- A word is stored with its low byte at the lowest address (R439). -/
theorem test_store_is_little_endian : gives (.stw 3 4 1 0) (onCores (userCore [(1, 0x11000010), (4, 0x01020304)]))
    (fun t => t.byteAt (.dtcm 3) 0x11000010 == 4 && t.byteAt (.dtcm 3) 0x11000013 == 1 && t.byteAt (.dtcm 2) 0x11000010 == 0) = true := by decide +kernel

/-- A branch to the word before itself (R447's BEQ w2, w0, −1). -/
theorem test_branch_back : gives (.beq 3 2 0 (BitVec.ofInt 18 (-1))) (onCores (userCore [])) (fun t => (t.cores[3]).pc == 0x100000FC) = true := by decide +kernel

/-- R447's worked examples, ADD w4, w1, w2, LUI, JL, a supervisor call and ERET, written out from its formats; an opcode and an fn that it
does not list, and reserved fields that are not 0. -/
theorem test_words : instrOf 3 0 0x40AC0024 = some (.ldw 3 2 11 0x24 0) ∧ instrOf 3 0 0x8083FFFF = some (.beq 3 2 0 (BitVec.ofInt 18 (-1)))
    ∧ instrOf 1 0 0x01048000 = some (.add 1 4 1 2) ∧ instrOf 1 0 0x28400001 = some (.lui 1 1 0 1)
    ∧ instrOf 0 0 0xA3800005 = some (.jl 0 14 5) ∧ instrOf 0 0 0xD0000002 = some (.svcLog 0) ∧ instrOf 0 0 0xD8000000 = some (.eret 0)
    ∧ instrOf 0 0 0xFC000000 = none ∧ instrOf 0 0 22 = none ∧ instrOf 0 0 0xD8000001 = none ∧ instrOf 0 0 0x28440001 = none := by decide +kernel

/-- The heating permit lost opens a channel of its class and leaves the other class on (R390). -/
theorem test_permit_lost : gives (.permitLost 1) (inPhase (fun u => { u with phase := .hold }) (switched.putN (Key.actClass 19) 2))
    (fun t => (t.actUnit 19).phase == .idle) = true
    ∧ gives (.permitLost 1) (inPhase (fun u => { u with phase := .hold }) (switched.putN (Key.actClass 19) 1)) (fun t => (t.actUnit 19).phase == .hold) = true := by
  decide +kernel

theorem test_permit_restored : gives (.permitRestored 0) awake (fun t => t.bitOf Key.inputsInputLevels 3) = true := by decide +kernel

/-- THERMAL_RESTART resets the module (R613). -/
theorem test_thermal_restart : gives (.thermalRestart hearth) (inProcess 4) (fun t => t.power.phase == .inReset) = true := by decide +kernel

/-- A write passes its checks, waits for the tick, and is in force behind it (R123). -/
theorem test_write_is_staged : gives (.dictWrite hearth 0x263F 0x13 [0x33, 0x33]) awake
    (fun t => t.get 0x263F13 == awake.get 0x263F13 && t.dict.staged.length == 1) = true := by decide +kernel

theorem test_sdo_upload : gives (.sdoInitiateUpload (sdoFrame 0x40 0 0x20 2 0)) (open_ .idle) (fun t => t.canopen.sdo.phase == .idle) = true := by decide +kernel

/-- At 72 °C of ambient the derating factor is 0.76 (chapter 20). -/
theorem test_derating : gives .thermalSchedule (awake.putN (Key.thermalTS 5) 0x42900000) (fun t => t.get Key.thermalDeratingFactor == 7600) = true := by
  decide +kernel

/-- RFC 4493's CMAC of the empty message. -/
theorem test_cmac : cmac [0x2B, 0x7E, 0x15, 0x16, 0x28, 0xAE, 0xD2, 0xA6, 0xAB, 0xF7, 0x15, 0x88, 0x09, 0xCF, 0x4F, 0x3C] []
    = [0xBB, 0x1D, 0x69, 0x29, 0xE9, 0x59, 0x37, 0x28, 0x7F, 0xA3, 0x7D, 0x12, 0x9B, 0x75, 0x67, 0x46] := by decide +kernel

end Sys2Proof.Tests
end

section
/-! SUPPORT. What a reset keeps and what it leaves (R19, R27, R28, R67), and what writing the log touches on the way (R66): the lemmas behind
`Obligations.ResetsLeaveTheResetState`. -/

namespace Sys2Proof.Machine

open Sys2Proof

/-! ### Stores with entries taken out -/

theorem lookupKey_filter_kept {α : Type} (q : Nat → Bool) (m : List (Nat × α)) (k : Nat) (h : q k = true) :
    lookupKey (m.filter fun e => q e.1) k = lookupKey m k := by
  induction m with
  | nil => rfl
  | cons e t ih =>
    obtain ⟨a, w⟩ := e
    by_cases hk : a = k
    · subst hk; simp [h, lookupKey]
    · by_cases hq : q a = true <;> simp [hq, lookupKey, hk, ih]

theorem lookupKey_eq_none {α : Type} (m : List (Nat × α)) (k : Nat) (h : ∀ e ∈ m, e.1 ≠ k) : lookupKey m k = none := by
  induction m with
  | nil => rfl
  | cons e t ih =>
    rw [List.forall_mem_cons] at h
    simp only [lookupKey, if_neg h.1, ih h.2]

/-- Taking entries out by their keys leaves the keys that stay as they read, and the others at their defaults. -/
theorem readKey_filter {α : Type} [DecidableEq α] (d : Nat → α) (q : Nat → Bool) (m : List (Nat × α)) (k : Nat) :
    readKey d (m.filter fun e => q e.1) k = if q k then readKey d m k else d k := by
  unfold readKey
  split_ifs with h
  · rw [lookupKey_filter_kept q m k h]
  · rw [lookupKey_eq_none]
    rintro e he rfl
    exact h (List.mem_filter.1 he).2

/-! ### The values in reset -/

theorem readKey_keepBankStatus (s : State) (m : List (Nat × Int)) (k : Nat) (ha : k ≠ Key.startBankAStatus) (hb : k ≠ Key.startBankBStatus) :
    readKey objDefault (s.keepBankStatus m) k = readKey objDefault m k := by
  unfold State.keepBankStatus
  dsimp only
  split_ifs <;> simp only [readKey_writeKey_other _ _ _ _ _ ha, readKey_writeKey_other _ _ _ _ _ hb]

/-- Beside the supply status and the banks' status, a reset keeps a value or returns it to its default (R28, R102). -/
theorem get_resetKeeping (s : State) (k : Nat) (ha : k ≠ Key.startBankAStatus) (hb : k ≠ Key.startBankBStatus) (hs : k ≠ Key.supplySupplyStatus) :
    s.resetKeeping.get k = if keptKey k then s.get k else objDefault k := by
  have h := (readKey_keepBankStatus s (s.obj.filter fun e => keptKey e.1) k ha hb).trans (readKey_filter _ _ _ _)
  unfold State.get State.resetKeeping
  dsimp only
  split
  · rw [List.foldl_cons, List.foldl_nil, readKey_writeKey_other _ _ _ _ _ hs]; exact h
  · exact h

theorem get_saveInterrupted (s : State) (k : Nat) : s.saveInterrupted.get k = s.get k := by
  unfold State.saveInterrupted; split <;> rfl

/-- The count of brown-outs outlasts a reset (R28; log 68). -/
theorem get_afterReset_brownOuts (s : State) : s.afterReset.get Key.supplyP1BrownOuts = s.get Key.supplyP1BrownOuts :=
  (get_resetKeeping _ _ (by decide) (by decide) (by decide)).trans ((if_pos (by decide)).trans (get_saveInterrupted _ _))

theorem process_resetKeeping (s : State) : s.resetKeeping.process = psInit := by
  have h := get_resetKeeping s Key.procProcessState (by decide) (by decide) (by decide)
  rw [if_neg (by decide)] at h
  unfold State.process State.nat
  rw [h]
  decide

/-! ### The state in reset -/

theorem inReset_resetKeeping (s : State) : InReset s s.resetKeeping where
  phase := rfl
  process := process_resetKeeping s
  outputs := rfl
  acts := rfl
  cores c := by simp [State.resetKeeping]
  sram := rfl
  staged := rfl
  operating := rfl
  slots := rfl
  saved _ := ⟨rfl, rfl⟩

/-- `m` holds what a reset of `s` keeps: retention memory and its record, operating time, program slots, and the saved copies where no
store or restore is under way (R27, R28, R67). -/
structure ResetKeeps (s m : State) : Prop where
  retention : ∀ c : Fin 4, (m.cores[c]).retention = (s.cores[c]).retention
  record    : ∀ c : Fin 4, (m.cores[c]).record = (s.cores[c]).record
  operating : m.clock.op = s.clock.op
  slots     : m.images = s.images
  saved     : s.dict.saveOp = none → m.dict.saveOp = none ∧ m.dict.copyA = s.dict.copyA ∧ m.dict.copyB = s.dict.copyB

/-- A reset of a state that still holds what a reset of `s` keeps is a reset of `s`. -/
theorem InReset.of {s m t : State} (h : InReset m t) (g : ResetKeeps s m) : InReset s t where
  phase := h.phase
  process := h.process
  outputs := h.outputs
  acts := h.acts
  cores c := by rw [h.cores c, g.retention c, g.record c]
  sram := h.sram
  staged := h.staged
  operating := h.operating.trans g.operating
  slots := h.slots.trans g.slots
  saved hs := by
    obtain ⟨hm, ga, gb⟩ := g.saved hs
    obtain ⟨ha, hb⟩ := h.saved hm
    exact ⟨ha.trans ga, hb.trans gb⟩

theorem ResetKeeps.trans {s m t : State} (h : ResetKeeps s m) (g : ResetKeeps m t) : ResetKeeps s t where
  retention c := (g.retention c).trans (h.retention c)
  record c := (g.record c).trans (h.record c)
  operating := g.operating.trans h.operating
  slots := g.slots.trans h.slots
  saved hs := by
    obtain ⟨hm, ha, hb⟩ := h.saved hs
    obtain ⟨ht, ga, gb⟩ := g.saved hm
    exact ⟨ht, ga.trans ha, gb.trans hb⟩

/-- A change that leaves cores, operating time, slots and dictionary alone. -/
theorem ResetKeeps.of_fields {s m : State} (hc : m.cores = s.cores) (ho : m.clock.op = s.clock.op) (hi : m.images = s.images) (hd : m.dict = s.dict) :
    ResetKeeps s m :=
  ⟨fun c => by rw [hc], fun c => by rw [hc], ho, hi, fun h => by rw [hd]; exact ⟨h, rfl, rfl⟩⟩

theorem resetKeeps_saveInterrupted (s : State) : ResetKeeps s s.saveInterrupted := by
  unfold State.saveInterrupted
  split
  · exact .of_fields rfl rfl rfl rfl
  · rename_i o ho
    exact ⟨fun _ => rfl, fun _ => rfl, rfl, rfl, fun h => by rw [h] at ho; cases ho⟩

theorem inReset_afterReset (s : State) : InReset s s.afterReset := (inReset_resetKeeping _).of (resetKeeps_saveInterrupted s)

theorem resetKeeps_recordCause (s : State) (n : Nat) : ResetKeeps s (s.recordCause n) := by
  unfold State.recordCause
  split
  · exact .of_fields rfl rfl rfl rfl
  · exact .of_fields rfl rfl rfl rfl

/-- Whatever the cause, the module is left in reset (R19, R102). -/
theorem inReset_enterReset (s : State) (n : Nat) : InReset s (s.enterReset n) := (inReset_afterReset _).of (resetKeeps_recordCause s n)

/-! ### The cause and the counters behind a reset -/

theorem afterReset_cause (s : State) : s.afterReset.startup.cause = s.startup.cause := by
  show s.saveInterrupted.startup.cause = _
  unfold State.saveInterrupted; split <;> rfl

theorem afterReset_opFram (s : State) : s.afterReset.clock.opFram = s.clock.opFram := by
  show s.saveInterrupted.clock.opFram = _
  unfold State.saveInterrupted; split <;> rfl

/-- An unconfirmed start without a cause takes that of the reset (R103, R113). -/
theorem enterReset_cause (s : State) (n : Nat) (ho : s.startup.opened = true) (hc : s.startup.confirmed = false) (hn : s.startup.cause = none) :
    (s.enterReset n).startup.cause = some n := by
  unfold State.enterReset State.recordCause
  rw [afterReset_cause, if_pos (by simp [ho, hc, hn])]
  rfl

theorem recordCause_clock (s : State) (n : Nat) : (s.recordCause n).clock = s.clock := by
  unfold State.recordCause; split <;> rfl

theorem get_recordCause (s : State) (n k : Nat) (h : k ≠ Key.startCauseLastStart) : (s.recordCause n).get k = s.get k := by
  unfold State.recordCause
  split
  · exact State.get_put_other _ _ _ _ h
  · rfl

/-! ### What writing the log touches (R66, R584, R591, R512) -/

/-- The values that a record written to the log may move: those of a raised source, the log's own, and the error history of its EMCY. -/
def logKeys : List Nat :=
  [Key.ashFull, Key.errhistNumberOfErrors] ++ (List.range 8).map Key.errhistErrorField ++ eventKeys

/-- The state without what a record written to the log moves: values, power manager, cores, router, log, FRAM, CAN. -/
def State.besideLog (s : State) : State :=
  { s.besideEvents with fram := [], can := Vector.replicate 2 .reset, canopen := .reset }

/-- From `s` to `t` records were written to the log: nothing else but the sources they raised and their EMCY frames. -/
structure WritesLog (s t : State) : Prop where
  beside : t.besideLog = s.besideLog
  cores  : ∀ c : Fin 4, (t.cores[c]).arch = (s.cores[c]).arch
  values : s.SameBut t logKeys

theorem WritesLog.refl (s : State) : WritesLog s s := ⟨rfl, fun _ => rfl, fun _ _ => rfl⟩

theorem WritesLog.put {s m : State} (h : WritesLog s m) (k : Nat) (v : Int) (hk : k ∈ logKeys) : WritesLog s (m.put k v) :=
  ⟨h.beside, h.cores, fun j hj => (State.get_put_other _ _ _ _ (by rintro rfl; exact hj hk)).trans (h.values j hj)⟩
theorem WritesLog.setAsh {s m : State} (h : WritesLog s m) (f : Ash → Ash) : WritesLog s (m.setAsh f) := ⟨h.beside, h.cores, h.values⟩
theorem WritesLog.framWrote {s m : State} (h : WritesLog s m) (a n : Nat) : WritesLog s (m.framWrote a n) := ⟨h.beside, h.cores, h.values⟩
theorem WritesLog.canopen {s m : State} (h : WritesLog s m) (c : Canopen) : WritesLog s { m with canopen := c } := ⟨h.beside, h.cores, h.values⟩

/-- What a raised source or a queued event moves, a record may move too. -/
theorem WritesLog.moves {s m t : State} (h : WritesLog s m) (g : Moves m t []) : WritesLog s t :=
  ⟨(congrArg (fun x : State => { x with fram := [], can := Vector.replicate 2 .reset, canopen := .reset }) g.beside).trans h.beside,
    fun c => (g.cores c).trans (h.cores c), fun k hk => (g.values k fun he => hk (List.mem_append_right _ he)).trans (h.values k hk)⟩
theorem WritesLog.raiseSource {s m : State} (h : WritesLog s m) (src : Nat) : WritesLog s (m.raiseSource src) := h.moves ((Moves.refl m []).raiseSource src)
theorem WritesLog.queueAsh {s m : State} (h : WritesLog s m) (e : AshEvent) : WritesLog s (m.queueAsh e) := h.moves ((Moves.refl m []).queueAsh e)

theorem WritesLog.sendOwn {s m : State} (h : WritesLog s m) (cob : Nat) (bs : List Byte) : WritesLog s (m.sendOwn cob bs) := by
  unfold State.sendOwn
  split
  · exact h
  · exact ⟨h.beside, h.cores, h.values⟩

/-- The fields of the error history move up by one. -/
theorem WritesLog.errorHistory {s m : State} (f : Nat → Int) (l : List Nat) (hl : ∀ i ∈ l, i < 7) (h : WritesLog s m) :
    WritesLog s (l.foldl (fun m i => m.put (Key.errhistErrorField (i + 1)) (f i)) m) := by
  induction l generalizing m with
  | nil => exact h
  | cons i t ih =>
    rw [List.forall_mem_cons] at hl
    refine ih hl.2 (h.put _ _ ?_)
    exact List.mem_append_left _ (List.mem_append_right _ (List.mem_map_of_mem (List.mem_range.2 (Nat.succ_lt_succ hl.1))))

theorem WritesLog.emcyQueue {s m : State} (h : WritesLog s m) (code more : Nat) (tail : List Byte) : WritesLog s (m.emcyQueue code more tail) := by
  unfold State.emcyQueue
  dsimp only
  split
  · exact h.sendOwn _ _
  · exact (((h.sendOwn _ _).errorHistory _ _ fun i hi => List.mem_range.1 hi).put _ _ (by decide)).put _ _ (by decide)

theorem WritesLog.emcySend {s m : State} (h : WritesLog s m) (code more : Nat) (tail : List Byte) : WritesLog s (m.emcySend code more tail) := by
  unfold State.emcySend
  split
  · exact h
  · split
    · exact h.canopen _
    · dsimp only
      split
      · exact h.emcyQueue _ _ _
      · exact (h.emcyQueue _ _ _).canopen _

theorem WritesLog.emcyRecord {s m : State} (h : WritesLog s m) (r : AshRecord) : WritesLog s (m.emcyRecord r) := by
  unfold State.emcyRecord
  split
  · exact h.emcySend _ _ _
  · exact h

theorem WritesLog.newRecord {s m : State} (h : WritesLog s m) (r : AshRecord) : WritesLog s (m.newRecord r) :=
  (((h.framWrote _ _).setAsh _).raiseSource 230).emcyRecord r

theorem WritesLog.rewriteNewest {s m : State} (h : WritesLog s m) (f : AshRecord → AshRecord) : WritesLog s (m.rewriteNewest f) :=
  (h.setAsh _).framWrote _ _

theorem WritesLog.countFull {s m : State} (h : WritesLog s m) (n stamp : Nat) : WritesLog s (m.countFull n stamp) := by
  unfold State.countFull
  refine WritesLog.put ?_ _ _ (by decide)
  split
  · split
    · exact h.rewriteNewest _
    · exact h
  · exact h

theorem WritesLog.writeFull {s m : State} (h : WritesLog s m) (stamp : Nat) : WritesLog s (m.writeFull stamp) :=
  ((h.newRecord _).put Key.ashFull _ (by decide)).raiseSource 232

theorem WritesLog.recordEvent {s m : State} (h : WritesLog s m) (q : AshQueued) : WritesLog s (m.recordEvent q) := by
  unfold State.recordEvent
  split
  · exact h.countFull _ _
  · split
    · exact h.rewriteNewest _
    · split
      · exact h.newRecord _
      · exact (h.writeFull _).countFull _ _

theorem WritesLog.recordNow {s m : State} (h : WritesLog s m) (e : AshEvent) : WritesLog s (m.recordNow e) := by
  unfold State.recordNow
  split
  · exact h.queueAsh e
  · exact h.recordEvent _

theorem WritesLog.flushAsh {s m : State} (n : Nat) (h : WritesLog s m) : WritesLog s (m.flushAsh n) := by
  induction n generalizing m with
  | zero => exact h
  | succ n ih =>
    unfold State.flushAsh
    split
    · exact h
    · split
      · exact h
      · exact ih ((h.setAsh _).recordEvent _)

theorem WritesLog.clock {s t : State} (h : WritesLog s t) : t.clock = s.clock :=
  (congrArg State.clock h.beside : t.besideLog.clock = s.besideLog.clock)
theorem WritesLog.dict {s t : State} (h : WritesLog s t) : t.dict = s.dict :=
  (congrArg State.dict h.beside : t.besideLog.dict = s.besideLog.dict)
theorem WritesLog.images {s t : State} (h : WritesLog s t) : t.images = s.images :=
  (congrArg State.images h.beside : t.besideLog.images = s.besideLog.images)

theorem arch_retention {k q : Core} (h : k.arch = q.arch) : k.retention = q.retention :=
  (congrArg Core.retention h : k.arch.retention = q.arch.retention)
theorem arch_record {k q : Core} (h : k.arch = q.arch) : k.record = q.record :=
  (congrArg Core.record h : k.arch.record = q.arch.record)

/-- The log keeps what a reset keeps. -/
theorem WritesLog.resetKeeps {s t : State} (h : WritesLog s t) : ResetKeeps s t where
  retention c := arch_retention (h.cores c)
  record c := arch_record (h.cores c)
  operating := by rw [h.clock]
  slots := h.images
  saved hs := by rw [h.dict]; exact ⟨hs, rfl, rfl⟩

/-! ### A P1 brown-out (R65, R66) -/

/-- The record of a brown-out and the queued ones, written before the reset (R66). -/
def State.brownOutLogged (s : State) : State := (s.recordNow (s.ashEvent 0x0101 noSource 0 0 0)).flushAsh 64

/-- What a P1 brown-out leaves to the reset: its count, the log, the operating time. -/
def State.brownOutWritten (s : State) : State := (s.bump 16 Key.supplyP1BrownOuts).brownOutLogged.saveOpTime

theorem execP1BrownOut_running (s : State) (h : s.clocksRun = true) : execP1BrownOut s = .next (s.brownOutWritten.enterReset 2) := by
  unfold execP1BrownOut State.brownOutWritten State.brownOutLogged
  rw [if_pos (.inl h)]

theorem writesLog_brownOutLogged (s : State) : WritesLog s s.brownOutLogged := ((WritesLog.refl s).recordNow _).flushAsh 64

theorem resetKeeps_brownOutWritten (s : State) : ResetKeeps s s.brownOutWritten := by
  have counted : ResetKeeps s (s.bump 16 Key.supplyP1BrownOuts) := .of_fields rfl rfl rfl rfl
  have logged := (writesLog_brownOutLogged (s.bump 16 Key.supplyP1BrownOuts)).resetKeeps
  exact (counted.trans logged).trans (.of_fields rfl rfl rfl rfl)

theorem brownOutWritten_opFram (s : State) : s.brownOutWritten.clock.opFram = s.clock.op :=
  congrArg Clock.op (writesLog_brownOutLogged (s.bump 16 Key.supplyP1BrownOuts)).clock

theorem get_brownOutWritten (s : State) : s.brownOutWritten.get Key.supplyP1BrownOuts = Int.ofNat (satSucc 16 (s.nat Key.supplyP1BrownOuts)) := by
  have h : s.brownOutWritten.get Key.supplyP1BrownOuts = (s.bump 16 Key.supplyP1BrownOuts).get Key.supplyP1BrownOuts :=
    (writesLog_brownOutLogged _).values _ (by decide)
  rw [h, State.get_bump, if_pos rfl]

theorem answers_p1BrownOut (s : State) (h : s.clocksRun = true) :
    Answers .p1BrownOut s fun t => InReset s t ∧ t.nat Key.supplyP1BrownOuts = satSucc 16 (s.nat Key.supplyP1BrownOuts) ∧ t.clock.opFram = s.clock.op := by
  refine ⟨_, execP1BrownOut_running s h, (inReset_enterReset _ 2).of (resetKeeps_brownOutWritten s), ?_, ?_⟩
  · have hv : (s.brownOutWritten.enterReset 2).get Key.supplyP1BrownOuts = s.brownOutWritten.get Key.supplyP1BrownOuts :=
      (get_afterReset_brownOuts _).trans (get_recordCause _ _ _ (by decide))
    unfold State.nat
    rw [hv, get_brownOutWritten]
    rfl
  · have hc : (s.brownOutWritten.enterReset 2).clock.opFram = s.brownOutWritten.clock.opFram :=
      (afterReset_opFram _).trans (by rw [recordCause_clock])
    exact hc.trans (brownOutWritten_opFram s)

/-! ### The other resets -/

theorem answers_pllLockLoss (s : State) (h : s.clocksRun = true) : Answers .pllLockLoss s (InReset s) :=
  ⟨_, congrArg Host.Outcome.next (if_pos (.inl h)), inReset_enterReset s 1⟩

theorem answers_watchdogReset (s : State) (h : s.clocksRun = true) : Answers .watchdogReset s (InReset s) :=
  ⟨_, congrArg Host.Outcome.next (if_pos (.inl h)), inReset_enterReset s 1⟩

theorem nmtMine_of (s : State) (node : Fin 128) (h : s.clocksRun = true) (hn : s.canopen.nmt ≠ 0) (hm : node = 0 ∨ node.val = s.nodeId) :
    s.nmtMine node = true := by
  unfold State.nmtMine
  rcases hm with rfl | hm
  · simp [h, hn]
  · simp [h, hn, hm]

theorem answers_nmtResetNode (s : State) (node : Fin 128) (h : s.nmtMine node = true) : Answers (.nmtResetNode node) s (InReset s) :=
  ⟨_, congrArg Host.Outcome.next (if_pos h), inReset_enterReset s 1⟩

/-- The deadline of an unconfirmed start: its cause is 4 in INIT under CONFIG_INVALID, else 8 (R100, R102, R103). -/
theorem answers_confirmationDeadline (s : State) (h : s.clocksRun = true) (ho : s.startup.opened = true) (hc : s.startup.confirmed = false)
    (hk : s.process ≠ psKindling) : Answers .confirmationDeadline s fun t => InReset s t ∧ (s.startup.cause = none → t.startup.cause =
      some (if s.process = psInit ∧ s.bitOf Key.cfgConfigurationStatus 0 = true then 4 else 8)) :=
  ⟨_, congrArg Host.Outcome.next (if_pos ⟨.inl h, ho, hc, hk⟩), inReset_enterReset s _, enterReset_cause s _ ho hc⟩

/-- Settles O25: every one of these commands goes through `State.enterReset`, whose reset state keeps what `ResetKeeps` names; a brown-out
only writes its count, the log and the operating time before it. That the cores and all hidden state start as at reset is the model's choice
(log 4, log 88). -/
theorem resetsLeaveTheResetState : Obligations.ResetsLeaveTheResetState := by
  intro s h
  exact ⟨answers_pllLockLoss s h, answers_watchdogReset s h, answers_p1BrownOut s h,
    fun node hn hm => answers_nmtResetNode s node (nmtMine_of s node h hn hm),
    fun ho hc hk => answers_confirmationDeadline s h ho hc hk⟩

end Sys2Proof.Machine
end

section
/-! SUPPORT. Programs, slots and images (R30, R98, R112, R445, R459-R465): what starting, stopping, judging, erasing and updating do, behind
`Obligations.ProgramsAndImages`. -/

namespace Sys2Proof.Machine

open Sys2Proof

/-! ### Bytes put in place in one go -/

theorem readKey_eq_getD {α : Type} [DecidableEq α] (d : Nat → α) (m : List (Nat × α)) (k : Nat) : readKey d m k = (lookupKey m k).getD (d k) := by
  unfold readKey; cases lookupKey m k <;> rfl

theorem lookupKey_append {α : Type} (l m : List (Nat × α)) (k : Nat) : lookupKey (l ++ m) k = (lookupKey l k).or (lookupKey m k) := by
  induction l with
  | nil => rfl
  | cons e t ih =>
    obtain ⟨a, w⟩ := e
    simp only [List.cons_append, lookupKey]
    split
    · rfl
    · exact ih

/-- The cell of a byte at an address; a 0 is not listed (log 5). -/
def cellOf (b : Byte × Nat) : Option Host.Cell := if b.1 = 0 then none else some (b.2, b.1)

/-- The cells of a byte string laid from `a` on. -/
def cellsFrom (a : Nat) (bs : List Byte) : List Host.Cell := (bs.zipIdx a).filterMap cellOf

theorem overwrite_eq (m : List Host.Cell) (a : Nat) (bs : List Byte) : overwrite m a bs =
    m.filter (fun e => decide (e.1 < a)) ++ cellsFrom a bs ++ m.filter (fun e => decide (a + bs.length ≤ e.1)) := rfl

theorem le_of_mem_cellsFrom {a : Nat} {bs : List Byte} {e : Host.Cell} (h : e ∈ cellsFrom a bs) : a ≤ e.1 := by
  obtain ⟨⟨b, n⟩, hb, he⟩ := List.mem_filterMap.1 h
  have hn : a ≤ n := List.le_snd_of_mem_zipIdx hb
  unfold cellOf at he
  split at he
  · cases he
  · cases he; exact hn

theorem cellsFrom_cons (a : Nat) (x : Byte) (t : List Byte) :
    cellsFrom a (x :: t) = (if x = 0 then [] else [(a, x)]) ++ cellsFrom (a + 1) t := by
  unfold cellsFrom
  rw [List.zipIdx_cons]
  by_cases hx : x = 0
  · rw [List.filterMap_cons_none (show cellOf (x, a) = none from if_pos hx), if_pos hx]; rfl
  · rw [List.filterMap_cons_some (show cellOf (x, a) = some (a, x) from if_neg hx), if_neg hx]; rfl

theorem lookupKey_cellsFrom (a j : Nat) (bs : List Byte) : (lookupKey (cellsFrom a bs) (a + j)).getD 0 = bs.getD j 0 := by
  induction bs generalizing a j with
  | nil => rfl
  | cons x t ih =>
    rw [cellsFrom_cons, lookupKey_append]
    cases j with
    | zero =>
      have ht : lookupKey (cellsFrom (a + 1) t) a = none :=
        lookupKey_eq_none _ _ fun e he => by have := le_of_mem_cellsFrom he; omega
      rw [Nat.add_zero, ht, Option.or_none]
      by_cases hx : x = 0
      · rw [if_pos hx, hx]; rfl
      · rw [if_neg hx, lookupKey, if_pos rfl]; rfl
    | succ j =>
      have hk : a + (j + 1) = a + 1 + j := by omega
      have hx : lookupKey (if x = 0 then [] else [(a, x)]) (a + 1 + j) = none :=
        lookupKey_eq_none _ _ fun e he => by
          have he' : e ∈ [(a, x)] := by split at he; exacts [absurd he List.not_mem_nil, he]
          rw [List.mem_singleton.1 he']
          show a ≠ _
          omega
      rw [hk, hx, Option.none_or, ih]
      rfl

/-- Overwriting puts every byte in its place, whatever stood there. -/
theorem readKey_overwrite (m : List Host.Cell) (a j : Nat) (bs : List Byte) (h : j < bs.length) :
    readKey (fun _ => (0 : Byte)) (overwrite m a bs) (a + j) = bs.getD j 0 := by
  have below : lookupKey (m.filter fun e => decide (e.1 < a)) (a + j) = none :=
    lookupKey_eq_none _ _ fun e he => by have := of_decide_eq_true (List.mem_filter.1 he).2; omega
  have above : lookupKey (m.filter fun e => decide (a + bs.length ≤ e.1)) (a + j) = none :=
    lookupKey_eq_none _ _ fun e he => by have := of_decide_eq_true (List.mem_filter.1 he).2; omega
  rw [readKey_eq_getD, overwrite_eq, lookupKey_append, lookupKey_append, below, above, Option.none_or, Option.or_none, lookupKey_cellsFrom]

/-! ### Values and accesses -/

theorem nat_putN_of_ne (s : State) (k j v : Nat) (h : j ≠ k) : (s.putN k v).nat j = s.nat j := by
  unfold State.nat; rw [State.get_putN, if_neg h]

theorem State.nat_touch (s : State) (p : Path) (k : Nat) (h : k ∉ eventKeys) : (s.touch p).nat k = s.nat k := by
  unfold State.nat; rw [State.get_touch s p k h]
theorem State.nat_acknowledged (s : State) (p : Path) (k : Nat) (h : k ∉ eventKeys) : (s.acknowledged p).nat k = s.nat k := State.nat_touch s p k h

theorem arch_touch (s : State) (p : Path) (c : Fin 4) : ((s.touch p).cores[c]).arch = (s.cores[c]).arch := by
  unfold State.touch
  split
  · exact congrArg (fun v : Vector Core 4 => (v[c]).arch) (State.noteAccess_cores s p)
  · exact (congrArg (fun v : Vector Core 4 => (v[c]).arch) (State.noteAccess_cores s.eventWake p)).trans ((Accounts.eventWake s).cores c)
theorem arch_acknowledged (s : State) (p : Path) (c : Fin 4) : ((s.acknowledged p).cores[c]).arch = (s.cores[c]).arch := arch_touch s p c

theorem arch_regs {k q : Core} (h : k.arch = q.arch) : k.regs = q.regs :=
  (congrArg Core.regs h : k.arch.regs = q.arch.regs)
theorem State.block_touch (s : State) (p : Path) (k : Nat) : (s.touch p).block k = s.block k := by
  unfold State.block; rw [State.touch_blk]

theorem State.logOpen_touch {s : State} (p : Path) (h : s.logOpen) : (s.touch p).logOpen :=
  logOpen_of h (State.touch_ash s p) (State.get_touch s p _ (by decide))
theorem State.logOpen_acknowledged {s : State} (p : Path) (h : s.logOpen) : (s.acknowledged p).logOpen := s.logOpen_touch p h

theorem writerCode_lt (w : Writer) : w.code < 8 := by cases w <;> decide

/-- The answer given last is the one a path holds. -/
@[simp] theorem State.lastAnswer_answer (s : State) (p : Path) (a : Answer) : (s.answer p a).lastAnswer p = some a := by
  unfold State.lastAnswer State.answer
  simp [writerCode_lt]
@[simp] theorem State.lastAnswer_refuse (s : State) (p : Path) (r : Refused) : (s.refuse p r).lastAnswer p = some (.abort r.code) :=
  State.lastAnswer_answer _ _ _

/-- A write at once that passes its checks has its effect behind the access. -/
theorem writeNow_passes (s : State) (p : Path) (key : Nat) (bs : List Byte) (f : State → DVal → State) (d : DVal) (h : s.clocksRun = true)
    (hd : (s.touch p).checkWrite p key (.bytes bs) = .ok d) : s.writeNow p key bs f = f (s.touch p) d := by
  unfold State.writeNow State.served
  rw [if_pos h]
  dsimp only
  rw [hd]

theorem Answers.mono {c : Instr} {s : State} {P Q : State → Prop} (h : Answers c s P) (g : ∀ t, P t → Q t) : Answers c s Q := by
  obtain ⟨t, e, ht⟩ := h
  exact ⟨t, e, g t ht⟩

/-! ### The keys of a core and its slot -/

theorem programState_not_event (c : Fin 4) : Key.coreProgramState c.val ∉ eventKeys := by revert c; decide
theorem slotStatus_not_event (c : Fin 4) : Key.imagesSlotStatus (c.val - 1) ∉ eventKeys := by revert c; decide

theorem slotStatus_ne_slotId (n : Nat) : Key.imagesSlotStatus n ≠ Key.imagesSlotId n := by
  unfold Key.imagesSlotStatus Key.imagesSlotId; omega
theorem slotStatus_ne_programState (n c : Nat) (h : c ≤ 3) : Key.imagesSlotStatus n ≠ Key.coreProgramState c := by
  unfold Key.imagesSlotStatus Key.coreProgramState; omega
theorem slotId_ne_programState (n c : Nat) (h : c ≤ 3) : Key.imagesSlotId n ≠ Key.coreProgramState c := by
  unfold Key.imagesSlotId Key.coreProgramState; omega

/-- The values of a slot that is stored or erased: status, image ID, its core's program state (R459, R465). -/
def State.slotWritten (s : State) (n core status imageId state : Nat) : State :=
  ((s.putN (Key.imagesSlotStatus n) status).putN (Key.imagesSlotId n) imageId).putN (Key.coreProgramState core) state

theorem nat_slotWritten (s : State) (n core status imageId state : Nat) (h : core ≤ 3) :
    (s.slotWritten n core status imageId state).nat (Key.imagesSlotStatus n) = status
    ∧ (s.slotWritten n core status imageId state).nat (Key.imagesSlotId n) = imageId
    ∧ (s.slotWritten n core status imageId state).nat (Key.coreProgramState core) = state := by
  unfold State.slotWritten
  refine ⟨?_, ?_, State.nat_putN_same _ _ _⟩
  · rw [nat_putN_of_ne _ _ _ _ (slotStatus_ne_programState n core h), nat_putN_of_ne _ _ _ _ (slotStatus_ne_slotId n), State.nat_putN_same]
  · rw [nat_putN_of_ne _ _ _ _ (slotId_ne_programState n core h), State.nat_putN_same]

/-! ### A program entered (R445, R460) -/

/-- Bit 2 of STATUS is PM, the mode (R443, R448). -/
theorem statusOf_privileged (ppm pm pie ie : Bool) : (statusOf ppm pm pie ie).getLsbD 2 = pm := by revert ppm pm pie ie; decide

/-- From `s` to `t` the program of image `i` was put in place on core `c` and entered in user mode (R445, R460). -/
structure ProgramEntered (s : State) (c : Fin 4) (i : ProgramImage) (t : State) : Prop where
  pc        : (t.cores[c]).pc = BitVec.ofNat 32 (s.codeStart c i.header + i.header.entry)
  held      : (t.cores[c]).held = false
  regs      : (t.cores[c]).regs = (Vector.replicate 16 0).set 15 (BitVec.ofNat 32 i.header.stackTop)
  user      : (t.cores[c]).status.getLsbD 2 = false
  running   : (t.cores[c]).running = some i
  retention : (t.cores[c]).retention = (s.cores[c]).retention
  code      : i.header.placement = 0 → ∀ j : Nat, j < i.header.codeSize → 64 + j < i.raw.length →
    t.byteAt (.itcm c) (0x10000000 + j) = i.raw.getD (64 + j) 0
  state     : t.nat (Key.coreProgramState c.val) = 2
  imageId   : t.nat (Key.coreImageID c.val) = i.header.imageId
  level     : t.nat (Key.coreLevelGranted c.val) = i.header.level
  others    : ∀ e : Fin 4, e ≠ c → t.cores[e] = s.cores[e]

/-- The code lies in ITCM from its first byte on. -/
theorem readKey_code (m : List Host.Cell) (raw : List Byte) (n j : Nat) (h : j < n) (hr : 64 + j < raw.length) :
    readKey (fun _ => (0 : Byte)) (overwrite m 0x10000000 ((raw.drop 64).take n)) (0x10000000 + j) = raw.getD (64 + j) 0 := by
  rw [readKey_overwrite _ _ _ _ (by simp; omega)]
  simp [List.getD_eq_getElem?_getD, h]

theorem programEntered_enterProgram (s : State) (c : Fin 4) (i : ProgramImage) : ProgramEntered s c i (s.enterProgram c i) := by
  have hk : ∀ f : Core → Core, (s.setCore c f).cores[c] = f s.cores[c] := State.cores_setCore_same s c
  unfold State.enterProgram
  constructor
  case pc | held | regs | running | retention => simp only [State.putN_cores, hk]
  case user => simp only [State.putN_cores, hk, statusOf_privileged]
  case code =>
    intro hp j hj hr
    simp only [State.byteAt, State.putN_cores, hk, if_pos hp]
    exact readKey_code _ _ _ _ hj hr
  case state => rw [nat_putN_of_ne _ _ _ _ (by simp), nat_putN_of_ne _ _ _ _ (by simp), State.nat_putN_same]
  case imageId => rw [nat_putN_of_ne _ _ _ _ (by simp), State.nat_putN_same]
  case level => exact State.nat_putN_same _ _ _
  case others =>
    intro e he
    simp only [State.putN_cores]
    rw [State.cores_setCore, if_neg (Ne.symm he)]

theorem codeStart_of {s t : State} (c : Fin 4) (h : ImageHeader) (hb : t.nat Key.startBankStarted = s.nat Key.startBankStarted) :
    t.codeStart c h = s.codeStart c h := by
  unfold State.codeStart; rw [hb]

/-! ### START (R460, R463) -/

theorem programStart_enters (s : State) (c : Fin 4) (i : ProgramImage) (hc : c ≠ 0) (hs : s.nat (Key.coreProgramState c.val) ≠ 2)
    (hi : s.images.toList.getD (c.val - 1) none = some i) (hd : i.damaged = false) (hk : i.crcOk = true) :
    s.programStart c true = s.enterProgram c i := by
  unfold State.programStart
  rw [if_neg (by simp [hc, hs]), hi]
  simp [hd, hk]

theorem programStart_damaged (s : State) (c : Fin 4) (intact : Bool) (i : ProgramImage) (hc : c ≠ 0) (hs : s.nat (Key.coreProgramState c.val) ≠ 2)
    (hi : s.images.toList.getD (c.val - 1) none = some i) (hd : intact = false ∨ i.damaged = true ∨ i.crcOk = false) :
    s.programStart c intact =
      (({ s with images := s.images.set! (c.val - 1) (some { i with damaged := true }) }).putN (Key.imagesSlotStatus (c.val - 1)) 2).log 0x0E03 c.val c.val := by
  unfold State.programStart
  rw [if_neg (by simp [hc, hs]), hi]
  dsimp only
  rw [if_neg]
  rcases hd with h | h | h <;> simp [h]

/-- A running program is left alone (R461). -/
theorem programStart_running (s : State) (c : Fin 4) (intact : Bool) (hs : s.nat (Key.coreProgramState c.val) = 2) : s.programStart c intact = s := by
  unfold State.programStart; rw [if_pos (.inr hs)]

/-! ### STOP (R461, R462) -/

theorem programStop_running (s : State) (c : Fin 4) (hc : c ≠ 0) (hs : s.nat (Key.coreProgramState c.val) = 2) : s.programStop c =
    (s.setCore c fun k => { k with stopped := if k.privileged then none else some (k.cycle, k.status) }).holdProgram c 3 := by
  unfold State.programStop; rw [if_pos ⟨hc, hs⟩]

theorem programStop_other (s : State) (c : Fin 4) (hs : s.nat (Key.coreProgramState c.val) ≠ 2) : s.programStop c = s := by
  unfold State.programStop; rw [if_neg fun h => hs h.2]

/-- Holding a program sets its core's state in the monitor and its program state, and touches no other core. -/
theorem holdProgram_core (s : State) (c : Fin 4) (st : Nat) : (s.holdProgram c st).cores[c] =
    { s.cores[c] with held := true, running := none, waiting := none, frame := none, loadDest := none,
                      status := statusOf (s.cores[c]).ppm true (s.cores[c]).pie false } := by
  unfold State.holdProgram
  simp only [State.putN_cores]
  exact State.cores_setCore_same s c _
theorem holdProgram_others (s : State) (c e : Fin 4) (st : Nat) (h : e ≠ c) : (s.holdProgram c st).cores[e] = s.cores[e] := by
  unfold State.holdProgram
  simp only [State.putN_cores]
  rw [State.cores_setCore, if_neg (Ne.symm h)]

/-- From `s` to `t` the program of core `c` was stopped and its core is held (R461). -/
structure ProgramStopped (s : State) (c : Fin 4) (t : State) : Prop where
  state     : t.nat (Key.coreProgramState c.val) = 3
  held      : (t.cores[c]).held = true
  running   : (t.cores[c]).running = none
  regs      : (t.cores[c]).regs = (s.cores[c]).regs
  status    : (t.cores[c]).status.getLsbD 2 = true
  retention : (t.cores[c]).retention = (s.cores[c]).retention
  rest      : Only { s with cores := t.cores } t [Key.coreProgramState c.val]
  others    : ∀ e : Fin 4, e ≠ c → t.cores[e] = s.cores[e]

theorem programStopped_programStop (s : State) (c : Fin 4) (hc : c ≠ 0) (hs : s.nat (Key.coreProgramState c.val) = 2) :
    ProgramStopped s c (s.programStop c) := by
  rw [programStop_running s c hc hs]
  constructor
  case state => exact State.nat_putN_same _ _ _
  case held | running => rw [holdProgram_core]
  case regs | retention => rw [holdProgram_core, State.cores_setCore_same]
  case status => rw [holdProgram_core]; exact statusOf_privileged _ _ _ _
  case rest => exact (Only.refl _ _).putN _ _ (List.mem_singleton_self _)
  case others =>
    intro e he
    rw [holdProgram_others _ _ _ _ he, State.cores_setCore, if_neg (Ne.symm he)]

/-- What a RESTART keeps of its core until the program starts again: its program does not run, slots, bank and retention memory stand. -/
theorem programStop_keeps (s : State) (c : Fin 4) (hc : c ≠ 0) : (s.programStop c).nat (Key.coreProgramState c.val) ≠ 2
    ∧ (s.programStop c).images = s.images ∧ (s.programStop c).nat Key.startBankStarted = s.nat Key.startBankStarted
    ∧ ((s.programStop c).cores[c]).retention = (s.cores[c]).retention ∧ ∀ e : Fin 4, e ≠ c → (s.programStop c).cores[e] = s.cores[e] := by
  by_cases hs : s.nat (Key.coreProgramState c.val) = 2
  · have h := programStopped_programStop s c hc hs
    refine ⟨by rw [h.state]; decide, by rw [h.rest.rest], ?_, h.retention, h.others⟩
    have hb : Key.startBankStarted ∉ [Key.coreProgramState c.val] := by
      rw [List.mem_singleton]; unfold Key.startBankStarted Key.coreProgramState; omega
    unfold State.nat
    rw [h.rest.values _ hb]
    rfl
  · rw [programStop_other s c hs]
    exact ⟨hs, rfl, rfl, rfl, fun _ _ => rfl⟩

/-! ### An image judged (R459) -/

/-- What the order of the checks answers, check by check. -/
theorem imageFault_header (s : State) (c : Fin 4) (raw : List Byte) (h : headerOk c raw = false) : s.imageFault c raw = some 4 := by
  unfold State.imageFault; rw [if_pos h]

section
variable (s : State) (c : Fin 4) (raw : List Byte) (h : headerOk c raw = true)
include h

theorem imageFault_sizes (hz : (parseHeader raw).sizesOk = false) : s.imageFault c raw = some 5 := by
  unfold State.imageFault
  dsimp only
  rw [if_neg (by simp [h]), if_pos hz]

variable (hz : (parseHeader raw).sizesOk = true)
include hz

theorem imageFault_crc (hf : ((ProgramImage.mk (parseHeader raw) raw false).crcOk
    && raw.length == 64 + (parseHeader raw).codeSize + (parseHeader raw).dataSize + 68) = false) : s.imageFault c raw = some 2 := by
  unfold State.imageFault
  dsimp only
  rw [if_neg (by simp [h]), if_neg (by simp [hz]), if_pos]
  simpa [imp_iff_not_or] using hf

variable (hf : ((ProgramImage.mk (parseHeader raw) raw false).crcOk
    && raw.length == 64 + (parseHeader raw).codeSize + (parseHeader raw).dataSize + 68) = true)
include hf

theorem imageFault_signature : s.imageFault c raw =
    if Config.imageSigned (s.block Key.imagesOwnerKeyHash) (raw.take (64 + (parseHeader raw).codeSize + (parseHeader raw).dataSize + 4))
      (raw.drop (64 + (parseHeader raw).codeSize + (parseHeader raw).dataSize + 4)) = false then some 3 else none := by
  obtain ⟨hc, hl⟩ := Bool.and_eq_true_iff.1 hf
  unfold State.imageFault
  dsimp only
  rw [if_neg (by simp [h]), if_neg (by simp [hz]), if_neg]
  simp [hc, beq_iff_eq.1 hl]

end

theorem abortDetail_ne_slotStatus (p : Path) (c : Fin 4) : Key.imagesSlotStatus (c.val - 1) ≠ Key.abortDetail p.writer.code := by
  have h := writerCode_lt p.writer
  unfold Key.imagesSlotStatus Key.abortDetail
  omega

/-- An image refused leaves its slot as it was, the slot's status and the refusal apart. -/
theorem imageRefuse_turned (s : State) (p : Path) (c : Fin 4) (st : Nat) : (s.imageRefuse p c st).nat (Key.imagesSlotStatus (c.val - 1)) = st
    ∧ (s.imageRefuse p c st).lastAnswer p = some (.abort 0x06090030) ∧ (s.imageRefuse p c st).images = s.images := by
  unfold State.imageRefuse
  refine ⟨?_, State.lastAnswer_refuse _ _ _, ?_⟩
  · refine (nat_putN_of_ne _ _ _ _ (abortDetail_ne_slotStatus p c)).trans (State.nat_putN_same _ _ _)
  · show State.images (if st = 3 then _ else _) = _
    split
    · exact log_images _ _ _ _ _ _
    · rfl

/-- A signature that does not verify is logged. -/
theorem imageRefuse_logged (s : State) (p : Path) (c : Fin 4) (h : s.logOpen) : (s.imageRefuse p c 3).lastLogged 0x0D01 noSource (0x10 + c.val) :=
  lastLogged_log s 0x0D01 noSource (0x10 + c.val) 0 0 h

theorem execProgramImageWrite_passes (s : State) (p : Path) (c : Fin 4) (raw : List Byte) (d : DVal) (hc : c ≠ 0) (h : s.clocksRun = true)
    (hd : (s.touch p).checkWrite p (Key.imagesImage (c.val - 1)) (.bytes raw) = .ok d) :
    exec (.programImageWrite p c raw) s = .next ((s.touch p).imageWrite p c raw) := by
  refine congrArg Host.Outcome.next ((if_neg hc).trans ?_)
  exact writeNow_passes s p _ raw _ d h hd

theorem imageWrite_fault (s : State) (p : Path) (c : Fin 4) (raw : List Byte) (st : Nat) (h : s.imageFault c raw = some st) :
    s.imageWrite p c raw = s.imageRefuse p c st := by
  unfold State.imageWrite; rw [h]
theorem imageWrite_valid (s : State) (p : Path) (c : Fin 4) (raw : List Byte) (h : s.imageFault c raw = none) :
    s.imageWrite p c raw = (s.imageStore c raw).answer p .done := by
  unfold State.imageWrite; rw [h]

/-! ### Firmware (R30, R98) -/

/-- The bank that a firmware image makes: INCOMPLETE until its last page is checked. -/
def firmwareBank (bs : List Byte) (done : Bool) : FlashBank :=
  if done then ⟨some bs.length, false, Config.firmwareVersion bs, bs⟩ else ⟨some bs.length, true, 0, bs⟩

theorem firmwareBank_fields (bs : List Byte) (done : Bool) : (firmwareBank bs done).image = some bs.length ∧ (firmwareBank bs done).bytes = bs
    ∧ (firmwareBank bs done).incomplete = !done := by
  cases done <;> exact ⟨rfl, rfl, rfl⟩

theorem firmwareWrite_bankB (s : State) (bs : List Byte) (done : Bool) (h : s.nat Key.startBankStarted = 1) : s.firmwareWrite bs done =
    ({ s with startup := { s.startup with bankB := firmwareBank bs done } } : State).putN Key.startBankBStatus (if done then 4 else 1) := by
  unfold State.firmwareWrite State.updateBank
  simp only [h]
  rfl

theorem firmwareWrite_bankA (s : State) (bs : List Byte) (done : Bool) (h : s.nat Key.startBankStarted = 2) : s.firmwareWrite bs done =
    ({ s with startup := { s.startup with bankA := firmwareBank bs done } } : State).putN Key.startBankAStatus (if done then 4 else 1) := by
  unfold State.firmwareWrite State.updateBank
  simp only [h]
  rfl

theorem firmwareWrite_images (s : State) (bs : List Byte) (done : Bool) : (s.firmwareWrite bs done).images = s.images := by
  have h : s.updateBank.2.images = s.images := by
    unfold State.updateBank
    dsimp only
    (repeat' split) <;> rfl
  unfold State.firmwareWrite
  dsimp only
  split <;> exact h

theorem execFirmwareImageWrite_passes (s : State) (p : Path) (data : List Byte) (done : Bool) (d : DVal) (h : s.clocksRun = true)
    (hd : (s.touch p).checkWrite p Key.startFirmwareImage (.bytes data) = .ok d) :
    exec (.firmwareImageWrite p data done) s = .next (((s.touch p).firmwareWrite data done).answer p .done) :=
  congrArg Host.Outcome.next (writeNow_passes s p _ data _ d h hd)

theorem execConfigurationImageWrite_passes (s : State) (p : Path) (data : List Byte) (d : DVal) (h : s.clocksRun = true)
    (hd : (s.touch p).checkWrite p Key.startConfigurationImage (.bytes data) = .ok d) :
    exec (.configurationImageWrite p data) s = .next (((s.touch p).configImage data).answer p .done) :=
  congrArg Host.Outcome.next (writeNow_passes s p _ data _ d h hd)

/-! ### The commands -/

theorem exec_programStart (s : State) (p : Path) (c : Fin 4) (intact : Bool) (h : Accepts s p (Key.coreCommand c.val) 1) :
    exec (.programStart p c intact) s = .next ((s.acknowledged p).programStart c intact) :=
  congrArg Host.Outcome.next (commanded_accepts s p _ _ _ h)
theorem exec_programStop (s : State) (p : Path) (c : Fin 4) (h : Accepts s p (Key.coreCommand c.val) 2) :
    exec (.programStop p c) s = .next ((s.acknowledged p).programStop c) :=
  congrArg Host.Outcome.next (commanded_accepts s p _ _ _ h)
theorem exec_programRestart (s : State) (p : Path) (c : Fin 4) (intact : Bool) (h : Accepts s p (Key.coreCommand c.val) 3) :
    exec (.programRestart p c intact) s = .next (((s.acknowledged p).programStop c).programStart c intact) :=
  congrArg Host.Outcome.next (commanded_accepts s p _ _ _ h)
theorem exec_eraseSlot (s : State) (p : Path) (slot : Nat) (h : Accepts s p Key.imagesEraseSlot slot) :
    exec (.eraseSlot p slot) s = .next ((s.acknowledged p).eraseSlot slot) :=
  congrArg Host.Outcome.next (commanded_accepts s p _ _ _ h)

/-- A program entered behind a change that its entry does not see. -/
theorem ProgramEntered.of {s m t : State} {c : Fin 4} {i : ProgramImage} (h : ProgramEntered m c i t)
    (hb : m.nat Key.startBankStarted = s.nat Key.startBankStarted) (hr : (m.cores[c]).retention = (s.cores[c]).retention)
    (ho : ∀ e : Fin 4, e ≠ c → m.cores[e] = s.cores[e]) : ProgramEntered s c i t :=
  { h with
    pc := by rw [h.pc, codeStart_of c _ hb]
    retention := h.retention.trans hr
    others := fun e he => (h.others e he).trans (ho e he) }

section
variable (s : State) (p : Path) (c : Fin 4) (i : ProgramImage) (hc : c ≠ 0) (hi : s.images.toList.getD (c.val - 1) none = some i)
include hc hi

theorem answers_programStart (ha : Accepts s p (Key.coreCommand c.val) 1) (hs : s.nat (Key.coreProgramState c.val) ≠ 2)
    (hd : i.damaged = false) (hk : i.crcOk = true) : Answers (.programStart p c true) s (ProgramEntered (s.acknowledged p) c i) := by
  refine ⟨_, exec_programStart s p c true ha, ?_⟩
  rw [← State.nat_acknowledged s p _ (programState_not_event c)] at hs
  rw [← State.acknowledged_images s p] at hi
  rw [programStart_enters _ c i hc hs hi hd hk]
  exact programEntered_enterProgram _ c i

theorem answers_programRestart (ha : Accepts s p (Key.coreCommand c.val) 3) (hd : i.damaged = false) (hk : i.crcOk = true) :
    Answers (.programRestart p c true) s (ProgramEntered (s.acknowledged p) c i) := by
  refine ⟨_, exec_programRestart s p c true ha, ?_⟩
  obtain ⟨hs, him, hb, hr, ho⟩ := programStop_keeps (s.acknowledged p) c hc
  rw [← State.acknowledged_images s p, ← him] at hi
  rw [programStart_enters _ c i hc hs hi hd hk]
  exact (programEntered_enterProgram _ c i).of hb hr ho

theorem answers_programStart_damaged (intact : Bool) (ha : Accepts s p (Key.coreCommand c.val) 1) (hs : s.nat (Key.coreProgramState c.val) ≠ 2)
    (hd : intact = false ∨ i.damaged = true ∨ i.crcOk = false) : Answers (.programStart p c intact) s fun t =>
      Moves { s.acknowledged p with images := s.images.set! (c.val - 1) (some { i with damaged := true }) } t [Key.imagesSlotStatus (c.val - 1)]
      ∧ t.nat (Key.imagesSlotStatus (c.val - 1)) = 2 ∧ (s.logOpen → t.lastLogged 0x0E03 c.val c.val) := by
  refine ⟨_, exec_programStart s p c intact ha, ?_⟩
  rw [← State.nat_acknowledged s p _ (programState_not_event c)] at hs
  rw [← State.acknowledged_images s p] at hi ⊢
  rw [programStart_damaged _ c intact i hc hs hi hd]
  refine ⟨((Moves.refl _ _).putN _ _ (List.mem_singleton_self _)).log _ _ _ _ _, ?_, fun h => lastLogged_log _ _ _ _ _ _ ?_⟩
  · unfold State.nat
    rw [get_log _ _ _ _ _ _ _ (slotStatus_not_event c)]
    exact State.nat_putN_same _ _ _
  · refine logOpen_of (State.logOpen_acknowledged p h) rfl ?_
    exact State.get_put_other _ _ _ _ (by unfold Key.ashFull Key.imagesSlotStatus; omega)

end

theorem answers_programStart_running (s : State) (p : Path) (c : Fin 4) (intact : Bool) (ha : Accepts s p (Key.coreCommand c.val) 1)
    (hs : s.nat (Key.coreProgramState c.val) = 2) : Answers (.programStart p c intact) s fun t => t = s.acknowledged p := by
  rw [← State.nat_acknowledged s p _ (programState_not_event c)] at hs
  exact ⟨_, exec_programStart s p c intact ha, programStart_running _ c intact hs⟩

theorem answers_programStop (s : State) (p : Path) (c : Fin 4) (hc : c ≠ 0) (ha : Accepts s p (Key.coreCommand c.val) 2)
    (hs : s.nat (Key.coreProgramState c.val) = 2) : Answers (.programStop p c) s (ProgramStopped (s.acknowledged p) c) := by
  rw [← State.nat_acknowledged s p _ (programState_not_event c)] at hs
  exact ⟨_, exec_programStop s p c ha, programStopped_programStop _ c hc hs⟩

theorem answers_programStop_other (s : State) (p : Path) (c : Fin 4) (ha : Accepts s p (Key.coreCommand c.val) 2)
    (hs : s.nat (Key.coreProgramState c.val) ≠ 2) : Answers (.programStop p c) s fun t => t = s.acknowledged p := by
  rw [← State.nat_acknowledged s p _ (programState_not_event c)] at hs
  exact ⟨_, exec_programStop s p c ha, programStop_other _ c hs⟩

section
variable (s : State) (p : Path) (c : Fin 4) (raw : List Byte) (d : DVal) (hc : c ≠ 0) (h : s.clocksRun = true)
  (hd : (s.touch p).checkWrite p (Key.imagesImage (c.val - 1)) (.bytes raw) = .ok d)
include hc h hd

theorem answers_programImageWrite_fault (st : Nat) (hf : (s.touch p).imageFault c raw = some st) : Answers (.programImageWrite p c raw) s fun t =>
    (t.nat (Key.imagesSlotStatus (c.val - 1)) = st ∧ t.lastAnswer p = some (.abort 0x06090030) ∧ t.images = s.images)
      ∧ (st = 3 → s.logOpen → t.lastLogged 0x0D01 noSource (0x10 + c.val)) := by
  refine ⟨_, execProgramImageWrite_passes s p c raw d hc h hd, ?_⟩
  rw [imageWrite_fault _ p c raw st hf]
  obtain ⟨hst, hl, him⟩ := imageRefuse_turned (s.touch p) p c st
  exact ⟨⟨hst, hl, him.trans (State.touch_images s p)⟩, fun e ho => e ▸ imageRefuse_logged _ p c (State.logOpen_touch p ho)⟩

theorem answers_programImageWrite_valid (hf : (s.touch p).imageFault c raw = none) : Answers (.programImageWrite p c raw) s fun t =>
    t.images = s.images.set! (c.val - 1) (some { header := parseHeader raw, raw := raw, damaged := false })
      ∧ t.power = { (s.touch p).power with bankModified := true } ∧ t.cores = (s.touch p).cores
      ∧ t.nat (Key.imagesSlotStatus (c.val - 1)) = 1 ∧ t.nat (Key.imagesSlotId (c.val - 1)) = (parseHeader raw).imageId
      ∧ t.nat (Key.coreProgramState c.val) = 1 ∧ t.lastAnswer p = some .done := by
  refine ⟨_, execProgramImageWrite_passes s p c raw d hc h hd, ?_⟩
  rw [imageWrite_valid _ p c raw hf, ← State.touch_images s p]
  obtain ⟨hst, hid, hps⟩ := nat_slotWritten { s.touch p with
    images := (s.touch p).images.set! (c.val - 1) (some { header := parseHeader raw, raw := raw, damaged := false }),
    power := { (s.touch p).power with bankModified := true } } (c.val - 1) c.val 1 (parseHeader raw).imageId 1 (by omega)
  exact ⟨rfl, rfl, rfl, hst, hid, hps, State.lastAnswer_answer _ _ _⟩

end

theorem eraseSlot_erases (s : State) (n : Nat) (h1 : 1 ≤ n) (h3 : n ≤ 3) : (s.eraseSlot n).images = s.images.set! (n - 1) none
    ∧ (s.eraseSlot n).nat (Key.imagesSlotStatus (n - 1)) = 0 ∧ (s.eraseSlot n).nat (Key.imagesSlotId (n - 1)) = 0
    ∧ (s.eraseSlot n).nat (Key.coreProgramState n) = 0 := by
  unfold State.eraseSlot
  rw [if_neg (by omega)]
  exact ⟨rfl, nat_slotWritten _ (n - 1) n 0 0 0 h3⟩

theorem answers_eraseSlot (s : State) (p : Path) (slot : Nat) (h1 : 1 ≤ slot) (h3 : slot ≤ 3) (ha : Accepts s p Key.imagesEraseSlot slot) :
    Answers (.eraseSlot p slot) s fun t => t.images = s.images.set! (slot - 1) none ∧ t.nat (Key.imagesSlotStatus (slot - 1)) = 0
      ∧ t.nat (Key.imagesSlotId (slot - 1)) = 0 ∧ t.nat (Key.coreProgramState slot) = 0 := by
  refine ⟨_, exec_eraseSlot s p slot ha, ?_⟩
  rw [← State.acknowledged_images s p]
  exact eraseSlot_erases _ slot h1 h3

/-- A firmware image goes to the bank that does not run, and leaves the other (R30, R98). -/
theorem answers_firmwareImageWrite (s : State) (p : Path) (data : List Byte) (done : Bool) (d : DVal) (h : s.clocksRun = true)
    (hd : (s.touch p).checkWrite p Key.startFirmwareImage (.bytes data) = .ok d) : Answers (.firmwareImageWrite p data done) s fun t =>
      t.lastAnswer p = some .done ∧ t.images = s.images
      ∧ (s.nat Key.startBankStarted = 1 → t.nat Key.startBankBStatus = (if done then 4 else 1) ∧ t.startup.bankA = s.startup.bankA
          ∧ t.startup.bankB.image = some data.length ∧ t.startup.bankB.bytes = data ∧ t.startup.bankB.incomplete = !done)
      ∧ (s.nat Key.startBankStarted = 2 → t.nat Key.startBankAStatus = (if done then 4 else 1) ∧ t.startup.bankB = s.startup.bankB
          ∧ t.startup.bankA.image = some data.length ∧ t.startup.bankA.bytes = data ∧ t.startup.bankA.incomplete = !done) := by
  refine ⟨_, execFirmwareImageWrite_passes s p data done d h hd, State.lastAnswer_answer _ _ _,
    (firmwareWrite_images _ data done).trans (State.touch_images s p), fun hb => ?_, fun hb => ?_⟩
  · rw [← State.nat_touch s p _ (by decide)] at hb
    rw [firmwareWrite_bankB _ data done hb, ← State.touch_startup s p]
    exact ⟨State.nat_putN_same _ _ _, rfl, firmwareBank_fields data done⟩
  · rw [← State.nat_touch s p _ (by decide)] at hb
    rw [firmwareWrite_bankA _ data done hb, ← State.touch_startup s p]
    exact ⟨State.nat_putN_same _ _ _, rfl, firmwareBank_fields data done⟩

@[simp] theorem State.answer_copyA (s : State) (p : Path) (a : Answer) : (s.answer p a).dict.copyA = s.dict.copyA := rfl
@[simp] theorem State.answer_copyB (s : State) (p : Path) (a : Answer) : (s.answer p a).dict.copyB = s.dict.copyB := rfl
@[simp] theorem State.answer_saved (s : State) (p : Path) (a : Answer) : (s.answer p a).dict.saved = s.dict.saved := rfl
@[simp] theorem State.touch_saved (s : State) (p : Path) : (s.touch p).dict.saved = s.dict.saved := by
  have hn : ∀ x : State, (x.noteAccess p).dict.saved = x.dict.saved := fun x => by
    unfold State.noteAccess; dsimp only; split <;> rfl
  unfold State.touch
  split
  · exact hn s
  · rw [hn, eventWake_dict]

/-- The copy that a configuration image makes (R112). -/
def State.imageCopy (s : State) (bs : List Byte) : FramCopy :=
  { values := (Config.configImageValues bs).filter (fun e => isConfig e.1), blocks := (Config.configImageBlocks bs).filter (fun e => isConfig e.1),
    mode := s.dict.saved.mode, seq := s.dict.saved.seq + 1, torn := false }

theorem configImage_copies (s : State) (bs : List Byte) : (s.configImage bs).dict.copyA = s.imageCopy bs
    ∧ (s.configImage bs).dict.copyB = s.imageCopy bs ∧ (s.configImage bs).dict.saved = s.imageCopy bs := ⟨rfl, rfl, rfl⟩
theorem writeCopies_base (s : State) (c : FramCopy) : (s.writeCopies c).base = s.base := by
  unfold State.writeCopies; exact State.putN_base _ _ _
theorem writeCopies_blk (s : State) (c : FramCopy) : (s.writeCopies c).blk = s.blk := by
  unfold State.writeCopies; exact State.putN_blk _ _ _

/-- A configuration image replaces both copies and leaves the configuration in force (R112; log 62). -/
theorem answers_configurationImageWrite (s : State) (p : Path) (data : List Byte) (d : DVal) (h : s.clocksRun = true)
    (hd : (s.touch p).checkWrite p Key.startConfigurationImage (.bytes data) = .ok d) : Answers (.configurationImageWrite p data) s fun t =>
      t.lastAnswer p = some .done ∧ t.base = (s.touch p).base ∧ t.blk = (s.touch p).blk
      ∧ t.dict.copyA = t.dict.copyB ∧ t.dict.saved = t.dict.copyA ∧ t.dict.copyA.mode = s.dict.saved.mode
      ∧ t.dict.copyA.seq = s.dict.saved.seq + 1 ∧ t.dict.copyA.values = (Config.configImageValues data).filter fun e => isConfig e.1 := by
  refine ⟨_, execConfigurationImageWrite_passes s p data d h hd, State.lastAnswer_answer _ _ _, ?_⟩
  obtain ⟨ha, hb, hs⟩ := configImage_copies (s.touch p) data
  rw [← State.touch_saved s p]
  rw [State.answer_base, State.answer_blk, State.answer_copyA, State.answer_copyB, State.answer_saved, ha, hb, hs]
  exact ⟨writeCopies_base _ _, writeCopies_blk _ _, rfl, rfl, rfl, rfl, rfl⟩

theorem answers_debugUnlock (s : State) : Answers .debugUnlock s fun t =>
    Moves { s with startup := { s.startup with debugOpen := true } } t [] ∧ (s.logOpen → t.lastLogged 0x0D02 noSource) :=
  ⟨_, rfl, (Moves.refl _ _).log _ _ _ _ _, fun h => lastLogged_log _ _ _ _ _ _ (logOpen_of h rfl rfl)⟩

/-- Settles O54, command by command: behind the access (`State.acknowledged`, `State.touch`) each is one operation, and what it leaves is
`ProgramEntered`, `ProgramStopped`, an image refused or stored, a slot erased, a bank or both copies written. The stack's top is that of log 74,
the order of header and length that of log 115, the damaged slot that of log 176, the configuration image's content that of log 62: the model's
choices. -/
theorem programsAndImages : Obligations.ProgramsAndImages := by
  intro s p b u
  refine ⟨?_, ?_, ?_, fun slot h1 h3 ha => answers_eraseSlot s p slot h1 h3 ha, ?_, ?_, ?_⟩
  · intro c intact i hc hi h entered
    have entered_of : ∀ t, ProgramEntered b c i t → entered t := fun t e =>
      ⟨by rw [e.pc, codeStart_of c _ (State.nat_acknowledged s p _ (by decide))], e.held, e.regs, e.user, e.running,
        e.retention.trans (arch_retention (arch_acknowledged s p c)), e.code, e.state, e.imageId, e.level, e.others⟩
    refine ⟨fun ha hs => ⟨?_, fun hd => answers_programStart_damaged s p c i hc hi intact ha hs hd⟩,
      fun ha hs => answers_programStart_running s p c intact ha hs, ?_⟩
    · rintro rfl hd hk
      exact (answers_programStart s p c i hc hi ha hs hd hk).mono entered_of
    · rintro ha rfl hd hk
      exact (answers_programRestart s p c i hc hi ha hd hk).mono entered_of
  · intro c hc ha
    refine ⟨fun hs => (answers_programStop s p c hc ha hs).mono fun t e => ?_, fun hs => answers_programStop_other s p c ha hs⟩
    exact ⟨e.state, e.held, e.running, e.regs.trans (arch_regs (arch_acknowledged s p c)), e.status, e.rest, e.others⟩
  · intro c raw d hc h hd _ i n fits signed turned
    have turns := fun st hf => answers_programImageWrite_fault s p c raw d hc h hd st hf
    refine ⟨fun hh => (turns 4 (imageFault_header u c raw hh)).mono fun t e => e.1,
      fun hh hz => (turns 5 (imageFault_sizes u c raw hh hz)).mono fun t e => e.1,
      fun hh hz hf => (turns 2 (imageFault_crc u c raw hh hz hf)).mono fun t e => e.1, ?_, ?_⟩
    · intro hh hz hf hs
      have hsig := (imageFault_signature u c raw hh hz hf).trans (if_pos (by rw [State.block_touch]; exact hs))
      exact (turns 3 hsig).mono fun t e => ⟨e.1, e.2 rfl⟩
    · intro hh hz hf hs
      have hsig := (imageFault_signature u c raw hh hz hf).trans (if_neg (by rw [State.block_touch]; simpa using hs))
      exact answers_programImageWrite_valid s p c raw d hc h hd hsig
  · exact fun data done d h hd => answers_firmwareImageWrite s p data done d h hd
  · exact fun data d h hd => answers_configurationImageWrite s p data d h hd
  · exact answers_debugUnlock s

end Sys2Proof.Machine
end

section
/-! SUPPORT. Statements about supplies and power states that fail (R76, R79, R82, R135), each with a state that the model evaluates to the
refuting outcome. -/

namespace Sys2Proof.Machine

open Sys2Proof

/-- A command has one answer, so what holds of some answer holds of the one evaluated. -/
theorem Answers.at {c : Instr} {s t : State} {P : State → Prop} (h : Answers c s P) (e : exec c s = .next t) : P t := by
  obtain ⟨u, eu, hu⟩ := h
  rw [e] at eu
  injection eu with eu
  exact eu ▸ hu

/-! ### A check value that is due while the module sleeps -/

/-- Asleep in BANKED, the configuration changed less than 100 ms before the commit point: its check value is still due (R135). -/
def asleepCheckDue : State :=
  { State.reset with
    power := { Power.reset with phase := .asleep .banked, state := .banked }
    dict := { Dict.reset with crcDirty := true } }

/-- Refutes O24: its clause on the running check value does not ask that the module runs. While the PLL is stopped the check value is not
computed (R74), so in `asleepCheckDue` the recomputation leaves the state as it is, the mark of a due check value included. -/
theorem not_powerRecords : ¬ Obligations.PowerRecords := by
  intro h
  obtain ⟨-, -, -, -, -, checkValue⟩ := h asleepCheckDue
  have stays : exec .checkValueRecompute asleepCheckDue = .next asleepCheckDue := rfl
  obtain ⟨changed, -⟩ := (checkValue rfl).at stays
  have cleared : asleepCheckDue.dict.crcDirty = false := congrArg (fun x : State => x.dict.crcDirty) changed.rest
  exact absurd cleared (by decide)

/-! ### An evaluation whose recorded power state is not one of an awake module -/

/-- Every core in WAIT, the policy limit at BLAZE, and BANKED as the recorded power state of a module that is awake. -/
def awakeInBanked : State :=
  { State.reset with
    power := { Power.reset with phase := .awake, state := .banked }
    cores := Vector.replicate 4 { Core.reset with waiting := some ⟨0, 0, 0, 0⟩ } }.putN Key.powerDeepestStateAllowed 0

theorem evaluation_awakeInBanked : ∃ t, exec .powerStateEvaluation awakeInBanked = .next t ∧ t.nat Key.powerLastDecisionState = 0
    ∧ t.power.state = .banked := ⟨_, rfl, by decide +kernel, by decide +kernel⟩

/-- Refutes O26: it speaks of every state of phase awake, and does not ask that its recorded power state is BLAZE or SIMMER, the
two in which a module is awake (R74, R75). An evaluation that selects BLAZE returns to it only from SIMMER (R81, R85), so in `awakeInBanked`
it shows the decision BLAZE and leaves the power state at BANKED. -/
theorem not_powerManagerDecides : ¬ Obligations.PowerManagerDecides := by
  intro h
  obtain ⟨ready, -⟩ := h awakeInBanked
  obtain ⟨fromAwake, -⟩ := ready (by decide +kernel) (by decide +kernel)
  obtain ⟨t, evaluated, decision, state⟩ := evaluation_awakeInBanked
  obtain ⟨q, ⟨shown, -, -⟩, outcome⟩ := (fromAwake rfl).at evaluated
  rw [decision] at shown
  rw [if_pos (by omega), state] at outcome
  rw [← outcome.2] at shown
  cases shown

/-! ### Wakes whose record finds the log full -/

/-- 64 events wait for the log, which is all that its queue holds (R590), and none has been lost. -/
def fullAshQueue : Ash :=
  let event : AshEvent := { code := 0x0304, source := 0, severity := 5, w4 := 0, w5 := 0, w6 := 0, cycle := 0, forwarded := false }
  { Ash.reset with queue := List.replicate ashQueueMax ⟨event, 0, 0, 0⟩ }

/-- The log's queue full, its source 231 routed to core 1, WAKE input and routed events enabled as wake sources (R86, R473, R590). -/
def fullLog : State :=
  ({ State.reset with ash := fullAshQueue }.putN Key.powerWakeSourceEnable 0x12).putN (Key.routerRoutePair 115) 0x01000000

/-- The same in SIMMER. -/
def fullLogInSimmer : State := { fullLog with power := { Power.reset with phase := .awake, state := .simmer } }

/-- The same in BANKED, a rise of the WAKE input latched. -/
def fullLogInBanked : State := { fullLog with power := { Power.reset with phase := .asleep .banked, state := .banked, latchedWake := 2 } }

theorem wakeInput_fullLogInSimmer : ∃ t, exec (.wakeInput 0) fullLogInSimmer = .next t ∧ t.nat Key.powerLastWakeCause = 18 :=
  ⟨_, rfl, by decide +kernel⟩

/-- Refutes O28: a wake by the WAKE input from SIMMER logs 0x0104 (R84). In `fullLogInSimmer` that record is the first one lost, which
raises source 231; routed to a core it is a wake event of the same AON cycle, and its bit joins the wake causes (R82): 18 and not 2. -/
theorem not_wakeEvents : ¬ Obligations.WakeEvents := by
  intro h
  obtain ⟨-, -, -, fromSimmer⟩ := h fullLogInSimmer 0 1 none (.wakeInput 0) (by simp) (by decide +kernel) (by intro b hb; omega)
  obtain ⟨t, woken, causes⟩ := wakeInput_fullLogInSimmer
  obtain ⟨-, -, cause, -⟩ := (fromSimmer rfl rfl).at woken
  rw [causes] at cause
  cases cause

theorem wakeFromBanked_fullLogInBanked : ∃ t, exec .wakeFromBanked fullLogInBanked = .next t ∧ t.nat Key.powerLastWakeCause = 18 :=
  ⟨_, rfl, by decide +kernel⟩

/-- Refutes O29: the wake from BANKED logs 0x0104 too (R84). In `fullLogInBanked` that record is the first one lost, and the source 231 that
it raises joins the wake causes (R82): 18 and not the 2 that AON latched. -/
theorem not_wakesAndCellFallback : ¬ Obligations.WakesAndCellFallback := by
  intro h
  obtain ⟨fromBanked, -⟩ := h fullLogInBanked
  obtain ⟨t, woken, causes⟩ := wakeFromBanked_fullLogInBanked
  obtain ⟨-, -, -, cause, -⟩ := (fromBanked rfl (by decide)).at woken
  rw [causes] at cause
  cases cause

end Sys2Proof.Machine
end

section
/-! SUPPORT. The clear commands that reach state beside their counters (R85, R218, R261, R262, R464, R473, R480, R618), behind
`Obligations.ClearsBesideCounters`. -/

namespace Sys2Proof.Machine

open Sys2Proof

theorem cleared_zero (s : State) (l : List Nat) : Cleared s l (s.zero l) :=
  ⟨(Only.refl s l).zero l fun _ h => h, fun k hk => by rw [State.get_zero, if_pos hk]⟩

/-- Values cleared beside a change that does not see them are cleared behind it. -/
theorem State.zero_comm (f : State → State) (hf : ∀ s k, f (s.put k 0) = (f s).put k 0) (s : State) (l : List Nat) : f (s.zero l) = (f s).zero l := by
  induction l generalizing s with
  | nil => rfl
  | cons k t ih => rw [State.zero, ih, hf]; rfl

/-- A command whose write is accepted answers with its effect on the acknowledged state. -/
theorem answers_commanded {c : Instr} {s : State} {p : Path} {key v : Nat} {f : State → State} {P : State → Prop}
    (e : exec c s = .next (s.commanded p key v f)) (ha : Accepts s p key v) (h : P (f (s.acknowledged p))) : Answers c s P := by
  rw [commanded_accepts s p key v f ha] at e
  exact ⟨_, e, h⟩

/-! ### A channel's statistics (R215, R218) -/

theorem State.tickTime_acknowledged (s : State) (p : Path) : (s.acknowledged p).tickTime = s.tickTime := by
  unfold State.tickTime State.moduleNs State.timeSynced State.rtc
  rw [State.nat_acknowledged s p _ (by decide), State.nat_acknowledged s p _ (by decide), State.acknowledged_clock]

theorem lastMeasured_not_event (n : Fin 64) : Key.chanLastMeasuredValue n ∉ eventKeys := by revert n; decide

/-- What of a channel's statistics is counted again at once: a result published in this SENSE cycle (R215). -/
def State.countedNow (s : State) (n : Fin 64) : Bool × Bool × Bool :=
  if (s.front.channels[n]).published = some s.tickTime then (s.front.channels[n]).counted else (false, false, false)

/-- The value that minimum and maximum restart from. -/
def State.extremeNow (s : State) (n : Fin 64) : Int := if (s.countedNow n).2.1 then s.get (Key.chanLastMeasuredValue n) else 0

theorem State.countedNow_acknowledged (s : State) (p : Path) (n : Fin 64) : (s.acknowledged p).countedNow n = s.countedNow n := by
  unfold State.countedNow; rw [State.acknowledged_front, State.tickTime_acknowledged]

theorem State.extremeNow_acknowledged (s : State) (p : Path) (n : Fin 64) : (s.acknowledged p).extremeNow n = s.extremeNow n := by
  unfold State.extremeNow; rw [State.countedNow_acknowledged, State.get_acknowledged _ _ _ (lastMeasured_not_event n)]

/-- A channel's statistics given values, its extremes one for both. -/
def State.statisticsSet (s : State) (n : Fin 64) (broken : Nat) (y : Int) (errors : Nat) : State :=
  (((s.putN (Key.chanBROKENEntries n) broken).put (Key.chanMinimum n) y).put (Key.chanMaximum n) y).putN (Key.chanLinearisationErrors n) errors

theorem only_statisticsSet (s : State) (n : Fin 64) (broken : Nat) (y : Int) (errors : Nat) : Only s (s.statisticsSet n broken y errors)
    [Key.chanBROKENEntries n, Key.chanMinimum n, Key.chanMaximum n, Key.chanLinearisationErrors n] :=
  ((((Only.refl _ _).putN _ _ (by simp)).put _ _ (by simp)).put _ _ (by simp)).putN _ _ (by simp)

theorem values_statisticsSet (s : State) (n : Fin 64) (broken : Nat) (y : Int) (errors : Nat) : let t := s.statisticsSet n broken y errors
    t.nat (Key.chanBROKENEntries n) = broken ∧ t.get (Key.chanMinimum n) = y ∧ t.get (Key.chanMaximum n) = y
    ∧ t.nat (Key.chanLinearisationErrors n) = errors := by
  simp [State.statisticsSet, State.nat, State.get_put, State.get_putN]

theorem State.setChannel_put (s : State) (k : Nat) (v : Int) (n : Fin 64) (f : Channel → Channel) :
    (s.put k v).setChannel n f = (s.setChannel n f).put k v := rfl
theorem State.setChannel_putN (s : State) (k v : Nat) (n : Fin 64) (f : Channel → Channel) :
    (s.putN k v).setChannel n f = (s.setChannel n f).putN k v := rfl

/-- The channel's mark whether its extremes hold a value, beside the values themselves. -/
theorem State.channelStatsClear_eq (s : State) (n : Fin 64) : s.channelStatsClear n =
    (s.setChannel n fun c => { c with extremes := (s.countedNow n).2.1 }).statisticsSet
      n (b2n (s.countedNow n).1) (s.extremeNow n) (b2n (s.countedNow n).2.2) := by
  unfold State.statisticsSet
  rw [← State.setChannel_putN, ← State.setChannel_put, ← State.setChannel_put, ← State.setChannel_putN]
  rfl

/-! ### The commands -/

section
variable (s : State) (p : Path)

theorem answers_powerStatisticsClear (ha : Accepts s p Key.powerClearStatistics 1) : Answers (.powerStatisticsClear p) s fun t =>
    t.power = { (s.acknowledged p).power with inSimmer := 0, inBanked := 0, inEmber := 0 }
    ∧ Cleared { s.acknowledged p with power := t.power } [Key.powerEMBEREntries] t :=
  answers_commanded rfl ha ⟨rfl, cleared_zero _ _⟩

theorem answers_channelStatisticsClear (n : Fin 64) (ha : Accepts s p (Key.chanClearStatistics n) 1) :
    Answers (.channelStatisticsClear p n) s fun t =>
      t.front = { s.front with channels := s.front.channels.set n { s.front.channels[n] with extremes := (s.countedNow n).2.1 } }
      ∧ Only { s.acknowledged p with front := t.front } t
          [Key.chanBROKENEntries n, Key.chanMinimum n, Key.chanMaximum n, Key.chanLinearisationErrors n]
      ∧ t.nat (Key.chanBROKENEntries n) = b2n (s.countedNow n).1 ∧ t.get (Key.chanMinimum n) = s.extremeNow n
      ∧ t.get (Key.chanMaximum n) = s.extremeNow n ∧ t.nat (Key.chanLinearisationErrors n) = b2n (s.countedNow n).2.2 := by
  refine answers_commanded rfl ha ?_
  rw [State.channelStatsClear_eq, State.countedNow_acknowledged, State.extremeNow_acknowledged, ← State.acknowledged_front s p]
  exact ⟨rfl, only_statisticsSet _ n _ _ _, values_statisticsSet _ n _ _ _⟩

theorem answers_bellowsCountersClear (ha : Accepts s p Key.bellowsClearCounters 1) : Answers (.bellowsCountersClear p) s fun t =>
    t.bitOf Key.bellowsGlobalStatus 3 = false
    ∧ Only (s.acknowledged p) t [Key.bellowsBusyCyclesMaximum, Key.bellowsMismatches, Key.bellowsECCCorrections, Key.bellowsECCUncorrectable,
        Key.bellowsSelfCheckFailures, Key.bellowsGlobalStatus]
    ∧ ∀ k ∈ [Key.bellowsBusyCyclesMaximum, Key.bellowsMismatches, Key.bellowsECCCorrections, Key.bellowsECCUncorrectable,
        Key.bellowsSelfCheckFailures], t.get k = 0 := by
  refine answers_commanded rfl ha ⟨bitOf_putBit_same _ _ _ _, ?_, fun k hk => ?_⟩
  · exact ((Only.refl _ _).zero _ (by decide)).putBit _ _ _ (by decide)
  · have other : k ≠ Key.bellowsGlobalStatus := by rintro rfl; exact absurd hk (by decide)
    exact (State.get_put_other _ _ _ _ other).trans ((cleared_zero _ _).2 k hk)

theorem answers_coreStatisticsClear (c : Fin 4) (ha : Accepts s p (Key.coreClearStatistics c.val) 1) :
    Answers (.coreStatisticsClear p c) s fun t =>
      t.cores = (s.acknowledged p).cores.set c { (s.acknowledged p).cores[c] with stackSeen := false }
      ∧ Cleared { s.acknowledged p with cores := t.cores } [Key.coreTraps c.val, Key.coreStackLowWater c.val, Key.coreGuardRefusalsSkipped c.val] t := by
  refine answers_commanded rfl ha ?_
  have same : Fin.ofNat 4 c.val = c := Fin.ofNat_val_eq_self c
  unfold State.coreStatsClear
  rw [same, State.zero_comm (fun s => s.setCore c _) fun _ _ => rfl]
  have cores := State.zero_cores ((s.acknowledged p).setCore c fun k => { k with stackSeen := false })
    [Key.coreTraps c.val, Key.coreStackLowWater c.val, Key.coreGuardRefusalsSkipped c.val]
  rw [cores]
  exact ⟨rfl, cleared_zero _ _⟩

theorem answers_eventRouterCountersClear (ha : Accepts s p Key.routerClearCounters 1) : Answers (.eventRouterCountersClear p) s fun t =>
    (∀ c : Fin 4, t.cores[c] = { (s.acknowledged p).cores[c] with merged := 0 })
    ∧ Cleared { s.acknowledged p with cores := t.cores } [Key.routerRaisesDelivered, Key.routerBellowsTriggers, Key.routerKelsisTriggers] t :=
  answers_commanded rfl ha ⟨fun c => by simp [State.routerCountersClear], cleared_zero { s.acknowledged p with cores := _ } _⟩

theorem answers_performanceCountersClear (c : Fin 4) (ha : Accepts s p (Key.pmClearCounters c.val) 1) :
    Answers (.performanceCountersClear p c) s fun t => t = { s.acknowledged p with
      cores := (s.acknowledged p).cores.set c { (s.acknowledged p).cores[c] with pmc := Vector.replicate 8 0, pmovf := 0, sampleLost := 0 } } :=
  answers_commanded rfl ha rfl

theorem answers_thermalStatisticsClear (ha : Accepts s p Key.thermalClearStatistics 1) : Answers (.thermalStatisticsClear p) s fun t =>
    t.thermal = { s.thermal with estTicks := 0, bankTicks := 0 }
    ∧ Cleared { s.acknowledged p with thermal := t.thermal } [Key.thermalShutdowns, Key.thermalESTThrottleTime, Key.thermalBankThrottleTime] t := by
  rw [← State.acknowledged_thermal s p]
  exact answers_commanded rfl ha ⟨State.zero_thermal _ _, cleared_zero { s.acknowledged p with thermal := _ } _⟩

end

/-- Settles O7: each command clears its list of counters (`cleared_zero`) on the acknowledged state, with the change beside them written
out; a channel's statistics restart with what `State.countedNow` counts again. -/
theorem clearsBesideCounters : Obligations.ClearsBesideCounters := by
  intro s p b
  exact ⟨answers_powerStatisticsClear s p, answers_channelStatisticsClear s p, answers_bellowsCountersClear s p, answers_coreStatisticsClear s p,
    answers_eventRouterCountersClear s p, answers_performanceCountersClear s p, answers_thermalStatisticsClear s p⟩

end Sys2Proof.Machine
end

section
/-! SUPPORT. Frames for supplies and starts: what stands while the module's units go on (`SameUnits`), and what stands while a start goes on
(`SameRun`). One rule per operation of the model. -/

namespace Sys2Proof.Machine

open Sys2Proof

/-! ### The frames -/

/-- What only a start or a reset changes: the clock beside its offset to Flue time, the shared SRAM, the kind of the start and what holds it. -/
def State.runView (s : State) : Clock × List Host.Cell × Nat × Bool × Bool :=
  ({ s.clock with flueOffset := 0 }, s.sram, s.startup.kind, s.startup.halted, s.startup.hotHold)

/-- A module that is awake stays awake, one in reset stays there. -/
def Settled (a b : PowerPhase) : Prop := (a = .awake → b = .awake) ∧ (a = .inReset → b = .inReset)

/-- From `s` to `t` the module has neither started nor been reset nor gone to sleep. -/
def SameRun (s t : State) : Prop := t.runView = s.runView ∧ Settled s.power.phase t.power.phase

/-- The supply status, the count of P2 losses, the count of entries into EMBER, the actuators and the front end's readiness. -/
def State.unitView (s : State) : Int × Int × Int × Actuators × Bool :=
  (s.get Key.supplySupplyStatus, s.get Key.supplyP2Losses, s.get Key.powerEMBEREntries, s.acts, s.front.ready)

/-- The same run, with supplies and actuators as they were. -/
def SameUnits (s t : State) : Prop := SameRun s t ∧ t.unitView = s.unitView

/-- A key outside the objects of the power manager and of the supplies (R85, R90). -/
def offSupply (k : Nat) : Bool := k / 256 != 0x2200 && k / 256 != 0x3B00

theorem offSupply_at {i j : Nat} (hi : i ≠ 0x2200 ∧ i ≠ 0x3B00 := by omega) (hj : j < 256 := by omega) : offSupply (i * 256 + j) = true := by
  have hk : (i * 256 + j) / 256 = i := by omega
  unfold offSupply
  simp [hk, hi]

theorem Settled.refl (a : PowerPhase) : Settled a a := ⟨id, id⟩
theorem Settled.trans {a b c : PowerPhase} (h : Settled a b) (g : Settled b c) : Settled a c := ⟨g.1 ∘ h.1, g.2 ∘ h.2⟩
theorem Settled.of_ne {a b : PowerPhase} (ha : a ≠ .inReset) (hb : b = .awake) : Settled a b := ⟨fun _ => hb, fun h => absurd h ha⟩

theorem SameRun.refl (s : State) : SameRun s s := ⟨rfl, .refl _⟩
theorem SameRun.trans {s m t : State} (h : SameRun s m) (g : SameRun m t) : SameRun s t := ⟨g.1.trans h.1, h.2.trans g.2⟩
theorem SameRun.ite {s a b : State} {p : Prop} [Decidable p] (h : SameRun s a) (g : SameRun s b) : SameRun s (if p then a else b) := by
  split
  · exact h
  · exact g
theorem SameRun.foldl {α : Type} {s m : State} (f : State → α → State) (l : List α) (h : SameRun s m)
    (hf : ∀ m x, SameRun s m → SameRun s (f m x)) : SameRun s (l.foldl f m) := by
  induction l generalizing m with
  | nil => exact h
  | cons x t ih => exact ih (hf _ _ h)

theorem SameUnits.refl (s : State) : SameUnits s s := ⟨.refl _, rfl⟩
theorem SameUnits.trans {s m t : State} (h : SameUnits s m) (g : SameUnits m t) : SameUnits s t := ⟨h.1.trans g.1, g.2.trans h.2⟩
theorem SameUnits.run {s t : State} (h : SameUnits s t) : SameRun s t := h.1
theorem SameUnits.ite {s a b : State} {p : Prop} [Decidable p] (h : SameUnits s a) (g : SameUnits s b) : SameUnits s (if p then a else b) := by
  split
  · exact h
  · exact g
theorem SameUnits.foldl {α : Type} {s m : State} (f : State → α → State) (l : List α) (h : SameUnits s m)
    (hf : ∀ m x, x ∈ l → SameUnits s m → SameUnits s (f m x)) : SameUnits s (l.foldl f m) := by
  induction l generalizing m with
  | nil => exact h
  | cons x t ih => exact ih (hf _ _ List.mem_cons_self h) fun m y hy => hf m y (List.mem_cons_of_mem _ hy)

/-! ### What the frames say -/

section
variable {s t : State}

theorem SameRun.op (h : SameRun s t) : t.clock.op = s.clock.op := congrArg (fun v => v.1.op) h.1
theorem SameRun.opFram (h : SameRun s t) : t.clock.opFram = s.clock.opFram := congrArg (fun v => v.1.opFram) h.1
theorem SameRun.tick (h : SameRun s t) : t.clock.tick = s.clock.tick := congrArg (fun v => v.1.tick) h.1
theorem SameRun.sram (h : SameRun s t) : t.sram = s.sram := congrArg (fun v => v.2.1) h.1
theorem SameRun.kind (h : SameRun s t) : t.startup.kind = s.startup.kind := congrArg (fun v => v.2.2.1) h.1
theorem SameRun.halted (h : SameRun s t) : t.startup.halted = s.startup.halted := congrArg (fun v => v.2.2.2.1) h.1
theorem SameRun.hotHold (h : SameRun s t) : t.startup.hotHold = s.startup.hotHold := congrArg (fun v => v.2.2.2.2) h.1
theorem SameRun.awake (h : SameRun s t) (ha : s.power.phase = .awake) : t.power.phase = .awake := h.2.1 ha
theorem SameRun.inReset (h : SameRun s t) (hr : s.power.phase = .inReset) : t.power.phase = .inReset := h.2.2 hr

theorem SameUnits.supplyStatus (h : SameUnits s t) : t.get Key.supplySupplyStatus = s.get Key.supplySupplyStatus := congrArg (fun v => v.1) h.2
theorem SameUnits.p2Losses (h : SameUnits s t) : t.get Key.supplyP2Losses = s.get Key.supplyP2Losses := congrArg (fun v => v.2.1) h.2
theorem SameUnits.emberEntries (h : SameUnits s t) : t.get Key.powerEMBEREntries = s.get Key.powerEMBEREntries := congrArg (fun v => v.2.2.1) h.2
theorem SameUnits.acts (h : SameUnits s t) : t.acts = s.acts := congrArg (fun v => v.2.2.2.1) h.2
theorem SameUnits.ready (h : SameUnits s t) : t.front.ready = s.front.ready := congrArg (fun v => v.2.2.2.2) h.2

end

/-! ### Values and parts -/

section
variable {s m : State}

theorem SameRun.put (h : SameRun s m) (k : Nat) (v : Int) : SameRun s (m.put k v) := h
theorem SameRun.putN (h : SameRun s m) (k v : Nat) : SameRun s (m.putN k v) := h
theorem SameRun.putB (h : SameRun s m) (k : Nat) (b : Bool) : SameRun s (m.putB k b) := h
theorem SameRun.putW (h : SameRun s m) (k : Nat) (v : Word) : SameRun s (m.putW k v) := h
theorem SameRun.putBit (h : SameRun s m) (k n : Nat) (b : Bool) : SameRun s (m.putBit k n b) := h
theorem SameRun.bump (h : SameRun s m) (w k : Nat) : SameRun s (State.bump w m k) := h
theorem SameRun.zero (h : SameRun s m) (l : List Nat) : SameRun s (m.zero l) := by
  induction l generalizing m with
  | nil => exact h
  | cons k t ih => exact ih (m := m.put k 0) h

theorem SameUnits.put (h : SameUnits s m) (k : Nat) (v : Int) (hk : offSupply k = true) : SameUnits s (m.put k v) := by
  have off : ∀ j, offSupply j = false → (m.put k v).get j = m.get j := fun j hj =>
    State.get_put_other _ _ _ _ (by rintro rfl; rw [hj] at hk; cases hk)
  refine ⟨h.1, Eq.trans ?_ h.2⟩
  unfold State.unitView
  rw [off _ (by decide), off _ (by decide), off _ (by decide)]
  rfl
theorem SameUnits.putN (h : SameUnits s m) (k v : Nat) (hk : offSupply k = true) : SameUnits s (m.putN k v) := h.put k _ hk
theorem SameUnits.putBit (h : SameUnits s m) (k n : Nat) (b : Bool) (hk : offSupply k = true) : SameUnits s (m.putBit k n b) := h.put k _ hk
theorem SameUnits.bump (h : SameUnits s m) (w k : Nat) (hk : offSupply k = true) : SameUnits s (State.bump w m k) := h.put k _ hk
theorem SameUnits.front (h : SameUnits s m) (x : FrontEnd) (hx : x.ready = m.front.ready) : SameUnits s { m with front := x } := by
  refine ⟨h.1, Eq.trans ?_ h.2⟩
  unfold State.unitView
  rw [← hx]
  rfl
theorem SameUnits.setChannel (h : SameUnits s m) (n : Fin 64) (f : Channel → Channel) : SameUnits s (m.setChannel n f) := h
theorem SameUnits.setConverter (h : SameUnits s m) (v : Fin 8) (f : Converter → Converter) : SameUnits s (m.setConverter v f) := h
theorem SameUnits.setDrive (h : SameUnits s m) (d : Fin 16) (f : DriveUnit → DriveUnit) : SameUnits s (m.setDrive d f) := h
theorem SameUnits.setCan (h : SameUnits s m) (b : Fin 2) (f : CanPort → CanPort) : SameUnits s (m.setCan b f) := h
theorem SameUnits.setFlue (h : SameUnits s m) (f : Flue → Flue) : SameUnits s (m.setFlue f) := h
theorem SameUnits.setPort (h : SameUnits s m) (p : Fin 4) (f : FluePort → FluePort) : SameUnits s (m.setPort p f) := h
theorem SameUnits.putBlock (h : SameUnits s m) (k : Nat) (bs : List Byte) : SameUnits s (m.putBlock k bs) := h

/-! ### Sources and events -/

theorem Woken.settled {s t : State} (h : Woken s t) : Settled s.power.phase t.power.phase := by
  rcases h with e | ⟨from_, e⟩
  · rw [e]; exact .refl _
  · refine .of_ne ?_ (by rw [e])
    rcases from_ with ⟨ha, -⟩ | ⟨q, hq⟩
    · rw [ha]; decide
    · rw [hq]; exact PowerPhase.noConfusion

/-- Raised sources and logged events leave the run and the units as they are. -/
theorem SameUnits.moves {t : State} (h : SameUnits s m) (g : Moves m t []) : SameUnits s t := by
  have run : t.runView = m.runView := (congrArg State.runView g.beside : t.besideEvents.runView = m.besideEvents.runView)
  have acts : t.acts = m.acts := (congrArg State.acts g.beside : t.besideEvents.acts = m.besideEvents.acts)
  have front : t.front = m.front := (congrArg State.front g.beside : t.besideEvents.front = m.besideEvents.front)
  refine h.trans ⟨⟨run, g.power.settled⟩, ?_⟩
  unfold State.unitView
  rw [g.get _ (by decide), g.get _ (by decide), g.get _ (by decide), acts, front]
theorem SameUnits.raiseSource (h : SameUnits s m) (src : Nat) : SameUnits s (m.raiseSource src) := h.moves ((Moves.refl _ _).raiseSource _)
theorem SameUnits.log (h : SameUnits s m) (code source w4 w5 w6 : Nat) : SameUnits s (m.log code source w4 w5 w6) :=
  h.moves ((Moves.refl _ _).log _ _ _ _ _)
theorem SameRun.raiseSource (h : SameRun s m) (src : Nat) : SameRun s (m.raiseSource src) := h.trans ((SameUnits.refl m).raiseSource src).run
theorem SameRun.log (h : SameRun s m) (code source w4 w5 w6 : Nat) : SameRun s (m.log code source w4 w5 w6) :=
  h.trans ((SameUnits.refl m).log code source w4 w5 w6).run

/-! ### The front end's slots and blanking (R157, R179, R186-R190) -/

theorem SameUnits.markHeld (h : SameUnits s m) (v : Fin 8) (taken : Option (Fin 64 × Nat)) : SameUnits s (m.markHeld v taken) :=
  .foldl _ _ h fun _ _ _ g => .ite (g.setChannel _ _) g

theorem SameUnits.startSlot (h : SameUnits s m) (v : Fin 8) (n : Fin 64) : SameUnits s (m.startSlot v n) := by
  unfold State.startSlot
  dsimp only
  split
  · exact h
  · refine SameUnits.putN (.ite ?_ ?_) _ _ offSupply_at
    · exact (h.setConverter _ _).setChannel _ _
    · exact ((h.setConverter _ _).setChannel _ _).putN _ _ offSupply_at

theorem SameUnits.serveCore (h : SameUnits s m) (v : Fin 8) : SameUnits s (m.serveCore v) := by
  unfold State.serveCore
  dsimp only
  split
  · exact h
  · have held := h.markHeld v (m.nextChannel v)
    split
    · exact .ite (held.setConverter _ _) (held.startSlot _ _)
    · exact held.startSlot _ _
    · exact held.setConverter _ _
    · exact held
theorem SameUnits.serveCores (h : SameUnits s m) : SameUnits s m.serveCores := .foldl _ _ h fun _ v _ g => g.serveCore v

theorem SameUnits.starve (h : SameUnits s m) (n : Fin 64) : SameUnits s (m.starve n) :=
  .ite (h.setChannel _ _) ((h.setChannel _ _).log _ _ _ _ _)

theorem SameUnits.abortedRetake (h : SameUnits s m) (n : Fin 64) : SameUnits s (m.abortedRetake n) :=
  .ite h (.ite (h.setChannel _ _)
    (((h.setChannel _ _).bump _ _ offSupply_at).putN _ _ offSupply_at))

theorem SameUnits.abortSlot (h : SameUnits s m) (v : Fin 8) (src t : Nat) : SameUnits s (m.abortSlot v src t) := by
  unfold State.abortSlot
  split
  · exact h
  · rename_i sl _
    refine .ite ?_ h
    have ended : SameUnits s (State.bump 32 ((m.setConverter v fun k => { k with slot := none }).setChannel sl.chan fun c =>
        { c.excited t (sl.onTime (t - sl.start)) with due := some { sl.due.join c.due with delayed := true, held := true }, lastBlank := src })
        (Key.convSlotsAborted v.val)) := ((h.setConverter _ _).setChannel _ _).bump _ _ offSupply_at
    have retaken := SameUnits.ite (p := (sl.retaken && sl.phase == 0) = true) (ended.abortedRetake sl.chan) ended
    exact .ite (retaken.starve _) retaken

theorem SameUnits.unstartSlot (h : SameUnits s m) (v : Fin 8) (src t : Nat) : SameUnits s (m.unstartSlot v src t) := by
  unfold State.unstartSlot
  split
  · exact .ite ((h.setConverter _ _).setChannel _ _) h
  · exact h

theorem SameUnits.blankRelease (h : SameUnits s m) (src : Nat) : SameUnits s (m.blankRelease src) :=
  (h.front { m.front with inEffect := setBit m.front.inEffect src false, timedOut := setBit m.front.timedOut src false } rfl).serveCores

theorem SameUnits.blankAssert (h : SameUnits s m) (src t : Nat) : SameUnits s (m.blankAssert src t) := by
  unfold State.blankAssert
  split
  · exact h
  · extract_lets unstarted front effective marked
    have hu : SameUnits s unstarted := .foldl _ _ h fun _ v _ g => g.unstartSlot v src t
    clear_value unstarted
    have he : SameUnits s effective := hu.front _ rfl
    have hm : SameUnits s marked := .foldl _ _ he fun _ _ _ g => .ite (g.setChannel _ _) g
    exact SameUnits.serveCores (.foldl _ _ hm fun _ v _ g => g.abortSlot v src _)

theorem SameUnits.blankAgain (h : SameUnits s m) (src : Nat) : SameUnits s (m.blankAgain src) := (h.blankRelease src).blankAssert src _

/-! ### Drives (R404-R416) -/

theorem SameUnits.evalTable (h : SameUnits s m) (d : Fin 16) (k : Nat) : SameUnits s (m.evalTable d k) :=
  .ite (h.putN _ _ offSupply_at) (h.putN _ _ offSupply_at)

theorem SameUnits.driveEnter (h : SameUnits s m) (d : Fin 16) (st : Nat) : SameUnits s (m.driveEnter d st) := by
  unfold State.driveEnter
  dsimp only
  refine .ite h (SameUnits.raiseSource (SameUnits.putN ?_ _ _ offSupply_at) _)
  have released := SameUnits.ite (p := m.nat (Key.driveState d) = driveStarting ∨ st ≤ driveIdle) (h.blankRelease (blankDrive d)) h
  have counted := SameUnits.ite (p := st ≤ driveIdle) (released.putN (Key.driveStartAttempt d) 0 offSupply_at) released
  refine .ite ?_ counted
  exact ((counted.putBit _ _ _ offSupply_at).putBit _ _ _ offSupply_at).putBit _ _ _ offSupply_at

theorem SameUnits.driveStart (h : SameUnits s m) (d : Fin 16) (n : Nat) : SameUnits s (m.driveStart d n) :=
  ((h.driveEnter d _).putN _ _ offSupply_at).blankAgain _

theorem SameUnits.driveHold (h : SameUnits s m) (d : Fin 16) : SameUnits s (m.driveHold d) := h.setDrive d _

theorem SameUnits.tableUse (h : SameUnits s m) (d : Fin 16) : SameUnits s (m.tableUse d) := by
  unfold State.tableUse
  dsimp only
  have used := h.setDrive d fun u => { u with inTable := (m.driveCommand d false).2 != .no }
  have evaluated := SameUnits.ite (p := ((m.driveCommand d false).2 != .no && !(m.outputs.drives[d]).inTable) = true) (used.evalTable d 0) used
  exact .ite (evaluated.log _ _ _ _ _) evaluated

theorem SameUnits.driveAdvance (h : SameUnits s m) (d : Fin 16) : SameUnits s (m.driveAdvance d) := by
  unfold State.driveAdvance
  dsimp only
  refine .ite (h.driveEnter d _) ?_
  have idle := SameUnits.ite (p := m.nat (Key.driveState d) = driveOff) (h.driveEnter d driveIdle) h
  refine .ite (.ite (.ite ((idle.driveEnter d _).blankAgain _) (idle.driveStart d 1)) idle) (.ite idle (.ite ?_ ?_))
  · exact .ite idle (idle.driveEnter d _)
  · exact .ite (idle.driveEnter d _) idle

theorem SameUnits.serveDrive (h : SameUnits s m) (d : Fin 16) : SameUnits s (m.serveDrive d) := by
  unfold State.serveDrive
  extract_lets advanced q q1
  have ha : SameUnits s advanced := (((((h.driveHold d).tableUse d).driveAdvance d).tableUse d).driveAdvance d).tableUse d
  exact (ha.put _ _ offSupply_at).setDrive d _

theorem SameUnits.serveDrives (h : SameUnits s m) : SameUnits s m.serveDrives := .foldl _ _ h fun _ d _ g => g.serveDrive d

end

end Sys2Proof.Machine
end

section
/-! SUPPORT. The supplies' events (R69, R70, R73, R89), behind `Obligations.SupplyEvents`. -/

namespace Sys2Proof.Machine

open Sys2Proof

/-! ### Channels that open (R69, R373, R378, R393) -/

theorem State.setAct_setAct (s : State) (a : Fin 20) (f g : ActUnit → ActUnit) : (s.setAct a f).setAct a g = s.setAct a (g ∘ f) := by
  unfold State.setAct
  simp

theorem actUnit_setAct (s : State) (a b : Fin 20) (f : ActUnit → ActUnit) :
    (s.setAct a f).actUnit b = if a = b then f (s.actUnit b) else s.actUnit b := by
  unfold State.setAct State.actUnit
  simp only [Fin.getElem_fin, Vector.getElem_set, Fin.ext_iff]
  split
  · rename_i h; simp only [h]
  · rfl

theorem SameUnits.setAct {s t : State} (h : SameUnits s t) (a : Fin 20) (f : ActUnit → ActUnit) : SameUnits (s.setAct a f) (t.setAct a f) := by
  have acts := h.acts
  refine ⟨h.1, ?_⟩
  unfold State.unitView State.setAct
  rw [acts]
  show (t.get _, t.get _, t.get _, _, t.front.ready) = (s.get _, s.get _, s.get _, _, s.front.ready)
  rw [h.supplyStatus, h.p2Losses, h.emberEntries, h.ready]

theorem SameUnits.actUnit {s t : State} (h : SameUnits s t) (a : Fin 20) : t.actUnit a = s.actUnit a := by
  unfold State.actUnit; rw [h.acts]

/-- What opening does to a channel itself. -/
def ActUnit.opened (u : ActUnit) : ActUnit :=
  { u with phase := .idle, pulse := false, bySafe := false, target := 0, limited := false, decaying := u.decaying || u.phase.active }

theorem sameUnits_actOpen (s : State) (a : Fin 20) : SameUnits (s.setAct a ActUnit.opened) (s.actOpen a) := by
  have opened := SameUnits.refl (s.setAct a ActUnit.opened)
  have released := SameUnits.ite (p := (s.actUnit a).phase = .rise ∨ (s.actUnit a).phase = .dwell) (opened.blankRelease (blankAct a)) opened
  exact .ite (released.raiseSource _) released
theorem sameUnits_actOff (s : State) (a : Fin 20) : SameUnits (s.setAct a ActUnit.opened) (s.actOff a) :=
  (sameUnits_actOpen s a).putN _ _ offSupply_at

/-- What a refusal does to a channel itself: a request that waits is cancelled. -/
def ActUnit.refused (u : ActUnit) : ActUnit := if u.phase.active then u else { u with phase := .idle, pulse := false, bySafe := false }

theorem sameUnits_actRefuse (s : State) (a : Fin 20) (reason : Nat) : SameUnits (s.setAct a ActUnit.refused) (s.actRefuse a reason) :=
  ((((SameUnits.refl _).putN _ _ offSupply_at).putN _ _ offSupply_at).bump _ _ offSupply_at).raiseSource _

/-- P2 loss leaves its channel open and touches no other (R69). -/
theorem sameUnits_actP2Loss (s : State) (a : Fin 20) :
    ∃ f : ActUnit → ActUnit, (f (s.actUnit a)).phase = .idle ∧ SameUnits (s.setAct a f) (s.actP2Loss a) := by
  unfold State.actP2Loss
  dsimp only
  split
  · rename_i waiting
    refine ⟨_, ?_, sameUnits_actRefuse s a 6⟩
    unfold ActUnit.refused
    rcases waiting with h | h <;> simp [h, ActPhase.active]
  · split
    · have blocked := (sameUnits_actOff s a).setAct a fun u => { u with blocked := true, setpoint := (s.actOff a).propSetpoint a }
      rw [State.setAct_setAct] at blocked
      exact ⟨_, rfl, blocked⟩
    · exact ⟨_, rfl, sameUnits_actOff s a⟩

/-- From `s` to `t` supply status and P2 losses stand, and the channels of `l` are open beside those that were. -/
structure Opens (s : State) (l : List (Fin 20)) (t : State) : Prop where
  status : t.get Key.supplySupplyStatus = s.get Key.supplySupplyStatus
  losses : t.get Key.supplyP2Losses = s.get Key.supplyP2Losses
  idle   : ∀ a, a ∈ l ∨ (s.actUnit a).phase = .idle → (t.actUnit a).phase = .idle

theorem opens_actP2Loss (s : State) (a : Fin 20) : Opens s [a] (s.actP2Loss a) := by
  obtain ⟨f, hf, h⟩ := sameUnits_actP2Loss s a
  refine ⟨h.supplyStatus, h.p2Losses, fun b hb => ?_⟩
  rw [h.actUnit, actUnit_setAct]
  split
  · rename_i e; subst e; exact hf
  · rename_i e
    exact hb.resolve_left fun hm => e (List.mem_singleton.1 hm).symm

theorem opens_foldl (s : State) (l : List (Fin 20)) : Opens s l (l.foldl (fun s a => s.actP2Loss a) s) := by
  induction l generalizing s with
  | nil => exact ⟨rfl, rfl, fun a h => h.resolve_left List.not_mem_nil⟩
  | cons x t ih =>
    have first := opens_actP2Loss s x
    have rest := ih (s.actP2Loss x)
    refine ⟨rest.status.trans first.status, rest.losses.trans first.losses, fun a ha => rest.idle a ?_⟩
    rcases ha with hm | hi
    · rcases List.mem_cons.1 hm with rfl | hm
      · exact .inr (first.idle _ (.inl (List.mem_singleton_self _)))
      · exact .inl hm
    · exact .inr (first.idle a (.inr hi))

theorem nat_of {s t : State} {k : Nat} (h : t.get k = s.get k) : t.nat k = s.nat k := by
  unfold State.nat; rw [h]

/-! ### P1 low (R70) -/

/-- From `s` to `t` bit `n` of the supply status became `b`, and nothing else but events. -/
def StatusBit (s : State) (n : Nat) (b : Bool) (t : State) : Prop := Moves s t [Key.supplySupplyStatus]
  ∧ t.bitOf Key.supplySupplyStatus n = b ∧ ∀ m, m ≠ n → t.bitOf Key.supplySupplyStatus m = s.bitOf Key.supplySupplyStatus m

theorem statusBit_raise (s : State) (n : Nat) (b : Bool) (src : Nat) : StatusBit s n b ((s.supplyBit n b).raiseSource src) := by
  have value : ((s.supplyBit n b).raiseSource src).get Key.supplySupplyStatus = (s.supplyBit n b).get Key.supplySupplyStatus :=
    get_raiseSource _ _ _ (by decide)
  refine ⟨((Moves.refl _ _).putBit _ _ _ (by decide)).raiseSource _, ?_, fun m hm => ?_⟩
  · rw [bitOf_of n value]; exact bitOf_putBit_same _ _ _ _
  · rw [bitOf_of m value]; exact bitOf_putBit_bit _ _ _ _ _ hm

theorem answers_p1LowSet (s : State) (h : s.clocksRun = true) (hb : s.bitOf Key.supplySupplyStatus 0 = false) :
    Answers .p1LowSet s (StatusBit s 0 true) :=
  ⟨_, congrArg Host.Outcome.next (if_pos ⟨h, hb⟩), statusBit_raise s 0 true 242⟩
theorem answers_p1LowClear (s : State) (h : s.clocksRun = true) (hb : s.bitOf Key.supplySupplyStatus 0 = true) :
    Answers .p1LowClear s (StatusBit s 0 false) :=
  ⟨_, congrArg Host.Outcome.next (if_pos ⟨h, hb⟩), statusBit_raise s 0 false 242⟩

/-! ### P2 (R69) -/

/-- What P2 loss changes before the channels open: its bit, its count, its record, source 243. -/
def State.p2Recorded (s : State) : State := (((s.supplyBit 1 true).bump 16 Key.supplyP2Losses).log 0x0102 noSource).raiseSource 243

theorem answers_p2Loss (s : State) (h : s.clocksRun = true) (hp : s.p2Lost = false) : Answers .p2Loss s fun t =>
    t.p2Lost = true ∧ t.nat Key.supplyP2Losses = satSucc 16 (s.nat Key.supplyP2Losses) ∧ ∀ a : Fin 20, (t.actUnit a).phase = .idle := by
  refine ⟨_, congrArg Host.Outcome.next (if_pos ⟨h, hp⟩), ?_⟩
  have recorded : SameUnits ((s.supplyBit 1 true).bump 16 Key.supplyP2Losses) s.p2Recorded := ((SameUnits.refl _).log _ _ _ _ _).raiseSource _
  have opens := opens_foldl s.p2Recorded (List.finRange 20)
  have served := SameUnits.serveDrives (.refl ((List.finRange 20).foldl (fun s a => s.actP2Loss a) s.p2Recorded))
  refine ⟨?_, ?_, fun a => ?_⟩
  · have status := served.supplyStatus.trans (opens.status.trans recorded.supplyStatus)
    refine (bitOf_of 1 status).trans ?_
    rw [bitOf_of (s := s.supplyBit 1 true) 1 (by rw [State.get_bump, if_neg (by decide)])]
    exact bitOf_putBit_same _ _ _ _
  · refine (nat_of (served.p2Losses.trans (opens.losses.trans recorded.p2Losses))).trans ?_
    have count : (s.supplyBit 1 true).nat Key.supplyP2Losses = s.nat Key.supplyP2Losses :=
      nat_of (State.get_put_other _ _ _ _ (by decide))
    unfold State.bump
    rw [State.nat_putN_same, count]
  · exact (congrArg ActUnit.phase (served.actUnit a)).trans (opens.idle a (.inl (List.mem_finRange a)))

theorem answers_p2Restored (s : State) (h : s.clocksRun = true) (hp : s.p2Lost = true) : Answers .p2Restored s fun t =>
    t.p2Lost = false ∧ t.acts = s.acts := by
  refine ⟨_, congrArg Host.Outcome.next (if_pos ⟨h, hp⟩), ?_⟩
  have served : SameUnits (s.supplyBit 1 false) (((s.supplyBit 1 false).log 0x0105 noSource).raiseSource 243).serveDrives :=
    (((SameUnits.refl _).log _ _ _ _ _).raiseSource _).serveDrives
  exact ⟨(bitOf_of 1 served.supplyStatus).trans (bitOf_putBit_same _ _ _ _), served.acts⟩

/-! ### The backup cell and the crystal (R70, R73, R89) -/

theorem answers_cellCheck (s : State) (mv : BitVec 16) (h : s.clocksRun = true) : Answers (.cellCheck mv) s fun t =>
    Moves s t [Key.supplyBackupCellVoltage, Key.supplySupplyStatus] ∧ t.nat Key.supplyBackupCellVoltage = mv.toNat
    ∧ t.bitOf Key.supplySupplyStatus 2 = decide (mv.toNat < 2500) ∧ (s.logOpen → mv.toNat < 2500 → t.lastLogged 0x0106 noSource 0 0 0) := by
  refine ⟨_, congrArg Host.Outcome.next (if_pos h), ?_⟩
  have size : mv.toNat % 65536 = mv.toNat := Nat.mod_eq_of_lt mv.isLt
  unfold State.cellCheck
  extract_lets low measured
  have moves : Moves s measured [Key.supplyBackupCellVoltage, Key.supplySupplyStatus] :=
    ((Moves.refl _ _).putN _ _ (by decide)).putBit _ _ _ (by decide)
  have voltage : measured.nat Key.supplyBackupCellVoltage = mv.toNat :=
    (nat_of (State.get_put_other _ _ _ _ (by decide))).trans ((State.nat_putN_same _ _ _).trans size)
  have bit : measured.bitOf Key.supplySupplyStatus 2 = decide (mv.toNat < 2500) := bitOf_putBit_same _ _ _ _
  have logged : ∀ k, k ∉ eventKeys → (measured.log 0x0106 noSource).get k = measured.get k := fun k hk => get_log _ _ _ _ _ _ _ hk
  by_cases hl : mv.toNat < 2500
  · rw [if_pos (by simpa [low] using hl)]
    refine ⟨moves.log _ _ _ _ _, (nat_of (logged _ (by decide))).trans voltage, (bitOf_of 2 (logged _ (by decide))).trans bit, fun ho _ => ?_⟩
    refine lastLogged_log _ _ _ _ _ _ (logOpen_of ho rfl ?_)
    exact (State.get_put_other _ _ _ _ (by decide)).trans (State.get_put_other _ _ _ _ (by decide))
  · rw [if_neg (by simpa [low] using hl)]
    exact ⟨moves, voltage, bit, fun _ hm => absurd hm hl⟩

/-- The crystal stops while the log can take its record. -/
theorem answers_crystalStopped_logs (s : State) (hb : s.bitOf Key.supplySupplyStatus 4 = false)
    (hr : s.clocksRun = true ∨ s.power.phase = .asleep .banked) : Answers .crystalStopped s fun t =>
      Moves s t [Key.supplySupplyStatus] ∧ t.bitOf Key.supplySupplyStatus 4 = true ∧ (s.logOpen → t.lastLogged 0x0107 noSource 0 0 0) := by
  have logs : execCrystalStopped s = .next ((s.supplyBit 4 true).log 0x0107 noSource) := by
    unfold execCrystalStopped
    rw [if_neg (by rw [hb]; decide)]
    unfold State.clocksRun at hr
    dsimp only
    split
    · rfl
    · rfl
    · rfl
    · rename_i ha he hs
      rcases hr with hr | hr
      · split at hr
        · rename_i e; exact absurd e ha
        · rename_i q e; exact absurd e (he q)
        · cases hr
      · exact absurd hr hs
  refine ⟨_, logs, ((Moves.refl _ _).putBit _ _ _ (by decide)).log _ _ _ _ _, ?_, fun ho => ?_⟩
  · exact (bitOf_of 4 (get_log _ _ _ _ _ _ _ (by decide))).trans (bitOf_putBit_same _ _ _ _)
  · exact lastLogged_log _ _ _ _ _ _ (logOpen_of ho rfl (State.get_put_other _ _ _ _ (by decide)))

/-- The crystal stops in EMBER: the record waits for the start. -/
theorem answers_crystalStopped_ember (s : State) (hb : s.bitOf Key.supplySupplyStatus 4 = false) (hp : s.power.phase = .asleep .ember) :
    Answers .crystalStopped s fun t =>
      Only { s with power := { s.power with crystalDue := true } } t [Key.supplySupplyStatus] ∧ t.bitOf Key.supplySupplyStatus 4 = true := by
  have waits : execCrystalStopped s = .next (State.supplyBit { s with power := { s.power with crystalDue := true } } 4 true) := by
    unfold execCrystalStopped
    rw [if_neg (by rw [hb]; decide), hp]
    rfl
  exact ⟨_, waits, (Only.refl _ _).putBit _ _ _ (by decide), bitOf_putBit_same _ _ _ _⟩

/-- Settles O23: the bits of the supply status are followed through the events and, on P2 loss, through the channels that open (`Opens`) and
the drives served behind it (`SameUnits`). -/
theorem supplyEvents : Obligations.SupplyEvents := by
  intro s
  exact ⟨answers_p1LowSet s, answers_p1LowClear s, answers_p2Loss s, answers_p2Restored s, answers_cellCheck s,
    fun hb => ⟨answers_crystalStopped_logs s hb, answers_crystalStopped_ember s hb⟩⟩

end Sys2Proof.Machine
end

section
/-! SUPPORT. The commit point of a sleep entry (R72, R77, R81, R82): what stops with the PLL leaves times, counts and readiness alone, behind
`Obligations.SleepEntryCommits`. -/

namespace Sys2Proof.Machine

open Sys2Proof

/-! ### Flue frames and groups (R523-R537, R540, R550, R553) -/

section
variable {s m : State}

theorem SameUnits.raiseFlue (h : SameUnits s m) (i : Nat) : SameUnits s (m.raiseFlue i) := h.raiseSource i
theorem SameUnits.setGroup (h : SameUnits s m) (g : Nat) (f : FlueGroup → FlueGroup) : SameUnits s (m.setGroup g f) := h.setFlue _
theorem SameUnits.setMember (h : SameUnits s m) (g : Nat) (i : Fin 15) (f : FlueMember → FlueMember) : SameUnits s (m.setMember g i f) := h.setGroup g _
theorem SameUnits.setFlueTime (h : SameUnits s m) (ns : Nat) : SameUnits s (m.setFlueTime ns) := h
theorem SameUnits.makeFrame (h : SameUnits s m) (dst : Nat) (b : FlueBody) : SameUnits s (m.makeFrame dst b).2 := h.setFlue _
theorem SameUnits.noRoute (h : SameUnits s m) : SameUnits s m.noRoute := h.bump _ _ offSupply_at

theorem SameUnits.enqueueFrame (h : SameUnits s m) (p : Fin 4) (f : FlueFrame) : SameUnits s (m.enqueueFrame p f) := by
  have counted := h.bump 32 (Key.portQueueDiscards p) offSupply_at
  exact .ite (.ite (h.setPort p _) (.ite (counted.raiseFlue 218) counted)) h

theorem SameUnits.routeFrame (h : SameUnits s m) (f : FlueFrame) : SameUnits s (m.routeFrame f) := by
  unfold State.routeFrame
  split
  · exact h.enqueueFrame _ f
  · exact h.noRoute

theorem SameUnits.mailOrRoute (h : SameUnits s m) (f : FlueFrame) : SameUnits s (m.mailOrRoute f).1 := by
  unfold State.mailOrRoute
  split
  · exact h.routeFrame f
  · rename_i g i _
    split
    · exact h.noRoute
    · exact h
    · split
      · exact h
      · dsimp only
        split
        · exact h.setMember g i _
        · exact .ite h ((h.setMember g i _).log _ _ _ _ _)

theorem SameUnits.sendFlue (h : SameUnits s m) (dst : Nat) (b : FlueBody) : SameUnits s (m.sendFlue dst b) :=
  .ite h ((h.makeFrame dst b).mailOrRoute _)

theorem SameUnits.flood (h : SameUnits s m) (g : Nat) (x : Option (Fin 4)) (b : FlueBody) : SameUnits s (m.flood g x b) :=
  .foldl _ _ h fun _ p _ e => .ite ((e.makeFrame g b).enqueueFrame p _) e

theorem SameUnits.floodLinkState (h : SameUnits s m) : SameUnits s m.floodLinkState :=
  .foldl _ _ (h.setFlue fun u => { u with lsSeq := u.lsSeq + 1 }) fun _ g _ e => e.flood g.addr none _

theorem SameUnits.setSync (h : SameUnits s m) (v : Nat) : SameUnits s (m.setSync v) :=
  .ite h ((h.putN _ _ offSupply_at).raiseFlue _)

theorem SameUnits.grandmasterCheck (h : SameUnits s m) : SameUnits s m.grandmasterCheck := by
  have took := (((h.setFlueTime m.moduleNs).putN Key.ftimeGrandmasterHigh (m.uid / 2 ^ 32) offSupply_at).putN Key.ftimeGrandmasterLow
    (m.uid % 2 ^ 32) offSupply_at).setSync 3
  exact .ite (.ite h took) (.ite ((h.setFlue _).setSync 0) h)

theorem SameUnits.showGroup (h : SameUnits s m) : SameUnits s m.showGroup := (h.putN _ _ offSupply_at).putN _ _ offSupply_at

theorem SameUnits.standAbove (h : SameUnits s m) (g : Nat) (head : Bool) : SameUnits s (m.standAbove g head) :=
  .ite (.ite h (h.setFlue _).floodLinkState) (h.setFlue _)

theorem SameUnits.setHead (h : SameUnits s m) (g head deputy : Nat) : SameUnits s (m.setHead g head deputy) := by
  unfold State.setHead
  split
  · exact h
  · rename_i r _
    split
    · exact h
    · extract_lets fresh new shown raised flooded above
      have hs : SameUnits s shown := (h.setGroup g _).showGroup
      have hr : SameUnits s raised := .ite (hs.raiseFlue 210) hs
      have hf : SameUnits s flooded := .ite (hr.flood g none _) hr
      have ha : SameUnits s above := .ite (hf.standAbove g true) (.ite (hf.standAbove g false) hf)
      exact ha.grandmasterCheck

theorem SameUnits.deputyCheck (h : SameUnits s m) : SameUnits s m.deputyCheck :=
  .foldl _ _ h fun _ r _ e => .ite e (.ite ((e.setHead r.addr _ _).log _ _ _ _ _) e)

theorem SameUnits.linkLost (h : SameUnits s m) (p : Fin 4) (link : Nat) : SameUnits s (m.linkLost p link) := h.setPort p _

theorem SameUnits.adjacencyDown (h : SameUnits s m) (p : Fin 4) (link : Nat) : SameUnits s (m.adjacencyDown p link) := by
  have shown := h.putN (Key.portLinkState p) link offSupply_at
  have raised := (shown.bump 32 (Key.portAdjacencyLosses p) offSupply_at).raiseFlue (206 + p.val)
  unfold State.adjacencyDown
  split
  · exact ((SameUnits.ite raised (raised.log _ _ _ _ _)).linkLost p link).floodLinkState.deputyCheck
  · exact shown.linkLost p link

/-! ### The CAN controllers (R484, R508) -/

theorem SameUnits.canForget (h : SameUnits s m) (b : Fin 2) : SameUnits s (m.canForget b) := by
  refine .foldl _ _ (h.setCan b _) fun _ k hk e => (e.putBlock _ _).putN _ _ ?_
  have inRange := List.mem_range.1 hk
  exact offSupply_at

theorem SameUnits.frameOver (h : SameUnits s m) (b : Fin 2) : SameUnits s (m.frameOver b) := h.setCan b _

theorem SameUnits.canSleep (h : SameUnits s m) : SameUnits s m.canSleep :=
  .foldl _ _ h fun _ b _ e => .ite e (((e.canForget b).frameOver b).putN _ _ offSupply_at)

end

/-! ### What stops with the PLL (R74, R75, R184) -/

/-- The front end without power is not ready; the run and the count of entries into EMBER stand. -/
theorem frontOff_leaves (s : State) : SameRun s s.frontOff ∧ s.frontOff.get Key.powerEMBEREntries = s.get Key.powerEMBEREntries
    ∧ s.frontOff.front.ready = false := by
  unfold State.frontOff
  extract_lets ended
  have he : SameUnits s ended := by
    refine .foldl _ _ (.refl s) fun m v _ e => SameUnits.setConverter ?_ v _
    split
    · exact e
    · exact e.setChannel _ _
  clear_value ended
  exact ⟨he.run, he.emberEntries, rfl⟩

theorem powerDown_leaves (s : State) : SameRun s s.powerDown ∧ s.powerDown.get Key.powerEMBEREntries = s.get Key.powerEMBEREntries
    ∧ s.powerDown.front.ready = false := by
  unfold State.powerDown
  extract_lets thermal idle
  obtain ⟨run, entries, ready⟩ := frontOff_leaves idle
  have down : SameUnits idle.frontOff ((List.finRange 4).foldl (fun s (p : Fin 4) => s.adjacencyDown p 0) idle.frontOff.canSleep) :=
    .foldl _ _ (SameUnits.refl _).canSleep fun _ p _ e => e.adjacencyDown p 0
  have started : SameRun s idle := .refl s
  exact ⟨started.trans (run.trans down.run), down.emberEntries.trans entries, down.ready.trans ready⟩

/-! ### The return to BLAZE (R82, R85) -/

section
variable (s : State) {k : Nat}

/-- What the router counts of a raised source (R471). -/
def routerCounts : List Nat := [Key.routerRaisesDelivered, Key.routerBellowsTriggers, Key.routerKelsisTriggers]

theorem get_deliverTo_uncounted (c : Fin 4) (src : Nat) (h : k ∉ routerCounts) : (s.deliverTo c src).get k = s.get k := by
  simp only [routerCounts, List.mem_cons, not_or] at h
  unfold State.deliverTo
  dsimp only
  split
  · rfl
  · rw [State.get_bump, if_neg h.1, State.get_setCore]

theorem get_triggers_uncounted (src r : Nat) (h : k ∉ routerCounts) : (s.triggers src r).get k = s.get k := by
  simp only [routerCounts, List.mem_cons, not_or] at h
  obtain ⟨-, bellows, kelsis, -⟩ := h
  unfold State.triggers
  extract_lets router latched
  have hl : latched.get k = s.get k := by
    unfold latched
    split
    · exact State.get_put_other _ _ _ _ bellows
    · rfl
  split
  · exact (State.get_put_other _ _ _ _ kelsis).trans hl
  · exact hl

/-- A delivered source moves no value but the router's counts: the wake causes are not among them. -/
theorem get_deliverSource_uncounted (src : Nat) (h : k ∉ routerCounts) : (s.deliverSource src).get k = s.get k := by
  unfold State.deliverSource
  dsimp only
  rw [get_triggers_uncounted _ _ _ h]
  split_ifs
  · exact get_deliverTo_uncounted _ _ _ h
  · exact get_deliverTo_uncounted _ _ _ h
  · exact get_deliverTo_uncounted _ _ _ h
  · rfl

theorem deliverSource_power (src : Nat) : (s.deliverSource src).power = s.power := by
  unfold State.deliverSource
  dsimp only
  rw [triggers_power]
  split_ifs
  · exact deliverTo_power _ _ _
  · exact deliverTo_power _ _ _
  · exact deliverTo_power _ _ _
  · rfl

theorem returnToBlaze_power (bits : Nat) : (s.returnToBlaze bits).power = { s.power with
    state := .blaze, phase := .awake, latchedWake := 0, noticeOut := false, wokenAt := if bits = 0 then none else some s.clock.op } :=
  deliverSource_power _ _

theorem returnToBlaze_causes (bits : Nat) : (s.returnToBlaze bits).nat Key.powerLastWakeCause = bits :=
  (nat_of (get_deliverSource_uncounted _ _ (by decide))).trans
    ((nat_of (State.get_put_other _ _ _ _ (by decide))).trans (State.nat_putN_same _ _ _))

/-- An entry that no longer stands ends in BLAZE, with ABANDONED beside its causes (R82). -/
theorem abandonEntry_ends (q : PowerState) (bits : Nat) (h : s.power.phase = .entering q) :
    (s.abandonEntry bits).power.phase = .awake ∧ (s.abandonEntry bits).power.state = .blaze
    ∧ (s.abandonEntry bits).nat Key.powerLastWakeCause = bits + 64 := by
  unfold State.abandonEntry
  rw [h]
  dsimp only
  rw [deliverSource_power, returnToBlaze_power]
  exact ⟨rfl, rfl, (nat_of (get_deliverSource_uncounted _ _ (by decide))).trans (returnToBlaze_causes _ _)⟩

/-! ### The commit point (R81, R82) -/

/-- An entry into EMBER as it stands when the PLL stops: the record of the entry, queued records and time saved, the entry counted. -/
def State.emberSaved (s : State) : State :=
  (((if s.power.emberLogged then s else s.log 0x0103 noSource).flushAsh 64).saveOpTime).bump 32 Key.powerEMBEREntries

theorem emberSaved_counts : s.emberSaved.get Key.powerEMBEREntries = satSucc 32 (s.nat Key.powerEMBEREntries)
    ∧ s.emberSaved.clock.opFram = s.clock.op := by
  unfold State.emberSaved
  have logged : ∀ m : State, m.get Key.powerEMBEREntries = s.get Key.powerEMBEREntries → m.clock = s.clock →
      (((m.flushAsh 64).saveOpTime).bump 32 Key.powerEMBEREntries).get Key.powerEMBEREntries = satSucc 32 (s.nat Key.powerEMBEREntries)
      ∧ (((m.flushAsh 64).saveOpTime).bump 32 Key.powerEMBEREntries).clock.opFram = s.clock.op := by
    intro m entries clock
    have flushed := (WritesLog.refl m).flushAsh 64
    generalize m.flushAsh 64 = w at flushed ⊢
    have kept : w.saveOpTime.nat Key.powerEMBEREntries = s.nat Key.powerEMBEREntries := nat_of ((flushed.values _ (by decide)).trans entries)
    refine ⟨?_, congrArg Clock.op (flushed.clock.trans clock)⟩
    rw [State.get_bump, if_pos rfl, kept]
    rfl
  split
  · exact logged s rfl rfl
  · exact logged _ (get_log _ _ _ _ _ _ _ (by decide)) (log_clock _ _ _ _ _ _)

/-- The sleep states in terms of what the stopped PLL leaves. -/
theorem sleepEmber_of {d k : State} (hd : s.emberSaved.powerDown = d)
    (hk : d.setCore 0 (fun k => { k with retention := [], record := some s.retentionRecord }) = k) :
    s.sleepEmber = { k with
      power := { k.power with phase := .asleep .ember, state := .ember, emberLogged := true, retention := some s.retentionRecord } } := by
  subst hk hd
  unfold State.sleepEmber State.emberSaved
  rfl
theorem sleepBanked_of {d : State} (h : s.saveOpTime.powerDown = d) :
    s.sleepBanked = { d with power := { d.power with phase := .asleep .banked, state := .banked } } := by
  subst h
  rfl

/-- EMBER: asleep with the record that a warm boot needs, the entry counted, the time saved (R72, R77). -/
theorem sleepEmber_ends : s.sleepEmber.power.phase = .asleep .ember ∧ s.sleepEmber.power.state = .ember
    ∧ s.sleepEmber.power.retention = some s.retentionRecord
    ∧ s.sleepEmber.nat Key.powerEMBEREntries = satSucc 32 (s.nat Key.powerEMBEREntries) ∧ s.sleepEmber.clock.opFram = s.clock.op := by
  obtain ⟨run, kept, -⟩ := powerDown_leaves s.emberSaved
  obtain ⟨counted, saved⟩ := emberSaved_counts s
  have entries := kept.trans counted
  have time := run.opFram.trans saved
  generalize hd : s.emberSaved.powerDown = d at entries time
  rw [sleepEmber_of s hd rfl]
  exact ⟨rfl, rfl, rfl, congrArg Int.toNat entries, time⟩

/-- BANKED: asleep with the front end not ready, the time saved (R72, R75). -/
theorem sleepBanked_ends : s.sleepBanked.power.phase = .asleep .banked ∧ s.sleepBanked.power.state = .banked
    ∧ s.sleepBanked.front.ready = false ∧ s.sleepBanked.clock.opFram = s.clock.op := by
  obtain ⟨run, -, ready⟩ := powerDown_leaves s.saveOpTime
  have time := run.opFram
  generalize hd : s.saveOpTime.powerDown = d at ready time
  rw [sleepBanked_of s hd]
  exact ⟨rfl, rfl, ready, time⟩

/-- Settles O27: an entry that no longer stands takes `abandonEntry_ends`; one that stands sleeps, and what stops with the PLL
(`powerDown_leaves`) leaves the saved time, the count and the front end that is not ready. -/
theorem sleepEntryCommits : Obligations.SleepEntryCommits := by
  intro s notice
  have commits : ∀ q, s.power.phase = .entering q → execSleepEntryCommit s = .next
      (if s.entryHolds q = false then s.abandonEntry 0 else if q = .ember then s.sleepEmber else if q = .banked then s.sleepBanked else s) := by
    intro q hq
    unfold execSleepEntryCommit
    simp only [hq, notice]
    rfl
  refine ⟨fun q hq fails => ⟨_, commits q hq, ?_⟩, fun hq holds => ⟨_, commits _ hq, ?_⟩, fun hq holds => ⟨_, commits _ hq, ?_⟩⟩
  · rw [if_pos fails]
    exact abandonEntry_ends s q 0 hq
  · rw [if_neg (by rw [holds]; decide), if_pos rfl]
    exact sleepEmber_ends s
  · rw [if_neg (by rw [holds]; decide), if_neg (by decide), if_pos rfl]
    exact sleepBanked_ends s

end

end Sys2Proof.Machine
end

section
/-! SUPPORT. The start goes on (R91-R107): the operations that a start runs leave its clock, its kind, the shared SRAM and the phase alone
(`SameRun`). Channels, drives, current outputs, actuators, loops, Kelsis, programs. -/

namespace Sys2Proof.Machine

open Sys2Proof

section
variable {s m : State}

theorem SameRun.units {t : State} (h : SameRun s m) (g : SameUnits m t) : SameRun s t := h.trans g.run

/-! ### Values and choices -/

theorem SameRun.putBase (h : SameRun s m) (k : Nat) (v : Int) : SameRun s (m.putBase k v) := h
theorem SameRun.assign (h : SameRun s m) (k : Nat) (v : Int) : SameRun s (m.assign k v) := .ite ((h.put k v).putBase k v) (h.put k v)
theorem SameRun.freeNat (h : SameRun s m) : SameRun s m.freeNat.2 := h
theorem SameRun.freeRound (h : SameRun s m) (n : Int) (d : Nat) : SameRun s (m.freeRound n d).2 := by
  unfold State.freeRound
  dsimp only
  split
  · exact h
  · exact h

/-! ### Blanking, drives and current outputs (R190, R404-R416, R428-R434) -/

theorem SameRun.blankRelease (h : SameRun s m) (src : Nat) : SameRun s (m.blankRelease src) := h.units ((SameUnits.refl m).blankRelease src)
theorem SameRun.blankJudge (h : SameRun s m) (i : Fin 2) (t : Nat) : SameRun s (m.blankJudge i t) :=
  .ite (h.units ((SameUnits.refl m).blankAssert i.val t)) (h.blankRelease i.val)
theorem SameRun.serveDrive (h : SameRun s m) (d : Fin 16) : SameRun s (m.serveDrive d) := h.units ((SameUnits.refl m).serveDrive d)
theorem SameRun.serveDrives (h : SameRun s m) : SameRun s m.serveDrives := h.units (SameUnits.refl m).serveDrives

theorem SameRun.setOutput (h : SameRun s m) (k : Fin 8) (f : OutputUnit → OutputUnit) : SameRun s (m.setOutput k f) := h
theorem SameRun.outputCleared (h : SameRun s m) (k : Nat) : SameRun s (m.outputCleared k) := .ite ((h.putBit _ _ _).putBit _ _ _) h
theorem SameRun.serveOutput (h : SameRun s m) (k : Fin 8) : SameRun s (m.serveOutput k) := by
  unfold State.serveOutput
  extract_lets now held r clamped forced shown pinned
  have hf : SameRun s forced := .ite ((h.setOutput k _).bump _ _) (h.setOutput k _)
  have hp : SameRun s pinned := (((hf.putN _ _).putW _ _).putBit _ _ _).setOutput k _
  exact hp.outputCleared k
theorem SameRun.serveOutputs (h : SameRun s m) : SameRun s m.serveOutputs := .foldl _ _ h fun _ k g => g.serveOutput k

/-! ### Channels (R148-R165) -/

theorem SameRun.setChannel (h : SameRun s m) (n : Fin 64) (f : Channel → Channel) : SameRun s (m.setChannel n f) := h
theorem SameRun.serveCore (h : SameRun s m) (v : Fin 8) : SameRun s (m.serveCore v) := h.units ((SameUnits.refl m).serveCore v)
theorem SameRun.serveCores (h : SameRun s m) : SameRun s m.serveCores := h.units (SameUnits.refl m).serveCores

theorem SameRun.setChanState (h : SameRun s m) (n st : Nat) : SameRun s (m.setChanState n st) := .ite h ((h.putN _ _).raiseSource _)
theorem SameRun.channelConsumers (h : SameRun s m) (n : Nat) : SameRun s (m.channelConsumers n) := by
  unfold State.channelConsumers
  refine .foldl _ _ (.foldl _ _ h fun m d g => ?_) fun m k g => ?_
  · exact .ite ((g.units ((SameUnits.refl m).evalTable d _)).serveDrive d) g
  · exact .ite (g.serveOutput k) g

theorem SameRun.channelConfigured (h : SameRun s m) (n : Fin 64) : SameRun s (m.channelConfigured n) := by
  unfold State.channelConfigured
  refine .ite (.ite (h.setChannel n _) ?_) (.ite ?_ (.ite h ((h.setChannel n _).serveCore _)))
  · refine .channelConsumers (.setChanState (.zero (.foldl _ _ (h.setChannel n _) fun m v g => ?_) _) _ _) _
    split
    · exact .ite g g
    · exact g
  · exact (((((((h.setChannel n _).putN _ _).putN _ _).putN _ _).putN _ _).setChanState _ _).channelConsumers _).serveCore _

/-! ### Actuators (R372-R402) -/

theorem SameRun.setAct (h : SameRun s m) (a : Fin 20) (f : ActUnit → ActUnit) : SameRun s (m.setAct a f) := h
theorem SameRun.raiseAct (h : SameRun s m) (a : Fin 20) : SameRun s (m.raiseAct a) := h.raiseSource _
theorem SameRun.actOpen (h : SameRun s m) (a : Fin 20) : SameRun s (m.actOpen a) := (h.setAct a _).units (sameUnits_actOpen m a)
theorem SameRun.actOff (h : SameRun s m) (a : Fin 20) : SameRun s (m.actOff a) := (h.actOpen a).putN _ _
theorem SameRun.actRefuse (h : SameRun s m) (a : Fin 20) (reason : Nat) : SameRun s (m.actRefuse a reason) :=
  (h.setAct a _).units (sameUnits_actRefuse m a reason)
theorem SameRun.propBlock (h : SameRun s m) (a : Fin 20) : SameRun s (m.propBlock a) := h.setAct a _
theorem SameRun.overlapRefuse (h : SameRun s m) (a : Fin 20) : SameRun s (m.overlapRefuse a) :=
  ((((h.freeRound _ _).log _ _ _ _ _).actRefuse a 10).bump _ _).raiseSource _
theorem SameRun.actTake (h : SameRun s m) (a : Fin 20) : SameRun s (m.actTake a) := h.setAct a _
theorem SameRun.actOverlap (h : SameRun s m) (a : Fin 20) : SameRun s (m.actOverlap a) := .ite (h.actTake a) (.ite (h.setAct a _) (h.overlapRefuse a))
theorem SameRun.actRequest (h : SameRun s m) (a : Fin 20) (pulse safe : Bool) : SameRun s (m.actRequest a pulse safe) := by
  refine .ite h (.ite (.ite (h.setAct a _) h) (.ite h ?_))
  split
  · exact h.actRefuse a _
  · exact (h.setAct a _).actOverlap a
theorem SameRun.startDeferred (h : SameRun s m) (a : Fin 20) : SameRun s (m.startDeferred a) := .ite (((h.freeNat.actTake a).putN _ _).bump _ _) h
theorem SameRun.serveProp (h : SameRun s m) (a : Fin 20) : SameRun s (m.serveProp a) := by
  have taken := fun f => h.setAct a f
  refine .ite h (.ite (.setAct (.ite ((taken _).actOpen a) (taken _)) a _) (.ite ((taken _).setAct a _) ?_))
  split
  · exact ((taken _).setAct a _).actRefuse a _
  · exact (((taken _).setAct a _).bump _ _).raiseAct a
theorem SameRun.claimChanged (h : SameRun s m) (a : Fin 20) : SameRun s (m.claimChanged a) := .ite h ((h.startDeferred _).serveProp _)
theorem SameRun.actSafe (h : SameRun s m) (a : Fin 20) : SameRun s (m.actSafe a) :=
  .ite (.ite (.ite (h.setAct a _) (h.actRequest a false true)) ((h.actOff a).claimChanged a)) ((h.serveProp a).claimChanged a)
theorem SameRun.actsOff (h : SameRun s m) : SameRun s m.actsOff := .foldl _ _ h fun _ a g => g.actOff a
theorem SameRun.actsSafe (h : SameRun s m) : SameRun s m.actsSafe := .foldl _ _ h fun _ a g => g.actSafe a
theorem SameRun.dutyRestart (h : SameRun s m) : SameRun s m.dutyRestart := .foldl _ _ h fun _ a g => g.setAct a _
theorem SameRun.actBankOff (h : SameRun s m) (bank : Nat) : SameRun s (m.actBankOff bank) :=
  .foldl _ _ h fun _ a g => .ite (.ite (g.actRefuse a 3) ((g.actOff a).propBlock a)) g
theorem SameRun.serveProps (h : SameRun s m) : SameRun s m.serveProps := .foldl _ _ h fun _ a g => (g.serveProp a).claimChanged a
theorem SameRun.serveAllOutputs (h : SameRun s m) : SameRun s m.serveAllOutputs := h.serveProps.serveDrives.serveOutputs

/-! ### Loops and learners (R219-R260) -/

theorem SameRun.setLoop (h : SameRun s m) (l : Fin 64) (f : LoopUnit → LoopUnit) : SameRun s (m.setLoop l f) := h
theorem SameRun.clearRegion (h : SameRun s m) (l : Nat) : SameRun s (m.clearRegion l) := h
theorem SameRun.learnerConfigured (h : SameRun s m) (l : Fin 64) : SameRun s (m.learnerConfigured l) :=
  .setLoop (.ite (h.clearRegion l) (h.putN _ _)) l _
theorem SameRun.loopOff (h : SameRun s m) (l : Fin 64) : SameRun s (m.loopOff l) := by
  unfold State.loopOff
  extract_lets was left commanded counted shown
  have hm : SameRun s commanded := (((h.setLoop l _).putN _ _).putN _ _).putN _ _
  have hc : SameRun s counted := .zero (hm.putN _ _) _
  clear_value counted
  exact .ite (hc.putN _ _) ((hc.putN _ _).raiseSource _)
theorem SameRun.loopsOff (h : SameRun s m) : SameRun s m.loopsOff := .foldl _ _ h fun _ l g => g.loopOff l
theorem SameRun.loopConfigured (h : SameRun s m) (l : Fin 64) : SameRun s (m.loopConfigured l) := by
  refine .ite (.ite h (h.loopOff l)) (.ite (.putN (.zero ?_ _) _ _) h)
  split
  · exact .ite ((h.setLoop l _).setLoop _ _) (h.setLoop l _)
  · exact h.setLoop l _
theorem SameRun.loopsToManual (h : SameRun s m) : SameRun s m.loopsToManual := .foldl _ _ h fun _ l g => .ite ((g.putN _ _).setLoop l _) g
theorem SameRun.loopsToRun (h : SameRun s m) : SameRun s m.loopsToRun := .foldl _ _ h fun _ l g => .ite (g.setLoop l _) g

/-! ### Kelsis and the predictors (R282-R345) -/

theorem SameRun.setColumn (h : SameRun s m) (c : Fin 4) (f : KColumn → KColumn) : SameRun s (m.setColumn c f) := h
theorem SameRun.setPredictor (h : SameRun s m) (c : Fin 4) (f : KPredictor → KPredictor) : SameRun s (m.setPredictor c f) := h
theorem SameRun.setGrain (h : SameRun s m) (g : Fin 16) (f : KGrain → KGrain) : SameRun s (m.setGrain g f) := h
theorem SameRun.showBuilder (h : SameRun s m) : SameRun s m.showBuilder := (h.putN _ _).putN _ _
theorem SameRun.triggerBuild (h : SameRun s m) (g : Fin 16) : SameRun s (m.triggerBuild g) := .ite h (.ite (h.setGrain g _).showBuilder h)
theorem SameRun.columnConfigured (h : SameRun s m) (c : Fin 4) : SameRun s (m.columnConfigured c) := .ite h ((h.setColumn c _).putN _ _)
theorem SameRun.kelsisHalt (h : SameRun s m) : SameRun s m.kelsisHalt :=
  .foldl _ _ (.foldl _ _ h fun _ c g => g.setColumn c _) fun _ c g => g.setPredictor c _
theorem SameRun.predictorConfigured (h : SameRun s m) (c : Fin 4) : SameRun s (m.predictorConfigured c) :=
  .ite (.ite ((h.putN _ _).setPredictor c _) h) (.ite h (((h.putN _ _).putN _ _).setPredictor c _))
theorem SameRun.predictorsStart (h : SameRun s m) : SameRun s m.predictorsStart :=
  .foldl _ _ h fun _ c g => .ite ((g.putN _ _).setPredictor c _) g
theorem SameRun.predictorsStop (h : SameRun s m) : SameRun s m.predictorsStop := .foldl _ _ h fun _ c g => g.setPredictor c _

/-! ### Programs and the process state (R108, R457-R463) -/

theorem SameRun.setCore (h : SameRun s m) (c : Fin 4) (f : Core → Core) : SameRun s (m.setCore c f) := h
theorem SameRun.enterProgram (h : SameRun s m) (c : Fin 4) (i : ProgramImage) : SameRun s (m.enterProgram c i) :=
  (((h.setCore c _).putN _ _).putN _ _).putN _ _
theorem SameRun.programStart (h : SameRun s m) (c : Fin 4) (intact : Bool) : SameRun s (m.programStart c intact) := by
  refine .ite h ?_
  split
  · exact h
  · rename_i i _
    have marked : SameRun s { m with images := m.images.set! (c.val - 1) (some { i with damaged := true }) } := h
    exact .ite (h.enterProgram c i) ((marked.putN _ _).log _ _ _ _ _)
theorem SameRun.programStop (h : SameRun s m) (c : Fin 4) : SameRun s (m.programStop c) := .ite (((h.setCore c _).setCore c _).putN _ _) h
theorem SameRun.programsStop (h : SameRun s m) : SameRun s m.programsStop := .foldl _ _ h fun _ c g => g.programStop c
theorem SameRun.programsToStopped (h : SameRun s m) : SameRun s m.programsToStopped := .foldl _ _ h fun _ c g => .ite g (g.programStop c)
theorem SameRun.programsAutostart (h : SameRun s m) : SameRun s m.programsAutostart := .foldl _ _ h fun _ c g => .ite (g.programStart c true) g
theorem SameRun.programsArm (h : SameRun s m) : SameRun s m.programsArm := .foldl _ _ h fun _ c g => .ite g (g.programStart c true)

theorem SameRun.watchdogRestart (h : SameRun s m) : SameRun s m.watchdogRestart := .ite h h
theorem SameRun.watchdogStop (h : SameRun s m) : SameRun s m.watchdogStop := h
theorem SameRun.enterArmed (h : SameRun s m) : SameRun s m.enterArmed := by
  have armed := (h.putN Key.procProcessState psArmed).predictorsStop.loopsToManual.dutyRestart.watchdogRestart
  exact SameRun.serveAllOutputs (.ite armed.programsArm armed)
theorem SameRun.enterRunning (h : SameRun s m) : SameRun s m.enterRunning := (h.putN _ _).loopsToRun.predictorsStart.serveAllOutputs
theorem SameRun.enterStopped (h : SameRun s m) : SameRun s m.enterStopped :=
  (h.putN _ _).predictorsStop.kelsisHalt.loopsOff.actsOff.watchdogStop.programsToStopped.serveAllOutputs
theorem SameRun.enterFault (h : SameRun s m) (cause : Nat) : SameRun s (m.enterFault cause) := by
  have marked : SameRun s { m with startup := { m.startup with faultEvents := [cause] }, dict := { m.dict with pending := none } } := h
  have commands := SameRun.foldl (fun s l => s.putN (Key.loopModeCommand l) 0xFF) (List.range 64)
    (((marked.putN Key.procFaultCause cause).putN Key.procProcessState psFault).putN Key.modeSwitchStatus 0) fun _ _ g => g.putN _ _
  exact .ite h commands.actsSafe.serveDrives.serveOutputs

end

end Sys2Proof.Machine
end

section
/-! SUPPORT. The start goes on (R91-R107): log, CAN, Flue, configuration and thermal readings leave its clock, its kind, the shared SRAM and
the phase alone (`SameRun`). -/

namespace Sys2Proof.Machine

open Sys2Proof

section
variable {s m : State}

/-! ### The CANopen node and the log's media (R110, R484, R512, R584-R594) -/

theorem SameRun.setCan (h : SameRun s m) (b : Fin 2) (f : CanPort → CanPort) : SameRun s (m.setCan b f) := h
theorem SameRun.sendOwn (h : SameRun s m) (cob : Nat) (bs : List Byte) : SameRun s (m.sendOwn cob bs) := .ite h (h.setCan 0 _)
theorem SameRun.emcyQueue (h : SameRun s m) (code more : Nat) (tail : List Byte) : SameRun s (m.emcyQueue code more tail) := by
  have sent := h.sendOwn (m.cobOf Key.emcycobCOBID 0x80) (leBytes 2 code ++ leBytes 1 m.errorRegister ++ tail)
  exact .ite sent (((SameRun.foldl _ _ sent fun _ _ g => g.put _ _).putN _ _).putN _ _)
theorem SameRun.emcySend (h : SameRun s m) (code more : Nat) (tail : List Byte) : SameRun s (m.emcySend code more tail) :=
  .ite h (.ite h (.ite (h.emcyQueue _ _ _) (h.emcyQueue code more tail)))
theorem SameRun.emcyRecord (h : SameRun s m) (r : AshRecord) : SameRun s (m.emcyRecord r) := .ite (h.emcySend _ _ _) h
theorem SameRun.nmtBootUp (h : SameRun s m) : SameRun s m.nmtBootUp := by
  have booted : SameRun s { m with canopen := { Canopen.reset with nmt := 127 } } := h
  exact booted.sendOwn _ _
theorem SameRun.canStart (h : SameRun s m) (b : Fin 2) : SameRun s (m.canStart b) := by
  unfold State.canStart
  extract_lets on state
  have hs : SameRun s state := .putN (.zero h _) _ _
  clear_value state
  exact .ite (.ite hs.nmtBootUp hs) hs

theorem SameRun.setAsh (h : SameRun s m) (f : Ash → Ash) : SameRun s (m.setAsh f) := h
theorem SameRun.framWrote (h : SameRun s m) (a n : Nat) : SameRun s (m.framWrote a n) := h
theorem SameRun.unitWrote (h : SameRun s m) : SameRun s m.unitWrote := h
theorem SameRun.copiesWritten (h : SameRun s m) : SameRun s m.copiesWritten := h
theorem SameRun.writeHeader (h : SameRun s m) (f : Ash → Ash) : SameRun s (m.writeHeader f) := (h.setAsh f).framWrote _ _
theorem SameRun.bankWritten (h : SameRun s m) : SameRun s m.bankWritten := .ite h h
theorem SameRun.reserveRecord (h : SameRun s m) (e : AshEvent) : SameRun s (m.reserveRecord e) :=
  .ite (((h.bankWritten.setAsh _).emcyRecord _).putN _ _) (h.putBit _ _ _)
theorem SameRun.sendFlue (h : SameRun s m) (dst : Nat) (b : FlueBody) : SameRun s (m.sendFlue dst b) := h.units ((SameUnits.refl m).sendFlue dst b)
theorem SameRun.mediaFail (h : SameRun s m) (why addr : Nat) : SameRun s (m.mediaFail why addr) := by
  unfold State.mediaFail
  extract_lets lost failed counted event reserved
  have hc : SameRun s counted := (((h.setAsh _).putBit _ _ _).raiseSource _).putN _ _
  have hr : SameRun s reserved := hc.reserveRecord event
  exact .ite (hr.sendFlue _ _) hr
theorem SameRun.ashStart (h : SameRun s m) (header : Fin 3) : SameRun s (m.ashStart header) := by
  unfold State.ashStart
  extract_lets found flagged counted
  have hf : SameRun s found := (h.setAsh _).zero _
  clear_value found
  have hc : SameRun s counted := ((hf.putBit _ _ _).putB _ _).putN _ _
  exact .ite (hc.mediaFail _ _) (.ite (((hc.writeHeader _).zero _).log _ _ _ _ _) hc)
theorem SameRun.recordCause (h : SameRun s m) (cause : Nat) : SameRun s (m.recordCause cause) := by
  have recorded : SameRun s { m.unitWrote with startup := { m.startup with cause := some cause } } := h
  exact .ite (recorded.putN _ _) h

/-! ### The Flue node (R523-R537) -/

theorem SameRun.adoptAddress (h : SameRun s m) (a : Nat) : SameRun s (m.adoptAddress a) := by
  unfold State.adoptAddress
  extract_lets g old stored seated kept grouped shown
  have hd : SameRun s stored := (((h.putN _ _).putN _ _).putN _ _).putN _ _
  have hk : SameRun s kept := (hd.putN _ _).units ((SameUnits.refl _).setFlue _)
  clear_value kept
  have hg : SameRun s grouped := .ite hk hk
  have hs : SameRun s shown := hg.units (SameUnits.refl _).showGroup
  exact .ite hs (hs.raiseSource _)
theorem SameRun.grandmasterCheck (h : SameRun s m) : SameRun s m.grandmasterCheck := h.units (SameUnits.refl m).grandmasterCheck
theorem SameRun.flueFresh (h : SameRun s m) : SameRun s m.flueFresh := by
  unfold State.flueFresh
  extract_lets key flue keyed cleared a adopted
  have hk : SameRun s keyed := h
  have hc : SameRun s cleared := .foldl _ _ (hk.units ((SameUnits.refl _).setSync 0)) fun _ p g => g.zero _
  clear_value cleared
  have ha : SameRun s adopted := hc.adoptAddress a
  clear_value adopted
  refine .ite (.ite (.grandmasterCheck (.units ?_ ((SameUnits.refl _).setFlue _)))
    (.grandmasterCheck (ha.units ((SameUnits.refl _).setFlue _)))) (.zero hc _)
  exact .zero ((hc.putN _ _).putN _ _) _
theorem SameRun.flueStart (h : SameRun s m) : SameRun s m.flueStart := by
  have fresh := h.flueFresh
  unfold State.flueStart
  generalize m.flueFresh = t at fresh ⊢
  exact .ite fresh (fresh.raiseSource _)

/-! ### Thermal readings (R601-R618) -/

theorem SameRun.setSensor (h : SameRun s m) (i : Fin 6) (f : ThermalSensor → ThermalSensor) : SameRun s (m.setSensor i f) := h
theorem SameRun.raiseThermal (i n : Nat) (h : SameRun s m) : SameRun s (m.raiseThermal i n) := by
  induction n generalizing m with
  | zero => exact h
  | succ n ih => exact ih (h.raiseSource _)
theorem SameRun.throttle (h : SameRun s m) (g : Nat) (i : Fin 6) (r : Word) : SameRun s (m.throttle g i r) :=
  .ite h ((h.putBit _ _ _).log _ _ _ _ _).serveProps
theorem SameRun.release (h : SameRun s m) (g : Nat) (i : Fin 6) (r : Word) : SameRun s (m.release g i r) :=
  .ite ((h.putBit _ _ _).log _ _ _ _ _).serveProps h
theorem SameRun.disableBank (h : SameRun s m) (bank : Nat) : SameRun s (m.disableBank bank) :=
  .ite h (((h.putBit _ _ _).actBankOff _).log _ _ _ _ _)
theorem SameRun.answer (h : SameRun s m) (p : Path) (a : Answer) : SameRun s (m.answer p a) := h
theorem SameRun.refuse (h : SameRun s m) (p : Path) (r : Refused) : SameRun s (m.refuse p r) := (h.putN _ _).answer p _
theorem SameRun.firmwareAbandon (h : SameRun s m) : SameRun s m.firmwareAbandon := .foldl _ _ h fun _ w g => g.refuse w.path _
theorem SameRun.thermalShutdown (h : SameRun s m) (w : Nat) (r : Word) : SameRun s (m.thermalShutdown w r) := by
  unfold State.thermalShutdown
  split
  · exact h
  · extract_lets entry off unit thermal recorded counted closed shut logged
    have ho : SameRun s off := (h.putBit _ _ _).actsOff.kelsisHalt.loopsOff.programsStop.firmwareAbandon
    clear_value off
    have hc : SameRun s counted := ((SameRun.putN (m := recorded) ho _ _).putW _ _).bump _ _
    have hl : SameRun s logged := SameRun.log (m := shut) hc _ _ _ _ _
    exact SameRun.serveOutputs (.serveDrives (.ite hl (hl.enterFault _)))
theorem SameRun.breakSensor (h : SameRun s m) (i : Fin 6) (why : Nat) (r : Word) : SameRun s (m.breakSensor i why r) := by
  have broken := (((h.putBit Key.thermalStatus (8 + i.val) true).setSensor i (fun q => { q with good := 0 })).log 0x0204 i.val 0 why
    r.toNat).raiseSource (234 + i.val)
  exact .ite (.ite ((broken.throttle 0 i r).thermalShutdown _ r) (broken.throttle 0 i r)) (broken.disableBank _)
theorem SameRun.judgeReading (h : SameRun s m) (i : Fin 6) (r : Word) : SameRun s (m.judgeReading i r) := by
  unfold State.judgeReading
  extract_lets raised warned known g disabled
  have hr : SameRun s raised := .raiseThermal _ _ h
  have hw : SameRun s warned := .ite (.ite (hr.putBit _ _ _) (.ite (hr.putBit _ _ _) hr)) hr
  have hk : SameRun s known := hw.setSensor i _
  have hd : SameRun s disabled := hk.disableBank g
  exact .ite (.ite (hk.thermalShutdown _ r) (.ite (hd.thermalShutdown _ r) hd)) (.ite (hk.throttle g i r) (hk.release g i r))
theorem SameRun.judgeSensor (h : SameRun s m) (i : Fin 6) (r : ThermalReading) : SameRun s (m.judgeSensor i r) :=
  .ite (.ite ((h.setSensor i _).putBit _ _ _) (h.setSensor i _))
    (.ite (h.breakSensor i 1 _) (.ite (h.breakSensor i 2 _) (.ite (h.breakSensor i 3 _) (h.judgeReading i _))))
theorem SameRun.startThermal (h : SameRun s m) (e : StartEnv) : SameRun s (m.startThermal e) :=
  .foldl _ _ h fun _ i g => (g.judgeSensor i _).setSensor i _

/-! ### What a start reads and counts (R92-R105) -/

theorem SameRun.supplyBit (h : SameRun s m) (n : Nat) (b : Bool) : SameRun s (m.supplyBit n b) := h.putBit _ _ _
theorem SameRun.cellCheck (h : SameRun s m) (mv : Nat) : SameRun s (m.cellCheck mv) :=
  .ite (((h.putN _ _).supplyBit _ _).log _ _ _ _ _) ((h.putN _ _).supplyBit _ _)
theorem SameRun.shiftCauses (h : SameRun s m) : SameRun s m.shiftCauses := .ite ((((h.recordCause 1).putN _ _).putN _ _).putN _ _) h
theorem SameRun.checkBank (h : SameRun s m) (e : StartEnv) (b : Nat) : SameRun s (m.checkBank e b).2 := h
theorem SameRun.verifyBanks (h : SameRun s m) (e : StartEnv) : SameRun s (m.verifyBanks e).2 := by
  unfold State.verifyBanks
  dsimp only
  split
  · exact h
  · split
    · exact h
    · exact h
theorem SameRun.bankChosen (h : SameRun s m) (b : Nat) : SameRun s (m.bankChosen b) := h
theorem SameRun.bothCopies (h : SameRun s m) (c : FramCopy) : SameRun s (m.bothCopies c) := h
theorem SameRun.chooseCopy (h : SameRun s m) (e : StartEnv) : SameRun s (m.chooseCopy e).2 := by
  have repaired := fun c => (h.bothCopies c).log 0x0B04 noSource 0 0 0
  have noted := h.log 0x0A02 noSource 0 0 0
  unfold State.chooseCopy
  extract_lets a b fa fb equal newer
  split
  · split
    · exact h
    · exact repaired _
  · exact .ite noted (repaired _)
  · exact .ite noted (repaired _)
  · exact h
theorem SameRun.startReadings (h : SameRun s m) (e : StartEnv) : SameRun s (m.startReadings e) := .foldl _ _ h fun _ _ g => g
theorem SameRun.startReferences (h : SameRun s m) (e : StartEnv) : SameRun s (m.startReferences e) := .foldl _ _ h fun _ _ g => g.put _ _
theorem SameRun.hostKept (h : SameRun s m) (r : Retention) : SameRun s (m.hostKept r) := .ite h h

/-! ### The configuration and the modes (R99, R560-R580) -/

theorem SameRun.installCopy (h : SameRun s m) (c : FramCopy) : SameRun s (m.installCopy c) := h
theorem SameRun.loadCheckValues (h : SameRun s m) : SameRun s m.loadCheckValues := (h.putN _ _).putN _ _
theorem SameRun.saveMode (h : SameRun s m) (n : Nat) : SameRun s (m.saveMode n) := h
theorem SameRun.layOverlay (h : SameRun s m) (new : List (Nat × Int)) : SameRun s (m.layOverlay new) := by
  have laid := SameRun.foldl (fun s k => s.put k (overlayView m.baseGet new k)) ((m.dict.active ++ new).map (fun e => e.1)) h fun _ _ g => g.put _ _
  exact laid
theorem SameRun.installMode (h : SameRun s m) (n : Nat) : SameRun s (m.installMode n) := by
  refine .ite h ?_
  split
  · exact (h.saveMode 0).log _ _ _ _ _
  · exact (h.layOverlay _).putN _ _
theorem SameRun.takeChannels (h : SameRun s m) : SameRun s m.takeChannels :=
  ((SameRun.foldl _ _ h fun _ n g => g.channelConfigured n).blankJudge 0 _).blankJudge 1 _
theorem SameRun.takeConfig (h : SameRun s m) : SameRun s m.takeConfig := by
  unfold State.takeConfig
  extract_lets channels loops columns
  have hl : SameRun s loops := .foldl _ _ h.takeChannels fun _ l g => .ite ((g.loopConfigured l).learnerConfigured l) (g.loopConfigured l)
  have hc : SameRun s columns := .foldl _ _ hl fun _ c g => (g.columnConfigured c).predictorConfigured c
  exact .foldl _ _ hc fun _ c g => .ite (g.triggerBuild _) g
theorem SameRun.putBlock (h : SameRun s m) (k : Nat) (bs : List Byte) : SameRun s (m.putBlock k bs) := h
theorem SameRun.readFile (h : SameRun s m) : SameRun s m.readFile := (h.putN _ _).putBlock _ _
theorem SameRun.readSlots (h : SameRun s m) : SameRun s m.readSlots := by
  refine .foldl _ _ h fun m c g => ?_
  split
  · exact ((g.putN _ _).putN _ _).putN _ _
  · exact g

/-! ### Confirmation (R97, R100) -/

theorem SameRun.restoreMode (h : SameRun s m) (n : Nat) : SameRun s (m.restoreMode n) := .ite h (((h.layOverlay _).putN _ _).saveMode n)
theorem SameRun.stopIfArmed (h : SameRun s m) : SameRun s m.stopIfArmed := .ite h.enterStopped h
theorem SameRun.restoreProcess (h : SameRun s m) (q : Nat) : SameRun s (m.restoreProcess q) :=
  .ite h (.ite h.enterArmed (.ite (SameRun.ite h h.enterArmed).enterRunning
    (.ite (h.enterArmed.putN _ _).watchdogStop.actsSafe.serveDrives.serveOutputs h.stopIfArmed)))
theorem SameRun.restoreRecord (h : SameRun s m) (r : Retention) (agrees : Bool) : SameRun s (m.restoreRecord r agrees) :=
  .ite ((h.restoreMode _).restoreProcess _) h.stopIfArmed
theorem SameRun.bankRollback (h : SameRun s m) : SameRun s m.bankRollback := by
  unfold State.bankRollback
  extract_lets b f assigned dict rewritten
  have ha : SameRun s assigned := h.copiesWritten.assign _ _
  exact .ite h (SameRun.log (.putN (m := rewritten) ha _ _) _ _ _ _ _)
theorem SameRun.confirmStart (h : SameRun s m) : SameRun s m.confirmStart := by
  unfold State.confirmStart
  extract_lets warm unit confirmed counted caused settled
  have hc : SameRun s counted := h
  have hs : SameRun s settled := SameRun.bankRollback (.ite ((hc.putN _ _).bump _ _) ((hc.putN _ _).log _ _ _ _ _))
  clear_value settled
  refine .ite h ?_
  split
  · exact hs
  · refine SameRun.restoreRecord ?_ _ _
    exact hs
theorem SameRun.stoppedReached (h : SameRun s m) : SameRun s m.stoppedReached := by
  have reached : SameRun s { m with startup := { m.startup with stoppedOnce := true }, front := { m.front with scanning := true } } := h
  have started := reached.serveCores.programsAutostart
  exact .ite h (.ite started.confirmStart started)
theorem SameRun.firstStopped (h : SameRun s m) : SameRun s m.firstStopped := .ite h (h.putN _ _).stoppedReached

theorem SameRun.startHost (h : SameRun s m) : SameRun s m.startHost := by
  have lost : SameRun s { m with dict := { m.dict with policies := false } } := h
  exact .ite (lost.putN _ _) h
theorem SameRun.services (h : SameRun s m) (e : StartEnv) : SameRun s (m.services e) :=
  ((h.canStart 0).canStart 1).flueStart.startHost.startThermal e

end

end Sys2Proof.Machine
end

section
/-! SUPPORT. A start from reset to its end (R68, R71, R72, R91-R105): what it begins with, and how it goes on, behind
`Obligations.StartsAndWarmBoots`. -/

namespace Sys2Proof.Machine

open Sys2Proof

/-! ### How a start goes on (R91, R98, R104) -/

/-- The start runs to its end: times and SRAM stand, the kind stands or is Kindling mode, nothing further holds it, the module is awake. -/
structure Awakens (s t : State) : Prop where
  op      : t.clock.op = s.clock.op
  tick    : t.clock.tick = s.clock.tick
  sram    : t.sram = s.sram
  kind    : t.startup.kind = s.startup.kind ∨ t.startup.kind = 3
  halted  : t.startup.halted = s.startup.halted
  hotHold : t.startup.hotHold = s.startup.hotHold
  phase   : t.power.phase = .awake

/-- A failed self-test or a hot module holds the start where it is. -/
structure Stays (s t : State) : Prop where
  op    : t.clock.op = s.clock.op
  tick  : t.clock.tick = s.clock.tick
  sram  : t.sram = s.sram
  kind  : t.startup.kind = s.startup.kind
  held  : t.startup.halted = true ∨ t.startup.hotHold = true
  phase : s.power.phase = .inReset → t.power.phase = .inReset

section
variable {s m t : State}

theorem Awakens.of_run (h : SameRun s m) (g : Awakens m t) : Awakens s t :=
  ⟨g.op.trans h.op, g.tick.trans h.tick, g.sram.trans h.sram, g.kind.imp_left fun e => e.trans h.kind, g.halted.trans h.halted,
    g.hotHold.trans h.hotHold, g.phase⟩
theorem Awakens.run (h : Awakens s m) (g : SameRun m t) : Awakens s t :=
  ⟨g.op.trans h.op, g.tick.trans h.tick, g.sram.trans h.sram, by rw [g.kind]; exact h.kind, g.halted.trans h.halted,
    g.hotHold.trans h.hotHold, g.awake h.phase⟩
theorem Stays.of_run (h : SameRun s m) (g : Stays m t) : Stays s t :=
  ⟨g.op.trans h.op, g.tick.trans h.tick, g.sram.trans h.sram, g.kind.trans h.kind, g.held, fun hp => g.phase (h.inReset hp)⟩

end

section
variable (s : State) (e : StartEnv)

theorem awaken_awakens : Awakens s s.awaken := by
  have woken : Awakens s { s with power := { s.power with phase := .awake, state := .blaze } } :=
    ⟨rfl, rfl, rfl, .inl rfl, rfl, rfl, rfl⟩
  exact woken.run (.foldl _ _ (.refl _) fun _ c g => g.setCore c _)

/-- The start brings the configuration in and serves: the module is awake (R98, R99). -/
theorem loadAndServe_awakens : Awakens s (s.loadAndServe e) := by
  have chosen := ((SameRun.refl s).startReferences e).chooseCopy e
  unfold State.loadAndServe
  dsimp only
  split
  · have loaded := ((chosen.putBit Key.cfgConfigurationStatus 0 true).loadCheckValues.readFile).readSlots
    exact .of_run loaded ((awaken_awakens _).run ((SameRun.refl _).services e))
  · rename_i c _
    have loaded := ((((chosen.installCopy c).loadCheckValues.installMode c.mode).takeConfig).readFile).readSlots
    exact .of_run loaded ((awaken_awakens _).run ((SameRun.refl _).services e).firstStopped)

/-- The start ends in Kindling mode (R105): kind 3, awake. -/
theorem enterKindling_awakens : Awakens s (s.enterKindling e) := by
  unfold State.enterKindling
  extract_lets shown startup marked loaded running
  have hs : SameRun s shown := (((SameRun.refl s).log _ _ _ _ _).putN _ _).putN _ _
  have hl : SameRun marked loaded := by
    unfold loaded
    split
    · exact ((SameRun.refl marked).installCopy _).takeChannels
    · exact (SameRun.refl marked).putBit _ _ _
  have hr : Awakens marked running := .of_run hl ((awaken_awakens _).run ((SameRun.refl _).canStart 0).flueStart)
  clear_value loaded running
  have kind : running.startup.kind = 3 := hr.kind.elim id id
  exact ⟨hr.op.trans hs.op, hr.tick.trans hs.tick, hr.sram.trans hs.sram, .inr kind, hr.halted.trans hs.halted,
    hr.hotHold.trans hs.hotHold, hr.phase⟩

/-- A sensor at its shutdown level is not below its restart level (R104, R604). -/
theorem fle_restart_of_shutdown (i : Fin 6) (v : Word) (h : fle (levelShutdown i.val) v = true) : fle (thermalRestartLevel i.val) v = true := by
  have below : ∀ i : Fin 6, fkey (thermalRestartLevel i.val) ≤ fkey (levelShutdown i.val) := by decide
  unfold fle at h ⊢
  exact decide_eq_true ((below i).trans (of_decide_eq_true h))

theorem startsHot_of_cool (h : startCool e = true) : s.startsHot e = false := by
  unfold State.startsHot
  rw [h, Bool.not_true, Bool.and_false, Bool.or_false, List.any_eq_false]
  unfold startCool at h
  intro i _ hot
  have cool := (Bool.and_eq_true_iff.1 (List.all_eq_true.1 h i (List.mem_finRange i))).2
  rw [fle_restart_of_shutdown i _ (Bool.and_eq_true_iff.1 hot).2] at cool
  cases cool

/-- Past the bank check the start ends awake, or a failed self-test or a hot module holds it (R103, R104). -/
theorem testAndGo_goes : Awakens s (s.testAndGo e) ∨ Stays s (s.testAndGo e) := by
  unfold State.testAndGo
  extract_lets readings failed startup hot startup' thermal
  have read : SameRun s readings := (SameRun.refl s).startReadings e
  clear_value readings
  split
  · have hf : SameRun s failed := read.recordCause _
    exact .inr ⟨hf.op, hf.tick, hf.sram, hf.kind, .inl rfl, hf.inReset⟩
  · split
    · have hh : SameRun s hot := read.recordCause _
      exact .inr ⟨hh.op, hh.tick, hh.sram, hh.kind, .inr rfl, hh.inReset⟩
    · exact .inl (.of_run (m := { readings with thermal := { readings.thermal with shut := false } }) read (loadAndServe_awakens _ e))

/-- Nothing holds the start of a sound and cool module. -/
theorem testAndGo_awakens (self : e.selfTest = 0) (sound : referenceFails e = false) (cool : startCool e = true) :
    Awakens s (s.testAndGo e) := by
  unfold State.testAndGo
  extract_lets readings failed startup hot startup' thermal
  have read : SameRun s readings := (SameRun.refl s).startReadings e
  clear_value readings
  rw [if_neg (by simp [self, sound]), if_neg (by simp [startsHot_of_cool readings e cool])]
  exact .of_run (m := { readings with thermal := { readings.thermal with shut := false } }) read (loadAndServe_awakens _ e)

/-- The bank check goes on to the start from a bank, or into Kindling mode (R98, R105). -/
theorem verifyAndGo_cases (P : State → State → Prop) (run : ∀ s m t, SameRun s m → P m t → P s t)
    (kindling : ∀ m, P m (m.enterKindling e)) (go : ∀ m : State, P m (m.testAndGo e)) : P s (s.verifyAndGo e) := by
  have verified := (SameRun.refl s).verifyBanks e
  unfold State.verifyAndGo
  extract_lets bank
  split
  · exact run _ _ _ ((verified.log _ _ _ _ _).recordCause 3) (kindling _)
  · exact run _ _ _ (verified.bankChosen _) (go _)

theorem verifyAndGo_goes : Awakens s (s.verifyAndGo e) ∨ Stays s (s.verifyAndGo e) :=
  verifyAndGo_cases s e (fun s t => Awakens s t ∨ Stays s t) (fun _ _ _ h g => g.imp (.of_run h) (.of_run h))
    (fun m => .inl (enterKindling_awakens m e)) fun m => testAndGo_goes m e

theorem verifyAndGo_awakens (self : e.selfTest = 0) (sound : referenceFails e = false) (cool : startCool e = true) :
    Awakens s (s.verifyAndGo e) :=
  verifyAndGo_cases s e Awakens (fun _ _ _ => .of_run) (fun m => enterKindling_awakens m e)
    fun m => testAndGo_awakens m e self sound cool

end

/-! ### What a start begins with (R68, R71, R72, R94) -/

/-- A module held in reset at operating time `op`, for a start of kind `kind`: SRAM empty, tick count 0, nothing that halts it. -/
structure Begins (kind op : Nat) (t : State) : Prop where
  phase   : t.power.phase = .inReset
  sram    : t.sram = []
  tick    : t.clock.tick = 0
  op      : t.clock.op = op
  kind    : t.startup.kind = kind
  halted  : t.startup.halted = false
  hotHold : t.startup.hotHold = false

theorem Begins.run {k op : Nat} {m t : State} (h : Begins k op m) (g : SameRun m t) : Begins k op t :=
  ⟨g.inReset h.phase, g.sram.trans h.sram, g.tick.trans h.tick, g.op.trans h.op, g.kind.trans h.kind, g.halted.trans h.halted,
    g.hotHold.trans h.hotHold⟩

theorem afterReset_begins (s : State) : Begins s.startup.kind s.clock.op s.afterReset where
  phase := (inReset_afterReset s).phase
  sram := rfl
  tick := rfl
  op := (inReset_afterReset s).operating
  kind := by
    have kept : s.saveInterrupted.startup = s.startup := by unfold State.saveInterrupted; split <;> rfl
    show s.saveInterrupted.startup.kind = _
    rw [kept]
  halted := rfl
  hotHold := rfl

/-- The operating time of a start: it goes on while the module is held in reset, or comes from FRAM (R71, R72). -/
def State.startOp (s : State) (e : StartEnv) : Nat := if e.aonLost then s.clock.opFram else s.clock.op + e.held * unitsPerAon

theorem startTime_begins {k : Nat} (s : State) (e : StartEnv) (h : Begins k s.clock.op s) : Begins k (s.startOp e) (s.startTime e) := by
  unfold State.startTime State.startOp
  split
  · exact ⟨h.phase, h.sram, h.tick, rfl, h.kind, h.halted, h.hotHold⟩
  · exact ⟨h.phase, h.sram, h.tick, rfl, h.kind, h.halted, h.hotHold⟩

/-- The counters, records and checks of a start leave what it begins with (R92, R594). -/
theorem startCounts_begins {k : Nat} (s : State) (e : StartEnv) (kind : Nat) (h : Begins k s.clock.op s) :
    Begins kind (s.startOp e) (s.startCounts e kind) := by
  have timed : Begins k (s.startOp e) (s.startTime e) := startTime_begins s e h
  unfold State.startCounts
  generalize s.startTime e = timedState at timed
  extract_lets unconfirmed caused counted startup opened logged noted lostPower lossNoted stopPower stopNoted
  have hc : Begins k (s.startOp e) counted := timed.run (((((SameRun.refl _).shiftCauses.unitWrote).putN _ _).bump _ _).putN _ _)
  clear_value counted
  have ho : Begins kind (s.startOp e) opened := ⟨hc.phase, hc.sram, hc.tick, hc.op, rfl, hc.halted, hc.hotHold⟩
  clear_value opened
  have hn : SameRun opened noted := .ite (((SameRun.refl opened).ashStart _).log _ _ _ _ _) ((SameRun.refl opened).ashStart _)
  have hl : SameRun opened lossNoted := by
    unfold lossNoted
    split
    · exact SameRun.log (m := { noted with power := { noted.power with p1LostIn := none } }) hn _ _ _ _ _
    · exact hn
  have hs : SameRun opened stopNoted :=
    .ite (SameRun.log (m := { lossNoted with power := { lossNoted.power with crystalDue := false } }) hl _ _ _ _ _) hl
  exact ho.run (.cellCheck (.ite (hs.supplyBit 4 false) hs) _)

/-! ### The kinds of start -/

/-- What `Obligations.StartsAndWarmBoots` says of a start of `s` that has come to `t`. -/
structure Started (s : State) (e : StartEnv) (kind : Nat) (t : State) : Prop where
  op    : t.clock.op = s.startOp e
  tick  : t.clock.tick = 0
  sram  : t.sram = []
  kind  : t.startup.kind = kind ∨ t.startup.kind = 3
  phase : t.power.phase = (if t.startup.halted ∨ t.startup.hotHold then .inReset else .awake)
  cool  : e.selfTest = 0 → referenceFails e = false → startCool e = true → t.power.phase = .awake

section
variable {s m t : State} {e : StartEnv} {kind : Nat}

/-- A start that ends awake, and one that is held, from what it began with. -/
theorem Begins.awakens (h : Begins kind (s.startOp e) m) (g : Awakens m t) : Started s e kind t where
  op := g.op.trans h.op
  tick := g.tick.trans h.tick
  sram := g.sram.trans h.sram
  kind := by rw [← h.kind]; exact g.kind
  phase := by
    rw [g.halted, g.hotHold, h.halted, h.hotHold, g.phase]
    rfl
  cool _ _ _ := g.phase
theorem Begins.stays (h : Begins kind (s.startOp e) m) (g : Stays m t)
    (cool : e.selfTest = 0 → referenceFails e = false → startCool e = true → t.power.phase = .awake) : Started s e kind t where
  op := g.op.trans h.op
  tick := g.tick.trans h.tick
  sram := g.sram.trans h.sram
  kind := .inl (g.kind.trans h.kind)
  phase := by rw [if_pos g.held, g.phase h.phase]
  cool := cool

/-- What the state goes through after its start leaves the start's own facts. -/
theorem Started.run {t' : State} (h : Started s e kind t) (g : SameRun t t') : Started s e kind t' where
  op := g.op.trans h.op
  tick := g.tick.trans h.tick
  sram := g.sram.trans h.sram
  kind := by rw [g.kind]; exact h.kind
  phase := by
    have hp := h.phase
    rw [g.halted, g.hotHold]
    split at hp
    · rename_i held; rw [if_pos held]; exact g.inReset hp
    · rename_i free; rw [if_neg free]; exact g.awake hp
  cool self sound c := g.awake (h.cool self sound c)

/-- A start goes on, and nothing holds it where the module is sound and cool. -/
theorem Begins.started (h : Begins kind (s.startOp e) m) (g : Awakens m t ∨ Stays m t)
    (cool : e.selfTest = 0 → referenceFails e = false → startCool e = true → Awakens m t) : Started s e kind t :=
  g.elim h.awakens fun x => h.stays x fun self sound c => (cool self sound c).phase

/-- Kindling mode, or the start proper (R105). -/
theorem Begins.choose (h : Begins kind (s.startOp e) m) {p : Prop} [Decidable p] (g : Started s e kind t) :
    Started s e kind (if p then m.enterKindling e else t) := by
  split
  · exact h.awakens (enterKindling_awakens m e)
  · exact g
end

section
variable (s : State) (e : StartEnv)

/-- What a start begins with, from the reset it begins with or from what a warm boot puts back after it. -/
theorem startCounts_afterReset {m : State} (kind : Nat) (h : SameRun s.afterReset m) (hc : m.clock = s.afterReset.clock) :
    Begins kind (s.startOp e) (m.startCounts e kind) := by
  have reset := (afterReset_begins s).run h
  have time : m.startOp e = s.startOp e := by
    unfold State.startOp
    rw [hc, afterReset_opFram, (inReset_afterReset s).operating]
  rw [← time]
  refine startCounts_begins (k := s.startup.kind) m e kind ?_
  rw [hc, (inReset_afterReset s).operating]
  exact reset

theorem coldStart_started : Started s e (if s.startup.trial then 2 else 0) (s.coldStart e) := by
  unfold State.coldStart
  extract_lets kind restore counted power startup thermal begun
  have hb : Begins kind (s.startOp e) begun := by
    have h : Begins kind (s.startOp e) counted := startCounts_afterReset s e kind (.refl s.afterReset) rfl
    exact ⟨h.phase, h.sram, h.tick, h.op, h.kind, h.halted, h.hotHold⟩
  exact hb.choose (hb.started (verifyAndGo_goes _ e) (verifyAndGo_awakens _ e))

theorem warmBoot_started (r : Retention) : Started s e 1 (s.warmBoot e r) := by
  unfold State.warmBoot
  extract_lets reset power counted power' startup begun
  have hb : Begins 1 (s.startOp e) begun := by
    have h : Begins 1 (s.startOp e) counted := startCounts_afterReset s e 1 (.refl s.afterReset) rfl
    refine h.run (.hostKept ?_ r)
    exact .refl counted
  exact hb.choose ((hb.run (.bankChosen (.refl _) _)).started (testAndGo_goes _ e) (testAndGo_awakens _ e))

/-- The wake before a start leaves what the start begins with: clock and kind of start (R68). -/
theorem Started.of_wake {kind : Nat} {t : State} (bits : Nat) (h : Started (s.returnToBlaze bits) e kind t) : Started s e kind t where
  op := h.op.trans (by unfold State.startOp; rw [returnToBlaze_clock])
  tick := h.tick
  sram := h.sram
  kind := h.kind
  phase := h.phase
  cool := h.cool

/-- A wake from EMBER whose record holds is a warm boot (R68, R94). -/
theorem emberStart_started (bits : Nat) (r : Retention) (hr : s.power.retention = some r) (ok : e.recordOk = true) (ha : e.aonLost = false)
    (hb : s.power.bankModified = false) : Started s e 1 ((s.returnToBlaze bits).emberStart e) := by
  have warm : (s.returnToBlaze bits).emberStart e = (s.returnToBlaze bits).warmBoot e r := by
    unfold State.emberStart
    rw [returnToBlaze_power]
    dsimp only
    rw [hr]
    exact if_pos ⟨ok, ha, hb⟩
  rw [warm]
  exact .of_wake s e bits (warmBoot_started _ e r)
end

/-! ### The recheck of a hot start (R104) -/

section
variable (s : State) (e : StartEnv)

/-- The readings of a module still hot change neither the start nor the power manager. -/
theorem startReadings_keeps : (s.startReadings e).startup = s.startup ∧ (s.startReadings e).power = s.power
    ∧ (s.startReadings e).clock = s.clock := by
  unfold State.startReadings
  generalize List.finRange 6 = sensors
  induction sensors generalizing s with
  | nil => exact ⟨rfl, rfl, rfl⟩
  | cons i rest ih => exact ih _

theorem answers_hotStartRecheck_hot (held : s.startup.hotHold = true) (hot : startCool e = false) : Answers (.hotStartRecheck e) s fun t =>
    t.startup = s.startup ∧ t.power = s.power ∧ t.clock.op = s.clock.op + e.held * unitsPerAon := by
  obtain ⟨startup, power, clock⟩ := startReadings_keeps (s.timeInReset e) e
  have read : execHotStartRecheck e s = .next ((s.timeInReset e).startReadings e) := by
    unfold execHotStartRecheck
    rw [if_neg (by rw [held]; decide), if_pos (by rw [hot]; decide)]
  exact ⟨_, read, startup, power, congrArg Clock.op clock⟩

theorem answers_hotStartRecheck_cool (held : s.startup.hotHold = true) (cool : startCool e = true) (self : e.selfTest = 0)
    (sound : referenceFails e = false) : Answers (.hotStartRecheck e) s fun t => t.startup.hotHold = false ∧ t.power.phase = .awake := by
  refine ⟨_, congrArg Host.Outcome.next ((if_neg (by rw [held]; decide)).trans (if_neg (by rw [cool]; decide))), ?_⟩
  extract_lets timed startup thermal freed
  have free : freed.startup.hotHold = false := rfl
  clear_value freed
  have goes : ∀ t, Awakens freed t → t.startup.hotHold = false ∧ t.power.phase = .awake := fun _ g => ⟨g.hotHold.trans free, g.phase⟩
  split
  · exact goes _ (testAndGo_awakens freed e self sound cool)
  · exact goes _ (verifyAndGo_awakens freed e self sound cool)
end

/-- Settles O30: from what a reset leaves (`Begins`) a start goes on awake or held (`Awakens`, `Stays`); Kindling mode is the other kind. -/
theorem startsAndWarmBoots : Obligations.StartsAndWarmBoots := by
  intro s e started
  have all : ∀ {kind t}, Started s e kind t → started kind t := fun h => ⟨h.op, h.tick, h.sram, h.kind, h.phase, h.cool⟩
  refine ⟨fun hp hh hl => ⟨s.coldStart e, ?_, all (coldStart_started s e)⟩, fun hp => ⟨(s.returnToBlaze 32).coldStart e, ?_, all ?_⟩,
    fun r hr ok ha hb => ⟨fun hp => ⟨(s.returnToBlaze 32).emberStart e, ?_, all (emberStart_started s e 32 r hr ok ha hb)⟩, fun hp hw => ?_⟩,
    answers_hotStartRecheck_hot s e, answers_hotStartRecheck_cool s e⟩
  · show execColdStart e s = _
    unfold execColdStart
    rw [hp]
    exact congrArg Host.Outcome.next (if_neg (by rw [hh, hl]; decide))
  · show execColdStart e s = _
    unfold execColdStart
    rw [hp]
  · have h := coldStart_started (s.returnToBlaze 32) e
    rw [returnToBlaze_startup] at h
    exact .of_wake s e 32 h
  · show execWarmBoot e s = _
    unfold execWarmBoot
    rw [hp]
  · have boots : execWarmBoot e s = .next (if s.power.latchedWake.testBit 1 then
        ((s.returnToBlaze s.power.latchedWake).emberStart e).log 0x0104 noSource else (s.returnToBlaze s.power.latchedWake).emberStart e) := by
      unfold execWarmBoot
      rw [hp]
      exact congrArg Host.Outcome.next (if_neg hw)
    have h := emberStart_started s e s.power.latchedWake r hr ok ha hb
    refine ⟨_, boots, all ?_⟩
    split
    · exact h.run ((SameRun.refl _).log _ _ _ _ _)
    · exact h

end Sys2Proof.Machine
end

section
/-! SUPPORT. A trap in privileged mode (R103, R456): a trap entry is accounting around the entry of its own core; what follows halts a Stoker core and
resets the module on the hearth core. Behind `Obligations.PrivilegedTraps`. -/

namespace Sys2Proof.Machine

open Sys2Proof

/-! ### What accounting leaves (R451, R475) -/

theorem rams_of_arch {k q : Core} (h : k.arch = q.arch) : k.rams = q.rams := (congrArg Core.rams h : k.arch.rams = q.arch.rams)

theorem Accounts.still {s t : State} (h : Accounts s t) : t.still = s.still := by
  have sram : t.sram = s.sram := (congrArg State.sram h.beside : t.besideCores.sram = s.besideCores.sram)
  have fram : t.fram = s.fram := (congrArg State.fram h.beside : t.besideCores.fram = s.besideCores.fram)
  have queue : t.pending = s.pending := (congrArg State.pending h.beside : t.besideCores.pending = s.besideCores.pending)
  have rams : t.cores.map Core.rams = s.cores.map Core.rams := by
    apply Vector.ext
    intro i hi
    rw [Vector.getElem_map, Vector.getElem_map]
    exact rams_of_arch (h.cores ⟨i, hi⟩)
  unfold State.still
  rw [sram, fram, queue, rams]

theorem Accounts.stallTagged (s : State) (c : Fin 4) (w : Word) : Accounts s (s.stallTagged c w) :=
  Accounts.setCore s c _ (by split <;> rfl)

/-! ### Trap entry (R451, R456) -/

/-- A core as an exception enters it: EPC, ECAUSE, EVAL, STATUS and the vector, the tagged instruction marked (R451, R478). -/
def Core.trapTaken (k : Core) (epc : Word) (t : Trap) : Core :=
  { (k.enterTrap epc (BitVec.ofNat 32 t.code) t.val 0) with
    flight := if k.tagged then k.flight.map (fun r => { r with trapped := true }) else k.flight,
    sampleTag := false, loadDest := none }

/-- The events that a trap counts (R475). -/
def Trap.events (t : Trap) : List (Nat × Nat) :=
  [(0x0F, 1)] ++ (if t.code = 9 then [(0x0E, 1)] else []) ++ (if t.code = 10 then [(0x10, 1)] else [])

/-- A core that a trap in privileged mode has halted (R456). -/
def Core.trapHalted (k : Core) : Core := { k with held := true, running := none, waiting := none, frame := none }

/-- What follows a trap entry in privileged mode (R456): the hearth core's resets the module, a Stoker core halts. -/
def State.privilegedTrap (s : State) (c : Fin 4) (t : Trap) (pc : Word) : State :=
  if c = 0 then s.enterReset 1
  else ((s.setCore c Core.trapHalted).putN (Key.coreProgramState c.val) 5).log 0x0E02 c.val c.val t.code pc.toNat

/-- A trap in privileged mode: accounting, the core's entry, accounting, and what follows. -/
theorem raiseTrap_privileged (s : State) (c : Fin 4) (t : Trap) (d : Fin 16) (h : (s.cores[c]).privileged = true) :
    ∃ m n, Accounts s m ∧ Accounts (m.setCore c fun k => k.trapTaken (s.cores[c]).pc t) n
      ∧ s.raiseTrap c t d = n.privilegedTrap c t (s.cores[c]).pc := by
  have unsampled : s.sampleStack c = s := by
    unfold State.sampleStack
    dsimp only
    split
    · rfl
    · rw [if_pos (.inr h)]
  refine ⟨((s.passCycles c trapCycles).countEvent c 0x02 trapCycles).flushTagged c, _,
    ((Accounts.passCycles _ _ _).trans (Accounts.countEvent _ _ _ _)).trans (Accounts.flushTagged _ _), Accounts.countEvents _ c t.events, ?_⟩
  unfold State.raiseTrap State.privilegedTrap
  rw [unsampled]
  exact ite_congr rfl (fun _ => rfl) fun _ => if_pos (by rw [h]; rfl)

/-- What a trap in privileged mode leaves of a Stoker core (R456). -/
structure TrapHalts (s : State) (c : Fin 4) (t : Trap) (u : State) : Prop where
  state   : u.nat (Key.coreProgramState c.val) = 5
  held    : (u.cores[c]).held = true
  running : (u.cores[c]).running = none
  epc     : (u.cores[c]).epc = (s.cores[c]).pc
  ecause  : (u.cores[c]).ecause = BitVec.ofNat 32 t.code
  eval    : (u.cores[c]).eval = t.val
  memory  : u.still = s.still

theorem arch_log (s : State) (c : Fin 4) (code source w4 w5 w6 : Nat) : ((s.log code source w4 w5 w6).cores[c]).arch = (s.cores[c]).arch :=
  ((Moves.refl s []).log code source w4 w5 w6).cores c

theorem trapHalts_privilegedTrap {s m n : State} {c : Fin 4} {t : Trap} (hc : c ≠ 0) (before : Accounts s m)
    (after : Accounts (m.setCore c fun k => k.trapTaken (s.cores[c]).pc t) n) : TrapHalts s c t (n.privilegedTrap c t (s.cores[c]).pc) := by
  unfold State.privilegedTrap
  rw [if_neg hc]
  have taken : (n.cores[c]).arch = ((m.cores[c]).trapTaken (s.cores[c]).pc t).arch :=
    (after.cores c).trans (congrArg Core.arch (State.cores_setCore_same _ _ _))
  have halted : ((((n.setCore c Core.trapHalted).putN (Key.coreProgramState c.val) 5).log 0x0E02 c.val c.val t.code (s.cores[c]).pc.toNat).cores[c]).arch
      = (n.cores[c]).trapHalted.arch := (arch_log _ _ _ _ _ _ _).trans (congrArg Core.arch (State.cores_setCore_same _ _ _))
  constructor
  case state =>
    unfold State.nat
    rw [get_log _ _ _ _ _ _ _ (programState_not_event c)]
    exact State.nat_putN_same _ _ _
  case held => exact congrArg Core.held halted
  case running => exact congrArg Core.running halted
  case epc => exact (congrArg Core.epc halted).trans (congrArg Core.epc taken)
  case ecause => exact (congrArg Core.ecause halted).trans (congrArg Core.ecause taken)
  case eval => exact (congrArg Core.eval halted).trans (congrArg Core.eval taken)
  case memory =>
    have hn : n.still = s.still := by
      rw [after.still, still_setCore, show ((m.cores[c]).trapTaken (s.cores[c]).pc t).rams = (m.cores[c]).rams from rfl, rams_set_self]
      exact before.still
    rw [still_log, still_putN, still_setCore, show (n.cores[c]).trapHalted.rams = (n.cores[c]).rams from rfl, rams_set_self]
    exact hn

/-! ### A misaligned store (R447, R453) -/

/-- A store to a misaligned address raises STORE_ALIGN on a state that differs by accounting. -/
theorem store_misaligned (s : State) (c : Fin 4) (op w : Nat) (d a : Fin 16) (imm : BitVec 18) (ready : CoreReady s c)
    (off : ((s.cores[c]).reg a + imm.signExtend 32).toNat % w ≠ 0) :
    ∃ m, Accounts s m ∧ s.store c op w d a imm = m.raiseTrap c ⟨6, (s.cores[c]).reg a + imm.signExtend 32⟩ 0 := by
  unfold State.store
  obtain ⟨m, fetch, loadUse, _, _, acc, run⟩ := insn_ready s c (wordK op d a imm) [a, d] 0 _ ready
  rw [run]
  have address : m.addrOf c a imm = ((s.cores[c]).reg a + imm.signExtend 32).toNat := congrArg (fun x => (x + imm.signExtend 32).toNat) (acc.reg c a)
  have traps : m.storeTrap c (m.addrOf c a imm) w = some ⟨6, (s.cores[c]).reg a + imm.signExtend 32⟩ := by
    rw [address]
    unfold State.storeTrap
    rw [if_pos off, trapStoreAlign, BitVec.ofNat_toNat, BitVec.setWidth_eq]
  dsimp only
  rw [traps]
  exact ⟨_, acc.trans (Accounts.stallTagged m c _), rfl⟩

/-- Settles O20, for the cause the statement names, a misaligned STW: behind `store_misaligned` the trap is entered, and `State.privilegedTrap` is what
R456 says of each core. -/
theorem privilegedTraps : Obligations.PrivilegedTraps := by
  intro s c d a imm ready privileged sum off
  obtain ⟨m, acc, store⟩ := store_misaligned s c 0x18 4 d a imm ready off
  have pc : (m.cores[c]).pc = (s.cores[c]).pc := acc.pc c
  obtain ⟨m', n, before, after, trap⟩ := raiseTrap_privileged m c ⟨6, sum⟩ 0 ((acc.privileged c).trans privileged)
  rw [pc] at after trap
  refine ⟨n.privilegedTrap c ⟨6, sum⟩ (s.cores[c]).pc, congrArg Host.Outcome.next (store.trans trap), ?_⟩
  split
  · rename_i hearth
    subst hearth
    exact (inReset_enterReset n 1).phase
  · rename_i stoker
    have halts := trapHalts_privilegedTrap stoker (acc.trans before) after
    exact ⟨halts.state, halts.held, halts.running, halts.epc, halts.ecause, halts.eval, sameMemory_of_still halts.memory⟩

end Sys2Proof.Machine
end

section
/-! SUPPORT. NMT commands (R110, R510), behind `Obligations.NmtCommands`. -/

namespace Sys2Proof.Machine

open Sys2Proof

/-- The communication objects are those below 0x2000: what a communication reset restores leaves every other value (R110). -/
theorem get_commRestore (s : State) (k : Nat) (h : 0x2000 ≤ k / 256) : s.commRestore.get k = s.get k := by
  have other : decide (k / 256 < 0x2000) = false := decide_eq_false (Nat.not_lt.2 h)
  have saved : lookupKey (s.dict.saved.values.filter fun v => decide (v.1 / 256 < 0x2000)) k = none := by
    refine lookupKey_eq_none _ _ fun e he => ?_
    rintro rfl
    exact absurd (of_decide_eq_true (List.mem_filter.1 he).2) (Nat.not_lt.2 h)
  have kept : lookupKey (s.obj.filter fun v => !decide (v.1 / 256 < 0x2000)) k = lookupKey s.obj k :=
    lookupKey_filter_kept (fun j => !decide (j / 256 < 0x2000)) _ k (by rw [other]; rfl)
  show readKey objDefault (_ ++ _) k = readKey objDefault s.obj k
  rw [readKey_eq_getD, readKey_eq_getD, lookupKey_append, saved, kept, Option.none_or]

/-- A boot-up is a state of the slave and a frame of its own in CAN A's queue (R110, R490). -/
theorem nmtBootUp_eq (s : State) : ∃ can, s.nmtBootUp = { s with canopen := { Canopen.reset with nmt := 127 }, can := can } := by
  unfold State.nmtBootUp State.sendOwn
  dsimp only
  split
  · exact ⟨s.can, rfl⟩
  · exact ⟨_, rfl⟩

section
variable (s : State) (n : Nat)

theorem nmtEnter_kindling (h : s.process = psKindling) : s.nmtEnter n = s := if_pos h
theorem nmtEnter_stopped (h : s.process ≠ psKindling) :
    s.nmtEnter 4 = s.setOpen fun c => { c with nmt := 4, sdo := .idle, rpdos := Vector.replicate 8 none } := (if_neg h).trans (if_pos rfl)
theorem nmtEnter_serving (h : s.process ≠ psKindling) (hn : n ≠ 4) : s.nmtEnter n = s.setOpen fun c => { c with nmt := n } :=
  (if_neg h).trans (if_neg hn)
end

/-- Settles O33: a command that is the node's (`nmtMine_of`) enters its state by `State.nmtEnter`; a communication reset restores only values below
0x2000 (`get_commRestore`) and boots up. -/
theorem nmtCommands : Obligations.NmtCommands := by
  intro s node running up addressed
  have mine : s.nmtMine node = true := nmtMine_of s node running up addressed
  have enters : ∀ n, (if s.nmtMine node then s.nmtEnter n else s) = s.nmtEnter n := fun n => if_pos mine
  refine ⟨fun out => ⟨?_, ?_, ?_⟩, fun kindling => ⟨?_, ?_⟩, ?_⟩
  · exact ⟨_, congrArg Host.Outcome.next (enters 5), nmtEnter_serving s 5 out (by decide)⟩
  · refine ⟨_, congrArg Host.Outcome.next ((enters 4).trans (nmtEnter_stopped s out)), rfl, rfl, rfl⟩
  · exact ⟨_, congrArg Host.Outcome.next (enters 127), nmtEnter_serving s 127 out (by decide)⟩
  · exact ⟨_, congrArg Host.Outcome.next (enters 5), nmtEnter_kindling s 5 kindling⟩
  · exact ⟨_, congrArg Host.Outcome.next (enters 4), nmtEnter_kindling s 4 kindling⟩
  · obtain ⟨can, boots⟩ := nmtBootUp_eq s.commRestore
    refine ⟨_, congrArg Host.Outcome.next ((if_pos mine).trans boots), rfl, ?_, rfl⟩
    exact congrArg Int.toNat (get_commRestore s Key.procProcessState (by decide))

end Sys2Proof.Machine
end

section
/-! SUPPORT. What serving the module's units leaves alone (`Serves`): the start's record, the dictionary server, whether channels are scanned, and the
values of the module's own objects. One rule per operation; the process states are entered through them (R109). -/

namespace Sys2Proof.Machine

open Sys2Proof

/-! ### The frame -/

/-- A command that a drive applies (R406). -/
def appliedKey (k : Nat) : Bool := 0x2900 ≤ k / 256 && k / 256 < 0x2910 && k % 256 == 0x22

/-- The module's own objects: process, Damper overlays, configuration status, start, Bellows globals (R108, R113, R135, R149, R262); with `w` the
commands that the drives apply are among what stands. -/
def steady (w : Bool) (k : Nat) : Bool := [0x2001, 0x2100, 0x2101, 0x2300, 0x2680].contains (k / 256) || w && appliedKey k

theorem unsteady_at {w : Bool} {i j : Nat} (hi : i ≠ 0x2001 ∧ i ≠ 0x2100 ∧ i ≠ 0x2101 ∧ i ≠ 0x2300 ∧ i ≠ 0x2680 := by omega) (hj : j < 256 := by omega)
    (hd : ¬(0x2900 ≤ i ∧ i < 0x2910 ∧ j = 0x22) := by omega) : steady w (i * 256 + j) = false := by
  have index : (i * 256 + j) / 256 = i := by omega
  have sub : (i * 256 + j) % 256 = j := by omega
  have other : appliedKey (i * 256 + j) = false := by
    unfold appliedKey
    rw [index, sub]
    simp only [Bool.and_eq_false_iff, decide_eq_false_iff_not, beq_eq_false_iff_ne]
    omega
  unfold steady
  simp [index, hi, other]

theorem unsteady_applied (d : Fin 16) : steady false (Key.driveCommandApplied d) = false := by revert d; decide

/-- From `s` to `t` units were served: the start's record, the dictionary server, the scan and the module's own objects stand. -/
structure Serves (w : Bool) (s t : State) : Prop where
  startup  : t.startup = s.startup
  dict     : t.dict = s.dict
  scanning : t.front.scanning = s.front.scanning
  values   : ∀ k, steady w k = true → t.get k = s.get k

section
variable {w : Bool}

theorem Serves.refl (s : State) : Serves w s s := ⟨rfl, rfl, rfl, fun _ _ => rfl⟩
theorem Serves.ite {s a b : State} {p : Prop} [Decidable p] (h : Serves w s a) (g : Serves w s b) : Serves w s (if p then a else b) := by
  split
  · exact h
  · exact g
theorem Serves.foldl {α : Type} {s m : State} (f : State → α → State) (l : List α) (h : Serves w s m) (hf : ∀ m x, Serves w s m → Serves w s (f m x)) :
    Serves w s (l.foldl f m) := by
  induction l generalizing m with
  | nil => exact h
  | cons x t ih => exact ih (hf _ _ h)

end

theorem Serves.nat {s t : State} (h : Serves false s t) (k : Nat) (hk : steady false k = true := by decide) : t.nat k = s.nat k := nat_of (h.values k hk)
theorem Serves.bitOf {s t : State} (h : Serves false s t) (k n : Nat) (hk : steady false k = true := by decide) : t.bitOf k n = s.bitOf k n := bitOf_of n (h.values k hk)
theorem Serves.process {s t : State} (h : Serves false s t) : t.process = s.process := h.nat Key.procProcessState

section
variable {w : Bool} {s m : State}

/-! ### Values and parts -/

theorem Serves.put (h : Serves w s m) (k : Nat) (v : Int) (hk : steady w k = false) : Serves w s (m.put k v) :=
  ⟨h.startup, h.dict, h.scanning, fun j hj => (State.get_put_other _ _ _ _ (by rintro rfl; rw [hj] at hk; cases hk)).trans (h.values j hj)⟩
theorem Serves.putN (h : Serves w s m) (k v : Nat) (hk : steady w k = false) : Serves w s (m.putN k v) := h.put k _ hk
theorem Serves.putW (h : Serves w s m) (k : Nat) (v : Word) (hk : steady w k = false) : Serves w s (m.putW k v) := h.put k _ hk
theorem Serves.putBit (h : Serves w s m) (k n : Nat) (b : Bool) (hk : steady w k = false) : Serves w s (m.putBit k n b) := h.put k _ hk
theorem Serves.bump (h : Serves w s m) (n k : Nat) (hk : steady w k = false) : Serves w s (State.bump n m k) := h.put k _ hk
theorem Serves.zero (h : Serves w s m) (l : List Nat) (hl : ∀ k ∈ l, steady w k = false) : Serves w s (m.zero l) := by
  induction l generalizing m with
  | nil => exact h
  | cons k t ih =>
    rw [List.forall_mem_cons] at hl
    exact ih (h.put k 0 hl.1) hl.2

theorem Serves.front (h : Serves w s m) (x : FrontEnd) (hx : x.scanning = m.front.scanning) : Serves w s { m with front := x } :=
  ⟨h.startup, h.dict, hx.trans h.scanning, h.values⟩
theorem Serves.setChannel (h : Serves w s m) (n : Fin 64) (f : Channel → Channel) : Serves w s (m.setChannel n f) := ⟨h.startup, h.dict, h.scanning, h.values⟩
theorem Serves.setConverter (h : Serves w s m) (v : Fin 8) (f : Converter → Converter) : Serves w s (m.setConverter v f) :=
  ⟨h.startup, h.dict, h.scanning, h.values⟩
theorem Serves.setDrive (h : Serves w s m) (d : Fin 16) (f : DriveUnit → DriveUnit) : Serves w s (m.setDrive d f) := ⟨h.startup, h.dict, h.scanning, h.values⟩
theorem Serves.setOutput (h : Serves w s m) (k : Fin 8) (f : OutputUnit → OutputUnit) : Serves w s (m.setOutput k f) := ⟨h.startup, h.dict, h.scanning, h.values⟩
theorem Serves.setAct (h : Serves w s m) (a : Fin 20) (f : ActUnit → ActUnit) : Serves w s (m.setAct a f) := ⟨h.startup, h.dict, h.scanning, h.values⟩
theorem Serves.setLoop (h : Serves w s m) (l : Fin 64) (f : LoopUnit → LoopUnit) : Serves w s (m.setLoop l f) := ⟨h.startup, h.dict, h.scanning, h.values⟩
theorem Serves.setColumn (h : Serves w s m) (c : Fin 4) (f : KColumn → KColumn) : Serves w s (m.setColumn c f) := ⟨h.startup, h.dict, h.scanning, h.values⟩
theorem Serves.setPredictor (h : Serves w s m) (c : Fin 4) (f : KPredictor → KPredictor) : Serves w s (m.setPredictor c f) :=
  ⟨h.startup, h.dict, h.scanning, h.values⟩
theorem Serves.setCore (h : Serves w s m) (c : Fin 4) (f : Core → Core) : Serves w s (m.setCore c f) := ⟨h.startup, h.dict, h.scanning, h.values⟩
theorem Serves.setCan (h : Serves w s m) (b : Fin 2) (f : CanPort → CanPort) : Serves w s (m.setCan b f) := ⟨h.startup, h.dict, h.scanning, h.values⟩
theorem Serves.canopen (h : Serves w s m) (c : Canopen) : Serves w s { m with canopen := c } := ⟨h.startup, h.dict, h.scanning, h.values⟩
theorem Serves.images (h : Serves w s m) (i : Vector (Option ProgramImage) 3) : Serves w s { m with images := i } := ⟨h.startup, h.dict, h.scanning, h.values⟩
theorem Serves.freeNat (h : Serves w s m) : Serves w s m.freeNat.2 := ⟨h.startup, h.dict, h.scanning, h.values⟩
theorem Serves.freeRound (h : Serves w s m) (n : Int) (d : Nat) : Serves w s (m.freeRound n d).2 := by
  unfold State.freeRound
  dsimp only
  split
  · exact h
  · exact h.freeNat

/-! ### Sources and events -/

theorem not_event_of_steady {k : Nat} (h : steady w k = true) : k ∉ eventKeys := by
  have unsteady : ∀ v : Bool, ∀ j ∈ eventKeys, steady v j = false := by decide
  intro hk
  rw [unsteady w k hk] at h
  cases h

theorem Serves.moves {t : State} (h : Serves w s m) (g : Moves m t []) : Serves w s t where
  startup := (congrArg State.startup g.beside : t.besideEvents.startup = m.besideEvents.startup).trans h.startup
  dict := (congrArg State.dict g.beside : t.besideEvents.dict = m.besideEvents.dict).trans h.dict
  scanning := (congrArg (fun x : State => x.front.scanning) g.beside : t.besideEvents.front.scanning = m.besideEvents.front.scanning).trans h.scanning
  values k hk := (g.get k (not_event_of_steady hk)).trans (h.values k hk)
theorem Serves.raiseSource (h : Serves w s m) (src : Nat) : Serves w s (m.raiseSource src) := h.moves ((Moves.refl _ _).raiseSource _)
theorem Serves.log (h : Serves w s m) (code source w4 w5 w6 : Nat) : Serves w s (m.log code source w4 w5 w6) := h.moves ((Moves.refl _ _).log _ _ _ _ _)

/-! ### The front end's slots and blanking (R157, R179, R186-R190) -/

theorem Serves.markHeld (h : Serves w s m) (v : Fin 8) (taken : Option (Fin 64 × Nat)) : Serves w s (m.markHeld v taken) :=
  .foldl _ _ h fun _ _ g => .ite (g.setChannel _ _) g
theorem Serves.startSlot (h : Serves w s m) (v : Fin 8) (n : Fin 64) : Serves w s (m.startSlot v n) := by
  unfold State.startSlot
  dsimp only
  split
  · exact h
  · have taken := fun f g => (h.setConverter v f).setChannel n g
    exact Serves.putN (.ite (taken _ _) ((taken _ _).putN _ _ unsteady_at)) _ _ unsteady_at
theorem Serves.serveCore (h : Serves w s m) (v : Fin 8) : Serves w s (m.serveCore v) := by
  unfold State.serveCore
  dsimp only
  split
  · exact h
  · have held := h.markHeld v (m.nextChannel v)
    split
    · exact .ite (held.setConverter _ _) (held.startSlot _ _)
    · exact held.startSlot _ _
    · exact held.setConverter _ _
    · exact held
theorem Serves.serveCores (h : Serves w s m) : Serves w s m.serveCores := .foldl _ _ h fun _ v g => g.serveCore v
theorem Serves.starve (h : Serves w s m) (n : Fin 64) : Serves w s (m.starve n) := .ite (h.setChannel _ _) ((h.setChannel _ _).log _ _ _ _ _)
theorem Serves.abortedRetake (h : Serves w s m) (n : Fin 64) : Serves w s (m.abortedRetake n) :=
  .ite h (.ite (h.setChannel _ _) (((h.setChannel _ _).bump _ _ unsteady_at).putN _ _ unsteady_at))
theorem Serves.abortSlot (h : Serves w s m) (v : Fin 8) (src t : Nat) : Serves w s (m.abortSlot v src t) := by
  unfold State.abortSlot
  split
  · exact h
  · have ended := fun f n g => ((h.setConverter v f).setChannel n g).bump 32 (Key.convSlotsAborted v.val) unsteady_at
    exact .ite (.ite (Serves.starve (.ite ((ended _ _ _).abortedRetake _) (ended _ _ _)) _) (.ite ((ended _ _ _).abortedRetake _) (ended _ _ _))) h
theorem Serves.unstartSlot (h : Serves w s m) (v : Fin 8) (src t : Nat) : Serves w s (m.unstartSlot v src t) := by
  unfold State.unstartSlot
  split
  · exact .ite ((h.setConverter _ _).setChannel _ _) h
  · exact h
theorem Serves.blankRelease (h : Serves w s m) (src : Nat) : Serves w s (m.blankRelease src) :=
  (h.front { m.front with inEffect := setBit m.front.inEffect src false, timedOut := setBit m.front.timedOut src false } rfl).serveCores
theorem Serves.blankAssert (h : Serves w s m) (src t : Nat) : Serves w s (m.blankAssert src t) := by
  unfold State.blankAssert
  split
  · exact h
  · extract_lets unstarted front effective marked
    have hu : Serves w s unstarted := .foldl _ _ h fun _ v g => g.unstartSlot v src t
    clear_value unstarted
    have hm : Serves w s marked := .foldl _ _ (hu.front _ rfl) fun _ _ g => .ite (g.setChannel _ _) g
    exact Serves.serveCores (.foldl _ _ hm fun _ v g => g.abortSlot v src _)
theorem Serves.blankAgain (h : Serves w s m) (src : Nat) : Serves w s (m.blankAgain src) := (h.blankRelease src).blankAssert src _

/-! ### Drives and current outputs (R404-R421) -/

theorem Serves.evalTable (h : Serves w s m) (d : Fin 16) (k : Nat) : Serves w s (m.evalTable d k) := .ite (h.putN _ _ unsteady_at) (h.putN _ _ unsteady_at)
theorem Serves.driveEnter (h : Serves w s m) (d : Fin 16) (st : Nat) : Serves w s (m.driveEnter d st) := by
  unfold State.driveEnter
  extract_lets released counted cleared
  have hr : Serves w s released := .ite (h.blankRelease _) h
  clear_value released
  have hc : Serves w s counted := .ite (hr.putN _ _ unsteady_at) hr
  clear_value counted
  have hb : Serves w s cleared := .ite (((hc.putBit _ _ _ unsteady_at).putBit _ _ _ unsteady_at).putBit _ _ _ unsteady_at) hc
  exact .ite h ((hb.putN _ _ unsteady_at).raiseSource _)
theorem Serves.driveStart (h : Serves w s m) (d : Fin 16) (n : Nat) : Serves w s (m.driveStart d n) := ((h.driveEnter d _).putN _ _ unsteady_at).blankAgain _
theorem Serves.driveHold (h : Serves w s m) (d : Fin 16) : Serves w s (m.driveHold d) := ⟨h.startup, h.dict, h.scanning, h.values⟩
theorem Serves.tableUse (h : Serves w s m) (d : Fin 16) : Serves w s (m.tableUse d) := by
  unfold State.tableUse
  extract_lets use entering used evaluated
  have hu : Serves w s used := h.setDrive d _
  have he : Serves w s evaluated := .ite (hu.evalTable d 0) hu
  exact .ite (he.log _ _ _ _ _) he
theorem Serves.driveAdvance (h : Serves w s m) (d : Fin 16) : Serves w s (m.driveAdvance d) := by
  unfold State.driveAdvance
  extract_lets noTach idle st go
  have hi : Serves w s idle := .ite (h.driveEnter d _) h
  clear_value idle
  exact .ite (h.driveEnter d _) (.ite (.ite (.ite ((hi.driveEnter d _).blankAgain _) (hi.driveStart d 1)) hi)
    (.ite hi (.ite (.ite hi (hi.driveEnter d _)) (.ite (hi.driveEnter d _) hi))))
theorem Serves.driveSettled (h : Serves w s m) (d : Fin 16) :
    Serves w s ((((((m.driveHold d).tableUse d).driveAdvance d).tableUse d).driveAdvance d).tableUse d) :=
  (((((h.driveHold d).tableUse d).driveAdvance d).tableUse d).driveAdvance d).tableUse d
theorem Serves.serveDrive (h : Serves false s m) (d : Fin 16) : Serves false s (m.serveDrive d) := by
  unfold State.serveDrive
  extract_lets settled q q1
  exact ((h.driveSettled d).put _ _ (unsteady_applied d)).setDrive d _
theorem Serves.serveDrives (h : Serves false s m) : Serves false s m.serveDrives := .foldl _ _ h fun _ d g => g.serveDrive d

theorem Serves.outputCleared (h : Serves w s m) (k : Fin 8) : Serves w s (m.outputCleared k) :=
  .ite ((h.putBit _ _ _ unsteady_at).putBit _ _ _ unsteady_at) h
theorem Serves.serveOutput (h : Serves w s m) (k : Fin 8) : Serves w s (m.serveOutput k) := by
  unfold State.serveOutput
  extract_lets now held r clamped forced shown pinned
  have hf : Serves w s forced := .ite ((h.setOutput k _).bump _ _ unsteady_at) (h.setOutput k _)
  clear_value forced
  have hp : Serves w s pinned := (((hf.putN _ _ unsteady_at).putW _ _ unsteady_at).putBit _ _ _ unsteady_at).setOutput k _
  exact hp.outputCleared k
theorem Serves.serveOutputs (h : Serves w s m) : Serves w s m.serveOutputs := .foldl _ _ h fun _ k g => g.serveOutput k

/-! ### Actuators (R372-R402) -/

theorem Serves.actOpen (h : Serves w s m) (a : Fin 20) : Serves w s (m.actOpen a) := by
  have opened := h.setAct a ActUnit.opened
  have released := Serves.ite (p := (m.actUnit a).phase = .rise ∨ (m.actUnit a).phase = .dwell) (opened.blankRelease (blankAct a)) opened
  exact .ite (released.raiseSource _) released
theorem Serves.actOff (h : Serves w s m) (a : Fin 20) : Serves w s (m.actOff a) := (h.actOpen a).putN _ _ unsteady_at
theorem Serves.actRefuse (h : Serves w s m) (a : Fin 20) (reason : Nat) : Serves w s (m.actRefuse a reason) :=
  ((((h.setAct a _).putN _ _ unsteady_at).putN _ _ unsteady_at).bump _ _ unsteady_at).raiseSource _
theorem Serves.overlapRefuse (h : Serves w s m) (a : Fin 20) : Serves w s (m.overlapRefuse a) :=
  ((((h.freeRound _ _).log _ _ _ _ _).actRefuse a 10).bump _ _ unsteady_at).raiseSource _
theorem Serves.actTake (h : Serves w s m) (a : Fin 20) : Serves w s (m.actTake a) := h.setAct a _
theorem Serves.actOverlap (h : Serves w s m) (a : Fin 20) : Serves w s (m.actOverlap a) := .ite (h.actTake a) (.ite (h.setAct a _) (h.overlapRefuse a))
theorem Serves.actRequest (h : Serves w s m) (a : Fin 20) (pulse safe : Bool) : Serves w s (m.actRequest a pulse safe) := by
  refine .ite h (.ite (.ite (h.setAct a _) h) (.ite h ?_))
  split
  · exact h.actRefuse a _
  · exact (h.setAct a _).actOverlap a
theorem Serves.startDeferred (h : Serves w s m) (a : Fin 20) : Serves w s (m.startDeferred a) :=
  .ite (((h.freeNat.actTake a).putN _ _ unsteady_at).bump _ _ unsteady_at) h
theorem Serves.serveProp (h : Serves w s m) (a : Fin 20) : Serves w s (m.serveProp a) := by
  have taken := fun f => h.setAct a f
  refine .ite h (.ite (.setAct (.ite ((taken _).actOpen a) (taken _)) a _) (.ite ((taken _).setAct a _) ?_))
  split
  · exact ((taken _).setAct a _).actRefuse a _
  · exact (((taken _).setAct a _).bump _ _ unsteady_at).raiseSource _
theorem Serves.claimChanged (h : Serves w s m) (a : Fin 20) : Serves w s (m.claimChanged a) := .ite h ((h.startDeferred _).serveProp _)
theorem Serves.actSafe (h : Serves w s m) (a : Fin 20) : Serves w s (m.actSafe a) :=
  .ite (.ite (.ite (h.setAct a _) (h.actRequest a false true)) ((h.actOff a).claimChanged a)) ((h.serveProp a).claimChanged a)
theorem Serves.actsOff (h : Serves w s m) : Serves w s m.actsOff := .foldl _ _ h fun _ a g => g.actOff a
theorem Serves.actsSafe (h : Serves w s m) : Serves w s m.actsSafe := .foldl _ _ h fun _ a g => g.actSafe a
theorem Serves.dutyRestart (h : Serves w s m) : Serves w s m.dutyRestart := .foldl _ _ h fun _ a g => g.setAct a _
theorem Serves.serveProps (h : Serves w s m) : Serves w s m.serveProps := .foldl _ _ h fun _ a g => (g.serveProp a).claimChanged a
theorem Serves.serveAllOutputs (h : Serves false s m) : Serves false s m.serveAllOutputs := h.serveProps.serveDrives.serveOutputs

/-! ### Loops, predictors, Kelsis (R243, R267, R292, R342, R358) -/

theorem Serves.loopOff (h : Serves w s m) (l : Fin 64) : Serves w s (m.loopOff l) := by
  unfold State.loopOff
  extract_lets was left commanded counted shown
  have hm : Serves w s commanded := (((h.setLoop l _).putN _ _ unsteady_at).putN _ _ unsteady_at).putN _ _ unsteady_at
  clear_value commanded
  have hc : Serves w s counted := .zero (hm.putN _ _ unsteady_at) _ fun k hk => by
    rcases List.mem_cons.1 hk with rfl | hk
    · exact unsteady_at
    · rw [List.mem_singleton.1 hk]; exact unsteady_at
  clear_value counted
  have hs : Serves w s shown := hc.putN _ _ unsteady_at
  exact .ite hs (hs.raiseSource _)
theorem Serves.loopsOff (h : Serves w s m) : Serves w s m.loopsOff := .foldl _ _ h fun _ l g => g.loopOff l
theorem Serves.loopsToManual (h : Serves w s m) : Serves w s m.loopsToManual := .foldl _ _ h fun _ l g => .ite ((g.putN _ _ unsteady_at).setLoop l _) g
theorem Serves.loopsToRun (h : Serves w s m) : Serves w s m.loopsToRun := .foldl _ _ h fun _ l g => .ite (g.setLoop l _) g
theorem Serves.kelsisHalt (h : Serves w s m) : Serves w s m.kelsisHalt :=
  .foldl _ _ (.foldl _ _ h fun _ c g => g.setColumn c _) fun _ c g => g.setPredictor c _
theorem Serves.predictorsStart (h : Serves w s m) : Serves w s m.predictorsStart :=
  .foldl _ _ h fun _ c g => .ite ((g.putN _ _ unsteady_at).setPredictor c _) g
theorem Serves.predictorsStop (h : Serves w s m) : Serves w s m.predictorsStop := .foldl _ _ h fun _ c g => g.setPredictor c _

/-! ### Programs (R460, R461) -/

theorem unsteady_slotStatus (n : Nat) (h : n < 16) : steady w (Key.imagesSlotStatus n) = false := by
  have hk : Key.imagesSlotStatus n = 0x3410 * 256 + (Key.imagesSlotStatus n - 0x3410 * 256) := by unfold Key.imagesSlotStatus; omega
  rw [hk]
  exact unsteady_at (by decide) (by unfold Key.imagesSlotStatus; omega)
theorem Serves.enterProgram (h : Serves w s m) (c : Fin 4) (i : ProgramImage) : Serves w s (m.enterProgram c i) :=
  (((h.setCore c _).putN _ _ unsteady_at).putN _ _ unsteady_at).putN _ _ unsteady_at
theorem Serves.programStart (h : Serves w s m) (c : Fin 4) (intact : Bool) : Serves w s (m.programStart c intact) := by
  refine .ite h ?_
  split
  · exact h
  · exact .ite (h.enterProgram c _) (((h.images _).putN _ _ (unsteady_slotStatus _ (by omega))).log _ _ _ _ _)
theorem Serves.programStop (h : Serves w s m) (c : Fin 4) : Serves w s (m.programStop c) := .ite (((h.setCore c _).setCore c _).putN _ _ unsteady_at) h
theorem Serves.programsToStopped (h : Serves w s m) : Serves w s m.programsToStopped := .foldl _ _ h fun _ c g => .ite g (g.programStop c)
theorem Serves.programsAutostart (h : Serves w s m) : Serves w s m.programsAutostart := .foldl _ _ h fun _ c g => .ite (g.programStart c true) g
theorem Serves.programsArm (h : Serves w s m) : Serves w s m.programsArm := .foldl _ _ h fun _ c g => .ite g (g.programStart c true)

/-! ### EMCY (R510, R512) -/

theorem Serves.sendOwn (h : Serves w s m) (cob : Nat) (bs : List Byte) : Serves w s (m.sendOwn cob bs) := .ite h (h.setCan 0 _)
theorem Serves.emcyReset (h : Serves w s m) : Serves w s m.emcyReset := by
  have queued : ∀ more tail, Serves w s (m.emcyQueue 0 more tail) := fun _ _ => h.sendOwn _ _
  exact .ite h (.ite (h.canopen _) (.ite (queued _ _) ((queued _ _).canopen _)))

end

end Sys2Proof.Machine
end

section
/-! SUPPORT. The process states (R108, R109, R136): what entering them leaves, the channels off and the drives at 0 in STOPPED, behind
`Obligations.ProcessCommands`. -/

namespace Sys2Proof.Machine

open Sys2Proof

/-! ### Channels that are off (R109, R374, R381) -/

/-- Every actuator channel is off. -/
def State.ActsIdle (s : State) : Prop := ∀ a : Fin 20, (s.actUnit a).phase = .idle

theorem State.ActsIdle.of {s t : State} (h : s.ActsIdle) (acts : t.acts = s.acts) : t.ActsIdle := fun a => by
  unfold State.actUnit
  rw [acts]
  exact h a

/-- Turning a channel off leaves it idle, and idle ones stay so. -/
theorem idle_actOff (s : State) (a b : Fin 20) (h : b = a ∨ (s.actUnit b).phase = .idle) : ((s.actOff a).actUnit b).phase = .idle := by
  rw [(sameUnits_actOff s a).actUnit, actUnit_setAct]
  split
  · rfl
  · rename_i ne
    exact h.resolve_left (Ne.symm ne)

theorem idle_foldl_actOff (l : List (Fin 20)) (s : State) (b : Fin 20) (h : b ∈ l ∨ (s.actUnit b).phase = .idle) :
    ((l.foldl (fun s a => s.actOff a) s).actUnit b).phase = .idle := by
  induction l generalizing s with
  | nil => exact h.resolve_left List.not_mem_nil
  | cons a t ih =>
    refine ih (s.actOff a) ?_
    rcases h with hm | hi
    · rcases List.mem_cons.1 hm with rfl | hm
      · exact .inr (idle_actOff s b b (.inl rfl))
      · exact .inl hm
    · exact .inr (idle_actOff s a b (.inr hi))

theorem actsIdle_actsOff (s : State) : s.actsOff.ActsIdle := fun a => idle_foldl_actOff _ s a (.inl (List.mem_finRange a))

/-- A channel changed without its phase stays off. -/
theorem State.ActsIdle.setAct {s : State} (h : s.ActsIdle) (a : Fin 20) (f : ActUnit → ActUnit) (hf : ∀ u, (f u).phase = u.phase) : (s.setAct a f).ActsIdle :=
  fun b => by
    rw [actUnit_setAct]
    split
    · exact (hf _).trans (h b)
    · exact h b

/-- With outputs in the reset state an idle PROPORTIONAL channel asks for nothing and stays off (R109, R374). -/
theorem State.ActsIdle.serveProp {s : State} (h : s.ActsIdle) (reset : s.outputsReset = true) (a : Fin 20) : (s.serveProp a).ActsIdle := by
  have asked : s.propAsked a = 0 := if_pos (by rw [reset]; rfl)
  unfold State.serveProp
  extract_lets u want blocked full capped room wanted taken limited
  have nothing : wanted < full := by
    have off : capped = 0 := if_pos (by show s.propAsked a < _; rw [asked]; decide) |>.trans asked
    show (if blocked = true then 0 else min capped room) < full
    rw [off, Nat.zero_min, ite_self]
    decide
  split
  · exact h
  · rw [if_neg (by show u.phase ≠ _; rw [show u.phase = .idle from h a]; decide)]
    have askedFor : taken.ActsIdle := h.setAct a _ fun _ => rfl
    exact askedFor.setAct a _ fun _ => rfl

theorem State.ActsIdle.claimChanged {s : State} (h : s.ActsIdle) (reset : s.outputsReset = true) (a : Fin 20) : (s.claimChanged a).ActsIdle := by
  have undeferred : s.startDeferred (partnerOf a) = s := if_neg fun hd => by rw [h (partnerOf a)] at hd; cases hd.1
  unfold State.claimChanged
  split
  · exact h
  · rw [undeferred]
    exact h.serveProp reset _

/-! ### Drives at 0 (R109, R406-R408) -/

theorem outputsReset_of_stopped {s : State} (h : s.process = psStopped) : s.outputsReset = true := by
  unfold State.outputsReset
  rw [h]
  rfl

theorem driveCommand_reset (s : State) (d : Fin 16) (base : Bool) (h : s.outputsReset = true) : s.driveCommand d base = (0, .no) := if_pos (.inr h)

theorem nat_raiseSource (s : State) (src k : Nat) (h : k ∉ eventKeys) : (s.raiseSource src).nat k = s.nat k := nat_of (get_raiseSource s src k h)
theorem driveState_not_event (d : Fin 16) : Key.driveState d ∉ eventKeys := by revert d; decide

theorem driveState_driveEnter (s : State) (d : Fin 16) (st : Nat) : (s.driveEnter d st).nat (Key.driveState d) = st := by
  unfold State.driveEnter
  extract_lets released counted cleared
  split
  · assumption
  · rw [nat_raiseSource _ _ _ (driveState_not_event d), State.nat_putN_same]

theorem driveState_tableUse (s : State) (d : Fin 16) : (s.tableUse d).nat (Key.driveState d) = s.nat (Key.driveState d) := by
  unfold State.tableUse
  extract_lets use entering used evaluated
  have level : ∀ v, (used.putN (Key.draughtLevel d) v).nat (Key.driveState d) = s.nat (Key.driveState d) := fun v =>
    nat_putN_of_ne used _ _ v (by unfold Key.driveState Key.draughtLevel; omega)
  have kept : evaluated.nat (Key.driveState d) = s.nat (Key.driveState d) := by
    show State.nat (if _ then State.evalTable _ _ _ else _) _ = _
    unfold State.evalTable
    split
    · split
      · exact level _
      · exact level _
    · rfl
  clear_value evaluated
  split
  · exact (nat_of (get_log _ _ _ _ _ _ _ (driveState_not_event d))).trans kept
  · exact kept

/-- With outputs in the reset state no drive is starting: it goes to OFF or IDLE, or stays BLOCKED (R407). -/
theorem driveAdvance_not_starting (s : State) (d : Fin 16) (reset : s.process = psStopped) :
    (s.driveAdvance d).nat (Key.driveState d) ≠ driveStarting := by
  have entered : ∀ (m : State) st, st ≠ driveStarting → (m.driveEnter d st).nat (Key.driveState d) ≠ driveStarting := fun m st h => by
    rw [driveState_driveEnter]; exact h
  unfold State.driveAdvance
  extract_lets noTach idle st go
  have served : Serves true s idle := .ite ((Serves.refl s).driveEnter d _) (.refl s)
  have zero : idle.outputsReset = true := outputsReset_of_stopped ((nat_of (served.values _ (by decide))).trans reset)
  have stays : go = false := by
    show decide (0 < (idle.driveCommand d true).1) = false
    rw [driveCommand_reset _ _ _ zero]
    rfl
  have released : idle.zeroHeld d = false := by
    unfold State.zeroHeld
    rw [zero]
    rfl
  rw [stays, released]
  split
  · exact entered _ _ (by decide)
  · split
    · rename_i h; show st ≠ _; rw [h]; decide
    · split
      · rename_i h; show st ≠ _; rw [h]; decide
      · exact entered _ _ (by decide)

/-- A drive's state and table as its cycle leaves them, and the command it then applies (R406). -/
def State.driveSettled (s : State) (d : Fin 16) : State := (((((s.driveHold d).tableUse d).driveAdvance d).tableUse d).driveAdvance d).tableUse d
def State.driveApplies (s : State) (d : Fin 16) : Int :=
  if s.nat (Key.driveState d) = driveStarting then max (max 0 (s.driveCommand d false).1) (s.get (Key.driveStartDuty d)) else max 0 (s.driveCommand d false).1

theorem serveDrive_eq (s : State) (d : Fin 16) : s.serveDrive d =
    ((s.driveSettled d).put (Key.driveCommandApplied d) ((s.driveSettled d).driveApplies d)).setDrive d
      fun u => { u with pin := (s.driveSettled d).drivePin d ((s.driveSettled d).driveApplies d) } := rfl
theorem get_setDrive (s : State) (d : Fin 16) (f : DriveUnit → DriveUnit) (k : Nat) : (s.setDrive d f).get k = s.get k := rfl
theorem get_serveDrive (s : State) (d : Fin 16) (k : Nat) :
    (s.serveDrive d).get k = if k = Key.driveCommandApplied d then (s.driveSettled d).driveApplies d else (s.driveSettled d).get k := by
  rw [serveDrive_eq, get_setDrive, State.get_put]

theorem steady_applied (d : Fin 16) : steady true (Key.driveCommandApplied d) = true := by revert d; decide
theorem driveSettled_serves (s : State) (d : Fin 16) : Serves true s (s.driveSettled d) := (Serves.refl s).driveSettled d
theorem driveSettled_not_starting (s : State) (d : Fin 16) (stopped : s.process = psStopped) :
    (s.driveSettled d).nat (Key.driveState d) ≠ driveStarting := by
  have early : Serves true s ((((s.driveHold d).tableUse d).driveAdvance d).tableUse d) := ((((Serves.refl s).driveHold d).tableUse d).driveAdvance d).tableUse d
  unfold State.driveSettled
  rw [driveState_tableUse]
  exact driveAdvance_not_starting _ d ((nat_of (early.values _ (by decide))).trans stopped)

theorem serveDrive_stopped (s : State) (d : Fin 16) (stopped : s.process = psStopped) : (s.serveDrive d).get (Key.driveCommandApplied d) = 0 := by
  have reset : (s.driveSettled d).outputsReset = true :=
    outputsReset_of_stopped ((nat_of ((driveSettled_serves s d).values _ (by decide))).trans stopped)
  rw [get_serveDrive, if_pos rfl]
  unfold State.driveApplies
  rw [if_neg (driveSettled_not_starting s d stopped), driveCommand_reset _ _ _ reset]
  rfl

theorem serveDrive_other (s : State) (d e : Fin 16) (h : e ≠ d) : (s.serveDrive d).get (Key.driveCommandApplied e) = s.get (Key.driveCommandApplied e) := by
  have ne : Key.driveCommandApplied e ≠ Key.driveCommandApplied d := by
    have := Fin.val_ne_of_ne h
    unfold Key.driveCommandApplied
    omega
  rw [get_serveDrive, if_neg ne]
  exact (driveSettled_serves s d).values _ (steady_applied e)

theorem foldl_serveDrive_stopped (l : List (Fin 16)) (s : State) (e : Fin 16) (stopped : s.process = psStopped)
    (h : e ∈ l ∨ s.get (Key.driveCommandApplied e) = 0) : (l.foldl (fun s d => s.serveDrive d) s).get (Key.driveCommandApplied e) = 0 := by
  induction l generalizing s with
  | nil => exact h.resolve_left List.not_mem_nil
  | cons d t ih =>
    have served : Serves false s (s.serveDrive d) := (Serves.refl s).serveDrive d
    rw [List.foldl_cons]
    refine ih _ (served.process.trans stopped) ?_
    by_cases same : e = d
    · subst same
      exact .inr (serveDrive_stopped s e stopped)
    · rw [serveDrive_other s d e same]
      exact h.imp_left fun hm => (List.mem_cons.1 hm).resolve_left same

/-! ### Outputs in STOPPED -/

theorem serveProps_stopped (s : State) (stopped : s.process = psStopped) (idle : s.ActsIdle) : s.serveProps.ActsIdle := by
  unfold State.serveProps
  generalize List.finRange 20 = l
  induction l generalizing s with
  | nil => exact idle
  | cons a t ih =>
    have served := (Serves.refl s (w := false)).serveProp a
    have prop := idle.serveProp (outputsReset_of_stopped stopped) a
    exact ih _ ((served.claimChanged a).process.trans stopped) (prop.claimChanged (outputsReset_of_stopped (served.process.trans stopped)) a)

theorem serveOutput_acts (s : State) (k : Fin 8) : (s.serveOutput k).acts = s.acts := by
  unfold State.serveOutput
  extract_lets now held r clamped forced shown pinned
  have hf : forced.acts = s.acts := by show State.acts (if _ then _ else _) = _; split <;> rfl
  unfold State.outputCleared
  split
  · exact hf
  · exact hf
theorem serveOutputs_acts (s : State) : s.serveOutputs.acts = s.acts := by
  unfold State.serveOutputs
  generalize List.finRange 8 = l
  induction l generalizing s with
  | nil => rfl
  | cons k t ih => exact (ih (s.serveOutput k)).trans (serveOutput_acts s k)

theorem serveAllOutputs_stopped (s : State) (stopped : s.process = psStopped) (idle : s.ActsIdle) :
    s.serveAllOutputs.ActsIdle ∧ ∀ d : Fin 16, s.serveAllOutputs.get (Key.driveCommandApplied d) = 0 := by
  have props := (Serves.refl s (w := false)).serveProps
  refine ⟨(serveProps_stopped s stopped idle).of ((serveOutputs_acts _).trans (SameUnits.serveDrives (.refl _)).acts), fun d => ?_⟩
  refine ((Serves.refl s.serveProps.serveDrives (w := true)).serveOutputs.values _ (steady_applied d)).trans ?_
  exact foldl_serveDrive_stopped _ _ d (props.process.trans stopped) (.inl (List.mem_finRange d))

/-! ### The process states (R109) -/

theorem process_put (s : State) (v : Nat) : (s.putN Key.procProcessState v).process = v := State.nat_putN_same _ _ _
theorem startup_watchdogRestart (s : State) : s.watchdogRestart.startup = s.startup := by unfold State.watchdogRestart; split <;> rfl
theorem process_watchdogStop (s : State) : s.watchdogStop.process = s.process := rfl
theorem acts_watchdogStop (s : State) : s.watchdogStop.acts = s.acts := rfl
theorem get_watchdogStop (s : State) (k : Nat) : s.watchdogStop.get k = s.get k := rfl
theorem startup_watchdogStop (s : State) : s.watchdogStop.startup = s.startup := rfl
theorem process_watchdogRestart (s : State) : s.watchdogRestart.process = s.process := by unfold State.watchdogRestart; split <;> rfl

/-- ARMED is entered: units served on both sides of the watchdog's restart. -/
theorem enterArmed_serves (s : State) : ∃ m, Serves false (s.putN Key.procProcessState psArmed) m ∧ Serves false m.watchdogRestart s.enterArmed := by
  refine ⟨_, (Serves.refl _).predictorsStop.loopsToManual.dutyRestart, ?_⟩
  exact Serves.serveAllOutputs (.ite (Serves.refl _).programsArm (.refl _))
theorem enterArmed_process (s : State) : s.enterArmed.process = psArmed := by
  obtain ⟨m, before, after⟩ := enterArmed_serves s
  rw [after.process, process_watchdogRestart, before.process, process_put]
theorem enterArmed_startup (s : State) : s.enterArmed.startup = s.startup := by
  obtain ⟨m, before, after⟩ := enterArmed_serves s
  rw [after.startup, startup_watchdogRestart, before.startup]
  rfl

theorem enterRunning_serves (s : State) : Serves false (s.putN Key.procProcessState psRunning) s.enterRunning :=
  (Serves.refl _).loopsToRun.predictorsStart.serveAllOutputs
theorem enterRunning_process (s : State) : s.enterRunning.process = psRunning := (enterRunning_serves s).process.trans (process_put s _)

/-- What STOPPED leaves to the watchdog's stop: loops, Kelsis and channels off. -/
def State.unitsOff (s : State) : State := (s.putN Key.procProcessState psStopped).predictorsStop.kelsisHalt.loopsOff.actsOff

theorem unitsOff_serves (s : State) : Serves false (s.putN Key.procProcessState psStopped) s.unitsOff :=
  (Serves.refl _).predictorsStop.kelsisHalt.loopsOff.actsOff
theorem enterStopped_serves (s : State) : Serves false s.unitsOff.watchdogStop s.enterStopped := (Serves.refl _).programsToStopped.serveAllOutputs

theorem programStop_acts (s : State) (c : Fin 4) : (s.programStop c).acts = s.acts := by unfold State.programStop; split <;> rfl
theorem programsToStopped_acts (s : State) : s.programsToStopped.acts = s.acts := by
  unfold State.programsToStopped
  generalize stokers = l
  induction l generalizing s with
  | nil => rfl
  | cons c t ih =>
    refine (ih _).trans ?_
    dsimp only
    split
    · rfl
    · exact programStop_acts s c

theorem unitsOff_process (s : State) : s.unitsOff.process = psStopped := by rw [(unitsOff_serves s).process, process_put]
theorem enterStopped_outputs (s : State) :
    s.enterStopped.ActsIdle ∧ ∀ d : Fin 16, s.enterStopped.get (Key.driveCommandApplied d) = 0 := by
  have halted : (s.unitsOff.watchdogStop.programsToStopped).process = psStopped := by
    rw [(Serves.refl s.unitsOff.watchdogStop).programsToStopped.process, process_watchdogStop, unitsOff_process]
  have off : s.unitsOff.ActsIdle := actsIdle_actsOff _
  exact serveAllOutputs_stopped _ halted (off.of ((programsToStopped_acts _).trans (acts_watchdogStop _)))
theorem enterStopped_process (s : State) : s.enterStopped.process = psStopped := by
  rw [(enterStopped_serves s).process, process_watchdogStop, unitsOff_process]
theorem enterStopped_startup (s : State) : s.enterStopped.startup = s.startup := by
  rw [(enterStopped_serves s).startup, startup_watchdogStop, (unitsOff_serves s).startup]
  rfl
theorem enterStopped_watchdog (s : State) : s.enterStopped.dict.watchdog.running = false := by
  rw [(enterStopped_serves s).dict]
  rfl
/-- The module's own values stand, but the process state. -/
theorem enterStopped_bitOf (s : State) (k n : Nat) (hk : steady false k = true) (hp : k ≠ Key.procProcessState) : s.enterStopped.bitOf k n = s.bitOf k n := by
  have stop : s.unitsOff.watchdogStop.bitOf k n = s.unitsOff.bitOf k n := bitOf_of n (get_watchdogStop _ k)
  rw [(enterStopped_serves s).bitOf k n hk, stop, (unitsOff_serves s).bitOf k n hk]
  exact bitOf_of n (State.get_put_other _ _ _ _ hp)

end Sys2Proof.Machine
end

section
/-! SUPPORT. Confirmation and the first STOPPED (R97, R101, R107, R108, R184), behind `Obligations.ConfirmationAndKindling` and
`Obligations.ProcessCommands`. -/

namespace Sys2Proof.Machine

open Sys2Proof

/-! ### What a confirmation records (R97, R101) -/

/-- The values that a confirmation writes: those of the start, and the saved check value where it makes its bank the preferred one. -/
def confirmKey (k : Nat) : Bool := k / 256 == 0x2300 || k == Key.cfgSavedCheckValue

/-- From `s` to `t` a start was confirmed, or was not there to be confirmed: its fault events, channels and other values stand. -/
structure Confirms (s t : State) : Prop where
  events : t.startup.faultEvents = s.startup.faultEvents
  acts   : t.acts = s.acts
  values : ∀ k, k ∉ eventKeys → confirmKey k = false → t.get k = s.get k

theorem Confirms.refl (s : State) : Confirms s s := ⟨rfl, rfl, fun _ _ _ => rfl⟩
theorem Confirms.trans {s m t : State} (h : Confirms s m) (g : Confirms m t) : Confirms s t :=
  ⟨g.events.trans h.events, g.acts.trans h.acts, fun k hk hc => (g.values k hk hc).trans (h.values k hk hc)⟩
theorem Confirms.put {s m : State} (h : Confirms s m) (k : Nat) (v : Int) (hk : confirmKey k = true) : Confirms s (m.put k v) :=
  ⟨h.events, h.acts, fun j hj hc => (State.get_put_other _ _ _ _ (by rintro rfl; rw [hc] at hk; cases hk)).trans (h.values j hj hc)⟩
theorem Confirms.log {s m : State} (h : Confirms s m) (code source w4 w5 w6 : Nat) : Confirms s (m.log code source w4 w5 w6) :=
  ⟨(congrArg Startup.faultEvents (log_startup _ _ _ _ _ _)).trans h.events, (log_acts _ _ _ _ _ _).trans h.acts,
    fun k hk hc => (get_log _ _ _ _ _ _ k hk).trans (h.values k hk hc)⟩
theorem Confirms.assign {s m : State} (h : Confirms s m) (k : Nat) (v : Int) (hk : confirmKey k = true) : Confirms s (m.assign k v) := by
  have assigned := h.put k v hk
  unfold State.assign
  dsimp only
  split
  · exact ⟨assigned.events, assigned.acts, assigned.values⟩
  · exact assigned

theorem assign_startup (s : State) (k : Nat) (v : Int) : (s.assign k v).startup = s.startup := by unfold State.assign; dsimp only; split <;> rfl

/-- The configuration copies rewritten in FRAM (R97). -/
def State.rewriteCopies (s : State) (f : FramCopy → FramCopy) : State :=
  { s with dict := { s.dict with copyA := f s.dict.copyA, copyB := f s.dict.copyB, saved := f s.dict.saved } }

theorem rewriteCopies_get (s : State) (f : FramCopy → FramCopy) (k : Nat) : (s.rewriteCopies f).get k = s.get k := rfl
theorem rewriteCopies_startup (s : State) (f : FramCopy → FramCopy) : (s.rewriteCopies f).startup = s.startup := rfl
theorem rewriteCopies_acts (s : State) (f : FramCopy → FramCopy) : (s.rewriteCopies f).acts = s.acts := rfl

/-- The start's bank is made the preferred one, in the live table and in both copies (R97). -/
def State.bankPreferred (s : State) (f : FramCopy → FramCopy) (check : Nat) : State :=
  (((s.copiesWritten.assign Key.startBootOrder (Int.ofNat (s.startup.bank - 1))).rewriteCopies f).putN Key.cfgSavedCheckValue check).log 0x0B05 noSource

/-- What a confirmation makes of the bank it started from: nothing, or the preferred one (R97). -/
theorem bankRollback_cases (s : State) : s.bankRollback = s ∨ ∃ f check, s.bankRollback = s.bankPreferred f check := by
  unfold State.bankRollback
  extract_lets b f assigned dict rewritten
  split
  · exact .inl rfl
  · exact .inr ⟨f, checkValueOf rewritten.dict.saved.values rewritten.dict.saved.blocks, rfl⟩

theorem copiesWritten_confirms (s : State) : Confirms s s.copiesWritten := ⟨rfl, rfl, fun _ _ _ => rfl⟩
theorem bankRollback_confirms (s : State) : Confirms s s.bankRollback := by
  rcases bankRollback_cases s with h | ⟨f, check, h⟩
  · rw [h]; exact .refl s
  · rw [h]
    have assigned := (copiesWritten_confirms s).assign Key.startBootOrder (Int.ofNat (s.startup.bank - 1)) (by decide)
    have rewritten : Confirms s ((s.copiesWritten.assign Key.startBootOrder (Int.ofNat (s.startup.bank - 1))).rewriteCopies f) :=
      ⟨(congrArg Startup.faultEvents (rewriteCopies_startup _ f)).trans assigned.events, (rewriteCopies_acts _ f).trans assigned.acts,
        fun k hk hc => (rewriteCopies_get _ f k).trans (assigned.values k hk hc)⟩
    exact (rewritten.put Key.cfgSavedCheckValue check (by decide)).log _ _ _ _ _
theorem bankRollback_startup (s : State) : s.bankRollback.startup = s.startup := by
  rcases bankRollback_cases s with h | ⟨f, check, h⟩
  · rw [h]
  · rw [h, State.bankPreferred, log_startup]
    exact (rewriteCopies_startup _ f).trans (assign_startup _ _ _)
theorem get_bankRollback (s : State) (k : Nat) (hk : k ∉ eventKeys) (hb : k ≠ Key.startBootOrder) (hc : k ≠ Key.cfgSavedCheckValue) :
    s.bankRollback.get k = s.get k := by
  rcases bankRollback_cases s with h | ⟨f, check, h⟩
  · rw [h]
  · have assigned : (s.copiesWritten.assign Key.startBootOrder (Int.ofNat (s.startup.bank - 1))).get k = s.get k := by
      unfold State.assign
      dsimp only
      split
      · exact State.get_put_other s _ _ _ hb
      · exact State.get_put_other s _ _ _ hb
    rw [h, State.bankPreferred, get_log _ _ _ _ _ _ _ hk, State.putN, State.get_put_other _ _ _ _ hc, rewriteCopies_get, assigned]

/-- The start counts from 0 and has no cause (R97, R101). -/
def State.confirmCounted (s : State) : State :=
  (({ s.unitWrote with startup := { s.startup with confirmed := true, cause := some 0 } }).putN Key.startStartCounter 0).putN Key.startCauseLastStart
    (s.startup.cycle * 65536 + s.startup.bank * 256)

/-- A confirmation's records, before anything returns: a warm boot is counted, a cold start logged. -/
def State.confirmRecorded (s : State) : State :=
  (if s.startup.kind = 1 then s.confirmCounted.bump 32 Key.startWarmBoots else s.confirmCounted.log 0x0B01 noSource).bankRollback

theorem confirmCounted_confirms (s : State) : Confirms s s.confirmCounted := by
  have recorded : Confirms s { s.unitWrote with startup := { s.startup with confirmed := true, cause := some 0 } } := ⟨rfl, rfl, fun _ _ _ => rfl⟩
  exact (recorded.put _ _ (by decide)).put _ _ (by decide)
theorem confirmRecorded_confirms (s : State) : Confirms s s.confirmRecorded := by
  unfold State.confirmRecorded
  refine Confirms.trans ?_ (bankRollback_confirms _)
  split
  · exact (confirmCounted_confirms s).put _ _ (by decide)
  · exact (confirmCounted_confirms s).log _ _ _ _ _
theorem confirmRecorded_startup (s : State) : s.confirmRecorded.startup = { s.startup with confirmed := true, cause := some 0 } := by
  unfold State.confirmRecorded
  rw [bankRollback_startup]
  split
  · rfl
  · exact log_startup _ _ _ _ _ _
theorem confirmRecorded_counter (s : State) : s.confirmRecorded.nat Key.startStartCounter = 0 := by
  have counted : s.confirmCounted.get Key.startStartCounter = 0 := (State.get_put_other _ _ _ _ (by decide)).trans (State.get_put_same _ _ _)
  unfold State.confirmRecorded State.nat
  rw [get_bankRollback _ _ (by decide) (by decide) (by decide)]
  split
  · rw [State.get_bump, if_neg (by decide), counted]; rfl
  · rw [get_log _ _ _ _ _ _ _ (by decide), counted]; rfl

/-! ### What a confirmation restores (R95, R613) -/

theorem layOverlay_startup (s : State) (new : List (Nat × Int)) : (s.layOverlay new).startup = s.startup := by
  have puts : ∀ (l : List Nat) (f : Nat → Int) (m : State), (l.foldl (fun m k => m.put k (f k)) m).startup = m.startup := by
    intro l f
    induction l with
    | nil => exact fun _ => rfl
    | cons k t ih => exact fun m => ih _
  exact puts _ _ s
theorem restoreMode_startup (s : State) (n : Nat) : (s.restoreMode n).startup = s.startup := by
  unfold State.restoreMode
  split
  · rfl
  · exact layOverlay_startup s _
theorem stopIfArmed_startup (s : State) : s.stopIfArmed.startup = s.startup := by
  unfold State.stopIfArmed
  split
  · exact enterStopped_startup s
  · rfl
theorem restoreProcess_startup (s : State) (q : Nat) : (s.restoreProcess q).startup = s.startup := by
  unfold State.restoreProcess
  split
  · rfl
  · split
    · exact enterArmed_startup s
    · split
      · rw [(enterRunning_serves _).startup]
        show State.startup (if _ then s else s.enterArmed) = _
        split
        · rfl
        · exact enterArmed_startup s
      · split
        · rw [((((Serves.refl (s.enterArmed.putN Key.procProcessState psFault).watchdogStop).actsSafe).serveDrives).serveOutputs).startup]
          exact enterArmed_startup s
        · exact stopIfArmed_startup s
theorem restoreRecord_startup (s : State) (r : Retention) (agrees : Bool) : (s.restoreRecord r agrees).startup = s.startup := by
  unfold State.restoreRecord
  split
  · rw [restoreProcess_startup, restoreMode_startup]
  · exact stopIfArmed_startup s

/-! ### Confirmation (R97, R100, R101) -/

/-- The record that a start restores is used up. -/
def State.restoreTaken (s : State) : State := { s with startup := { s.startup with restore := none } }

/-- There is a start to confirm. -/
structure State.Confirmable (s : State) : Prop where
  opened      : s.startup.opened = true
  unconfirmed : s.startup.confirmed = false
  started     : s.process ≠ psInit
  serves      : s.process ≠ psKindling

theorem confirmable_iff (s : State) : s.Confirmable ↔
    ¬(s.startup.opened = false ∨ s.startup.confirmed = true ∨ s.process = psInit ∨ s.process = psKindling) := by
  rw [not_or, not_or, not_or, Bool.not_eq_false, Bool.not_eq_true]
  exact ⟨fun h => ⟨h.opened, h.unconfirmed, h.started, h.serves⟩, fun ⟨a, b, c, d⟩ => ⟨a, b, c, d⟩⟩

section
variable {s : State}

theorem confirmStart_none (h : ¬s.Confirmable) : s.confirmStart = s := by
  unfold State.confirmStart
  exact if_pos (not_not.1 fun hn => h ((confirmable_iff s).2 hn))
theorem confirmStart_plain (h : s.Confirmable) (hr : s.startup.restore = none) : s.confirmStart = s.confirmRecorded := by
  have unrestored : s.confirmRecorded.startup.restore = none := by rw [confirmRecorded_startup]; exact hr
  unfold State.confirmStart
  rw [if_neg ((confirmable_iff s).1 h)]
  extract_lets warm unit start counted named recorded
  have eq : recorded = s.confirmRecorded := rfl
  simp only [eq, unrestored]
theorem confirmStart_restores (h : s.Confirmable) (r : Retention) (hr : s.startup.restore = some r) : s.confirmStart =
    s.confirmRecorded.restoreTaken.restoreRecord r (r.checkValue == s.nat Key.cfgSavedCheckValue) := by
  have restored : s.confirmRecorded.startup.restore = some r := by rw [confirmRecorded_startup]; exact hr
  unfold State.confirmStart
  rw [if_neg ((confirmable_iff s).1 h)]
  extract_lets warm unit start counted named recorded
  have eq : recorded = s.confirmRecorded := rfl
  simp only [eq, restored]
  rfl

/-- A start without a record to restore is confirmed, or not there to be confirmed, with nothing else touched. -/
theorem confirmStart_confirms (hr : s.startup.restore = none) : Confirms s s.confirmStart := by
  by_cases h : s.Confirmable
  · rw [confirmStart_plain h hr]; exact confirmRecorded_confirms s
  · rw [confirmStart_none h]; exact .refl s

theorem confirmStart_startup (h : s.Confirmable) : s.confirmStart.startup.confirmed = true ∧ s.confirmStart.startup.cause = some 0 := by
  cases hr : s.startup.restore with
  | none =>
    rw [confirmStart_plain h hr, confirmRecorded_startup]
    exact ⟨rfl, rfl⟩
  | some r =>
    rw [confirmStart_restores h r hr, restoreRecord_startup, State.restoreTaken, confirmRecorded_startup]
    exact ⟨rfl, rfl⟩
end

/-! ### The Kindling commands (R107) -/

/-- The start counter outlasts a reset (R28). -/
theorem nat_enterReset_startCounter (s : State) (cause : Nat) : (s.enterReset cause).nat Key.startStartCounter = s.nat Key.startStartCounter := by
  have kept : (s.recordCause cause).afterReset.get Key.startStartCounter = (s.recordCause cause).saveInterrupted.get Key.startStartCounter :=
    (get_resetKeeping _ _ (by decide) (by decide) (by decide)).trans (if_pos (by decide))
  exact nat_of (kept.trans ((get_saveInterrupted _ _).trans (get_recordCause _ _ _ (by decide))))

theorem trial_enterReset (s : State) (cause : Nat) : (s.enterReset cause).startup.trial = s.startup.trial := by
  show (s.recordCause cause).saveInterrupted.startup.trial = _
  have saved : ∀ m : State, m.saveInterrupted.startup = m.startup := fun m => by unfold State.saveInterrupted; split <;> rfl
  rw [saved]
  unfold State.recordCause
  split <;> rfl

/-- What leaving Kindling mode leaves: the module in reset, the counter as commanded (R107). -/
theorem kindlingLeave_leaves (s : State) (counter : Nat) (trial : Bool) : InReset s (s.kindlingLeave counter trial)
    ∧ (s.kindlingLeave counter trial).nat Key.startStartCounter = counter ∧ (s.kindlingLeave counter trial).startup.trial = trial := by
  unfold State.kindlingLeave
  exact ⟨(inReset_enterReset _ 1).of (.of_fields rfl rfl rfl rfl), (nat_enterReset_startCounter _ 1).trans (State.nat_putN_same _ _ _), trial_enterReset _ 1⟩

/-- An access keeps what a reset keeps. -/
theorem resetKeeps_acknowledged (s : State) (p : Path) : ResetKeeps s (s.acknowledged p) where
  retention c := arch_retention (arch_acknowledged s p c)
  record c := arch_record (arch_acknowledged s p c)
  operating := by rw [State.acknowledged_clock]
  slots := State.acknowledged_images s p
  saved hs := by
    have noted : ∀ m : State, (m.noteAccess p).dict.saveOp = m.dict.saveOp ∧ (m.noteAccess p).dict.copyA = m.dict.copyA
        ∧ (m.noteAccess p).dict.copyB = m.dict.copyB := fun m => by
      unfold State.noteAccess
      dsimp only
      split <;> exact ⟨rfl, rfl, rfl⟩
    have touched : (s.touch p).dict.saveOp = s.dict.saveOp ∧ (s.touch p).dict.copyA = s.dict.copyA ∧ (s.touch p).dict.copyB = s.dict.copyB := by
      unfold State.touch
      split
      · exact noted s
      · rw [← eventWake_dict s]; exact noted _
    exact ⟨touched.1.trans hs, touched.2⟩

/-- Settles O31: a confirmation's records are `State.confirmRecorded`, and what it restores leaves the start's record (`restoreRecord_startup`); the
Kindling commands and the trial leave by `State.kindlingLeave`. What the reset leaves, cores and hidden state at their reset values, is the model's choice
(log 4, log 88). -/
theorem confirmationAndKindling : Obligations.ConfirmationAndKindling := by
  intro s p
  have process : (s.acknowledged p).process = s.process := State.nat_acknowledged s p _ (by decide)
  refine ⟨fun passes opened unconfirmed started serves => ?_, fun passes => ?_, fun passes => ?_, fun running kindling interval => ?_⟩
  · have ready : (s.acknowledged p).Confirmable :=
      ⟨by rw [State.acknowledged_startup, opened], by rw [State.acknowledged_startup, unconfirmed], by rwa [process], by rwa [process]⟩
    obtain ⟨confirmed, cause⟩ := confirmStart_startup ready
    refine ⟨_, congrArg Host.Outcome.next (commanded_accepts s p _ _ _ passes), confirmed, cause, fun hr => ?_⟩
    rw [confirmStart_plain ready (by rw [State.acknowledged_startup, hr])]
    exact confirmRecorded_counter _
  · obtain ⟨reset, counter, trial⟩ := kindlingLeave_leaves (s.acknowledged p) 0 false
    exact ⟨_, congrArg Host.Outcome.next (commanded_accepts s p _ _ _ passes), reset.of (resetKeeps_acknowledged s p), counter, trial⟩
  · obtain ⟨reset, counter, trial⟩ := kindlingLeave_leaves (s.acknowledged p) (s.acknowledged p).trialCount true
    have threshold : (s.acknowledged p).trialCount = s.nat Key.startKindlingThreshold - 2 :=
      congrArg (· - 2) (State.nat_acknowledged s p _ (by decide))
    exact ⟨_, congrArg Host.Outcome.next (commanded_accepts s p _ _ _ passes), reset.of (resetKeeps_acknowledged s p), counter.trans threshold, trial⟩
  · exact ⟨_, congrArg Host.Outcome.next (if_pos ⟨running, kindling, interval⟩), kindlingLeave_leaves s s.trialCount true⟩

/-! ### The first STOPPED (R101, R184, R461) -/

theorem programStart_acts (s : State) (c : Fin 4) (intact : Bool) : (s.programStart c intact).acts = s.acts := by
  unfold State.programStart
  split
  · rfl
  · split
    · rfl
    · split
      · rfl
      · exact log_acts _ _ _ _ _ _
theorem programsAutostart_acts (s : State) : s.programsAutostart.acts = s.acts := by
  unfold State.programsAutostart
  generalize stokers = l
  induction l generalizing s with
  | nil => rfl
  | cons c t ih =>
    refine (ih _).trans ?_
    dsimp only
    split
    · exact programStart_acts s c true
    · rfl

/-- The state in which STOPPED has been reached: channels are scanned (R184). -/
def State.scanBegun (s : State) : State := { s with startup := { s.startup with stoppedOnce := true }, front := { s.front with scanning := true } }

/-- Programs with autostart have started, before the confirmation of AUTO mode (R101, R461). -/
theorem stoppedReached_eq (s : State) (h : s.startup.stoppedOnce = false) : s.stoppedReached =
    if s.scanBegun.serveCores.programsAutostart.nat Key.startConfirmationMode = 0 then s.scanBegun.serveCores.programsAutostart.confirmStart
    else s.scanBegun.serveCores.programsAutostart := if_neg (by rw [h]; decide)

theorem autostarted_acts (s : State) : s.scanBegun.serveCores.programsAutostart.acts = s.acts :=
  (programsAutostart_acts _).trans (SameUnits.refl s.scanBegun).serveCores.acts

/-- STOPPED reached, without a record to restore: fault events, channels and the module's own values outside the start's stand. -/
structure Reaches (s t : State) : Prop where
  events : t.startup.faultEvents = s.startup.faultEvents
  acts   : t.acts = s.acts
  values : ∀ k, steady false k = true → confirmKey k = false → t.get k = s.get k

theorem stoppedReached_reaches (s : State) (h : s.startup.stoppedOnce = true ∨ s.startup.restore = none) : Reaches s s.stoppedReached := by
  by_cases once : s.startup.stoppedOnce = true
  · rw [show s.stoppedReached = s from if_pos once]
    exact ⟨rfl, rfl, fun _ _ _ => rfl⟩
  · have served : Serves false s.scanBegun s.scanBegun.serveCores.programsAutostart := (Serves.refl _).serveCores.programsAutostart
    have confirms : Confirms s.scanBegun.serveCores.programsAutostart s.scanBegun.serveCores.programsAutostart.confirmStart :=
      confirmStart_confirms (by rw [served.startup]; exact h.resolve_left once)
    have started : Reaches s s.scanBegun.serveCores.programsAutostart :=
      ⟨by rw [served.startup]; rfl, autostarted_acts s, fun k hk _ => served.values k hk⟩
    rw [stoppedReached_eq s (Bool.eq_false_iff.2 once)]
    split
    · exact ⟨confirms.events.trans started.events, confirms.acts.trans started.acts,
        fun k hk hc => (confirms.values k (not_event_of_steady hk) hc).trans (started.values k hk hc)⟩
    · exact started

/-! ### The process commands (R108) -/

theorem answers_processRow (s : State) (p : Path) (v : Nat) {P : State → Prop} (passes : Accepts s p Key.procCommand v)
    (h : P ((s.acknowledged p).processCommand v)) : ∃ t, Host.Outcome.next (φ := Fault) (ρ := Refusal) (s.processRow p v) = .next t ∧ P t :=
  ⟨_, congrArg Host.Outcome.next (commanded_accepts s p _ _ _ passes), h⟩

theorem emcyReset_acts (s : State) : s.emcyReset.acts = s.acts := by
  have sent : ∀ more tail, (s.emcyQueue 0 more tail).acts = s.acts := fun more tail => by
    unfold State.emcyQueue State.sendOwn
    dsimp only
    rw [if_pos rfl]
    split <;> rfl
  unfold State.emcyReset State.emcySend
  split
  · rfl
  · split
    · rfl
    · dsimp only
      split
      · exact sent _ _
      · exact sent _ _

/-- ALL_SAFE has ended (R253). -/
theorem allSafeEnds_ended (s : State) : s.allSafeEnds.bitOf Key.bellowsGlobalStatus 0 = false := by
  show (((s.putBit Key.bellowsGlobalStatus 0 false).putBit Key.bellowsGlobalStatus 1 false).putBit Key.bellowsGlobalStatus 2 false).bitOf _ 0 = false
  rw [bitOf_putBit_bit _ _ _ _ _ (by decide), bitOf_putBit_bit _ _ _ _ _ (by decide), bitOf_putBit_same]

/-- What a fault reset leaves to the first STOPPED: STOPPED entered, no fault event pending, the EMCY of its end sent (R108, R512). -/
def State.faultsDropped (s : State) : State :=
  State.emcyReset { s.allSafeEnds.enterStopped with startup := { s.allSafeEnds.enterStopped.startup with faultEvents := [] } }

theorem resetFault_eq (s : State) : s.processCommand 5 = s.faultsDropped.stoppedReached := rfl

/-- The state behind a fault reset (R108). -/
structure FaultEnded (t : State) : Prop where
  process : t.process = psStopped
  allSafe : t.bitOf Key.bellowsGlobalStatus 0 = false
  events  : t.startup.faultEvents = []
  idle    : t.ActsIdle

theorem faultsDropped_serves (s : State) : Serves false
    { s.allSafeEnds.enterStopped with startup := { s.allSafeEnds.enterStopped.startup with faultEvents := [] } } s.faultsDropped := (Serves.refl _).emcyReset
theorem faultsDropped_ended (s : State) : FaultEnded s.faultsDropped where
  process := (faultsDropped_serves s).process.trans (enterStopped_process s.allSafeEnds)
  allSafe := by
    rw [(faultsDropped_serves s).bitOf _ _]
    exact (enterStopped_bitOf s.allSafeEnds _ 0 (by decide) (by decide)).trans (allSafeEnds_ended s)
  events := congrArg Startup.faultEvents (faultsDropped_serves s).startup
  idle := State.ActsIdle.of (s := s.allSafeEnds.enterStopped) (enterStopped_outputs _).1 (emcyReset_acts _)

theorem FaultEnded.of {s t : State} (h : FaultEnded s) (g : Reaches s t) : FaultEnded t :=
  ⟨(nat_of (g.values _ (by decide) (by decide))).trans h.process, (bitOf_of 0 (g.values _ (by decide) (by decide))).trans h.allSafe,
    g.events.trans h.events, h.idle.of g.acts⟩

theorem faultsDropped_startup (s : State) : s.faultsDropped.startup = { s.startup with faultEvents := [] } := by
  rw [(faultsDropped_serves s).startup, enterStopped_startup]
  rfl

/-- Settles O32: each command enters its process state (`enterArmed_process` and its kin); STOPPED leaves channels off and drives at 0
(`enterStopped_outputs`), and a fault reset goes on from there to the first STOPPED (`stoppedReached_reaches`). -/
theorem processCommands : Obligations.ProcessCommands := by
  intro s p
  refine ⟨fun h => answers_processRow s p 1 h (enterArmed_process _), fun h => answers_processRow s p 2 h (enterRunning_process _),
    fun h => answers_processRow s p 3 h (enterArmed_process _), fun h => answers_processRow s p 4 h ?_, fun h started => answers_processRow s p 5 h ?_⟩
  · exact ⟨enterStopped_process _, enterStopped_watchdog _, enterStopped_outputs _⟩
  · rw [resetFault_eq]
    have ended : FaultEnded (s.acknowledged p).faultsDropped.stoppedReached :=
      (faultsDropped_ended _).of (stoppedReached_reaches _ (by rw [faultsDropped_startup, State.acknowledged_startup]; exact started))
    exact ⟨ended.process, ended.allSafe, ended.events, ended.idle⟩

end Sys2Proof.Machine
end

section
/-! SUPPORT. Table builds of Kelsis (R307-R310), behind `Obligations.KelsisTablesAndPredictors`. -/

namespace Sys2Proof.Machine

open Sys2Proof

/-! ### Grain types -/

theorem grains_setGrain (s : State) (g j : Fin 16) (f : KGrain → KGrain) :
    (s.setGrain g f).kelsis.grains[j] = if g = j then f s.kelsis.grains[j] else s.kelsis.grains[j] := by
  simp only [State.setGrain, Fin.getElem_fin, Vector.getElem_set, Fin.ext_iff]
  split
  · rename_i h; simp only [h]
  · rfl
theorem grains_setGrain_same (s : State) (g : Fin 16) (f : KGrain → KGrain) : (s.setGrain g f).kelsis.grains[g] = f s.kelsis.grains[g] :=
  (grains_setGrain s g g f).trans (if_pos rfl)

/-! ### The builder as it shows itself (R337) -/

/-- The keys that show the builder. -/
def builderKeys : List Nat := [Key.tablesBuilderState, Key.tablesGrainTypeBuilding]

theorem showBuilder_only {s m : State} (h : Only s m builderKeys) : Only s m.showBuilder builderKeys :=
  (h.putN _ _ (by decide)).putN _ _ (by decide)
theorem showBuilder_kelsis (s : State) : s.showBuilder.kelsis = s.kelsis := rfl
theorem get_showBuilder (s : State) (k : Nat) (h : k ∉ builderKeys) : s.showBuilder.get k = s.get k := (showBuilder_only (.refl s _)).values k h

theorem showBuilder_builds (s : State) (x : KBuild) (h : s.kelsis.building = some x) :
    s.showBuilder.nat Key.tablesBuilderState = 1 ∧ s.showBuilder.nat Key.tablesGrainTypeBuilding = x.grain := by
  unfold State.showBuilder
  rw [h]
  exact ⟨(nat_putN_of_ne _ _ _ _ (by decide)).trans (State.nat_putN_same _ _ _), State.nat_putN_same _ _ _⟩
theorem showBuilder_waits (s : State) (g : Fin 16) (h : s.kelsis.building = none) (hg : (s.kelsis.grains[g]).ready.isSome = true) :
    s.showBuilder.nat Key.tablesBuilderState = 2 := by
  have waiting : (List.finRange 16).any (fun (g : Fin 16) => (s.kelsis.grains[g]).ready.isSome) = true :=
    List.any_eq_true.2 ⟨g, List.mem_finRange g, hg⟩
  unfold State.showBuilder
  rw [h, waiting]
  exact (nat_putN_of_ne _ _ _ _ (by decide)).trans (State.nat_putN_same _ _ _)

/-! ### A build's start (R290, R308) -/

/-- The state with a build of g under way, before the builder shows it. -/
def State.buildBegun (s : State) (g : Fin 16) : State :=
  { s.setGrain g (fun t => { t with want := false, ready := none }) with
    kelsis := { (s.setGrain g (fun t => { t with want := false, ready := none })).kelsis with building := some ⟨g, false, s.buildPressure g⟩ } }

theorem buildBegun_building (s : State) (g : Fin 16) : (s.buildBegun g).kelsis.building = some ⟨g, false, s.buildPressure g⟩ := rfl
theorem buildBegun_grains (s : State) (g : Fin 16) : ((s.buildBegun g).kelsis.grains[g]).want = false :=
  congrArg KGrain.want (grains_setGrain_same s g fun t => { t with want := false, ready := none })

theorem tableBuildStart_starts (s : State) (g : Fin 16) (want : (s.kelsis.grains[g]).want = true) (idle : s.kelsis.building = none)
    (runs : s.clocksRun = true) (there : s.process ≠ psKindling) : execTableBuildStart g s = .next (s.startBuild g) := by
  have present : s.kelsisThere = true := bne_iff_ne.2 there
  unfold execTableBuildStart
  rw [want, idle, runs, present]
  rfl
theorem tableBuildStart_kindling (s : State) (g : Fin 16) (h : s.process = psKindling) : execTableBuildStart g s = .next s := by
  have absent : s.kelsisThere = false := by unfold State.kelsisThere; rw [h]; rfl
  unfold execTableBuildStart
  rw [absent, Bool.and_false, if_neg Bool.false_ne_true]

/-! ### A build's end (R307, R308) -/

/-- A build has ended: its time is taken, and no build is under way. -/
def State.buildEnded (s : State) : State :=
  let timed := s.freeNat.2.putN Key.tablesLastBuildTime (s.freeNat.1 % (if s.estThrottled then 80001 else 40001))
  { timed with kelsis := { timed.kelsis with building := none } }

/-- The build of g has failed at an entry. -/
def State.buildFailed (s : State) (g : Fin 16) (ij : Nat × Nat) : State :=
  (((s.setGrain g (fun g => { g with failed := true })).bump 32 Key.tablesBuildFailures).log 0x0505 noSource g ij.1 ij.2).showBuilder
/-- The build of g is ready. -/
def State.buildReady (s : State) (g : Fin 16) (t : KTable) : State := (s.setGrain g (fun g => { g with ready := some t, failed := false })).showBuilder

theorem tableBuildDone_kindling (s : State) (h : s.process = psKindling) : execTableBuildDone s = .next s := by
  have absent : s.kelsis.building.filter (fun _ => s.kelsisThere) = none := by
    unfold State.kelsisThere
    rw [h]
    cases s.kelsis.building <;> rfl
  unfold execTableBuildDone State.served
  beta_reduce
  split
  · rw [absent]
  · rfl
section
variable {s : State} {x : KBuild} (runs : s.clocksRun = true) (there : s.process ≠ psKindling) (under : s.kelsis.building = some x)
include there under

theorem building_there : s.kelsis.building.filter (fun _ => s.kelsisThere) = some x := by
  have present : s.kelsisThere = true := bne_iff_ne.2 there
  rw [under, present]
  rfl

include runs

theorem tableBuildDone_outdated (h : x.outdated = true) : execTableBuildDone s = .next (s.buildEnded.startBuild x.grain) := by
  unfold execTableBuildDone State.served
  beta_reduce
  rw [if_pos runs, building_there there under]
  exact congrArg Host.Outcome.next (if_pos h)
theorem tableBuildDone_failed (h : x.outdated = false) (ij : Nat × Nat) (hf : (buildTable s.get x.grain x.pressure).failure = some ij) :
    execTableBuildDone s = .next (s.buildEnded.buildFailed x.grain ij) := by
  unfold execTableBuildDone State.served
  beta_reduce
  rw [if_pos runs, building_there there under]
  extract_lets drawn timed unit ended
  refine congrArg Host.Outcome.next ((if_neg (Bool.eq_false_iff.1 h : ¬x.outdated = true)).trans ?_)
  extract_lets made
  have eq : made.failure = some ij := hf
  rw [eq]
  rfl
theorem tableBuildDone_ready (h : x.outdated = false) (hf : (buildTable s.get x.grain x.pressure).failure = none) :
    execTableBuildDone s = .next (s.buildEnded.buildReady x.grain (buildTable s.get x.grain x.pressure)) := by
  unfold execTableBuildDone State.served
  beta_reduce
  rw [if_pos runs, building_there there under]
  extract_lets drawn timed unit ended
  refine congrArg Host.Outcome.next ((if_neg (Bool.eq_false_iff.1 h : ¬x.outdated = true)).trans ?_)
  extract_lets made
  have eq : made.failure = none := hf
  rw [eq]
  rfl
end

theorem buildEnded_idle (s : State) : s.buildEnded.kelsis.building = none := rfl
theorem buildEnded_ash (s : State) : s.buildEnded.ash = s.ash := rfl
theorem get_buildEnded (s : State) (k : Nat) (h : k ≠ Key.tablesLastBuildTime) : s.buildEnded.get k = s.get k := State.get_put_other _ _ _ _ h

theorem buildReady_ready (s : State) (g : Fin 16) (t : KTable) (idle : s.kelsis.building = none) : (s.buildReady g t).kelsis.building = none
    ∧ ((s.buildReady g t).kelsis.grains[g]).ready = some t ∧ ((s.buildReady g t).kelsis.grains[g]).failed = false
    ∧ (s.buildReady g t).nat Key.tablesBuilderState = 2 := by
  have made : (s.setGrain g (fun g => { g with ready := some t, failed := false })).kelsis.grains[g] = { s.kelsis.grains[g] with ready := some t, failed := false } :=
    grains_setGrain_same s g _
  exact ⟨idle, congrArg KGrain.ready made, congrArg KGrain.failed made, showBuilder_waits _ g idle (by rw [made]; rfl)⟩

theorem buildFailed_fails (s : State) (g : Fin 16) (ij : Nat × Nat) (idle : s.kelsis.building = none) : (s.buildFailed g ij).kelsis.building = none
    ∧ ((s.buildFailed g ij).kelsis.grains[g]).failed = true ∧ ((s.buildFailed g ij).kelsis.grains[g]).active = (s.kelsis.grains[g]).active
    ∧ (s.buildFailed g ij).nat Key.tablesBuildFailures = satSucc 32 (s.nat Key.tablesBuildFailures)
    ∧ (s.logOpen → (s.buildFailed g ij).lastLogged 0x0505 noSource g ij.1 ij.2) := by
  have failed : (s.setGrain g (fun g => { g with failed := true })).kelsis.grains[g] = { s.kelsis.grains[g] with failed := true } :=
    grains_setGrain_same s g _
  have logged : (s.buildFailed g ij).kelsis = (s.setGrain g (fun g => { g with failed := true })).kelsis := log_kelsis _ _ _ _ _ _
  refine ⟨by rw [logged]; exact idle, by rw [logged, failed], by rw [logged, failed], ?_, fun opened => ?_⟩
  · unfold State.buildFailed State.nat
    rw [get_showBuilder _ _ (by decide), get_log _ _ _ _ _ _ _ (by decide), State.get_bump, if_pos rfl]
    rfl
  · exact lastLogged_log _ _ _ _ _ _ (logOpen_of opened rfl (by rw [State.get_bump, if_neg (by decide)]; rfl))

/-! ### Triggers (R308) -/

theorem get_triggerBuild (s : State) (g : Fin 16) (k : Nat) (h : k ∉ builderKeys) : (s.triggerBuild g).get k = s.get k := by
  unfold State.triggerBuild
  split
  · rfl
  · split
    · exact (get_showBuilder _ _ h).trans rfl
    · rfl

/-- With no build under way a trigger wants one of a grain type in use (R308). -/
theorem triggerBuild_idle (s : State) (g : Fin 16) (idle : s.kelsis.building = none) : s.triggerBuild g =
    if s.grainUsed g then (s.setGrain g (fun t => { t with want := true, ready := none })).showBuilder else s := by
  unfold State.triggerBuild
  rw [idle]
  rfl

/-- From `s` to `t` grain types of `l` in use were triggered, with no build under way. -/
structure Triggered (s t : State) (l : List (Fin 16)) : Prop where
  only   : Only { s with kelsis := t.kelsis } t builderKeys
  idle   : t.kelsis.building = none
  cols   : t.kelsis.columns = s.kelsis.columns
  grains : ∀ j : Fin 16, t.kelsis.grains[j] = if j ∈ l ∧ s.grainUsed j then { s.kelsis.grains[j] with want := true, ready := none } else s.kelsis.grains[j]

/-- Only the columns and their values decide which grain types are in use. -/
theorem grainUsed_of {s t : State} (h : ∀ c : Fin 4, t.get (Key.colEnable c) = s.get (Key.colEnable c) ∧ t.get (Key.colGrainType c) = s.get (Key.colGrainType c))
    (hc : t.kelsis.columns = s.kelsis.columns) (g : Fin 16) : t.grainUsed g = s.grainUsed g := by
  have enable : ∀ c : Fin 4, t.flag (Key.colEnable c) = s.flag (Key.colEnable c) := fun c => by
    unfold State.flag; rw [(h c).1]
  have type : ∀ c : Fin 4, t.grainOf c = s.grainOf c := fun c => by
    unfold State.grainOf; rw [nat_of (h c).2]
  unfold State.grainUsed
  simp only [enable, type, hc]

theorem column_values_apart (c : Fin 4) : (Key.colEnable c ∉ builderKeys ∧ Key.colGrainType c ∉ builderKeys)
    ∧ Key.colEnable c ∉ eventKeys ∧ Key.colGrainType c ∉ eventKeys := by revert c; decide

theorem Triggered.triggerBuild {s t : State} {l : List (Fin 16)} (h : Triggered s t l) (g : Fin 16) (hg : g ∉ l) : Triggered s (t.triggerBuild g) (l ++ [g]) := by
  have used : t.grainUsed g = s.grainUsed g := grainUsed_of (s := s)
    (fun c => ⟨h.only.values _ (column_values_apart c).1.1, h.only.values _ (column_values_apart c).1.2⟩) h.cols g
  rw [triggerBuild_idle t g h.idle, used]
  split
  · rename_i inUse
    refine ⟨?_, h.idle, h.cols, fun j => ?_⟩
    · let triggered := t.setGrain g (fun t => { t with want := true, ready := none })
      exact showBuilder_only ⟨congrArg (fun x : State => { x with kelsis := triggered.kelsis }) h.only.rest, h.only.values⟩
    · rw [showBuilder_kelsis, grains_setGrain, h.grains j]
      by_cases same : g = j
      · subst same
        rw [if_pos rfl, if_neg (fun both => hg both.1), if_pos ⟨List.mem_append_right _ (List.mem_singleton_self _), inUse⟩]
      · simp only [if_neg same, List.mem_append, List.mem_singleton, Ne.symm same, or_false]
  · rename_i unused
    refine ⟨h.only, h.idle, h.cols, fun j => (h.grains j).trans ?_⟩
    by_cases same : g = j
    · subst same
      rw [if_neg (fun both => unused both.2), if_neg (fun both => unused both.2)]
    · simp only [List.mem_append, List.mem_singleton, Ne.symm same, or_false]

theorem tableRebuild_triggers (s : State) (idle : s.kelsis.building = none) : Triggered s s.tableRebuild (List.finRange 16) := by
  have fold : ∀ (l done : List (Fin 16)) (t : State), (done ++ l).Nodup → Triggered s t done →
      Triggered s (l.foldl (fun s (g : Fin 16) => s.triggerBuild g) t) (done ++ l) := by
    intro l
    induction l with
    | nil => intro done t _ h; rw [List.append_nil]; exact h
    | cons g rest ih =>
      intro done t distinct h
      have fresh : g ∉ done := fun hm => (List.nodup_append.1 distinct).2.2 g hm g List.mem_cons_self rfl
      rw [List.append_cons] at distinct ⊢
      exact ih (done ++ [g]) _ distinct (h.triggerBuild g fresh)
  refine fold (List.finRange 16) [] s (List.nodup_finRange 16) ⟨.refl s _, idle, rfl, fun j => ?_⟩
  rw [if_neg (fun both => List.not_mem_nil both.1)]

end Sys2Proof.Machine
end

section
/-! SUPPORT. A record copied into a grain type (R310) and the shedding stage (R328, R329), behind `Obligations.KelsisTablesAndPredictors`. -/

namespace Sys2Proof.Machine

open Sys2Proof

/-! ### A record of the file (R310) -/

theorem get_assign_same (s : State) (k : Nat) (v : Int) : (s.assign k v).get k = v := by
  unfold State.assign
  dsimp only
  split
  · exact State.get_put_same s k v
  · exact State.get_put_same s k v
theorem get_assign_other (s : State) (k j : Nat) (v : Int) (h : j ≠ k) : (s.assign k v).get j = s.get j := by
  unfold State.assign
  dsimp only
  split
  · exact State.get_put_other s k j v h
  · exact State.get_put_other s k j v h
theorem assign_blk (s : State) (k : Nat) (v : Int) : (s.assign k v).blk = s.blk := by unfold State.assign; dsimp only; split <;> rfl
theorem fileValue_of {s t : State} (h : t.blk = s.blk) (e sub : Nat) : t.fileValue e sub = s.fileValue e sub := by
  unfold State.fileValue State.block; rw [h]

theorem grainKey_injective {g a b : Nat} (h : grainKey g a = grainKey g b) : a = b := by unfold grainKey at h; omega

/-- The values of record e at the offsets of a list, written into grain type g. -/
def State.copyRecord (s : State) (g e : Nat) (l : List Nat) : State := l.foldl (fun s i => s.assign (grainKey g (i + 2)) (s.fileValue e (i + 2))) s

theorem get_copyRecord_other (s : State) (g e : Nat) (l : List Nat) (k : Nat) (h : ∀ i ∈ l, k ≠ grainKey g (i + 2)) : (s.copyRecord g e l).get k = s.get k := by
  induction l generalizing s with
  | nil => rfl
  | cons i t ih =>
    exact (ih (s.assign (grainKey g (i + 2)) (s.fileValue e (i + 2))) fun j hj => h j (List.mem_cons_of_mem _ hj)).trans
      (get_assign_other s _ k _ (h i List.mem_cons_self))

theorem get_copyRecord (s : State) (g e : Nat) (l : List Nat) (distinct : l.Nodup) (i : Nat) (h : i ∈ l) :
    (s.copyRecord g e l).get (grainKey g (i + 2)) = s.fileValue e (i + 2) := by
  induction l generalizing s with
  | nil => cases h
  | cons j t ih =>
    obtain ⟨fresh, rest⟩ := List.nodup_cons.1 distinct
    rcases List.mem_cons.1 h with rfl | hm
    · refine (get_copyRecord_other (s.assign (grainKey g (i + 2)) (s.fileValue e (i + 2))) g e t _ fun j hj same => ?_).trans (get_assign_same s _ _)
      have eq := grainKey_injective same
      exact fresh ((show i = j by omega) ▸ hj)
    · exact (ih (s.assign (grainKey g (j + 2)) (s.fileValue e (j + 2))) rest hm).trans (fileValue_of (assign_blk s _ _) e _)

theorem get_loadFromFile (s : State) (g : Fin 16) (e i : Nat) (h : i < 14) : (s.loadFromFile g e).get (grainKey g (i + 2)) = s.fileValue e (i + 2) := by
  have shown : grainKey g (i + 2) ∉ builderKeys := by
    unfold grainKey builderKeys Key.tablesBuilderState Key.tablesGrainTypeBuilding
    simp only [List.mem_cons, List.not_mem_nil, or_false, not_or]
    omega
  exact (get_triggerBuild _ g _ shown).trans (get_copyRecord s g e _ List.nodup_range i (List.mem_range.2 h))
theorem get_loadFromFile_other (s : State) (g : Fin 16) (e k : Nat) (h : ∀ i < 14, k ≠ grainKey g (i + 2)) (hb : k ∉ builderKeys) :
    (s.loadFromFile g e).get k = s.get k :=
  (get_triggerBuild _ g k hb).trans (get_copyRecord_other s g e _ k fun i hi => h i (List.mem_range.1 hi))

/-! ### What stands of the estimator -/

/-- The keys of Kelsis and of its columns (R334-R336). -/
def estimatorKey (k : Nat) : Bool := 0x3000 ≤ k / 256 && k / 256 < 0x3014

theorem not_estimator {i j : Nat} (hi : i < 0x3000 ∨ 0x3014 ≤ i := by omega) (hj : j < 256 := by omega) : estimatorKey (i * 256 + j) = false := by
  have index : (i * 256 + j) / 256 = i := by omega
  unfold estimatorKey
  rw [index, Bool.and_eq_false_iff, decide_eq_false_iff_not, decide_eq_false_iff_not]
  omega
theorem not_event_of_estimator {k : Nat} (h : estimatorKey k = true) : k ∉ eventKeys := fun hk => by
  have none : ∀ j ∈ eventKeys, estimatorKey j = false := by decide
  rw [none k hk] at h
  cases h

/-- From `s` to `t` the estimator's values stand, and so does whether an overrun waits for the next evaluation. -/
structure Estimator (s t : State) : Prop where
  overrun : t.kelsis.overrun = s.kelsis.overrun
  values  : ∀ k, estimatorKey k = true → t.get k = s.get k

section
variable {s m t : State}

theorem Estimator.refl (s : State) : Estimator s s := ⟨rfl, fun _ _ => rfl⟩
theorem Estimator.ite {p : Prop} [Decidable p] (h : Estimator s m) (g : Estimator s t) : Estimator s (if p then m else t) := by
  split
  · exact h
  · exact g
theorem Estimator.foldl {α : Type} (f : State → α → State) (l : List α) (h : Estimator s m) (hf : ∀ m x, Estimator s m → Estimator s (f m x)) :
    Estimator s (l.foldl f m) := by
  induction l generalizing m with
  | nil => exact h
  | cons x t ih => exact ih (hf _ _ h)
theorem Estimator.nat (h : Estimator s t) (k : Nat) (hk : estimatorKey k = true := by decide) : t.nat k = s.nat k := nat_of (h.values k hk)

theorem Estimator.put (h : Estimator s m) (k : Nat) (v : Int) (hk : estimatorKey k = false) : Estimator s (m.put k v) :=
  ⟨h.overrun, fun j hj => (State.get_put_other _ _ _ _ (by rintro rfl; rw [hj] at hk; cases hk)).trans (h.values j hj)⟩
theorem Estimator.putBit (h : Estimator s m) (k n : Nat) (b : Bool) (hk : estimatorKey k = false) : Estimator s (m.putBit k n b) := h.put k _ hk
theorem Estimator.bump (h : Estimator s m) (w k : Nat) (hk : estimatorKey k = false) : Estimator s (State.bump w m k) := h.put k _ hk
theorem Estimator.setOutput (h : Estimator s m) (k : Fin 8) (f : OutputUnit → OutputUnit) : Estimator s (m.setOutput k f) := ⟨h.overrun, h.values⟩
theorem Estimator.setPredictor (h : Estimator s m) (c : Fin 4) (f : KPredictor → KPredictor) : Estimator s (m.setPredictor c f) := ⟨h.overrun, h.values⟩
theorem Estimator.log (h : Estimator s m) (code source w4 w5 w6 : Nat) : Estimator s (m.log code source w4 w5 w6) :=
  ⟨(congrArg Kelsis.overrun (log_kelsis _ _ _ _ _ _)).trans h.overrun, fun k hk => (get_log _ _ _ _ _ _ k (not_event_of_estimator hk)).trans (h.values k hk)⟩

theorem Estimator.serveOutput (h : Estimator s m) (k : Fin 8) : Estimator s (m.serveOutput k) := by
  unfold State.serveOutput
  extract_lets now held r clamped forced shown pinned
  have hf : Estimator s forced := .ite ((h.setOutput k _).bump _ _ not_estimator) (h.setOutput k _)
  clear_value forced
  have hp : Estimator s pinned := (((hf.put _ _ not_estimator).put _ _ not_estimator).putBit _ _ _ not_estimator).setOutput k _
  exact .ite ((hp.putBit _ _ _ not_estimator).putBit _ _ _ not_estimator) hp
theorem Estimator.serveColumnOutputs (h : Estimator s m) (c : Nat) : Estimator s (m.serveColumnOutputs c) :=
  .foldl _ _ h fun _ k g => .ite (g.serveOutput k) g

/-! ### Reasons (R323, R336) -/

/-- A reason is a bit of its column's word; the outputs that take the column follow. -/
theorem setReason_serves (s : State) (c n : Nat) (b : Bool) : Estimator (s.putBit (Key.colHealthReasons c) n b) (s.setReason c n b) := by
  unfold State.setReason State.setReasons
  extract_lets old named
  have h : Estimator (s.putBit (Key.colHealthReasons c) n b) named := .refl _
  clear_value named
  exact .ite ((h.log _ _ _ _ _).serveColumnOutputs c) (.ite (h.serveColumnOutputs c) h)

theorem colHealthReasons_estimator (c : Nat) (h : c < 4) : estimatorKey (Key.colHealthReasons c) = true := by
  interval_cases c <;> decide

theorem setReason_overrun (s : State) (c n : Nat) (b : Bool) : (s.setReason c n b).kelsis.overrun = s.kelsis.overrun := (setReason_serves s c n b).overrun
theorem get_setReason_other (s : State) (c n : Nat) (b : Bool) (k : Nat) (hk : estimatorKey k = true) (hc : k ≠ Key.colHealthReasons c) :
    (s.setReason c n b).get k = s.get k := ((setReason_serves s c n b).values k hk).trans (State.get_put_other _ _ _ _ hc)
theorem bitOf_setReason_same (s : State) (c n : Nat) (b : Bool) (h : c < 4) : (s.setReason c n b).bitOf (Key.colHealthReasons c) n = b :=
  (bitOf_of n ((setReason_serves s c n b).values _ (colHealthReasons_estimator c h))).trans (bitOf_putBit_same _ _ _ _)

/-- One reason in the columns of a list. -/
def State.reasonIn (s : State) (n : Nat) (b : Bool) (l : List Nat) : State := l.foldl (fun s c => s.setReason c n b) s

theorem reasonIn_overrun (s : State) (n : Nat) (b : Bool) (l : List Nat) : (s.reasonIn n b l).kelsis.overrun = s.kelsis.overrun := by
  induction l generalizing s with
  | nil => rfl
  | cons c t ih => exact (ih (s.setReason c n b)).trans (setReason_overrun s c n b)
theorem get_reasonIn_other (s : State) (n : Nat) (b : Bool) (l : List Nat) (k : Nat) (hk : estimatorKey k = true) (hc : ∀ c ∈ l, k ≠ Key.colHealthReasons c) :
    (s.reasonIn n b l).get k = s.get k := by
  induction l generalizing s with
  | nil => rfl
  | cons c t ih =>
    exact (ih (s.setReason c n b) fun d hd => hc d (List.mem_cons_of_mem _ hd)).trans (get_setReason_other s c n b k hk (hc c List.mem_cons_self))
theorem bitOf_reasonIn (s : State) (n : Nat) (b : Bool) (l : List Nat) (c : Nat) (h : c < 4) (hc : c ∈ l ∨ s.bitOf (Key.colHealthReasons c) n = b) :
    (s.reasonIn n b l).bitOf (Key.colHealthReasons c) n = b := by
  induction l generalizing s with
  | nil => exact hc.resolve_left List.not_mem_nil
  | cons d t ih =>
    refine ih (s.setReason d n b) ?_
    by_cases same : c = d
    · subst same
      exact .inr (bitOf_setReason_same s c n b h)
    · have other : Key.colHealthReasons c ≠ Key.colHealthReasons d := by unfold Key.colHealthReasons; omega
      exact hc.imp (fun hm => (List.mem_cons.1 hm).resolve_left same)
        fun hb => (bitOf_of n (get_setReason_other s d n b _ (colHealthReasons_estimator c h) other)).trans hb

/-! ### What predictors see outside their step ends (R355-R357) -/

theorem Estimator.fallBack (h : Estimator s m) (c : Fin 4) : Estimator s (m.fallBack c) := (h.put _ _ not_estimator).setPredictor c _
theorem Estimator.healthSeen (h : Estimator s m) (c : Fin 4) : Estimator s (m.healthSeen false c) := by
  unfold State.healthSeen
  extract_lets r seen all
  have hs : Estimator s seen := h.setPredictor c _
  rw [if_neg Bool.false_ne_true]
  exact .ite hs (.ite (hs.fallBack c) (.ite (hs.put _ _ not_estimator) hs))

theorem Estimator.restage (h : Estimator s m) : Estimator s m.restage := .foldl _ _ h fun _ c g => g.setPredictor c _
end

end Sys2Proof.Machine
end

section
/-! SUPPORT. The evaluation of shedding (R328, R329), behind `Obligations.KelsisTablesAndPredictors`. -/

namespace Sys2Proof.Machine

open Sys2Proof

/-! ### The load that is judged (R325, R355) -/

section
variable {w v : View} (same : ∀ k, 0x3010 * 256 ≤ k → w k = v k)
include same

theorem viewNat_congr (k : Nat) (h : 0x3010 * 256 ≤ k) : w.nat k = v.nat k := congrArg Int.toNat (same k h)

theorem chainFrom_congr (n c : Nat) : chainFrom w n c = chainFrom v n c := by
  induction n generalizing c with
  | zero => rfl
  | succ n ih =>
    unfold chainFrom
    rw [viewNat_congr same (Key.boundUpstreamKind c) (by unfold Key.boundUpstreamKind; omega),
      viewNat_congr same (Key.boundUpstreamColumn c) (by unfold Key.boundUpstreamColumn; omega), ih]

theorem estimatorLoad_congr (stage c : Nat) : w.estimatorLoad stage c = v.estimatorLoad stage c := by
  have value := viewNat_congr same
  simp (disch := omega) only [View.estimatorLoad, Key.colEnable, Key.colLayers, Key.colMembers, Key.colCellsAcross, Key.colLocalisationHalfWidth,
    Key.colStepPeriod, value]

theorem predictorLoad_congr (stage c : Nat) : w.predictorLoad stage c = v.predictorLoad stage c := by
  have value := viewNat_congr same
  have chain : w.chain c = v.chain c := chainFrom_congr same 4 c
  simp (disch := omega) only [View.predictorLoad, View.candidates, View.horizon, View.subEnsemble, chain, Key.predEnable, Key.predMode, Key.predHorizon,
    Key.predSubEnsemble, Key.predUpdateInterval, Key.colLayers, Key.colMembers, Key.colCellsAcross, value]

/-- The load takes only the values of columns, boundaries and predictors. -/
theorem kelsisLoad_congr (stage : Nat) : w.kelsisLoad stage = v.kelsisLoad stage := by
  have estimators : w.estimatorLoad stage = v.estimatorLoad stage := funext (estimatorLoad_congr same stage)
  have predictors : w.predictorLoad stage = v.predictorLoad stage := funext (predictorLoad_congr same stage)
  unfold View.kelsisLoad View.estimatorTotal View.predictorTotal
  rw [estimators, predictors]
end

/-! ### A change of the stage (R328, R329) -/

/-- The stage is `new`, the count of clean evaluations restarts, the change is counted and logged. -/
def State.stageCounted (s : State) (new : Nat) : State :=
  (((s.putN Key.kelsisSheddingStage new).putN Key.kelsisCleanEvaluations 0).bump 32 Key.kelsisStageChanges).log 0x0507 noSource
    (s.nat Key.kelsisSheddingStage) new

/-- From `s` to `t` the stage became `new`. -/
structure StageEntered (s t : State) (new : Nat) : Prop where
  stage   : t.nat Key.kelsisSheddingStage = new
  clean   : t.nat Key.kelsisCleanEvaluations = 0
  changes : t.nat Key.kelsisStageChanges = satSucc 32 (s.nat Key.kelsisStageChanges)
  overrun : t.kelsis.overrun = s.kelsis.overrun

theorem StageEntered.of {s m t : State} {new : Nat} (h : StageEntered s m new) (g : Estimator m t) : StageEntered s t new :=
  ⟨(g.nat _).trans h.stage, (g.nat _).trans h.clean, (g.nat _).trans h.changes, g.overrun.trans h.overrun⟩

theorem stageCounted_enters (s : State) (new : Nat) : StageEntered s (s.stageCounted new) new := by
  have values : ∀ k, k ∉ eventKeys → (s.stageCounted new).nat k =
      (((s.putN Key.kelsisSheddingStage new).putN Key.kelsisCleanEvaluations 0).bump 32 Key.kelsisStageChanges).nat k :=
    fun k hk => nat_of (get_log _ _ _ _ _ _ k hk)
  refine ⟨?_, ?_, ?_, congrArg Kelsis.overrun (log_kelsis _ _ _ _ _ _)⟩
  · rw [values _ (by decide), State.nat, State.get_bump, if_neg (by decide), State.get_putN, if_neg (by decide), State.get_putN, if_pos rfl]
    rfl
  · rw [values _ (by decide), State.nat, State.get_bump, if_neg (by decide), State.get_putN, if_pos rfl]
    rfl
  · rw [values _ (by decide), State.nat, State.get_bump, if_pos rfl, nat_putN_of_ne _ _ _ _ (by decide), nat_putN_of_ne _ _ _ _ (by decide)]
    rfl

theorem setStage_eq (s : State) (new : Nat) : s.setStage new =
    if (s.nat Key.kelsisSheddingStage == 8) = (new == 8) then s.stageCounted new else (s.stageCounted new).shedReasons (new == 8) := rfl

/-- SHED_FULL is set or cleared in every column, then the predictors see it. -/
theorem shedReasons_sees (s : State) (full : Bool) : Estimator (s.reasonIn kShedFull full (List.range 4)) (s.shedReasons full) :=
  .foldl _ _ (.refl _) fun _ c g => .ite (g.healthSeen c) g

theorem reasonIn_enters {s m : State} {new : Nat} (h : StageEntered s m new) (n : Nat) (b : Bool) :
    StageEntered s (m.reasonIn n b (List.range 4)) new := by
  have other : ∀ k ∈ [Key.kelsisSheddingStage, Key.kelsisCleanEvaluations, Key.kelsisStageChanges],
      (m.reasonIn n b (List.range 4)).nat k = m.nat k := fun k hk => by
    have keys : ∀ j ∈ [Key.kelsisSheddingStage, Key.kelsisCleanEvaluations, Key.kelsisStageChanges],
      estimatorKey j = true ∧ ∀ c ∈ List.range 4, j ≠ Key.colHealthReasons c := by decide
    exact nat_of (get_reasonIn_other m n b _ k (keys k hk).1 (keys k hk).2)
  exact ⟨(other _ (by decide)).trans h.stage, (other _ (by decide)).trans h.clean, (other _ (by decide)).trans h.changes,
    (reasonIn_overrun m n b _).trans h.overrun⟩

theorem setStage_enters (s : State) (new : Nat) : StageEntered s (s.setStage new) new := by
  rw [setStage_eq]
  split
  · exact stageCounted_enters s new
  · exact (reasonIn_enters (stageCounted_enters s new) kShedFull _).of (shedReasons_sees _ _)

/-- SHED_FULL follows stage 8 in every column. -/
theorem setStage_shed (s : State) (new : Nat) (h : ¬(s.nat Key.kelsisSheddingStage == 8) = (new == 8)) (c : Fin 4) :
    (s.setStage new).bitOf (Key.colHealthReasons c) kShedFull = (new == 8) := by
  rw [setStage_eq, if_neg h, bitOf_of _ ((shedReasons_sees _ _).values _ (colHealthReasons_estimator c c.isLt))]
  exact bitOf_reasonIn _ _ _ _ _ c.isLt (.inl (List.mem_range.2 c.isLt))

/-- Away from stage 8 the change is the last event logged. -/
theorem setStage_logs (s : State) (new : Nat) (h : (s.nat Key.kelsisSheddingStage == 8) = (new == 8)) (opened : s.logOpen) :
    (s.setStage new).lastLogged 0x0507 noSource (s.nat Key.kelsisSheddingStage) new := by
  rw [setStage_eq, if_pos h]
  refine lastLogged_log _ _ _ _ _ _ (logOpen_of opened rfl ?_)
  rw [State.get_bump, if_neg (by decide), State.get_putN, if_neg (by decide), State.get_putN, if_neg (by decide)]

theorem restage_ash (s : State) : s.restage.ash = s.ash := by
  unfold State.restage
  generalize List.finRange 4 = l
  induction l generalizing s with
  | nil => rfl
  | cons c t ih => exact ih _

/-! ### The evaluation -/

/-- An evaluation begins: the share is shown, an overrun is taken. -/
def State.evaluationBegun (s : State) : State :=
  { s.freeNat.2.putN Key.kelsisBusiestEngineShare (s.freeNat.1 % 10001) with kelsis := { s.kelsis with overrun := false } }

theorem get_evaluationBegun (s : State) (k : Nat) (h : k ≠ Key.kelsisBusiestEngineShare) : s.evaluationBegun.get k = s.get k := State.get_put_other _ _ _ _ h
theorem nat_evaluationBegun (s : State) (k : Nat) (h : k ≠ Key.kelsisBusiestEngineShare) : s.evaluationBegun.nat k = s.nat k := nat_of (get_evaluationBegun s k h)
theorem evaluationBegun_logOpen (s : State) (h : s.logOpen) : s.evaluationBegun.logOpen := logOpen_of h rfl (get_evaluationBegun s _ (by decide))

/-- An evaluation without an overrun: it counts. -/
def State.evaluatedClean (s : State) : State := s.evaluationBegun.putN Key.kelsisCleanEvaluations (min 3 (s.nat Key.kelsisCleanEvaluations + 1))

theorem nat_evaluatedClean (s : State) (k : Nat) (h : k ≠ Key.kelsisBusiestEngineShare) (hc : k ≠ Key.kelsisCleanEvaluations) :
    s.evaluatedClean.nat k = s.nat k :=
  (nat_putN_of_ne _ _ _ _ hc).trans (nat_evaluationBegun s k h)
theorem evaluatedClean_peak (s : State) : s.evaluatedClean.kelsisPeak = s.kelsisPeak := by
  have throttled : s.evaluatedClean.estThrottled = s.estThrottled :=
    congrArg (fun n => Nat.testBit n 0) (nat_evaluatedClean s Key.thermalStatus (by decide) (by decide))
  unfold State.kelsisPeak
  rw [throttled]
theorem evaluatedClean_load (s : State) (stage : Nat) : View.kelsisLoad s.evaluatedClean.get stage = View.kelsisLoad s.get stage :=
  kelsisLoad_congr (fun k hk => by
    unfold State.evaluatedClean State.putN
    rw [State.get_put_other _ _ _ _ (by unfold Key.kelsisCleanEvaluations; omega), get_evaluationBegun _ _ (by unfold Key.kelsisBusiestEngineShare; omega)]) stage

section
variable {s : State} (runs : s.clocksRun = true) (updates : ∀ c : Fin 4, (s.kelsis.preds[c]).update = none)
include updates

theorem abandonOverdue_none : s.abandonOverdue = s := by
  unfold State.abandonOverdue
  generalize List.finRange 4 = l
  induction l with
  | nil => rfl
  | cons c t ih =>
    rw [List.foldl_cons, updates c]
    exact ih

include runs

theorem sheddingEvaluation_overrun (h : s.kelsis.overrun = true) : execSheddingEvaluation s = .next
    (if s.nat Key.kelsisSheddingStage < 8 then s.evaluationBegun.setStage (s.nat Key.kelsisSheddingStage + 1)
     else s.evaluationBegun.putN Key.kelsisCleanEvaluations 0).restage := by
  unfold execSheddingEvaluation
  rw [if_neg (by rw [runs]; decide), abandonOverdue_none updates]
  extract_lets drawn shown stage overrun unit begun clean counted
  have at_ : stage = s.nat Key.kelsisSheddingStage := nat_putN_of_ne _ _ _ _ (by decide)
  rw [if_pos (show overrun = true from h), at_]
  rfl
theorem sheddingEvaluation_clean (h : s.kelsis.overrun = false) : execSheddingEvaluation s = .next
    (if 0 < s.nat Key.kelsisSheddingStage ∧ min 3 (s.nat Key.kelsisCleanEvaluations + 1) = 3
        ∧ View.kelsisLoad s.get (s.nat Key.kelsisSheddingStage - 1) * 100 ≤ 85 * s.kelsisPeak then
      (s.evaluatedClean.setStage (s.nat Key.kelsisSheddingStage - 1)).restage else s.evaluatedClean) := by
  unfold execSheddingEvaluation
  rw [if_neg (by rw [runs]; decide), abandonOverdue_none updates]
  extract_lets drawn shown stage overrun unit begun clean counted
  have at_ : stage = s.nat Key.kelsisSheddingStage := nat_putN_of_ne _ _ _ _ (by decide)
  have count : clean = min 3 (s.nat Key.kelsisCleanEvaluations + 1) := congrArg (fun n => min 3 (n + 1)) (nat_evaluationBegun s _ (by decide))
  have eq : counted = s.evaluatedClean := congrArg (s.evaluationBegun.putN Key.kelsisCleanEvaluations) count
  rw [if_neg (by rw [show overrun = false from h]; decide)]
  simp only [at_, count, eq, evaluatedClean_load, evaluatedClean_peak]
end

end Sys2Proof.Machine
end

section
/-! SUPPORT. The predictors' updates, FEEDBACK and return (R344-R358), and `Obligations.KelsisTablesAndPredictors` itself. -/

namespace Sys2Proof.Machine

open Sys2Proof

/-! ### What an update's end leaves (R347, R354) -/

theorem preds_setPredictor (s : State) (c d : Fin 4) (f : KPredictor → KPredictor) :
    (s.setPredictor c f).kelsis.preds[d] = if c = d then f s.kelsis.preds[d] else s.kelsis.preds[d] := by
  simp only [State.setPredictor, Fin.getElem_fin, Vector.getElem_set, Fin.ext_iff]
  split
  · rename_i h; simp only [h]
  · rfl

/-- The counts of updates and the last update's step: of a predictor, of all (R364, R365). -/
def updateKey (k : Nat) : Bool := 0x3100 ≤ k / 256 && [0x06, 0x3F, 0x40].contains (k % 256)

theorem not_update {i j : Nat} (h : i < 0x3100 ∨ j ≠ 0x06 ∧ j ≠ 0x3F ∧ j ≠ 0x40 := by omega) (hj : j < 256 := by omega) : updateKey (i * 256 + j) = false := by
  have index : (i * 256 + j) / 256 = i := by omega
  have sub : (i * 256 + j) % 256 = j := by omega
  unfold updateKey
  rw [index, sub, Bool.and_eq_false_iff, decide_eq_false_iff_not]
  refine h.imp (by omega) fun hj => ?_
  simp [hj]
theorem not_event_of_update {k : Nat} (h : updateKey k = true) : k ∉ eventKeys := fun hk => by
  have none : ∀ j ∈ eventKeys, updateKey j = false := by decide
  rw [none k hk] at h
  cases h

/-- From `s` to `t` no predictor took or lost an update, and the counts of updates stand. -/
structure Plans (s t : State) : Prop where
  update : ∀ c : Fin 4, (t.kelsis.preds[c]).update = (s.kelsis.preds[c]).update
  values : ∀ k, updateKey k = true → t.get k = s.get k

section
variable {s m t : State}

theorem Plans.refl (s : State) : Plans s s := ⟨fun _ => rfl, fun _ _ => rfl⟩
theorem Plans.ite {p : Prop} [Decidable p] (h : Plans s m) (g : Plans s t) : Plans s (if p then m else t) := by
  split
  · exact h
  · exact g
theorem Plans.foldl {α : Type} (f : State → α → State) (l : List α) (h : Plans s m) (hf : ∀ m x, Plans s m → Plans s (f m x)) : Plans s (l.foldl f m) := by
  induction l generalizing m with
  | nil => exact h
  | cons x t ih => exact ih (hf _ _ h)

theorem Plans.put (h : Plans s m) (k : Nat) (v : Int) (hk : updateKey k = false) : Plans s (m.put k v) :=
  ⟨h.update, fun j hj => (State.get_put_other _ _ _ _ (by rintro rfl; rw [hj] at hk; cases hk)).trans (h.values j hj)⟩
theorem Plans.putN (h : Plans s m) (k v : Nat) (hk : updateKey k = false) : Plans s (m.putN k v) := h.put k _ hk
theorem Plans.putW (h : Plans s m) (k : Nat) (v : Word) (hk : updateKey k = false) : Plans s (m.putW k v) := h.put k _ hk
theorem Plans.putBit (h : Plans s m) (k n : Nat) (b : Bool) (hk : updateKey k = false) : Plans s (m.putBit k n b) := h.put k _ hk
theorem Plans.putBlock (h : Plans s m) (k : Nat) (bs : List Byte) : Plans s (m.putBlock k bs) := ⟨h.update, h.values⟩
theorem Plans.setLoop (h : Plans s m) (l : Fin 64) (f : LoopUnit → LoopUnit) : Plans s (m.setLoop l f) := ⟨h.update, h.values⟩
theorem Plans.setPredictor (h : Plans s m) (c : Fin 4) (f : KPredictor → KPredictor) (hf : ∀ p, (f p).update = p.update) : Plans s (m.setPredictor c f) :=
  ⟨fun d => by
    rw [preds_setPredictor]
    split
    · exact (hf _).trans (h.update d)
    · exact h.update d, h.values⟩
theorem Plans.freeRound (h : Plans s m) (n : Int) (d : Nat) : Plans s (m.freeRound n d).2 := by
  unfold State.freeRound
  dsimp only
  split
  · exact h
  · exact ⟨h.update, h.values⟩
theorem Plans.moves (h : Plans s m) (g : Moves m t []) : Plans s t where
  update c := (congrArg (fun x : State => (x.kelsis.preds[c]).update) g.beside :
    (t.besideEvents.kelsis.preds[c]).update = (m.besideEvents.kelsis.preds[c]).update).trans (h.update c)
  values k hk := (g.get k (not_event_of_update hk)).trans (h.values k hk)
theorem Plans.raiseSource (h : Plans s m) (src : Nat) : Plans s (m.raiseSource src) := h.moves ((Moves.refl _ _).raiseSource _)
theorem Plans.log (h : Plans s m) (code source w4 w5 w6 : Nat) : Plans s (m.log code source w4 w5 w6) := h.moves ((Moves.refl _ _).log _ _ _ _ _)

theorem Plans.countClamps (h : Plans s m) (u : KUpdate) (l : List Nat) : Plans s (m.countClamps u l) := .foldl _ _ h fun _ _ g => g.putN _ _ not_update
theorem Plans.reportChoice (h : Plans s m) (c : Fin 4) (i : Nat) (x : Candidate) : Plans s (m.reportChoice c i x) := by
  unfold State.reportChoice
  extract_lets chosen planned
  have hc : Plans s chosen := (h.putN _ _ not_update).putW _ _ not_update
  have block : ∀ (r : State) (b : Nat), b ∈ List.range 3 → Plans s r →
      Plans s ((r.putW (Key.predPlan c (2 * b)) (x.plan.getD b (0, 0)).1).putW (Key.predPlan c (2 * b + 1)) (x.plan.getD b (0, 0)).2) := fun r b hb g => by
    have small := List.mem_range.1 hb
    exact (g.putW _ _ not_update).putW _ _ not_update
  have hp : Plans s planned := ((block _ 2 (by decide) (block _ 1 (by decide) (block _ 0 (by decide) hc))))
  exact ((hp.putW _ _ not_update).putW _ _ not_update).putW _ _ not_update
theorem Plans.checkBindings (h : Plans s m) (c : Fin 4) (u : KUpdate) : Plans s (m.checkBindings c u) := by
  unfold State.checkBindings
  extract_lets broken was marked
  have hm : Plans s marked := h.putBit _ _ _ not_update
  exact .ite hm (.foldl _ _ hm fun _ l g => g.log _ _ _ _ _)
theorem Plans.takeReturn (h : Plans s m) (c : Fin 4) (u : KUpdate) : Plans s (m.takeReturn c u) :=
  .ite (((h.putN _ _ not_update).setPredictor c (fun p => { p with plan := none }) fun _ => rfl).log _ _ _ _ _) h
theorem Plans.handRole (h : Plans s m) (c : Fin 4) (loop : Nat) (v : Int) : Plans s (m.handRole c loop v) := by
  unfold State.handRole
  split
  · exact .ite (h.setLoop _ _) h
  · exact h

theorem Plans.finishContinuous (h : Plans s m) (c : Fin 4) (u : KUpdate) : Plans s (m.finishContinuous c u) := by
  unfold State.finishContinuous
  extract_lets carry all lost counted every w
  have hc : Plans s counted := .foldl _ _ h fun _ y g => g.countClamps u y.2.clamps
  clear_value counted
  split
  · exact h
  · rename_i i x chosen
    extract_lets reported discarded done y discharged handed
    have hr : Plans s reported := ((hc.reportChoice c i x).putBlock _ _).putN _ _ not_update
    clear_value reported
    have hl : Plans s discarded := .ite (hr.log _ _ _ _ _) hr
    clear_value discarded
    have hd : Plans s done := ((hl.putBit _ _ _ not_update).checkBindings c u).takeReturn c u
    clear_value done
    have hh : Plans s handed := (hd.handRole c _ _).handRole c _ _
    exact .ite ((hh.setPredictor c (fun p => { p with plan := some x.plan }) fun _ => rfl).raiseSource _) hd

theorem Plans.timeToTarget (h : Plans s m) (tu nh : Nat) (target start : Word) (bed : Nat → Word) : Plans s (m.timeToTarget tu nh target start bed).2 := by
  unfold State.timeToTarget
  split
  · exact h
  · split
    · exact h
    · exact h.freeRound _ _
theorem Plans.finishBatch (h : Plans s m) (c : Fin 4) (u : KUpdate) : Plans s (m.finishBatch c u) := by
  unfold State.finishBatch
  extract_lets g w tu kappa target still cool top hot cold heat ending now nows t timed ended
  have ht : Plans s t.2 := Plans.timeToTarget ((h.countClamps u _).countClamps u _) tu _ _ _ _
  clear_value t
  have he : Plans s ended := ((((ht.put _ _ not_update).putBit _ _ _ not_update).putN _ _ not_update).putBlock _ _).takeReturn c u
  exact .ite ((he.putBit _ _ _ not_update).raiseSource _) he
theorem Plans.finishBin (h : Plans s m) (c : Fin 4) (u : KUpdate) : Plans s (m.finishBin c u) := by
  unfold State.finishBin
  extract_lets g w top still warm blown calm on off seconds jOn jOff checked isOn hyst cheaper due change decided onNow mk chosen costed
  have hc : Plans s checked := (((h.countClamps u _).countClamps u _).checkBindings c u).takeReturn c u
  clear_value checked
  have hd : Plans s decided := 
    .ite (((hc.putBit _ _ _ not_update).setPredictor c (fun p => { p with changedAt := some u.start, changes := p.changes + 1 }) fun _ => rfl).raiseSource _) hc
  clear_value decided
  have hs : Plans s costed := ((hd.putN _ _ not_update).putW _ _ not_update).putBlock _ _
  exact .ite ((hs.handRole c _ _).raiseSource _) hs
end

/-! ### An update's start and end (R344, R347, R355) -/

theorem clocksRun_of_kelsisRuns {s : State} (h : s.kelsisRuns = true) : s.clocksRun = true := by
  unfold State.kelsisRuns at h
  simp only [Bool.and_eq_true] at h
  exact h.1.2

theorem abandonUpdate_none (s : State) (c : Fin 4) (h : (s.kelsis.preds[c]).update = none) : s.abandonUpdate c = s := by
  unfold State.abandonUpdate
  rw [h]

/-- FEEDBACK, from PREDICTIVE and from RETURN_PENDING (R355, R356, R358). -/
def State.feedbackOrdered (s : State) (c : Fin 4) : State :=
  if s.nat (Key.predState c) = predPredictive then s.enterFeedback c (s.chainReasons c)
  else if s.nat (Key.predState c) = predPending then s.fallBack c else s

/-- An update that is counted at its end. -/
def State.updateCounted (s : State) (c : Fin 4) (u : KUpdate) : State :=
  (((s.setPredictor c (fun p => { p with update := none })).putN (Key.predLastUpdateStep c) (u.number % 2 ^ 32)).bump 32 (Key.predUpdates c)).bump 32
    Key.predgUpdates

section
variable {s : State} {c : Fin 4} (enabled : s.flag (Key.predEnable c) = true) (running : s.process = psRunning) (runs : s.kelsisRuns = true)
include enabled running runs

theorem updates_run : (!(s.flag (Key.predEnable c) && s.process == psRunning && s.kelsisRuns)) = false := by
  rw [enabled, running, runs]
  rfl

theorem predictionUpdateStart_full (idle : (s.kelsis.preds[c]).update = none) (full : s.nat Key.kelsisSheddingStage = 8) :
    execPredictionUpdateStart c s = .next (s.feedbackOrdered c) := by
  unfold execPredictionUpdateStart State.served
  beta_reduce
  rw [if_pos (clocksRun_of_kelsisRuns runs), updates_run enabled running runs, abandonUpdate_none s c idle, if_neg Bool.false_ne_true]
  exact congrArg Host.Outcome.next (if_pos full)
theorem predictionUpdateStart_latches (idle : (s.kelsis.preds[c]).update = none) (stage : s.nat Key.kelsisSheddingStage ≠ 8) (stays : s.autoReturn c = false) :
    execPredictionUpdateStart c s = .next (s.setPredictor c fun q => { q with update := s.latchUpdate c }) := by
  unfold execPredictionUpdateStart State.served
  beta_reduce
  rw [if_pos (clocksRun_of_kelsisRuns runs), updates_run enabled running runs, abandonUpdate_none s c idle, if_neg Bool.false_ne_true]
  refine congrArg Host.Outcome.next ((if_neg stage).trans ?_)
  rw [stays, if_neg Bool.false_ne_true]
theorem predictionUpdateDone_plans (u : KUpdate) (h : (s.kelsis.preds[c]).update = some u) :
    ∃ t, execPredictionUpdateDone c s = .next t ∧ Plans (s.updateCounted c u) t := by
  unfold execPredictionUpdateDone State.served
  beta_reduce
  rw [if_pos (clocksRun_of_kelsisRuns runs), h]
  dsimp only
  rw [updates_run enabled running runs, if_neg Bool.false_ne_true]
  refine ⟨_, rfl, ?_⟩
  have counted : Plans (s.updateCounted c u) (s.updateCounted c u) := .refl _
  split
  · exact counted.finishContinuous c u
  · exact counted.finishBatch c u
  · exact counted.finishBin c u
end

/-- What an update's end shows (R347, R365). -/
theorem updateCounted_counts (s : State) (c : Fin 4) (u : KUpdate) : ((s.updateCounted c u).kelsis.preds[c]).update = none
    ∧ (s.updateCounted c u).nat (Key.predLastUpdateStep c) = u.number % 2 ^ 32
    ∧ (s.updateCounted c u).nat (Key.predUpdates c) = satSucc 32 (s.nat (Key.predUpdates c))
    ∧ (s.updateCounted c u).nat Key.predgUpdates = satSucc 32 (s.nat Key.predgUpdates) := by
  have apart : Key.predLastUpdateStep c ≠ Key.predUpdates c ∧ Key.predLastUpdateStep c ≠ Key.predgUpdates ∧ Key.predUpdates c ≠ Key.predgUpdates := by
    revert c; decide
  obtain ⟨stepUpdates, stepAll, updatesAll⟩ := apart
  unfold State.updateCounted
  refine ⟨congrArg KPredictor.update ((preds_setPredictor s c c fun p => { p with update := none }).trans (if_pos rfl)), ?_, ?_, ?_⟩
  · rw [State.nat, State.get_bump, if_neg stepAll, State.get_bump, if_neg stepUpdates]
    exact State.nat_putN_same _ _ _
  · rw [State.nat, State.get_bump, if_neg updatesAll, State.get_bump, if_pos rfl, nat_putN_of_ne _ _ _ _ stepUpdates.symm]
    rfl
  · rw [State.nat, State.get_bump, if_pos rfl]
    have before : ∀ m : State, (m.bump 32 (Key.predUpdates c)).nat Key.predgUpdates = m.nat Key.predgUpdates :=
      fun m => nat_of ((State.get_bump m 32 _ _).trans (if_neg updatesAll.symm))
    rw [before, nat_putN_of_ne _ _ _ _ stepAll.symm]
    rfl

/-! ### FEEDBACK and return (R355-R358) -/

theorem predState_apart (c : Fin 4) : Key.predState c ∉ eventKeys ∧ Key.predState c ≠ Key.predgFeedbackEntries ∧ Key.predState c ≠ Key.predFeedbackEntries c
    ∧ Key.predState c ≠ Key.predReasonsAtLastEntry c := by revert c; decide
theorem predFeedbackEntries_apart (c : Fin 4) : Key.predFeedbackEntries c ∉ eventKeys ∧ Key.predFeedbackEntries c ≠ Key.predgFeedbackEntries
    ∧ Key.predFeedbackEntries c ≠ Key.predReasonsAtLastEntry c ∧ Key.predFeedbackEntries c ≠ Key.predState c := by revert c; decide
theorem predStatus_apart (c : Fin 4) : Key.predStatus c ∉ eventKeys ∧ Key.predStatus c ≠ Key.predgFeedbackEntries ∧ Key.predStatus c ≠ Key.predFeedbackEntries c
    ∧ Key.predStatus c ≠ Key.predReasonsAtLastEntry c ∧ Key.predStatus c ≠ Key.predState c := by revert c; decide

theorem get_enterFeedback (s : State) (c : Fin 4) (reasons k : Nat) (hk : k ∉ eventKeys) (hg : k ≠ Key.predgFeedbackEntries) :
    (s.enterFeedback c reasons).get k = (State.bump 32 (((s.putN (Key.predState c) predFeedback).putN (Key.predReasonsAtLastEntry c) reasons).setPredictor c
      fun p => { p with plan := none }) (Key.predFeedbackEntries c)).get k := by
  unfold State.enterFeedback
  rw [get_log _ _ _ _ _ _ _ hk, State.get_bump, if_neg hg]

theorem enterFeedback_state (s : State) (c : Fin 4) (reasons : Nat) : (s.enterFeedback c reasons).nat (Key.predState c) = predFeedback := by
  obtain ⟨event, all, entries, shown⟩ := predState_apart c
  rw [State.nat, get_enterFeedback s c reasons _ event all, State.get_bump, if_neg entries]
  exact (nat_putN_of_ne _ _ _ _ shown).trans (State.nat_putN_same _ _ _)
theorem enterFeedback_entries (s : State) (c : Fin 4) (reasons : Nat) :
    (s.enterFeedback c reasons).nat (Key.predFeedbackEntries c) = satSucc 32 (s.nat (Key.predFeedbackEntries c)) := by
  obtain ⟨event, all, shown, state⟩ := predFeedbackEntries_apart c
  have before : (((s.putN (Key.predState c) predFeedback).putN (Key.predReasonsAtLastEntry c) reasons).setPredictor c
      fun p => { p with plan := none }).nat (Key.predFeedbackEntries c) = s.nat (Key.predFeedbackEntries c) :=
    (nat_putN_of_ne _ _ _ _ shown).trans (nat_putN_of_ne _ _ _ _ state)
  rw [State.nat, get_enterFeedback s c reasons _ event all, State.get_bump, if_pos rfl, before]
  rfl
theorem get_enterFeedback_status (s : State) (c : Fin 4) (reasons : Nat) : (s.enterFeedback c reasons).get (Key.predStatus c) = s.get (Key.predStatus c) := by
  obtain ⟨event, all, entries, shown, state⟩ := predStatus_apart c
  rw [get_enterFeedback s c reasons _ event all, State.get_bump, if_neg entries]
  exact (State.get_put_other _ _ _ _ shown).trans (State.get_put_other _ _ _ _ state)

/-- From `s` to `t` predictor `c` went into FEEDBACK, where it was not there; an entry from PREDICTIVE was counted. -/
structure FallsBack (s t : State) (c : Fin 4) : Prop where
  state   : t.nat (Key.predState c)
    = if s.nat (Key.predState c) = predPredictive ∨ s.nat (Key.predState c) = predPending then predFeedback else s.nat (Key.predState c)
  entries : s.nat (Key.predState c) = predPredictive → t.nat (Key.predFeedbackEntries c) = satSucc 32 (s.nat (Key.predFeedbackEntries c))
  status  : t.get (Key.predStatus c) = s.get (Key.predStatus c)

theorem feedbackOrdered_fallsBack (s : State) (c : Fin 4) : FallsBack s (s.feedbackOrdered c) c := by
  unfold State.feedbackOrdered
  split
  · rename_i predictive
    exact ⟨by rw [if_pos (.inl predictive), enterFeedback_state], fun _ => enterFeedback_entries s c _, get_enterFeedback_status s c _⟩
  · rename_i active
    split
    · rename_i pending
      exact ⟨by rw [if_pos (.inr pending)]; exact State.nat_putN_same _ _ _, fun h => absurd h active,
        State.get_put_other _ _ _ _ (predStatus_apart c).2.2.2.2⟩
    · rename_i resting
      exact ⟨by rw [if_neg (not_or.2 ⟨active, resting⟩)], fun h => absurd h active, rfl⟩

/-- RETURN clears FORCED; a predictor in FEEDBACK is to return (R357, R358). -/
theorem orderReturn_returns (s : State) (c : Fin 4) : Only s (s.orderReturn c) [Key.predStatus c, Key.predState c]
    ∧ (s.orderReturn c).bitOf (Key.predStatus c) 6 = false
    ∧ (s.orderReturn c).nat (Key.predState c) = (if s.nat (Key.predState c) = predFeedback then predPending else s.nat (Key.predState c)) := by
  have apart := (predStatus_apart c).2.2.2.2
  have state : (s.putBit (Key.predStatus c) 6 false).nat (Key.predState c) = s.nat (Key.predState c) := nat_putN_of_ne _ _ _ _ apart.symm
  have cleared : Only s (s.putBit (Key.predStatus c) 6 false) [Key.predStatus c, Key.predState c] := (Only.refl _ _).putBit _ _ _ List.mem_cons_self
  unfold State.orderReturn
  dsimp only
  rw [state]
  split
  · exact ⟨cleared.putN _ _ (List.mem_cons_of_mem _ (List.mem_singleton_self _)), (bitOf_of 6 (State.get_put_other _ _ _ _ apart)).trans (bitOf_putBit_same _ _ _ _),
      State.nat_putN_same _ _ _⟩
  · exact ⟨cleared, bitOf_putBit_same _ _ _ _, state⟩

end Sys2Proof.Machine
end

section
/-! SUPPORT. `Obligations.KelsisTablesAndPredictors`, from what builds, evaluations and updates leave. -/

namespace Sys2Proof.Machine

open Sys2Proof

section
variable {s : State}

/-- A build's start, as the obligation reads it (R308, R337). -/
theorem startBuild_starts (s : State) (g : Fin 16) : Only { s with kelsis := (s.startBuild g).kelsis } (s.startBuild g) builderKeys
    ∧ (s.startBuild g).kelsis.building = some ⟨g, false, s.buildPressure g⟩ ∧ ((s.startBuild g).kelsis.grains[g]).want = false
    ∧ (s.startBuild g).nat Key.tablesBuilderState = 1 ∧ (s.startBuild g).nat Key.tablesGrainTypeBuilding = g :=
  ⟨showBuilder_only (.refl _ _), buildBegun_building s g, buildBegun_grains s g, showBuilder_builds _ _ (buildBegun_building s g)⟩

theorem tableBuildDone_answers (x : KBuild) (runs : s.clocksRun = true) (there : s.process ≠ psKindling) (under : s.kelsis.building = some x) :
    Answers .tableBuildDone s fun t => let made := buildTable s.get x.grain x.pressure
      (x.outdated = true → t.kelsis.building.map KBuild.grain = some x.grain ∧ t.nat Key.tablesBuilderState = 1)
      ∧ (x.outdated = false → made.failure = none → t.kelsis.building = none ∧ (t.kelsis.grains[x.grain]).ready = some made
          ∧ (t.kelsis.grains[x.grain]).failed = false ∧ t.nat Key.tablesBuilderState = 2)
      ∧ (∀ i j : Nat, x.outdated = false → made.failure = some (i, j) → t.kelsis.building = none ∧ (t.kelsis.grains[x.grain]).failed = true
          ∧ (t.kelsis.grains[x.grain]).active = (s.kelsis.grains[x.grain]).active
          ∧ t.nat Key.tablesBuildFailures = satSucc 32 (s.nat Key.tablesBuildFailures)
          ∧ (s.logOpen → t.lastLogged 0x0505 noSource x.grain i j)) := by
  cases old : x.outdated with
  | true =>
    refine ⟨_, tableBuildDone_outdated runs there under old, fun _ => ?_, fun h => (by cases h), fun _ _ h => (by cases h)⟩
    have begun := buildBegun_building s.buildEnded x.grain
    exact ⟨congrArg (Option.map KBuild.grain) begun, (showBuilder_builds _ _ begun).1⟩
  | false =>
    cases failure : (buildTable s.get x.grain x.pressure).failure with
    | none =>
      refine ⟨_, tableBuildDone_ready runs there under old failure, fun h => (by cases h), fun _ _ => ?_,
        fun _ _ _ h => absurd (failure.symm.trans h) (Option.some_ne_none _).symm⟩
      exact buildReady_ready s.buildEnded x.grain _ (buildEnded_idle s)
    | some at_ =>
      refine ⟨_, tableBuildDone_failed runs there under old at_ failure, fun h => (by cases h),
        fun _ h => absurd (failure.symm.trans h) (Option.some_ne_none _), fun i j _ h => ?_⟩
      obtain rfl : at_ = (i, j) := Option.some.inj (failure.symm.trans h)
      obtain ⟨idle, failed, active, count, logged⟩ := buildFailed_fails s.buildEnded x.grain (i, j) (buildEnded_idle s)
      have before : s.buildEnded.nat Key.tablesBuildFailures = s.nat Key.tablesBuildFailures := nat_of (get_buildEnded s _ (by decide))
      exact ⟨idle, failed, active, by rw [count, before],
        fun opened => logged (logOpen_of opened (buildEnded_ash s) (get_buildEnded s _ (by decide)))⟩

theorem tableRebuild_answers (p : Path) (accepts : Accepts s p Key.tablesRebuild 1) (idle : s.kelsis.building = none) :
    Answers (.tableRebuild p) s fun t => Only { s.acknowledged p with kelsis := t.kelsis } t [Key.tablesBuilderState, Key.tablesGrainTypeBuilding]
      ∧ ∀ g : Fin 16, t.kelsis.grains[g] = if s.grainUsed g then { s.kelsis.grains[g] with want := true, ready := none } else s.kelsis.grains[g] := by
  have triggered := tableRebuild_triggers (s.acknowledged p) (by rw [State.acknowledged_kelsis, idle])
  refine ⟨_, congrArg Host.Outcome.next (commanded_accepts s p _ _ _ accepts), triggered.only, fun g => ?_⟩
  have used : (s.acknowledged p).grainUsed g = s.grainUsed g := grainUsed_of
    (fun c => ⟨State.get_acknowledged _ _ _ (column_values_apart c).2.1, State.get_acknowledged _ _ _ (column_values_apart c).2.2⟩)
    (by rw [State.acknowledged_kelsis]) g
  have wanted := triggered.grains g
  simp only [List.mem_finRange, true_and, used, State.acknowledged_kelsis] at wanted
  exact wanted

theorem loadFromFile_answers (p : Path) (g : Fin 16) (e : Nat) (accepts : Accepts s p (Key.grainLoadFromFile g) e) :
    Answers (.loadFromFile p g e) s fun t => (∀ i < 14, t.get (grainKey g (i + 2)) = s.fileValue e (i + 2))
      ∧ ∀ k, (∀ i < 14, k ≠ grainKey g (i + 2)) → k ≠ Key.tablesBuilderState → k ≠ Key.tablesGrainTypeBuilding → t.get k = (s.acknowledged p).get k := by
  refine ⟨_, congrArg Host.Outcome.next (commanded_accepts s p _ _ _ accepts), fun i hi => ?_, fun k values state building => ?_⟩
  · exact (get_loadFromFile _ g e i hi).trans (fileValue_of (State.acknowledged_blk s p) e _)
  · exact get_loadFromFile_other _ g e k values (by simp only [builderKeys, List.mem_cons, List.not_mem_nil, or_false, not_or]; exact ⟨state, building⟩)

/-! ### The shedding stage (R328, R329) -/

/-- An overrun raises the stage, up to 8 (R328). -/
theorem sheddingEvaluation_raises (runs : s.clocksRun = true) (updates : ∀ c : Fin 4, (s.kelsis.preds[c]).update = none) (h : s.kelsis.overrun = true) :
    ∃ t, execSheddingEvaluation s = .next t ∧ t.kelsis.overrun = false
      ∧ t.nat Key.kelsisSheddingStage = (if s.nat Key.kelsisSheddingStage < 8 then s.nat Key.kelsisSheddingStage + 1 else s.nat Key.kelsisSheddingStage)
      ∧ t.nat Key.kelsisCleanEvaluations = 0
      ∧ (s.nat Key.kelsisSheddingStage < 8 → t.nat Key.kelsisStageChanges = satSucc 32 (s.nat Key.kelsisStageChanges)
          ∧ (s.nat Key.kelsisSheddingStage < 7 → s.logOpen →
              t.lastLogged 0x0507 noSource (s.nat Key.kelsisSheddingStage) (s.nat Key.kelsisSheddingStage + 1))
          ∧ (s.nat Key.kelsisSheddingStage = 7 → ∀ c : Fin 4, t.bitOf (Key.colHealthReasons c) kShedFull = true)) := by
  have stage : s.evaluationBegun.nat Key.kelsisSheddingStage = s.nat Key.kelsisSheddingStage := nat_evaluationBegun s _ (by decide)
  refine ⟨_, sheddingEvaluation_overrun runs updates h, ?_⟩
  by_cases below : s.nat Key.kelsisSheddingStage < 8
  · rw [if_pos below, if_pos below]
    have entered := setStage_enters s.evaluationBegun (s.nat Key.kelsisSheddingStage + 1)
    have restaged : Estimator (s.evaluationBegun.setStage (s.nat Key.kelsisSheddingStage + 1)) _ := (Estimator.refl _).restage
    obtain ⟨new, clean, changes, overrun⟩ := entered.of restaged
    refine ⟨overrun, new, clean, fun _ => ⟨changes.trans (by rw [nat_evaluationBegun s _ (by decide)]), fun less opened => ?_, fun full c => ?_⟩⟩
    · have logged := setStage_logs s.evaluationBegun (s.nat Key.kelsisSheddingStage + 1)
        (by rw [stage, beq_eq_false_iff_ne.2 (by omega), beq_eq_false_iff_ne.2 (by omega)]) (evaluationBegun_logOpen s opened)
      rw [stage] at logged
      unfold State.lastLogged at logged ⊢
      rw [restage_ash]
      exact logged
    · rw [bitOf_of _ (restaged.values _ (colHealthReasons_estimator c c.isLt)), setStage_shed _ _ (by rw [stage, full]; decide) c, full]
      rfl
  · rw [if_neg below, if_neg below]
    have restaged : Estimator (s.evaluationBegun.putN Key.kelsisCleanEvaluations 0) _ := (Estimator.refl _).restage
    exact ⟨restaged.overrun, (restaged.nat _).trans ((nat_putN_of_ne _ _ _ _ (by decide)).trans stage), (restaged.nat _).trans (State.nat_putN_same _ _ _),
      fun less => absurd less below⟩

/-- Without an overrun the stage stays, or the third clean evaluation lowers it by 1 (R329). -/
theorem sheddingEvaluation_settles (runs : s.clocksRun = true) (updates : ∀ c : Fin 4, (s.kelsis.preds[c]).update = none) (h : s.kelsis.overrun = false) :
    ∃ t, execSheddingEvaluation s = .next t ∧ t.kelsis.overrun = false
      ∧ ((s.nat Key.kelsisSheddingStage = 0 ∨ min 3 (s.nat Key.kelsisCleanEvaluations + 1) < 3
            ∨ 85 * s.kelsisPeak < View.kelsisLoad s.get (s.nat Key.kelsisSheddingStage - 1) * 100) →
          t.nat Key.kelsisSheddingStage = s.nat Key.kelsisSheddingStage ∧ t.nat Key.kelsisCleanEvaluations = min 3 (s.nat Key.kelsisCleanEvaluations + 1))
      ∧ (0 < s.nat Key.kelsisSheddingStage → min 3 (s.nat Key.kelsisCleanEvaluations + 1) = 3 →
          View.kelsisLoad s.get (s.nat Key.kelsisSheddingStage - 1) * 100 ≤ 85 * s.kelsisPeak →
          t.nat Key.kelsisSheddingStage = s.nat Key.kelsisSheddingStage - 1 ∧ t.nat Key.kelsisCleanEvaluations = 0
          ∧ (s.nat Key.kelsisSheddingStage = 8 → ∀ c : Fin 4, t.bitOf (Key.colHealthReasons c) kShedFull = false)) := by
  have stage : s.evaluatedClean.nat Key.kelsisSheddingStage = s.nat Key.kelsisSheddingStage := nat_evaluatedClean s _ (by decide) (by decide)
  refine ⟨_, sheddingEvaluation_clean runs updates h, ?_⟩
  by_cases lower : 0 < s.nat Key.kelsisSheddingStage ∧ min 3 (s.nat Key.kelsisCleanEvaluations + 1) = 3
      ∧ View.kelsisLoad s.get (s.nat Key.kelsisSheddingStage - 1) * 100 ≤ 85 * s.kelsisPeak
  · rw [if_pos lower]
    have restaged : Estimator (s.evaluatedClean.setStage (s.nat Key.kelsisSheddingStage - 1)) _ := (Estimator.refl _).restage
    obtain ⟨new, clean, -, overrun⟩ := (setStage_enters s.evaluatedClean (s.nat Key.kelsisSheddingStage - 1)).of restaged
    obtain ⟨above, third, fits⟩ := lower
    refine ⟨overrun, fun stays => by omega, fun _ _ _ => ⟨new, clean, fun full c => ?_⟩⟩
    rw [bitOf_of _ (restaged.values _ (colHealthReasons_estimator c c.isLt)), setStage_shed _ _ (by rw [stage, full]; decide) c, full]
    rfl
  · rw [if_neg lower]
    exact ⟨rfl, fun _ => ⟨stage, State.nat_putN_same _ _ _⟩, fun above third fits => absurd ⟨above, third, fits⟩ lower⟩

/-! ### The predictors' commands (R358) -/

theorem enterFeedback_answers (p : Path) (c : Fin 4) (accepts : Accepts s p (Key.predCommand c) 1) :
    Answers (.enterFeedback p c) s fun t => FallsBack ((s.acknowledged p).putBit (Key.predStatus c) 6 true) t c :=
  ⟨_, congrArg Host.Outcome.next (commanded_accepts s p _ _ _ accepts), feedbackOrdered_fallsBack _ c⟩

theorem returnToPredictive_answers (p : Path) (c : Fin 4) (accepts : Accepts s p (Key.predCommand c) 2) :
    Answers (.returnToPredictive p c) s fun t => Only (s.acknowledged p) t [Key.predStatus c, Key.predState c] ∧ t.bitOf (Key.predStatus c) 6 = false
      ∧ t.nat (Key.predState c) = (if s.nat (Key.predState c) = predFeedback then predPending else s.nat (Key.predState c)) := by
  have returned := orderReturn_returns (s.acknowledged p) c
  rw [State.nat_acknowledged s p _ (predState_apart c).1] at returned
  exact ⟨_, congrArg Host.Outcome.next (commanded_accepts s p _ _ _ accepts), returned⟩

theorem updateKeys (c : Fin 4) :
    updateKey (Key.predLastUpdateStep c) = true ∧ updateKey (Key.predUpdates c) = true ∧ updateKey Key.predgUpdates = true := by revert c; decide

theorem predictionUpdateDone_answers (c : Fin 4) (u : KUpdate) (h : (s.kelsis.preds[c]).update = some u) (enabled : s.flag (Key.predEnable c) = true)
    (running : s.process = psRunning) (runs : s.kelsisRuns = true) :
    Answers (.predictionUpdateDone c) s fun t => (t.kelsis.preds[c]).update = none
      ∧ t.nat (Key.predLastUpdateStep c) = u.number % 2 ^ 32 ∧ t.nat (Key.predUpdates c) = satSucc 32 (s.nat (Key.predUpdates c))
      ∧ t.nat Key.predgUpdates = satSucc 32 (s.nat Key.predgUpdates) := by
  obtain ⟨stepKept, ownKept, allKept⟩ := updateKeys c
  obtain ⟨t, ends, plans⟩ := predictionUpdateDone_plans enabled running runs u h
  obtain ⟨update, step, own, all⟩ := updateCounted_counts s c u
  exact ⟨t, ends, (plans.update c).trans update, (nat_of (plans.values _ stepKept)).trans step, (nat_of (plans.values _ ownKept)).trans own,
    (nat_of (plans.values _ allKept)).trans all⟩
end

/-- Settles O51: builds by `startBuild_starts` and `tableBuildDone_answers`, the stage by `sheddingEvaluation_raises` and
`sheddingEvaluation_settles`, the predictors by `FallsBack`, `Plans` and `orderReturn_returns`. The model's choices behind the clauses: the pressure a
build takes (log 59), a failure in the one-dimensional table (log 54), that only an entry from PREDICTIVE counts (log 143), and when SHED_FULL reaches a
predictor (log 197). -/
theorem kelsisTablesAndPredictors : Obligations.KelsisTablesAndPredictors := by
  intro s p
  refine ⟨fun g want idle runs there => ⟨_, tableBuildStart_starts s g want idle runs there, startBuild_starts s g⟩,
    fun h => ⟨fun g => ⟨_, tableBuildStart_kindling s g h, rfl⟩, _, tableBuildDone_kindling s h, rfl⟩,
    fun x runs there under => tableBuildDone_answers x runs there under, fun accepts idle => tableRebuild_answers p accepts idle,
    fun g e accepts => loadFromFile_answers p g e accepts, fun runs updates => ?_, fun c => ⟨fun enabled running runs idle => ⟨fun full => ?_, fun stage stays => ?_⟩,
      fun u h enabled running runs => predictionUpdateDone_answers c u h enabled running runs, fun accepts => ?_, fun accepts => returnToPredictive_answers p c accepts⟩⟩
  · cases overrun : s.kelsis.overrun with
    | true =>
      obtain ⟨t, evaluates, taken, stage, clean, raised⟩ := sheddingEvaluation_raises runs updates overrun
      exact ⟨t, evaluates, taken, fun _ => stage, fun _ => clean, fun _ => raised, fun h => (by cases h), fun h => (by cases h)⟩
    | false =>
      obtain ⟨t, evaluates, taken, stays, lowers⟩ := sheddingEvaluation_settles runs updates overrun
      exact ⟨t, evaluates, taken, fun h => (by cases h), fun h => (by cases h), fun h => (by cases h), fun _ => stays, fun _ => lowers⟩
  · have falls := feedbackOrdered_fallsBack s c
    exact ⟨_, predictionUpdateStart_full enabled running runs idle full, falls.state, falls.entries⟩
  · exact ⟨_, predictionUpdateStart_latches enabled running runs idle stage stays, rfl⟩
  · obtain ⟨t, entered, falls⟩ := enterFeedback_answers p c accepts
    have state : ((s.acknowledged p).putBit (Key.predStatus c) 6 true).nat (Key.predState c) = s.nat (Key.predState c) :=
      (nat_putN_of_ne _ _ _ _ (predStatus_apart c).2.2.2.2.symm).trans (State.nat_acknowledged s p _ (predState_apart c).1)
    have entries : ((s.acknowledged p).putBit (Key.predStatus c) 6 true).nat (Key.predFeedbackEntries c) = s.nat (Key.predFeedbackEntries c) :=
      (nat_putN_of_ne _ _ _ _ (predStatus_apart c).2.2.1.symm).trans (State.nat_acknowledged s p _ (predFeedbackEntries_apart c).1)
    have fallen := falls.state
    have counted := falls.entries
    rw [state] at fallen counted
    rw [entries] at counted
    exact ⟨t, entered, ⟨fallen, counted⟩, (bitOf_of 6 falls.status).trans (bitOf_putBit_same _ _ _ _)⟩

end Sys2Proof.Machine
end

section
/-! SUPPORT. The refutation of `Obligations.LevelsStoresAndRestores`: a store that ends CONFIG_INVALID brings the module to STOPPED, AUTO mode confirms
the start there (R101), and the confirmation restores the waiting record's mode into both copies (R95, R149). -/

namespace Sys2Proof.Machine

open Sys2Proof

/-! ### What returns with a record (R95, R613) -/

theorem enterStopped_copyA (s : State) : s.enterStopped.dict.copyA = s.dict.copyA := by
  have stopped : ∀ m : State, m.watchdogStop.dict.copyA = m.dict.copyA := fun _ => rfl
  rw [(enterStopped_serves s).dict, stopped, (unitsOff_serves s).dict]
  rfl
theorem restoreProcess_stopped_copyA (s : State) : (s.restoreProcess psStopped).dict.copyA = s.dict.copyA := by
  unfold State.restoreProcess State.stopIfArmed
  split
  · rfl
  · rw [if_neg (by decide), if_neg (by decide), if_neg (by decide)]
    split
    · exact enterStopped_copyA s
    · rfl

/-- Mode 0 has no entries that could fail: where another mode is active it takes force, and both copies name it (R149). -/
theorem restoreMode_base_copyA (s : State) (h : s.nat Key.modeActiveMode ≠ 0) : (s.restoreMode 0).dict.copyA.mode = 0 := by
  have entries : firstBad s.baseGet (s.modeEntries 0) = none := rfl
  unfold State.restoreMode
  rw [if_neg (by rw [entries]; exact not_or.2 ⟨fun e => h e.symm, Bool.false_ne_true⟩)]
  rfl

/-! ### A confirmation while a record waits -/

/-- The waiting record agrees with the saved configuration, and returns the module to STOPPED in mode 0 where another mode is active. -/
structure State.Returns (s : State) (r : Retention) : Prop where
  waits   : s.startup.restore = some r
  agrees  : r.checkValue = s.nat Key.cfgSavedCheckValue
  base    : r.mode = 0
  stopped : r.process = psStopped
  active  : s.nat Key.modeActiveMode ≠ 0

theorem confirmRecorded_activeMode (s : State) : s.confirmRecorded.nat Key.modeActiveMode = s.nat Key.modeActiveMode :=
  nat_of ((confirmRecorded_confirms s).values _ (by decide) (by decide))
theorem restoreTaken_nat (s : State) (k : Nat) : s.restoreTaken.nat k = s.nat k := rfl

theorem confirmStart_returns (s : State) (r : Retention) (ready : s.Confirmable) (h : s.Returns r) : s.confirmStart.dict.copyA.mode = 0 := by
  obtain ⟨waits, agrees, base, stopped, active⟩ := h
  have same : (r.checkValue == s.nat Key.cfgSavedCheckValue) = true := beq_iff_eq.2 agrees
  rw [confirmStart_restores ready r waits, same]
  unfold State.restoreRecord
  rw [if_pos rfl, base, stopped, restoreProcess_stopped_copyA]
  exact restoreMode_base_copyA _ (by rw [restoreTaken_nat, confirmRecorded_activeMode]; exact active)

/-! ### The end of a store in CONFIG_INVALID (R100, R108, R134) -/

theorem get_writeCopies (s : State) (c : FramCopy) (k : Nat) :
    (s.writeCopies c).get k = if k = Key.cfgSavedCheckValue then Int.ofNat (checkValueOf c.values c.blocks) else s.get k := by
  unfold State.writeCopies
  generalize checkValueOf c.values c.blocks = check
  exact State.get_putN _ _ _ _
theorem writeCopies_startup (s : State) (c : FramCopy) : (s.writeCopies c).startup = s.startup := by
  unfold State.writeCopies
  exact State.putN_startup _ _ _
theorem nat_of_get {s : State} {k n : Nat} (h : s.get k = Int.ofNat n) : s.nat k = n := by unfold State.nat; rw [h]; rfl
theorem scanBegun_startup (s : State) : s.scanBegun.startup = { s.startup with stoppedOnce := true } := rfl
theorem scanBegun_nat (s : State) (k : Nat) : s.scanBegun.nat k = s.nat k := rfl
theorem get_withDict (s : State) (d : Dict) (k : Nat) : ({ s with dict := d } : State).get k = s.get k := rfl

theorem get_saveDone (s : State) (o : SaveOp) (h : s.dict.saveOp = some o) (store : o.restore = false) (k : Nat) (hk : k ∉ eventKeys) :
    (s.saveDone false).get k = if k = Key.cfgSavedCheckValue then Int.ofNat (checkValueOf (s.savedCopy o).values (s.savedCopy o).blocks) else s.get k := by
  unfold State.saveDone
  rw [h]
  dsimp only
  rw [if_pos store, State.get_answer, get_log _ _ _ _ _ _ k hk, get_withDict, get_writeCopies]
theorem saveDone_startup (s : State) (o : SaveOp) (h : s.dict.saveOp = some o) (store : o.restore = false) : (s.saveDone false).startup = s.startup := by
  unfold State.saveDone
  rw [h]
  dsimp only
  rw [if_pos store, State.answer_startup, log_startup]
  exact writeCopies_startup s (s.savedCopy o)

/-- The state in which a store has made the configuration valid and STOPPED is entered for the first time. -/
def State.storedStopped (s : State) : State := ((s.saveDone false).putBit Key.cfgConfigurationStatus 0 false).putN Key.procProcessState psStopped

section
variable {s : State} {o : SaveOp} (saving : s.dict.saveOp = some o) (store : o.restore = false)
include saving store

theorem get_storedStopped (k : Nat) (hk : k ∉ eventKeys) (hc : k ≠ Key.cfgConfigurationStatus) (hp : k ≠ Key.procProcessState) :
    s.storedStopped.get k = if k = Key.cfgSavedCheckValue then Int.ofNat (checkValueOf (s.savedCopy o).values (s.savedCopy o).blocks) else s.get k :=
  ((State.get_put_other _ _ _ _ hp).trans (State.get_put_other _ _ _ _ hc)).trans (get_saveDone s o saving store k hk)
theorem storedStopped_startup : s.storedStopped.startup = s.startup := saveDone_startup s o saving store

theorem storeDone_reachesStopped (runs : s.clocksRun = true) (init : s.process = psInit) (invalid : s.bitOf Key.cfgConfigurationStatus 0 = true) :
    execStoreDone s = .next s.storedStopped.stoppedReached := by
  have due : (s.dict.saveOp.any (fun o => !o.restore) && s.process == psInit && s.bitOf Key.cfgConfigurationStatus 0) = true := by
    rw [saving, init, invalid, Option.any_some, store]
    rfl
  have still : ((s.saveDone false).putBit Key.cfgConfigurationStatus 0 false).process = psInit := by
    refine (nat_of ((State.get_put_other _ _ _ _ (by decide)).trans ((get_saveDone s o saving store _ (by decide)).trans (if_neg (by decide))))).trans init
  unfold execStoreDone State.served
  beta_reduce
  rw [if_pos runs]
  dsimp only
  rw [if_pos due]
  unfold State.firstStopped
  rw [if_neg (not_not.2 still)]
  rfl

/-- The store's end confirms the start, and the mode of the record stands in copy A. -/
theorem stoppedReached_returns (r : Retention) (opened : s.startup.opened = true) (unconfirmed : s.startup.confirmed = false)
    (first : s.startup.stoppedOnce = false) (auto : s.nat Key.startConfirmationMode = 0)
    (waits : s.startup.restore = some r) (agrees : r.checkValue = checkValueOf (s.savedCopy o).values (s.savedCopy o).blocks) (base : r.mode = 0)
    (stopped : r.process = psStopped) (active : s.nat Key.modeActiveMode ≠ 0) :
    s.storedStopped.stoppedReached.dict.copyA.mode = 0 := by
  have start := storedStopped_startup saving store
  have process : s.storedStopped.process = psStopped := process_put _ _
  have other : ∀ k, k ∉ eventKeys → k ≠ Key.cfgConfigurationStatus → k ≠ Key.procProcessState → k ≠ Key.cfgSavedCheckValue →
      s.storedStopped.nat k = s.nat k := fun k hk hc hp hs => nat_of ((get_storedStopped saving store k hk hc hp).trans (if_neg hs))
  have checked : s.storedStopped.nat Key.cfgSavedCheckValue = checkValueOf (s.savedCopy o).values (s.savedCopy o).blocks :=
    nat_of_get ((get_storedStopped saving store _ (by decide) (by decide) (by decide)).trans (if_pos rfl))
  rw [stoppedReached_eq _ (by rw [start]; exact first)]
  generalize s.storedStopped = m at *
  have served : Serves false m.scanBegun m.scanBegun.serveCores.programsAutostart := (Serves.refl _).serveCores.programsAutostart
  have stands : ∀ k, steady false k = true → m.scanBegun.serveCores.programsAutostart.nat k = m.nat k := fun k hk => (served.nat k hk).trans (scanBegun_nat m k)
  have scanned : m.scanBegun.serveCores.programsAutostart.startup = { s.startup with stoppedOnce := true } := by
    rw [served.startup, scanBegun_startup, start]
  have reached : m.scanBegun.serveCores.programsAutostart.process = psStopped := (stands _ (by decide)).trans process
  rw [if_pos ((stands _ (by decide)).trans ((other _ (by decide) (by decide) (by decide) (by decide)).trans auto))]
  refine confirmStart_returns _ r ⟨?_, ?_, ?_, ?_⟩ ⟨?_, ?_, base, stopped, ?_⟩
  · rw [scanned]; exact opened
  · rw [scanned]; exact unconfirmed
  · rw [reached]; decide
  · rw [reached]; decide
  · rw [scanned]; exact waits
  · rw [stands _ (by decide), checked]; exact agrees
  · rw [stands _ (by decide), other _ (by decide) (by decide) (by decide) (by decide)]; exact active
end

/-! ### The counterexample -/

/-- A save of the whole configuration, asked for at the service port. -/
def wholeStore : SaveOp := ⟨false, 0, ⟨.service, 0⟩, [], []⟩

/-- The record of a warm boot: STOPPED in mode 0, with the check value of the configuration that `wholeStore` leaves. -/
def baseRecord : Retention := ⟨psStopped, 0, checkValueOf [] [], 0, 0, false⟩

/-- A warm boot in INIT with CONFIG_INVALID, mode 1 active and saved, `baseRecord` waiting for its confirmation, and `wholeStore` in progress. -/
def storeWhileWaiting : State :=
  (({ State.reset with
      power   := { Power.reset with phase := .awake }
      startup := { Startup.reset with opened := true, restore := some baseRecord }
      dict    := { Dict.reset with saveOp := some wholeStore, saved := { FramCopy.manufacture with mode := 1 } } }).putN Key.modeActiveMode 1).putN
    Key.cfgConfigurationStatus 1

theorem storeWhileWaiting_copy : (storeWhileWaiting.savedCopy wholeStore).values = [] ∧ (storeWhileWaiting.savedCopy wholeStore).blocks = [] := ⟨rfl, rfl⟩
theorem baseRecord_agrees :
    baseRecord.checkValue = checkValueOf (storeWhileWaiting.savedCopy wholeStore).values (storeWhileWaiting.savedCopy wholeStore).blocks := by
  obtain ⟨values, blocks⟩ := storeWhileWaiting_copy
  rw [values, blocks, baseRecord]
theorem storeWhileWaiting_copyA : storeWhileWaiting.storedStopped.stoppedReached.dict.copyA.mode = 0 :=
  stoppedReached_returns (s := storeWhileWaiting) (o := wholeStore) rfl rfl baseRecord rfl rfl rfl (by decide +kernel) rfl baseRecord_agrees rfl rfl
    (by decide +kernel)

/-- Refutes O53: in `storeWhileWaiting` the end of `wholeStore` leaves copy A with mode 0, where the last clause claims the saved mode 1. The clause
takes the stored copy to stand whenever the start's bank does not become the preferred one; it leaves out that the confirmation in AUTO mode restores a
waiting record (R95, R101, R149). -/
theorem not_levelsStoresAndRestores : ¬ Obligations.LevelsStoresAndRestores := by
  unfold Obligations.LevelsStoresAndRestores
  intro h
  obtain ⟨-, -, -, -, -, -, -, ends⟩ := h storeWhileWaiting ⟨.service, 0⟩
  obtain ⟨t, stores, -, -, -, written, -⟩ := (ends wholeStore rfl rfl).1 rfl
  have reached : execStoreDone storeWhileWaiting = .next storeWhileWaiting.storedStopped.stoppedReached :=
    storeDone_reachesStopped (o := wholeStore) rfl rfl rfl (by decide +kernel) (by decide +kernel)
  have same : storeWhileWaiting.storedStopped.stoppedReached = t := Host.Outcome.next.inj (reached.symm.trans stores)
  have mode : t.dict.copyA.mode = 0 := same ▸ storeWhileWaiting_copyA
  rw [written (.inr (.inl rfl))] at mode
  exact absurd mode (by decide)

end Sys2Proof.Machine
end

section
/-! SUPPORT. The clear commands that reach nothing but their counters (R115, R559, R561, R562, R577), behind `Obligations.ClearsZeroTheirCounters`. -/

namespace Sys2Proof.Machine

open Sys2Proof

/-- A command that, once accepted, gives a list of counters the value 0, answers with them cleared and all else as the answer left it. -/
theorem answers_cleared {c : Instr} {s : State} {p : Path} {key : Nat} {l : List Nat}
    (e : exec c s = .next (s.commanded p key 1 fun s => s.zero l)) (ha : Accepts s p key 1) : Answers c s (Cleared (s.acknowledged p) l) :=
  answers_commanded e ha (cleared_zero _ l)

/-- Settles O6: each of these commands is its list of counters cleared behind the checks of its write (`answers_cleared`). -/
theorem clearsZeroTheirCounters : Obligations.ClearsZeroTheirCounters := by
  intro s p b
  exact ⟨answers_cleared rfl, fun _ => answers_cleared rfl, fun _ => answers_cleared rfl, answers_cleared rfl, fun _ => answers_cleared rfl,
    answers_cleared rfl, fun _ => answers_cleared rfl, fun _ => answers_cleared rfl, fun _ => answers_cleared rfl, fun _ => answers_cleared rfl,
    fun _ => answers_cleared rfl, answers_cleared rfl, fun _ => answers_cleared rfl, answers_cleared rfl⟩

end Sys2Proof.Machine
end

section
/-! SUPPORT. Dictionary transactions (R117, R120, R123, R125, R127, R128, R257, R516): what an access notes, what a refusal leaves, what is staged, behind
`Obligations.DictionaryAccess`. -/

namespace Sys2Proof.Machine

open Sys2Proof

/-! ### What an access notes (R118, R119) -/

/-- An access changes nothing of the dictionary server but the levels of the paths and the ticks of their last accesses. -/
theorem State.touch_dict (s : State) (p : Path) : ∃ canA canB service sessions,
    (s.touch p).dict = { s.dict with canA := canA, canB := canB, service := service, sessions := sessions } := by
  have noted : ∀ m : State, m.dict = s.dict → ∃ canA canB service sessions,
      (m.noteAccess p).dict = { s.dict with canA := canA, canB := canB, service := service, sessions := sessions } := by
    intro m same
    unfold State.noteAccess
    rw [← same]
    dsimp only
    split
    all_goals exact ⟨_, _, _, _, rfl⟩
  unfold State.touch
  split
  · exact noted s rfl
  · exact noted _ (eventWake_dict s)

theorem State.touch_staged (s : State) (p : Path) : (s.touch p).dict.staged = s.dict.staged := by
  obtain ⟨_, _, _, _, same⟩ := s.touch_dict p
  rw [same]

/-! ### What a refusal leaves (R127, R128, R516) -/

/-- Path `p` has been refused with `e`: its detail word and its answer, beside them the values of `counts` and nothing else; what was staged stays. -/
def RefusedAt (s : State) (counts : List Nat) (p : Path) (e : Refused) (t : State) : Prop :=
  t.lastAnswer p = some (.abort e.code) ∧ t.nat (Key.abortDetail p.writer.code) = e.word
    ∧ Only { s.touch p with dict := t.dict } t (Key.abortDetail p.writer.code :: counts) ∧ t.dict.staged = s.dict.staged

/-- A refusal behind values of `counts` that have been noted. -/
theorem refusedAt_refuse {s m : State} {p : Path} {counts : List Nat} (noted : Only (s.touch p) m counts) (e : Refused) :
    RefusedAt s counts p e (m.refuse p e) := by
  obtain ⟨rest, values⟩ := noted
  have staged : m.dict.staged = s.dict.staged := by rw [rest]; exact s.touch_staged p
  refine ⟨State.lastAnswer_refuse _ _ _, State.nat_putN_same _ _ _, ⟨?_, fun k hk => ?_⟩, staged⟩
  · generalize m.obj = obj at rest
    subst rest
    rfl
  · rw [List.mem_cons, not_or] at hk
    exact (State.get_put_other m _ k _ hk.1).trans (values k hk.2)

/-- A refused command leaves the refusal alone. -/
theorem answers_refused {c : Instr} {s : State} {p : Path} {key : Nat} {f : State → State} {e : Refused}
    (runs : exec c s = .next (s.commanded p key 1 f)) (refuses : Refuses s p key 1 e) : Answers c s (RefusedAt s [] p e) := by
  rw [commanded_refuses s p key 1 e f refuses] at runs
  exact ⟨_, runs, refusedAt_refuse (.refl _ _) e⟩

/-- What a refused write to a key may count: at a transmit port its tag and its full queue (R516). -/
def portCounts (key : Nat) : List Nat :=
  match transmitPortOf key with
  | some b => [Key.canTagOfLastRefusal b, Key.canQueueLimitReached b]
  | none => []

theorem refusedAt_requestRefuse (s : State) (p : Path) (key : Nat) (bs : List Byte) (e : Refused) :
    RefusedAt s (portCounts key) p e ((s.touch p).requestRefuse p key bs e) := by
  unfold State.requestRefuse portCounts
  cases transmitPortOf key with
  | none => exact refusedAt_refuse (.refl _ _) e
  | some b =>
    have tagged : Only (s.touch p) (if 8 ≤ bs.length then (s.touch p).putN (Key.canTagOfLastRefusal b) (entryOf bs).tag else s.touch p)
        [Key.canTagOfLastRefusal b, Key.canQueueLimitReached b] := .ite ((Only.refl _ _).putN _ _ (by simp)) (.refl _ _)
    exact refusedAt_refuse (.ite (tagged.bump _ _ (by simp)) tagged) e

/-! ### What is staged (R123, R125, R257) -/

/-- `v` waits for `key` on path `p` behind the writes staged before it, in place of the path's earlier one to that key; a TRIGGER of the trace behind the
path's ARM waits for nothing. -/
def StagedAt (s : State) (p : Path) (key : Nat) (v : DVal) (t : State) : Prop :=
  t = { s.touch p with dict := t.dict }
    ∧ if key = Key.traceCommand ∧ v = .num 2 ∧ (∃ w ∈ s.dict.staged, w.path = p ∧ w.key = Key.traceCommand ∧ w.value = .num 1)
      then t.dict.staged = s.dict.staged else t.dict.staged = s.dict.staged.filter (fun w => !(w.path == p && w.key == key)) ++ [⟨p, key, v⟩]

theorem any_arms_iff (l : List Staged) (p : Path) :
    l.any (fun w => w.path == p && w.arms) = true ↔ ∃ w ∈ l, w.path = p ∧ w.key = Key.traceCommand ∧ w.value = .num 1 := by
  simp [Staged.arms]

theorem stagedAt_stage (s : State) (p : Path) (key : Nat) (v : DVal) : StagedAt s p key v ((s.touch p).stage p key v) := by
  have armed := any_arms_iff s.dict.staged p
  rw [← s.touch_staged p] at armed
  unfold StagedAt
  rw [← s.touch_staged p]
  by_cases late : key = Key.traceCommand ∧ v = .num 2 ∧ ∃ w ∈ (s.touch p).dict.staged, w.path = p ∧ w.key = Key.traceCommand ∧ w.value = .num 1
  · have same : (s.touch p).stage p key v = s.touch p := if_pos (late.imp_right (.imp_right armed.2))
    rw [same, if_pos late]
    exact ⟨rfl, rfl⟩
  · unfold State.stage
    rw [if_neg late, if_neg fun h => late (h.imp_right (.imp_right armed.1))]
    exact ⟨rfl, rfl⟩

/-! ### Requests (R117, R120, R125) -/

section
variable {s : State} {p : Path} {key : Nat} {data : List Byte}

theorem writeRequest_busy (busy : s.pathBusy p = true) : s.writeRequest p key data = s := if_pos busy

theorem writeRequest_refused (idle : s.pathBusy p = false) {e : Refused} (fails : (s.touch p).checkWrite p key (.bytes data) = .error e) :
    s.writeRequest p key data = (s.touch p).requestRefuse p key data e := by
  unfold State.writeRequest
  rw [if_neg (by rw [idle]; decide)]
  dsimp only
  rw [fails]

theorem writeRequest_accepted (idle : s.pathBusy p = false) {v : DVal} (passes : (s.touch p).checkWrite p key (.bytes data) = .ok v) :
    s.writeRequest p key data = (s.touch p).acceptWrite p key v := by
  unfold State.writeRequest
  rw [if_neg (by rw [idle]; decide)]
  dsimp only
  rw [passes]

theorem readRequest_refused (idle : s.pathBusy p = false) {e : Refused} (fails : (s.touch p).checkRead key = .error e) :
    s.readRequest p key = (s.touch p).refuse p e := by
  unfold State.readRequest
  rw [if_neg (by rw [idle]; decide)]
  dsimp only
  rw [fails]

theorem readRequest_accepted (idle : s.pathBusy p = false) {r : Row} (passes : (s.touch p).checkRead key = .ok r) (plain : thermalReadOf key = none) :
    s.readRequest p key = ((s.touch p).readRow p key r).2.answer p ((s.touch p).readRow p key r).1 := by
  unfold State.readRequest
  rw [if_neg (by rw [idle]; decide)]
  dsimp only
  rw [passes]
  dsimp only
  rw [plain]

variable (runs : s.clocksRun = true) {c : Instr}
include runs

/-- A write on path `p` that the command hands on is refused, staged, or kept out by one under way. -/
theorem answers_writeRequest (handed : exec c s = .next (s.served fun s => s.writeRequest p key data)) :
    (s.pathBusy p = false →
      (∀ e, (s.touch p).checkWrite p key (.bytes data) = .error e → Answers c s (RefusedAt s (portCounts key) p e))
      ∧ ∀ n, (s.touch p).checkWrite p key (.bytes data) = .ok (.num n) → Answers c s (StagedAt s p key (.num n)))
    ∧ (s.pathBusy p = true → Answers c s fun t => t = s) := by
  have served : exec c s = .next (s.writeRequest p key data) := handed.trans (congrArg _ (if_pos runs))
  refine ⟨fun idle => ⟨fun e fails => ⟨_, served, ?_⟩, fun n passes => ⟨_, served, ?_⟩⟩, fun busy => ⟨_, served, writeRequest_busy busy⟩⟩
  · rw [writeRequest_refused idle fails]
    exact refusedAt_requestRefuse s p key data e
  · rw [writeRequest_accepted idle passes]
    exact stagedAt_stage s p key (.num n)

/-- A read that the command hands on is refused or answered with what the row reads as. -/
theorem answers_readRequest (handed : exec c s = .next (s.served fun s => s.readRequest p key)) (idle : s.pathBusy p = false) :
    (∀ e, (s.touch p).checkRead key = .error e → Answers c s (RefusedAt s [] p e))
    ∧ ∀ r, (s.touch p).checkRead key = .ok r → thermalReadOf key = none → Answers c s fun t => t.lastAnswer p = some ((s.touch p).readRow p key r).1 := by
  have served : exec c s = .next (s.readRequest p key) := handed.trans (congrArg _ (if_pos runs))
  refine ⟨fun e fails => ⟨_, served, ?_⟩, fun r passes plain => ⟨_, served, ?_⟩⟩
  · rw [readRequest_refused idle fails]
    exact refusedAt_refuse (.refl _ _) e
  · rw [readRequest_accepted idle passes plain]
    exact State.lastAnswer_answer _ _ _
end

/-- Settles O52: writes and reads by the checks of the access (`answers_writeRequest`, `answers_readRequest`), refused commands by `answers_refused`. -/
theorem dictionaryAccess : Obligations.DictionaryAccess := by
  intro s p runs
  refine ⟨fun index sub data => ?_, fun e => ?_⟩
  · obtain ⟨idle, busy⟩ := answers_writeRequest runs (c := .dictWrite p index sub data) rfl
    refine ⟨idle, busy, fun free => ?_⟩
    obtain ⟨written, -⟩ := answers_writeRequest runs (c := .servicePortRequest index sub (some data)) rfl
    obtain ⟨refused, answered⟩ := answers_readRequest runs (c := .servicePortRequest index sub none) rfl free
    exact ⟨(written free).1, (written free).2, refused, answered⟩
  · exact ⟨answers_refused rfl, fun l => answers_refused rfl, fun a => answers_refused rfl, fun d => answers_refused rfl, fun c => answers_refused rfl,
      answers_refused rfl⟩

end Sys2Proof.Machine
end

section
/-! SUPPORT. What the module's units leave alone while they work (`Leaves`): the dictionary server, the tick and the values of the objects below 0x2200,
among them process, host watchdog and Damper overlays (R111, R136, R145). `Serves` leaves out the tick and the host watchdog's objects. One rule per
operation of the front end, the outputs and the loops. -/

namespace Sys2Proof.Machine

open Sys2Proof

-- Each rule rests on the ones above it: elaborated one by one they keep no threads waiting.
set_option Elab.async false

/-! ### The frame -/

/-- The dictionary server, the tick, and the values of the objects below 0x2200. -/
def State.ownView (s : State) : Dict × Nat × (Nat → Int) := (s.dict, s.clock.tick, fun k => if k < 0x220000 then s.get k else 0)

/-- From `s` to `t` units have worked: dictionary server, tick and the objects below 0x2200 stand. -/
def Leaves (s t : State) : Prop := t.ownView = s.ownView

/-- A subindex of an object from 0x2200 on. -/
theorem above {i j : Nat} (hi : 0x2200 ≤ i := by omega) : 0x220000 ≤ i * 256 + j := by omega

theorem Leaves.refl (s : State) : Leaves s s := rfl
theorem Leaves.of {s m t : State} (h : Leaves s m) (dict : t.dict = m.dict) (tick : t.clock.tick = m.clock.tick)
    (values : ∀ k < 0x220000, t.get k = m.get k) : Leaves s t := by
  have own : t.ownView = m.ownView := by
    unfold State.ownView
    rw [dict, tick]
    refine congrArg (fun f => (m.dict, m.clock.tick, f)) (funext fun k => ?_)
    split
    · exact values k (by assumption)
    · rfl
  exact own.trans h
theorem Leaves.ite {s a b : State} {p : Prop} [Decidable p] (h : Leaves s a) (g : Leaves s b) : Leaves s (if p then a else b) := by
  split
  · exact h
  · exact g
theorem Leaves.foldl {α : Type} {s m : State} (f : State → α → State) (l : List α) (h : Leaves s m) (hf : ∀ m x, Leaves s m → Leaves s (f m x)) :
    Leaves s (l.foldl f m) := by
  induction l generalizing m with
  | nil => exact h
  | cons x t ih => exact ih (hf _ _ h)

section
variable {s t : State}

theorem Leaves.dict (h : Leaves s t) : t.dict = s.dict := congrArg (fun v => v.1) h
theorem Leaves.tick (h : Leaves s t) : t.clock.tick = s.clock.tick := congrArg (fun v => v.2.1) h
theorem Leaves.get (h : Leaves s t) (k : Nat) (hk : k < 0x220000 := by decide) : t.get k = s.get k := by
  have value := congrFun (congrArg (fun v => v.2.2) h) k
  simpa only [State.ownView, if_pos hk] using value
theorem Leaves.nat (h : Leaves s t) (k : Nat) (hk : k < 0x220000 := by decide) : t.nat k = s.nat k := nat_of (h.get k hk)

end

section
variable {s m : State}

/-! ### Values and parts -/

theorem Leaves.put (h : Leaves s m) (k : Nat) (v : Int) (hk : 0x220000 ≤ k := by exact above) : Leaves s (m.put k v) :=
  h.of rfl rfl fun _ hj => State.get_put_other _ _ _ _ (by omega)
theorem Leaves.putN (h : Leaves s m) (k v : Nat) (hk : 0x220000 ≤ k := by exact above) : Leaves s (m.putN k v) := h.put k _ hk
theorem Leaves.putW (h : Leaves s m) (k : Nat) (v : Word) (hk : 0x220000 ≤ k := by exact above) : Leaves s (m.putW k v) := h.put k _ hk
theorem Leaves.putBit (h : Leaves s m) (k n : Nat) (b : Bool) (hk : 0x220000 ≤ k := by exact above) : Leaves s (m.putBit k n b) := h.put k _ hk
theorem Leaves.bump (h : Leaves s m) (w k : Nat) (hk : 0x220000 ≤ k := by exact above) : Leaves s (State.bump w m k) := h.put k _ hk
theorem Leaves.zero (h : Leaves s m) (l : List Nat) (hl : ∀ k ∈ l, 0x220000 ≤ k) : Leaves s (m.zero l) := by
  induction l generalizing m with
  | nil => exact h
  | cons k t ih =>
    rw [List.forall_mem_cons] at hl
    exact ih (h.put k 0 hl.1) hl.2

theorem Leaves.setChannel (h : Leaves s m) (n : Fin 64) (f : Channel → Channel) : Leaves s (m.setChannel n f) := h
theorem Leaves.setConverter (h : Leaves s m) (v : Fin 8) (f : Converter → Converter) : Leaves s (m.setConverter v f) := h
theorem Leaves.setDrive (h : Leaves s m) (d : Fin 16) (f : DriveUnit → DriveUnit) : Leaves s (m.setDrive d f) := h
theorem Leaves.setOutput (h : Leaves s m) (k : Fin 8) (f : OutputUnit → OutputUnit) : Leaves s (m.setOutput k f) := h
theorem Leaves.setAct (h : Leaves s m) (a : Fin 20) (f : ActUnit → ActUnit) : Leaves s (m.setAct a f) := h
theorem Leaves.setLoop (h : Leaves s m) (l : Fin 64) (f : LoopUnit → LoopUnit) : Leaves s (m.setLoop l f) := h
theorem Leaves.freeNat (h : Leaves s m) : Leaves s m.freeNat.2 := h
theorem Leaves.freeRound (h : Leaves s m) (n : Int) (d : Nat) : Leaves s (m.freeRound n d).2 := by
  unfold State.freeRound
  dsimp only
  split
  · exact h
  · exact h

/-! ### Sources and events -/

theorem Leaves.moves {t : State} (h : Leaves s m) (g : Moves m t []) : Leaves s t := by
  have off : ∀ j ∈ eventKeys, 0x220000 ≤ j := by decide
  exact h.of (congrArg State.dict g.beside : t.besideEvents.dict = m.besideEvents.dict) (congrArg Clock.tick g.clock)
    fun k hk => g.get k fun event => absurd (off k event) (by omega)
theorem Leaves.raiseSource (h : Leaves s m) (src : Nat) : Leaves s (m.raiseSource src) := h.moves ((Moves.refl _ _).raiseSource _)
theorem Leaves.log (h : Leaves s m) (code source w4 w5 w6 : Nat) : Leaves s (m.log code source w4 w5 w6) := h.moves ((Moves.refl _ _).log _ _ _ _ _)

/-! ### The front end's slots and blanking (R157, R179, R186-R190) -/

theorem Leaves.markHeld (h : Leaves s m) (v : Fin 8) (taken : Option (Fin 64 × Nat)) : Leaves s (m.markHeld v taken) :=
  .foldl _ _ h fun _ _ g => .ite (g.setChannel _ _) g
theorem Leaves.startSlot (h : Leaves s m) (v : Fin 8) (n : Fin 64) : Leaves s (m.startSlot v n) := by
  unfold State.startSlot
  dsimp only
  split
  · exact h
  · have taken := fun f g => (h.setConverter v f).setChannel n g
    exact Leaves.putN (.ite (taken _ _) ((taken _ _).putN _ _)) _ _
theorem Leaves.serveCore (h : Leaves s m) (v : Fin 8) : Leaves s (m.serveCore v) := by
  unfold State.serveCore
  dsimp only
  split
  · exact h
  · have held := h.markHeld v (m.nextChannel v)
    split
    · exact .ite (held.setConverter _ _) (held.startSlot _ _)
    · exact held.startSlot _ _
    · exact held.setConverter _ _
    · exact held
theorem Leaves.serveCores (h : Leaves s m) : Leaves s m.serveCores := .foldl _ _ h fun _ v g => g.serveCore v
theorem Leaves.starve (h : Leaves s m) (n : Fin 64) : Leaves s (m.starve n) := .ite (h.setChannel _ _) ((h.setChannel _ _).log _ _ _ _ _)
theorem Leaves.abortedRetake (h : Leaves s m) (n : Fin 64) : Leaves s (m.abortedRetake n) :=
  .ite h (.ite (h.setChannel _ _) (((h.setChannel _ _).bump _ _).putN _ _))
theorem Leaves.abortSlot (h : Leaves s m) (v : Fin 8) (src t : Nat) : Leaves s (m.abortSlot v src t) := by
  unfold State.abortSlot
  split
  · exact h
  · have ended := fun f n g => ((h.setConverter v f).setChannel n g).bump 32 (Key.convSlotsAborted v.val)
    exact .ite (.ite (Leaves.starve (.ite ((ended _ _ _).abortedRetake _) (ended _ _ _)) _) (.ite ((ended _ _ _).abortedRetake _) (ended _ _ _))) h
theorem Leaves.unstartSlot (h : Leaves s m) (v : Fin 8) (src t : Nat) : Leaves s (m.unstartSlot v src t) := by
  unfold State.unstartSlot
  split
  · exact .ite ((h.setConverter _ _).setChannel _ _) h
  · exact h
theorem Leaves.blankRelease (h : Leaves s m) (src : Nat) : Leaves s (m.blankRelease src) := Leaves.serveCores (s := s) h
theorem Leaves.blankAssert (h : Leaves s m) (src t : Nat) : Leaves s (m.blankAssert src t) := by
  unfold State.blankAssert
  split
  · exact h
  · extract_lets unstarted front effective marked
    have hu : Leaves s unstarted := .foldl _ _ h fun _ v g => g.unstartSlot v src t
    clear_value unstarted
    have hm : Leaves s marked := .foldl _ _ hu fun _ _ g => .ite (g.setChannel _ _) g
    exact Leaves.serveCores (.foldl _ _ hm fun _ v g => g.abortSlot v src _)
theorem Leaves.blankAgain (h : Leaves s m) (src : Nat) : Leaves s (m.blankAgain src) := (h.blankRelease src).blankAssert src _
theorem Leaves.blankJudge (h : Leaves s m) (i : Fin 2) (t : Nat) : Leaves s (m.blankJudge i t) := .ite (h.blankAssert _ _) (h.blankRelease _)

/-! ### Drives and current outputs (R404-R421) -/

theorem Leaves.evalTable (h : Leaves s m) (d k : Nat) : Leaves s (m.evalTable d k) := .ite (h.putN _ _) (h.putN _ _)
theorem Leaves.driveEnter (h : Leaves s m) (d : Fin 16) (st : Nat) : Leaves s (m.driveEnter d st) := by
  unfold State.driveEnter
  extract_lets released counted cleared
  have hr : Leaves s released := .ite (h.blankRelease _) h
  clear_value released
  have hc : Leaves s counted := .ite (hr.putN _ _) hr
  clear_value counted
  have hb : Leaves s cleared := .ite (((hc.putBit _ _ _).putBit _ _ _).putBit _ _ _) hc
  exact .ite h ((hb.putN _ _).raiseSource _)
theorem Leaves.driveStart (h : Leaves s m) (d : Fin 16) (n : Nat) : Leaves s (m.driveStart d n) := ((h.driveEnter d _).putN _ _).blankAgain _
theorem Leaves.driveHold (h : Leaves s m) (d : Fin 16) : Leaves s (m.driveHold d) := h
theorem Leaves.tableUse (h : Leaves s m) (d : Fin 16) : Leaves s (m.tableUse d) := by
  unfold State.tableUse
  extract_lets use entering used evaluated
  have he : Leaves s evaluated := .ite ((h.setDrive d _).evalTable d 0) h
  exact .ite (he.log _ _ _ _ _) he
theorem Leaves.driveAdvance (h : Leaves s m) (d : Fin 16) : Leaves s (m.driveAdvance d) := by
  unfold State.driveAdvance
  extract_lets noTach idle st go
  have hi : Leaves s idle := .ite (h.driveEnter d _) h
  clear_value idle
  exact .ite (h.driveEnter d _) (.ite (.ite (.ite ((hi.driveEnter d _).blankAgain _) (hi.driveStart d 1)) hi)
    (.ite hi (.ite (.ite hi (hi.driveEnter d _)) (.ite (hi.driveEnter d _) hi))))
theorem Leaves.serveDrive (h : Leaves s m) (d : Fin 16) : Leaves s (m.serveDrive d) := by
  rw [serveDrive_eq]
  have settled : Leaves s (m.driveSettled d) := (((((h.driveHold d).tableUse d).driveAdvance d).tableUse d).driveAdvance d).tableUse d
  exact (settled.put _ _).setDrive d _
theorem Leaves.serveDrives (h : Leaves s m) : Leaves s m.serveDrives := .foldl _ _ h fun _ d g => g.serveDrive d

theorem Leaves.outputCleared (h : Leaves s m) (k : Nat) : Leaves s (m.outputCleared k) := .ite ((h.putBit _ _ _).putBit _ _ _) h
theorem Leaves.serveOutput (h : Leaves s m) (k : Fin 8) : Leaves s (m.serveOutput k) := by
  unfold State.serveOutput
  extract_lets now held r clamped forced shown pinned
  have hf : Leaves s forced := .ite ((h.setOutput k _).bump _ _) (h.setOutput k _)
  clear_value forced
  have hp : Leaves s pinned := (((hf.putN _ _).putW _ _).putBit _ _ _).setOutput k _
  exact hp.outputCleared k
theorem Leaves.serveOutputs (h : Leaves s m) : Leaves s m.serveOutputs := .foldl _ _ h fun _ k g => g.serveOutput k

/-! ### Actuators (R372-R402) -/

theorem Leaves.actOpen (h : Leaves s m) (a : Fin 20) : Leaves s (m.actOpen a) := by
  have opened := h.setAct a ActUnit.opened
  have released := Leaves.ite (p := (m.actUnit a).phase = .rise ∨ (m.actUnit a).phase = .dwell) (opened.blankRelease (blankAct a)) opened
  exact .ite (released.raiseSource _) released
theorem Leaves.actOff (h : Leaves s m) (a : Fin 20) : Leaves s (m.actOff a) := (h.actOpen a).putN _ _
theorem Leaves.actRefuse (h : Leaves s m) (a : Fin 20) (reason : Nat) : Leaves s (m.actRefuse a reason) :=
  ((((h.setAct a _).putN _ _).putN _ _).bump _ _).raiseSource _
theorem Leaves.overlapRefuse (h : Leaves s m) (a : Fin 20) : Leaves s (m.overlapRefuse a) :=
  ((((h.freeRound _ _).log _ _ _ _ _).actRefuse a 10).bump _ _).raiseSource _
theorem Leaves.actTake (h : Leaves s m) (a : Fin 20) : Leaves s (m.actTake a) := h.setAct a _
theorem Leaves.actOverlap (h : Leaves s m) (a : Fin 20) : Leaves s (m.actOverlap a) := .ite (h.actTake a) (.ite (h.setAct a _) (h.overlapRefuse a))
theorem Leaves.actRequest (h : Leaves s m) (a : Fin 20) (pulse safe : Bool) : Leaves s (m.actRequest a pulse safe) := by
  refine .ite h (.ite (.ite (h.setAct a _) h) (.ite h ?_))
  split
  · exact h.actRefuse a _
  · exact (h.setAct a _).actOverlap a
theorem Leaves.startDeferred (h : Leaves s m) (a : Fin 20) : Leaves s (m.startDeferred a) := .ite (((h.freeNat.actTake a).putN _ _).bump _ _) h
theorem Leaves.serveProp (h : Leaves s m) (a : Fin 20) : Leaves s (m.serveProp a) := by
  have taken := fun f => h.setAct a f
  refine .ite h (.ite (.setAct (.ite ((taken _).actOpen a) (taken _)) a _) (.ite ((taken _).setAct a _) ?_))
  split
  · exact ((taken _).setAct a _).actRefuse a _
  · exact (((taken _).setAct a _).bump _ _).raiseSource _
theorem Leaves.claimChanged (h : Leaves s m) (a : Fin 20) : Leaves s (m.claimChanged a) := .ite h ((h.startDeferred _).serveProp _)
theorem Leaves.serveProps (h : Leaves s m) : Leaves s m.serveProps := .foldl _ _ h fun _ a g => (g.serveProp a).claimChanged a
theorem Leaves.serveAllOutputs (h : Leaves s m) : Leaves s m.serveAllOutputs := h.serveProps.serveDrives.serveOutputs
theorem Leaves.actSafe (h : Leaves s m) (a : Fin 20) : Leaves s (m.actSafe a) :=
  .ite (.ite (.ite (h.setAct a _) (h.actRequest a false true)) ((h.actOff a).claimChanged a)) ((h.serveProp a).claimChanged a)

/-! ### The host-lost policies (R137-R139) -/

theorem Leaves.actPolicyTaken (h : Leaves s m) (a : Fin 20) : Leaves s (m.actPolicyTaken a) := by
  unfold State.actPolicyTaken
  extract_lets code now u held
  have hh : Leaves s held := h.setAct a _
  clear_value held
  split
  · exact .ite (h.serveProp a) h
  clear_value now
  split
  · exact hh.serveProp a
  · exact hh.actSafe a
  · exact .ite ((hh.actOff a).claimChanged a) ((hh.serveProp a).claimChanged a)
  · exact .ite ((hh.actOff a).claimChanged a) ((hh.setAct a _).serveProp a)
theorem Leaves.actPolicy (h : Leaves s m) (a : Fin 20) : Leaves s (m.actPolicy a) := .ite ((h.actPolicyTaken a).putN _ _) (h.actPolicyTaken a)
theorem Leaves.serveActPolicies (h : Leaves s m) : Leaves s m.serveActPolicies := .foldl _ _ h fun _ a g => g.actPolicy a
theorem Leaves.servePolicies (h : Leaves s m) : Leaves s m.servePolicies := h.serveActPolicies.serveDrives.serveOutputs

theorem Leaves.policyApplied (h : Leaves s m) (l : Fin 64) : Leaves s (m.policyApplied l).2 := by
  unfold State.policyApplied
  dsimp only
  split
  · exact h
  · exact h.freeRound _ _
  · exact h.freeRound _ _
  · exact h
theorem Leaves.loopsHostReturn (h : Leaves s m) : Leaves s m.loopsHostReturn := .foldl _ _ h fun _ l g => .ite ((g.policyApplied l).setLoop l _) g

end

end Sys2Proof.Machine
end

section
/-! SUPPORT. The host watchdog's rows (R136, R137, R139, R141), behind `Obligations.HostWatchdog`. -/

namespace Sys2Proof.Machine

open Sys2Proof

section
variable (s : State) (p : Path)

/-! ### What an acknowledged access keeps -/

theorem State.acknowledged_policies : (s.acknowledged p).dict.policies = s.dict.policies := by
  obtain ⟨_, _, _, _, same⟩ := s.touch_dict p
  exact (congrArg Dict.policies same :)

/-! ### The watchdog's operations -/

theorem get_watchdogRestart (k : Nat) : s.watchdogRestart.get k = s.get k := by unfold State.watchdogRestart; split <;> rfl
theorem nat_watchdogRestart (k : Nat) : s.watchdogRestart.nat k = s.nat k := nat_of (get_watchdogRestart s k)
theorem policies_watchdogRestart : s.watchdogRestart.dict.policies = s.dict.policies := by unfold State.watchdogRestart; split <;> rfl

theorem watchdog_watchdogRestart (ok : s.nat Key.lostState = 0) : s.watchdogRestart.dict.watchdog =
    ⟨s.watchdogCounts, s.clock.tick, s.nat Key.hostTimeout, s.dict.watchdog.lastBeat⟩ := by unfold State.watchdogRestart; rw [if_pos ok]

/-- The policies begin, or end. -/
def State.setPolicies (s : State) (on : Bool) : State := { s with dict := { s.dict with policies := on } }
theorem Leaves.setPolicies {s m : State} (h : Leaves s m) (on : Bool) : Leaves (s.setPolicies on) (m.setPolicies on) :=
  (Leaves.refl (s.setPolicies on)).of (congrArg (fun d : Dict => { d with policies := on }) h.dict) h.tick fun k hk => h.get k hk

/-- The host's return ends the policies; the units take over. -/
theorem leaves_hostReturn : Leaves (s.setPolicies false) s.hostReturn :=
  Leaves.servePolicies (((Leaves.refl s).loopsHostReturn).setPolicies false)
theorem policies_hostReturn : s.hostReturn.dict.policies = false := congrArg Dict.policies (leaves_hostReturn s).dict

/-! ### The rows -/

/-- Expiry of a counting watchdog: LOST, and the policies hold. -/
theorem answers_hostWatchdogExpiry (runs : s.clocksRun = true) (running : s.dict.watchdog.running = true) (ok : s.nat Key.lostState = 0)
    (counts : s.watchdogCounts = true) : Answers .hostWatchdogExpiry s fun t =>
      t.nat Key.lostState = 1 ∧ t.dict.policies = true ∧ t.dict.watchdog.running = false
      ∧ t.nat Key.lostExpiries = satSucc 16 (s.nat Key.lostExpiries) := by
  refine ⟨_, congrArg Host.Outcome.next (if_pos ⟨runs, running, ok, counts⟩), ?_⟩
  dsimp only
  generalize hm : State.bump 16 (s.watchdogStop.putN Key.lostState 1) Key.lostExpiries = m
  have worked := ((Leaves.refl (m.setPolicies true)).servePolicies).log 0x0703 noSource 0 0 0
  have lost : m.nat Key.lostState = 1 := by
    subst hm
    rw [State.nat, State.get_bump, if_neg (by decide)]
    exact State.nat_putN_same _ _ _
  have expiries : m.nat Key.lostExpiries = satSucc 16 (s.nat Key.lostExpiries) := by
    subst hm
    rw [State.nat, State.get_bump, if_pos rfl, nat_putN_of_ne _ _ _ _ (by decide)]
    rfl
  refine ⟨(worked.nat _).trans lost, congrArg Dict.policies worked.dict, ?_, (worked.nat _).trans expiries⟩
  exact (congrArg (fun d : Dict => d.watchdog.running) worked.dict).trans (by subst hm; rfl)

/-- A host's heartbeat while OK, or that ends LOST: its writer is noted and the watchdog restarts. -/
def State.beatNoted (s : State) (p : Path) : State :=
  let s1 := s.putN Key.hbeatLastHeartbeatWriter p.writer.code
  ({ s1 with dict := { s1.dict with watchdog := { s1.dict.watchdog with lastBeat := s1.clock.tick } } }).watchdogRestart

theorem heartbeat_ok (v : Nat) (host : (s.putN Key.hbeatHeartbeat v).hostPath p = true) (ok : (s.putN Key.hbeatHeartbeat v).nat Key.lostState = 0) :
    s.heartbeat p v = (s.putN Key.hbeatHeartbeat v).beatNoted p := by
  unfold State.heartbeat
  dsimp only
  rw [if_neg (by rw [host]; decide), ok]
  rfl
theorem heartbeat_lost (v : Nat) (host : (s.putN Key.hbeatHeartbeat v).hostPath p = true) (lost : (s.putN Key.hbeatHeartbeat v).nat Key.lostState = 1) :
    s.heartbeat p v = let m := s.putN Key.hbeatHeartbeat v
      if m.nat Key.hostRecoveryMode = 1 then (m.hostReturn.putN Key.lostState 0).beatNoted p else m.putN Key.lostState 2 := by
  unfold State.heartbeat
  dsimp only
  rw [if_neg (by rw [host]; decide), lost]
  rfl

theorem nat_beatNoted (k : Nat) : (s.beatNoted p).nat k = (s.putN Key.hbeatLastHeartbeatWriter p.writer.code).nat k := nat_watchdogRestart _ k
theorem watchdog_beatNoted (ok : s.nat Key.lostState = 0) :
    (s.beatNoted p).dict.watchdog = ⟨s.watchdogCounts, s.clock.tick, s.nat Key.hostTimeout, s.clock.tick⟩ := by
  have state : (s.putN Key.hbeatLastHeartbeatWriter p.writer.code).nat Key.lostState = 0 := (nat_putN_of_ne _ _ _ _ (by decide)).trans ok
  have timeout : (s.putN Key.hbeatLastHeartbeatWriter p.writer.code).nat Key.hostTimeout = s.nat Key.hostTimeout := nat_putN_of_ne _ _ _ _ (by decide)
  have process : (s.putN Key.hbeatLastHeartbeatWriter p.writer.code).process = s.process := nat_putN_of_ne _ _ _ _ (by decide)
  have counts : (s.putN Key.hbeatLastHeartbeatWriter p.writer.code).watchdogCounts = s.watchdogCounts := by unfold State.watchdogCounts; rw [process]
  rw [← timeout, ← counts]
  exact watchdog_watchdogRestart _ state
theorem policies_beatNoted : (s.beatNoted p).dict.policies = s.dict.policies := policies_watchdogRestart _

/-- A host's heartbeat while the state is OK restarts the count (R136). -/
theorem answers_heartbeat_ok (v : BitVec 16) (ha : Accepts s p Key.hbeatHeartbeat v.toNat) (host : s.hostPath p = true) (ok : s.nat Key.lostState = 0) :
    Answers (.heartbeat p v) s fun t => t.nat Key.lostState = 0 ∧ t.nat Key.hbeatHeartbeat = v.toNat
      ∧ t.nat Key.hbeatLastHeartbeatWriter = p.writer.code
      ∧ t.dict.watchdog = ⟨s.watchdogCounts, s.clock.tick, s.nat Key.hostTimeout, s.clock.tick⟩ := by
  refine answers_commanded rfl ha ?_
  generalize hm : (s.acknowledged p).putN Key.hbeatHeartbeat v.toNat = m
  have kept (k : Nat) (event : k ∉ eventKeys) (apart : k ≠ Key.hbeatHeartbeat) : m.nat k = s.nat k := by
    rw [← hm, nat_putN_of_ne _ _ _ _ apart, State.nat_acknowledged s p k event]
  have stillHost : m.hostPath p = true := by unfold State.hostPath; rw [kept _ (by decide) (by decide)]; exact host
  have stillOk : m.nat Key.lostState = 0 := (kept _ (by decide) (by decide)).trans ok
  have counts : m.watchdogCounts = s.watchdogCounts := by unfold State.watchdogCounts State.process; rw [kept _ (by decide) (by decide)]
  have tick : m.clock.tick = s.clock.tick := by rw [← hm]; exact congrArg Clock.tick (State.acknowledged_clock s p)
  have beat : (s.acknowledged p).heartbeat p v.toNat = m.beatNoted p := by
    subst hm
    exact heartbeat_ok _ p v.toNat stillHost stillOk
  rw [beat]
  refine ⟨?_, ?_, ?_, ?_⟩
  · rw [nat_beatNoted, nat_putN_of_ne _ _ _ _ (by decide), stillOk]
  · rw [nat_beatNoted, nat_putN_of_ne _ _ _ _ (by decide), ← hm, State.nat_putN_same]
  · rw [nat_beatNoted, State.nat_putN_same]
  · rw [watchdog_beatNoted _ _ stillOk, counts, tick, kept _ (by decide) (by decide)]

/-- A host's heartbeat while LOST recovers, or waits for the acknowledgement (R139). -/
theorem answers_heartbeat_lost (v : BitVec 16) (ha : Accepts s p Key.hbeatHeartbeat v.toNat) (host : s.hostPath p = true) (lost : s.nat Key.lostState = 1) :
    Answers (.heartbeat p v) s fun t => (s.nat Key.hostRecoveryMode = 1 → t.nat Key.lostState = 0 ∧ t.dict.policies = false)
      ∧ (s.nat Key.hostRecoveryMode ≠ 1 → t.nat Key.lostState = 2 ∧ t.dict.policies = s.dict.policies) := by
  refine answers_commanded rfl ha ?_
  generalize hm : (s.acknowledged p).putN Key.hbeatHeartbeat v.toNat = m
  have kept (k : Nat) (event : k ∉ eventKeys) (apart : k ≠ Key.hbeatHeartbeat) : m.nat k = s.nat k := by
    rw [← hm, nat_putN_of_ne _ _ _ _ apart, State.nat_acknowledged s p k event]
  have stillHost : m.hostPath p = true := by unfold State.hostPath; rw [kept _ (by decide) (by decide)]; exact host
  have beat : (s.acknowledged p).heartbeat p v.toNat =
      if m.nat Key.hostRecoveryMode = 1 then (m.hostReturn.putN Key.lostState 0).beatNoted p else m.putN Key.lostState 2 := by
    subst hm
    exact heartbeat_lost _ p v.toNat stillHost ((kept _ (by decide) (by decide)).trans lost)
  rw [beat, kept Key.hostRecoveryMode (by decide) (by decide)]
  constructor
  · intro automatic
    rw [if_pos automatic]
    refine ⟨?_, (policies_beatNoted _ p).trans (policies_hostReturn m)⟩
    rw [nat_beatNoted, nat_putN_of_ne _ _ _ _ (by decide), State.nat_putN_same]
  · intro acknowledged
    rw [if_neg acknowledged]
    refine ⟨State.nat_putN_same _ _ _, ?_⟩
    rw [← hm]
    exact State.acknowledged_policies s p

/-- The acknowledgement while AWAIT_ACK ends the policies (R139). -/
theorem answers_hostAcknowledge (ha : Accepts s p Key.lostAcknowledge 1) (awaits : s.nat Key.lostState = 2) : Answers (.hostAcknowledge p) s fun t =>
    t.nat Key.lostState = 0 ∧ t.dict.policies = false := by
  refine answers_commanded rfl ha ?_
  unfold State.hostAcknowledge
  rw [if_pos ((State.nat_acknowledged s p _ (by decide)).trans awaits)]
  refine ⟨?_, (policies_watchdogRestart _).trans (policies_hostReturn _)⟩
  rw [nat_watchdogRestart, State.nat_putN_same]

/-- With every host path taken away an active watchdog is OFF, whatever it showed (R136). -/
theorem hostPathsChanged_off (off : s.watchdogOff = true) (active : s.nat Key.lostState < 3) :
    s.hostPathsChanged.nat Key.lostState = 3 ∧ s.hostPathsChanged.dict.watchdog.running = false := by
  unfold State.hostPathsChanged
  dsimp only
  rw [if_pos off, if_neg (Nat.ne_of_lt active)]
  exact ⟨State.nat_putN_same _ _ _, rfl⟩

/-- A write of 0x2011:02 that names no path (R136, R141). -/
theorem answers_hostPathsWrite_none (v : BitVec 8) (ha : Accepts s p Key.hostHostPaths v.toNat) (none : v.toNat / 2 = 0) (active : s.nat Key.lostState < 3) :
    Answers (.hostPathsWrite p v) s fun t => t.nat Key.lostState = 3 ∧ t.dict.watchdog.running = false := by
  refine answers_commanded rfl ha (hostPathsChanged_off _ ?_ ?_)
  · unfold State.watchdogOff
    rw [nat_of_get (get_assign_same _ _ _), none]
    rfl
  · rw [nat_of (get_assign_other _ _ _ _ (by decide)), State.nat_acknowledged s p _ (by decide)]
    exact active

end

/-- Settles O34, row by row: units that take over from the policies, or give way to them, touch neither the watchdog nor its objects (`Leaves`). -/
theorem hostWatchdog : Obligations.HostWatchdog := by
  unfold Obligations.HostWatchdog
  intro s p
  exact ⟨answers_hostWatchdogExpiry s, fun v ha host => ⟨answers_heartbeat_ok s p v ha host, answers_heartbeat_lost s p v ha host⟩,
    answers_hostAcknowledge s p, answers_hostPathsWrite_none s p⟩

end Sys2Proof.Machine
end

section
/-! SUPPORT. What a subindex's new running value asks of its block (R145-R151, R269) leaves alone (`Leaves`): channels, loops, Kelsis, CAN, Flue. -/

namespace Sys2Proof.Machine

open Sys2Proof

-- Each rule rests on the ones above it: elaborated one by one they keep no threads waiting.
set_option Elab.async false

section
variable {s m : State}

/-! ### Channels (R148-R165) -/

theorem Leaves.setChanState (h : Leaves s m) (n : Fin 64) (st : Nat) : Leaves s (m.setChanState n.val st) := .ite h ((h.putN _ _).raiseSource _)
theorem Leaves.channelConsumers (h : Leaves s m) (n : Nat) : Leaves s (m.channelConsumers n) := by
  unfold State.channelConsumers
  exact .foldl _ _ (.foldl _ _ h fun _ d g => .ite ((g.evalTable d _).serveDrive d) g) fun _ k g => .ite (g.serveOutput k) g
theorem Leaves.channelConfigured (h : Leaves s m) (n : Fin 64) : Leaves s (m.channelConfigured n) := by
  unfold State.channelConfigured
  refine .ite (.ite (h.setChannel n _) ?_) (.ite ?_ (.ite h ((h.setChannel n _).serveCore _)))
  · refine .channelConsumers (.setChanState (.zero (.foldl _ _ (h.setChannel n _) fun m v g => ?_) _ ?_) n _) _
    · split
      · exact .ite g g
      · exact g
    · simp only [List.forall_mem_cons]
      exact ⟨above, above, above, above, above, List.forall_mem_nil _⟩
  · exact (((((((h.setChannel n _).putN _ _).putN _ _).putN _ _).putN _ _).setChanState n _).channelConsumers _).serveCore _
theorem Leaves.rangeSelected (h : Leaves s m) (n : Fin 64) : Leaves s (m.rangeSelected n) := (h.setChannel n _).putN _ _
theorem Leaves.blankSelected (h : Leaves s m) (n : Fin 64) : Leaves s (m.blankSelected n) := by
  unfold State.blankSelected
  exact Leaves.serveCore (.ite (h.setChannel n _) h) _

/-! ### Loops and learners (R219-R260) -/

theorem Leaves.clearRegion (h : Leaves s m) (l : Nat) : Leaves s (m.clearRegion l) := h
theorem Leaves.learnerConfigured (h : Leaves s m) (l : Fin 64) : Leaves s (m.learnerConfigured l) :=
  .setLoop (.ite (h.clearRegion l) (h.putN _ _)) l _
theorem Leaves.loopOff (h : Leaves s m) (l : Fin 64) : Leaves s (m.loopOff l) := by
  unfold State.loopOff
  extract_lets was left commanded counted shown
  have hm : Leaves s commanded := (((h.setLoop l _).putN _ _).putN _ _).putN _ _
  have hc : Leaves s counted := .zero (hm.putN _ _) _ (List.forall_mem_cons.2 ⟨above, List.forall_mem_cons.2 ⟨above, List.forall_mem_nil _⟩⟩)
  clear_value counted
  exact .ite (hc.putN _ _) ((hc.putN _ _).raiseSource _)
theorem Leaves.loopConfigured (h : Leaves s m) (l : Fin 64) : Leaves s (m.loopConfigured l) := by
  refine .ite (.ite h (h.loopOff l)) (.ite (.putN (.zero ?_ _ ?_) _ _) h)
  · split
    · exact .ite ((h.setLoop l _).setLoop _ _) (h.setLoop l _)
    · exact h.setLoop l _
  · exact List.forall_mem_cons.2 ⟨above, List.forall_mem_cons.2 ⟨above, List.forall_mem_nil _⟩⟩
theorem Leaves.loopOverlay (h : Leaves s m) (l : Fin 64) : Leaves s (m.loopOverlay l) := .ite h (h.setLoop l _)

/-! ### Kelsis and the predictors (R282-R345) -/

theorem Leaves.setColumn (h : Leaves s m) (c : Fin 4) (f : KColumn → KColumn) : Leaves s (m.setColumn c f) := h
theorem Leaves.setPredictor (h : Leaves s m) (c : Fin 4) (f : KPredictor → KPredictor) : Leaves s (m.setPredictor c f) := h
theorem Leaves.setGrain (h : Leaves s m) (g : Fin 16) (f : KGrain → KGrain) : Leaves s (m.setGrain g f) := h
theorem Leaves.showBuilder (h : Leaves s m) : Leaves s m.showBuilder := (h.putN _ _).putN _ _
theorem Leaves.triggerBuild (h : Leaves s m) (g : Fin 16) : Leaves s (m.triggerBuild g) := .ite h (.ite (h.setGrain g _).showBuilder h)
theorem Leaves.grainWritten (h : Leaves s m) (key : Nat) : Leaves s (m.grainWritten key) := .ite (h.triggerBuild _) (.ite (h.triggerBuild _) h)
theorem Leaves.columnConfigured (h : Leaves s m) (c : Fin 4) : Leaves s (m.columnConfigured c) := .ite h ((h.setColumn c _).putN _ _)
theorem Leaves.predictorConfigured (h : Leaves s m) (c : Fin 4) : Leaves s (m.predictorConfigured c) :=
  .ite (.ite ((h.putN _ _).setPredictor c _) h) (.ite h (((h.putN _ _).putN _ _).setPredictor c _))

/-! ### The CAN controllers and the CANopen node (R110, R484, R508, R512) -/

theorem Leaves.setCan (h : Leaves s m) (b : Fin 2) (f : CanPort → CanPort) : Leaves s (m.setCan b f) := h
theorem Leaves.raiseCan (h : Leaves s m) (b : Fin 2) (i : Nat) : Leaves s (m.raiseCan b i) := h.raiseSource _
theorem Leaves.canComplete (h : Leaves s m) (b : Fin 2) (e : CanEntry) (status : Nat) (mirrored : Bool) :
    Leaves s (m.canComplete b e status mirrored) := by
  unfold State.canComplete
  extract_lets f t counted port word shown
  have ht : Leaves s t.2 := by
    unfold t
    split
    · exact h
    · exact h
  clear_value t
  have hs : Leaves s shown := ht.setCan b _
  exact .ite ((hs.setCan b _).raiseCan b _) ((hs.bump _ _).raiseCan b _)
theorem Leaves.putBlock (h : Leaves s m) (k : Nat) (bs : List Byte) : Leaves s (m.putBlock k bs) := h
theorem Leaves.canForget (h : Leaves s m) (b : Fin 2) : Leaves s (m.canForget b) := by
  unfold State.canForget
  refine .foldl _ _ (h.setCan b _) fun _ k g => (g.putBlock _ _).putN _ _ ?_
  exact above
theorem Leaves.sendOwn (h : Leaves s m) (cob : Nat) (bs : List Byte) : Leaves s (m.sendOwn cob bs) := .ite h (h.setCan 0 _)
theorem Leaves.nmtBootUp (h : Leaves s m) : Leaves s m.nmtBootUp := by
  have booted : Leaves s { m with canopen := { Canopen.reset with nmt := 127 } } := h
  exact booted.sendOwn _ _
theorem Leaves.canStart (h : Leaves s m) (b : Fin 2) : Leaves s (m.canStart b) := by
  unfold State.canStart
  extract_lets on state
  have hs : Leaves s state := .putN (.zero h _ (List.forall_mem_cons.2 ⟨above, List.forall_mem_cons.2 ⟨above, List.forall_mem_nil _⟩⟩)) _ _
  clear_value state
  exact .ite (.ite hs.nmtBootUp hs) hs
theorem Leaves.canRestart (h : Leaves s m) (b : Fin 2) : Leaves s (m.canRestart b) := by
  unfold State.canRestart
  extract_lets p emptied cancelled urgent
  have hc : Leaves s cancelled := .foldl _ _ (h.setCan b _) fun _ e g => g.canComplete b e _ _
  clear_value cancelled
  have hu : Leaves s urgent := by
    unfold urgent
    split
    · exact (hc.canComplete 0 _ _ _).raiseCan b 6
    · exact hc
  clear_value urgent
  exact Leaves.canStart (Leaves.canForget (.ite (hu.raiseCan b 4) hu) b) b

/-! ### The Flue node (R523-R553) -/

theorem Leaves.setFlue (h : Leaves s m) (f : Flue → Flue) : Leaves s (m.setFlue f) := h
theorem Leaves.setFlueTime (h : Leaves s m) (ns : Nat) : Leaves s (m.setFlueTime ns) := h
theorem Leaves.raiseFlue (h : Leaves s m) (i : Nat) : Leaves s (m.raiseFlue i) := h.raiseSource i
theorem Leaves.enqueueFrame (h : Leaves s m) (p : Fin 4) (f : FlueFrame) : Leaves s (m.enqueueFrame p f) := by
  have counted := h.bump 32 (Key.portQueueDiscards p)
  exact .ite (.ite (h.setFlue _) (.ite (counted.raiseFlue 218) counted)) h
theorem Leaves.noRoute (h : Leaves s m) : Leaves s m.noRoute := h.bump _ _
theorem Leaves.routeFrame (h : Leaves s m) (f : FlueFrame) : Leaves s (m.routeFrame f) := by
  unfold State.routeFrame
  split
  · exact h.enqueueFrame _ f
  · exact h.noRoute
theorem Leaves.mailOrRoute (h : Leaves s m) (f : FlueFrame) : Leaves s (m.mailOrRoute f).1 := by
  unfold State.mailOrRoute
  split
  · exact h.routeFrame f
  split
  · exact h.noRoute
  · exact h
  split
  · exact h
  dsimp only
  split
  · exact h.setFlue _
  · exact .ite h ((h.setFlue _).log _ _ _ _ _)
theorem Leaves.sendFlue (h : Leaves s m) (dst : Nat) (b : FlueBody) : Leaves s (m.sendFlue dst b) := .ite h ((h.setFlue _).mailOrRoute _)
theorem Leaves.flood (h : Leaves s m) (g : Nat) (x : Option (Fin 4)) (b : FlueBody) : Leaves s (m.flood g x b) :=
  .foldl _ _ h fun _ p e => .ite ((e.setFlue _).enqueueFrame p _) e
theorem Leaves.floodLinkState (h : Leaves s m) : Leaves s m.floodLinkState := .foldl _ _ (h.setFlue _) fun _ g e => e.flood g.addr none _
theorem Leaves.setSync (h : Leaves s m) (v : Nat) : Leaves s (m.setSync v) := .ite h ((h.putN _ _).raiseFlue _)
theorem Leaves.grandmasterCheck (h : Leaves s m) : Leaves s m.grandmasterCheck :=
  .ite (.ite h ((((h.setFlueTime _).putN _ _).putN _ _).setSync 3)) (.ite ((h.setFlue _).setSync 0) h)
theorem Leaves.showGroup (h : Leaves s m) : Leaves s m.showGroup := (h.putN _ _).putN _ _
theorem Leaves.standAbove (h : Leaves s m) (g : Nat) (head : Bool) : Leaves s (m.standAbove g head) :=
  .ite (.ite h (h.setFlue _).floodLinkState) (h.setFlue _)
theorem Leaves.setHead (h : Leaves s m) (g head deputy : Nat) : Leaves s (m.setHead g head deputy) := by
  unfold State.setHead
  split
  · exact h
  split
  · exact h
  extract_lets fresh new shown raised flooded stood
  have hs : Leaves s shown := (h.setFlue _).showGroup
  have hr : Leaves s raised := .ite (hs.raiseFlue 210) hs
  have hf : Leaves s flooded := .ite (hr.flood g none _) hr
  have ha : Leaves s stood := .ite (hf.standAbove g true) (.ite (hf.standAbove g false) hf)
  exact ha.grandmasterCheck
theorem Leaves.deputyCheck (h : Leaves s m) : Leaves s m.deputyCheck :=
  .foldl _ _ h fun _ r e => .ite e (.ite ((e.setHead r.addr _ _).log _ _ _ _ _) e)
theorem Leaves.adjacencyDown (h : Leaves s m) (p : Fin 4) (link : Nat) : Leaves s (m.adjacencyDown p link) := by
  have shown := h.putN (Key.portLinkState p) link
  have raised := (shown.bump 32 (Key.portAdjacencyLosses p)).raiseFlue (206 + p.val)
  exact .ite (((Leaves.ite raised (raised.log _ _ _ _ _)).setFlue _).floodLinkState.deputyCheck) (shown.setFlue _)
theorem Leaves.portConfigured (h : Leaves s m) (p : Fin 4) : Leaves s (m.portConfigured p) := .ite h (h.adjacencyDown p 0)
theorem Leaves.wantOf (h : Leaves s m) (a : Nat) (l : List Nat) : Leaves s (m.wantOf a l) := .ite (h.setFlue _) (h.setFlue _)
theorem Leaves.mapConfigured (h : Leaves s m) : Leaves s m.mapConfigured := by
  unfold State.mapConfigured
  split
  · exact h
  · exact .foldl _ _ h fun _ _ e => .ite e (.ite (e.wantOf _ _) (e.sendFlue _ _))

end

end Sys2Proof.Machine
end

section
/-! SUPPORT. Mode switches (R145, R148-R151): overlay lists, the pending request, and the swap at the tick start, behind `Obligations.ModeSwitches`. -/

namespace Sys2Proof.Machine

open Sys2Proof

/-! ### Overlay lists and requests -/

/-- An overlay list that passes its checks is the only change behind the access (R145). -/
theorem answers_overlayEntryListWrite (s : State) (p : Path) (m : Fin 16) (data : List Byte) (runs : s.clocksRun = true)
    (passes : ∃ d, (s.touch p).checkWrite p (Key.overlayEntryList m.val) (.bytes data) = .ok d) :
    Answers (.overlayEntryListWrite p m data) s fun t => t.block (Key.overlayEntryList m.val) = data ∧ t = { s.acknowledged p with blk := t.blk } := by
  obtain ⟨d, passes⟩ := passes
  exact ⟨_, congrArg Host.Outcome.next (writeNow_passes s p _ data _ d runs passes), State.block_putBlock_same _ _ _, rfl⟩

theorem modeEntries_acknowledged (s : State) (p : Path) (m : Nat) : (s.acknowledged p).modeEntries m = s.modeEntries m := by
  unfold State.modeEntries State.block
  rw [State.acknowledged_blk]
theorem modeRefused_acknowledged (s : State) (p : Path) (m : Nat) : (s.acknowledged p).modeRefused m = s.modeRefused m := by
  have base : (s.acknowledged p).baseGet = s.baseGet := by unfold State.baseGet; rw [State.acknowledged_base]
  unfold State.modeRefused
  rw [modeEntries_acknowledged, base]

/-- A request leaves the active mode; for that mode it withdraws what is pending, for another it is pending for 32 ticks on (R149, R150). -/
theorem modeRequest_ends (s : State) (m : Nat) : (s.modeRequest m).nat Key.modeActiveMode = s.nat Key.modeActiveMode
    ∧ (if m = s.nat Key.modeActiveMode then (s.modeRequest m).dict.pending = none ∧ (s.modeRequest m).nat Key.modeSwitchStatus = 0
       else (s.modeRequest m).dict.pending = some ⟨m, s.clock.tick + 32, overlayValues (s.modeEntries m)⟩
         ∧ (s.modeRequest m).nat Key.modeSwitchStatus = 1) := by
  have stands : ∀ (r : State) (v : Nat), r.get Key.modeActiveMode = (s.putN Key.modeRequestedMode m).get Key.modeActiveMode →
      (r.putN Key.modeSwitchStatus v).nat Key.modeActiveMode = s.nat Key.modeActiveMode := fun r v same =>
    (nat_putN_of_ne _ _ _ _ (by decide)).trans ((nat_of same).trans (nat_putN_of_ne _ _ _ _ (by decide)))
  unfold State.modeRequest
  dsimp only
  split
  · exact ⟨stands _ 0 rfl, rfl, State.nat_putN_same _ _ _⟩
  · exact ⟨stands _ 1 rfl, rfl, State.nat_putN_same _ _ _⟩

theorem answers_modeSwitchRequest (s : State) (p : Path) (m : BitVec 8) (ha : Accepts s p Key.modeRequestedMode m.toNat)
    (passes : s.modeRefused m.toNat = none) : Answers (.modeSwitchRequest p m) s fun t => t.nat Key.modeActiveMode = s.nat Key.modeActiveMode
      ∧ (if m.toNat = s.nat Key.modeActiveMode then t.dict.pending = none ∧ t.nat Key.modeSwitchStatus = 0
         else t.dict.pending = some ⟨m.toNat, s.clock.tick + 32, overlayValues (s.modeEntries m.toNat)⟩ ∧ t.nat Key.modeSwitchStatus = 1) := by
  refine answers_commanded rfl ha ?_
  rw [(modeRefused_acknowledged s p _).trans passes, ← State.nat_acknowledged s p Key.modeActiveMode (by decide), ← State.acknowledged_clock s p,
    ← modeEntries_acknowledged s p]
  exact modeRequest_ends (s.acknowledged p) m.toNat

/-! ### What a swapped value asks of its block keeps the switch -/

/-- What a mode switch has decided: the request that is pending, the overlay in force, the active mode. -/
def State.switchView (s : State) : Option PendingSwitch × List (Nat × Int) × Int := (s.dict.pending, s.dict.active, s.get Key.modeActiveMode)

/-- A view that every step of a fold keeps is kept by the fold. -/
theorem foldl_view {α β : Type} (view : State → β) (f : State → α → State) (l : List α) (s : State) (hf : ∀ m x, view (f m x) = view m) :
    view (l.foldl f s) = view s := by
  induction l generalizing s with
  | nil => rfl
  | cons x t ih => exact (ih _).trans (hf s x)

/-- From `s` to `t` no mode has been switched. -/
def SameMode (s t : State) : Prop := t.switchView = s.switchView

section
variable {s m : State}

theorem SameMode.ite {a b : State} {p : Prop} [Decidable p] (h : SameMode s a) (g : SameMode s b) : SameMode s (if p then a else b) := by
  split
  · exact h
  · exact g
theorem SameMode.trans {t : State} (h : SameMode s m) (g : SameMode m t) : SameMode s t := Eq.trans g h
theorem SameMode.putN (h : SameMode s m) (k v : Nat) (hk : Key.modeActiveMode ≠ k := by decide) : SameMode s (m.putN k v) := by
  have active : (m.putN k v).switchView = m.switchView := by
    unfold State.switchView
    rw [State.get_putN, if_neg hk]
    rfl
  exact active.trans h
theorem Leaves.sameMode (h : Leaves s m) : SameMode s m := by
  unfold SameMode State.switchView
  rw [h.dict, h.get Key.modeActiveMode]

/-- The host's return and the watchdog's stop and restart switch no mode. -/
theorem sameMode_hostPathsChanged (s : State) : SameMode s s.hostPathsChanged := by
  have returned : SameMode s s.hostReturn := (leaves_hostReturn s).sameMode
  have restarted : SameMode s (s.putN Key.lostState 0).watchdogRestart := by
    have put : SameMode s (s.putN Key.lostState 0) := SameMode.putN rfl _ _
    exact .ite put put
  have stopped : ∀ m : State, SameMode s m → SameMode s (m.watchdogStop.putN Key.lostState 3) := fun m h => SameMode.putN (m := m.watchdogStop) h _ _
  exact .ite (.ite rfl (stopped _ (.ite returned rfl))) (.ite restarted rfl)

theorem sameMode_taken (s : State) (key : Nat) : SameMode s (s.taken key) := by
  have here := Leaves.refl s
  unfold State.taken
  refine .ite (.ite (here.channelConfigured _).sameMode (.ite (here.rangeSelected _).sameMode (.ite (here.blankSelected _).sameMode rfl)))
    (.ite (here.blankJudge _ _).sameMode (.ite (here.blankJudge _ _).sameMode (.ite (here.loopConfigured _).sameMode
    (.ite (here.learnerConfigured _).sameMode (.ite (.ite rfl (here.setAct _ _).sameMode) (.ite (here.columnConfigured _).sameMode
    (.ite (here.grainWritten _).sameMode (.ite (here.predictorConfigured _).sameMode (.ite (.ite here.servePolicies.sameMode rfl)
    (.ite (sameMode_hostPathsChanged s) (.ite rfl (.ite (here.portConfigured _).sameMode (.ite here.grandmasterCheck.sameMode
    (.ite here.mapConfigured.sameMode (.ite (here.setCan _ _).sameMode ?_)))))))))))))))
  split
  · exact (here.canRestart _).sameMode
  · exact rfl

theorem sameMode_overlayTaken (s : State) (key : Nat) : SameMode s (s.overlayTaken key) := by
  have taken := sameMode_taken s key
  have handed := fun l => taken.trans ((Leaves.refl (s.taken key)).loopOverlay l).sameMode
  exact .ite (handed _) (.ite (handed _) taken)

end

/-! ### The swap (R149, R151) -/

/-- The state in which the new mode is in force, before what its values ask of their blocks. -/
def State.modeLaid (s : State) (q : PendingSwitch) : State :=
  let view := overlayView s.baseGet q.entries
  let s1 := ((s.keepOld ((s.swapChanges q.entries).map (fun k => (k, view k)))).actsKeep (s.swapChanges q.entries)).layOverlay q.entries
  ((({ s1 with dict := { s1.dict with pending := none } }).saveMode q.mode).putN Key.modeSwitchStatus 0).putN Key.modeActiveMode q.mode

theorem modeLaid_switch (s : State) (q : PendingSwitch) : (s.modeLaid q).switchView = (none, q.entries, Int.ofNat q.mode) := by
  have active : (s.modeLaid q).get Key.modeActiveMode = Int.ofNat q.mode := State.get_put_same _ _ _
  unfold State.switchView
  rw [active]
  rfl

/-- A swap: nothing is pending, the request's overlay is in force and its mode active. -/
theorem modeSwap_switch (s : State) (q : PendingSwitch) : (s.modeSwap q).switchView = (none, q.entries, Int.ofNat q.mode) := by
  have counted : SameMode (s.modeLaid q) (State.bump 32 ((s.modeLaid q).putN Key.modePreviousMode (s.nat Key.modeActiveMode)) Key.modeSwitches) :=
    SameMode.putN (SameMode.putN rfl _ _) _ _
  have logged := fun w6 => counted.trans ((Leaves.refl _).log 0x0A01 noSource (s.nat Key.modeActiveMode) q.mode w6).sameMode
  have taken := (logged (s.swapChanges q.entries).length).trans (foldl_view State.switchView State.overlayTaken (s.swapChanges q.entries) _ sameMode_overlayTaken)
  have swapped : SameMode (s.modeLaid q) (s.modeSwap q) := .ite (taken.trans (Leaves.refl _).serveAllOutputs.sameMode) taken
  exact Eq.trans swapped (modeLaid_switch s q)

/-! ### The tick start with nothing staged (R123, R149, R291) -/

/-- What a publication of Kelsis leaves alone beside values and outputs: clock, power manager, dictionary server and Flue node. -/
def State.publishView (s : State) : Clock × Power × Dict × Flue := (s.clock, s.power, s.dict, s.flue)

theorem publishView_serveOutput (s : State) (k : Fin 8) : (s.serveOutput k).publishView = s.publishView := by
  unfold State.serveOutput
  extract_lets now held r clamped forced shown pinned
  have view : forced.publishView = s.publishView := by
    unfold forced
    split
    · rfl
    · rfl
  clear_value forced
  unfold State.outputCleared
  split
  · exact view
  · exact view
theorem publishView_serveColumnOutputs (s : State) (c : Nat) : (s.serveColumnOutputs c).publishView = s.publishView :=
  foldl_view State.publishView _ _ s fun m k => by
    split
    · exact publishView_serveOutput m k
    · rfl
theorem publishView_publishStep (s : State) (c : Fin 4) (w : KWork) : (s.publishStep c w).publishView = s.publishView := by
  unfold State.publishStep
  extract_lets k geo ms mean hot q m s1 s2 s3 s4 add s5 s6
  have folded := foldl_view State.publishView (fun s e => s.putW (Key.colBindingLastNu c e.1) e.2) w.nus s6 fun _ _ => rfl
  exact folded
theorem publishView_kelsisPublish (s : State) : s.kelsisPublish.publishView = s.publishView :=
  foldl_view State.publishView _ _ s fun m c => by
    unfold State.publishColumn
    split
    · exact (publishView_serveColumnOutputs _ _).trans (publishView_publishStep _ c _)
    · rfl

theorem publishView_setAsh (s : State) (f : Ash → Ash) : (s.setAsh f).publishView = s.publishView := rfl
theorem commitValues_nil (s : State) : s.commitValues [] = s := rfl

/-- The commit of a tick with nothing staged: Kelsis publishes. -/
theorem publishView_commitStaged (s : State) (nothing : s.dict.staged = []) : s.commitStaged.publishView = s.publishView := by
  have emptied : ({ s with dict := { s.dict with staged := [] } } : State) = s := by
    conv_rhs => rw [show s = { s with dict := { s.dict with staged := s.dict.staged } } from rfl, nothing]
  have publishes : s.commitStaged = s.kelsisPublish.setAsh fun a => { a with advanced := Vector.replicate 8 0 } := by
    unfold State.commitStaged
    simp only [nothing, emptied, List.length_nil, State.settle, standingWrites, supersededWrites, List.filter_nil, List.filterMap_nil, List.foldl_nil,
      State.commitActs, commitValues_nil, partnersInOrder, List.any_nil, Bool.false_eq_true, if_false]
  rw [publishes, publishView_setAsh, publishView_kelsisPublish]

/-- With nothing staged, here or for a group, the tick start only swaps the mode that is due (R149). -/
theorem switchView_tickStart (s : State) (q : PendingSwitch) (pending : s.dict.pending = some q) (runs : s.clocksRun = true) (due : q.at_ ≤ s.clock.tick)
    (nothing : s.dict.staged = []) (groups : ∀ i ∈ s.flue.instances, i.staged = []) : s.tickStart.switchView = (none, q.entries, Int.ofNat q.mode) := by
  have view := publishView_commitStaged s nothing
  have flue : s.commitStaged.flue = s.flue := congrArg (fun v => v.2.2.2) view
  have none_ : s.flue.instances.filter (fun i => !i.staged.isEmpty) = [] := List.filter_eq_nil_iff.2 fun i hi => by simp [groups i hi]
  have commits : s.commit = s.commitStaged := by
    unfold State.commit
    dsimp only
    rw [flue, none_]
    rfl
  have stillPending : s.commitStaged.dict.pending = some q := (congrArg (fun v => v.2.2.1.pending) view).trans pending
  have stillRuns : s.commitStaged.clocksRun = true := by
    have power : s.commitStaged.power = s.power := congrArg (fun v => v.2.1) view
    unfold State.clocksRun
    rw [power]
    exact runs
  have tick : s.commitStaged.clock.tick = s.clock.tick := congrArg (fun v => v.1.tick) view
  unfold State.tickStart
  dsimp only
  rw [commits, stillPending]
  dsimp only
  rw [if_pos ⟨stillRuns, by rw [tick]; exact due⟩]
  exact modeSwap_switch _ q

/-- The swap of the pending request, with nothing staged at its tick start. -/
theorem answers_modeSwitchSwap (s : State) (q : PendingSwitch) (pending : s.dict.pending = some q) (runs : s.clocksRun = true)
    (due : q.at_ ≤ s.clock.tick + 1) (nothing : s.dict.staged = []) (groups : ∀ i ∈ s.flue.instances, i.staged = []) :
    Answers .modeSwitchSwap s fun t => t.dict.pending = none ∧ t.dict.active = q.entries ∧ t.nat Key.modeActiveMode = q.mode
      ∧ t.clock.tick = s.clock.tick := by
  have view := switchView_tickStart { s with clock := { s.clock with tick := max s.clock.tick q.at_ } } q pending runs (Nat.le_max_right _ _)
    nothing groups
  generalize hs : ({ s with clock := { s.clock with tick := max s.clock.tick q.at_ } } : State).tickStart = started at view
  have swaps : exec .modeSwitchSwap s = .next { started with clock := { started.clock with tick := s.clock.tick } } := by
    refine congrArg Host.Outcome.next ?_
    rw [pending, ← hs]
    exact if_pos ⟨runs, due⟩
  refine ⟨_, swaps, ?_, ?_, ?_, rfl⟩
  · exact congrArg (fun v => v.1) view
  · exact congrArg (fun v => v.2.1) view
  · exact nat_of_get (congrArg (fun v => v.2.2) view)

/-- Settles O35: list and request behind their access; the swap by the view that the blocks' own work keeps (`SameMode`, `Leaves`). -/
theorem modeSwitches : Obligations.ModeSwitches := by
  unfold Obligations.ModeSwitches
  intro s p
  exact ⟨answers_overlayEntryListWrite s p, answers_modeSwitchRequest s p, answers_modeSwitchSwap s⟩

end Sys2Proof.Machine
end

section
/-! SUPPORT. A dictionary access of a core sees nothing of what the core's way to it has accounted (`Reads`): every check of R117 and every block that
is read out answers as before (R116, R117, R123, R126). -/

namespace Sys2Proof.Machine

open Sys2Proof

-- Each rule rests on the ones above it: elaborated one by one they keep no threads waiting.
set_option Elab.async false

/-! ### What an instruction on its way does not move -/

/-- A value that neither raised sources, logged events nor the sampling of a stack move. -/
def Unmoved (k : Nat) : Prop := k ∉ eventKeys ∧ ∀ n, k ≠ Key.coreStackLowWater n

/-- From `s` to `t` only cores, router and power manager have gone on, with their counts. -/
structure Reads (s t : State) : Prop where
  beside : t.besideCores = s.besideCores
  values : ∀ k, Unmoved k → t.get k = s.get k

/-- The subindexes of the values that move, 0x2200 apart. -/
abbrev movedSubs : List Nat := [0x81, 0x82, 0x83, 0xC, 0xD, 0x10]

theorem eventKeys_shape : ∀ k ∈ eventKeys, 0x220000 ≤ k ∧ (k / 256 = 0x2200 ∨ k % 256 ∈ movedSubs) := by decide

theorem unmoved_at {i j : Nat} (hi : 0x2200 < i := by omega) (hs : j ∉ movedSubs := by decide) (hj : j < 256 := by omega) : Unmoved (i * 256 + j) := by
  have index : (i * 256 + j) / 256 = i := by omega
  have sub : (i * 256 + j) % 256 = j := by omega
  refine ⟨fun event => ?_, fun n same => hs ?_⟩
  · obtain ⟨-, shape⟩ := eventKeys_shape _ event
    rw [index, sub] at shape
    exact shape.elim (fun power => by omega) hs
  · have low : j = 0xD := by unfold Key.coreStackLowWater at same; omega
    rw [low]
    decide
theorem unmoved_below {k : Nat} (hk : k < 0x220000) : Unmoved k :=
  ⟨fun event => absurd (eventKeys_shape k event).1 (by omega), fun n => by unfold Key.coreStackLowWater; omega⟩

/-- The links of a column stand on an object of their own. -/
theorem unmoved_bound {c j : Nat} (hc : c < 4) (hj : j < 2) : Unmoved (0x3060 * 256 + (16 * (c + 1) + j)) := by
  have other : ∀ k ∈ eventKeys, k / 256 ≠ 0x3060 := by decide
  refine ⟨fun event => other _ event (by omega), fun n => ?_⟩
  unfold Key.coreStackLowWater
  omega

section
variable {s t : State} (h : Reads s t)
include h

/-! ### Parts and values -/

theorem Reads.dict : t.dict = s.dict := (congrArg State.dict h.beside : t.besideCores.dict = s.besideCores.dict)
theorem Reads.base : t.base = s.base := (congrArg State.base h.beside : t.besideCores.base = s.besideCores.base)
theorem Reads.blk : t.blk = s.blk := (congrArg State.blk h.beside : t.besideCores.blk = s.besideCores.blk)
theorem Reads.clock : t.clock = s.clock := (congrArg State.clock h.beside : t.besideCores.clock = s.besideCores.clock)
theorem Reads.startup : t.startup = s.startup := (congrArg State.startup h.beside : t.besideCores.startup = s.besideCores.startup)
theorem Reads.ash : t.ash = s.ash := (congrArg State.ash h.beside : t.besideCores.ash = s.besideCores.ash)
theorem Reads.acts : t.acts = s.acts := (congrArg State.acts h.beside : t.besideCores.acts = s.besideCores.acts)
theorem Reads.bellows : t.bellows = s.bellows := (congrArg State.bellows h.beside : t.besideCores.bellows = s.besideCores.bellows)
theorem Reads.kelsis : t.kelsis = s.kelsis := (congrArg State.kelsis h.beside : t.besideCores.kelsis = s.besideCores.kelsis)
theorem Reads.can : t.can = s.can := (congrArg State.can h.beside : t.besideCores.can = s.besideCores.can)
theorem Reads.canopen : t.canopen = s.canopen := (congrArg State.canopen h.beside : t.besideCores.canopen = s.besideCores.canopen)
theorem Reads.flue : t.flue = s.flue := (congrArg State.flue h.beside : t.besideCores.flue = s.besideCores.flue)

theorem Reads.nat (k : Nat) (hk : Unmoved k) : t.nat k = s.nat k := nat_of (h.values k hk)
theorem Reads.flag (k : Nat) (hk : Unmoved k) : t.flag k = s.flag k := by unfold State.flag; rw [h.values k hk]
theorem Reads.bitOf (k n : Nat) (hk : Unmoved k) : t.bitOf k n = s.bitOf k n := bitOf_of n (h.values k hk)
theorem Reads.process : t.process = s.process := h.nat _ (unmoved_below (by decide))
theorem Reads.block (k : Nat) : t.block k = s.block k := by unfold State.block; rw [h.blk]
theorem Reads.baseGet : t.baseGet = s.baseGet := by unfold State.baseGet; rw [h.base]
theorem Reads.uid : t.uid = s.uid := by
  unfold State.uid
  rw [h.nat _ (unmoved_below (by decide)), h.nat _ (unmoved_below (by decide))]
theorem Reads.headed : t.headed = s.headed := by unfold State.headed; rw [h.flue, h.uid]

/-! ### The row, the level and the state's rules (R116-R119) -/

theorem Reads.presentRow (key : Nat) : t.presentRow key = s.presentRow key := by unfold State.presentRow; rw [h.process]
theorem Reads.levelOf (p : Path) : t.levelOf p = s.levelOf p := by
  have granted := fun n => h.nat (Key.coreLevelGranted n) unmoved_at
  unfold State.levelOf
  simp only [h.dict, granted]
theorem Reads.levelNeeded (key : Nat) (r : Row) : t.levelNeeded key r = s.levelNeeded key r := by unfold State.levelNeeded; rw [h.block]

theorem Reads.partnerPair (l m : Nat) : partnerPair t.get l m = partnerPair s.get l m := by
  have partner : ∀ n, View.nat t.get (Key.loopPartnerLoop n) = View.nat s.get (Key.loopPartnerLoop n) := fun n => h.nat _ unmoved_at
  have kind : ∀ n, View.nat t.get (Key.loopDestinationType n) = View.nat s.get (Key.loopDestinationType n) := fun n => h.nat _ unmoved_at
  have number : ∀ n, View.nat t.get (Key.loopDestinationNumber n) = View.nat s.get (Key.loopDestinationNumber n) := fun n => h.nat _ unmoved_at
  unfold Machine.partnerPair
  rw [partner, partner, kind, kind, number, number]
theorem Reads.partner (l : Nat) : t.partner l = s.partner l := by
  unfold State.partner
  rw [h.nat (Key.loopPartnerLoop l) unmoved_at, h.flag (Key.loopEnable l) unmoved_at]
  cases loopFin (s.nat (Key.loopPartnerLoop l)) with
  | none => rfl
  | some m =>
    dsimp only
    rw [h.partnerPair, h.flag (Key.loopEnable m) unmoved_at]
theorem Reads.loopStandby (l : Fin 64) : t.loopStandby l = s.loopStandby l := by unfold State.loopStandby; rw [h.partner, h.bellows]
theorem Reads.loopModeRefused (l : Nat) (v : Option DVal) : loopModeRefused t l v = loopModeRefused s l v := by
  unfold Machine.loopModeRefused
  rw [h.nat (Key.loopSPSourceType l) unmoved_at, h.nat (Key.loopCondition l) unmoved_at, h.process, h.loopStandby]
theorem Reads.actCommandRefused (a : Nat) (v : Option DVal) : actCommandRefused t a v = actCommandRefused s a v := by
  unfold Machine.actCommandRefused
  rw [h.nat (Key.actMode a) unmoved_at, h.process, h.flag (Key.actSafeState a) unmoved_at]
theorem Reads.coldHold : t.coldHold = s.coldHold := h.bitOf _ _ unmoved_at
theorem Reads.bankEnableRefused (v : Option DVal) : bankEnableRefused t v = bankEnableRefused s v := by
  have status := fun n => h.bitOf Key.thermalStatus n unmoved_at
  have bank2 : t.word (Key.thermalTS 2) = s.word (Key.thermalTS 2) := congrArg (BitVec.ofInt 32) (h.values _ unmoved_at)
  have bank3 : t.word (Key.thermalTS 3) = s.word (Key.thermalTS 3) := congrArg (BitVec.ofInt 32) (h.values _ unmoved_at)
  unfold Machine.bankEnableRefused
  simp only [status, bank2, bank3]
theorem Reads.chainFrom (n c : Nat) (hc : c < 4) : chainFrom t.get n c = chainFrom s.get n c := by
  induction n generalizing c with
  | zero => rfl
  | succ n ih =>
    have kind : View.nat t.get (Key.boundUpstreamKind c) = View.nat s.get (Key.boundUpstreamKind c) := h.nat _ (unmoved_bound hc (by omega))
    have column : View.nat t.get (Key.boundUpstreamColumn c) = View.nat s.get (Key.boundUpstreamColumn c) := h.nat _ (unmoved_bound hc (by omega))
    unfold Machine.chainFrom
    rw [kind, column, ih _ (Nat.mod_lt _ (by decide))]
theorem Reads.maskedReasons (c : Nat) (hc : c < 4) : t.maskedReasons c = s.maskedReasons c := by
  have reasons := fun n => h.nat (Key.colHealthReasons n) unmoved_at
  unfold State.maskedReasons View.chain
  simp only [h.chainFrom 4 c hc, reasons, h.nat (Key.predFallbackMask c) unmoved_at]
theorem Reads.returnRefused (c : Nat) (v : Option DVal) (hc : c < 4) : returnRefused t c v = returnRefused s c v := by
  unfold Machine.returnRefused
  rw [h.nat (Key.predState c) unmoved_at, h.maskedReasons c hc]
theorem Reads.canStateRefused (key : Nat) : t.canStateRefused key = s.canStateRefused key := by
  have mode := fun n => h.nat (Key.canOperatingMode n) unmoved_at
  have bus := fun n => h.nat (Key.canBusState n) unmoved_at
  simp only [State.canStateRefused, State.portClosed, State.listenOnly, mode, bus, h.can]
theorem Reads.faultCleared (code : Nat) : t.faultCleared code = s.faultCleared code := by
  unfold State.faultCleared; rw [h.bellows, h.clock, h.coldHold]
theorem Reads.commandAllowed (v : Nat) : t.commandAllowed v = s.commandAllowed v := by
  have cleared : t.faultCleared = s.faultCleared := funext h.faultCleared
  unfold State.commandAllowed
  rw [h.process, h.startup, cleared]
theorem Reads.programAllowed (c : Nat) : t.programAllowed c = s.programAllowed c := by
  unfold State.programAllowed; rw [h.process, h.flag (Key.coreAutostart c) unmoved_at]
theorem Reads.imageComing (c : Nat) : t.imageComing c = s.imageComing c := by unfold State.imageComing; rw [h.dict, h.canopen, h.flue]
theorem Reads.rootHead : t.rootHead = s.rootHead := by unfold State.rootHead; rw [h.headed]

theorem Reads.stateCheck (p : Path) (key : Nat) (r : Row) (v : Option DVal) : t.stateCheck p key r v = s.stateCheck p key r v := by
  have returns : (0x3110 ≤ key / 256 ∧ key / 256 ≤ 0x3113 ∧ key % 256 = 0x20 ∧ Machine.returnRefused t (key / 256 - 0x3110) v)
      = (0x3110 ≤ key / 256 ∧ key / 256 ≤ 0x3113 ∧ key % 256 = 0x20 ∧ Machine.returnRefused s (key / 256 - 0x3110) v) := by
    refine propext (and_congr_right fun low => and_congr_right fun high => and_congr_right fun _ => ?_)
    rw [h.returnRefused _ v (by omega)]
  have programs := fun n => h.nat (Key.coreProgramState n) unmoved_at
  unfold State.stateCheck
  simp only [returns, programs, h.process, h.dict, h.nat Key.modeActiveMode (unmoved_below (by decide)), h.nat Key.lostState (unmoved_below (by decide)),
    h.ash, h.headed, h.rootHead, h.loopModeRefused, h.bitOf Key.bellowsGlobalStatus 0 unmoved_at, h.nat Key.traceState unmoved_at, h.actCommandRefused,
    h.acts, h.canStateRefused, h.coldHold, h.bankEnableRefused, h.flag (Key.chanEnable (key / 256 - 0x2400)) unmoved_at, h.commandAllowed,
    h.programAllowed, h.imageComing]

/-! ### The ranges (R117) -/

theorem Reads.rangeNow (key : Nat) (v : Int) : t.rangeNow key v = s.rangeNow key v := by
  have layers := fun n => h.nat (Key.colLayers n) unmoved_at
  have across := fun n => h.nat (Key.colCellsAcross n) unmoved_at
  have low := fun n => h.values (Key.loopUmin n) unmoved_at
  have high := fun n => h.values (Key.loopUmax n) unmoved_at
  have members := fun n => h.nat (Key.colMembers n) unmoved_at
  unfold State.rangeNow
  simp only [h.nat Key.tablesFileEntries unmoved_at, layers, across, low, high, members, h.nat Key.mapSnapshotLayers unmoved_at, h.ash,
    h.nat Key.mapColumn unmoved_at]
theorem Reads.mappedBits (idx n key v : Nat) (hi : idx < 0x2000) : t.mappedBits idx n key v = s.mappedBits idx n key v := by
  unfold State.mappedBits
  refine congrArg List.sum (List.map_congr_left fun i mem => ?_)
  have inRange := List.mem_range.1 mem
  rw [h.nat _ (unmoved_below (by omega))]
theorem Reads.mappingRefused (key : Nat) (v : Int) : t.mappingRefused key v = s.mappingRefused key v := by
  unfold State.mappingRefused
  extract_lets idx sub rpdo tpdo
  by_cases mapping : (rpdo || tpdo) = false
  · rw [if_pos mapping, if_pos mapping]
  · have below : idx < 0x2000 := by
      simp only [rpdo, tpdo, Bool.not_eq_false, Bool.or_eq_true, Bool.and_eq_true, Nat.ble_eq] at mapping
      omega
    rw [if_neg mapping, if_neg mapping, h.mappedBits _ _ _ _ below, h.mappedBits _ _ _ _ below, h.nat _ (unmoved_below (by omega))]

/-! ### The checks whole, and what is read out -/

theorem Reads.checkWrite (p : Path) (key : Nat) (d : WData) : t.checkWrite p key d = s.checkWrite p key d := by
  unfold State.checkWrite
  simp only [h.presentRow, h.levelOf, h.levelNeeded, h.stateCheck, h.baseGet, h.mappingRefused, h.rangeNow]
theorem Reads.traceReadable : t.traceReadable = s.traceReadable := by unfold State.traceReadable; rw [h.nat Key.traceState unmoved_at, h.bellows]
theorem Reads.checkRead (key : Nat) : t.checkRead key = s.checkRead key := by
  unfold State.checkRead
  simp only [h.presentRow, h.headed, h.nat Key.mapSnapshotState unmoved_at, h.traceReadable]
theorem Reads.traceData : t.traceData = s.traceData := by
  have select (c : Fin 4) : t.traceOn c = s.traceOn c := by
    refine h.bitOf _ _ (unmoved_at (hs := ?_))
    revert c
    decide
  unfold State.traceData
  simp only [select, h.bellows]
theorem Reads.learnerBytes (l : Nat) : t.learnerBytes l = s.learnerBytes l := by
  unfold State.learnerBytes State.cell
  rw [h.nat (Key.learnPeriod l) unmoved_at, h.nat (Key.learnPoolOffset l) unmoved_at, h.bellows]
theorem Reads.mapBytes : t.mapBytes = s.mapBytes := by
  unfold State.mapBytes State.mapCells
  rw [h.nat Key.mapQuantity unmoved_at, h.nat Key.mapStatistic unmoved_at, h.kelsis]
theorem Reads.takeFifo (b : Fin 2) : (t.takeFifo b).1 = (s.takeFifo b).1 := by
  unfold State.takeFifo
  rw [h.can]
  split
  · rfl
  · rfl
theorem Reads.readBlock (p : Path) (key : Nat) (stands : key ≠ Key.identVendorChallenge) : (t.readBlock p key).1 = (s.readBlock p key).1 := by
  unfold State.readBlock
  dsimp only
  rw [if_neg stands, if_neg stands, h.base, h.blk, h.traceData, h.learnerBytes, h.mapBytes, h.block]
  split
  · rfl
  split
  · rfl
  split
  · rfl
  split
  · rfl
  split
  · exact h.takeFifo _
  · rfl
end

/-- Whether a block is refused depends on the blocks held. -/
theorem blockRefusal_none_of {s t : State} (same : t.blk = s.blk) (p : Path) (key : Nat) (bs : List Byte) (passes : s.blockRefusal p key bs = none) :
    t.blockRefusal p key bs = none := by
  have faults (c : Fin 4) : t.imageFault c bs = s.imageFault c bs := by unfold State.imageFault State.block; rw [same]
  unfold State.blockRefusal at passes ⊢
  split at passes
  · rw [faults]
    exact Option.map_eq_none_iff.2 (Option.map_eq_none_iff.1 passes)
  · split at passes
    · cases passes
    · split at passes
      · cases passes
      · rw [if_neg (by assumption), if_neg (by assumption)]

end Sys2Proof.Machine
end

section
/-! SUPPORT. A supervisor call of a program (R454): the way in and the way back are accounting around the monitor's work, which runs on the core as the
trap entry leaves it. -/

namespace Sys2Proof.Machine

open Sys2Proof

-- Each rule rests on the ones above it: elaborated one by one they keep no threads waiting.
set_option Elab.async false

/-! ### The way in (R451, R454, R458) -/

theorem Reads.refl (s : State) : Reads s s := ⟨rfl, fun _ _ => rfl⟩
theorem Reads.trans {s m t : State} (h : Reads s m) (g : Reads m t) : Reads s t := ⟨g.beside.trans h.beside, fun k hk => (g.values k hk).trans (h.values k hk)⟩
theorem Accounts.reads {s t : State} (h : Accounts s t) : Reads s t := ⟨h.beside, fun k hk => h.values k hk.1⟩
theorem Reads.setCore (s : State) (c : Fin 4) (f : Core → Core) : Reads s (s.setCore c f) := ⟨rfl, fun _ _ => rfl⟩
theorem reads_freeNat (s : State) : Reads s s.freeNat.2 := ⟨rfl, fun _ _ => rfl⟩
theorem reads_sampleStack (s : State) (c : Fin 4) : Reads s (s.sampleStack c) := by
  unfold State.sampleStack
  dsimp only
  split
  · exact .refl s
  · split
    · exact .refl s
    · exact (Reads.setCore s c _).trans ⟨rfl, fun k hk => State.get_put_other _ _ _ _ (hk.2 c.val)⟩

/-- What the program of a core sees of it: registers, PC, STATUS, EPC. -/
def Core.program (k : Core) : Vector Word 16 × Word × Word × Word := (k.regs, k.pc, k.status, k.epc)

theorem program_of_arch {k q : Core} (h : k.arch = q.arch) : k.program = q.program := (congrArg Core.program h : k.arch.program = q.arch.program)

/-- From `s` to `t` the program of core `c` stands. -/
def KeepsProgram (c : Fin 4) (s t : State) : Prop := (t.cores[c]).program = (s.cores[c]).program

theorem KeepsProgram.refl (c : Fin 4) (s : State) : KeepsProgram c s s := rfl
theorem KeepsProgram.trans {c : Fin 4} {s m t : State} (h : KeepsProgram c s m) (g : KeepsProgram c m t) : KeepsProgram c s t := Eq.trans g h
theorem Moves.keepsProgram {s t : State} {keys : List Nat} (h : Moves s t keys) (c : Fin 4) : KeepsProgram c s t := program_of_arch (h.cores c)
theorem keepsProgram_setCore (c e : Fin 4) (s : State) (f : Core → Core) (hf : ∀ k, (f k).program = k.program) : KeepsProgram c s (s.setCore e f) := by
  unfold KeepsProgram
  rw [State.cores_setCore]
  split
  · next same =>
    subst same
    exact hf _
  · rfl
theorem keepsProgram_sampleStack (s : State) (c : Fin 4) : KeepsProgram c s (s.sampleStack c) := by
  unfold State.sampleStack
  dsimp only
  split
  · exact .refl c s
  · split
    · exact .refl c s
    · exact keepsProgram_setCore c c s (fun k => { k with stackSeen := true }) fun _ => rfl

/-- The module as the monitor finds it on a call of core `c`: memories and dictionary stand, the program's registers too, and the monitor
returns to where EPC points. -/
structure Entered (s : State) (c : Fin 4) (n : State) : Prop where
  reads : Reads s n
  still : n.still = s.still
  regs  : (n.cores[c]).regs = (s.cores[c]).regs
  epc   : (n.cores[c]).epc = (s.cores[c]).pc
  ppm   : (n.cores[c]).ppm = (s.cores[c]).privileged

theorem ppm_enterTrap (k : Core) (epc ecause eval : Word) (offset : Nat) : (k.enterTrap epc ecause eval offset).ppm = k.privileged := by
  show (statusOf k.privileged true k.ie false).getLsbD 3 = _
  cases k.privileged <;> cases k.ie <;> rfl

/-- The module with the trap of a call taken, ahead of the cycles that its entry counts. -/
def State.svcTaken (s : State) (c : Fin 4) (num : Nat) : State :=
  (s.sampleStack c).freeNat.2.setCore c fun k => k.enterTrap k.pc 10 (BitVec.ofNat 32 num) 0

theorem entered_svcEnter (s : State) (c : Fin 4) (num : Nat) : Entered s c (s.svcEnter c num) := by
  have counts : Accounts (s.svcTaken c num) (s.svcEnter c num) :=
    (Accounts.passCycles (s.svcTaken c num) c _).trans (Accounts.countEvent _ c 0x02 trapCycles)
  have core : (s.svcTaken c num).cores[c] = ((s.sampleStack c).cores[c]).enterTrap ((s.sampleStack c).cores[c]).pc 10 (BitVec.ofNat 32 num) 0 :=
    State.cores_setCore_same (s.sampleStack c).freeNat.2 c _
  have program := program_of_arch (counts.cores c)
  have sampled : ((s.sampleStack c).cores[c]).program = (s.cores[c]).program := keepsProgram_sampleStack s c
  rw [core] at program
  have taken : Reads (s.sampleStack c) (s.svcTaken c num) := (reads_freeNat _).trans (Reads.setCore _ c _)
  constructor
  · exact ((reads_sampleStack s c).trans taken).trans counts.reads
  · exact still_svcEnter s c num
  · exact (congrArg (fun v => v.1) program).trans (congrArg (fun v => v.1) sampled)
  · exact (congrArg (fun v => v.2.2.2) program).trans (congrArg (fun v => v.2.1) sampled)
  · have user : ((s.sampleStack c).cores[c]).privileged = (s.cores[c]).privileged := congrArg (fun v => v.2.2.1.getLsbD 2) sampled
    have entry := ppm_enterTrap (s.sampleStack c).cores[c] ((s.sampleStack c).cores[c]).pc 10 (BitVec.ofNat 32 num) 0
    exact (congrArg (fun v => v.2.2.1.getLsbD 3) program).trans (entry.trans user)

theorem Entered.after {s m n : State} {c : Fin 4} (h : Accounts s m) (g : Entered m c n) : Entered s c n :=
  ⟨h.reads.trans g.reads, g.still.trans h.still, g.regs.trans (h.regs c), g.epc.trans (h.pc c), g.ppm.trans (h.privileged c)⟩

/-! ### The call whole -/

/-- A call as an instruction: the monitor's work done, the program behind it (R454, R478). -/
def svcEffect (c : Fin 4) (served : State) : Effect :=
  { s := served, next := (served.cores[c]).pc, cost := ⟨0, [(0x0F, 1), (0x10, 1)], 0, 0⟩, retires := false,
    post := fun t => (t.flushTagged c).setCore c Core.svcTagged }

theorem accounts_svcEffect (c : Fin 4) (served : State) (fetch : Cost) (b1 b2 b3 : Bool) :
    Accounts served ((svcEffect c served).retire c fetch b1 b2 b3) := by
  obtain ⟨m, back, retires⟩ := retire_post (svcEffect c served) c fetch b1 b2 b3 rfl
  have left : Accounts served m := by
    refine ⟨back.beside, fun e => ?_, back.values, back.power⟩
    by_cases own : e = c
    · subst own
      exact back.core
    · exact back.others e own
  rw [retires]
  exact left.trans ((Accounts.flushTagged m c).trans (Accounts.setCore _ c Core.svcTagged rfl))

/-- A call that its operands let through: the monitor's work on the module it has entered, and accounting. -/
theorem svc_ready (s : State) (c : Fin 4) (num : Nat) (check : State → Core → Option Trap) (serve : State → Core → State) (ready : CoreReady s c)
    (user : (s.cores[c]).privileged = false) (passes : ∀ m, Accounts s m → check m m.cores[c] = none) :
    ∃ n k, Entered s c n ∧ k.arch = (s.cores[c]).arch ∧ Accounts (serve n k) (s.svc c num check serve) := by
  unfold State.svc
  obtain ⟨m, fetch, b1, b2, b3, ha, runs⟩ := insn_ready s c (wordK 0x34 0 0 (BitVec.ofNat 18 num)) [1, 2, 3] 0 _ ready
  refine ⟨m.svcEnter c num, m.cores[c], (entered_svcEnter m c num).after ha, ha.cores c, ?_⟩
  rw [runs]
  dsimp only
  rw [if_neg (by rw [ha.privileged c, user]; decide), passes m ha]
  exact accounts_svcEffect c _ fetch b1 b2 b3

/-! ### The way back (R454) -/

/-- What the program finds behind a call that gave `v`: the next PC, user mode, and w1. -/
structure Returned (s : State) (c : Fin 4) (v : Nat) (t : State) : Prop where
  pc   : (t.cores[c]).pc = (s.cores[c]).pc + 4
  user : (t.cores[c]).privileged = (s.cores[c]).privileged
  regs : (t.cores[c]).regs = (s.cores[c]).regs.set 1 (BitVec.ofNat 32 v)

theorem privileged_trapReturn (k : Core) : k.trapReturn.privileged = k.ppm := by
  show (statusOf k.ppm k.ppm k.pie k.pie).getLsbD 2 = _
  cases k.ppm <;> cases k.pie <;> rfl

/-- A result that the monitor returns on a module whose program it has left alone. -/
theorem returned_svcResult {s n r t : State} {c : Fin 4} (v : Nat) (entered : Entered s c n) (kept : KeepsProgram c n r)
    (left : Accounts (r.svcResult c v) t) : Returned s c v t := by
  have core : (r.svcResult c v).cores[c] = ({ ((r.cores[c]).setReg 1 (BitVec.ofNat 32 v)) with epc := (r.cores[c]).epc + 4 } : Core).trapReturn := by
    unfold State.svcResult State.svcLeave
    rw [State.cores_setCore_same, State.cores_setCore_same]
    rfl
  have epc : (r.cores[c]).epc = (s.cores[c]).pc := (congrArg (fun v => v.2.2.2) kept).trans entered.epc
  have regs : (r.cores[c]).regs = (s.cores[c]).regs := (congrArg (fun v => v.1) kept).trans entered.regs
  have ppm : (r.cores[c]).ppm = (s.cores[c]).privileged := (congrArg (fun v => v.2.2.1.getLsbD 3) kept).trans entered.ppm
  refine ⟨(left.pc c).trans ?_, (left.privileged c).trans ?_, (left.regs c).trans ?_⟩
  · rw [core, ← epc]
    rfl
  · rw [core, privileged_trapReturn, ← ppm]
    rfl
  · rw [core, ← regs]
    rfl

theorem Returned.reg_same {s t : State} {c : Fin 4} {v : Nat} (h : Returned s c v t) : (t.cores[c]).regs[1] = BitVec.ofNat 32 v := by
  rw [h.regs]
  exact Vector.getElem_set_self _
theorem Returned.reg_other {s t : State} {c : Fin 4} {v : Nat} (h : Returned s c v t) (i : Fin 16) (hi : i ≠ 1) :
    (t.cores[c]).regs[i] = (s.cores[c]).regs[i] := by
  rw [h.regs]
  exact Vector.getElem_set_ne _ _ fun same => hi (Fin.ext same.symm)

end Sys2Proof.Machine
end

section
/-! SUPPORT. DOM_READ and DOM_WRITE (R126, R128, R454): what the monitor does for a program's buffer, behind `Obligations.SupervisorBlocks`. -/

namespace Sys2Proof.Machine

open Sys2Proof

-- Each rule rests on the ones above it: elaborated one by one they keep no threads waiting.
set_option Elab.async false

/-! ### The monitor's work leaves the program alone -/

section
variable {c : Fin 4} {s m : State}

theorem KeepsProgram.ite {a b : State} {p : Prop} [Decidable p] (h : KeepsProgram c s a) (g : KeepsProgram c s b) : KeepsProgram c s (if p then a else b) := by
  split
  · exact h
  · exact g
theorem KeepsProgram.foldl {α : Type} (f : State → α → State) (l : List α) (h : KeepsProgram c s m) (hf : ∀ m x, KeepsProgram c m (f m x)) :
    KeepsProgram c s (l.foldl f m) := by
  induction l generalizing m with
  | nil => exact h
  | cons x t ih => exact ih (h.trans (hf m x))
theorem KeepsProgram.foldl_snd {α β : Type} (f : β × State → α → β × State) (l : List α) (r : β × State) (h : KeepsProgram c s r.2)
    (hf : ∀ r x, KeepsProgram c r.2 (f r x).2) : KeepsProgram c s (l.foldl f r).2 := by
  induction l generalizing r with
  | nil => exact h
  | cons x t ih => exact ih (f r x) (h.trans (hf r x))
theorem KeepsProgram.log (h : KeepsProgram c s m) (code source w4 w5 w6 : Nat) : KeepsProgram c s (m.log code source w4 w5 w6) :=
  h.trans (((Moves.refl m []).log code source w4 w5 w6).keepsProgram c)
theorem KeepsProgram.raiseSource (h : KeepsProgram c s m) (src : Nat) : KeepsProgram c s (m.raiseSource src) :=
  h.trans (((Moves.refl m []).raiseSource src).keepsProgram c)
theorem KeepsProgram.setCore (h : KeepsProgram c s m) (e : Fin 4) (f : Core → Core) (hf : ∀ k, (f k).program = k.program) :
    KeepsProgram c s (m.setCore e f) := h.trans (keepsProgram_setCore c e m f hf)
theorem KeepsProgram.putN (h : KeepsProgram c s m) (k v : Nat) : KeepsProgram c s (m.putN k v) := h
theorem KeepsProgram.refuse (h : KeepsProgram c s m) (p : Path) (e : Refused) : KeepsProgram c s (m.refuse p e) := h

/-! ### Memory -/

theorem KeepsProgram.cowlStore (h : KeepsProgram c s m) (u : Fin 4) (r : Nat) (w : Word) (bs : List Byte) (cycle : Nat) :
    KeepsProgram c s (m.cowlStore u r w bs cycle) := by
  unfold State.cowlStore
  split
  all_goals exact h
theorem KeepsProgram.unitValue (h : KeepsProgram c s m) (e : Nat × Nat) : KeepsProgram c s (m.unitValue e) := by
  unfold State.unitValue
  dsimp only
  split
  · exact h
  · exact h
theorem KeepsProgram.unitRecord (h : KeepsProgram c s m) (q : ThermalRecord) : KeepsProgram c s (m.unitRecord q).2 := by
  unfold State.unitRecord
  dsimp only
  split
  · exact h
  · exact h
theorem KeepsProgram.unitStored (h : KeepsProgram c s m) : KeepsProgram c s m.unitStored := by
  unfold State.unitStored
  extract_lets values records
  have hv : KeepsProgram c s values := .foldl _ _ h fun m e => (KeepsProgram.refl c m).unitValue e
  clear_value values
  have hr : KeepsProgram c s records.2 := .foldl_snd _ _ ([], values) hv fun r q => (KeepsProgram.refl c r.2).unitRecord q
  exact hr
theorem KeepsProgram.controlStore (h : KeepsProgram c s m) (e : Fin 4) (off w : Nat) (v : Word) : KeepsProgram c s (m.controlStore e off w v) := by
  unfold State.controlStore
  extract_lets word lane x merge k t tm n i u
  split
  · refine .ite ?_ (.ite (h.setCore e _ fun _ => rfl) h)
    exact .ite (KeepsProgram.setCore (m := m.freeNat.2) h e _ fun _ => rfl) (h.setCore e _ fun _ => rfl)
  · exact .ite (h.setCore e _ fun _ => rfl) (.ite (h.setCore e _ fun _ => rfl) (.ite (h.cowlStore _ _ _ _ _) (.ite (h.setCore _ _ fun _ => rfl) h)))
theorem KeepsProgram.memStore (h : KeepsProgram c s m) (e : Fin 4) (a w : Nat) (v : Word) : KeepsProgram c s (m.memStore e a w v) := by
  unfold State.memStore
  dsimp only
  split
  · exact h.setCore e _ fun _ => rfl
  · exact h.setCore e _ fun _ => rfl
  · exact h
  · exact h.controlStore e _ w v
  · exact .ite (KeepsProgram.unitStored h) h
  · exact h
theorem KeepsProgram.cowlLoad (h : KeepsProgram c s m) (u : Fin 4) (r : Nat) : KeepsProgram c s (m.cowlLoad u r).2 := by
  unfold State.cowlLoad
  split
  all_goals exact h
theorem KeepsProgram.controlWord (h : KeepsProgram c s m) (e : Fin 4) (off : Nat) : KeepsProgram c s (m.controlWord e off).2 := by
  unfold State.controlWord
  extract_lets k t core
  split
  · split
    all_goals exact h
  iterate 4 
    split
    · exact h
  split
  · exact h.cowlLoad _ _
  split
  · exact h
  split
  · exact h
  · exact h
theorem KeepsProgram.memLoad (h : KeepsProgram c s m) (e : Fin 4) (a w : Nat) : KeepsProgram c s (m.memLoad e a w).2 := by
  unfold State.memLoad
  split
  case h_8 => exact h.controlWord e _
  all_goals exact h

/-! ### Dictionary -/

theorem KeepsProgram.readBlock (h : KeepsProgram c s m) (p : Path) (key : Nat) : KeepsProgram c s (m.readBlock p key).2 := by
  have fifo (b : Fin 2) : KeepsProgram c s (m.takeFifo b).2 := by
    unfold State.takeFifo
    split
    · exact h
    · exact h
  unfold State.readBlock
  dsimp only
  split
  · exact h
  iterate 4
    split
    · exact h
  split
  · exact fifo _
  · exact h
theorem KeepsProgram.firmwareBegins (h : KeepsProgram c s m) (key : Nat) : KeepsProgram c s (m.firmwareBegins key) := by
  have bank : KeepsProgram c s m.updateBank.2 := by
    unfold State.updateBank
    dsimp only
    iterate 4
      split
      · exact h
    exact h
  unfold State.firmwareBegins
  split
  · generalize m.updateBank = r at bank ⊢
    refine KeepsProgram.putN ?_ _ _
    split
    · exact bank
    · exact bank
  · exact h
theorem KeepsProgram.stage (h : KeepsProgram c s m) (p : Path) (key : Nat) (v : DVal) : KeepsProgram c s (m.stage p key v) := .ite h h
theorem KeepsProgram.portRefuse (h : KeepsProgram c s m) (p : Path) (b : Fin 2) (bs : List Byte) (e : Refused) :
    KeepsProgram c s (m.portRefuse p b bs e) := by
  have tagged := KeepsProgram.ite (p := 8 ≤ bs.length) (h.putN (Key.canTagOfLastRefusal b) (entryOf bs).tag) h
  exact .ite tagged tagged
theorem KeepsProgram.guardEntry (h : KeepsProgram c s m) (b : Fin 2) (e : CanEntry) : KeepsProgram c s (m.guardEntry b e).2 := by
  have transmit (u : Fin 4) (id : Nat) : KeepsProgram c s (m.cowlTransmit u id).2 := by
    unfold State.cowlTransmit
    split
    · exact h
    · exact h
  unfold State.guardEntry
  dsimp only
  split
  · split
    · exact h
    · exact transmit _ _
  · exact h
theorem KeepsProgram.mirrorMove (h : KeepsProgram c s m) : KeepsProgram c s m.mirrorMove := by
  unfold State.mirrorMove
  dsimp only
  split
  · split
    · exact h
    · have filled (f g : CanPort → CanPort) : KeepsProgram c s (State.bump 32 ((m.setCan 0 f).fillSlot 1 g) (Key.canMirrorMoves 0)) := h
      refine KeepsProgram.raiseSource ?_ _
      split
      · exact filled _ _
      · exact (filled _ _).log _ _ _ _ _
  · exact h
theorem KeepsProgram.portWrite (h : KeepsProgram c s m) (p : Path) (b : Fin 2) (bs : List Byte) : KeepsProgram c s (m.portWrite p b bs) := by
  unfold State.portWrite
  dsimp only
  split
  · exact h.portRefuse p b bs _
  · exact KeepsProgram.mirrorMove (h.guardEntry b (entryOf bs))
theorem KeepsProgram.acceptWrite (h : KeepsProgram c s m) (p : Path) (key : Nat) (v : DVal) : KeepsProgram c s (m.acceptWrite p key v) := by
  have image (e : Fin 4) (st : Nat) : KeepsProgram c s (m.imageRefuse p e st) := KeepsProgram.ite (h.log _ _ _ _ _) h
  have refused (bs : List Byte) (t : State) (ht : m.blockRefusal p key bs = some t) : KeepsProgram c s t := by
    unfold State.blockRefusal at ht
    split at ht
    · obtain ⟨st, -, rfl⟩ := Option.map_eq_some_iff.1 ht
      exact image _ st
    · split at ht
      · cases ht
        exact h
      · split at ht
        · cases ht
          exact h
        · cases ht
  unfold State.acceptWrite
  split
  · exact h.stage p key _
  · next bs =>
    split
    · exact h.portWrite p _ bs
    · cases judged : m.blockRefusal p key bs with
      | none => exact (h.firmwareBegins key).stage p key _
      | some t => exact refused bs t judged

end

end Sys2Proof.Machine
end

section
/-! SUPPORT. DOM_READ and DOM_WRITE (R126, R128, R454): a program's buffer in the addressed memories, and the two calls case by case, behind
`Obligations.SupervisorBlocks`. -/

namespace Sys2Proof.Machine

open Sys2Proof

-- Each rule rests on the ones above it: elaborated one by one they keep no threads waiting.
set_option Elab.async false

/-! ### A buffer's bytes (R439) -/

section
variable {c : Fin 4} {a : Nat} {m : Space}

theorem memoryAt_cases (h : memoryAt c a = some m) : regionOf a = some .itcm ∧ m = .itcm c ∨ regionOf a = some .dtcm ∧ m = .dtcm c
    ∨ regionOf a = some .sram ∧ m = .sram := by
  unfold memoryAt at h
  split at h
  · next e => exact .inl ⟨e, (Option.some.inj h).symm⟩
  · next e => exact .inr (.inl ⟨e, (Option.some.inj h).symm⟩)
  · next e => exact .inr (.inr ⟨e, (Option.some.inj h).symm⟩)
  · cases h
theorem lt_of_memoryAt (h : memoryAt c a = some m) : a < 2 ^ 32 := by
  by_contra beyond
  have none_ : regionOf a = none := by
    unfold regionOf
    simp only [show ¬a < 0x10000 by omega, if_false]
    repeat rw [if_neg (by omega)]
  rcases memoryAt_cases h with ⟨region, -⟩ | ⟨region, -⟩ | ⟨region, -⟩
  all_goals
    rw [none_] at region
    cases region

theorem toNat_byte (x : Byte) : BitVec.ofNat 8 (BitVec.ofNat 32 x.toNat).toNat = x := by
  apply BitVec.eq_of_toNat_eq
  simp only [BitVec.toNat_ofNat]
  omega

/-- A byte read from a memory that a program reaches is the byte there, and nothing changes. -/
theorem memLoad_byte (s : State) (h : memoryAt c a = some m) : s.memLoad c a 1 = (BitVec.ofNat 32 (s.byteAt m a).toNat, s) := by
  have one (l : List Host.Cell) : loadBytes l a 1 = (readKey (fun _ => (0 : Byte)) l a).toNat := by
    simp [loadBytes, leNat, List.range_succ]
  unfold State.memLoad
  rcases memoryAt_cases h with ⟨region, rfl⟩ | ⟨region, rfl⟩ | ⟨region, rfl⟩
  all_goals
    rw [region]
    dsimp only
    rw [one]
    rfl

/-- A byte stored in a memory that a program reaches stands there; every other byte of that memory is as before. -/
theorem byteAt_memStore (s : State) (b : Byte) (h : memoryAt c a = some m) (x : Nat) :
    (s.memStore c a 1 (BitVec.ofNat 32 b.toNat)).byteAt m x = if x = a then b else s.byteAt m x := by
  have bytes : leBytes 1 (BitVec.ofNat 32 b.toNat : Word).toNat = [b] := congrArg (fun y => [y]) (toNat_byte b)
  have stored (l : List Host.Cell) : readKey (fun _ => (0 : Byte)) (storeBytes l a [b]) x = if x = a then b else readKey (fun _ => (0 : Byte)) l x := by
    unfold storeBytes storeBytes
    split
    · next same =>
      subst same
      exact readKey_writeKey_same _ _ _ _
    · next other => exact readKey_writeKey_other _ _ _ _ _ other
  unfold State.memStore
  dsimp only
  rw [bytes]
  rcases memoryAt_cases h with ⟨region, rfl⟩ | ⟨region, rfl⟩ | ⟨region, rfl⟩
  · rw [region]
    unfold State.byteAt
    dsimp only
    rw [State.cores_setCore_same]
    exact stored _
  · rw [region]
    unfold State.byteAt
    dsimp only
    rw [State.cores_setCore_same]
    exact stored _
  · rw [region]
    exact stored _

end

/-- The bytes `bs` stored one after the other from `a` on. -/
def State.laid (s : State) (c : Fin 4) (a : Nat) (bs : List Byte) : State :=
  (bs.zipIdx a).foldl (fun s b => s.memStore c (b.2 % 2 ^ 32) 1 (BitVec.ofNat 32 b.1.toNat)) s

theorem laid_cons (s : State) (c : Fin 4) (a : Nat) (b : Byte) (bs : List Byte) :
    s.laid c a (b :: bs) = (s.memStore c (a % 2 ^ 32) 1 (BitVec.ofNat 32 b.toNat)).laid c (a + 1) bs := rfl

/-- Bytes laid in a memory stand there one after the other; what lies outside them is as before. -/
theorem byteAt_laid (s : State) (c : Fin 4) (a : Nat) (bs : List Byte) (m : Space) (h : ∀ i < bs.length, memoryAt c (a + i) = some m) (x : Nat) :
    (s.laid c a bs).byteAt m x = if a ≤ x ∧ x < a + bs.length then bs.getD (x - a) 0 else s.byteAt m x := by
  induction bs generalizing s a with
  | nil =>
    rw [if_neg (by simp)]
    rfl
  | cons b bs ih =>
    have first : memoryAt c a = some m := h 0 (Nat.succ_pos _)
    have rest : ∀ i < bs.length, memoryAt c (a + 1 + i) = some m := fun i hi => by
      rw [Nat.add_assoc, Nat.add_comm 1 i]
      exact h (i + 1) (Nat.succ_lt_succ hi)
    rw [laid_cons, ih _ _ rest, Nat.mod_eq_of_lt (lt_of_memoryAt first), byteAt_memStore s b first, List.length_cons]
    by_cases here : x = a
    · subst here
      rw [if_neg (by omega), if_pos rfl, if_pos (by omega), Nat.sub_self]
      rfl
    · by_cases behind : a + 1 ≤ x ∧ x < a + 1 + bs.length
      · rw [if_pos behind, if_pos (by omega), show x - a = x - (a + 1) + 1 by omega]
        rfl
      · rw [if_neg behind, if_neg here, if_neg (by omega)]

/-- A buffer read from a memory that the program reaches is its bytes, and nothing changes. -/
theorem bufferBytes_eq (s : State) (c : Fin 4) (a n : Nat) (m : Space) (h : ∀ i < n, memoryAt c (a + i) = some m) :
    s.bufferBytes c a n = ((List.range n).map fun i => s.byteAt m (a + i), s) := by
  unfold State.bufferBytes
  induction n with
  | zero => rfl
  | succ n ih =>
    have last := h n (Nat.lt_succ_self n)
    rw [List.range_succ, List.foldl_append, ih fun i hi => h i (Nat.lt_succ_of_lt hi), List.map_append]
    simp only [List.foldl_cons, List.foldl_nil, List.map_cons, List.map_nil]
    rw [Nat.mod_eq_of_lt (lt_of_memoryAt last), memLoad_byte s last]
    exact congrArg (fun y => (_ ++ [y], s)) (toNat_byte _)

theorem keepsProgram_laid (s : State) (c : Fin 4) (a : Nat) (bs : List Byte) : KeepsProgram c s (s.laid c a bs) :=
  KeepsProgram.foldl _ _ (.refl c s) fun m _ => (KeepsProgram.refl c m).memStore c _ _ _
theorem keepsProgram_bufferBytes (s : State) (c : Fin 4) (a n : Nat) : KeepsProgram c s (s.bufferBytes c a n).2 :=
  KeepsProgram.foldl_snd _ _ ([], s) (.refl c s) fun r _ => (KeepsProgram.refl c r.2).memLoad c _ _

/-! ### The calls case by case -/

theorem touch_corePath (s : State) (c : Fin 4) : s.touch (corePath c) = s := by
  fin_cases c <;> rfl

section
variable (n : State) (c : Fin 4) (k : Core)

theorem svcDomRead_refused (e : Refused) (refused : n.checkRead ((k.reg 1).toNat / 256) = .error e) :
    n.svcDomRead c k = (n.refuse (corePath c) e).svcResult c e.code := by
  unfold State.svcDomRead
  dsimp only
  rw [touch_corePath, refused]
theorem svcDomRead_number (r : Row) (passes : n.checkRead ((k.reg 1).toNat / 256) = .ok r) (number : r.ty.isBlock = false) :
    n.svcDomRead c k = (n.refuse (corePath c) (.length ((k.reg 1).toNat / 256))).svcResult c abortLength := by
  unfold State.svcDomRead
  dsimp only
  rw [touch_corePath, passes]
  exact if_pos number
theorem svcDomRead_block (r : Row) (passes : n.checkRead ((k.reg 1).toNat / 256) = .ok r) (block : r.ty.isBlock = true) :
    n.svcDomRead c k = let x := n.readBlock (corePath c) ((k.reg 1).toNat / 256)
      (x.2.laid c (k.reg 2).toNat (x.1.take (k.reg 3).toNat)).svcResult c (x.1.take (k.reg 3).toNat).length := by
  unfold State.svcDomRead
  dsimp only
  rw [touch_corePath, passes]
  exact if_neg (by rw [block]; decide)

/-- DOM_READ ends with a result, the program left alone. -/
theorem svcDomRead_ends : ∃ r v, n.svcDomRead c k = r.svcResult c v ∧ KeepsProgram c n r := by
  cases judged : n.checkRead ((k.reg 1).toNat / 256) with
  | error e => exact ⟨_, _, svcDomRead_refused n c k e judged, (KeepsProgram.refl c n).refuse _ _⟩
  | ok r =>
    cases block : r.ty.isBlock with
    | false => exact ⟨_, _, svcDomRead_number n c k r judged block, (KeepsProgram.refl c n).refuse _ _⟩
    | true => exact ⟨_, _, svcDomRead_block n c k r judged block, ((KeepsProgram.refl c n).readBlock _ _).trans (keepsProgram_laid _ c _ _)⟩

/-- The answer of the path is cleared before the write is accepted, so that a refusal then shows. -/
def State.unanswered (n : State) (p : Path) : State := { n with dict := { n.dict with answers := n.dict.answers.set! p.writer.code .none } }

/-- DOM_WRITE ends with a result, the program left alone. -/
theorem svcDomWrite_ends : ∃ r v, n.svcDomWrite c k = r.svcResult c v ∧ KeepsProgram c n r := by
  have loaded := keepsProgram_bufferBytes n c (k.reg 2).toNat (k.reg 3).toNat
  unfold State.svcDomWrite
  dsimp only
  rw [touch_corePath]
  generalize n.bufferBytes c (k.reg 2).toNat (k.reg 3).toNat = b at loaded ⊢
  split
  · exact ⟨_, _, rfl, loaded.refuse _ _⟩
  · exact ⟨_, _, rfl, loaded.refuse _ _⟩
  · have accepted (v : DVal) : KeepsProgram c n ((b.2.unanswered (corePath c)).acceptWrite (corePath c) ((k.reg 1).toNat / 256) v) :=
      KeepsProgram.acceptWrite (m := b.2.unanswered (corePath c)) loaded _ _ v
    split
    · exact ⟨_, _, rfl, accepted _⟩
    · exact ⟨_, _, rfl, accepted _⟩

end

section
variable (n : State) (c : Fin 4) (k : Core)

theorem svcDomWrite_refused (e : Refused) (data : List Byte) (loads : n.bufferBytes c (k.reg 2).toNat (k.reg 3).toNat = (data, n))
    (refused : n.checkWrite (corePath c) ((k.reg 1).toNat / 256) (.bytes data) = .error e) :
    n.svcDomWrite c k = (n.refuse (corePath c) e).svcResult c e.code := by
  unfold State.svcDomWrite
  dsimp only
  rw [loads]
  dsimp only
  rw [touch_corePath, refused]

theorem dict_firmwareBegins (key : Nat) : (n.firmwareBegins key).dict = n.dict := by
  have bank : n.updateBank.2.dict = n.dict := by
    unfold State.updateBank
    dsimp only
    iterate 4
      split
      · rfl
    rfl
  unfold State.firmwareBegins
  split
  · generalize n.updateBank = r at bank ⊢
    dsimp only
    split
    · exact bank
    · exact bank
  · rfl

theorem answers_stage (p : Path) (key : Nat) (v : DVal) : (n.stage p key v).dict.answers = n.dict.answers := by
  unfold State.stage
  split
  · rfl
  · rfl
theorem staged_stage (p : Path) (key : Nat) (bs : List Byte) :
    (n.stage p key (.blk bs)).dict.staged = n.dict.staged.filter (fun w => !(w.path == p && w.key == key)) ++ [⟨p, key, .blk bs⟩] := by
  have block : ¬(key = Key.traceCommand ∧ DVal.blk bs = .num 2 ∧ n.dict.staged.any (fun w => w.path == p && w.arms) = true) := by simp
  unfold State.stage
  rw [if_neg block]
theorem acceptWrite_block (p : Path) (key : Nat) (bs : List Byte) (sound : n.blockRefusal p key bs = none) (noPort : transmitPortOf key = none) :
    n.acceptWrite p key (.blk bs) = (n.firmwareBegins key).stage p key (.blk bs) := by
  unfold State.acceptWrite
  dsimp only
  rw [noPort, sound]
  rfl

theorem unanswered_lastAnswer (p : Path) : (n.unanswered p).lastAnswer p = some .none := by
  unfold State.lastAnswer State.unanswered
  simp [writerCode_lt]

/-- What DOM_WRITE gives behind an accepted write: the abort code of a refusal, else 0 (R454). -/
def State.writeResult (t : State) (p : Path) : Nat :=
  match t.lastAnswer p with
  | some (.abort code) => code
  | _ => 0

theorem svcDomWrite_judged (data bs : List Byte) (loads : n.bufferBytes c (k.reg 2).toNat (k.reg 3).toNat = (data, n))
    (passes : n.checkWrite (corePath c) ((k.reg 1).toNat / 256) (.bytes data) = .ok (.blk bs)) (t : State)
    (accepts : (n.unanswered (corePath c)).acceptWrite (corePath c) ((k.reg 1).toNat / 256) (.blk bs) = t) :
    n.svcDomWrite c k = t.svcResult c (t.writeResult (corePath c)) := by
  subst accepts
  unfold State.svcDomWrite
  dsimp only
  rw [loads]
  dsimp only
  rw [touch_corePath, passes]
  dsimp only
  unfold State.writeResult State.lastAnswer State.unanswered
  generalize State.acceptWrite _ (corePath c) _ _ = t
  cases t.dict.answers.toList[(corePath c).writer.code]? with
  | none => rfl
  | some answer => cases answer <;> rfl

/-- An accepted block is staged for the next tick, in place of what the core staged there before, and the call gives 0 (R123, R126). -/
theorem svcDomWrite_accepted (data bs : List Byte) (loads : n.bufferBytes c (k.reg 2).toNat (k.reg 3).toNat = (data, n))
    (passes : n.checkWrite (corePath c) ((k.reg 1).toNat / 256) (.bytes data) = .ok (.blk bs))
    (sound : n.blockRefusal (corePath c) ((k.reg 1).toNat / 256) bs = none) (noPort : transmitPortOf ((k.reg 1).toNat / 256) = none) :
    n.svcDomWrite c k =
      (((n.unanswered (corePath c)).firmwareBegins ((k.reg 1).toNat / 256)).stage (corePath c) ((k.reg 1).toNat / 256) (.blk bs)).svcResult c 0 := by
  have blocks : (n.unanswered (corePath c)).blk = n.blk := rfl
  have accepts := acceptWrite_block _ (corePath c) _ bs (blockRefusal_none_of blocks (corePath c) _ bs sound) noPort
  have gives : State.writeResult (((n.unanswered (corePath c)).firmwareBegins ((k.reg 1).toNat / 256)).stage (corePath c) ((k.reg 1).toNat / 256)
      (.blk bs)) (corePath c) = 0 := by
    unfold State.writeResult State.lastAnswer
    rw [answers_stage, dict_firmwareBegins]
    have quiet := unanswered_lastAnswer n (corePath c)
    unfold State.lastAnswer at quiet
    rw [quiet]
  exact (svcDomWrite_judged n c k data bs loads passes _ accepts).trans (congrArg (State.svcResult _ c) gives)

end

/-! ### The calls from a program's side -/

section
variable {s : State} {c : Fin 4} (ready : CoreReady s c) (user : (s.cores[c]).privileged = false)

theorem reg_of_arch {k q : Core} (h : k.arch = q.arch) (i : Fin 16) : k.reg i = q.reg i := by unfold Core.reg; rw [arch_regs h]

include ready user

/-- What DOM_READ leaves, when its buffer can be written. -/
theorem answers_domRead {P : State → Prop} (free : bufferTrap (fun x => s.storeTrap c x 1) ((s.cores[c]).reg 2).toNat ((s.cores[c]).reg 3).toNat = none)
    (served : ∀ n k t, Entered s c n → (∀ i, k.reg i = (s.cores[c]).reg i) → Accounts (n.svcDomRead c k) t → P t) : Answers (.svcDomRead c) s P := by
  obtain ⟨n, k, entered, own, left⟩ := svc_ready s c 3 (fun s k => bufferTrap (fun a => s.storeTrap c a 1) (k.reg 2).toNat (k.reg 3).toNat)
    (fun s k => s.svcDomRead c k) ready user fun m ha => by
      simp only [ha.storeTrap, ha.reg]
      exact free
  exact ⟨_, rfl, served n k _ entered (reg_of_arch own) left⟩

/-- What DOM_WRITE leaves, when its buffer can be read. -/
theorem answers_domWrite {P : State → Prop} (free : bufferTrap (fun x => s.loadTrap c x 1) ((s.cores[c]).reg 2).toNat ((s.cores[c]).reg 3).toNat = none)
    (served : ∀ n k t, Entered s c n → (∀ i, k.reg i = (s.cores[c]).reg i) → Accounts (n.svcDomWrite c k) t → P t) : Answers (.svcDomWrite c) s P := by
  obtain ⟨n, k, entered, own, left⟩ := svc_ready s c 4 (fun s k => bufferTrap (fun a => s.loadTrap c a 1) (k.reg 2).toNat (k.reg 3).toNat)
    (fun s k => s.svcDomWrite c k) ready user fun m ha => by
      simp only [ha.loadTrap, ha.reg]
      exact free
  exact ⟨_, rfl, served n k _ entered (reg_of_arch own) left⟩

end

/-- Behind a result that leaves the memories alone every byte is as before the call. -/
theorem sameMemory_svcResult {s n r t : State} {c : Fin 4} {v : Nat} (entered : Entered s c n) (stands : r.still = n.still)
    (left : Accounts (r.svcResult c v) t) : s.SameMemory t :=
  sameMemory_of_still (left.still.trans ((still_svcResult r c v).trans (stands.trans entered.still)))

section
variable {s : State} {c : Fin 4} (ready : CoreReady s c) (user : (s.cores[c]).privileged = false)
include ready user

/-! ### DOM_READ -/

section
variable (free : bufferTrap (fun x => s.storeTrap c x 1) ((s.cores[c]).reg 2).toNat ((s.cores[c]).reg 3).toNat = none)
include free

theorem answers_domRead_returns : Answers (.svcDomRead c) s fun t => ∃ v, Returned s c v t :=
  answers_domRead ready user free fun n k t entered _ left => by
    obtain ⟨r, v, ends, kept⟩ := svcDomRead_ends n c k
    rw [ends] at left
    exact ⟨v, returned_svcResult v entered kept left⟩

theorem answers_domRead_refused (e : Refused) (refused : s.checkRead (((s.cores[c]).reg 1).toNat / 256) = .error e) :
    Answers (.svcDomRead c) s fun t => Returned s c e.code t ∧ s.SameMemory t :=
  answers_domRead ready user free fun n k t entered own left => by
    rw [svcDomRead_refused n c k e (by rw [own, entered.reads.checkRead]; exact refused)] at left
    exact ⟨returned_svcResult _ entered ((KeepsProgram.refl c n).refuse _ _) left, sameMemory_svcResult entered (still_refuse _ _ _) left⟩

theorem answers_domRead_number (r : Row) (passes : s.checkRead (((s.cores[c]).reg 1).toNat / 256) = .ok r) (number : r.ty.isBlock = false) :
    Answers (.svcDomRead c) s fun t => Returned s c abortLength t ∧ s.SameMemory t :=
  answers_domRead ready user free fun n k t entered own left => by
    rw [svcDomRead_number n c k r (by rw [own, entered.reads.checkRead]; exact passes) number] at left
    exact ⟨returned_svcResult _ entered ((KeepsProgram.refl c n).refuse _ _) left, sameMemory_svcResult entered (still_refuse _ _ _) left⟩

/-- A block's first bytes, as many as the buffer takes, lie in the buffer. -/
theorem answers_domRead_block (r : Row) (m : Space) (passes : s.checkRead (((s.cores[c]).reg 1).toNat / 256) = .ok r) (block : r.ty.isBlock = true)
    (stands : ((s.cores[c]).reg 1).toNat / 256 ≠ Key.identVendorChallenge)
    (reaches : ∀ i < ((s.cores[c]).reg 3).toNat, memoryAt c (((s.cores[c]).reg 2).toNat + i) = some m) :
    let bs := (s.readBlock (corePath c) (((s.cores[c]).reg 1).toNat / 256)).1.take ((s.cores[c]).reg 3).toNat
    Answers (.svcDomRead c) s fun t => Returned s c bs.length t ∧ ∀ i < bs.length, t.byteAt m (((s.cores[c]).reg 2).toNat + i) = bs.getD i 0 := by
  intro bs
  refine answers_domRead ready user free fun n k t entered own left => ?_
  have reads := svcDomRead_block n c k r (by rw [own, entered.reads.checkRead]; exact passes) block
  simp only [own] at reads
  rw [entered.reads.readBlock _ _ stands] at reads
  have kept := ((KeepsProgram.refl c n).readBlock (corePath c) (((s.cores[c]).reg 1).toNat / 256)).trans
    (keepsProgram_laid _ c ((s.cores[c]).reg 2).toNat bs)
  rw [reads] at left
  refine ⟨returned_svcResult _ entered kept left, fun i hi => ?_⟩
  have fits : bs.length ≤ ((s.cores[c]).reg 3).toNat := List.length_take_le _ _
  rw [(sameMemory_of_still (left.still.trans (still_svcResult _ c _))).1, byteAt_laid _ c _ bs m fun j hj => reaches j (by omega), if_pos (by omega),
    Nat.add_sub_cancel_left]

end

/-! ### DOM_WRITE -/

section
variable (free : bufferTrap (fun x => s.loadTrap c x 1) ((s.cores[c]).reg 2).toNat ((s.cores[c]).reg 3).toNat = none)
include free

theorem answers_domWrite_returns : Answers (.svcDomWrite c) s fun t => ∃ v, Returned s c v t :=
  answers_domWrite ready user free fun n k t entered _ left => by
    obtain ⟨r, v, ends, kept⟩ := svcDomWrite_ends n c k
    rw [ends] at left
    exact ⟨v, returned_svcResult v entered kept left⟩

/-- The bytes of the program's buffer. -/
def State.buffer (s : State) (c : Fin 4) (m : Space) : List Byte :=
  (List.range ((s.cores[c]).reg 3).toNat).map fun i => s.byteAt m (((s.cores[c]).reg 2).toNat + i)

omit ready user free in
/-- The monitor finds the buffer's bytes as the program left them. -/
theorem bufferBytes_entered {n : State} {k : Core} (m : Space) (entered : Entered s c n) (own : ∀ i, k.reg i = (s.cores[c]).reg i)
    (reaches : ∀ i < ((s.cores[c]).reg 3).toNat, memoryAt c (((s.cores[c]).reg 2).toNat + i) = some m) :
    n.bufferBytes c (k.reg 2).toNat (k.reg 3).toNat = (s.buffer c m, n) := by
  have memory := (sameMemory_of_still entered.still).1
  rw [own, own, bufferBytes_eq n c _ _ m reaches]
  simp only [State.buffer, memory]

theorem answers_domWrite_refused (m : Space) (e : Refused)
    (reaches : ∀ i < ((s.cores[c]).reg 3).toNat, memoryAt c (((s.cores[c]).reg 2).toNat + i) = some m)
    (refused : s.checkWrite (corePath c) (((s.cores[c]).reg 1).toNat / 256) (.bytes (s.buffer c m)) = .error e) :
    Answers (.svcDomWrite c) s fun t => Returned s c e.code t ∧ t.dict.staged = s.dict.staged :=
  answers_domWrite ready user free fun n k t entered own left => by
    rw [svcDomWrite_refused n c k e _ (bufferBytes_entered m entered own reaches) (by rw [own, entered.reads.checkWrite]; exact refused)] at left
    refine ⟨returned_svcResult _ entered ((KeepsProgram.refl c n).refuse _ _) left, ?_⟩
    rw [← entered.reads.dict, left.reads.dict]
    rfl

theorem answers_domWrite_accepted (m : Space) (bs : List Byte)
    (reaches : ∀ i < ((s.cores[c]).reg 3).toNat, memoryAt c (((s.cores[c]).reg 2).toNat + i) = some m)
    (passes : s.checkWrite (corePath c) (((s.cores[c]).reg 1).toNat / 256) (.bytes (s.buffer c m)) = .ok (.blk bs))
    (sound : s.blockRefusal (corePath c) (((s.cores[c]).reg 1).toNat / 256) bs = none)
    (noPort : transmitPortOf (((s.cores[c]).reg 1).toNat / 256) = none) :
    Answers (.svcDomWrite c) s fun t => Returned s c 0 t
      ∧ t.dict.staged = s.dict.staged.filter (fun w => !(w.path == corePath c && w.key == ((s.cores[c]).reg 1).toNat / 256))
        ++ [⟨corePath c, ((s.cores[c]).reg 1).toNat / 256, .blk bs⟩] :=
  answers_domWrite ready user free fun n k t entered own left => by
    rw [svcDomWrite_accepted n c k _ bs (bufferBytes_entered m entered own reaches) (by rw [own, entered.reads.checkWrite]; exact passes)
      (by rw [own]; exact blockRefusal_none_of entered.reads.blk _ _ _ sound) (by rw [own]; exact noPort), own] at left
    have kept : KeepsProgram c n (n.unanswered (corePath c)) := KeepsProgram.refl c n
    refine ⟨returned_svcResult _ entered ((kept.firmwareBegins _).stage _ _ _) left, ?_⟩
    have staged := staged_stage ((n.unanswered (corePath c)).firmwareBegins (((s.cores[c]).reg 1).toNat / 256)) (corePath c)
      (((s.cores[c]).reg 1).toNat / 256) bs
    rw [dict_firmwareBegins] at staged
    rw [← entered.reads.dict, left.reads.dict]
    exact staged

end

end

/-- Settles O22: each call is the monitor's work on the module as entered (`svc_ready`), whose checks answer as before the call (`Reads`) and whose
result leaves the rest of the program alone (`KeepsProgram`). -/
theorem supervisorBlocks : Obligations.SupervisorBlocks := by
  unfold Obligations.SupervisorBlocks
  intro s c ready user k p key a n back gives
  have returns : ∀ {v t}, Returned s c v t → back t := fun h => ⟨h.pc, h.user.trans user, h.reg_other⟩
  refine ⟨fun free => ⟨?_, fun e refused => ?_, fun r passes number => ?_, fun r m passes block stands reaches => ?_⟩,
    fun free => ⟨?_, fun m reaches => ⟨fun e refused => ?_, fun bs passes sound noPort => ?_⟩⟩⟩
  · exact (answers_domRead_returns ready user free).mono fun t h => returns h.choose_spec
  · exact (answers_domRead_refused ready user free e refused).mono fun t h => ⟨returns h.1, h.1.reg_same, h.2⟩
  · exact (answers_domRead_number ready user free r passes number).mono fun t h => ⟨h.1.reg_same, h.2⟩
  · exact (answers_domRead_block ready user free r m passes block stands reaches).mono fun t h => ⟨returns h.1, h.1.reg_same, h.2⟩
  · exact (answers_domWrite_returns ready user free).mono fun t h => returns h.choose_spec
  · exact (answers_domWrite_refused ready user free m e reaches refused).mono fun t h => ⟨h.1.reg_same, h.2⟩
  · exact (answers_domWrite_accepted ready user free m bs reaches passes sound noPort).mono fun t h => ⟨returns h.1, h.1.reg_same, h.2⟩

end Sys2Proof.Machine
end

section
/-! SUPPORT. Sensor channels and converter cores, update by update; scan due times, on-demand requests and the start of a slot (R157, R178-R182,
R190, R196): the lemmas behind `Obligations.SensorSlots`. -/

namespace Sys2Proof.Machine

open Sys2Proof

/-! ### The front end's keys, channels and cores -/

theorem key_ne {i j k l : Nat} (h : i ≠ k ∨ j ≠ l := by omega) (hj : j < 256 := by omega) (hl : l < 256 := by omega) : i * 256 + j ≠ k * 256 + l := by omega

/-- The front end's objects hold none of the counts that events move. -/
theorem front_not_event {i j : Nat} (lo : 0x2400 ≤ i := by omega) (hi : i < 0x2A00 := by omega) (hj : j < 256 := by omega) :
    i * 256 + j ∉ eventKeys := by
  have off : ∀ k ∈ eventKeys, k < 0x2400 * 256 ∨ 0x2A00 * 256 ≤ k := by decide
  intro event
  have := off _ event
  omega

theorem channel_setChannel (s : State) (n m : Fin 64) (f : Channel → Channel) :
    (s.setChannel n f).front.channels[m] = if n = m then f s.front.channels[m] else s.front.channels[m] := by
  simp only [State.setChannel, Fin.getElem_fin, Vector.getElem_set, Fin.ext_iff]
  split
  · rename_i h; simp only [h]
  · rfl
@[simp] theorem channel_setChannel_same (s : State) (n : Fin 64) (f : Channel → Channel) :
    (s.setChannel n f).front.channels[n] = f s.front.channels[n] := (channel_setChannel s n n f).trans (if_pos rfl)

theorem converter_setConverter (s : State) (v w : Fin 8) (f : Converter → Converter) :
    (s.setConverter v f).front.converters[w] = if v = w then f s.front.converters[w] else s.front.converters[w] := by
  simp only [State.setConverter, Fin.getElem_fin, Vector.getElem_set, Fin.ext_iff]
  split
  · rename_i h; simp only [h]
  · rfl
@[simp] theorem converter_setConverter_same (s : State) (v : Fin 8) (f : Converter → Converter) :
    (s.setConverter v f).front.converters[v] = f s.front.converters[v] := (converter_setConverter s v v f).trans (if_pos rfl)

@[simp] theorem converters_setChannel (s : State) (n : Fin 64) (f : Channel → Channel) : (s.setChannel n f).front.converters = s.front.converters := rfl
@[simp] theorem channels_setConverter (s : State) (v : Fin 8) (f : Converter → Converter) : (s.setConverter v f).front.channels = s.front.channels := rfl

/-- Two updates of a channel are one. -/
theorem setChannel_setChannel (s : State) (n : Fin 64) (f g : Channel → Channel) :
    (s.setChannel n f).setChannel n g = s.setChannel n fun c => g (f c) := by
  have seen : (s.setChannel n f).front.channels[n] = f s.front.channels[n] := channel_setChannel_same s n f
  unfold State.setChannel at seen ⊢
  rw [seen]
  simp only [Vector.set_set]
/-- Of an update only what it makes of the channel as it stands counts. -/
theorem setChannel_congr {s : State} {n : Fin 64} {f g : Channel → Channel} (h : f s.front.channels[n] = g s.front.channels[n]) :
    s.setChannel n f = s.setChannel n g := by
  unfold State.setChannel
  rw [h]

/-- The place of a channel on its core (R153). -/
def slotIndex (n : Fin 64) : Fin 8 := ⟨n.val % 8, by omega⟩

theorem coreOfChannel_channelOf (v i : Fin 8) : coreOfChannel (channelOf v i) = v := by revert v i; decide
theorem channelOf_slotIndex (n : Fin 64) : channelOf (coreOfChannel n) (slotIndex n) = n := by revert n; decide
theorem channelOf_ne (n : Fin 64) (i : Fin 8) (h : i ≠ slotIndex n) : channelOf (coreOfChannel n) i ≠ n := by revert n i; decide

/-- A fold over a core's channels in which one alone does anything. -/
theorem foldl_finRange_only {σ : Type} {k : Nat} (f : σ → Fin k → σ) (i : Fin k) (s r : σ) (here : f s i = r) (before : ∀ j, j ≠ i → f s j = s)
    (after : ∀ j, j ≠ i → f r j = r) : (List.finRange k).foldl f s = r := by
  have idle : ∀ (t : σ) (l : List (Fin k)), (∀ j ∈ l, f t j = t) → l.foldl f t = t := by
    intro t l
    induction l with
    | nil => exact fun _ => rfl
    | cons x l ih =>
      intro h
      rw [List.foldl_cons, h x List.mem_cons_self]
      exact ih fun j hj => h j (List.mem_cons_of_mem _ hj)
  obtain ⟨a, b, split, ha⟩ := List.eq_append_cons_of_mem (List.mem_finRange i)
  have once := List.nodup_finRange k
  rw [split, List.nodup_middle, List.nodup_cons, List.mem_append, not_or] at once
  rw [split, List.foldl_append, List.foldl_cons, idle s a fun j hj => before j (ne_of_mem_of_not_mem hj ha), here]
  exact idle r b fun j hj => after j (ne_of_mem_of_not_mem hj once.1.2)

/-! ### Commands of the front end -/

theorem answers_served {c : Instr} {s : State} {f : State → State} {P : State → Prop} (e : exec c s = .next (s.served f)) (runs : s.clocksRun = true)
    (h : P (f s)) : Answers c s P := ⟨f s, e.trans (congrArg Host.Outcome.next (if_pos runs)), h⟩

/-- A core that has a slot under way takes no other. -/
theorem serveCore_busy {s : State} {v : Fin 8} (busy : (s.front.converters[v]).slot.isSome = true) : s.serveCore v = s := by
  unfold State.serveCore
  dsimp only
  rw [if_pos (by rw [busy]; rfl)]

/-! ### Scan due times and requests (R178-R182, R189) -/

section
variable {s : State} {n : Fin 64} {t : Nat}

/-- What is pending after a scan due time at `t`. -/
def dueTaken (t : Nat) : Option Due → Due
  | none => ⟨t, 0, false, false, true, false⟩
  | some d => d.merge t

/-- The channel takes up a scan due time. -/
def Channel.fallsDue (t : Nat) (c : Channel) : Channel := { c with lastScan := some t, due := some (dueTaken t c.due) }

/-- A blanking source that holds the channel delays what is pending (R174). -/
def State.delayedIfBlanked (s : State) (n : Fin 64) : State := if s.blanked n.val then s.markDelayed n (s.blankerOf n.val) else s

theorem delayedIfBlanked_blanked (h : s.blanked n.val = true) : s.delayedIfBlanked n = s.markDelayed n (s.blankerOf n.val) := if_pos h
theorem delayedIfBlanked_free (h : s.blanked n.val = false) : s.delayedIfBlanked n = s := if_neg (by rw [h]; decide)
theorem get_delayedIfBlanked (k : Nat) : (s.delayedIfBlanked n).get k = s.get k := by
  unfold State.delayedIfBlanked
  split
  · rfl
  · rfl
theorem converters_delayedIfBlanked : (s.delayedIfBlanked n).front.converters = s.front.converters := by
  unfold State.delayedIfBlanked
  split
  · rfl
  · rfl
theorem delayedIfBlanked_ash : (s.delayedIfBlanked n).ash = s.ash := by
  unfold State.delayedIfBlanked
  split
  · rfl
  · rfl
/-- A delay leaves a starved channel's marks. -/
theorem delayedIfBlanked_marks : ((s.delayedIfBlanked n).front.channels[n]).ignoreBlank = (s.front.channels[n]).ignoreBlank
    ∧ ((s.delayedIfBlanked n).front.channels[n]).starvedLogged = (s.front.channels[n]).starvedLogged := by
  unfold State.delayedIfBlanked
  split
  · unfold State.markDelayed
    rw [channel_setChannel_same]
    exact ⟨rfl, rfl⟩
  · exact ⟨rfl, rfl⟩

theorem starve_front : (s.starve n).front = (s.setChannel n fun c => { c with ignoreBlank := true, starvedLogged := true }).front := by
  unfold State.starve
  dsimp only
  split
  · rfl
  · exact log_front _ _ _ _ _ _
theorem get_starve {k : Nat} (h : k ∉ eventKeys) : (s.starve n).get k = s.get k := by
  unfold State.starve
  dsimp only
  split
  · rfl
  · exact get_log _ _ _ _ _ _ _ h

/-- A channel that takes up a scan due time is starved where blanking kept the one before from completing. -/
theorem scanDueOne_eq (live : chanLive s.get n.val = true) (period : s.nat (Key.chanScanPeriod n.val) ≠ 0)
    (fresh : (s.front.channels[n]).lastScan ≠ some t) : s.scanDueOne n t =
      (if (s.front.channels[n]).due.any (fun d => d.scan && d.held) then (s.setChannel n (Channel.fallsDue t)).starve n
        else s.setChannel n (Channel.fallsDue t)).delayedIfBlanked n := by
  have taken : ¬(chanLive s.get n.val = false ∨ s.nat (Key.chanScanPeriod n.val) = 0 ∨ (s.front.channels[n]).lastScan = some t) :=
    not_or.2 ⟨by rw [live]; decide, not_or.2 ⟨period, fresh⟩⟩
  refine (if_neg taken).trans ?_
  cases pending : (s.front.channels[n]).due with
  | none =>
    have falls : s.setChannel n (Channel.fallsDue t) = (s.setChannel n fun c => { c with lastScan := some t }).setChannel n fun c =>
        { c with due := some ⟨t, 0, false, false, true, false⟩ } := by
      rw [setChannel_setChannel]
      exact setChannel_congr (by simp only [Channel.fallsDue, pending, dueTaken])
    rw [falls]
    rfl
  | some d =>
    have falls : s.setChannel n (Channel.fallsDue t) = (s.setChannel n fun c => { c with lastScan := some t }).setChannel n fun c =>
        { c with due := some (d.merge t) } := by
      rw [setChannel_setChannel]
      exact setChannel_congr (by simp only [Channel.fallsDue, pending, dueTaken])
    rw [falls]
    rfl

theorem get_scanDueOne {k : Nat} (h : k ∉ eventKeys) : (s.scanDueOne n t).get k = s.get k := by
  by_cases taken : chanLive s.get n.val = false ∨ s.nat (Key.chanScanPeriod n.val) = 0 ∨ (s.front.channels[n]).lastScan = some t
  · unfold State.scanDueOne
    dsimp only
    rw [if_pos taken]
  · rw [not_or, not_or] at taken
    obtain ⟨live, period, fresh⟩ := taken
    rw [scanDueOne_eq (by simpa using live) period fresh, get_delayedIfBlanked]
    split
    · exact get_starve h
    · rfl

theorem dueAt_of {a b : State} (m : Fin 64) (u : Nat) (h : ∀ k, k ∉ eventKeys → a.get k = b.get k) : a.dueAt m u = b.dueAt m u := by
  unfold State.dueAt
  rw [nat_of (h _ front_not_event), nat_of (h _ front_not_event)]

/-- What a scan due time of channel `n` at `t` asks of the channel at place `i` of its core. -/
def State.scanPlace (n : Fin 64) (t : Nat) (s : State) (i : Fin 8) : State :=
  if channelOf (coreOfChannel n) i = n || s.dueAt (channelOf (coreOfChannel n) i) t then s.scanDueOne (channelOf (coreOfChannel n) i) t else s

theorem scanDue_scanning (scanning : s.front.scanning = true) :
    s.scanDue n t = ((List.finRange 8).foldl (State.scanPlace n t) (s.senseAt t)).serveCore (coreOfChannel n) :=
  if_neg (by rw [scanning]; decide)

theorem scanPlace_own : s.scanPlace n t (slotIndex n) = s.scanDueOne n t := by
  unfold State.scanPlace
  rw [channelOf_slotIndex, if_pos (by rw [decide_eq_true rfl]; rfl)]
theorem scanPlace_other {i : Fin 8} (hi : i ≠ slotIndex n) (later : s.dueAt (channelOf (coreOfChannel n) i) t = false) : s.scanPlace n t i = s := by
  unfold State.scanPlace
  rw [later, decide_eq_false (channelOf_ne n i hi)]
  exact if_neg (by decide)

/-- A scan due time of one channel alone (R178), which its core then serves. -/
theorem scanDue_alone (scanning : s.front.scanning = true)
    (others : ∀ m : Fin 64, coreOfChannel m = coreOfChannel n → m ≠ n → s.dueAt m t = false) :
    s.scanDue n t = ((s.senseAt t).scanDueOne n t).serveCore (coreOfChannel n) := by
  have later : ∀ i, i ≠ slotIndex n → s.dueAt (channelOf (coreOfChannel n) i) t = false := fun i hi =>
    others _ (coreOfChannel_channelOf _ _) (channelOf_ne n i hi)
  have alone : (List.finRange 8).foldl (State.scanPlace n t) (s.senseAt t) = (s.senseAt t).scanDueOne n t :=
    foldl_finRange_only _ (slotIndex n) _ _ scanPlace_own (fun i hi => scanPlace_other hi (later i hi)) fun i hi =>
      scanPlace_other hi ((dueAt_of _ _ fun k hk => get_scanDueOne hk).trans (later i hi))
  rw [scanDue_scanning scanning, alone]

end

end Sys2Proof.Machine
end

section
/-! SUPPORT. What waits while a core's slot runs, and the slot that an idle core takes (R157, R178-R182, R190, R196): `Obligations.SensorSlots`. -/

namespace Sys2Proof.Machine

open Sys2Proof

/-! ### While the core's slot runs (R178-R182, R189) -/

section
variable {s : State} {n : Fin 64} {t : Nat}

theorem scanDueOne_quiet (live : chanLive s.get n.val = true) (period : s.nat (Key.chanScanPeriod n.val) ≠ 0)
    (fresh : (s.front.channels[n]).lastScan ≠ some t) (quiet : (s.front.channels[n]).due.any (fun d => d.scan && d.held) = false) :
    s.scanDueOne n t = (s.setChannel n (Channel.fallsDue t)).delayedIfBlanked n := by
  rw [scanDueOne_eq live period fresh, if_neg (by rw [quiet]; decide)]
theorem scanDueOne_starved (live : chanLive s.get n.val = true) (period : s.nat (Key.chanScanPeriod n.val) ≠ 0)
    (fresh : (s.front.channels[n]).lastScan ≠ some t) (starved : (s.front.channels[n]).due.any (fun d => d.scan && d.held) = true) :
    s.scanDueOne n t = ((s.setChannel n (Channel.fallsDue t)).starve n).delayedIfBlanked n := by
  rw [scanDueOne_eq live period fresh, if_pos starved]

theorem scanDueOne_converters (s : State) (n : Fin 64) (t : Nat) : (s.scanDueOne n t).front.converters = s.front.converters := by
  by_cases taken : chanLive s.get n.val = false ∨ s.nat (Key.chanScanPeriod n.val) = 0 ∨ (s.front.channels[n]).lastScan = some t
  · exact congrArg (fun u => u.front.converters) (show s.scanDueOne n t = s from if_pos taken)
  · rw [not_or, not_or] at taken
    obtain ⟨live, period, fresh⟩ := taken
    rw [scanDueOne_eq (by simpa using live) period fresh, converters_delayedIfBlanked]
    split
    · rw [starve_front]
      rfl
    · rfl

/-- While the core's slot runs a scan due time waits. -/
theorem scanDue_waits (busy : (s.front.converters[coreOfChannel n]).slot.isSome = true) (scanning : s.front.scanning = true)
    (others : ∀ m : Fin 64, coreOfChannel m = coreOfChannel n → m ≠ n → s.dueAt m t = false) : s.scanDue n t = (s.senseAt t).scanDueOne n t := by
  rw [scanDue_alone scanning others]
  refine serveCore_busy ?_
  rw [scanDueOne_converters]
  exact busy

/-- A starved channel ignores blanking and is logged once, under the source that last held it. -/
theorem starve_logs (once : (s.front.channels[n]).starvedLogged = false) (opened : s.logOpen) :
    (s.starve n).lastLogged 0x0304 n.val n.val (s.front.channels[n]).lastBlank := by
  unfold State.starve
  dsimp only
  rw [if_neg (by rw [once]; decide)]
  exact lastLogged_log _ _ _ _ _ _ opened

theorem lastLogged_of {a b : State} {code source w4 w5 w6 : Nat} (ash : b.ash = a.ash) (h : a.lastLogged code source w4 w5 w6) :
    b.lastLogged code source w4 w5 w6 := by
  unfold State.lastLogged
  rw [ash]
  exact h

/-- An on-demand request on a channel that nothing blanks, while the core's slot runs. -/
theorem demandConversion_waits (busy : (s.front.converters[coreOfChannel n]).slot.isSome = true) (free : s.blanked n.val = false) :
    s.demandConversion n t = s.setChannel n fun c => { c with due := some (match c.due with
      | none => ⟨t, 0, false, false, false, false⟩
      | some d => { d with at_ := min d.at_ t }) } := by
  have waits : ∀ f : Channel → Channel, (State.delayedIfBlanked (s.setChannel n f) n).serveCore (coreOfChannel n) = s.setChannel n f := fun f => by
    rw [delayedIfBlanked_free (s := s.setChannel n f) free]
    exact serveCore_busy busy
  unfold State.demandConversion
  cases pending : (s.front.channels[n]).due with
  | none => exact (waits _).trans (setChannel_congr (by rw [pending]))
  | some d => exact (waits _).trans (setChannel_congr (by rw [pending]))

theorem blanked_of {a b : State} (m : Fin 64) (values : ∀ k, k ∉ eventKeys → a.get k = b.get k) (front : a.front = b.front) :
    a.blanked m.val = b.blanked m.val := by
  unfold State.blanked State.blankMask State.blanking blankMaskOf View.nat
  rw [front, values _ front_not_event, values _ front_not_event, values _ front_not_event]

end

/-- The waiting clauses: a due time or a request beside a slot under way. -/
theorem answers_scanDue_waits {s : State} {n : Fin 64} {t : Nat} {P : State → Prop} (runs : s.clocksRun = true)
    (busy : (s.front.converters[coreOfChannel n]).slot.isSome = true) (scanning : s.front.scanning = true)
    (others : ∀ m : Fin 64, coreOfChannel m = coreOfChannel n → m ≠ n → s.dueAt m t = false) (h : P ((s.senseAt t).scanDueOne n t)) :
    Answers (.scanDue n t) s P := by
  refine ⟨_, congrArg Host.Outcome.next (if_pos (.inl runs)), ?_⟩
  rw [scanDue_waits busy scanning others]
  exact h

section
variable {s : State} {n : Fin 64} {t : Nat} (live : chanLive s.get n.val = true) (period : s.nat (Key.chanScanPeriod n.val) ≠ 0)
  (fresh : (s.front.channels[n]).lastScan ≠ some t)
include live period fresh

/-- A due time on a channel that nothing blanks and that is not starved. -/
theorem scanDueOne_taken (free : s.blanked n.val = false) (quiet : (s.front.channels[n]).due.any (fun d => d.scan && d.held) = false) (d : Due)
    (taken : dueTaken t (s.front.channels[n]).due = d) :
    (s.senseAt t).scanDueOne n t = (s.senseAt t).setChannel n fun c => { c with lastScan := some t, due := some d } := by
  have one := scanDueOne_quiet (s := s.senseAt t) live period fresh quiet
  rw [delayedIfBlanked_free (s := (s.senseAt t).setChannel n (Channel.fallsDue t)) free] at one
  rw [one, ← taken]
  exact setChannel_congr rfl

/-- A due time on a blanked channel with nothing pending. -/
theorem scanDueOne_delayed (blanked : s.blanked n.val = true) (idle : (s.front.channels[n]).due = none) :
    (s.senseAt t).scanDueOne n t = (s.senseAt t).setChannel n fun c =>
      { c with lastScan := some t, due := some ⟨t, 0, false, true, true, false⟩, lastBlank := s.blankerOf n.val } := by
  have one := scanDueOne_quiet (s := s.senseAt t) live period fresh (by rw [show ((s.senseAt t).front.channels[n]).due = none from idle]; rfl)
  rw [delayedIfBlanked_blanked (s := (s.senseAt t).setChannel n (Channel.fallsDue t)) blanked] at one
  rw [one]
  unfold State.markDelayed
  rw [setChannel_setChannel]
  refine setChannel_congr ?_
  unfold Channel.fallsDue
  rw [show ((s.senseAt t).front.channels[n]).due = none from idle]
  rfl

/-- A second due time on a channel that blanking has kept from completing the first (R189). -/
theorem scanDueOne_starves (starved : (s.front.channels[n]).due.any (fun d => d.scan && d.held) = true) :
    (((s.senseAt t).scanDueOne n t).front.channels[n]).ignoreBlank = true ∧ (((s.senseAt t).scanDueOne n t).front.channels[n]).starvedLogged = true
      ∧ ((s.front.channels[n]).starvedLogged = false → s.logOpen →
        ((s.senseAt t).scanDueOne n t).lastLogged 0x0304 n.val n.val (s.front.channels[n]).lastBlank) := by
  rw [scanDueOne_starved (s := s.senseAt t) live period fresh starved, delayedIfBlanked_marks.1, delayedIfBlanked_marks.2, starve_front,
    channel_setChannel_same]
  have channel := channel_setChannel_same (s.senseAt t) n (Channel.fallsDue t)
  refine ⟨rfl, rfl, fun once opened => lastLogged_of delayedIfBlanked_ash ?_⟩
  have logs := starve_logs (s := (s.senseAt t).setChannel n (Channel.fallsDue t)) (n := n) (by rw [channel]; exact once) opened
  rw [channel] at logs
  exact logs

end

/-! ### The slot an idle core takes (R157, R178-R182, R190, R196) -/

section
variable {s : State} {v : Fin 8} {n : Fin 64}

/-- The one channel of its core that is eligible comes next (R179). -/
theorem nextChannel_only (able : s.eligible n = true) (others : ∀ m : Fin 64, coreOfChannel m = coreOfChannel n → m ≠ n → s.eligible m = false) :
    s.nextChannel (coreOfChannel n) = some (n, ((s.front.channels[n]).due.map fun d => d.at_).getD 0) := by
  have idle : ∀ i, i ≠ slotIndex n → ¬s.eligible (channelOf (coreOfChannel n) i) = true := fun i hi => by
    rw [others _ (coreOfChannel_channelOf _ _) (channelOf_ne n i hi)]
    decide
  have here : ∀ m, m = n → (if s.eligible m = true then some (m, ((s.front.channels[m]).due.map fun d => d.at_).getD 0) else none) =
      some (n, ((s.front.channels[n]).due.map fun d => d.at_).getD 0) := by
    rintro _ rfl
    exact if_pos able
  exact foldl_finRange_only _ (slotIndex n) none _ (here _ (channelOf_slotIndex n)) (fun i hi => if_neg (idle i hi)) fun i hi => if_neg (idle i hi)

theorem markHeld_none {taken : Option (Fin 64 × Nat)} (h : ∀ i : Fin 8, s.heldBack taken (channelOf v i) = false) : s.markHeld v taken = s :=
  List.foldl_fixed' (fun i => if_neg (by rw [h i]; decide)) _

/-- A core idle and with no reference check due takes the channel that comes next. -/
theorem serveCore_starts {d : Nat} (idle : (s.front.converters[v]).slot = none) (free : (s.front.converters[v]).refRunning = false)
    (noRef : (s.front.converters[v]).refDue = none) (scans : s.canScan = true) (held : s.markHeld v (s.nextChannel v) = s)
    (next : s.nextChannel v = some (n, d)) : s.serveCore v = s.startSlot v n := by
  unfold State.serveCore
  dsimp only
  rw [if_neg (by rw [idle, free, scans]; decide), held, next, noRef]

/-- The slot that starts for the pending `d`, on the values of its SENSE cycle (R157, R182, R190, R196). -/
def State.newSlot (s : State) (v : Fin 8) (n : Fin 64) (d : Due) : Slot :=
  let w := s.slotView n.val
  let range := (s.rangeKept n.val).getD (s.startRange n)
  { chan := n, due := { d with missed := 0 }, start := s.senseNow, mask := blankMaskOf w n.val, leadCheck := w.nat (Key.coefLeadCheck n.val) != 0,
    range := range, kind := w.nat (Key.chanSensorType n.val), lead := w.nat (Key.chanLeadMode n.val), convs := convsOf w n.val,
    convUs := convUsOf (w.nat (Key.chanConversionTime n.val)), auto := w.nat (Key.chanRangeMode n.val) == 0,
    downCount := w.nat (Key.chanDownRangeCount n.val),
    dual := w.nat (Key.chanSensorType n.val) == 6 && w.nat (Key.chanIMPSecondFrequency n.val) != 0xFF, phase := 0, retaken := false, first := none,
    openSeen := false, clipSeen := false, stale := d.late, unblanked := (s.front.channels[n]).ignoreBlank,
    length := max (settleUs w n.val) (if (s.front.converters[v]).lastGain = some range then 0 else 20), frozen := frozenSet w n.val, discard := false }

theorem startSlot_front {d : Due} (pending : (s.front.channels[n]).due = some d) : (s.startSlot v n).front =
    ((s.setConverter v fun k => { k with slot := some (s.newSlot v n d) }).setChannel n fun c =>
      { c with due := none, rangeReset := (s.rangeKept n.val).isSome, leadFail := false }).front := by
  unfold State.startSlot
  dsimp only
  rw [pending]
  dsimp only
  rw [State.putN_front]
  split
  · rfl
  · rfl

theorem startSlot_rangeNow {d : Due} (pending : (s.front.channels[n]).due = some d) : (s.startSlot v n).nat (Key.chanRangeNow n.val) =
    if (s.rangeKept n.val).isSome then s.nat (Key.chanRangeNow n.val) else (s.rangeKept n.val).getD (s.startRange n) := by
  unfold State.startSlot
  dsimp only
  rw [pending]
  dsimp only
  rw [nat_putN_of_ne _ _ _ _ key_ne]
  split
  · rfl
  · exact State.nat_putN_same _ _ _

end

end Sys2Proof.Machine
end

section
/-! SUPPORT. `Obligations.SensorSlots`: the slot of an idle core, clause by clause. -/

namespace Sys2Proof.Machine

open Sys2Proof

/-! ### The one channel due on an idle core (R178-R182, R190, R196) -/

section
variable {s : State} {n : Fin 64} {t : Nat}

/-- The state in which channel `n` alone has fallen due at `t`. -/
def State.dueNow (s : State) (n : Fin 64) (t : Nat) : State :=
  (s.senseAt t).setChannel n fun c => { c with lastScan := some t, due := some ⟨t, 0, false, false, true, false⟩ }

theorem dueNow_channel : (s.dueNow n t).front.channels[n] =
    { s.front.channels[n] with lastScan := some t, due := some ⟨t, 0, false, false, true, false⟩ } := channel_setChannel_same _ _ _
theorem dueNow_other {m : Fin 64} (h : m ≠ n) : (s.dueNow n t).front.channels[m] = s.front.channels[m] :=
  (channel_setChannel _ _ _ _).trans (if_neg h.symm)
theorem dueNow_due : ((s.dueNow n t).front.channels[n]).due = some ⟨t, 0, false, false, true, false⟩ := congrArg Channel.due dueNow_channel
theorem dueNow_startRange : (s.dueNow n t).startRange n = s.startRange n := by
  unfold State.startRange
  rw [dueNow_channel]
  rfl

theorem eligible_none (h : (s.front.channels[n]).due = none) : s.eligible n = false := by
  unfold State.eligible
  dsimp only
  rw [h]
  rfl
theorem eligible_pending (pending : (s.front.channels[n]).due.isSome = true) (live : chanLive s.get n.val = true) (free : s.blanked n.val = false)
    (type : s.nat (Key.chanSensorType n.val) ≠ 5) : s.eligible n = true := by
  unfold State.eligible
  dsimp only
  rw [pending, live, free, bne_iff_ne.2 type]
  simp
theorem heldBack_none {taken : Option (Fin 64 × Nat)} (h : (s.front.channels[n]).due = none) : s.heldBack taken n = false := by
  unfold State.heldBack
  dsimp only
  rw [h]
theorem heldBack_free {taken : Option (Fin 64 × Nat)} (h : s.blanked n.val = false) : s.heldBack taken n = false := by
  unfold State.heldBack
  dsimp only
  rw [h]
  split
  · rfl
  · simp

/-- An idle core on which nothing is pending. -/
structure State.CoreIdle (s : State) (v : Fin 8) : Prop where
  slot    : (s.front.converters[v]).slot = none
  free    : (s.front.converters[v]).refRunning = false
  noRef   : (s.front.converters[v]).refDue = none
  nothing : ∀ m : Fin 64, coreOfChannel m = v → (s.front.channels[m]).due = none

theorem scanDue_starts (live : chanLive s.get n.val = true) (scans : s.canScan = true) (period : s.nat (Key.chanScanPeriod n.val) ≠ 0)
    (type : s.nat (Key.chanSensorType n.val) ≠ 5) (free : s.blanked n.val = false) (idle : s.CoreIdle (coreOfChannel n))
    (fresh : (s.front.channels[n]).lastScan ≠ some t)
    (others : ∀ m : Fin 64, coreOfChannel m = coreOfChannel n → m ≠ n → s.dueAt m t = false) :
    s.scanDue n t = (s.dueNow n t).startSlot (coreOfChannel n) n := by
  have scanning : s.front.scanning = true := by
    unfold State.canScan at scans
    simp only [Bool.and_eq_true] at scans
    exact scans.1.2
  have noDue := idle.nothing n rfl
  have taken : (s.senseAt t).scanDueOne n t = s.dueNow n t :=
    scanDueOne_taken live period fresh free (by rw [noDue]; rfl) _ (by rw [noDue]; rfl)
  have nothing : ∀ m : Fin 64, coreOfChannel m = coreOfChannel n → m ≠ n → ((s.dueNow n t).front.channels[m]).due = none := fun m hm hn => by
    rw [dueNow_other hn]
    exact idle.nothing m hm
  have able : (s.dueNow n t).eligible n = true := eligible_pending (by rw [dueNow_due]; rfl) live free type
  have next := nextChannel_only able fun m hm hn => eligible_none (nothing m hm hn)
  have held : ∀ i taken, (s.dueNow n t).heldBack taken (channelOf (coreOfChannel n) i) = false := fun i taken => by
    by_cases own : channelOf (coreOfChannel n) i = n
    · rw [own]
      exact heldBack_free free
    · exact heldBack_none (nothing _ (coreOfChannel_channelOf _ _) own)
  rw [scanDue_alone scanning others, taken]
  exact serveCore_starts idle.slot idle.free idle.noRef scans (markHeld_none fun i => held i _) next

theorem answers_scanDue_starts (runs : s.clocksRun = true) (live : chanLive s.get n.val = true) (scans : s.canScan = true)
    (period : s.nat (Key.chanScanPeriod n.val) ≠ 0) (type : s.nat (Key.chanSensorType n.val) ≠ 5) (free : s.blanked n.val = false)
    (idle : s.CoreIdle (coreOfChannel n)) (fresh : (s.front.channels[n]).lastScan ≠ some t)
    (others : ∀ m : Fin 64, coreOfChannel m = coreOfChannel n → m ≠ n → s.dueAt m t = false) :
    let before := overlayView s.get s.front.replaced
    let w := if s.front.laidAt = max t s.tickTime ∧ chanLive before n.val = true then before else s.get
    Answers (.scanDue n t) s fun u => (u.front.channels[n]).due = none
      ∧ ∃ sl, (u.front.converters[coreOfChannel n]).slot = some sl ∧ sl.chan = n ∧ sl.due.at_ = t ∧ sl.phase = 0 ∧ sl.stale = false
        ∧ sl.convs = convsOf w n.val ∧ sl.mask = blankMaskOf w n.val ∧ sl.frozen = frozenSet w n.val
        ∧ (s.front.laidAt ≠ max t s.tickTime → u.nat (Key.chanRangeNow n.val) = s.startRange n ∧ sl.range = s.startRange n)
        ∧ ∀ e, s.front.laidAt = max t s.tickTime → chanLive before n.val = true →
            s.front.replaced.find? (fun e => e.1 == Key.chanRangeNow n.val) = some e →
            sl.range = e.2.toNat ∧ u.nat (Key.chanRangeNow n.val) = s.nat (Key.chanRangeNow n.val) := by
  intro before w
  have view : (s.dueNow n t).slotView n.val = w := by
    unfold State.slotView w
    simp only [Bool.and_eq_true, decide_eq_true_eq]
    rfl
  have now : (s.dueNow n t).rangeKept n.val = if (s.front.laidAt = max t s.tickTime && chanLive before n.val) = true then
      (s.front.replaced.find? fun e => e.1 == Key.chanRangeNow n.val).map fun e => e.2.toNat else none := rfl
  have front := startSlot_front (v := coreOfChannel n) (dueNow_due (s := s) (n := n) (t := t))
  have range := startSlot_rangeNow (v := coreOfChannel n) (dueNow_due (s := s) (n := n) (t := t))
  refine ⟨_, congrArg Host.Outcome.next (if_pos (.inl runs)), ?_⟩
  rw [scanDue_starts live scans period type free idle fresh others]
  dsimp only
  rw [front, range, dueNow_startRange, channel_setChannel_same]
  refine ⟨rfl, (s.dueNow n t).newSlot (coreOfChannel n) n ⟨t, 0, false, false, true, false⟩, ?_, rfl, rfl, rfl, rfl, ?_, ?_, ?_, fun none_ => ?_,
    fun e laid was found => ?_⟩
  · rw [converters_setChannel, converter_setConverter_same]
  · exact congrArg (fun w => convsOf w n.val) view
  · exact congrArg (fun w => blankMaskOf w n.val) view
  · exact congrArg (fun w => frozenSet w n.val) view
  · rw [if_neg (by simp [none_])] at now
    unfold State.newSlot
    dsimp only
    rw [now, dueNow_startRange]
    exact ⟨rfl, rfl⟩
  · rw [if_pos (by simp [laid, was]), found] at now
    unfold State.newSlot
    dsimp only
    rw [now]
    exact ⟨rfl, rfl⟩

end

end Sys2Proof.Machine
end

section
/-! SUPPORT. What serving idle cores leaves alone (`Schedules`, R179, R192), and `Obligations.SensorSlots`. -/

namespace Sys2Proof.Machine

open Sys2Proof

/-! ### Idle cores take what they can -/

/-- From `s` to `t` idle cores have taken what they can: nothing but the range and the missed due times of channels, what is pending, and what the
idle cores do. -/
structure Schedules (s t : State) : Prop where
  rest    : t = { s with obj := t.obj, front := t.front }
  front   : t.front = { s.front with channels := t.front.channels, converters := t.front.converters }
  results : ∀ n : Fin 64, (t.front.channels[n]).result = (s.front.channels[n]).result
  running : ∀ v : Fin 8, (s.front.converters[v]).slot.isSome = true → t.front.converters[v] = s.front.converters[v]
  values  : ∀ i j, j < 256 → ¬(0x2400 ≤ i ∧ i < 0x2440 ∧ (j = 0x17 ∨ j = 0x20)) → t.get (i * 256 + j) = s.get (i * 256 + j)

section
variable {s m t : State}

theorem Schedules.refl (s : State) : Schedules s s := ⟨rfl, rfl, fun _ => rfl, fun _ _ => rfl, fun _ _ _ _ => rfl⟩
theorem Schedules.trans (h : Schedules s m) (g : Schedules m t) : Schedules s t where
  rest := by
    conv_lhs => rw [g.rest, h.rest]
  front := by
    conv_lhs => rw [g.front, h.front]
  results n := (g.results n).trans (h.results n)
  running v busy := (g.running v (by rw [h.running v busy]; exact busy)).trans (h.running v busy)
  values i j hj hk := (g.values i j hj hk).trans (h.values i j hj hk)
theorem Schedules.pending (h : Schedules s t) : t.pending = s.pending := by
  conv_lhs => rw [h.rest]
theorem Schedules.clock (h : Schedules s t) : t.clock = s.clock := by
  conv_lhs => rw [h.rest]
theorem Schedules.ash (h : Schedules s t) : t.ash = s.ash := by
  conv_lhs => rw [h.rest]
theorem Schedules.foldl {α : Type} (f : State → α → State) (l : List α) (s : State) (hf : ∀ m x, Schedules m (f m x)) : Schedules s (l.foldl f s) := by
  induction l generalizing s with
  | nil => exact .refl s
  | cons x l ih => exact (hf s x).trans (ih _)
theorem Schedules.putN (h : Schedules s m) (i j v : Nat) (hk : 0x2400 ≤ i ∧ i < 0x2440 ∧ (j = 0x17 ∨ j = 0x20)) : Schedules s (m.putN (i * 256 + j) v) where
  rest := by
    conv_lhs => rw [h.rest]
    rfl
  front := h.front
  results := h.results
  running := h.running
  values k l hl off := (State.get_put_other _ _ _ _ key_ne).trans (h.values k l hl off)
theorem Schedules.setChannel (h : Schedules s m) (n : Fin 64) (f : Channel → Channel) (hf : (f m.front.channels[n]).result = (m.front.channels[n]).result) :
    Schedules s (m.setChannel n f) where
  rest := by
    conv_lhs => rw [h.rest]
    rfl
  front := by
    unfold State.setChannel
    conv_lhs => rw [h.front]
  results q := by
    rw [← h.results q, channel_setChannel]
    split
    · rename_i same
      subst same
      exact hf
    · rfl
  running := h.running
  values := h.values
theorem Schedules.setConverter (h : Schedules s m) (v : Fin 8) (f : Converter → Converter) (idle : (s.front.converters[v]).slot = none) :
    Schedules s (m.setConverter v f) where
  rest := by
    conv_lhs => rw [h.rest]
    rfl
  front := by
    unfold State.setConverter
    conv_lhs => rw [h.front]
  results := h.results
  running w busy := by
    have other : v ≠ w := by
      rintro rfl
      rw [idle] at busy
      cases busy
    rw [converter_setConverter, if_neg other]
    exact h.running w busy
  values := h.values

theorem schedules_markHeld (s : State) (v : Fin 8) (taken : Option (Fin 64 × Nat)) : Schedules s (s.markHeld v taken) :=
  .foldl _ _ s fun m i => by
    dsimp only
    split
    · exact (Schedules.refl m).setChannel _ _ rfl
    · exact .refl m
theorem markHeld_converters (s : State) (v : Fin 8) (taken : Option (Fin 64 × Nat)) : (s.markHeld v taken).front.converters = s.front.converters := by
  unfold State.markHeld
  generalize List.finRange 8 = l
  induction l generalizing s with
  | nil => rfl
  | cons i l ih =>
    refine (ih _).trans ?_
    dsimp only
    split
    · rfl
    · rfl

theorem Schedules.startSlot (h : Schedules s m) (v : Fin 8) (n : Fin 64) (idle : (s.front.converters[v]).slot = none) : Schedules s (m.startSlot v n) := by
  unfold State.startSlot
  dsimp only
  split
  · exact h
  · have taken := fun f g hg => (h.setConverter v f idle).setChannel n g hg
    refine Schedules.putN ?_ _ _ _ (by omega)
    split
    · exact taken _ _ rfl
    · exact (taken _ _ rfl).putN _ _ _ (by omega)

theorem schedules_serveCore (s : State) (v : Fin 8) : Schedules s (s.serveCore v) := by
  unfold State.serveCore
  dsimp only
  split
  · exact .refl s
  · rename_i able
    simp only [Bool.or_eq_true, not_or, Bool.not_eq_true, Option.isSome_eq_false_iff, Option.isNone_iff_eq_none] at able
    have idle : ((s.markHeld v (s.nextChannel v)).front.converters[v]).slot = none := by
      rw [markHeld_converters]
      exact able.1.1
    have held := Schedules.refl (s.markHeld v (s.nextChannel v))
    refine (schedules_markHeld s v (s.nextChannel v)).trans ?_
    split
    · split
      · exact held.setConverter v _ idle
      · exact held.startSlot v _ idle
    · exact held.startSlot v _ idle
    · exact held.setConverter v _ idle
    · exact held
theorem schedules_serveCores (s : State) : Schedules s s.serveCores := .foldl _ _ s schedules_serveCore

end

/-! ### The other commands of a slot (R158, R163, R180, R184, R206) -/

section
variable {s : State}

theorem answers_convertNow {p : Path} {n : Fin 64} (t : Nat) (accepted : Accepts s p (Key.chanConvertNow n.val) 1) (free : s.blanked n.val = false)
    (busy : (s.front.converters[coreOfChannel n]).slot.isSome = true) : Answers (.convertNow p n t) s fun u =>
      u = (s.acknowledged p).setChannel n fun c => { c with due := some (match c.due with
        | none => ⟨t, 0, false, false, false, false⟩
        | some d => { d with at_ := min d.at_ t }) } := by
  refine answers_commanded rfl accepted (demandConversion_waits ?_ ?_)
  · rw [State.acknowledged_front]
    exact busy
  · rw [blanked_of n (fun k hk => State.get_acknowledged s p k hk) (State.acknowledged_front s p)]
    exact free

/-- The front end is powered and its first 1.0 ms have passed (R184). -/
def State.frontReady (s : State) : State := { s with front := { s.front with ready := true } }

variable (runs : s.clocksRun = true)
include runs

theorem answers_conversionStart {v : Fin 8} {sl : Slot} (taken : (s.front.converters[v]).slot = some sl) (settling : sl.phase = 0) :
    Answers (.conversionStart v) s fun u => u = s.setConverter v fun k => { k with slot := some { sl with phase := 1 }, lastGain := some sl.range } := by
  refine answers_served rfl runs ?_
  rw [taken]
  exact if_pos settling

theorem answers_leadCheckEnd {v : Fin 8} {sl : Slot} (fail : Bool) (taken : (s.front.converters[v]).slot = some sl) (settling : sl.phase = 0)
    (check : sl.leadCheck = true) : Answers (.leadCheckEnd v fail) s fun u => u = s.setChannel sl.chan fun c => { c with leadFail := fail } := by
  refine answers_served rfl runs ?_
  rw [taken]
  exact if_pos (by rw [settling, check]; rfl)

theorem answers_frontEndReady (t : Nat) : Answers (.frontEndReady t) s fun u => u.front.ready = true
    ∧ ∀ n : Fin 64, (u.front.channels[n]).result = (s.front.channels[n]).result := by
  have served := schedules_serveCores s.frontReady
  refine ⟨s.frontReady.serveCores, congrArg Host.Outcome.next (if_pos runs), ?_, served.results⟩
  rw [served.front]
  rfl

theorem answers_txsupReady {n : Fin 64} (t : Nat) (type : s.nat (Key.chanSensorType n.val) = 5) (enabled : s.flag (Key.chanEnable n.val) = true)
    (busy : (s.front.converters[coreOfChannel n]).slot.isSome = true) :
    Answers (.txsupReady n t) s fun u => u = s.setChannel n fun c => { c with txReady := true } := by
  have supplied : s.txsup n.val = true := by
    unfold State.txsup
    rw [type, enabled, runs]
    rfl
  refine answers_served rfl runs ((if_pos supplied).trans ?_)
  exact serveCore_busy busy

end

/-- A due time while the core's slot runs (R178, R180, R182, R189). -/
theorem answers_scanDue_busy {s : State} (runs : s.clocksRun = true) {n : Fin 64} {t : Nat} (live : chanLive s.get n.val = true)
    (busy : (s.front.converters[coreOfChannel n]).slot.isSome = true) (scanning : s.front.scanning = true)
    (period : s.nat (Key.chanScanPeriod n.val) ≠ 0) (fresh : (s.front.channels[n]).lastScan ≠ some t)
    (others : ∀ m : Fin 64, coreOfChannel m = coreOfChannel n → m ≠ n → s.dueAt m t = false) : let c := s.front.channels[n]
    (c.due = none → s.blanked n.val = false → Answers (.scanDue n t) s fun u =>
        u = (s.senseAt t).setChannel n fun c => { c with lastScan := some t, due := some ⟨t, 0, false, false, true, false⟩ })
    ∧ (c.due = none → s.blanked n.val = true → Answers (.scanDue n t) s fun u =>
        u = (s.senseAt t).setChannel n fun c =>
          { c with lastScan := some t, due := some ⟨t, 0, false, true, true, false⟩, lastBlank := s.blankerOf n.val })
    ∧ (∀ d : Due, c.due = some d → s.blanked n.val = false → d.scan = true → d.held = false → Answers (.scanDue n t) s fun u =>
        u = (s.senseAt t).setChannel n fun c => { c with lastScan := some t, due := some { d with missed := d.missed + 1, late := true } })
    ∧ (∀ d : Due, c.due = some d → s.blanked n.val = false → d.scan = false → Answers (.scanDue n t) s fun u =>
        u = (s.senseAt t).setChannel n fun c => { c with lastScan := some t, due := some { d with scan := true, at_ := min d.at_ t } })
    ∧ (∀ d : Due, c.due = some d → d.scan = true → d.held = true → Answers (.scanDue n t) s fun u =>
        (u.front.channels[n]).ignoreBlank = true ∧ (u.front.channels[n]).starvedLogged = true
        ∧ (c.starvedLogged = false → s.logOpen → u.lastLogged 0x0304 n.val n.val c.lastBlank)) := by
  have waits := fun {P : State → Prop} (h : P ((s.senseAt t).scanDueOne n t)) => answers_scanDue_waits runs busy scanning others h
  refine ⟨fun none_ free => waits ?_, fun none_ blanked => waits ?_, fun d pending free scan once => waits ?_, fun d pending free demand => waits ?_,
    fun d pending scan held => waits ?_⟩
  · exact scanDueOne_taken live period fresh free (by rw [none_]; rfl) _ (by rw [none_]; rfl)
  · exact scanDueOne_delayed live period fresh blanked none_
  · refine scanDueOne_taken live period fresh free (by rw [pending]; simp [once]) _ ?_
    rw [pending]
    exact if_pos scan
  · refine scanDueOne_taken live period fresh free (by rw [pending]; simp [demand]) _ ?_
    rw [pending]
    exact if_neg (by rw [demand]; decide)
  · exact scanDueOne_starves live period fresh (by rw [pending]; simp [scan, held])

/-- Settles O45: while the core's slot runs the due time or the request is one update of its channel (`scanDueOne_eq`); on an idle core the one
channel due comes next (`nextChannel_only`) and starts its slot on the values of its SENSE cycle (`State.newSlot`). -/
theorem sensorSlots : Obligations.SensorSlots := by
  unfold Obligations.SensorSlots
  intro s p runs
  refine ⟨fun n t => ?_, fun n t => ?_, fun v sl taken settling => ?_, answers_frontEndReady runs, fun n t => answers_txsupReady runs t⟩
  · exact fun live busy => ⟨answers_scanDue_busy runs live busy, fun accepted free => answers_convertNow t accepted free busy⟩
  · exact fun live scans period type free slot noCheck noRef nothing => answers_scanDue_starts runs live scans period type free ⟨slot, noCheck, noRef, nothing⟩
  · exact ⟨answers_conversionStart runs taken settling, fun fail => answers_leadCheckEnd runs fail taken settling⟩

end Sys2Proof.Machine
end

section
/-! SUPPORT. Slots that begin and slots that blanking takes back (`SlotWork`, R179, R186-R190): what they leave alone, behind
`Obligations.ConversionsAndBlanking` and `Obligations.ResultsAndChannelStates`. -/

namespace Sys2Proof.Machine

open Sys2Proof

/-! ### The frame -/

/-- From `s` to `t` slots have begun and been lost, but none on the cores `alone`: module time, the blanking sources and the results stand, and so do
the front end's values but the range, the range changes and the missed due times of channels, and the aborted slots of the other cores. -/
structure SlotWork (alone : Fin 8 → Prop) (s t : State) : Prop where
  pending : t.pending = s.pending
  time    : t.tickTime = s.tickTime
  front   : t.front = { s.front with channels := t.front.channels, converters := t.front.converters }
  results : ∀ n : Fin 64, (t.front.channels[n]).result = (s.front.channels[n]).result
  cores   : ∀ v : Fin 8, alone v → t.front.converters[v] = s.front.converters[v]
    ∧ t.get (Key.convSlotsAborted v.val) = s.get (Key.convSlotsAborted v.val)
  values  : ∀ i j, 0x2400 ≤ i ∧ i < 0x2A00 ∧ j < 256 → ¬(i < 0x2440 ∧ (j = 0x17 ∨ j = 0x1E ∨ j = 0x20)) → ¬(0x2480 ≤ i ∧ i < 0x2488 ∧ j = 7) →
    t.get (i * 256 + j) = s.get (i * 256 + j)

/-- Module time is of the clock and of values outside the front end that no event moves. -/
theorem tickTime_of {a b : State} (clock : a.clock = b.clock)
    (values : ∀ k, k < 0x2400 * 256 ∨ 0x2A00 * 256 ≤ k → k ∉ eventKeys → a.get k = b.get k) : a.tickTime = b.tickTime := by
  unfold State.tickTime State.moduleNs State.timeSynced State.rtc
  rw [clock, nat_of (values Key.ftimeSyncState (by decide) (by decide)), nat_of (values Key.powerRTC (by decide) (by decide))]

section
variable {alone : Fin 8 → Prop} {s m t : State}

theorem SlotWork.refl (s : State) : SlotWork alone s s := ⟨rfl, rfl, rfl, fun _ => rfl, fun _ _ => ⟨rfl, rfl⟩, fun _ _ _ _ _ => rfl⟩
theorem SlotWork.trans (h : SlotWork alone s m) (g : SlotWork alone m t) : SlotWork alone s t where
  pending := g.pending.trans h.pending
  time := g.time.trans h.time
  front := by
    conv_lhs => rw [g.front, h.front]
  results n := (g.results n).trans (h.results n)
  cores v hv := ⟨(g.cores v hv).1.trans (h.cores v hv).1, (g.cores v hv).2.trans (h.cores v hv).2⟩
  values i j hi hj hk := (g.values i j hi hj hk).trans (h.values i j hi hj hk)
theorem SlotWork.ite {a b : State} {p : Prop} [Decidable p] (h : SlotWork alone s a) (g : SlotWork alone s b) :
    SlotWork alone s (if p then a else b) := by
  split
  · exact h
  · exact g
theorem SlotWork.foldl {α : Type} (f : State → α → State) (l : List α) (h : SlotWork alone s m)
    (hf : ∀ m x, x ∈ l → SlotWork alone s m → SlotWork alone s (f m x)) : SlotWork alone s (l.foldl f m) := by
  induction l generalizing m with
  | nil => exact h
  | cons x l ih => exact ih (hf _ _ List.mem_cons_self h) fun m y hy => hf m y (List.mem_cons_of_mem _ hy)

theorem SlotWork.nat (h : SlotWork alone s t) (i j : Nat) (hi : 0x2400 ≤ i ∧ i < 0x2A00 ∧ j < 256)
    (channel : ¬(i < 0x2440 ∧ (j = 0x17 ∨ j = 0x1E ∨ j = 0x20))) (core : ¬(0x2480 ≤ i ∧ i < 0x2488 ∧ j = 7)) :
    t.nat (i * 256 + j) = s.nat (i * 256 + j) := nat_of (h.values i j hi channel core)
theorem SlotWork.senseNow (h : SlotWork alone s t) : t.senseNow = s.senseNow := by
  unfold State.senseNow
  rw [h.time, h.front]

/-! ### Values and parts -/

theorem SlotWork.put (h : SlotWork alone s m) (i j : Nat) (x : Int)
    (hk : 0x2400 ≤ i ∧ i < 0x2440 ∧ (j = 0x17 ∨ j = 0x1E ∨ j = 0x20) ∨ 0x2480 ≤ i ∧ i < 0x2488 ∧ j = 7)
    (beside : ∀ v, alone v → ¬(i = 0x2480 + v.val ∧ j = 7)) : SlotWork alone s (m.put (i * 256 + j) x) where
  pending := h.pending
  time := by
    have time : (m.put (i * 256 + j) x).tickTime = m.tickTime := tickTime_of rfl fun _ _ _ => State.get_put_other _ _ _ _ (by omega)
    exact time.trans h.time
  front := h.front
  results := h.results
  cores v hv := by
    have other := beside v hv
    exact ⟨(h.cores v hv).1, (State.get_put_other _ _ _ _ key_ne).trans (h.cores v hv).2⟩
  values k l hl channel core := (State.get_put_other _ _ _ _ key_ne).trans (h.values k l hl channel core)
theorem SlotWork.putChannel (h : SlotWork alone s m) (i j x : Nat) (hk : 0x2400 ≤ i ∧ i < 0x2440 ∧ (j = 0x17 ∨ j = 0x1E ∨ j = 0x20) := by omega) :
    SlotWork alone s (m.putN (i * 256 + j) x) := h.put i j _ (.inl hk) fun _ _ => by omega
theorem SlotWork.bumpChannel (h : SlotWork alone s m) (i j : Nat) (hk : 0x2400 ≤ i ∧ i < 0x2440 ∧ (j = 0x17 ∨ j = 0x1E ∨ j = 0x20) := by omega) :
    SlotWork alone s (State.bump 32 m (i * 256 + j)) := h.putChannel i j _ hk
theorem SlotWork.countAborted (h : SlotWork alone s m) (v : Fin 8) (other : ¬alone v) :
    SlotWork alone s (State.bump 32 m (Key.convSlotsAborted v.val)) :=
  h.put _ _ _ (.inr (by omega)) fun w hw same => by
    have : w = v := by omega
    subst this
    exact other hw
theorem SlotWork.setChannel (h : SlotWork alone s m) (n : Fin 64) (f : Channel → Channel) (hf : ∀ c, (f c).result = c.result := by intro _; rfl) :
    SlotWork alone s (m.setChannel n f) where
  pending := h.pending
  time := h.time
  front := by
    unfold State.setChannel
    conv_lhs => rw [h.front]
  results q := by
    rw [← h.results q, channel_setChannel]
    split
    · exact hf _
    · rfl
  cores := h.cores
  values := h.values
theorem SlotWork.setConverter (h : SlotWork alone s m) (v : Fin 8) (f : Converter → Converter) (other : ¬alone v) :
    SlotWork alone s (m.setConverter v f) where
  pending := h.pending
  time := h.time
  front := by
    unfold State.setConverter
    conv_lhs => rw [h.front]
  results := h.results
  cores w hw := by
    rw [converter_setConverter, if_neg (by rintro rfl; exact other hw)]
    exact h.cores w hw
  values := h.values

/-- A logged event leaves the front end alone. -/
theorem SlotWork.log (h : SlotWork alone s m) (code source w4 w5 w6 : Nat) : SlotWork alone s (m.log code source w4 w5 w6) where
  pending := (log_pending _ _ _ _ _ _).trans h.pending
  time := (tickTime_of (log_clock _ _ _ _ _ _) fun _ _ event => get_log _ _ _ _ _ _ _ event).trans h.time
  front := by
    rw [log_front]
    exact h.front
  results := by
    rw [log_front]
    exact h.results
  cores v hv := by
    rw [log_front, get_log _ _ _ _ _ _ _ front_not_event]
    exact h.cores v hv
  values i j hi channel core := (get_log _ _ _ _ _ _ _ front_not_event).trans (h.values i j hi channel core)

/-- Idle cores take what they can. -/
theorem SlotWork.schedules (h : SlotWork alone s m) (g : Schedules m t) (busy : ∀ v, alone v → (s.front.converters[v]).slot.isSome = true) :
    SlotWork alone s t where
  pending := g.pending.trans h.pending
  time := by
    have time : t.tickTime = m.tickTime := tickTime_of g.clock fun k off _ => by
      have value := g.values (k / 256) (k % 256) (by omega) (by omega)
      rwa [show k / 256 * 256 + k % 256 = k by omega] at value
    exact time.trans h.time
  front := by
    conv_lhs => rw [g.front, h.front]
  results n := (g.results n).trans (h.results n)
  cores v hv := by
    have running := g.running v (by rw [(h.cores v hv).1]; exact busy v hv)
    exact ⟨running.trans (h.cores v hv).1, (g.values _ _ (by omega) (by omega)).trans (h.cores v hv).2⟩
  values i j hi channel core := (g.values i j hi.2.2 (by omega)).trans (h.values i j hi channel core)

/-! ### Blanking takes slots back (R174, R187-R190) -/

theorem SlotWork.markDelayed (h : SlotWork alone s m) (n : Fin 64) (src : Nat) : SlotWork alone s (m.markDelayed n src) := h.setChannel n _
theorem SlotWork.starve (h : SlotWork alone s m) (n : Fin 64) : SlotWork alone s (m.starve n) := by
  have starved := h.setChannel n (fun c => { c with ignoreBlank := true, starvedLogged := true })
  exact .ite starved (starved.log _ _ _ _ _)
theorem SlotWork.abortedRetake (h : SlotWork alone s m) (n : Fin 64) : SlotWork alone s (m.abortedRetake n) := by
  have begun := h.setChannel n (fun c => { c with lowCount := 0 })
  exact .ite h (.ite begun ((begun.bumpChannel _ _).putChannel _ _ _))
theorem SlotWork.unstartSlot (h : SlotWork alone s m) (v : Fin 8) (src u : Nat) (other : ¬alone v) : SlotWork alone s (m.unstartSlot v src u) := by
  unfold State.unstartSlot
  split
  · exact .ite ((h.setConverter v _ other).setChannel _ _) h
  · exact h
theorem SlotWork.abortSlot (h : SlotWork alone s m) (v : Fin 8) (src u : Nat) (other : ¬alone v) : SlotWork alone s (m.abortSlot v src u) := by
  unfold State.abortSlot
  split
  · exact h
  · rename_i sl _
    have ended : SlotWork alone s (State.bump 32 ((m.setConverter v fun k => { k with slot := none }).setChannel sl.chan fun c =>
        { c.excited u (sl.onTime (u - sl.start)) with due := some { sl.due.join c.due with delayed := true, held := true }, lastBlank := src })
        (Key.convSlotsAborted v.val)) := ((h.setConverter v _ other).setChannel _ _).countAborted v other
    have retaken := SlotWork.ite (p := (sl.retaken && sl.phase == 0) = true) (ended.abortedRetake sl.chan) ended
    exact .ite (.ite (retaken.starve _) retaken) h

end

/-- Slots may begin and be lost on any core. -/
abbrev AnySlots : State → State → Prop := SlotWork fun _ => False

/-- Slots may begin and be lost on any core but `v`. -/
abbrev OtherSlots (v : Fin 8) : State → State → Prop := SlotWork (· = v)

/-! ### A blanking source comes into effect (R186, R187, R190) -/

/-- The slots of the cycle do not start. -/
def State.unstarted (s : State) (src t : Nat) : State := (List.finRange 8).foldl (fun s v => s.unstartSlot v src t) s

/-- The source is in effect, and not past its maximum. -/
def State.inForce (s : State) (src : Nat) : State :=
  { s with front := { s.front with inEffect := setBit s.front.inEffect src true, timedOut := setBit s.front.timedOut src false } }

/-- What is pending on the channels that select the source is delayed. -/
def State.marked (s : State) (src : Nat) : State := (List.finRange 64).foldl (fun s n =>
  if (s.blankMask n.val).testBit src && (s.front.channels[n]).due.isSome then s.markDelayed n src else s) s

/-- The slots that select the source are aborted. -/
def State.aborted (s : State) (src t : Nat) : State := (List.finRange 8).foldl (fun s v => s.abortSlot v src (max t s.senseNow)) s

theorem blankAssert_on {s : State} {src : Nat} (t : Nat) (on : s.front.inEffect.testBit src = true) : s.blankAssert src t = s := if_pos on
theorem blankAssert_off {s : State} {src : Nat} (t : Nat) (off : s.front.inEffect.testBit src = false) :
    s.blankAssert src t = ((((s.unstarted src t).inForce src).marked src).aborted src t).serveCores := by
  unfold State.blankAssert
  rw [if_neg (by rw [off]; decide)]
  unfold State.aborted State.marked State.inForce State.unstarted
  rfl

/-- The source is out of effect. -/
def State.outOfForce (s : State) (src : Nat) : State :=
  { s with front := { s.front with inEffect := setBit s.front.inEffect src false, timedOut := setBit s.front.timedOut src false } }

theorem blankRelease_eq (s : State) (src : Nat) : s.blankRelease src = (s.outOfForce src).serveCores := rfl

section
variable (s : State) (src t : Nat)

theorem anySlots_unstarted : AnySlots s (s.unstarted src t) := .foldl _ _ (.refl s) fun _ v _ h => h.unstartSlot v src t id
theorem slotWork_marked (alone : Fin 8 → Prop) : SlotWork alone s (s.marked src) := .foldl _ _ (.refl s) fun _ n _ h => .ite (h.markDelayed n src) h
theorem anySlots_aborted : AnySlots s (s.aborted src t) := .foldl _ _ (.refl s) fun _ v _ h => h.abortSlot v src _ id
theorem anySlots_serveCores : AnySlots s s.serveCores := (SlotWork.refl s).schedules (schedules_serveCores s) fun _ h => h.elim

/-- Behind the source that comes into effect: slots are lost, and idle cores serve again. -/
theorem anySlots_behind : AnySlots s (((s.marked src).aborted src t).serveCores) :=
  ((slotWork_marked s src _).trans (anySlots_aborted _ src t)).trans (anySlots_serveCores _)

end

end Sys2Proof.Machine
end

section
/-! SUPPORT. The ends of conversions (R159, R169, R171, R174, R176): `Obligations.ConversionsAndBlanking`. -/

namespace Sys2Proof.Machine

open Sys2Proof

/-! ### A conversion ends -/

section
variable {s : State} {v : Fin 8} {r : Reading} {t : Nat} {sl : Slot}

/-- A clipped conversion is counted on its core (R169). -/
def State.clipCounted (s : State) (v : Fin 8) (r : Reading) : State :=
  if readingClipped r then State.bump 32 s (Key.convOverranges v.val) else s

/-- The slot that begins again at range 0 (R171), and the one that goes on to its second conversion (R159). -/
def Slot.again (sl : Slot) (r : Reading) : Slot :=
  { sl with phase := 0, range := 0, retaken := true, first := none, clipSeen := false, openSeen := sl.openSeen || r.circuitOpen,
            length := sl.length + sl.convUs + 20 }
def Slot.second (sl : Slot) (r : Reading) : Slot :=
  { sl with phase := 2, first := some (r.code, r.inPhase), openSeen := sl.openSeen || r.circuitOpen, clipSeen := readingClipped r,
            length := sl.length + sl.convUs }

theorem conversionEnd_eq (taken : (s.front.converters[v]).slot = some sl) (converts : sl.phase ≠ 0) : s.conversionEnd v r t =
    if sl.retakes r then State.bump 32 ((s.clipCounted v r).setConverter v fun k => { k with slot := some (sl.again r) }) (Key.chanRetakes sl.chan.val)
    else if sl.phase < sl.convs then (s.clipCounted v r).setConverter v fun k => { k with slot := some (sl.second r) }
    else (s.clipCounted v r).endSlot v { sl with length := sl.length + sl.convUs } r t := by
  unfold State.conversionEnd
  rw [taken]
  exact if_neg converts

theorem clipCounted_retakes (again : sl.retakes r = true) : s.clipCounted v r = State.bump 32 s (Key.convOverranges v.val) := by
  unfold Slot.retakes at again
  simp only [Bool.and_eq_true] at again
  obtain ⟨⟨⟨-, clipped⟩, -⟩, -⟩ := again
  exact if_pos clipped
theorem only_clipCounted : Only s (s.clipCounted v r) [Key.convOverranges v.val] := .ite ((Only.refl s _).bump _ _ (List.mem_singleton_self _)) (.refl s _)
theorem clipCounted_front : (s.clipCounted v r).front = s.front := by
  unfold State.clipCounted
  split
  · rfl
  · rfl

/-- The values of a state behind an update of the front end. -/
theorem Only.behind {a b : State} {keys : List Nat} (h : Only a b keys) (x : FrontEnd) :
    Only { a with front := x } { b with front := x } keys where
  rest := by
    conv_lhs => rw [h.rest]
  values := h.values

theorem answers_conversionEnd_retake (runs : s.clocksRun = true) (taken : (s.front.converters[v]).slot = some sl) (converts : sl.phase ≠ 0)
    (again : sl.retakes r = true) : Answers (.conversionEnd v r t) s fun u =>
      Only { s with front := u.front } u [Key.convOverranges v.val, Key.chanRetakes sl.chan.val]
      ∧ u.nat (Key.chanRetakes sl.chan.val) = satSucc 32 (s.nat (Key.chanRetakes sl.chan.val))
      ∧ u.front = ((s.senseAt t).setConverter v fun k => { k with slot := some (sl.again r) }).front := by
  refine answers_served rfl runs ?_
  rw [conversionEnd_eq (s := s.senseAt t) taken converts, if_pos again, clipCounted_retakes again]
  have counted : Only s (State.bump 32 (State.bump 32 s (Key.convOverranges v.val)) (Key.chanRetakes sl.chan.val))
      [Key.convOverranges v.val, Key.chanRetakes sl.chan.val] := ((Only.refl s _).bump _ _ (by simp)).bump _ _ (by simp)
  refine ⟨counted.behind _, (State.nat_putN_same _ _ _).trans (congrArg (satSucc 32) ?_), rfl⟩
  exact nat_putN_of_ne _ _ _ _ key_ne

theorem answers_conversionEnd_first (runs : s.clocksRun = true) (taken : (s.front.converters[v]).slot = some sl) (converts : sl.phase ≠ 0)
    (once : sl.retakes r = false) (more : sl.phase < sl.convs) : Answers (.conversionEnd v r t) s fun u =>
      Only { s with front := u.front } u [Key.convOverranges v.val] ∧ (u.front.converters[v]).slot = some (sl.second r) := by
  refine answers_served rfl runs ?_
  rw [conversionEnd_eq (s := s.senseAt t) taken converts, if_neg (by rw [once]; decide), if_pos more]
  have counted : Only (s.senseAt t) ((s.senseAt t).clipCounted v r) [Key.convOverranges v.val] := only_clipCounted
  exact ⟨counted.behind _, congrArg Converter.slot (converter_setConverter_same _ _ _)⟩

end

/-! ### The last conversion ends the slot (R159, R174, R176) -/

section
variable {s : State} {v : Fin 8} {r : Reading} {t : Nat} {sl : Slot}

/-- The code of a slot's conversions together: of a swap the mean, of a reversal half the difference (R159, R176). -/
def Slot.code (sl : Slot) (r : Reading) : Int :=
  match sl.first with
  | none => r.code
  | some c => if sl.lead = 1 then halfAway (c.1 + r.code) else halfAway (c.1 - r.code)

theorem combine_plain (plain : sl.kind ≠ 6) : (s.combine sl r).1.1 = code24 (sl.code r) ∧ (s.combine sl r).2 = s := by
  unfold State.combine Slot.code
  cases sl.first with
  | none => exact ⟨rfl, rfl⟩
  | some c =>
    dsimp only
    rw [if_neg plain]
    split
    · exact ⟨rfl, rfl⟩
    · exact ⟨rfl, rfl⟩

/-- The flags of a slot's raw words (R174). -/
def Slot.flags (sl : Slot) (r : Reading) : Nat :=
  rawFlags sl.range (sl.stale || sl.unblanked) (sl.due.delayed || sl.unblanked) (sl.kind != 4 && (r.circuitOpen || sl.openSeen)) sl.retaken
    (readingClipped r || sl.clipSeen)

theorem endSlot_ends (kept : sl.discard = false) (plain : sl.kind ≠ 6) :
    (s.endSlot v sl r t).nat (Key.convSlots v.val) = satSucc 32 (s.nat (Key.convSlots v.val))
    ∧ (s.endSlot v sl r t).nat (Key.chanLastSlotLength sl.chan.val) = sl.length
    ∧ ∃ x : RawResult, ((s.endSlot v sl r t).front.channels[sl.chan]).result = some x ∧ x.secondary = 0 ∧ x.ratio = 0 ∧ x.endTime = t
      ∧ x.primary = rawWord (code24 (sl.code r)) (sl.flags r) := by
  obtain ⟨code, same⟩ := combine_plain (s := s) (r := r) plain
  have noImp : (sl.kind == 6) = false := beq_false_of_ne plain
  unfold State.endSlot
  extract_lets n comb s0 clipped opened flags imp res nr again next s1 s2 s3 s4 s5
  have begun : s0 = s := same
  have counted : s3.nat (Key.convSlots v.val) = satSucc 32 (s.nat (Key.convSlots v.val)) := by
    refine (nat_putN_of_ne _ _ _ _ key_ne).trans ((nat_putN_of_ne _ _ _ _ key_ne).trans ((State.nat_putN_same _ _ _).trans ?_))
    rw [← begun]
    rfl
  have length : s3.nat (Key.chanLastSlotLength n.val) = sl.length := (nat_putN_of_ne _ _ _ _ key_ne).trans (State.nat_putN_same _ _ _)
  have result : (s3.front.channels[n]).result = some res := by
    have ended : (s1.front.channels[n]).result = some res := by
      unfold s1
      rw [channel_setChannel_same]
      exact if_neg (by rw [kept]; decide)
    exact ended
  clear_value s3
  have work : AnySlots s3 (s5.serveCore v) := by
    refine SlotWork.schedules ?_ (schedules_serveCore s5 v) fun _ h => h.elim
    exact SlotWork.putChannel (.ite (.refl s3) ((SlotWork.refl s3).bumpChannel _ _)) _ _ _
  refine ⟨(work.nat _ _ (by omega) (by omega) (by omega)).trans counted, (work.nat _ _ (by omega) (by omega) (by omega)).trans length, res,
    (work.results n).trans result, ?_, ?_, rfl, ?_⟩
  · exact if_neg (by rw [show imp = false from noImp]; decide)
  · exact if_neg (by rw [show imp = false from noImp, Bool.false_and]; decide)
  · exact congrArg (fun c => rawWord c flags) code

theorem answers_conversionEnd_last (runs : s.clocksRun = true) (taken : (s.front.converters[v]).slot = some sl) (converts : sl.phase ≠ 0)
    (once : sl.retakes r = false) (last : sl.convs ≤ sl.phase) (kept : sl.discard = false) (plain : sl.kind ≠ 6) :
    Answers (.conversionEnd v r t) s fun u => u.nat (Key.convSlots v.val) = satSucc 32 (s.nat (Key.convSlots v.val))
      ∧ u.nat (Key.chanLastSlotLength sl.chan.val) = sl.length + sl.convUs
      ∧ ∃ x : RawResult, (u.front.channels[sl.chan]).result = some x ∧ x.secondary = 0 ∧ x.ratio = 0 ∧ x.endTime = t
        ∧ x.primary = rawWord (code24 (sl.code r)) (sl.flags r) := by
  refine answers_served rfl runs ?_
  rw [conversionEnd_eq (s := s.senseAt t) taken converts, if_neg (by rw [once]; decide), if_neg (by omega)]
  have slots : ((s.senseAt t).clipCounted v r).nat (Key.convSlots v.val) = s.nat (Key.convSlots v.val) :=
    nat_of (only_clipCounted.values _ (by simp))
  have ends := endSlot_ends (s := (s.senseAt t).clipCounted v r) (v := v) (r := r) (t := t) (sl := { sl with length := sl.length + sl.convUs }) kept plain
  rw [slots] at ends
  exact ends

end

end Sys2Proof.Machine
end

section
/-! SUPPORT. Blanking sources and the reference check (R186-R192), and `Obligations.ConversionsAndBlanking`. -/

namespace Sys2Proof.Machine

open Sys2Proof

/-! ### A core beside a source that comes into effect (R187, R190) -/

section
variable {s : State} {v : Fin 8} {sl : Slot} (src t : Nat)

theorem endsAt_of {a b : State} (h : a.pending = b.pending) (v : Fin 8) (sl : Slot) (u : Nat) : a.endsAt v sl u = b.endsAt v sl u := by
  unfold State.endsAt
  rw [h]

/-- A slot that does not start in this cycle is not taken back at its start. -/
theorem unstartSlot_stays (taken : (s.front.converters[v]).slot = some sl) (started : sl.start ≠ t ∨ sl.phase ≠ 0 ∨ sl.retaken = true) :
    s.unstartSlot v src t = s := by
  unfold State.unstartSlot
  rw [taken]
  refine if_neg fun starts => ?_
  simp only [Bool.and_eq_true, beq_iff_eq, Bool.not_eq_true'] at starts
  obtain ⟨⟨⟨⟨start, phase⟩, retaken⟩, -⟩, -⟩ := starts
  rcases started with h | h | h
  · exact h start
  · exact h phase
  · rw [retaken] at h
    cases h

theorem otherSlots_unstarted (taken : (s.front.converters[v]).slot = some sl) (started : sl.start ≠ t ∨ sl.phase ≠ 0 ∨ sl.retaken = true) :
    OtherSlots v s (s.unstarted src t) :=
  .foldl _ _ (.refl s) fun m w _ h => by
    by_cases own : w = v
    · rw [own, unstartSlot_stays src t (by rw [(h.cores v rfl).1]; exact taken) started]
      exact h
    · exact h.unstartSlot w src t own

/-- A slot whose last conversion ends in this cycle is not aborted. -/
theorem abortSlot_stays (taken : (s.front.converters[v]).slot = some sl) (ends : s.endsAt v sl t = true) : s.abortSlot v src t = s := by
  unfold State.abortSlot
  rw [taken]
  exact if_neg (by rw [ends]; simp)

theorem otherSlots_aborted (taken : (s.front.converters[v]).slot = some sl) (ends : s.endsAt v sl (max t s.senseNow) = true) :
    OtherSlots v s (s.aborted src t) :=
  .foldl _ _ (.refl s) fun m w _ h => by
    by_cases own : w = v
    · rw [own, abortSlot_stays src _ (by rw [(h.cores v rfl).1]; exact taken) (by rw [h.senseNow, endsAt_of h.pending]; exact ends)]
      exact h
    · exact h.abortSlot w src _ own

theorem get_abortedRetake {n : Fin 64} {k : Nat} (hr : k ≠ Key.chanRangeNow n.val) (hc : k ≠ Key.chanRangeChanges n.val) :
    (s.abortedRetake n).get k = s.get k := by
  unfold State.abortedRetake
  dsimp only
  split
  · rfl
  · split
    · rfl
    · exact (State.get_put_other _ _ _ _ hr).trans (State.get_put_other _ _ _ _ hc)

/-- An aborted slot is counted on its core (R187). -/
theorem abortSlot_counts (taken : (s.front.converters[v]).slot = some sl) (selects : sl.mask.testBit src = true) (blanks : sl.unblanked = false)
    (goesOn : s.endsAt v sl t = false) : (s.abortSlot v src t).nat (Key.convSlotsAborted v.val) = satSucc 32 (s.nat (Key.convSlotsAborted v.val)) := by
  unfold State.abortSlot
  rw [taken]
  dsimp only
  rw [if_pos (by rw [selects, blanks, goesOn]; rfl)]
  have retake : ∀ (m : State) (p : Prop) [Decidable p], (if p then m.abortedRetake sl.chan else m).get (Key.convSlotsAborted v.val) =
      m.get (Key.convSlotsAborted v.val) := fun m p _ => by
    split
    · exact get_abortedRetake key_ne key_ne
    · rfl
  have starved : ∀ (m : State) (p : Prop) [Decidable p], (if p then m.starve sl.chan else m).get (Key.convSlotsAborted v.val) =
      m.get (Key.convSlotsAborted v.val) := fun m p _ => by
    split
    · exact get_starve front_not_event
    · rfl
  exact (nat_of ((starved _ _).trans (retake _ _))).trans (State.nat_putN_same _ _ _)

theorem aborted_counts (taken : (s.front.converters[v]).slot = some sl) (selects : sl.mask.testBit src = true) (blanks : sl.unblanked = false)
    (goesOn : s.endsAt v sl (max t s.senseNow) = false) :
    (s.aborted src t).nat (Key.convSlotsAborted v.val) = satSucc 32 (s.nat (Key.convSlotsAborted v.val)) := by
  obtain ⟨a, b, split, ha⟩ := List.eq_append_cons_of_mem (List.mem_finRange v)
  have once := List.nodup_finRange 8
  rw [split, List.nodup_middle, List.nodup_cons, List.mem_append, not_or] at once
  have others : ∀ (l : List (Fin 8)) (m : State), v ∉ l → OtherSlots v m (l.foldl (fun s v => s.abortSlot v src (max t s.senseNow)) m) := fun l m hl =>
    .foldl _ _ (.refl m) fun _ w hw h => h.abortSlot w src _ (by rintro rfl; exact hl hw)
  unfold State.aborted
  rw [split, List.foldl_append, List.foldl_cons]
  have before := others a s ha
  generalize a.foldl (fun s v => s.abortSlot v src (max t s.senseNow)) s = m at before ⊢
  have here : (m.abortSlot v src (max t m.senseNow)).nat (Key.convSlotsAborted v.val) = satSucc 32 (m.nat (Key.convSlotsAborted v.val)) :=
    abortSlot_counts src _ (by rw [(before.cores v rfl).1]; exact taken) selects blanks (by rw [before.senseNow, endsAt_of before.pending]; exact goesOn)
  rw [nat_of ((others b _ once.1.2).cores v rfl).2, here, nat_of (before.cores v rfl).2]

/-! ### The source comes into effect -/

variable {src t}

theorem schedules_convSlotsAborted {a b : State} (h : Schedules a b) (v : Fin 8) : b.get (Key.convSlotsAborted v.val) = a.get (Key.convSlotsAborted v.val) :=
  h.values _ _ (by omega) (by omega)

/-- What core `v` is where only other cores' slots are lost before and after the source takes force. -/
theorem inForce_between {a b : State} (first : OtherSlots v s a) (marks : OtherSlots v (a.inForce src) b) :
    b.front.converters[v] = s.front.converters[v] ∧ b.get (Key.convSlotsAborted v.val) = s.get (Key.convSlotsAborted v.val)
      ∧ b.pending = s.pending ∧ b.senseNow = s.senseNow :=
  ⟨(marks.cores v rfl).1.trans (first.cores v rfl).1, (marks.cores v rfl).2.trans (first.cores v rfl).2, marks.pending.trans first.pending,
    marks.senseNow.trans first.senseNow⟩

theorem blankAssert_counts (off : s.front.inEffect.testBit src = false) (taken : (s.front.converters[v]).slot = some sl)
    (selects : sl.mask.testBit src = true) (blanks : sl.unblanked = false) (goesOn : s.endsAt v sl (max t s.senseNow) = false)
    (started : sl.start ≠ t ∨ sl.phase ≠ 0 ∨ sl.retaken = true) :
    (s.blankAssert src t).nat (Key.convSlotsAborted v.val) = satSucc 32 (s.nat (Key.convSlotsAborted v.val)) := by
  obtain ⟨core, count, pending, now⟩ := inForce_between (otherSlots_unstarted src t taken started) (slotWork_marked _ src _)
  rw [blankAssert_off t off, nat_of (schedules_convSlotsAborted (schedules_serveCores _) v),
    aborted_counts src t (by rw [core]; exact taken) selects blanks (by rw [now, endsAt_of pending]; exact goesOn)]
  exact congrArg (satSucc 32) (nat_of count)

theorem blankAssert_keeps (off : s.front.inEffect.testBit src = false) (taken : (s.front.converters[v]).slot = some sl)
    (ends : s.endsAt v sl (max t s.senseNow) = true) (converts : sl.phase ≠ 0) :
    ((s.blankAssert src t).front.converters[v]).slot = some sl
      ∧ (s.blankAssert src t).nat (Key.convSlotsAborted v.val) = s.nat (Key.convSlotsAborted v.val) := by
  obtain ⟨core, count, pending, now⟩ := inForce_between (otherSlots_unstarted src t taken (.inr (.inl converts))) (slotWork_marked _ src _)
  rw [blankAssert_off t off]
  generalize ((s.unstarted src t).inForce src).marked src = b at core count pending now
  have busy : (b.front.converters[v]).slot = some sl := by rw [core]; exact taken
  have kept : OtherSlots v b (b.aborted src t) := otherSlots_aborted src t busy (by rw [now, endsAt_of pending]; exact ends)
  have served : OtherSlots v b (b.aborted src t).serveCores := kept.schedules (schedules_serveCores _) fun w hw => by
    rw [show w = v from hw, busy]
    rfl
  exact ⟨(congrArg Converter.slot (served.cores v rfl).1).trans busy, nat_of ((served.cores v rfl).2.trans count)⟩

theorem inForce_inEffect (s : State) (src : Nat) : (s.inForce src).front.inEffect = setBit s.front.inEffect src true := rfl
theorem inForce_get (s : State) (src k : Nat) : (s.inForce src).get k = s.get k := rfl

theorem blankAssert_inEffect (off : s.front.inEffect.testBit src = false) : (s.blankAssert src t).front.inEffect = setBit s.front.inEffect src true := by
  rw [blankAssert_off t off, (anySlots_behind _ src t).front, inForce_inEffect, (anySlots_unstarted s src t).front]
theorem blankAssert_get (i j : Nat) (hi : 0x2400 ≤ i ∧ i < 0x2A00 ∧ j < 256) (channel : ¬(i < 0x2440 ∧ (j = 0x17 ∨ j = 0x1E ∨ j = 0x20)))
    (core : ¬(0x2480 ≤ i ∧ i < 0x2488 ∧ j = 7)) : (s.blankAssert src t).get (i * 256 + j) = s.get (i * 256 + j) := by
  cases on : s.front.inEffect.testBit src with
  | true => rw [blankAssert_on t on]
  | false => rw [blankAssert_off t on, (anySlots_behind _ src t).values i j hi channel core, inForce_get, (anySlots_unstarted s src t).values i j hi channel core]

/-! ### A blanking input changes (R186, R187, R190, R426) -/

end

section
variable {s : State} {i : Fin 2} {high : Bool} {t : Nat}

/-- The input's new level is on record, at `t`. -/
def State.blankLevel (s : State) (i : Fin 2) (high : Bool) (t : Nat) : State := (s.senseAt t).putBit Key.inputsInputLevels i.val high

theorem blankLevel_senseNow : max t (s.blankLevel i high t).senseNow = max t s.tickTime := by
  have time : (s.blankLevel i high t).tickTime = s.tickTime := tickTime_of rfl fun _ _ _ => State.get_put_other _ _ _ _ (by unfold Key.inputsInputLevels; omega)
  unfold State.senseNow
  rw [time]
  exact max_eq_right (le_max_left _ _)

/-- A judged input is in effect where its level is its active one, and its level stands on record. -/
theorem blankJudge_ends (s : State) (i : Fin 2) (t : Nat) :
    (s.blankJudge i t).front.inEffect.testBit i.val = s.blankActive i (s.bitOf Key.inputsInputLevels i.val)
      ∧ (s.blankJudge i t).get Key.inputsInputLevels = s.get Key.inputsInputLevels := by
  unfold State.blankJudge
  cases active : s.blankActive i (s.bitOf Key.inputsInputLevels i.val) with
  | true =>
    rw [if_pos rfl]
    refine ⟨?_, blankAssert_get _ _ (by omega) (by omega) (by omega)⟩
    cases on : s.front.inEffect.testBit i.val with
    | true => rw [blankAssert_on t on, on]
    | false => rw [blankAssert_inEffect on, testBit_setBit, if_pos rfl]
  | false =>
    rw [if_neg (by decide), blankRelease_eq]
    have served := anySlots_serveCores (s.outOfForce i.val)
    refine ⟨?_, served.values _ _ (by omega) (by omega) (by omega)⟩
    rw [served.front]
    exact (testBit_setBit _ _ _ _).trans (if_pos rfl)

theorem blankActive_blankLevel : (s.blankLevel i high t).blankActive i ((s.blankLevel i high t).bitOf Key.inputsInputLevels i.val) =
    (high != s.flag (if i.val = 0 then Key.inputsBLANK0Polarity else Key.inputsBLANK1Polarity)) := by
  have polarity : ∀ k, k ≠ Key.inputsInputLevels → (s.blankLevel i high t).flag k = s.flag k := fun k hk => by
    unfold State.flag
    rw [show (s.blankLevel i high t).get k = s.get k from State.get_put_other _ _ _ _ hk]
  unfold State.blankActive
  rw [show (s.blankLevel i high t).bitOf Key.inputsInputLevels i.val = high from bitOf_putBit_same _ _ _ _, polarity]
  split
  · decide
  · decide

theorem answers_blankInputChange (runs : s.clocksRun = true) (i : Fin 2) (high : Bool) (t : Nat) :
    let low := s.flag (if i.val = 0 then Key.inputsBLANK0Polarity else Key.inputsBLANK1Polarity)
    Answers (.blankInputChange i high t) s fun u => u.bitOf Key.inputsInputLevels i.val = high
      ∧ u.front.inEffect.testBit i.val = (high != low)
      ∧ (s.front.inEffect.testBit i.val = false → (high != low) = true → ∀ (v : Fin 8) (sl : Slot), (s.front.converters[v]).slot = some sl →
          sl.mask.testBit i.val = true → sl.unblanked = false →
          (s.endsAt v sl (max t s.tickTime) = false → sl.start ≠ t ∨ sl.phase ≠ 0 ∨ sl.retaken = true →
            u.nat (Key.convSlotsAborted v.val) = satSucc 32 (s.nat (Key.convSlotsAborted v.val)))
          ∧ (s.endsAt v sl (max t s.tickTime) = true → sl.phase ≠ 0 → (u.front.converters[v]).slot = some sl
            ∧ u.nat (Key.convSlotsAborted v.val) = s.nat (Key.convSlotsAborted v.val))) := by
  intro low
  have active := blankActive_blankLevel (s := s) (i := i) (high := high) (t := t)
  obtain ⟨effect, level⟩ := blankJudge_ends (s.blankLevel i high t) i t
  refine answers_served rfl runs ⟨(bitOf_of _ level).trans (bitOf_putBit_same _ _ _ _), effect.trans active, fun off on v sl taken selects blanks => ?_⟩
  have asserted : (s.blankLevel i high t).blankJudge i t = (s.blankLevel i high t).blankAssert i.val t := if_pos (active.trans on)
  have count : (s.blankLevel i high t).nat (Key.convSlotsAborted v.val) = s.nat (Key.convSlotsAborted v.val) := nat_putN_of_ne _ _ _ _ key_ne
  have ends : (s.blankLevel i high t).endsAt v sl (max t (s.blankLevel i high t).senseNow) = s.endsAt v sl (max t s.tickTime) := by
    rw [blankLevel_senseNow]
    rfl
  rw [← count, ← ends]
  show _ ∧ _
  exact ⟨fun goesOn started => (congrArg (fun u => State.nat u _) asserted).trans (blankAssert_counts off taken selects blanks goesOn started),
    fun last converts => by
      show (((s.blankLevel i high t).blankJudge i t).front.converters[v]).slot = some sl ∧ ((s.blankLevel i high t).blankJudge i t).nat _ = _
      rw [asserted]
      exact blankAssert_keeps off taken last converts⟩

end

/-! ### The maximum of a source, the reference check (R188, R190-R192) -/

section
variable {s : State}

/-- The source has blanked for its maximum (R188). -/
def State.pastMaximum (s : State) (src : Nat) : State := { s with front := { s.front with timedOut := setBit s.front.timedOut src true } }

theorem answers_blankMaxDuration_released {src : Fin 38} {t : Nat} (released : s.releasesAt src.val t = true) :
    Answers (.blankMaxDuration src t) s fun u => u = s :=
  ⟨s, congrArg Host.Outcome.next (if_neg (by rw [released]; simp)), rfl⟩

theorem answers_blankMaxDuration (runs : s.clocksRun = true) {src : Fin 38} {t : Nat} (on : s.front.inEffect.testBit src.val = true)
    (first : s.front.timedOut.testBit src.val = false) (stays : s.releasesAt src.val t = false) :
    Answers (.blankMaxDuration src t) s fun u => u.front.timedOut.testBit src.val = true ∧ u.front.inEffect = s.front.inEffect
      ∧ (s.logOpen → u.lastLogged 0x0303 src.val src.val) := by
  have served := schedules_serveCores ((s.pastMaximum src.val).log 0x0303 src.val src.val)
  refine ⟨((s.pastMaximum src.val).log 0x0303 src.val src.val).serveCores, congrArg Host.Outcome.next (if_pos (by rw [runs, on, first, stays]; rfl)), ?_, ?_,
    fun opened => lastLogged_of served.ash (lastLogged_log _ _ _ _ _ _ opened)⟩
  · rw [served.front, log_front]
    exact (testBit_setBit _ _ _ _).trans (if_pos rfl)
  · rw [served.front, log_front]
    rfl

theorem answers_referenceCheck {p : Path} {v : Fin 8} (t : Nat) (accepted : Accepts s p (Key.convReferenceCheck v.val) 1)
    (busy : (s.front.converters[v]).slot.isSome = true) : Answers (.referenceCheck p v t) s fun u =>
      u = (s.acknowledged p).setConverter v fun k => { k with refDue := some (k.refDue.getD t) } := by
  refine answers_commanded rfl accepted (serveCore_busy ?_)
  rw [converter_setConverter_same, State.acknowledged_front]
  exact busy

theorem startSlot_reference (s : State) (v w : Fin 8) (n : Fin 64) :
    ((s.startSlot v n).front.converters[w]).refRunning = (s.front.converters[w]).refRunning := by
  unfold State.startSlot
  dsimp only
  split
  · rfl
  · rw [State.putN_front, apply_ite State.front, State.putN_front, ite_self, converters_setChannel, converter_setConverter]
    split
    · rfl
    · rfl

/-- A core with no reference check due begins none. -/
theorem serveCore_noReference {v : Fin 8} (none_ : (s.front.converters[v]).refDue = none) :
    ((s.serveCore v).front.converters[v]).refRunning = (s.front.converters[v]).refRunning := by
  have held := congrArg (fun cs => (cs[v]).refRunning) (markHeld_converters s v (s.nextChannel v))
  unfold State.serveCore
  dsimp only
  generalize s.markHeld v (s.nextChannel v) = m at held ⊢
  rw [none_]
  split
  · rfl
  · refine Eq.trans ?_ held
    cases m.nextChannel v with
    | some next => exact startSlot_reference _ _ _ _
    | none => rfl

/-- The reference check of core `v` has ended with an error of `ppm` (R191). -/
def State.referenceEnded (s : State) (v : Fin 8) (ppm : Int) : State :=
  ((s.setConverter v fun k => { k with refRunning := false }).put (Key.convReferenceError v.val) ppm).putBit (Key.convCoreStatus v.val) 2
    (decide (500 < ppm.natAbs))

/-- A check that fails is logged (R192). -/
def State.referenceJudged (s : State) (v : Fin 8) (ppm : Int) : State :=
  if decide (500 < ppm.natAbs) then (s.referenceEnded v ppm).log 0x0305 v.val v.val else s.referenceEnded v ppm

theorem referenceJudged_front (s : State) (v : Fin 8) (ppm : Int) :
    (s.referenceJudged v ppm).front = (s.setConverter v fun k => { k with refRunning := false }).front := by
  unfold State.referenceJudged
  split
  · rw [log_front]
    rfl
  · rfl
theorem get_referenceJudged (s : State) (v : Fin 8) (ppm : Int) {k : Nat} (h : k ∉ eventKeys) :
    (s.referenceJudged v ppm).get k = (s.referenceEnded v ppm).get k := by
  unfold State.referenceJudged
  split
  · exact get_log _ _ _ _ _ _ _ h
  · rfl

theorem answers_referenceCheckEnd (runs : s.clocksRun = true) {v : Fin 8} (ppm : Int) (t : Nat) (checks : (s.front.converters[v]).refRunning = true)
    (none_ : (s.front.converters[v]).refDue = none) : Answers (.referenceCheckEnd v ppm t) s fun u =>
      (u.front.converters[v]).refRunning = false ∧ u.get (Key.convReferenceError v.val) = ppm
      ∧ u.bitOf (Key.convCoreStatus v.val) 2 = decide (500 < ppm.natAbs)
      ∧ (500 < ppm.natAbs → s.logOpen → u.lastLogged 0x0305 v.val v.val) := by
  have served := schedules_serveCore (s.referenceJudged v ppm) v
  have core : (s.referenceJudged v ppm).front.converters[v] = { s.front.converters[v] with refRunning := false } := by
    rw [referenceJudged_front, converter_setConverter_same]
  refine ⟨(s.referenceJudged v ppm).serveCore v, congrArg Host.Outcome.next (if_pos ⟨runs, checks⟩), ?_, ?_, ?_, fun fails opened => ?_⟩
  · rw [serveCore_noReference (by rw [core]; exact none_), core]
  · rw [served.values _ _ (by omega) (by omega), get_referenceJudged s v ppm front_not_event]
    exact (State.get_put_other _ _ _ _ key_ne).trans (State.get_put_same _ _ _)
  · refine (bitOf_of 2 (served.values _ _ (by omega) (by omega))).trans ((bitOf_of 2 (get_referenceJudged s v ppm front_not_event)).trans ?_)
    exact bitOf_putBit_same _ _ _ _
  · refine lastLogged_of served.ash ?_
    unfold State.referenceJudged
    rw [if_pos (decide_eq_true fails)]
    refine lastLogged_log _ _ _ _ _ _ (logOpen_of opened rfl ?_)
    exact (State.get_put_other _ _ _ _ key_ne).trans (State.get_put_other _ _ _ _ key_ne)

end

/-- Settles O46: the conversion's three ends by `conversionEnd_eq`; a source that comes into effect leaves every core alone but the ones it takes a slot
from (`OtherSlots`), where `abortSlot_counts` and `abortSlot_stays` say which; idle cores that serve again change none of it (`Schedules`). -/
theorem conversionsAndBlanking : Obligations.ConversionsAndBlanking := by
  unfold Obligations.ConversionsAndBlanking
  intro s p runs
  refine ⟨fun v r t sl taken converts => ⟨fun again => ?_, fun once more => ?_, fun once last kept plain => ?_⟩, answers_blankInputChange runs,
    fun src t => answers_blankMaxDuration_released, fun src t => answers_blankMaxDuration runs, fun v t => answers_referenceCheck t,
    fun v ppm t => answers_referenceCheckEnd runs ppm t⟩
  · exact answers_conversionEnd_retake runs taken converts again
  · exact (answers_conversionEnd_first runs taken converts once more).mono fun u ⟨only, slot⟩ => ⟨only, _, slot, rfl, rfl, rfl, rfl, rfl⟩
  · exact answers_conversionEnd_last runs taken converts once last kept plain

end Sys2Proof.Machine
end

section
/-! SUPPORT. What the users of a published channel leave alone (`KeepsChannels`, R186, R214, R404-R419), behind
`Obligations.ResultsAndChannelStates`. -/

namespace Sys2Proof.Machine

open Sys2Proof

/-! ### The frame -/

/-- From `s` to `t` no slot result comes or goes, and of the channels' values those of the subindices `moved` alone are other. -/
structure KeepsChannels (moved : List Nat) (s t : State) : Prop where
  results : ∀ n : Fin 64, (t.front.channels[n]).result = (s.front.channels[n]).result
  values  : ∀ i j, 0x2400 ≤ i ∧ i < 0x2440 ∧ j < 256 → j ∉ moved → t.get (i * 256 + j) = s.get (i * 256 + j)

section
variable {moved : List Nat} {s m t : State}

theorem KeepsChannels.refl (s : State) : KeepsChannels moved s s := ⟨fun _ => rfl, fun _ _ _ _ => rfl⟩
theorem KeepsChannels.trans (h : KeepsChannels moved s m) (g : KeepsChannels moved m t) : KeepsChannels moved s t :=
  ⟨fun n => (g.results n).trans (h.results n), fun i j hi hj => (g.values i j hi hj).trans (h.values i j hi hj)⟩
theorem KeepsChannels.mono {fewer : List Nat} (h : KeepsChannels fewer s t) (sub : fewer ⊆ moved) : KeepsChannels moved s t :=
  ⟨h.results, fun i j hi hj => h.values i j hi fun mem => hj (sub mem)⟩
theorem KeepsChannels.ite {a b : State} {p : Prop} [Decidable p] (h : KeepsChannels moved s a) (g : KeepsChannels moved s b) :
    KeepsChannels moved s (if p then a else b) := by
  split
  · exact h
  · exact g
theorem KeepsChannels.foldl {α : Type} (f : State → α → State) (l : List α) (h : KeepsChannels moved s m)
    (hf : ∀ m x, KeepsChannels moved s m → KeepsChannels moved s (f m x)) : KeepsChannels moved s (l.foldl f m) := by
  induction l generalizing m with
  | nil => exact h
  | cons x l ih => exact ih (hf _ _ h)

theorem KeepsChannels.get (h : KeepsChannels moved s t) (n : Fin 64) (j : Nat) (kept : j ∉ moved := by decide) (hj : j < 256 := by decide) :
    t.get ((0x2400 + n.val) * 256 + j) = s.get ((0x2400 + n.val) * 256 + j) := h.values _ _ (by omega) kept

/-! ### Values and parts -/

theorem KeepsChannels.put (h : KeepsChannels moved s m) (i j : Nat) (x : Int) (above : 0x2440 ≤ i ∧ j < 256 := by omega) :
    KeepsChannels moved s (m.put (i * 256 + j) x) :=
  ⟨h.results, fun k l hk kept => (State.get_put_other _ _ _ _ key_ne).trans (h.values k l hk kept)⟩
theorem KeepsChannels.putN (h : KeepsChannels moved s m) (i j x : Nat) (above : 0x2440 ≤ i ∧ j < 256 := by omega) :
    KeepsChannels moved s (m.putN (i * 256 + j) x) := h.put i j _ above
theorem KeepsChannels.putW (h : KeepsChannels moved s m) (i j : Nat) (x : Word) (above : 0x2440 ≤ i ∧ j < 256 := by omega) :
    KeepsChannels moved s (m.putW (i * 256 + j) x) := h.put i j _ above
theorem KeepsChannels.putBit (h : KeepsChannels moved s m) (i j b : Nat) (x : Bool) (above : 0x2440 ≤ i ∧ j < 256 := by omega) :
    KeepsChannels moved s (m.putBit (i * 256 + j) b x) := h.put i j _ above
theorem KeepsChannels.bump (h : KeepsChannels moved s m) (i j w : Nat) (above : 0x2440 ≤ i ∧ j < 256 := by omega) :
    KeepsChannels moved s (State.bump w m (i * 256 + j)) := h.put i j _ above

/-- A channel's own value of a subindex that moves. -/
theorem KeepsChannels.putOwnInt (h : KeepsChannels moved s m) (n : Fin 64) (j : Nat) (x : Int) (moves : j ∈ moved := by decide)
    (hj : j < 256 := by decide) : KeepsChannels moved s (m.put ((0x2400 + n.val) * 256 + j) x) :=
  ⟨h.results, fun k l hk kept => by
    have other : l ≠ j := fun same => kept (by rwa [same])
    exact (State.get_put_other _ _ _ _ key_ne).trans (h.values k l hk kept)⟩
theorem KeepsChannels.putOwn (h : KeepsChannels moved s m) (n : Fin 64) (j x : Nat) (moves : j ∈ moved := by decide) (hj : j < 256 := by decide) :
    KeepsChannels moved s (m.putN ((0x2400 + n.val) * 256 + j) x) := h.putOwnInt n j _ moves hj
theorem KeepsChannels.putOwnW (h : KeepsChannels moved s m) (n : Fin 64) (j : Nat) (x : Word) (moves : j ∈ moved := by decide)
    (hj : j < 256 := by decide) : KeepsChannels moved s (m.putW ((0x2400 + n.val) * 256 + j) x) := h.putOwn n j _ moves hj
theorem KeepsChannels.bumpOwn (h : KeepsChannels moved s m) (n : Fin 64) (j w : Nat) (moves : j ∈ moved := by decide) (hj : j < 256 := by decide) :
    KeepsChannels moved s (State.bump w m ((0x2400 + n.val) * 256 + j)) := h.putOwn n j _ moves hj

theorem KeepsChannels.setChannel (h : KeepsChannels moved s m) (n : Fin 64) (f : Channel → Channel)
    (hf : ∀ c, (f c).result = c.result := by intro _; rfl) : KeepsChannels moved s (m.setChannel n f) where
  results q := by
    rw [← h.results q, channel_setChannel]
    split
    · exact hf _
    · rfl
  values := h.values
theorem KeepsChannels.setDrive (h : KeepsChannels moved s m) (d : Fin 16) (f : DriveUnit → DriveUnit) : KeepsChannels moved s (m.setDrive d f) :=
  ⟨h.results, h.values⟩
theorem KeepsChannels.setOutput (h : KeepsChannels moved s m) (k : Fin 8) (f : OutputUnit → OutputUnit) : KeepsChannels moved s (m.setOutput k f) :=
  ⟨h.results, h.values⟩
theorem KeepsChannels.log (h : KeepsChannels moved s m) (code source w4 w5 w6 : Nat) : KeepsChannels moved s (m.log code source w4 w5 w6) where
  results := by
    rw [log_front]
    exact h.results
  values i j hi kept := (get_log _ _ _ _ _ _ _ front_not_event).trans (h.values i j hi kept)
theorem KeepsChannels.raiseSource (h : KeepsChannels moved s m) (src : Nat) : KeepsChannels moved s (m.raiseSource src) where
  results := by
    rw [raiseSource_front]
    exact h.results
  values i j hi kept := (get_raiseSource _ _ _ front_not_event).trans (h.values i j hi kept)

end

/-! ### Blanking (R186-R190) -/

/-- What slots that begin and slots that are lost move: the range, its changes, the missed due times. -/
abbrev slotMoves : List Nat := [0x17, 0x1E, 0x20]

section
variable {s m t : State}

theorem KeepsChannels.slots (h : KeepsChannels slotMoves s m) (g : AnySlots m t) : KeepsChannels slotMoves s t :=
  h.trans ⟨g.results, fun i j hi kept => g.values i j (by omega) (fun moves => kept (by simp [moves.2])) (by omega)⟩
theorem KeepsChannels.inForce (h : KeepsChannels slotMoves s m) (src : Nat) : KeepsChannels slotMoves s (m.inForce src) := ⟨h.results, h.values⟩
theorem KeepsChannels.outOfForce (h : KeepsChannels slotMoves s m) (src : Nat) : KeepsChannels slotMoves s (m.outOfForce src) := ⟨h.results, h.values⟩
theorem KeepsChannels.blankRelease (h : KeepsChannels slotMoves s m) (src : Nat) : KeepsChannels slotMoves s (m.blankRelease src) := by
  rw [blankRelease_eq]
  exact (h.outOfForce src).slots (anySlots_serveCores _)
theorem KeepsChannels.blankAssert (h : KeepsChannels slotMoves s m) (src u : Nat) : KeepsChannels slotMoves s (m.blankAssert src u) := by
  cases on : m.front.inEffect.testBit src with
  | true =>
    rw [blankAssert_on u on]
    exact h
  | false =>
    rw [blankAssert_off u on]
    exact ((h.slots (anySlots_unstarted m src u)).inForce src).slots (anySlots_behind _ src u)
theorem KeepsChannels.blankAgain (h : KeepsChannels slotMoves s m) (src : Nat) : KeepsChannels slotMoves s (m.blankAgain src) :=
  (h.blankRelease src).blankAssert src _

/-! ### Drives, current outputs and the users of a channel (R214, R404-R419) -/

theorem KeepsChannels.evalTable (h : KeepsChannels slotMoves s m) (d : Fin 16) (k : Nat) : KeepsChannels slotMoves s (m.evalTable d k) :=
  .ite (h.putN _ _ _) (h.putN _ _ _)
theorem KeepsChannels.driveEnter (h : KeepsChannels slotMoves s m) (d : Fin 16) (st : Nat) : KeepsChannels slotMoves s (m.driveEnter d st) := by
  unfold State.driveEnter
  extract_lets released counted cleared
  have hr : KeepsChannels slotMoves s released := .ite (h.blankRelease _) h
  clear_value released
  have hc : KeepsChannels slotMoves s counted := .ite (hr.putN _ _ _) hr
  clear_value counted
  have hb : KeepsChannels slotMoves s cleared := .ite (((hc.putBit _ _ _ _).putBit _ _ _ _).putBit _ _ _ _) hc
  exact .ite h ((hb.putN _ _ _).raiseSource _)
theorem KeepsChannels.driveStart (h : KeepsChannels slotMoves s m) (d : Fin 16) (k : Nat) : KeepsChannels slotMoves s (m.driveStart d k) :=
  ((h.driveEnter d _).putN _ _ _).blankAgain _
theorem KeepsChannels.tableUse (h : KeepsChannels slotMoves s m) (d : Fin 16) : KeepsChannels slotMoves s (m.tableUse d) := by
  unfold State.tableUse
  extract_lets use entering used evaluated
  have he : KeepsChannels slotMoves s evaluated := .ite ((h.setDrive d _).evalTable d 0) (h.setDrive d _)
  exact .ite (he.log _ _ _ _ _) he
theorem KeepsChannels.driveAdvance (h : KeepsChannels slotMoves s m) (d : Fin 16) : KeepsChannels slotMoves s (m.driveAdvance d) := by
  unfold State.driveAdvance
  extract_lets noTach idle st go
  have hi : KeepsChannels slotMoves s idle := .ite (h.driveEnter d _) h
  clear_value idle
  have started : KeepsChannels slotMoves s
      (if go then (if noTach then (idle.driveEnter d driveRunning).blankAgain (blankDrive d) else idle.driveStart d 1) else idle) :=
    .ite (.ite ((hi.driveEnter d _).blankAgain _) (hi.driveStart d 1)) hi
  exact .ite (h.driveEnter d _) (.ite started (.ite hi (.ite (.ite hi (hi.driveEnter d _)) (.ite (hi.driveEnter d _) hi))))
theorem KeepsChannels.serveDrive (h : KeepsChannels slotMoves s m) (d : Fin 16) : KeepsChannels slotMoves s (m.serveDrive d) := by
  rw [serveDrive_eq]
  have held : KeepsChannels slotMoves s (m.driveHold d) := ⟨h.results, h.values⟩
  have settled : KeepsChannels slotMoves s (m.driveSettled d) := ((((held.tableUse d).driveAdvance d).tableUse d).driveAdvance d).tableUse d
  exact (settled.put _ _ _).setDrive d _

theorem KeepsChannels.outputCleared (h : KeepsChannels slotMoves s m) (k : Fin 8) : KeepsChannels slotMoves s (m.outputCleared k) :=
  .ite ((h.putBit _ _ _ _).putBit _ _ _ _) h
theorem KeepsChannels.serveOutput (h : KeepsChannels slotMoves s m) (k : Fin 8) : KeepsChannels slotMoves s (m.serveOutput k) := by
  unfold State.serveOutput
  extract_lets now held r clamped forced shown pinned
  have hf : KeepsChannels slotMoves s forced := .ite ((h.setOutput k _).bump _ _ _) (h.setOutput k _)
  clear_value forced
  have hp : KeepsChannels slotMoves s pinned := (((hf.putN _ _ _).putW _ _ _).putBit _ _ _ _).setOutput k _
  exact hp.outputCleared k

theorem KeepsChannels.channelConsumers (h : KeepsChannels slotMoves s m) (n : Nat) : KeepsChannels slotMoves s (m.channelConsumers n) := by
  unfold State.channelConsumers
  exact .foldl _ _ (.foldl _ _ h fun _ d g => .ite ((g.evalTable d _).serveDrive d) g) fun _ k g => .ite (g.serveOutput k) g

end

end Sys2Proof.Machine
end

section
/-! SUPPORT. The publication of a result, stage by stage (R174, R196-R210), and `Obligations.ResultsAndChannelStates`. -/

namespace Sys2Proof.Machine

open Sys2Proof

/-! ### The table of R208, row by row -/

section
variable {st hc cc k nr hard soft : Nat}

theorem judgeResult_good (ne : st ≠ chanBroken) (h : hard = 0) (g : soft = 0) :
    judgeResult st hc cc k nr (hard != 0) (soft != 0) = ⟨chanOk, .measured, 0, cc⟩ := by simp [judgeResult, ne, h, g]
theorem judgeResult_soft (ne : st ≠ chanBroken) (h : hard = 0) (g : soft ≠ 0) :
    judgeResult st hc cc k nr (hard != 0) (soft != 0) = ⟨chanSuspect, .measured, 0, cc⟩ := by simp [judgeResult, ne, h, g]
theorem judgeResult_hard (ne : st ≠ chanBroken) (h : hard ≠ 0) (few : hc + 1 < k) :
    judgeResult st hc cc k nr (hard != 0) (soft != 0) = ⟨chanSuspect, .held, hc + 1, cc⟩ := by simp [judgeResult, ne, h, few]
theorem judgeResult_breaks (ne : st ≠ chanBroken) (h : hard ≠ 0) (enough : k ≤ hc + 1) :
    judgeResult st hc cc k nr (hard != 0) (soft != 0) = ⟨chanBroken, .substitute, 0, cc⟩ := by
  simp [judgeResult, ne, h, Nat.not_lt.2 enough]
theorem judgeResult_broken (broken : st = chanBroken) (evidence : hard ≠ 0 ∨ soft ≠ 0) :
    judgeResult st hc cc k nr (hard != 0) (soft != 0) = ⟨chanBroken, .substitute, hc, 0⟩ := by simp [judgeResult, broken, evidence]
theorem judgeResult_clean (broken : st = chanBroken) (h : hard = 0) (g : soft = 0) (few : cc + 1 < nr) :
    judgeResult st hc cc k nr (hard != 0) (soft != 0) = ⟨chanBroken, .substitute, hc, cc + 1⟩ := by simp [judgeResult, broken, h, g, few]
theorem judgeResult_recovers (broken : st = chanBroken) (h : hard = 0) (g : soft = 0) (enough : nr ≤ cc + 1) :
    judgeResult st hc cc k nr (hard != 0) (soft != 0) = ⟨chanOk, .measured, hc, 0⟩ := by
  simp [judgeResult, broken, h, g, Nat.not_lt.2 enough]

end

/-! ### The stages of a publication -/

/-- The result leaves its slot; the value before it is kept for its companions. -/
def State.resultTaken (s : State) (n : Fin 64) (w : Nat) : State :=
  s.setChannel n fun c => { c with result := none, published := some w, prior := (s.word (Key.chanValue n), s.channelGood n) }

/-- The raw words, the input quantity and the counts of a result. -/
def State.sampled (s : State) (n : Fin 64) (r : RawResult) (u companion : Word) (hard : Nat) : State :=
  let s1 := (((s.putW (Key.chanRawSample n) r.primary).putW (Key.chanRawSecondary n) r.secondary).putW (Key.chanRawRatio n) r.ratio).bump 32 (Key.chanResults n)
  let s2 := if r.primary.toNat.testBit 3 then s1.bump 32 (Key.chanBlankDelays n) else s1
  let s3 := if hard.testBit reasonLinError then s2.bump 32 (Key.chanLinearisationErrors n) else s2
  ((s3.putW (Key.chanInputQuantity n) u).putW (Key.chanCompanionValueUsed n) companion).bumpWrap (Key.chanResultSequence n)

/-- The value `v` that the judgement `j` gives, with its reasons and the counts. -/
def State.valued (s : State) (n : Fin 64) (r : RawResult) (j : Judged) (v lo hi : Word) (reasons : Nat) : State :=
  let noted := if j.value = .measured then s.noteMeasured n r v else s
  let shown := (noted.putW (Key.chanValue n) v).put (Key.chanValueQ15 n) (q15OfSpan v lo hi)
  ((shown.putN (Key.chanReasons n) reasons).putN (Key.chanHardCount n) j.hard).putN (Key.chanCleanCount n) j.clean

/-- A channel that breaks or recovers is logged; the counters of its result are kept for R218. -/
def State.reported (s : State) (n : Fin 64) (j : Judged) (st op seconds reasons last : Nat) (linError : Bool) : State :=
  let logged := if j.state = chanBroken ∧ st ≠ chanBroken then
      ((s.setChannel n (fun c => { c with brokenAt := op })).bump 32 (Key.chanBROKENEntries n)).log 0x0301 n n reasons last
    else if st = chanBroken ∧ j.state = chanOk then s.log 0x0302 n n seconds
    else s
  logged.setChannel n fun c => { c with counted := (decide (j.state = chanBroken ∧ st ≠ chanBroken), j.value == .measured, linError) }

section
variable (s : State) (n : Fin 64) (r : RawResult) (w : Nat)

/-- The linearised value of a result, if its form gives one. -/
def State.linearised : Option Word :=
  linearise (overlayView s.get r.frozen) n (inputQuantity (overlayView s.get r.frozen) n r) (s.companion (overlayView s.get r.frozen) n w).1
def State.hardFound : Nat :=
  hardReasons (overlayView s.get r.frozen) n r (inputQuantity (overlayView s.get r.frozen) n r) (s.linearised n r w)
def State.softFound : Nat :=
  match s.linearised n r w with
  | some y => if s.hardFound n r w = 0 then
      s.softReasons (overlayView s.get r.frozen) n r y (s.companion (overlayView s.get r.frozen) n w).2 else 0
  | none => 0

/-- What the table of R208 makes of a result. -/
def State.verdict : Judged :=
  judgeResult (s.nat (Key.chanState n)) (s.nat (Key.chanHardCount n)) (s.nat (Key.chanCleanCount n))
    ((overlayView s.get r.frozen).nat (Key.coefConfirmationCount n)) ((overlayView s.get r.frozen).nat (Key.coefRecoveryCount n))
    (s.hardFound n r w != 0) (s.softFound n r w != 0)

/-- The value that a row of the table publishes. -/
def State.valueGiven : Published → Word
  | .measured => (s.linearised n r w).getD 0
  | .held => s.word (Key.chanValue n)
  | .substitute => s.substitute (overlayView s.get r.frozen) n

theorem softReasons_resultTaken (f : View) (y : Word) (b : Bool) : (s.resultTaken n w).softReasons f n r y b = s.softReasons f n r y b := by
  unfold State.softReasons State.resultTaken
  rw [channel_setChannel_same]
  rfl
theorem substitute_resultTaken (f : View) : (s.resultTaken n w).substitute f n = s.substitute f n := by
  unfold State.substitute State.resultTaken
  rw [channel_setChannel_same]
  rfl

theorem publish_eq : ∃ lo hi op seconds reasons last linError, s.publish n r w =
    ((((((s.resultTaken n w).sampled n r (inputQuantity (overlayView s.get r.frozen) n r) (s.companion (overlayView s.get r.frozen) n w).1
      (s.hardFound n r w)).valued n r (s.verdict n r w) (s.valueGiven n r w (s.verdict n r w).value) lo hi reasons).reported n (s.verdict n r w)
      (s.nat (Key.chanState n)) op seconds reasons last linError).setChanState n (s.verdict n r w).state).channelConsumers n) := by
  unfold State.publish
  extract_lets f comp s0 u y hard soft st j last v lo hi reasons s1 s2 s3 s4 s5 s6 s7 s8
  have hsoft : soft = s.softFound n r w := by
    change (match s.linearised n r w with
      | some y => if s.hardFound n r w = 0 then (s.resultTaken n w).softReasons f n r y comp.2 else 0
      | none => 0) = _
    unfold State.softFound
    cases s.linearised n r w with
    | some y => exact congrArg (fun q => if s.hardFound n r w = 0 then q else 0) (softReasons_resultTaken s n r w f y comp.2)
    | none => rfl
  have hj : j = s.verdict n r w := by
    unfold State.verdict
    rw [← hsoft]
    rfl
  have hv : v = s.valueGiven n r w j.value := by
    change (match j.value with
      | .measured => y.getD 0
      | .held => s0.word (Key.chanValue n)
      | .substitute => s0.substitute f n) = _
    cases j.value with
    | measured => rfl
    | held => rfl
    | substitute => exact substitute_resultTaken s n w f
  have sampled : s4 = (s.resultTaken n w).sampled n r u comp.1 (s.hardFound n r w) := rfl
  clear_value s4
  have valued : s7 = s4.valued n r j v lo hi reasons := rfl
  clear_value s7
  refine ⟨lo, hi, s.clock.op, (s.clock.op - (s.front.channels[n]).brokenAt) / unitsPerSecond, reasons, last.toNat, hard.testBit reasonLinError, ?_⟩
  rw [← hj, ← hv, ← sampled, ← valued]
  rfl

end

/-! ### What each stage leaves behind -/

theorem word_of {s t : State} {k : Nat} (h : t.get k = s.get k) : t.word k = s.word k := congrArg (BitVec.ofInt 32) h
theorem word_of_get {s : State} {k : Nat} {v : Word} (h : s.get k = Int.ofNat v.toNat) : s.word k = v := by
  unfold State.word
  rw [h]
  exact (BitVec.ofInt_natCast _ _).trans ((BitVec.ofNat_toNat _ _).trans (BitVec.setWidth_eq _))

/-- The subindices that a result's raw words and counts stand at. -/
abbrev sampleMoves : List Nat := [0x14, 0x15, 0x16, 0x1C, 0x1F, 0x3B, 0x3D, 0x3E, 0x3F]
/-- Those that its judgement moves, without the state. -/
abbrev valueMoves : List Nat := [0x30, 0x31, 0x34, 0x35, 0x36, 0x37, 0x39, 0x3A]
/-- Those that the state's change and the users of the channel move. -/
abbrev stateMoves : List Nat := [0x33, 0x38, 0x17, 0x1E, 0x20]

section
variable {moved : List Nat} {s m : State}

theorem keeps_sampled (s : State) (n : Fin 64) (r : RawResult) (u companion : Word) (hard : Nat) :
    KeepsChannels sampleMoves s (s.sampled n r u companion hard) := by
  unfold State.sampled
  extract_lets raw delayed errors
  have hr : KeepsChannels sampleMoves s raw := ((((KeepsChannels.refl s).putOwnW n 0x14 _).putOwnW n 0x15 _).putOwnW n 0x16 _).bumpOwn n 0x1C 32
  clear_value raw
  have hd : KeepsChannels sampleMoves s delayed := .ite (hr.bumpOwn n 0x1F 32) hr
  clear_value delayed
  have he : KeepsChannels sampleMoves s errors := .ite (hd.bumpOwn n 0x3B 32) hd
  exact ((he.putOwnW n 0x3D u).putOwnW n 0x3E companion).putOwn n 0x3F _
theorem sampled_values (s : State) (n : Fin 64) (r : RawResult) (u companion : Word) (hard : Nat) :
    (s.sampled n r u companion hard).word (Key.chanRawSample n) = r.primary
    ∧ (s.sampled n r u companion hard).word (Key.chanRawSecondary n) = r.secondary
    ∧ (s.sampled n r u companion hard).word (Key.chanRawRatio n) = r.ratio
    ∧ (s.sampled n r u companion hard).word (Key.chanInputQuantity n) = u
    ∧ (s.sampled n r u companion hard).nat (Key.chanResults n) = satSucc 32 (s.nat (Key.chanResults n)) := by
  refine ⟨word_of_get ?_, word_of_get ?_, word_of_get ?_, word_of_get ?_, nat_of_get ?_⟩ <;>
    simp [State.sampled, State.bumpWrap, apply_ite State.get, ite_apply, State.get_putN, State.get_putW, State.get_bump, State.nat]

theorem keeps_valued (s : State) (n : Fin 64) (r : RawResult) (j : Judged) (v lo hi : Word) (reasons : Nat) :
    KeepsChannels valueMoves s (s.valued n r j v lo hi reasons) := by
  unfold State.valued
  extract_lets noted shown
  have measured : KeepsChannels valueMoves s (s.noteMeasured n r v) :=
    ((((KeepsChannels.refl s).setChannel n _).putOwnW n 0x37 _).putOwnW n 0x39 _).putOwnW n 0x3A _
  have hn : KeepsChannels valueMoves s noted := .ite measured (.refl s)
  clear_value noted
  have hs : KeepsChannels valueMoves s shown := (hn.putOwnW n 0x30 v).putOwnInt n 0x31 _
  exact ((hs.putOwn n 0x34 _).putOwn n 0x35 _).putOwn n 0x36 _
theorem valued_values (s : State) (n : Fin 64) (r : RawResult) (j : Judged) (v lo hi : Word) (reasons : Nat) :
    (s.valued n r j v lo hi reasons).word (Key.chanValue n) = v ∧ (s.valued n r j v lo hi reasons).nat (Key.chanHardCount n) = j.hard
    ∧ (s.valued n r j v lo hi reasons).nat (Key.chanCleanCount n) = j.clean := by
  refine ⟨word_of_get ?_, nat_of_get ?_, nat_of_get ?_⟩ <;>
    simp [State.valued, State.get_putN, State.get_putW, State.get_put]

theorem keeps_reported (s : State) (n : Fin 64) (j : Judged) (st op seconds reasons last : Nat) (linError : Bool) :
    KeepsChannels stateMoves s (s.reported n j st op seconds reasons last linError) := by
  unfold State.reported
  extract_lets logged
  have entered : KeepsChannels stateMoves s (State.bump 32 (s.setChannel n fun c => { c with brokenAt := op }) (Key.chanBROKENEntries n)) :=
    ((KeepsChannels.refl s).setChannel n _).bumpOwn n 0x38 32
  have hl : KeepsChannels stateMoves s logged := .ite (entered.log _ _ _ _ _) (.ite ((KeepsChannels.refl s).log _ _ _ _ _) (.refl s))
  exact hl.setChannel n _
theorem KeepsChannels.setChanState (h : KeepsChannels stateMoves s m) (n : Fin 64) (st : Nat) : KeepsChannels stateMoves s (m.setChanState n st) :=
  .ite h ((h.putOwn n 0x33 _).raiseSource _)
theorem nat_setChanState (s : State) (n : Fin 64) (st : Nat) : (s.setChanState n st).nat (Key.chanState n) = st := by
  unfold State.setChanState
  split
  · assumption
  · exact (nat_of (get_raiseSource _ _ _ front_not_event)).trans (State.nat_putN_same _ _ _)

end

/-! ### What a publication leaves behind -/

section
variable (s : State) (n : Fin 64) (r : RawResult) (w : Nat)

theorem publish_ends :
    ((s.publish n r w).front.channels[n]).result = none
    ∧ (s.publish n r w).word (Key.chanRawSample n) = r.primary ∧ (s.publish n r w).word (Key.chanRawSecondary n) = r.secondary
    ∧ (s.publish n r w).word (Key.chanRawRatio n) = r.ratio
    ∧ (s.publish n r w).word (Key.chanInputQuantity n) = inputQuantity (overlayView s.get r.frozen) n r
    ∧ (s.publish n r w).nat (Key.chanResults n) = satSucc 32 (s.nat (Key.chanResults n))
    ∧ (s.publish n r w).nat (Key.chanState n) = (s.verdict n r w).state
    ∧ (s.publish n r w).word (Key.chanValue n) = s.valueGiven n r w (s.verdict n r w).value
    ∧ (s.publish n r w).nat (Key.chanHardCount n) = (s.verdict n r w).hard
    ∧ (s.publish n r w).nat (Key.chanCleanCount n) = (s.verdict n r w).clean := by
  obtain ⟨lo, hi, op, seconds, reasons, last, linError, published⟩ := publish_eq s n r w
  rw [published]
  generalize s.verdict n r w = j
  generalize s.valueGiven n r w j.value = v
  have taken : ((s.resultTaken n w).front.channels[n]).result = none := congrArg Channel.result (channel_setChannel_same _ _ _)
  have count : (s.resultTaken n w).nat (Key.chanResults n) = s.nat (Key.chanResults n) := rfl
  generalize s.resultTaken n w = s0 at taken count ⊢
  obtain ⟨primary, secondary, ratio, quantity, results⟩ := sampled_values s0 n r (inputQuantity (overlayView s.get r.frozen) n r)
    (s.companion (overlayView s.get r.frozen) n w).1 (s.hardFound n r w)
  have sampled := keeps_sampled s0 n r (inputQuantity (overlayView s.get r.frozen) n r) (s.companion (overlayView s.get r.frozen) n w).1 (s.hardFound n r w)
  generalize s0.sampled n r _ _ _ = s4 at sampled primary secondary ratio quantity results ⊢
  obtain ⟨value, hardCount, cleanCount⟩ := valued_values s4 n r j v lo hi reasons
  have valued := keeps_valued s4 n r j v lo hi reasons
  generalize s4.valued n r j v lo hi reasons = s7 at valued value hardCount cleanCount ⊢
  have stated := (keeps_reported s7 n j (s.nat (Key.chanState n)) op seconds reasons last linError).setChanState n j.state
  have state := nat_setChanState (s7.reported n j (s.nat (Key.chanState n)) op seconds reasons last linError) n j.state
  generalize (s7.reported n j _ op seconds reasons last linError).setChanState n j.state = s9 at stated state ⊢
  have used := (KeepsChannels.refl (moved := slotMoves) s9).channelConsumers n.val
  have behind : KeepsChannels stateMoves s7 (s9.channelConsumers n) := stated.trans (used.mono (by decide))
  have late : KeepsChannels (valueMoves ++ stateMoves) s4 (s9.channelConsumers n) :=
    (valued.mono (List.subset_append_left _ _)).trans (behind.mono (List.subset_append_right _ _))
  refine ⟨?_, (word_of (late.get n 0x14)).trans primary, (word_of (late.get n 0x15)).trans secondary, (word_of (late.get n 0x16)).trans ratio,
    (word_of (late.get n 0x3D)).trans quantity, ((nat_of (late.get n 0x1C)).trans results).trans (congrArg (satSucc 32) count),
    (nat_of (used.get n 0x33)).trans state, (word_of (behind.get n 0x30)).trans value, (nat_of (behind.get n 0x35)).trans hardCount,
    (nat_of (behind.get n 0x36)).trans cleanCount⟩
  rw [late.results, sampled.results, taken]

variable {s n r w}

/-- What stands on record behind the row ⟨state, value, counts⟩ of the table. -/
theorem publish_row {j : Judged} (row : s.verdict n r w = j) : (s.publish n r w).nat (Key.chanState n) = j.state
    ∧ (s.publish n r w).word (Key.chanValue n) = s.valueGiven n r w j.value ∧ (s.publish n r w).nat (Key.chanHardCount n) = j.hard
    ∧ (s.publish n r w).nat (Key.chanCleanCount n) = j.clean := by
  obtain ⟨-, -, -, -, -, -, stands⟩ := publish_ends s n r w
  rwa [row] at stands

theorem answers_publish (runs : s.clocksRun = true) (result : (s.front.channels[n]).result = some r) (live : chanLive s.get n.val = true)
    {P : State → Prop} (h : P (s.publish n r w)) : Answers (.resultPublish ⟨n, w⟩) s P := by
  refine ⟨s.publish n r w, congrArg Host.Outcome.next ((if_pos runs).trans ?_), h⟩
  dsimp only
  rw [result]
  exact if_pos live

end

/-- Settles O47: the row of R208 that applies by `judgeResult`'s cases, what stands on record by `publish_ends`. -/
theorem resultsAndChannelStates : Obligations.ResultsAndChannelStates := by
  unfold Obligations.ResultsAndChannelStates
  intro s n r w runs result live f comp u y hard soft st hc cc K N is
  refine answers_publish runs result live ?_
  obtain ⟨taken, primary, secondary, ratio, quantity, results, -⟩ := publish_ends s n r w
  have notBroken : st = chanOk ∨ st = chanSuspect → st ≠ chanBroken := by
    rintro (h | h) <;> rw [h] <;> decide
  exact ⟨taken, primary, secondary, ratio, quantity, results,
    fun h g ok => publish_row (judgeResult_good (notBroken ok) h g),
    fun h g ok => publish_row (judgeResult_soft (notBroken ok) h g),
    fun h ok few => publish_row (judgeResult_hard (notBroken ok) h few),
    fun h ok enough => publish_row (judgeResult_breaks (notBroken ok) h enough),
    fun evidence broken => publish_row (judgeResult_broken broken evidence),
    fun h g broken few => publish_row (judgeResult_clean broken h g few),
    fun h g broken enough => publish_row (judgeResult_recovers broken h g enough)⟩

end Sys2Proof.Machine
end

section
/-! SUPPORT. The arithmetic of a loop's sample (R233-R236, R269, R270, R280), behind `Obligations.LoopArithmetic`. -/

namespace Sys2Proof.Machine

open Sys2Proof

/-! ### Limits (R233, R234) -/

section
variable {lo hi v x y : Int}

theorem clampInt_below (h : v < lo) : clampInt lo hi v = lo := if_pos h
theorem clampInt_above (hl : lo ≤ v) (hh : hi < v) : clampInt lo hi v = hi := (if_neg (by omega)).trans (if_pos hh)
theorem clampInt_within (hl : lo ≤ v) (hh : v ≤ hi) : clampInt lo hi v = v := (if_neg (by omega)).trans (if_neg (by omega))

theorem clampInt_eq_max_min (h : lo ≤ hi) : clampInt lo hi v = max lo (min hi v) := by
  unfold clampInt
  split
  · omega
  · split <;> omega

theorem le_clampInt (h : lo ≤ hi) : lo ≤ clampInt lo hi v := by rw [clampInt_eq_max_min h]; exact le_max_left ..
theorem clampInt_le (h : lo ≤ hi) : clampInt lo hi v ≤ hi := by rw [clampInt_eq_max_min h]; exact max_le h (min_le_left ..)

theorem sat15_eq_max_min (v : Int) : sat15 v = max (-32768) (min 32767 v) := clampInt_eq_max_min (by decide)
theorem le_sat15 (v : Int) : -32768 ≤ sat15 v := le_clampInt (by decide)
theorem sat15_le (v : Int) : sat15 v ≤ 32767 := clampInt_le (by decide)
theorem sat15_within (hl : -32768 ≤ v) (hh : v ≤ 32767) : sat15 v = v := clampInt_within hl hh
theorem sat15_high (h : 32767 ≤ v) : sat15 v = 32767 := by rw [sat15_eq_max_min]; omega
theorem sat15_low (h : v ≤ -32768) : sat15 v = -32768 := by rw [sat15_eq_max_min]; omega

/-- Nothing is lost in an addition whose sum the 40-bit accumulator holds. -/
theorem add40_exact (h : -2 ^ 39 ≤ x + y ∧ x + y < 2 ^ 39) : add40 x y = x + y :=
  clampInt_within (by omega) (by omega)

theorem gain_eq (k : Int) (s : Nat) (x : Int) : gain k s x = k * x * 2 ^ s := by
  simp [gain]

theorem round15_eq_shiftRight (v : Int) : round15 v = (v + 0x4000) >>> 15 := 
  ((Int.shiftRight_natCast_right (v + 0x4000) 15).trans (Int.shiftRight_eq_div_pow (v + 0x4000) 15)).symm

/-- round15 is the nearest integer to v / 2^15, the upper one on a tie. -/
theorem round15_nearest (v : Int) : 32768 * round15 v ≤ v + 16384 ∧ v + 16384 < 32768 * (round15 v + 1) := by
  unfold round15
  omega

end

/-! ### The law (R235, R236) -/

/-- Two derivative terms that saturate alike give one derivative state. -/
theorem derivative_congr {c : LoopCoef} {d y z : Int} (h : sat15 (round15 (c.kd * y * 2 ^ c.sd)) = sat15 (round15 (c.kd * z * 2 ^ c.sd))) :
    derivative c d y = derivative c d z := by
  unfold derivative
  simp only [gain_eq]
  rw [h]

section
variable {c : LoopCoef} {uPre last : Int}

theorem limitOutput_unrated (h : c.rl = 0) : limitOutput c uPre last = clampInt c.umin c.umax uPre := if_pos h
theorem limitOutput_rated (h : c.rl ≠ 0) :
    limitOutput c uPre last = clampInt c.umin c.umax (clampInt (last - c.rl) (last + c.rl) (clampInt c.umin c.umax uPre)) := if_neg h

theorem limitOutput_within_limits (h : c.umin ≤ c.umax) : c.umin ≤ limitOutput c uPre last ∧ limitOutput c uPre last ≤ c.umax := by
  by_cases hr : c.rl = 0
  · rw [limitOutput_unrated hr]
    exact ⟨le_clampInt h, clampInt_le h⟩
  · rw [limitOutput_rated hr]
    exact ⟨le_clampInt h, clampInt_le h⟩

/-- The last clamp to Umin-Umax keeps the rate limit, for the last output lies in Umin-Umax itself. -/
theorem limitOutput_within_rate (h : c.umin ≤ c.umax) (hr : 0 < c.rl) (hl : c.umin ≤ last) (hh : last ≤ c.umax) :
    last - c.rl ≤ limitOutput c uPre last ∧ limitOutput c uPre last ≤ last + c.rl := by
  rw [limitOutput_rated hr.ne']
  have rate : last - c.rl ≤ last + c.rl := by omega
  have low : last - c.rl ≤ clampInt (last - c.rl) (last + c.rl) (clampInt c.umin c.umax uPre) := le_clampInt rate
  have high : clampInt (last - c.rl) (last + c.rl) (clampInt c.umin c.umax uPre) ≤ last + c.rl := clampInt_le rate
  rw [clampInt_eq_max_min h]
  omega

/-- An output that no limit touches is written as it is. -/
theorem limitOutput_free (hr : c.rl ≠ 0) (hl : c.umin ≤ uPre) (hh : uPre ≤ c.umax) (rl : last - c.rl ≤ uPre) (rh : uPre ≤ last + c.rl) :
    limitOutput c uPre last = uPre := by
  rw [limitOutput_rated hr, clampInt_within hl hh, clampInt_within rl rh, clampInt_within hl hh]

end

section
variable (c : LoopCoef) (x : LawState) (sp pv ff uRc : Int)

theorem law_acc : (law c x sp pv ff uRc).next.acc =
    clampInt (c.imin * 32768) (c.imax * 32768) (add40 x.acc (c.ki * (law c x sp pv ff uRc).e * 2 ^ c.si)) := by
  rw [← gain_eq]
  rfl

theorem law_uPre : (law c x sp pv ff uRc).uPre =
    sat15 (round15 (add40 (add40 (add40 (add40 (c.kp * (law c x sp pv ff uRc).e * 2 ^ c.sp) (law c x sp pv ff uRc).next.acc)
      ((law c x sp pv ff uRc).next.d * 32768)) (uRc * 32768)) (c.kff * ff * 2 ^ c.sf))) := by
  rw [← gain_eq, ← gain_eq]
  rfl

/-- The setpoint acts through the saturated error alone. -/
theorem law_congr_error {sp sp' : Int} (h : sat15 (sp' - pv) = sat15 (sp - pv)) : law c x sp' pv ff uRc = law c x sp pv ff uRc := by
  unfold law loopError
  rw [h]

variable {c x sp pv ff uRc}

theorem law_acc_exact (fits : -2 ^ 39 ≤ x.acc + c.ki * (law c x sp pv ff uRc).e * 2 ^ c.si ∧ x.acc + c.ki * (law c x sp pv ff uRc).e * 2 ^ c.si < 2 ^ 39)
    (hl : c.imin * 32768 ≤ x.acc + c.ki * (law c x sp pv ff uRc).e * 2 ^ c.si)
    (hh : x.acc + c.ki * (law c x sp pv ff uRc).e * 2 ^ c.si ≤ c.imax * 32768) :
    (law c x sp pv ff uRc).next.acc = x.acc + c.ki * (law c x sp pv ff uRc).e * 2 ^ c.si := by
  rw [law_acc, add40_exact fits, clampInt_within hl hh]

end

/-! ### The hand-over (R269, R270) -/

theorem rampLimit_nonneg {rl : Int} (r : Int) (h : Nat) (hr : 0 ≤ rl) : 0 ≤ rampLimit rl r h := by
  unfold rampLimit
  split
  · exact hr
  · exact le_max_of_le_left (by decide)

section
variable {c : LoopCoef} {applied sp pv ff uRc : Int} {h : Nat}

/-- A hand-over without a residual goes on at the value applied. -/
theorem handOver_bumpless (r : (handOver c applied sp pv ff uRc h).2 = 0) : (handOver c applied sp pv ff uRc h).1.u = applied :=
  (if_pos r).trans (sub_eq_zero.1 r).symm

/-- A residual is ramped off from the value applied (R270). -/
theorem handOver_ramps (rl : 0 ≤ c.rl) (r : (handOver c applied sp pv ff uRc h).2 ≠ 0) :
    applied - rampLimit c.rl (handOver c applied sp pv ff uRc h).2 h ≤ (handOver c applied sp pv ff uRc h).1.u
    ∧ (handOver c applied sp pv ff uRc h).1.u ≤ applied + rampLimit c.rl (handOver c applied sp pv ff uRc h).2 h := by
  have ramp := rampLimit_nonneg (handOver c applied sp pv ff uRc h).2 h rl
  have limits : applied - rampLimit c.rl (handOver c applied sp pv ff uRc h).2 h ≤ applied + rampLimit c.rl (handOver c applied sp pv ff uRc h).2 h := by
    omega
  have u : (handOver c applied sp pv ff uRc h).1.u = clampInt _ _ _ := if_neg r
  rw [u]
  exact ⟨le_clampInt limits, clampInt_le limits⟩

end

/-- Settles O49: every clamp of the sample by `clampInt`'s three cases, an unsaturated sum by `add40_exact`. -/
theorem loopArithmetic : Obligations.LoopArithmetic := by
  unfold Obligations.LoopArithmetic
  intro c x sp pv ff uRc output integral o p i f fits
  have integrator : c.imin * 32768 ≤ c.imax * 32768 := by omega
  refine ⟨fun v => ⟨round15_eq_shiftRight v, (round15_nearest v).1, (round15_nearest v).2, sat15_eq_max_min v⟩,
    fun lo hi v => ⟨clampInt_below, clampInt_above, clampInt_within⟩,
    fun hh hl => sat15_within hl hh, fun h => sat15_high (le_of_lt h), fun h => sat15_low (le_of_lt h), ?same,
    fun d y z hy hz => derivative_congr ((sat15_high hy).trans (sat15_high hz).symm),
    fun d y z hy hz => derivative_congr ((sat15_low hy).trans (sat15_low hz).symm),
    (le_clampInt integrator).trans_eq (law_acc ..).symm, (law_acc ..).trans_le (clampInt_le integrator), law_acc_exact,
    (limitOutput_within_limits output).1, (limitOutput_within_limits output).2, rfl, rfl, le_sat15 _, sat15_le _, ?sum,
    fun rl hl hh => (limitOutput_unrated rl).trans (clampInt_within hl hh), ?rate,
    fun applied h rl => ⟨handOver_bumpless, handOver_ramps rl, rfl, rfl⟩,
    fun q1 q0 before at_ after gamma e lam h => ⟨le_clampInt (by omega), clampInt_le (by omega)⟩⟩
  case same =>
    rintro sp' (⟨h, h'⟩ | ⟨h, h'⟩)
    · exact law_congr_error c x pv ff uRc ((sat15_high h').trans (sat15_high h).symm)
    · exact law_congr_error c x pv ff uRc ((sat15_low h').trans (sat15_low h).symm)
  case sum =>
    intro withI withD withRc withF
    have unsaturated : o.uPre = sat15 (round15 (p + o.next.acc + o.next.d * 32768 + uRc * 32768 + f)) := by
      rw [law_uPre, add40_exact withI, add40_exact withD, add40_exact withRc, add40_exact withF]
    rw [unsaturated, add_mul, ← add_assoc]
  case rate =>
    intro rl hl hh
    obtain ⟨low, high⟩ := limitOutput_within_rate (uPre := o.uPre) output rl hl hh
    exact ⟨low, high, fun rl' rh' ul uh => limitOutput_free rl.ne' ul uh rl' rh'⟩

end Sys2Proof.Machine
end

section
/-! SUPPORT. A statement about Bellows' commands that fails (R76, R261), with a state that the model evaluates to the refuting outcome. -/

namespace Sys2Proof.Machine

open Sys2Proof

/-- The module in SIMMER, its wake sources at their default, routed events and accesses from outside among them (R76). -/
def inSimmer : State := { State.reset with power := { Power.reset with phase := .awake, state := .simmer } }

theorem tickCountRead_inSimmer : ∃ t, exec (.tickCountRead sdoPath) inSimmer = .next t ∧ t.nat Key.powerLastWakeCause = 16 :=
  ⟨_, rfl, by decide +kernel⟩

/-- Refutes O48: its clause on the tick count has every running value stand behind the read in every power state. A read from outside
wakes the module from SIMMER (R76), so in `inSimmer` a read over CAN A leaves 16, bit 4 of the wake causes (R86), as the last one, which was 0. -/
theorem not_bellowsCommands : ¬ Obligations.BellowsCommands := by
  unfold Obligations.BellowsCommands
  intro h
  obtain ⟨-, -, -, -, tickCount, -, -⟩ := h inSimmer sdoPath
  obtain ⟨t, read, cause⟩ := tickCountRead_inSimmer
  obtain ⟨-, -, stands⟩ := (tickCount rfl).at read
  have before : t.nat Key.powerLastWakeCause = inSimmer.nat Key.powerLastWakeCause :=
    congrArg (fun o => (readKey objDefault o Key.powerLastWakeCause).toNat) stands
  rw [cause] at before
  exact absurd before (by decide)

end Sys2Proof.Machine
end

section
/-! SUPPORT. The columns of Kelsis beside what their steps change: single columns, and the operations of a step end that leave Kelsis as it is, behind
`Obligations.KelsisSteps`. -/

namespace Sys2Proof.Machine

open Sys2Proof

/-! ### Columns -/

theorem columns_setColumn (s : State) (c d : Fin 4) (f : KColumn → KColumn) :
    (s.setColumn c f).kelsis.columns[d] = if c = d then f s.kelsis.columns[d] else s.kelsis.columns[d] := by
  simp only [State.setColumn, Fin.getElem_fin, Vector.getElem_set, Fin.ext_iff]
  split
  · rename_i h; simp only [h]
  · rfl
theorem columns_setColumn_same (s : State) (c : Fin 4) (f : KColumn → KColumn) : (s.setColumn c f).kelsis.columns[c] = f s.kelsis.columns[c] :=
  (columns_setColumn s c c f).trans (if_pos rfl)
theorem columns_setColumn_other (s : State) {c d : Fin 4} (h : d ≠ c) (f : KColumn → KColumn) :
    (s.setColumn c f).kelsis.columns[d] = s.kelsis.columns[d] := (columns_setColumn s c d f).trans (if_neg h.symm)

/-! ### What leaves Kelsis as it is -/

theorem serveOutput_kelsis (s : State) (k : Fin 8) : (s.serveOutput k).kelsis = s.kelsis := by
  unfold State.serveOutput
  extract_lets now held r clamped forced shown pinned
  have same : forced.kelsis = s.kelsis := by
    unfold forced
    split
    · rfl
    · rfl
  clear_value forced
  unfold State.outputCleared
  split
  · exact same
  · exact same
theorem serveColumnOutputs_kelsis (s : State) (c : Nat) : (s.serveColumnOutputs c).kelsis = s.kelsis :=
  foldl_view State.kelsis _ _ s fun m k => by
    split
    · exact serveOutput_kelsis m k
    · rfl
theorem setReasons_kelsis (s : State) (c w : Nat) : (s.setReasons c w).kelsis = s.kelsis := by
  unfold State.setReasons
  extract_lets old named
  split
  · exact (serveColumnOutputs_kelsis _ c).trans (log_kelsis named _ _ _ _ _)
  · split
    · exact serveColumnOutputs_kelsis named c
    · rfl
theorem staleEnd_kelsis (s : State) (c : Fin 4) : (s.staleEnd c).kelsis = s.kelsis := by
  unfold State.staleEnd
  split
  · split
    · rfl
    · rfl
  · rfl
theorem publishStep_kelsis (s : State) (c : Fin 4) (w : KWork) : (s.publishStep c w).kelsis = s.kelsis := by
  unfold State.publishStep
  extract_lets k geo ms mean hot q m s1 s2 s3 s4 add s5 s6
  exact foldl_view State.kelsis (fun s e => s.putW (Key.colBindingLastNu c e.1) e.2) w.nus s6 fun _ _ => rfl

theorem enqueueFrame_kelsis (s : State) (p : Fin 4) (f : FlueFrame) : (s.enqueueFrame p f).kelsis = s.kelsis := by
  unfold State.enqueueFrame
  extract_lets q old counted
  split
  · generalize (if q = 1 then 4 else 16) = room
    split
    · rfl
    · split
      · exact raiseSource_kelsis counted 218
      · rfl
  · rfl
theorem routeFrame_kelsis (s : State) (f : FlueFrame) : (s.routeFrame f).kelsis = s.kelsis := by
  unfold State.routeFrame
  split
  · exact enqueueFrame_kelsis s _ f
  · rfl
theorem mailOrRoute_kelsis (s : State) (f : FlueFrame) : (s.mailOrRoute f).1.kelsis = s.kelsis := by
  unfold State.mailOrRoute
  split
  · exact routeFrame_kelsis s f
  split
  · rfl
  · rfl
  split
  · rfl
  dsimp only
  split
  · rfl
  split
  · rfl
  · exact log_kelsis _ _ _ _ _ _
theorem sendFlue_kelsis (s : State) (dst : Nat) (b : FlueBody) : (s.sendFlue dst b).kelsis = s.kelsis := by
  unfold State.sendFlue State.sendFrom
  split
  · rfl
  · exact mailOrRoute_kelsis _ _

end Sys2Proof.Machine
end

section
/-! SUPPORT. The start, the end and the publication of a column's step (R291), behind `Obligations.KelsisSteps`. -/

namespace Sys2Proof.Machine

open Sys2Proof

/-! ### A step's start (R291) -/

section
variable {s : State} {c : Fin 4} (enabled : s.flag (Key.colEnable c) = true) (runs : s.kelsisRuns = true)
include enabled runs

theorem columnRuns : (s.flag (Key.colEnable c) && s.kelsisRuns) = true := by rw [enabled, runs]; rfl

/-- Behind a step's start its moment is noted, whether the step has begun here or before. -/
theorem kelsisStepStart_started (lost : List Nat) : Answers (.kelsisStepStart ⟨c, lost⟩) s fun t =>
    (t.kelsis.columns[c]).started = some (s.stepStart c (s.stepNumber c)) := by
  refine answers_served rfl (clocksRun_of_kelsisRuns runs) ?_
  dsimp only
  rw [columnRuns enabled runs, Bool.not_true, Bool.false_or]
  split
  · rename_i before
    exact eq_of_beq before
  · rw [columns_setColumn_same]

/-- A number whose step has begun begins no other. -/
theorem kelsisStepStart_again (started : (s.kelsis.columns[c]).started = some (s.stepStart c (s.stepNumber c))) (lost : List Nat) :
    Answers (.kelsisStepStart ⟨c, lost⟩) s fun t => t = s := by
  refine answers_served rfl (clocksRun_of_kelsisRuns runs) ?_
  dsimp only
  rw [columnRuns enabled runs, started, Bool.not_true, Bool.false_or, if_pos (beq_self_eq_true _)]
end

/-! ### What the columns' steps have come to -/

/-- The step under way in each column, the last completed, the ensemble it left, and the outputs that wait for a tick. -/
def State.stepsView (s : State) (d : Fin 4) : Option KWork × Option Nat × Option KEnsemble × Option KWork :=
  ((s.kelsis.columns[d]).work, (s.kelsis.columns[d]).completed, (s.kelsis.columns[d]).ens, (s.kelsis.columns[d]).publish)

/-- From `s` to `t` no step has begun, ended or been published. -/
def SameSteps (s t : State) : Prop := t.stepsView = s.stepsView

section
variable {s m t : State}

theorem SameSteps.refl (s : State) : SameSteps s s := rfl
theorem SameSteps.kelsis (h : SameSteps s m) (same : t.kelsis = m.kelsis) : SameSteps s t := by
  unfold SameSteps State.stepsView at h ⊢
  rw [same]
  exact h
theorem SameSteps.ite {p : Prop} [Decidable p] (h : SameSteps s m) (g : SameSteps s t) : SameSteps s (if p then m else t) := by
  split
  · exact h
  · exact g
theorem SameSteps.foldl {α : Type} (f : State → α → State) (l : List α) (h : SameSteps s m) (hf : ∀ m x, SameSteps s m → SameSteps s (f m x)) :
    SameSteps s (l.foldl f m) := by
  induction l generalizing m with
  | nil => exact h
  | cons x l ih => exact ih (hf _ _ h)
theorem SameSteps.putN (h : SameSteps s m) (k v : Nat) : SameSteps s (m.putN k v) := h
theorem SameSteps.putBit (h : SameSteps s m) (k n : Nat) (b : Bool) : SameSteps s (m.putBit k n b) := h
theorem SameSteps.bump (h : SameSteps s m) (w k : Nat) : SameSteps s (State.bump w m k) := h
theorem SameSteps.raiseSource (h : SameSteps s m) (src : Nat) : SameSteps s (m.raiseSource src) := h.kelsis (raiseSource_kelsis _ _)
theorem SameSteps.log (h : SameSteps s m) (code source w4 w5 w6 : Nat) : SameSteps s (m.log code source w4 w5 w6) := h.kelsis (log_kelsis _ _ _ _ _ _)
theorem SameSteps.sendFlue (h : SameSteps s m) (dst : Nat) (b : FlueBody) : SameSteps s (m.sendFlue dst b) := h.kelsis (sendFlue_kelsis _ _ _)
theorem SameSteps.setReasons (h : SameSteps s m) (c w : Nat) : SameSteps s (m.setReasons c w) := h.kelsis (setReasons_kelsis _ _ _)
theorem SameSteps.staleEnd (h : SameSteps s m) (c : Fin 4) : SameSteps s (m.staleEnd c) := h.kelsis (staleEnd_kelsis _ _)
theorem SameSteps.setPredictor (h : SameSteps s m) (c : Fin 4) (f : KPredictor → KPredictor) : SameSteps s (m.setPredictor c f) := h

/-- A message that a column has taken for its next step (R319, R321). -/
theorem SameSteps.takeMessage (h : SameSteps s m) (c : Fin 4) (b : Boundary) :
    SameSteps s (m.setColumn c fun k => if b.up then { k with up := some b } else { k with down := some b }) := by
  refine Eq.trans (funext fun d => ?_) h
  unfold State.stepsView
  rw [columns_setColumn]
  split
  · split
    · rfl
    · rfl
  · rfl
theorem SameSteps.judgeBoundary (h : SameSteps s m) (b : Boundary) (src : Option Nat) (gap : Bool) : SameSteps s (m.judgeBoundary b src gap) := by
  unfold State.judgeBoundary
  extract_lets r taken counted
  have ht : SameSteps s taken := (h.bump _ _).putN _ _
  have hc : SameSteps s counted := .ite (ht.bump _ _) ht
  exact .ite h (.ite (h.bump _ _) (.ite h (hc.takeMessage r b)))
theorem SameSteps.sendBoundaries (h : SameSteps s m) (c : Fin 4) (b up : Boundary) : SameSteps s (m.sendBoundaries c b up) := by
  unfold State.sendBoundaries
  extract_lets fed a down u
  have hf : SameSteps s fed := .foldl _ _ h fun _ _ g => .ite (g.judgeBoundary _ _ _) g
  clear_value fed
  have hd : SameSteps s down := .ite hf (hf.sendFlue _ _)
  clear_value down
  split
  · exact hd.judgeBoundary _ _ _
  · exact hd.sendFlue _ _
  · exact hd
theorem SameSteps.enterFeedback (h : SameSteps s m) (c : Fin 4) (reasons : Nat) : SameSteps s (m.enterFeedback c reasons) :=
  ((((h.putN _ _).putN _ _).setPredictor c _).bump _ _ |>.bump _ _).log _ _ _ _ _
theorem SameSteps.fallBack (h : SameSteps s m) (c : Fin 4) : SameSteps s (m.fallBack c) := (h.putN _ _).setPredictor c _
theorem SameSteps.healthSeen (h : SameSteps s m) (entry : Bool) (c : Fin 4) : SameSteps s (m.healthSeen entry c) := by
  unfold State.healthSeen
  extract_lets r seen all
  have hs : SameSteps s seen := h.setPredictor c _
  clear_value seen
  exact .ite (.ite (hs.enterFeedback c _) hs) (.ite (hs.fallBack c) (.ite (hs.putN _ _) hs))
theorem SameSteps.predictorHealth (h : SameSteps s m) (col c : Fin 4) : SameSteps s (m.predictorHealth col c) := .ite (h.healthSeen _ c) h
theorem SameSteps.snapshotAt (h : SameSteps s m) (c : Fin 4) (w : KWork) : SameSteps s (m.snapshotAt c w) := by
  unfold State.snapshotAt
  split
  · split
    · exact h
    · exact h
  · exact h
end

/-! ### A step's end (R291) -/

/-- The step of column c has ended: outputs that still waited are out, and what it computed has entered the column's records. -/
def State.stepCompleted (s : State) (c : Fin 4) (w : KWork) : State := (s.publishColumn c).setColumn c fun k => k.complete w s.moduleNs

/-- What a completed step tells the rest of Kelsis and the module: predictors' status, links, reasons, messages, the map, its source. -/
def State.stepTold (s : State) (c : Fin 4) (w : KWork) : State :=
  let aged := (if w.initial then s.putBit (Key.predStatus c) 3 false else s).staleEnd c
  let noted := if w.ruined then aged.log 0x0508 c c else aged
  let judged := noted.setReasons c (noted.reasonsAt c w.ruined w.ens.innov)
  let down := judged.boundaryOf c w
  let sent := judged.sendBoundaries c down { down with up := true, width := 0, values := [] }
  (((List.finRange 4).foldl (fun s (p : Fin 4) => s.predictorHealth c p) sent).snapshotAt c w).raiseSource (222 + c.val)

theorem SameSteps.stepTold {s m : State} (h : SameSteps s m) (c : Fin 4) (w : KWork) : SameSteps s (m.stepTold c w) := by
  unfold State.stepTold
  extract_lets aged noted judged down sent
  have ha : SameSteps s aged := (SameSteps.ite (h.putBit _ 3 false) h).staleEnd c
  clear_value aged
  have hn : SameSteps s noted := .ite (ha.log _ _ _ _ _) ha
  clear_value noted
  have hs : SameSteps s sent := (hn.setReasons c _).sendBoundaries c _ _
  clear_value sent
  exact ((SameSteps.foldl _ _ hs fun _ p g => g.predictorHealth c p).snapshotAt c w).raiseSource _

theorem kelsisStepEnd_completes {s : State} {c : Fin 4} {w : KWork} (enabled : s.flag (Key.colEnable c) = true) (runs : s.kelsisRuns = true)
    (under : (s.kelsis.columns[c]).work = some w) : execKelsisStepEnd c s = .next ((s.stepCompleted c w).stepTold c w) := by
  unfold execKelsisStepEnd State.served
  beta_reduce
  rw [if_pos (clocksRun_of_kelsisRuns runs), under, columnRuns enabled runs]
  rfl

/-- A publication reaches no other column's records. -/
theorem columns_publishColumn_other (s : State) {c d : Fin 4} (h : d ≠ c) : (s.publishColumn c).kelsis.columns[d] = s.kelsis.columns[d] := by
  unfold State.publishColumn
  split
  · rw [serveColumnOutputs_kelsis, publishStep_kelsis, columns_setColumn_other s h]
  · rfl

theorem stepCompleted_same (s : State) (c : Fin 4) (w : KWork) : (s.stepCompleted c w).stepsView c = (none, some w.number, some w.ens, some w) := by
  unfold State.stepsView State.stepCompleted
  rw [columns_setColumn_same]
  rfl
theorem stepCompleted_other (s : State) {c d : Fin 4} (w : KWork) (h : d ≠ c) : (s.stepCompleted c w).stepsView d = s.stepsView d := by
  unfold State.stepsView State.stepCompleted
  rw [columns_setColumn_other _ h, columns_publishColumn_other s h]

end Sys2Proof.Machine
end

section
/-! SUPPORT. The publication of completed steps at a tick (R291, R322), behind `Obligations.KelsisSteps`. -/

namespace Sys2Proof.Machine

open Sys2Proof

/-! ### Values from a key on -/

/-- From `s` to `t` the values below `b` stand. -/
def SameBelow (b : Nat) (s t : State) : Prop := ∀ k < b, t.get k = s.get k

section
variable {b : Nat} {s m : State}

theorem SameBelow.refl (b : Nat) (s : State) : SameBelow b s s := fun _ _ => rfl
theorem SameBelow.put (h : SameBelow b s m) (k : Nat) (v : Int) (above : b ≤ k) : SameBelow b s (m.put k v) :=
  fun j hj => (State.get_put_other _ _ _ _ (by omega)).trans (h j hj)
theorem SameBelow.putN (h : SameBelow b s m) (k v : Nat) (above : b ≤ k := by exact Nat.le_add_right _ _) : SameBelow b s (m.putN k v) := h.put k _ above
theorem SameBelow.putW (h : SameBelow b s m) (k : Nat) (v : Word) (above : b ≤ k := by exact Nat.le_add_right _ _) : SameBelow b s (m.putW k v) := h.put k _ above
theorem SameBelow.bumpWrap (h : SameBelow b s m) (k : Nat) (above : b ≤ k := by exact Nat.le_add_right _ _) : SameBelow b s (m.bumpWrap k) := h.put k _ above
theorem SameBelow.putBit (h : SameBelow b s m) (k n : Nat) (v : Bool) (above : b ≤ k := by exact Nat.le_add_right _ _) : SameBelow b s (m.putBit k n v) := h.put k _ above
theorem SameBelow.foldl {α : Type} (f : State → α → State) (l : List α) (h : SameBelow b s m)
    (hf : ∀ m x, SameBelow b s m → SameBelow b s (f m x)) : SameBelow b s (l.foldl f m) := by
  induction l generalizing m with
  | nil => exact h
  | cons x l ih => exact ih (hf _ _ h)
end

/-! ### The outputs of one column (R322) -/

theorem publishStep_below (s : State) (c : Fin 4) (w : KWork) : SameBelow ((0x3010 + c) * 256) s (s.publishStep c w) := by
  unfold State.publishStep
  extract_lets k geo ms mean hot q m s1 s2 s3 s4 add s5 s6
  have h1 : SameBelow ((0x3010 + c) * 256) s s1 := (((SameBelow.refl _ s).putW _ _).putW _ _).putW _ _
  clear_value s1
  have h2 : SameBelow ((0x3010 + c) * 256) s s2 := (h1.putW _ _).putN _ _
  clear_value s2
  have h4 : SameBelow ((0x3010 + c) * 256) s s4 := ((((h2.putW _ _).putW _ _).putW _ _).putN _ _).bumpWrap _
  clear_value s4
  have h5 : SameBelow ((0x3010 + c) * 256) s s5 := ((h4.putN _ _).putN _ _).putN _ _
  clear_value s5
  have h6 : SameBelow ((0x3010 + c) * 256) s s6 := ((h5.putN _ _).putN _ _).putN _ _
  clear_value s6
  exact (SameBelow.foldl _ _ h6 fun _ e g => g.putW _ _).putBit _ _ _

/-- What a publication of column c's step shows, among others (R322). -/
structure ShowsStep (t : State) (c : Fin 4) (w : KWork) : Prop where
  number  : t.get (Key.colLastStep c) = Int.ofNat (w.number % 2 ^ 32)
  members : t.get (Key.colMembersInForce c) = Int.ofNat w.ens.members.length
  outlet  : t.get (Key.colOutletMoisture c) = Int.ofNat (fmean (w.outlet.map outletMoisture)).toNat
  sigma   : t.get (Key.colOutletMoistureSigma c) = Int.ofNat (fsigma (w.outlet.map outletMoisture)).toNat
  innov   : t.get (Key.colInnovationMean c) = Int.ofNat w.ens.innov.toNat

/-- The innovations of its bindings and its status are the last that a publication writes: its other values stand behind them. -/
theorem get_lastMarks (s : State) (c : Fin 4) (nus : List (Nat × Word)) (capped : Bool) (a : Nat) (below : a < 0xC0) (apart : a ≠ 0x40) :
    ((nus.foldl (fun s e => s.putW (Key.colBindingLastNu c e.1) e.2) s).putBit (Key.colStatus c) 7 capped).get ((0x3010 + c) * 256 + a)
      = s.get ((0x3010 + c) * 256 + a) := by
  have bindings : SameBelow ((0x3010 + c) * 256 + 0xC0) s (nus.foldl (fun s e => s.putW (Key.colBindingLastNu c e.1) e.2) s) :=
    .foldl _ _ (.refl _ s) fun _ e g => g.putW _ _ (Nat.add_le_add_left (Nat.le_add_right _ _) _)
  exact (State.get_put_other _ _ _ _ fun same => apart (Nat.add_left_cancel same)).trans (bindings _ (Nat.add_lt_add_left below _))

theorem publishStep_shows (s : State) (c : Fin 4) (w : KWork) : ShowsStep (s.publishStep c w) c w := by
  unfold State.publishStep
  extract_lets k geo ms mean hot q m s1 s2 s3 s4 add s5 s6
  have marks := get_lastMarks s6 c w.nus w.capped
  refine ⟨(marks 0x4A (by decide) (by decide)).trans ?_, (marks 0x4D (by decide) (by decide)).trans ?_, (marks 0x42 (by decide) (by decide)).trans ?_,
    (marks 0x43 (by decide) (by decide)).trans ?_, (marks 0x49 (by decide) (by decide)).trans ?_⟩
  all_goals simp [s6, s5, add, s4, s3, s2, s1, ms, State.get_putN, State.get_putW, State.bumpWrap]

/-- Only a column's own values and those of the objects from it on decide what it shows. -/
theorem ShowsStep.of {s t : State} {c : Fin 4} {w : KWork} (h : ShowsStep s c w) (same : ∀ a < 0x4E, t.get ((0x3010 + c) * 256 + a) = s.get ((0x3010 + c) * 256 + a)) :
    ShowsStep t c w :=
  ⟨(same 0x4A (by decide)).trans h.number, (same 0x4D (by decide)).trans h.members, (same 0x42 (by decide)).trans h.outlet,
    (same 0x43 (by decide)).trans h.sigma, (same 0x49 (by decide)).trans h.innov⟩

/-- Column c's step has been published: nothing waits, and its outputs are shown. -/
structure StepPublished (t : State) (c : Fin 4) (w : KWork) : Prop extends ShowsStep t c w where
  out : (t.kelsis.columns[c]).publish = none

/-! ### A tick's publications (R291) -/

theorem estimatorKey_column (c : Fin 4) {a : Nat} (h : a < 256) : estimatorKey ((0x3010 + c) * 256 + a) = true := by
  have index : ((0x3010 + c) * 256 + a) / 256 = 0x3010 + c := by omega
  unfold estimatorKey
  rw [index, Bool.and_eq_true, decide_eq_true_eq, decide_eq_true_eq]
  omega

theorem publishColumn_publishes {s : State} {c : Fin 4} {w : KWork} (h : (s.kelsis.columns[c]).publish = some w) :
    StepPublished (s.publishColumn c) c w := by
  unfold State.publishColumn
  rw [h]
  dsimp only
  refine ⟨(publishStep_shows _ c w).of fun a below => ((Estimator.refl _).serveColumnOutputs c).values _ (estimatorKey_column c (by omega)), ?_⟩
  rw [serveColumnOutputs_kelsis, publishStep_kelsis, columns_setColumn_same]

theorem publishColumn_below (s : State) (c d : Fin 4) (h : c < d) {a : Nat} (below : a < 256) :
    (s.publishColumn d).get ((0x3010 + c) * 256 + a) = s.get ((0x3010 + c) * 256 + a) := by
  unfold State.publishColumn
  split
  · rename_i w _
    exact (((Estimator.refl _).serveColumnOutputs d).values _ (estimatorKey_column c below)).trans (publishStep_below _ d w _ (by omega))
  · rfl

/-- What column c shows stands behind the publications of the columns after it. -/
theorem foldl_publishColumn_after {s : State} {c : Fin 4} {w : KWork} (l : List (Fin 4)) (after : ∀ d ∈ l, c < d)
    (h : StepPublished s c w) : StepPublished (l.foldl (fun s (d : Fin 4) => s.publishColumn d) s) c w := by
  induction l generalizing s with
  | nil => exact h
  | cons d l ih =>
    have later := after d List.mem_cons_self
    exact ih (fun e he => after e (List.mem_cons_of_mem _ he))
      ⟨h.toShowsStep.of fun a below => publishColumn_below s c d later (by omega), by rw [columns_publishColumn_other s later.ne]; exact h.out⟩
theorem foldl_publishColumn_before (s : State) {c : Fin 4} (l : List (Fin 4)) (before : ∀ d ∈ l, d < c) :
    (l.foldl (fun s (d : Fin 4) => s.publishColumn d) s).kelsis.columns[c] = s.kelsis.columns[c] := by
  induction l generalizing s with
  | nil => rfl
  | cons d l ih =>
    exact (ih _ fun e he => before e (List.mem_cons_of_mem _ he)).trans (columns_publishColumn_other s (before d List.mem_cons_self).ne')

/-- The columns are published in their order, and none writes to the values of one before it. -/
theorem kelsisPublish_publishes {s : State} {c : Fin 4} {w : KWork} (h : (s.kelsis.columns[c]).publish = some w) : StepPublished s.kelsisPublish c w := by
  obtain ⟨before, after, order⟩ := List.append_of_mem (List.mem_finRange c)
  have rising := List.pairwise_lt_finRange 4
  rw [order, List.pairwise_append, List.pairwise_cons] at rising
  obtain ⟨-, ⟨later, -⟩, earlier⟩ := rising
  unfold State.kelsisPublish
  rw [order, List.foldl_append, List.foldl_cons]
  refine foldl_publishColumn_after after later (publishColumn_publishes ?_)
  rw [foldl_publishColumn_before s before fun d hd => earlier d hd c List.mem_cons_self]
  exact h

end Sys2Proof.Machine
end

section
/-! SUPPORT. A step's deadline (R327), re-initialisation and LAB values (R292, R313, R330), the moisture map (R324, R340), and
`Obligations.KelsisSteps` itself. -/

namespace Sys2Proof.Machine

open Sys2Proof

/-! ### The deadline (R327) -/

theorem abandonStep_none {s : State} {c : Fin 4} (h : (s.kelsis.columns[c]).work = none) : s.abandonStep c = s := by
  unfold State.abandonStep
  rw [h]

/-- A column whose step is dropped: the LAB values that the step took are back in the queue. -/
def KColumn.giveBack (k : KColumn) (w : KWork) : KColumn := { k.dropWork with lab := (w.lab ++ k.lab).drop ((w.lab ++ k.lab).length - 8) }

/-- The step of column c dropped, and the overrun noted for the next evaluation. -/
def State.stepDropped (s : State) (c : Fin 4) (w : KWork) : State :=
  let dropped := s.setColumn c fun k => k.giveBack w
  { dropped with kelsis := { dropped.kelsis with overrun := true } }

/-- The keys that an abandoned step moves. -/
abbrev deadlineKeys (c : Nat) : List Nat := [Key.colLABQueue c, Key.colOverruns c, Key.kelsisOverruns]

/-- The overrun counted. -/
def State.overrunCounted (s : State) (c : Fin 4) : State :=
  ((s.putN (Key.colLABQueue c) (s.kelsis.columns[c]).lab.length).bump 32 (Key.colOverruns c)).bump 32 Key.kelsisOverruns

theorem abandonStep_some {s : State} {c : Fin 4} {w : KWork} (h : (s.kelsis.columns[c]).work = some w) : s.abandonStep c =
    (((s.stepDropped c w).overrunCounted c).log 0x0501 c c 0 (s.nat Key.kelsisSheddingStage)).raiseSource (222 + c.val) := by
  unfold State.abandonStep
  rw [h]
  rfl

theorem columns_stepDropped (s : State) (c : Fin 4) (w : KWork) : (s.stepDropped c w).kelsis.columns[c]
    = (s.kelsis.columns[c]).giveBack w := columns_setColumn_same s c fun k => k.giveBack w

theorem overrunCounted_moves (s : State) (c : Fin 4) : Moves s (s.overrunCounted c) (deadlineKeys c) :=
  (((Moves.refl s _).putN _ _ List.mem_cons_self).bump _ _ (List.mem_cons_of_mem _ List.mem_cons_self)).bump _ _
    (List.mem_cons_of_mem _ (List.mem_cons_of_mem _ (List.mem_singleton_self _)))

theorem overrunKeys_apart (c : Fin 4) : Key.colOverruns c ∉ eventKeys ∧ Key.kelsisOverruns ∉ eventKeys ∧ Key.ashFull ∉ deadlineKeys c ++ eventKeys
    ∧ Key.colOverruns c ≠ Key.kelsisOverruns ∧ Key.colOverruns c ≠ Key.colLABQueue c ∧ Key.kelsisOverruns ≠ Key.colLABQueue c := by revert c; decide

theorem overrunCounted_counts (s : State) (c : Fin 4) : (s.overrunCounted c).nat (Key.colOverruns c) = satSucc 32 (s.nat (Key.colOverruns c))
    ∧ (s.overrunCounted c).nat Key.kelsisOverruns = satSucc 32 (s.nat Key.kelsisOverruns) := by
  obtain ⟨-, -, -, own, queue, allQueue⟩ := overrunKeys_apart c
  unfold State.overrunCounted
  constructor
  · rw [State.nat, State.get_bump, if_neg own, State.get_bump, if_pos rfl, nat_putN_of_ne _ _ _ _ queue]
    rfl
  · rw [State.nat, State.get_bump, if_pos rfl, State.nat, State.get_bump, if_neg own.symm, State.get_putN, if_neg allQueue]
    rfl

theorem stepDeadline_abandons {s : State} {c : Fin 4} {w : KWork} (under : (s.kelsis.columns[c]).work = some w) (runs : s.clocksRun = true) :
    Answers (.stepDeadline c) s fun t => (t.kelsis.columns[c]).work = none
      ∧ (t.kelsis.columns[c]).ens = (s.kelsis.columns[c]).ens ∧ (t.kelsis.columns[c]).completed = (s.kelsis.columns[c]).completed
      ∧ t.kelsis.overrun = true ∧ Moves { s with kelsis := t.kelsis } t (deadlineKeys c)
      ∧ t.nat (Key.colOverruns c) = satSucc 32 (s.nat (Key.colOverruns c))
      ∧ t.nat Key.kelsisOverruns = satSucc 32 (s.nat Key.kelsisOverruns)
      ∧ (s.logOpen → t.lastLogged 0x0501 c c 0 (s.nat Key.kelsisSheddingStage)) := by
  refine answers_served rfl runs ?_
  rw [abandonStep_some under]
  have kelsis : ((((s.stepDropped c w).overrunCounted c).log 0x0501 c c 0 (s.nat Key.kelsisSheddingStage)).raiseSource (222 + c.val)).kelsis
      = (s.stepDropped c w).kelsis := (raiseSource_kelsis _ _).trans (log_kelsis _ _ _ _ _ _)
  have told : Moves ((s.stepDropped c w).overrunCounted c) _ [] :=
    ((Moves.refl _ []).log 0x0501 c c 0 (s.nat Key.kelsisSheddingStage)).raiseSource (222 + c.val)
  obtain ⟨ownEvent, allEvent, full, -⟩ := overrunKeys_apart c
  obtain ⟨own, all⟩ := overrunCounted_counts (s.stepDropped c w) c
  rw [kelsis, columns_stepDropped]
  refine ⟨rfl, rfl, rfl, rfl, ?_, (nat_of (told.get _ ownEvent)).trans own, (nat_of (told.get _ allEvent)).trans all, fun opened => ?_⟩
  · exact ((overrunCounted_moves (s.stepDropped c w) c).log _ _ _ _ _).raiseSource _
  · exact lastLogged_raise _ (lastLogged_log _ _ _ _ _ _ (logOpen_of opened rfl ((overrunCounted_moves (s.stepDropped c w) c).get _ full)))

/-! ### Re-initialisation and LAB values (R292, R313, R330) -/

theorem columnReinitialise_orders {s : State} {p : Path} {c : Fin 4} (accepts : Accepts s p (Key.colReinitialise c) 1) :
    Answers (.columnReinitialise p c) s fun t =>
      t = (s.acknowledged p).setColumn c fun k => { k with reinit := some (k.reinit.getD (s.clock.tick + 1)) } := by
  refine answers_commanded rfl accepts ?_
  rw [State.acknowledged_clock]
  rfl

theorem labKeys_apart (c : Fin 4) : Key.colTooOld c ∉ eventKeys ∧ Key.colTooOld c ≠ Key.colLABQueue c ∧ Key.colTooOld c ≠ Key.colLABValue c
    ∧ Key.colLABValue c ≠ Key.colLABQueue c := by revert c; decide

/-- Column c, which was `k` with `old` values given up, has taken a LAB value into its queue of 8; from a full queue the oldest is given up and
counted (R313). -/
structure TakesLab (t : State) (c : Fin 4) (k : KColumn) (old : Nat) (v : Word) (at_ : Nat) : Prop where
  queue  : ∃ q, (t.kelsis.columns[c]).lab = (if k.lab.length = 8 then k.lab.drop 1 else k.lab) ++ [q] ∧ q.value = v ∧ q.tick = at_
  length : t.nat (Key.colLABQueue c) = min 8 (k.lab.length + 1)
  value  : t.word (Key.colLABValue c) = v
  tooOld : t.nat (Key.colTooOld c) = if k.lab.length = 8 then satSucc 32 old else old

theorem labSubmit_takes (s : State) (c : Fin 4) (v : Word) (at_ : Nat) (room : (s.kelsis.columns[c]).lab.length ≤ 8) :
    TakesLab (s.labSubmit c v at_) c s.kelsis.columns[c] (s.nat (Key.colTooOld c)) v at_ := by
  obtain ⟨-, oldQueue, oldValue, valueQueue⟩ := labKeys_apart c
  unfold State.labSubmit
  extract_lets local_ time k full queued counted
  have kelsis : counted.kelsis = queued.kelsis := by
    unfold counted
    split
    · rfl
    · rfl
  have lab : (counted.kelsis.columns[c]).lab = (if full then k.lab.drop 1 else k.lab) ++ [⟨time, v, at_⟩] := by
    rw [kelsis, columns_setColumn_same]
  have count : counted.nat (Key.colTooOld c) = if full then satSucc 32 (s.nat (Key.colTooOld c)) else s.nat (Key.colTooOld c) := by
    unfold counted
    split
    · exact State.nat_putN_same _ _ _
    · rfl
  refine ⟨⟨_, lab, rfl, rfl⟩, ?_, ?_, ?_⟩
  · rw [State.nat_putN_same, lab, List.length_append, List.length_singleton]
    split
    · rename_i eight
      rw [List.length_drop, show k.lab.length = 8 from eight]
      rfl
    · rename_i fewer
      have below : k.lab.length < 8 := lt_of_le_of_ne room fewer
      exact (min_eq_right below).symm
  · exact word_of_get ((State.get_put_other _ _ _ _ valueQueue).trans (State.get_put_same _ _ _))
  · exact ((nat_putN_of_ne _ _ _ _ oldQueue).trans (nat_putN_of_ne _ _ _ _ oldValue)).trans count

theorem labValueSubmit_takes {s : State} {p : Path} {c : Fin 4} {v : Word} (accepts : Accepts s p (Key.colLABValue c) v.toNat)
    (room : (s.kelsis.columns[c]).lab.length ≤ 8) : Answers (.labValueSubmit p c v) s fun t =>
      TakesLab t c s.kelsis.columns[c] (s.nat (Key.colTooOld c)) (fflush v) (s.clock.tick + 1) := by
  refine answers_commanded rfl accepts ?_
  have takes := labSubmit_takes (s.acknowledged p) c (fflush v) ((s.acknowledged p).clock.tick + 1) (by rw [State.acknowledged_kelsis]; exact room)
  rw [State.acknowledged_kelsis, State.nat_acknowledged s p _ (labKeys_apart c).1] at takes
  rw [State.acknowledged_clock] at takes ⊢
  exact takes

/-! ### The moisture map (R324, R340) -/

theorem mapSnapshot_asks {s : State} {p : Path} (accepts : Accepts s p Key.mapSnapshot 1) : Answers (.mapSnapshot p) s fun t =>
    Only { s.acknowledged p with kelsis := t.kelsis } t [Key.mapSnapshotState] ∧ t.nat Key.mapSnapshotState = 1 ∧ t.kelsis.snapshot = none
      ∧ t.kelsis.request = some (Fin.ofNat 4 (s.nat Key.mapColumn), s.nat Key.mapMember) := by
  refine answers_commanded rfl accepts ⟨(Only.refl _ _).putN _ _ (List.mem_singleton_self _), State.nat_putN_same _ _ _, rfl, ?_⟩
  have column := State.nat_acknowledged s p Key.mapColumn (by decide)
  have member := State.nat_acknowledged s p Key.mapMember (by decide)
  rw [← column, ← member]
  rfl

theorem mapCellRead_reads {s : State} {p : Path} {r : Row} (runs : s.clocksRun = true)
    (passes : s.checkRead (Key.mapCell (s.nat Key.mapSnapshotCells - 1)) = .ok r) : Answers (.mapCellRead p) s fun t =>
      t.lastAnswer p = some (.value (s.mapCellValue (s.nat Key.mapSnapshotCells - 1)).toNat)
      ∧ t.nat Key.mapLayerCursor = (if s.nat Key.mapLayerCursor + 1 < s.nat Key.mapSnapshotLayers then s.nat Key.mapLayerCursor + 1 else 0) := by
  refine answers_served rfl runs ?_
  dsimp only
  rw [passes]
  dsimp only
  refine ⟨State.lastAnswer_answer _ p _, (State.nat_putN_same _ _ _).trans ?_⟩
  have cursor := State.nat_touch s p Key.mapLayerCursor (by decide)
  have layers := State.nat_touch s p Key.mapSnapshotLayers (by decide)
  rw [← cursor, ← layers]
  rfl

/-- Settles O50: a step's end by `SameSteps`, which all that follows the completed records keeps; publication by `kelsisPublish_publishes`, since a column
writes from its own object on; the deadline by `abandonStep_some`. The model's choices behind the clauses: an abandoned step keeps the ensemble of the last
completed one (log 134), and a snapshot latches column and member with its command (log 141). -/
theorem kelsisSteps : Obligations.KelsisSteps := by
  unfold Obligations.KelsisSteps
  intro s p b
  refine ⟨fun c => ⟨fun enabled runs lost => kelsisStepStart_started enabled runs lost,
    fun enabled runs started lost => kelsisStepStart_again enabled runs started lost, fun w under enabled runs => ?_, fun w waits => ?_,
    fun w under runs => stepDeadline_abandons under runs, fun idle => ?_, fun accepts => columnReinitialise_orders accepts,
    fun v accepts room => ?_⟩, fun accepts => mapSnapshot_asks accepts,
    fun runs r passes => mapCellRead_reads runs passes⟩
  · have told : SameSteps (s.stepCompleted c w) ((s.stepCompleted c w).stepTold c w) := (SameSteps.refl _).stepTold c w
    have own := (congrFun told c).trans (stepCompleted_same s c w)
    refine ⟨_, kelsisStepEnd_completes enabled runs under, congrArg (·.1) own, congrArg (·.2.1) own, congrArg (·.2.2.1) own, congrArg (·.2.2.2) own,
      fun e apart => ?_⟩
    exact congrArg (·.2.2.2) ((congrFun told e).trans (stepCompleted_other s w apart))
  · obtain ⟨shows, out⟩ := kelsisPublish_publishes waits
    exact ⟨out, nat_of_get shows.number, nat_of_get shows.members, word_of_get shows.outlet, word_of_get shows.sigma, word_of_get shows.innov⟩
  · by_cases runs : s.clocksRun = true
    · exact answers_served rfl runs (abandonStep_none idle)
    · exact ⟨s, congrArg Host.Outcome.next (if_neg runs), rfl⟩
  · obtain ⟨t, submits, takes⟩ := labValueSubmit_takes accepts room
    exact ⟨t, submits, takes.queue, takes.length, takes.value, takes.tooOld⟩

end Sys2Proof.Machine
end

section
/-! SUPPORT. What work on actuator channels leaves alone (`Works`): the other channels, and the values of the outputs' objects but those that a start, an
end, a refusal or a deferral of the channels at work shows (R372-R402). One rule per operation. -/

namespace Sys2Proof.Machine

open Sys2Proof

/-! ### The frame -/

/-- What a start, an end, a refusal or a deferral of a channel shows (R372, R373, R381, R397, R401). -/
def shownKeys (a : Fin 20) : List Nat :=
  [Key.actCommand a, Key.actLastRefusal a, Key.actRefusals a, Key.actActivations a, Key.actLastDeferral a, Key.hsDeferrals (switchOf a)]

/-- Every other subindex of the dictionary. -/
theorem not_shown (b : Fin 20) {i j : Nat}
    (channel : i ≠ 0x2800 + b.val ∨ j ≠ 2 ∧ j ≠ 0x2A ∧ j ≠ 0x2D ∧ j ≠ 0x2C ∧ j ≠ 0x26 := by omega)
    (switch : i ≠ 0x2820 + b.val / 2 ∨ j ≠ 7 := by omega) (hj : j < 256 := by omega) : i * 256 + j ∉ shownKeys b := by
  simp only [shownKeys, Key.actCommand, Key.actLastRefusal, Key.actRefusals, Key.actActivations, Key.actLastDeferral, Key.hsDeferrals, switchOf,
    List.mem_cons, List.not_mem_nil, or_false, not_or]
  omega

/-- From `s` to `t` only the channels `c` were at work. -/
structure Works (c : Fin 20 → Prop) (s t : State) : Prop where
  units  : ∀ b, ¬c b → t.actUnit b = s.actUnit b
  values : ∀ i j, 0x2800 ≤ i ∧ i < 0x2A00 ∧ j < 256 → (∀ b, c b → i * 256 + j ∉ shownKeys b) → t.get (i * 256 + j) = s.get (i * 256 + j)

/-- No channel was at work. -/
abbrev NoWork : State → State → Prop := Works fun _ => False

theorem actUnit_of {s t : State} (acts : t.acts = s.acts) (b : Fin 20) : t.actUnit b = s.actUnit b := by unfold State.actUnit; rw [acts]
theorem actUnit_setAct_same (s : State) (a : Fin 20) (f : ActUnit → ActUnit) : (s.setAct a f).actUnit a = f (s.actUnit a) := by
  rw [actUnit_setAct, if_pos rfl]
theorem actUnit_setAct_other {a b : Fin 20} (s : State) (f : ActUnit → ActUnit) (h : b ≠ a) : (s.setAct a f).actUnit b = s.actUnit b := by
  rw [actUnit_setAct, if_neg h.symm]

section
variable {c : Fin 20 → Prop} {s m t : State}

theorem Works.refl (s : State) : Works c s s := ⟨fun _ _ => rfl, fun _ _ _ _ => rfl⟩
theorem Works.trans (h : Works c s m) (g : Works c m t) : Works c s t :=
  ⟨fun b hb => (g.units b hb).trans (h.units b hb), fun i j hi hk => (g.values i j hi hk).trans (h.values i j hi hk)⟩
theorem Works.more {d : Fin 20 → Prop} (h : Works c s t) (sub : ∀ b, c b → d b) : Works d s t :=
  ⟨fun b hb => h.units b fun hc => hb (sub b hc), fun i j hi hk => h.values i j hi fun b hc => hk b (sub b hc)⟩
theorem NoWork.works (h : NoWork s t) : Works c s t := h.more fun _ => False.elim
theorem Works.ite {a b : State} {p : Prop} [Decidable p] (h : Works c s a) (g : Works c s b) : Works c s (if p then a else b) := by
  split
  · exact h
  · exact g
theorem Works.foldl {α : Type} (f : State → α → State) (l : List α) (h : Works c s m) (hf : ∀ m x, x ∈ l → Works c s m → Works c s (f m x)) :
    Works c s (l.foldl f m) := by
  induction l generalizing m with
  | nil => exact h
  | cons x l ih => exact ih (hf _ _ List.mem_cons_self h) fun m y hy => hf m y (List.mem_cons_of_mem _ hy)

theorem Works.get (h : Works c s t) (i j : Nat) (unshown : ∀ b, c b → i * 256 + j ∉ shownKeys b)
    (hi : 0x2800 ≤ i ∧ i < 0x2A00 ∧ j < 256 := by omega) :
    t.get (i * 256 + j) = s.get (i * 256 + j) := h.values i j hi unshown
theorem Works.nat (h : Works c s t) (i j : Nat) (unshown : ∀ b, c b → i * 256 + j ∉ shownKeys b)
    (hi : 0x2800 ≤ i ∧ i < 0x2A00 ∧ j < 256 := by omega) :
    t.nat (i * 256 + j) = s.nat (i * 256 + j) := nat_of (h.get i j unshown hi)

/-- All values in the outputs' objects stand where no channel was at work. -/
theorem NoWork.get (h : NoWork s t) (i j : Nat) (hi : 0x2800 ≤ i ∧ i < 0x2A00 ∧ j < 256 := by omega) : t.get (i * 256 + j) = s.get (i * 256 + j) :=
  h.values i j hi fun _ => False.elim
theorem NoWork.nat (h : NoWork s t) (i j : Nat) (hi : 0x2800 ≤ i ∧ i < 0x2A00 ∧ j < 256 := by omega) : t.nat (i * 256 + j) = s.nat (i * 256 + j) :=
  nat_of (NoWork.get h i j hi)
theorem NoWork.actUnit (h : NoWork s t) (b : Fin 20) : t.actUnit b = s.actUnit b := h.units b id

/-! ### Values and parts -/

theorem Works.still (h : Works c s m) (acts : t.acts = m.acts)
    (values : ∀ i j, 0x2800 ≤ i ∧ i < 0x2A00 ∧ j < 256 → t.get (i * 256 + j) = m.get (i * 256 + j)) : Works c s t :=
  h.trans ⟨fun b _ => actUnit_of acts b, fun i j hi _ => values i j hi⟩
theorem Works.put (h : Works c s m) (k : Nat) (v : Int) (b : Fin 20) (at_ : c b) (shown : k ∈ shownKeys b) : Works c s (m.put k v) :=
  ⟨h.units, fun i j hi hk => (State.get_put_other _ _ _ _ (by rintro rfl; exact hk b at_ shown)).trans (h.values i j hi hk)⟩
theorem Works.putN (h : Works c s m) (k v : Nat) (b : Fin 20) (at_ : c b) (shown : k ∈ shownKeys b := by simp [shownKeys]) : Works c s (m.putN k v) :=
  h.put k _ b at_ shown
theorem Works.bump (h : Works c s m) (w k : Nat) (b : Fin 20) (at_ : c b) (shown : k ∈ shownKeys b := by simp [shownKeys]) :
    Works c s (State.bump w m k) := h.put k _ b at_ shown
theorem Works.setAct (h : Works c s m) (a : Fin 20) (f : ActUnit → ActUnit) (at_ : c a) : Works c s (m.setAct a f) :=
  ⟨fun b hb => (actUnit_setAct_other m f (by rintro rfl; exact hb at_)).trans (h.units b hb), h.values⟩

/-- A value given before the work and behind it. -/
theorem Works.putBoth (h : Works c s m) (k : Nat) (v : Int) : Works c (s.put k v) (m.put k v) := by
  refine ⟨h.units, fun i j hi hk => ?_⟩
  rw [State.get_put, State.get_put]
  split
  · rfl
  · exact h.values i j hi hk
/-- A count that goes up before the work and behind it, where the work does not move it. -/
theorem Works.bumpBoth (h : Works c s m) (w : Nat) {i j : Nat} (unshown : ∀ b, c b → i * 256 + j ∉ shownKeys b)
    (hi : 0x2800 ≤ i ∧ i < 0x2A00 ∧ j < 256 := by omega) : Works c (State.bump w s (i * 256 + j)) (State.bump w m (i * 256 + j)) := by
  unfold State.bump
  rw [h.nat i j unshown hi]
  exact h.putBoth _ _

theorem Works.raiseSource (h : Works c s m) (src : Nat) : Works c s (m.raiseSource src) :=
  h.still (raiseSource_acts _ _) fun _ _ _ => get_raiseSource _ _ _ front_not_event
theorem Works.log (h : Works c s m) (code source w4 w5 w6 : Nat) : Works c s (m.log code source w4 w5 w6) :=
  h.still (log_acts _ _ _ _ _ _) fun _ _ _ => get_log _ _ _ _ _ _ _ front_not_event
theorem Works.freeRound (h : Works c s m) (n : Int) (d : Nat) : Works c s (m.freeRound n d).2 := by
  unfold State.freeRound
  dsimp only
  split
  · exact h
  · exact h.still rfl fun _ _ _ => rfl
theorem Works.thermalDemand (h : Works c s m) (i : Fin 6) (ticks : Nat) : Works c s (m.thermalDemand i ticks) :=
  .ite (h.still rfl fun _ _ _ => rfl) h

/-! ### Blanking (R186-R190, R394) -/

theorem get_inForce (s : State) (src k : Nat) : (s.inForce src).get k = s.get k := rfl
theorem Works.blankRelease (h : Works c s m) (src : Nat) : Works c s (m.blankRelease src) := by
  refine h.still ((SameUnits.refl m).blankRelease src).acts fun i j hi => ?_
  rw [blankRelease_eq]
  exact (anySlots_serveCores (m.outOfForce src)).values i j (by omega) (by omega) (by omega)
theorem Works.blankAssert (h : Works c s m) (src u : Nat) : Works c s (m.blankAssert src u) := by
  have acts : (m.blankAssert src u).acts = m.acts := ((SameUnits.refl m).blankAssert src u).acts
  refine h.still acts fun i j hi => ?_
  cases on : m.front.inEffect.testBit src with
  | true => rw [blankAssert_on u on]
  | false =>
    rw [blankAssert_off u on, (anySlots_behind ((m.unstarted src u).inForce src) src u).values i j (by omega) (by omega) (by omega), get_inForce]
    exact (anySlots_unstarted m src u).values i j (by omega) (by omega) (by omega)
theorem Works.blankAgain (h : Works c s m) (src : Nat) : Works c s (m.blankAgain src) := (h.blankRelease src).blankAssert src _

/-! ### Ends, refusals and starts (R372-R375, R381, R383) -/

theorem Works.actOpen (h : Works c s m) (a : Fin 20) (at_ : c a) : Works c s (m.actOpen a) := by
  have opened := h.setAct a ActUnit.opened at_
  have released := Works.ite (p := (m.actUnit a).phase = .rise ∨ (m.actUnit a).phase = .dwell) (opened.blankRelease (blankAct a)) opened
  exact .ite (released.raiseSource _) released
theorem Works.actOff (h : Works c s m) (a : Fin 20) (at_ : c a) : Works c s (m.actOff a) := (h.actOpen a at_).putN _ _ a at_
theorem Works.actRefuse (h : Works c s m) (a : Fin 20) (reason : Nat) (at_ : c a) : Works c s (m.actRefuse a reason) :=
  ((((h.setAct a _ at_).putN _ _ a at_).putN _ _ a at_).bump _ _ a at_).raiseSource _
theorem Works.propBlock (h : Works c s m) (a : Fin 20) (at_ : c a) : Works c s (m.propBlock a) := h.setAct a _ at_
theorem Works.actTake (h : Works c s m) (a : Fin 20) (at_ : c a) : Works c s (m.actTake a) := h.setAct a _ at_
theorem Works.startDeferred (h : Works c s m) (a : Fin 20) (at_ : c a) : Works c s (m.startDeferred a) := by
  have drawn : Works c s m.freeNat.2 := h.still rfl fun _ _ _ => rfl
  exact .ite (((drawn.actTake a at_).putN _ _ a at_).bump _ _ a at_) h
theorem Works.serveProp (h : Works c s m) (a : Fin 20) (at_ : c a) : Works c s (m.serveProp a) := by
  have taken := fun f => h.setAct a f at_
  refine .ite h (.ite (.setAct (.ite ((taken _).actOpen a at_) (taken _)) a _ at_) (.ite ((taken _).setAct a _ at_) ?_))
  split
  · exact ((taken _).setAct a _ at_).actRefuse a _ at_
  · exact (((taken _).setAct a _ at_).bump _ _ a at_).raiseSource _
theorem Works.claimChanged (h : Works c s m) (a : Fin 20) (at_ : c (partnerOf a)) : Works c s (m.claimChanged a) :=
  .ite h ((h.startDeferred _ at_).serveProp _ at_)
theorem Works.permitForce (h : Works c s m) (class_ : Nat) (a : Fin 20) (at_ : c a) : Works c s (m.permitForce class_ a) :=
  .ite h (.ite ((h.propBlock a at_).actOff a at_) (.ite ((h.propBlock a at_).actRefuse a 5 at_) ((h.propBlock a at_).putN _ _ a at_)))

end

/-! ### The partner is at work (R381, R383) -/

theorem partnerOf_ne (a : Fin 20) : partnerOf a ≠ a := by revert a; decide
theorem switchOf_partnerOf (a : Fin 20) : switchOf (partnerOf a) = switchOf a := by revert a; decide

section
variable (s : State) (a : Fin 20)

theorem works_claimChanged : Works (· = partnerOf a) s (s.claimChanged a) := (Works.refl s).claimChanged a rfl
theorem actUnit_claimChanged : (s.claimChanged a).actUnit a = s.actUnit a := (works_claimChanged s a).units a (partnerOf_ne a).symm
theorem get_claimChanged {i j : Nat} (own : i = 0x2800 + a.val := by rfl) (hj : j < 256 := by decide) :
    (s.claimChanged a).get (i * 256 + j) = s.get (i * 256 + j) := by
  subst own
  refine (works_claimChanged s a).get _ j fun b hb => ?_
  have ne : b.val ≠ a.val := fun same => partnerOf_ne a (hb.symm.trans (Fin.ext same))
  exact not_shown b
theorem nat_claimChanged {i j : Nat} (own : i = 0x2800 + a.val := by rfl) (hj : j < 256 := by decide) :
    (s.claimChanged a).nat (i * 256 + j) = s.nat (i * 256 + j) := nat_of (get_claimChanged s a own hj)
theorem actUnit_claimChanged_other {b : Fin 20} (h : switchOf b ≠ switchOf a) : (s.claimChanged a).actUnit b = s.actUnit b :=
  (works_claimChanged s a).units b fun e => h (e ▸ switchOf_partnerOf a)

end

/-! ### What ends and refusals show (R372, R373) -/

theorem actUnit_actOpen (s : State) (a b : Fin 20) : (s.actOpen a).actUnit b = if a = b then (s.actUnit b).opened else s.actUnit b :=
  ((sameUnits_actOpen s a).actUnit b).trans (actUnit_setAct s a b _)
theorem actUnit_actOff (s : State) (a b : Fin 20) : (s.actOff a).actUnit b = if a = b then (s.actUnit b).opened else s.actUnit b := actUnit_actOpen s a b
theorem actUnit_actOff_same (s : State) (a : Fin 20) : (s.actOff a).actUnit a = (s.actUnit a).opened := (actUnit_actOff s a a).trans (if_pos rfl)
theorem command_actOff (s : State) (a : Fin 20) : (s.actOff a).nat (Key.actCommand a) = 0 := State.nat_putN_same _ _ _
theorem opened_decaying {u : ActUnit} (active : u.phase.active = true) : u.opened.decaying = true := by unfold ActUnit.opened; rw [active, Bool.or_true]

theorem actUnit_actRefuse_same (s : State) (a : Fin 20) (reason : Nat) : (s.actRefuse a reason).actUnit a = (s.actUnit a).refused :=
  ((sameUnits_actRefuse s a reason).actUnit a).trans (actUnit_setAct_same s a _)
theorem refused_idle {u : ActUnit} (inactive : u.phase.active = false) : u.refused.phase = .idle := by
  unfold ActUnit.refused
  rw [if_neg (by rw [inactive]; decide)]

/-- The reason is noted, the command reads 0, the refusal is counted. -/
theorem actRefuse_shows (s : State) (a : Fin 20) (reason : Nat) : (s.actRefuse a reason).nat (Key.actCommand a) = 0
    ∧ (s.actRefuse a reason).nat (Key.actLastRefusal a) = reason
    ∧ (s.actRefuse a reason).nat (Key.actRefusals a) = satSucc 32 (s.nat (Key.actRefusals a)) := by
  unfold State.actRefuse State.raiseAct State.bump
  refine ⟨?_, ?_, ?_⟩
  · rw [nat_raiseSource _ _ _ front_not_event, nat_putN_of_ne _ _ _ _ key_ne, State.nat_putN_same]
  · rw [nat_raiseSource _ _ _ front_not_event, nat_putN_of_ne _ _ _ _ key_ne, nat_putN_of_ne _ _ _ _ key_ne, State.nat_putN_same]
  · rw [nat_raiseSource _ _ _ front_not_event, State.nat_putN_same, nat_putN_of_ne _ _ _ _ key_ne, nat_putN_of_ne _ _ _ _ key_ne]
    rfl

/-- An activation that ends by itself: the channel opens, the command reads 0, channels of other switches stay. -/
structure Ends (s : State) (a : Fin 20) (t : State) : Prop where
  unit    : t.actUnit a = (s.actUnit a).opened
  command : t.nat (Key.actCommand a) = 0
  others  : ∀ b, switchOf b ≠ switchOf a → t.actUnit b = s.actUnit b

theorem actOff_ends (s : State) (a : Fin 20) : Ends s a ((s.actOff a).claimChanged a) where
  unit := (actUnit_claimChanged _ a).trans (actUnit_actOff_same s a)
  command := (nat_claimChanged _ a).trans (command_actOff s a)
  others b hb := (actUnit_claimChanged_other _ a hb).trans ((actUnit_actOff s a b).trans (if_neg (by rintro rfl; exact hb rfl)))

end Sys2Proof.Machine
end

section
/-! SUPPORT. Actuator commands and the phases of an activation (R372-R375, R378, R381, R384, R385, R396): `Obligations.ActuatorCommands`,
`Obligations.ActivationPhases` and `Obligations.ActivationFailures`. -/

namespace Sys2Proof.Machine

open Sys2Proof

/-! ### What a request reads (R373, R381) -/

/-- A value that a channel runs on is its own, frozen, or the present one (R151). -/
theorem view_of {s t : State} {b : Fin 20} {k : Nat} (unit : t.actUnit b = s.actUnit b) (value : t.get k = s.get k) :
    (t.actView b).nat k = (s.actView b).nat k := by
  unfold State.actView View.nat overlayView
  rw [unit]
  split
  · dsimp only
    rw [value]
  · rw [value]

/-- From `s` to `t` a command of channel `a` was noted: actuators, policies and the values that no event moves stand, but the command. -/
structure Notes (a : Fin 20) (s t : State) : Prop where
  acts     : t.acts = s.acts
  policies : t.policiesActive = s.policiesActive
  values   : ∀ k, k ∉ eventKeys → k ≠ Key.actCommand a → t.get k = s.get k

theorem notes_command (s : State) (p : Path) (a : Fin 20) (v : Nat) : Notes a s ((s.acknowledged p).putN (Key.actCommand a) v) where
  acts := State.acknowledged_acts s p
  policies := State.acknowledged_policies s p
  values k event other := (State.get_put_other _ _ _ _ other).trans (State.get_acknowledged s p k event)

section
variable {a : Fin 20} {s t : State}

/-- A value of the outputs' objects but the command. -/
theorem Notes.own (h : Notes a s t) (i j : Nat) (hi : 0x2800 ≤ i ∧ i < 0x2A00 ∧ j < 256 := by omega) (other : j ≠ 2 := by decide) :
    t.get (i * 256 + j) = s.get (i * 256 + j) := h.values _ front_not_event key_ne
theorem Notes.beside (h : Notes a s t) (k : Nat) (event : k ∉ eventKeys := by decide) (off : k < 0x2800 * 256 ∨ 0x2900 * 256 ≤ k := by decide) :
    t.get k = s.get k := h.values k event (by unfold Key.actCommand; omega)
theorem Notes.actUnit (h : Notes a s t) (b : Fin 20) : t.actUnit b = s.actUnit b := actUnit_of h.acts b

theorem Notes.outputsReset (h : Notes a s t) : t.outputsReset = s.outputsReset := by
  unfold State.outputsReset State.process State.coldHold
  rw [nat_of (h.beside Key.procProcessState), bitOf_of _ (h.beside Key.thermalStatus)]
theorem Notes.paired (h : Notes a s t) (x : Fin 10) : t.paired x = s.paired x := congrArg (· != 0) (h.own _ _)

/-- The checks of R373 read no command. -/
theorem Notes.actCheck (h : Notes a s t) (b : Fin 20) (safe : Bool) : t.actCheck b safe = s.actCheck b safe := by
  unfold State.actCheck State.pairOdd State.hsFaulty State.actFaulty State.bankDisabled State.permitAbsent State.safetyOk State.heatPermit State.p2Lost
  dsimp only
  rw [h.paired, nat_of (h.own (0x2820 + (switchOf b).val) 5), nat_of (h.own (0x2800 + b.val) 0x2B), nat_of (h.own (0x2800 + b.val) 3),
    nat_of (h.own (0x2800 + b.val) 1), bitOf_of _ (h.own 0x2940 7), bitOf_of _ (h.own 0x2940 7), bitOf_of _ (h.beside Key.thermalStatus),
    bitOf_of _ (h.beside Key.supplySupplyStatus), h.policies, h.actUnit, h.acts]

theorem Notes.view (h : Notes a s t) (b : Fin 20) (i j : Nat) (hi : 0x2800 ≤ i ∧ i < 0x2A00 ∧ j < 256 := by omega) (other : j ≠ 2 := by decide) :
    (t.actView b).nat (i * 256 + j) = (s.actView b).nat (i * 256 + j) := view_of (h.actUnit b) (h.own i j hi other)
theorem Notes.claim (h : Notes a s t) (b : Fin 20) : t.claim b = s.claim b := by
  unfold State.claim State.holdTarget State.bankThrottled
  rw [h.actUnit, h.view b (0x2800 + b.val) 5, h.view b (0x2800 + b.val) 6, bitOf_of _ (h.beside Key.thermalStatus)]
theorem Notes.partnerClaim (h : Notes a s t) (b : Fin 20) : t.partnerClaim b = s.partnerClaim b := by
  unfold State.partnerClaim
  rw [h.paired, h.claim]
theorem Notes.budget (h : Notes a s t) (b : Fin 20) : t.budget b = s.budget b := by
  unfold State.budget
  rw [h.view b (0x2820 + (switchOf b).val) 1]

end

/-! ### A channel's own change beside its partner's claim (R381) -/

theorem claim_setAct {a b : Fin 20} (s : State) (f : ActUnit → ActUnit) (h : b ≠ a) : (s.setAct a f).claim b = s.claim b := by
  unfold State.claim State.holdTarget State.actView
  rw [actUnit_setAct_other s f h]
  rfl
theorem partnerClaim_setAct (s : State) (a : Fin 20) (f : ActUnit → ActUnit) : (s.setAct a f).partnerClaim a = s.partnerClaim a := by
  unfold State.partnerClaim
  rw [claim_setAct s f (partnerOf_ne a)]
  rfl
theorem budget_setAct (s : State) (a : Fin 20) (f : ActUnit → ActUnit) (phase : (f (s.actUnit a)).phase = (s.actUnit a).phase)
    (frozen : (f (s.actUnit a)).frozen = (s.actUnit a).frozen) : (s.setAct a f).budget a = s.budget a := by
  unfold State.budget State.actView
  rw [actUnit_setAct_same, phase, frozen]
  rfl

/-! ### ON, PULSE and OFF (R372, R373, R381) -/

section
variable {s : State} {a : Fin 20} {pulse safe : Bool}

/-- A request of an idle SWITCHED channel comes to the checks of R373. -/
theorem actRequest_idle (idle : (s.actUnit a).phase = .idle) (enabled : s.outputsReset = false) (mode : s.nat (Key.actMode a) = 1) :
    (∀ r, s.actCheck a safe = some r → s.actRequest a pulse safe = s.actRefuse a r)
      ∧ (s.actCheck a safe = none → s.actRequest a pulse safe = (s.setAct a fun u => { u with pulse := pulse, bySafe := safe }).actOverlap a) := by
  unfold State.actRequest
  rw [if_neg (by rw [enabled, mode]; decide), if_neg (by rw [idle]; decide), if_neg (by rw [idle]; decide)]
  exact ⟨fun r fails => by rw [fails], fun passes => by rw [passes]⟩

theorem actRequest_starts (idle : (s.actUnit a).phase = .idle) (enabled : s.outputsReset = false) (mode : s.nat (Key.actMode a) = 1)
    (passes : s.actCheck a safe = none) (fits : s.nat (Key.actPeakCurrent a) * unitsPerMa + s.partnerClaim a ≤ s.budget a) :
    s.actRequest a pulse safe = s.setAct a fun u => { u with pulse := pulse, bySafe := safe, phase := .starting } := by
  rw [(actRequest_idle idle enabled mode).2 passes]
  unfold State.actOverlap
  rw [partnerClaim_setAct, budget_setAct s a _ rfl rfl]
  exact (if_pos fits).trans (State.setAct_setAct s a _ _)

theorem actCommand_request {v : Nat} (mode : s.nat (Key.actMode a) = 1) (on : v ≠ 0) :
    s.actCommand a v = (s.putN (Key.actCommand a) v).actRequest a (v == 2) false := by
  unfold State.actCommand
  rw [if_neg (by rw [mode]; decide), if_neg on]
theorem actCommand_off (mode : s.nat (Key.actMode a) = 1) (free : s.policiesActive = false) (sound : s.process ≠ psFault) :
    s.actCommand a 0 = ((s.putN (Key.actCommand a) 0).actOff a).claimChanged a := by
  unfold State.actCommand
  rw [if_neg (by rw [mode]; decide), if_pos rfl, if_neg (by simp [free, sound])]

end

/-- ON or PULSE, accepted and passed by every check, starts an idle channel. -/
theorem request_starts {c : Instr} {s : State} {p : Path} {a : Fin 20} {v : Nat}
    (row : exec c s = .next (s.commanded p (Key.actCommand a) v fun s => s.actCommand a v)) (on : v ≠ 0)
    (accepts : Accepts s p (Key.actCommand a) v) (idle : (s.actUnit a).phase = .idle) (enabled : s.outputsReset = false)
    (mode : s.nat (Key.actMode a) = 1) (passes : s.actCheck a false = none)
    (fits : s.nat (Key.actPeakCurrent a) * unitsPerMa + s.partnerClaim a ≤ s.budget a) : Answers c s fun t =>
      (t.actUnit a).phase = .starting ∧ (t.actUnit a).pulse = (v == 2) ∧ t.nat (Key.actCommand a) = v
        ∧ ∀ b, switchOf b ≠ switchOf a → t.actUnit b = s.actUnit b := by
  have notes := notes_command s p a v
  refine answers_commanded row accepts ?_
  rw [actCommand_request ((State.nat_acknowledged s p _ front_not_event).trans mode) on]
  rw [actRequest_starts ((congrArg ActUnit.phase (notes.actUnit a)).trans idle) (notes.outputsReset.trans enabled) ((nat_of (notes.own _ _)).trans mode)
    ((notes.actCheck a false).trans passes) (by rwa [nat_of (notes.own _ _), notes.partnerClaim, notes.budget])]
  rw [actUnit_setAct_same]
  exact ⟨rfl, rfl, State.nat_putN_same _ _ _, fun b hb => (actUnit_setAct_other _ _ (by rintro rfl; exact hb rfl)).trans (notes.actUnit b)⟩

theorem request_refused {s : State} {p : Path} {a : Fin 20} {r : Nat} (accepts : Accepts s p (Key.actCommand a) 1) (idle : (s.actUnit a).phase = .idle)
    (enabled : s.outputsReset = false) (mode : s.nat (Key.actMode a) = 1) (fails : s.actCheck a false = some r) :
    Answers (.actuatorCommandOn p a) s fun t => (t.actUnit a).phase = .idle ∧ t.nat (Key.actCommand a) = 0 ∧ t.nat (Key.actLastRefusal a) = r
      ∧ t.nat (Key.actRefusals a) = satSucc 32 (s.nat (Key.actRefusals a)) ∧ ∀ b, switchOf b ≠ switchOf a → t.actUnit b = s.actUnit b := by
  have notes := notes_command s p a 1
  refine answers_commanded rfl accepts ?_
  rw [actCommand_request ((State.nat_acknowledged s p _ front_not_event).trans mode) (by decide)]
  rw [(actRequest_idle ((congrArg ActUnit.phase (notes.actUnit a)).trans idle) (notes.outputsReset.trans enabled)
    ((nat_of (notes.own _ _)).trans mode)).1 r ((notes.actCheck a false).trans fails)]
  obtain ⟨command, reason, count⟩ := actRefuse_shows ((s.acknowledged p).putN (Key.actCommand a) 1) a r
  refine ⟨?_, command, reason, count.trans (congrArg _ (nat_of (notes.own _ _))), fun b hb => ?_⟩
  · rw [actUnit_actRefuse_same, notes.actUnit]
    exact refused_idle (by rw [idle]; rfl)
  · exact (((Works.refl _).actRefuse (c := (· = a)) a r rfl).units b (by rintro rfl; exact hb rfl)).trans (notes.actUnit b)

theorem commandOff_ends {s : State} {p : Path} {a : Fin 20} (accepts : Accepts s p (Key.actCommand a) 0) (mode : s.nat (Key.actMode a) = 1)
    (free : s.policiesActive = false) (sound : s.process ≠ psFault) : Answers (.actuatorCommandOff p a) s (Ends s a) := by
  have notes := notes_command s p a 0
  refine answers_commanded rfl accepts ?_
  have process : (s.acknowledged p).process = s.process := State.nat_acknowledged s p _ (by decide)
  have policies : (s.acknowledged p).policiesActive = s.policiesActive := notes.policies
  rw [actCommand_off ((State.nat_acknowledged s p _ front_not_event).trans mode) (policies.trans free) (by rwa [process])]
  have ends := actOff_ends ((s.acknowledged p).putN (Key.actCommand a) 0) a
  exact ⟨ends.unit.trans (congrArg _ (notes.actUnit a)), ends.command, fun b hb => (ends.others b hb).trans (notes.actUnit b)⟩

/-- Settles O36: an accepted command is a request, or an end, in a state that reads as the one before the write (`Notes`). The overlap rule that a start
rests on decides by the claims of both channels of the switch (R381). -/
theorem actuatorCommands : Obligations.ActuatorCommands := by
  unfold Obligations.ActuatorCommands
  intro s p a mode others
  refine ⟨fun accepts free sound => ?_, fun idle enabled passes fits => ⟨fun accepts => ?_, fun accepts => ?_⟩, fun r idle enabled fails accepts => ?_⟩
  · obtain ⟨t, out, ends⟩ := commandOff_ends accepts mode free sound
    exact ⟨t, out, by rw [ends.unit]; rfl, by rw [ends.unit]; rfl, ends.command, ends.others, by rw [ends.unit]; rfl⟩
  · exact request_starts rfl (by decide) accepts idle enabled mode passes fits
  · exact request_starts rfl (by decide) accepts idle enabled mode passes fits
  · exact request_refused accepts idle enabled mode fails

/-! ### The phases of an activation (R372, R375, R378) -/

theorem actBegin_begins (s : State) (a : Fin 20) : ((s.actBegin a).actUnit a).phase = .rise
    ∧ (s.actBegin a).nat (Key.actActivations a) = satSucc 32 (s.nat (Key.actActivations a))
    ∧ ∀ b, b ≠ a → (s.actBegin a).actUnit b = s.actUnit b := by
  unfold State.actBegin
  extract_lets s1 s2
  have demanded : NoWork s1 (s1.thermalDemand (if a.val < 10 then 2 else 3) 160) := (Works.refl s1).thermalDemand _ _
  have told : NoWork s2 ((s2.blankAgain (blankAct a)).raiseAct a) := ((Works.refl s2).blankAgain _).raiseSource _
  have units : ∀ b, ((s2.blankAgain (blankAct a)).raiseAct a).actUnit b = s1.actUnit b := fun b => (told.actUnit b).trans (demanded.actUnit b)
  refine ⟨by rw [units, actUnit_setAct_same], ?_, fun b hb => (units b).trans (actUnit_setAct_other _ _ hb)⟩
  exact (NoWork.nat told _ _).trans ((State.nat_putN_same _ _ _).trans (congrArg _ (NoWork.nat demanded _ _)))

/-- Hold is entered and the partner served; the channel's own values stand. -/
theorem actEnterHold_holds (s : State) (a : Fin 20) : ((s.actEnterHold a).actUnit a).phase = .hold
    ∧ ∀ j < 256, (s.actEnterHold a).nat ((0x2800 + a.val) * 256 + j) = s.nat ((0x2800 + a.val) * 256 + j) := by
  have told : NoWork (s.setAct a fun u => { u with phase := .hold }) (((s.setAct a fun u => { u with phase := .hold }).blankRelease (blankAct a)).raiseAct a) :=
    ((Works.refl _).blankRelease _).raiseSource _
  refine ⟨?_, fun j hj => (nat_claimChanged _ a rfl hj).trans (NoWork.nat told _ _)⟩
  unfold State.actEnterHold
  rw [actUnit_claimChanged, told.actUnit, actUnit_setAct_same]

theorem unjudged (s : State) (a : Fin 20) (samples : List (Nat × Nat)) (off : (s.actView a).nat (Key.actMovementWindowEnd a) = 0) :
    s.judgeMovement a samples = s := if_pos (.inl off)

theorem peakReached_goesOn {s : State} {a : Fin 20} {us : Nat} {samples : List (Nat × Nat)} (runs : s.clocksRun = true) (rise : (s.actUnit a).phase = .rise)
    (late : (s.actView a).nat (Key.actPeakTimeMinimum a) ≤ us) (off : (s.actView a).nat (Key.actMovementWindowEnd a) = 0) :
    Answers (.peakReached a us samples) s fun t => t.nat (Key.actLastRiseTime a) = us
      ∧ (t.actUnit a).phase = if (s.actView a).nat (Key.actPeakDwell a) = 0 then .hold else .dwell := by
  have window : ((s.putN (Key.actLastRiseTime a) us).actView a).nat (Key.actMovementWindowEnd a) = 0 :=
    Eq.trans (view_of (s := s) rfl (State.get_put_other _ _ _ _ key_ne)) off
  refine answers_served rfl runs ?_
  dsimp only
  rw [if_pos rise, if_neg (Nat.not_lt.2 late), unjudged _ a samples window]
  rw [if_pos (show ((s.putN (Key.actLastRiseTime a) us).actUnit a).phase = .rise from rise)]
  split
  · obtain ⟨holds, values⟩ := actEnterHold_holds (s.putN (Key.actLastRiseTime a) us) a
    exact ⟨(values 0x23 (by decide)).trans (State.nat_putN_same _ _ _), holds⟩
  · exact ⟨State.nat_putN_same _ _ _, by rw [actUnit_setAct_same]⟩

/-- A channel whose decay has ended. -/
def ActUnit.decayed (u : ActUnit) : ActUnit := { u with decaying := false }

theorem decayComplete_measures {s : State} {a : Fin 20} {us : Nat} (runs : s.clocksRun = true) (decaying : (s.actUnit a).decaying = true) :
    Answers (.decayComplete a us) s fun t => Moves { s with acts := t.acts } t [Key.actLastDecayTime a] ∧ t.nat (Key.actLastDecayTime a) = us
      ∧ t.actUnit a = { s.actUnit a with decaying := false } ∧ ∀ b, b ≠ a → t.actUnit b = s.actUnit b := by
  refine answers_served rfl runs ?_
  dsimp only
  rw [if_pos decaying]
  have told : NoWork ((s.setAct a ActUnit.decayed).putN (Key.actLastDecayTime a) us)
      (((s.setAct a ActUnit.decayed).putN (Key.actLastDecayTime a) us).raiseAct a) := (Works.refl _).raiseSource _
  have acts : (((s.setAct a ActUnit.decayed).putN (Key.actLastDecayTime a) us).raiseAct a).acts = (s.setAct a ActUnit.decayed).acts := raiseSource_acts _ _
  refine ⟨?_, (NoWork.nat told _ _).trans (State.nat_putN_same _ _ _), (actUnit_of acts a).trans (actUnit_setAct_same s a _),
    fun b hb => (actUnit_of acts b).trans (actUnit_setAct_other s _ hb)⟩
  show Moves { s with acts := State.acts (((s.setAct a ActUnit.decayed).putN (Key.actLastDecayTime a) us).raiseAct a) } _ _
  rw [acts]
  exact ((Moves.refl _ _).putN _ _ (List.mem_singleton_self _)).raiseSource _

theorem pulseEnd_ends {s : State} {a : Fin 20} (runs : s.clocksRun = true) (active : (s.actUnit a).phase.active = true)
    (pulse : (s.actUnit a).pulse = true) (bySafe : (s.actUnit a).bySafe = false) : Answers (.pulseEnd a) s (Ends s a) := by
  refine answers_served rfl runs ?_
  dsimp only
  rw [if_pos (by rw [active, pulse, bySafe]; rfl)]
  exact actOff_ends s a
theorem maximumOnTime_ends {s : State} {a : Fin 20} (runs : s.clocksRun = true) (active : (s.actUnit a).phase.active = true)
    (switched : (s.actUnit a).phase ≠ .regulating) (limit : (s.actView a).nat (Key.actMaximumOnTime a) ≠ 0) : Answers (.maximumOnTime a) s (Ends s a) := by
  refine answers_served rfl runs ?_
  rw [if_pos (by rw [active, bne_iff_ne.2 switched, bne_iff_ne.2 limit]; rfl)]
  exact actOff_ends s a

/-- Settles O37, phase by phase; an activation that ends opens its channel (`Ends`), and whatever its partner does then leaves the channel itself alone
(`actUnit_claimChanged`, `nat_claimChanged`). -/
theorem activationPhases : Obligations.ActivationPhases := by
  unfold Obligations.ActivationPhases
  intro s a runs u v
  have ended : u.phase.active = true → ∀ t, Ends s a t → (t.actUnit a).phase = .idle ∧ (t.actUnit a).decaying = true ∧ t.nat (Key.actCommand a) = 0 :=
    fun active t ends => ⟨by rw [ends.unit]; rfl, by rw [ends.unit]; exact opened_decaying active, ends.command⟩
  refine ⟨fun starting => answers_served rfl runs ?_, fun us samples rise late off => peakReached_goesOn runs rise late off,
    fun dwell => answers_served rfl runs ?_, fun active pulse bySafe => (pulseEnd_ends runs active pulse bySafe).mono (ended active),
    fun active switched limit => (maximumOnTime_ends runs active switched limit).mono (ended active),
    fun us decaying => decayComplete_measures runs decaying⟩
  · rw [if_pos starting]
    exact actBegin_begins s a
  · rw [if_pos dwell]
    exact (actEnterHold_holds s a).1

/-! ### Activations that fail (R381, R384, R385, R396) -/

theorem faulty_iff (s : State) (a : Nat) : s.actFaulty a = false ↔ s.nat (Key.actFaultCause a) = 0 := by simp [State.actFaulty]

/-- What a fault gives a channel's record: the cause, where it is the first (R396). -/
def State.causeNoted (s : State) (a : Fin 20) (cause : Nat) : State := if s.actFaulty a then s else s.putN (Key.actFaultCause a) cause

theorem works_actFault (s : State) (a : Fin 20) (cause : Nat) : Works (· = a) (s.causeNoted a cause) (s.actFault a cause) := by
  have off : Works (· = a) s (s.actOff a) := (Works.refl s).actOff a rfl
  have faulty : (s.actOff a).actFaulty a = s.actFaulty a := congrArg (· != 0) (off.nat _ _ fun b _ => not_shown b)
  unfold State.actFault State.causeNoted
  dsimp only
  rw [faulty]
  split
  · exact off.raiseSource _
  · exact (off.putBoth _ _).raiseSource _
theorem causeNoted_first {s : State} {a : Fin 20} (cause : Nat) (first : s.actFaulty a = false) :
    s.causeNoted a cause = s.putN (Key.actFaultCause a) cause := if_neg (by rw [first]; decide)
theorem nat_causeNoted (s : State) (a : Fin 20) (cause : Nat) {k : Nat} (other : k ≠ Key.actFaultCause a) : (s.causeNoted a cause).nat k = s.nat k := by
  unfold State.causeNoted
  split
  · rfl
  · exact nat_putN_of_ne _ _ _ _ other

theorem actUnit_actFault (s : State) (a b : Fin 20) (cause : Nat) :
    (s.actFault a cause).actUnit b = if a = b then (s.actUnit b).opened else s.actUnit b := by
  refine Eq.trans (actUnit_of ?_ b) (actUnit_actOff s a b)
  unfold State.actFault
  dsimp only
  split
  · exact raiseSource_acts _ _
  · exact raiseSource_acts _ _
theorem actUnit_actFault_same (s : State) (a : Fin 20) (cause : Nat) : (s.actFault a cause).actUnit a = (s.actUnit a).opened :=
  (actUnit_actFault s a a cause).trans (if_pos rfl)
theorem cause_actFault {s : State} {a : Fin 20} (cause : Nat) (first : s.actFaulty a = false) :
    (s.actFault a cause).nat (Key.actFaultCause a) = cause := by
  rw [(works_actFault s a cause).nat _ _ fun b _ => not_shown b, causeNoted_first cause first]
  exact State.nat_putN_same _ _ _

theorem peakFault_faults {s : State} {a : Fin 20} (cause us : Nat) (first : s.nat (Key.actFaultCause a) = 0) :
    ((s.peakFault a cause us).actUnit a).phase = .idle ∧ (s.peakFault a cause us).nat (Key.actFaultCause a) = cause
      ∧ (s.peakFault a cause us).nat (Key.actPeakTimeFaults a) = satSucc 32 (s.nat (Key.actPeakTimeFaults a)) := by
  unfold State.peakFault
  have told : NoWork ((s.actFault a cause).bump 32 (Key.actPeakTimeFaults a))
      (((s.actFault a cause).bump 32 (Key.actPeakTimeFaults a)).log 0x0601 a a cause us) := (Works.refl _).log _ _ _ _ _
  refine ⟨?_, ?_, ?_⟩
  · rw [actUnit_claimChanged, told.actUnit]
    exact congrArg ActUnit.phase (actUnit_actFault_same s a cause)
  · refine ((nat_claimChanged _ a).trans (NoWork.nat told _ _)).trans ?_
    exact (nat_putN_of_ne _ _ _ _ key_ne).trans (cause_actFault cause ((faulty_iff s a).2 first))
  · refine ((nat_claimChanged _ a).trans (NoWork.nat told _ _)).trans ((State.nat_putN_same _ _ _).trans (congrArg _ ?_))
    exact ((works_actFault s a cause).nat _ _ fun b _ => not_shown b).trans (nat_causeNoted s a cause key_ne)

/-- A channel whose movement was judged, and not found. -/
def ActUnit.motionless (u : ActUnit) : ActUnit := { u with judged := true, moved := false }

/-- NO_MOVE as noted, before the channel opens where the movement action says so (R385). -/
def State.noMoveNoted (s : State) (a : Fin 20) : State :=
  ((((s.setAct a ActUnit.motionless).putN (Key.actLastMovementTime a) 0xFFFFFFFF).bump 32
    (Key.actMovementFailures a)).log 0x0602 a a).raiseAct a

theorem noMove_eq (s : State) (a : Fin 20) : s.noMove a =
    if ((s.actView a).nat (Key.actMovementAction a) == 1) = true then ((s.noMoveNoted a).actFault a 3).claimChanged a else s.noMoveNoted a := rfl

/-- Movement judged, and not found. -/
structure Motionless (s : State) (a : Fin 20) (t : State) : Prop where
  judged   : (t.actUnit a).judged = true
  moved    : (t.actUnit a).moved = false
  time     : t.nat (Key.actLastMovementTime a) = 0xFFFFFFFF
  failures : t.nat (Key.actMovementFailures a) = satSucc 32 (s.nat (Key.actMovementFailures a))

theorem noMoveNoted_motionless (s : State) (a : Fin 20) : Motionless s a (s.noMoveNoted a) := by
  have told : NoWork (((s.setAct a ActUnit.motionless).putN (Key.actLastMovementTime a) 0xFFFFFFFF).bump 32 (Key.actMovementFailures a)) (s.noMoveNoted a) :=
    ((Works.refl _).log _ _ _ _ _).raiseSource _
  have unit : (s.noMoveNoted a).actUnit a = (s.actUnit a).motionless := (told.actUnit a).trans (actUnit_setAct_same s a ActUnit.motionless)
  refine ⟨by rw [unit]; rfl, by rw [unit]; rfl, ?_, ?_⟩
  · exact ((NoWork.nat told _ _).trans (nat_putN_of_ne _ _ _ _ key_ne)).trans (State.nat_putN_same _ _ _)
  · exact ((NoWork.nat told _ _).trans (State.nat_putN_same _ _ _)).trans (congrArg _ (nat_putN_of_ne _ _ _ _ key_ne))

theorem Motionless.opens {s m : State} {a : Fin 20} (h : Motionless s a m) (cause : Nat) : Motionless s a ((m.actFault a cause).claimChanged a) := by
  have unit : ((m.actFault a cause).claimChanged a).actUnit a = (m.actUnit a).opened := (actUnit_claimChanged _ a).trans (actUnit_actFault_same m a cause)
  have kept : ∀ j, j ∉ [2, 0x2A, 0x2D, 0x2C, 0x26, 0x2B] → j < 256 →
      ((m.actFault a cause).claimChanged a).nat ((0x2800 + a.val) * 256 + j) = m.nat ((0x2800 + a.val) * 256 + j) := fun j unshown hj => by
    simp only [List.mem_cons, List.not_mem_nil, or_false, not_or] at unshown
    refine (nat_claimChanged _ a rfl hj).trans (((works_actFault m a cause).nat _ _ fun b _ => not_shown b).trans (nat_causeNoted _ _ _ key_ne))
  exact ⟨by rw [unit]; exact h.judged, by rw [unit]; exact h.moved, (kept 0x24 (by decide) (by decide)).trans h.time,
    (kept 0x2F (by decide) (by decide)).trans h.failures⟩

theorem noMove_ends (s : State) (a : Fin 20) :
    Motionless s a (s.noMove a) ∧ ((s.actView a).nat (Key.actMovementAction a) = 1 → ((s.noMove a).actUnit a).phase = .idle) := by
  rw [noMove_eq]
  split
  · refine ⟨(noMoveNoted_motionless s a).opens 3, fun _ => ?_⟩
    rw [actUnit_claimChanged, actUnit_actFault_same]
    rfl
  · rename_i stays
    exact ⟨noMoveNoted_motionless s a, fun opens => absurd (by rw [opens]; rfl) stays⟩

theorem overlapRefuse_refuses {s : State} {a : Fin 20} (deferred : (s.actUnit a).phase = .deferred) : ((s.overlapRefuse a).actUnit a).phase = .idle
    ∧ (s.overlapRefuse a).nat (Key.actCommand a) = 0 ∧ (s.overlapRefuse a).nat (Key.actLastRefusal a) = 10
    ∧ (s.overlapRefuse a).nat (Key.actRefusals a) = satSucc 32 (s.nat (Key.actRefusals a))
    ∧ (s.overlapRefuse a).nat (Key.hsOverlapRefusals (switchOf a)) = satSucc 32 (s.nat (Key.hsOverlapRefusals (switchOf a))) := by
  unfold State.overlapRefuse
  extract_lets h c s1
  have drawn : NoWork s s1 := ((Works.refl s).freeRound _ _).log _ _ _ _ _
  clear_value s1
  have refused : Works (· = a) s1 (s1.actRefuse a 10) := (Works.refl s1).actRefuse a 10 rfl
  have told : NoWork ((s1.actRefuse a 10).bump 32 (Key.hsOverlapRefusals h))
      (((s1.actRefuse a 10).bump 32 (Key.hsOverlapRefusals h)).raiseSource (148 + h.val)) := (Works.refl _).raiseSource _
  obtain ⟨command, reason, count⟩ := actRefuse_shows s1 a 10
  refine ⟨?_, ?_, ?_, ?_, ?_⟩
  · rw [told.actUnit]
    refine (congrArg ActUnit.phase (actUnit_actRefuse_same s1 a 10)).trans ?_
    rw [drawn.actUnit]
    exact refused_idle (by rw [deferred]; rfl)
  · exact ((NoWork.nat told _ _).trans (nat_putN_of_ne _ _ _ _ key_ne)).trans command
  · exact ((NoWork.nat told _ _).trans (nat_putN_of_ne _ _ _ _ key_ne)).trans reason
  · exact (((NoWork.nat told _ _).trans (nat_putN_of_ne _ _ _ _ key_ne)).trans count).trans (congrArg _ (NoWork.nat drawn _ _))
  · refine ((NoWork.nat told _ _).trans (State.nat_putN_same _ _ _)).trans (congrArg _ ?_)
    exact (refused.nat _ _ fun b _ => not_shown b).trans (NoWork.nat drawn _ _)

/-- Settles O38: a rise outside its window by `peakFault_faults`, a window without a dip by `noMove_ends`, a deferral that runs out by
`overlapRefuse_refuses`. -/
theorem activationFailures : Obligations.ActivationFailures := by
  unfold Obligations.ActivationFailures
  intro s a runs u v
  refine ⟨fun us samples rise early first => answers_served rfl runs ?_, fun rise first => answers_served rfl runs ?_,
    fun rise window unjudged => answers_served rfl runs ?_, fun deferred => answers_served rfl runs ?_⟩
  · dsimp only
    rw [if_pos rise, if_pos early]
    exact peakFault_faults 1 us first
  · rw [if_pos rise]
    exact peakFault_faults 2 _ first
  · rw [if_pos ⟨rise, window, unjudged⟩]
    obtain ⟨motionless, opens⟩ := noMove_ends s a
    exact ⟨motionless.judged, motionless.moved, motionless.time, motionless.failures, opens⟩
  · rw [if_pos deferred]
    exact overlapRefuse_refuses deferred

end Sys2Proof.Machine
end

section
/-! SUPPORT. PROPORTIONAL channels, the duty update and the P2 current limit (R374, R377, R383, R387, R389): `Obligations.ProportionalDutyAndLimit`. -/

namespace Sys2Proof.Machine

open Sys2Proof

/-! ### The regulator's target (R374, R377, R383) -/

/-- The target asked for, capped and limited to the room that the partner leaves. -/
def State.propWant (s : State) (a : Fin 20) : Nat :=
  min (if s.propAsked a < 50 * unitsPerMa then s.propAsked a else s.capTarget a (s.propAsked a)) (s.budget a - s.partnerClaim a)

/-- What serving an unblocked channel notes first. -/
def State.propTaken (s : State) (a : Fin 20) : State :=
  s.setAct a fun u => { u with asked := s.propAsked a, setpoint := s.propSetpoint a, blocked := false }

/-- A channel that starts to regulate a target. -/
def ActUnit.regulated (u : ActUnit) (target : Nat) (limited : Bool) : ActUnit :=
  { u with phase := .regulating, target := target, decaying := false, limited := limited, frozen := [] }

/-- The checks of R373 read a channel's duty limit alone. -/
theorem actCheck_setAct (s : State) (a : Fin 20) (f : ActUnit → ActUnit) (safe : Bool) (duty : (f (s.actUnit a)).dutyLimited = (s.actUnit a).dutyLimited) :
    (s.setAct a f).actCheck a safe = s.actCheck a safe := by
  unfold State.actCheck
  rw [actUnit_setAct_same, duty]
  rfl

section
variable {s : State} {a : Fin 20} (mode : s.nat (Key.actMode a) = 2) (free : (s.actUnit a).blocked = false)
include mode free

/-- Serving an unblocked PROPORTIONAL channel: off below 50 mA, else its target regulated, or a start where the checks of R373 pass. -/
theorem serveProp_unblocked : ∃ limited,
    (s.propWant a < 50 * unitsPerMa → (s.actUnit a).phase = .regulating →
      s.serveProp a = ((s.propTaken a).actOpen a).setAct a fun u => { u with limited := limited })
    ∧ (50 * unitsPerMa ≤ s.propWant a → (s.actUnit a).phase = .regulating →
      s.serveProp a = (s.propTaken a).setAct a fun u => { u with target := s.propWant a, limited := limited })
    ∧ (50 * unitsPerMa ≤ s.propWant a → (s.actUnit a).phase = .idle → s.actCheck a s.policiesActive = none →
      s.serveProp a = (((s.propTaken a).setAct a fun u => u.regulated (s.propWant a) limited).bump 32 (Key.actActivations a)).raiseAct a) := by
  unfold State.serveProp
  rw [if_neg (by rw [mode]; decide)]
  extract_lets u asked blocked full capped room want taken limited
  have unblocked : blocked = false := by
    show (u.blocked && _) = false
    rw [show u.blocked = false from free, Bool.false_and]
  have wanted : want = s.propWant a := if_neg (by rw [unblocked]; decide)
  have noted : taken = s.propTaken a := by
    show s.setAct a (fun u => { u with asked := asked, setpoint := s.propSetpoint a, blocked := blocked }) = _
    rw [unblocked]
    rfl
  clear_value want taken
  subst wanted noted
  refine ⟨limited, fun low regulating => ?_, fun enough regulating => ?_, fun enough idle passes => ?_⟩
  · exact (if_pos low).trans (by rw [if_pos regulating])
  · exact (if_neg (Nat.not_lt.2 enough)).trans (if_pos regulating)
  · refine (if_neg (Nat.not_lt.2 enough)).trans ((if_neg (by rw [idle]; decide)).trans ?_)
    rw [show (s.propTaken a).actCheck a s.policiesActive = none from (actCheck_setAct s a _ _ rfl).trans passes]
    rfl

theorem serveProp_off (low : s.propWant a < 50 * unitsPerMa) (regulating : (s.actUnit a).phase = .regulating) :
    ((s.serveProp a).actUnit a).phase = .idle := by
  obtain ⟨limited, off, -⟩ := serveProp_unblocked mode free
  rw [off low regulating, actUnit_setAct_same, actUnit_actOpen, if_pos rfl]
  rfl
theorem serveProp_regulates (enough : 50 * unitsPerMa ≤ s.propWant a) (regulating : (s.actUnit a).phase = .regulating) :
    ((s.serveProp a).actUnit a).phase = .regulating ∧ ((s.serveProp a).actUnit a).target = s.propWant a := by
  obtain ⟨limited, -, regulates, -⟩ := serveProp_unblocked mode free
  rw [regulates enough regulating, actUnit_setAct_same]
  exact ⟨(congrArg ActUnit.phase (actUnit_setAct_same s a _)).trans regulating, rfl⟩
theorem serveProp_starts (enough : 50 * unitsPerMa ≤ s.propWant a) (idle : (s.actUnit a).phase = .idle) (passes : s.actCheck a s.policiesActive = none) :
    ((s.serveProp a).actUnit a).phase = .regulating ∧ ((s.serveProp a).actUnit a).target = s.propWant a
      ∧ (s.serveProp a).nat (Key.actActivations a) = satSucc 32 (s.nat (Key.actActivations a)) := by
  obtain ⟨limited, -, -, starts⟩ := serveProp_unblocked mode free
  rw [starts enough idle passes]
  have acts : ((((s.propTaken a).setAct a fun u => u.regulated (s.propWant a) limited).bump 32 (Key.actActivations a)).raiseAct a).acts
      = ((s.propTaken a).setAct a fun u => u.regulated (s.propWant a) limited).acts := raiseSource_acts _ _
  rw [actUnit_of acts, actUnit_setAct_same]
  refine ⟨rfl, rfl, ?_⟩
  exact (nat_raiseSource _ _ _ front_not_event).trans (State.nat_putN_same _ _ _)

end

/-- The channel and its own values stand while the partner is served. -/
theorem answers_setpointApply {s : State} {a : Fin 20} (runs : s.clocksRun = true) : Answers (.proportionalSetpointApply a) s fun t =>
    t.actUnit a = (s.serveProp a).actUnit a ∧ t.nat (Key.actActivations a) = (s.serveProp a).nat (Key.actActivations a) :=
  answers_served rfl runs ⟨actUnit_claimChanged _ a, nat_claimChanged _ a⟩

/-! ### The duty update (R387) -/

/-- A channel behind the 1 ms update: at most 600 s of activity, and the limit with its hysteresis. -/
def State.dutied (s : State) (a : Fin 20) : ActUnit :=
  let u := s.actUnit a
  let w := s.nat (Key.actDutyWindow a) * 1000
  let runs := takeRuns 600000 (pushRun u.phase.active 600000 u.duty)
  let used := activeMs (takeRuns w runs) * 100000000
  { u with
    duty := runs
    dutyLimited := s.nat (Key.actMode a) == 1 && if u.dutyLimited then !decide (used + s.nat (Key.actDutyHysteresis a) * 1000000 * w < s.dutyLimitParts a * w)
      else decide (s.dutyLimitParts a * w ≤ used) }

theorem freeRound_acts (s : State) (n : Int) (d : Nat) : (s.freeRound n d).2.acts = s.acts := by unfold State.freeRound; dsimp only; split <;> rfl
theorem get_freeRound (s : State) (n : Int) (d k : Nat) : (s.freeRound n d).2.get k = s.get k := by unfold State.freeRound; dsimp only; split <;> rfl

theorem actUnit_dutyUpdate (s : State) (a b : Fin 20) : (s.dutyUpdate a).actUnit b = if a = b then s.dutied b else s.actUnit b := by
  unfold State.dutyUpdate
  extract_lets u w runs ms lim hyst reached below d e now s1 s2
  have acts : s1.acts = s.acts := (freeRound_acts _ _ _).trans (freeRound_acts _ _ _)
  have unit : s2.actUnit b = if a = b then s.dutied b else s.actUnit b := by
    rw [show s2.actUnit b = _ from actUnit_setAct s1 a b _, actUnit_of acts]
    split
    · rename_i same
      subst same
      rfl
    · rfl
  rw [← unit]
  split
  · exact actUnit_of (log_acts _ _ _ _ _ _) b
  · rfl

theorem get_dutyUpdate (s : State) (a : Fin 20) {k : Nat} (event : k ∉ eventKeys) (duty : k ≠ Key.actDuty a) (limit : k ≠ Key.actEffectiveDutyLimit a) :
    (s.dutyUpdate a).get k = s.get k := by
  unfold State.dutyUpdate
  extract_lets u w runs ms lim hyst reached below d e now s1 s2
  have shown : s2.get k = s.get k := ((State.get_put_other _ _ _ _ limit).trans (State.get_put_other _ _ _ _ duty)).trans
    ((get_freeRound _ _ _ _).trans (get_freeRound _ _ _ _))
  split
  · exact (get_log _ _ _ _ _ _ _ event).trans shown
  · exact shown

/-- The update of another channel changes nothing that a channel's own update reads. -/
theorem dutied_dutyUpdate (s : State) {a b : Fin 20} (other : b ≠ a) : (s.dutyUpdate a).dutied b = s.dutied b := by
  have own : ∀ j, j ≠ 0x27 ∧ j ≠ 0x28 ∧ j < 256 → (s.dutyUpdate a).nat ((0x2800 + b.val) * 256 + j) = s.nat ((0x2800 + b.val) * 256 + j) :=
    fun j hj => nat_of (get_dutyUpdate s a front_not_event key_ne key_ne)
  have thermal : ∀ j < 256, 0x3A00 * 256 + j ∉ eventKeys → (s.dutyUpdate a).get (0x3A00 * 256 + j) = s.get (0x3A00 * 256 + j) :=
    fun j hj event => get_dutyUpdate s a event key_ne key_ne
  unfold State.dutied State.dutyLimitParts State.derating State.bankThrottled
  rw [actUnit_dutyUpdate, if_neg other.symm, own 0x11 (by decide), own 0x12 (by decide), own 0x13 (by decide), own 1 (by decide),
    bitOf_of _ (thermal 8 (by decide) (by decide)), nat_of (thermal 0xF (by decide) (by decide))]

theorem foldl_dutyUpdate (l : List (Fin 20)) (s : State) (b : Fin 20) (once : l.Nodup) :
    (l.foldl (fun s a => s.dutyUpdate a) s).actUnit b = if b ∈ l then s.dutied b else s.actUnit b := by
  induction l generalizing s with
  | nil => rfl
  | cons a l ih =>
    obtain ⟨fresh, rest⟩ := List.nodup_cons.1 once
    refine (ih (s.dutyUpdate a) rest).trans ?_
    by_cases later : b ∈ l
    · have other : b ≠ a := by rintro rfl; exact fresh later
      rw [if_pos later, if_pos (List.mem_cons_of_mem _ later), dutied_dutyUpdate s other]
    · rw [if_neg later, actUnit_dutyUpdate]
      by_cases same : a = b
      · rw [if_pos same, if_pos (by rw [same]; exact List.mem_cons_self)]
      · rw [if_neg same, if_neg (by rw [List.mem_cons, not_or]; exact ⟨Ne.symm same, later⟩)]

theorem answers_dutyUpdate {s : State} (runs : s.clocksRun = true) : Answers .dutyUpdate s fun t => ∀ a, t.actUnit a = s.dutied a :=
  ⟨_, congrArg Host.Outcome.next (if_pos runs), fun a => (foldl_dutyUpdate _ s a (List.nodup_finRange 20)).trans (if_pos (List.mem_finRange a))⟩

/-! ### The P2 current limit (R389) -/

section
variable {s : State} {mean : Nat} (runs : s.clocksRun = true)
include runs

theorem p2Limit_sets (free : s.acts.supplyLimited = false) (above : 25000 * s.derating < mean * 10000) : Answers (.p2CurrentLimitEvaluation mean) s fun t =>
    Moves { s with acts := { s.acts with supplyLimited := true } } t [] ∧ (s.logOpen → t.lastLogged 0x0607 noSource noSource 0 0) := by
  refine answers_served rfl runs ?_
  dsimp only
  rw [if_neg (by rw [free]; decide), if_pos above]
  exact ⟨(Moves.refl _ _).log _ _ _ _ _, fun opened => lastLogged_log _ _ _ _ _ _ (logOpen_of opened rfl rfl)⟩
theorem p2Limit_clears (limited : s.acts.supplyLimited = true) (below : mean * 10000 < 23000 * s.derating) :
    Answers (.p2CurrentLimitEvaluation mean) s fun t => t = { s with acts := { s.acts with supplyLimited := false } } := by
  refine answers_served rfl runs ?_
  dsimp only
  rw [if_pos limited, if_pos below]
theorem p2Limit_stays (limited : s.acts.supplyLimited = true) (above : 23000 * s.derating ≤ mean * 10000) :
    Answers (.p2CurrentLimitEvaluation mean) s fun t => t = s := by
  refine answers_served rfl runs ?_
  dsimp only
  rw [if_pos limited, if_neg (Nat.not_lt.2 above)]

end

/-- Settles O39: the target by `serveProp_unblocked`, and the channel stands while its partner is served; the duty update reads nothing that the updates
of the channels before it move (`foldl_dutyUpdate`). Off below 50 mA even where a cap or a limit brings the target there is the model's choice (log 157). -/
theorem proportionalDutyAndLimit : Obligations.ProportionalDutyAndLimit := by
  unfold Obligations.ProportionalDutyAndLimit
  intro s runs
  refine ⟨fun a mode free _ _ => ?_, ?_, fun mean => ⟨p2Limit_sets runs, p2Limit_clears runs, p2Limit_stays runs⟩⟩
  · obtain ⟨t, out, unit, count⟩ := answers_setpointApply (a := a) runs
    refine ⟨fun low regulating => ⟨t, out, ?_⟩, fun enough regulating => ⟨t, out, ?_⟩, fun enough idle passes => ⟨t, out, ?_⟩⟩
    · exact (congrArg ActUnit.phase unit).trans (serveProp_off mode free low regulating)
    · dsimp only
      rw [unit]
      exact serveProp_regulates mode free enough regulating
    · dsimp only
      rw [unit, count]
      exact serveProp_starts mode free enough idle passes
  · obtain ⟨t, out, units⟩ := answers_dutyUpdate runs
    refine ⟨t, out, fun a => ?_⟩
    rw [units a]
    refine ⟨rfl, rfl, ?_⟩
    unfold State.dutied State.dutyLimitParts
    dsimp only
    rw [Bool.and_eq_true, beq_iff_eq]
    refine and_congr_right fun _ => ?_
    split
    · rw [Bool.not_eq_true', decide_eq_false_iff_not, Nat.not_lt]
    · rw [decide_eq_true_iff]

end Sys2Proof.Machine
end

section
/-! SUPPORT. Permits that go absent and come back (R390): `Obligations.PermitsForceOff`. -/

namespace Sys2Proof.Machine

open Sys2Proof

/-! ### A channel whose permit is absent (R373, R390) -/

/-- The bit of the input levels that carries a permit: 0 SAFETY_OK, 1 HEAT_PERMIT (R426). -/
def permitBit (w : Fin 2) : Nat := if w = 0 then 3 else 2

/-- The count of a permit's losses (R426). -/
def permitLosses (w : Fin 2) : Nat := if w = 0 then Key.inputsSAFETYOKLosses else Key.inputsHEATPERMITLosses

/-- Channel `a` is of the class of a permit, and the permit is absent. -/
structure Unpermitted (w : Fin 2) (a : Fin 20) (s : State) : Prop where
  class_ : s.nat (Key.actClass a) = w.val + 1
  absent : s.bitOf Key.inputsInputLevels (permitBit w) = false

/-- Such a channel off, its command 0. -/
structure ForcedOff (w : Fin 2) (a : Fin 20) (s : State) : Prop extends Unpermitted w a s where
  idle    : (s.actUnit a).phase = .idle
  command : s.nat (Key.actCommand a) = 0

section
variable {c : Fin 20 → Prop} {w : Fin 2} {a : Fin 20} {s t : State}

theorem Works.actClass (h : Works c s t) (b : Fin 20) : t.nat (Key.actClass b) = s.nat (Key.actClass b) := h.nat _ _ fun x _ => not_shown x
theorem Works.inputLevels (h : Works c s t) : t.get Key.inputsInputLevels = s.get Key.inputsInputLevels := h.get _ _ fun x _ => not_shown x

theorem Unpermitted.works (h : Unpermitted w a s) (g : Works c s t) : Unpermitted w a t :=
  ⟨(g.actClass a).trans h.class_, (bitOf_of _ g.inputLevels).trans h.absent⟩
theorem ForcedOff.works (h : ForcedOff w a s) (g : Works c s t) (others : ¬c a) : ForcedOff w a t := by
  refine ⟨h.toUnpermitted.works g, (congrArg ActUnit.phase (g.units a others)).trans h.idle, (g.nat _ _ fun x hx => ?_).trans h.command⟩
  have ne : x.val ≠ a.val := fun same => others (Fin.ext same ▸ hx)
  exact not_shown x

theorem Unpermitted.permitAbsent (h : Unpermitted w a s) : s.permitAbsent a = true := by
  obtain ⟨class_, absent⟩ := h
  unfold State.permitAbsent State.safetyOk State.heatPermit
  rw [class_]
  match w with
  | 0 => rw [show s.bitOf Key.inputsInputLevels 3 = false from absent]; rfl
  | 1 => rw [show s.bitOf Key.inputsInputLevels 2 = false from absent]; rfl

/-- Some check of R373 refuses a start. -/
theorem Unpermitted.check_fails (h : Unpermitted w a s) (safe : Bool) : ∃ r, s.actCheck a safe = some r := by
  simp only [State.actCheck, h.permitAbsent, ↓reduceIte]
  split_ifs <;> exact ⟨_, rfl⟩

/-- Served while its permit is absent, an idle channel stays off: a start that it asks for is refused. -/
theorem ForcedOff.serveProp (h : ForcedOff w a s) : ForcedOff w a (s.serveProp a) := by
  have permit : Unpermitted w a (s.serveProp a) := h.toUnpermitted.works ((Works.refl s).serveProp (c := (· = a)) a rfl)
  suffices off : ((s.serveProp a).actUnit a).phase = .idle ∧ (s.serveProp a).nat (Key.actCommand a) = 0 from ⟨permit, off.1, off.2⟩
  unfold State.serveProp
  extract_lets u asked blocked full capped room want taken limited
  have idle : (taken.actUnit a).phase = .idle := (congrArg ActUnit.phase (actUnit_setAct_same s a _)).trans h.idle
  have checked : taken.actCheck a s.policiesActive = s.actCheck a s.policiesActive := actCheck_setAct s a _ _ rfl
  have command : taken.nat (Key.actCommand a) = 0 := h.command
  have quiet : u.phase ≠ .regulating := by rw [show u.phase = .idle from h.idle]; decide
  clear_value taken
  split
  · exact ⟨h.idle, h.command⟩
  · split
    · exact ⟨(congrArg ActUnit.phase (actUnit_setAct_same _ a _)).trans idle, command⟩
    · obtain ⟨r, fails⟩ := h.check_fails s.policiesActive
      rw [checked, fails]
      refine ⟨?_, (actRefuse_shows _ a r).1⟩
      refine (congrArg ActUnit.phase (actUnit_actRefuse_same _ a r)).trans (refused_idle ?_)
      rw [actUnit_setAct_same, idle]
      rfl

theorem ForcedOff.claimChanged (h : ForcedOff w a s) (b : Fin 20) : ForcedOff w a (s.claimChanged b) := by
  by_cases partner : partnerOf b = a
  · have undeferred : s.startDeferred a = s := if_neg fun deferred => by rw [h.idle] at deferred; cases deferred.1
    unfold State.claimChanged
    rw [partner, undeferred]
    split
    · exact h
    · exact h.serveProp
  · exact h.works (works_claimChanged s b) (Ne.symm partner)

/-! ### Forcing off (R390) -/

/-- A channel of the class is forced off, whatever its phase. -/
theorem Unpermitted.permitForce (h : Unpermitted w a s) : ForcedOff w a (s.permitForce (w.val + 1) a) := by
  have permit : Unpermitted w a (s.permitForce (w.val + 1) a) := h.works ((Works.refl s).permitForce (c := (· = a)) _ a rfl)
  suffices off : ((s.permitForce (w.val + 1) a).actUnit a).phase = .idle ∧ (s.permitForce (w.val + 1) a).nat (Key.actCommand a) = 0 from
    ⟨permit, off.1, off.2⟩
  have phase : ((s.propBlock a).actUnit a).phase = (s.actUnit a).phase := by
    unfold State.propBlock
    rw [actUnit_setAct_same]
  unfold State.permitForce
  rw [if_neg (by rw [h.class_]; simp)]
  dsimp only
  split
  · exact ⟨congrArg ActUnit.phase (actUnit_actOff_same _ a), command_actOff _ a⟩
  · rename_i inactive
    split
    · refine ⟨(congrArg ActUnit.phase (actUnit_actRefuse_same _ a 5)).trans (refused_idle ?_), (actRefuse_shows _ a 5).1⟩
      rw [phase, Bool.eq_false_iff]
      exact inactive
    · rename_i nothing
      refine ⟨phase.trans ?_, State.nat_putN_same _ _ _⟩
      cases is : (s.actUnit a).phase with
      | idle => rfl
      | starting => exact absurd (.inl is) nothing
      | deferred => exact absurd (.inr is) nothing
      | _ => rw [is] at inactive; exact absurd rfl inactive

theorem foldl_permitForce (l : List (Fin 20)) (s : State) (h : a ∈ l ∧ Unpermitted w a s ∨ ForcedOff w a s) :
    ForcedOff w a (l.foldl (fun s a => s.permitForce (w.val + 1) a) s) := by
  induction l generalizing s with
  | nil => exact h.resolve_left fun none => absurd none.1 List.not_mem_nil
  | cons b l ih =>
    refine ih _ ?_
    have step : Works (· = b) s (s.permitForce (w.val + 1) b) := (Works.refl s).permitForce _ b rfl
    by_cases same : a = b
    · subst same
      exact .inr (h.elim And.right ForcedOff.toUnpermitted).permitForce
    · exact h.imp (fun waits => ⟨(List.mem_cons.1 waits.1).resolve_left same, waits.2.works step⟩) fun off => off.works step same

theorem foldl_claimChanged (l : List (Fin 20)) (s : State) (h : ForcedOff w a s) : ForcedOff w a (l.foldl (fun s b => s.claimChanged b) s) := by
  induction l generalizing s with
  | nil => exact h
  | cons b l ih => exact ih _ (h.claimChanged b)

end

/-! ### Current outputs beside the permits (R419) -/

section
variable (s : State)

theorem get_serveOutput (k : Fin 8) {i j : Nat} (off : i < 0x2920 ∨ 0x2928 ≤ i) (hj : j < 256) :
    (s.serveOutput k).get (i * 256 + j) = s.get (i * 256 + j) := by
  unfold State.serveOutput
  extract_lets now held r clamped forced shown pinned
  have counted : forced.get (i * 256 + j) = s.get (i * 256 + j) := by
    show State.get (if _ then _ else _) _ = _
    split
    · exact State.get_put_other _ _ _ _ key_ne
    · rfl
  have status : pinned.get (i * 256 + j) = s.get (i * 256 + j) := (State.get_put_other _ _ _ _ key_ne).trans
    ((State.get_put_other _ _ _ _ key_ne).trans ((State.get_put_other _ _ _ _ key_ne).trans counted))
  unfold State.outputCleared
  split
  · exact (State.get_put_other _ _ _ _ key_ne).trans ((State.get_put_other _ _ _ _ key_ne).trans status)
  · exact status
theorem get_serveOutputs {i j : Nat} (off : i < 0x2920 ∨ 0x2928 ≤ i := by omega) (hj : j < 256 := by omega) :
    s.serveOutputs.get (i * 256 + j) = s.get (i * 256 + j) := by
  unfold State.serveOutputs
  generalize List.finRange 8 = l
  induction l generalizing s with
  | nil => rfl
  | cons k l ih => exact (ih (s.serveOutput k)).trans (get_serveOutput s k off hj)

end

/-! ### PERMIT_LOST (R390, R419, R426) -/

/-- The permit's bit and its count. -/
def State.permitNoted (s : State) (w : Fin 2) : State := (s.putBit Key.inputsInputLevels (permitBit w) false).bump 32 (permitLosses w)

/-- The channels that are opened. -/
def State.permitForced (s : State) (w : Fin 2) : List (Fin 20) :=
  (List.finRange 20).filter fun a => s.nat (Key.actClass a) == w.val + 1 && (s.actUnit a).phase.active

/-- The permit noted, its class forced off, and the partners of what was opened served. -/
def State.permitServed (s : State) (w : Fin 2) : State :=
  (s.permitForced w).foldl (fun s a => s.claimChanged a) ((List.finRange 20).foldl (fun s a => s.permitForce (w.val + 1) a) (s.permitNoted w))

/-- What was opened is logged. -/
def State.permitLogged (s : State) (w : Fin 2) (forced : List (Fin 20)) : State :=
  match forced with
  | a :: _ => s.log 0x0608 a a w.val (forced.map fun a => 2 ^ a.val).sum
  | [] => s

theorem answers_permitLost {s : State} {w : Fin 2} {P : State → Prop} (runs : s.clocksRun = true)
    (present : s.bitOf Key.inputsInputLevels (permitBit w) = true) (h : P ((s.permitServed w).permitLogged w (s.permitForced w)).serveOutputs) :
    Answers (.permitLost w) s P := by
  refine answers_served rfl runs ?_
  dsimp only
  rw [if_pos (show s.bitOf Key.inputsInputLevels (if w = 0 then 3 else 2) = true from present)]
  exact h

section
variable (s : State) (w : Fin 2)

theorem noWork_permitLogged (forced : List (Fin 20)) : NoWork s (s.permitLogged w forced) := by
  unfold State.permitLogged
  split
  · exact (Works.refl s).log _ _ _ _ _
  · exact .refl s

/-- A channel whose switch has one of the permit's class. -/
def State.underPermit (s : State) (w : Fin 2) (a : Fin 20) : Prop := ∃ b, switchOf b = switchOf a ∧ s.nat (Key.actClass b) = w.val + 1

theorem class_permitNoted (a : Fin 20) : (s.permitNoted w).nat (Key.actClass a) = s.nat (Key.actClass a) := by
  have losses : Key.actClass a ≠ permitLosses w := by
    unfold permitLosses
    split
    · exact key_ne
    · exact key_ne
  exact (nat_putN_of_ne _ _ _ _ losses).trans (nat_putN_of_ne _ _ _ _ key_ne)
theorem losses_ne_levels : permitLosses w ≠ Key.inputsInputLevels := by revert w; decide

/-- Only channels under the permit are at work. -/
theorem works_permitServed : Works (s.underPermit w) (s.permitNoted w) (s.permitServed w) := by
  have forced : Works (s.underPermit w) (s.permitNoted w) ((List.finRange 20).foldl (fun s a => s.permitForce (w.val + 1) a) (s.permitNoted w)) := by
    refine .foldl _ _ (.refl _) fun m a _ h => ?_
    by_cases class_ : s.nat (Key.actClass a) = w.val + 1
    · exact h.permitForce _ a ⟨a, rfl, class_⟩
    · have other : m.permitForce (w.val + 1) a = m := if_pos (bne_iff_ne.2 (by rwa [h.actClass, class_permitNoted]))
      rw [other]
      exact h
  refine .foldl _ _ forced fun m a at_ h => h.claimChanged a ⟨a, (switchOf_partnerOf a).symm, ?_⟩
  exact beq_iff_eq.1 (Bool.and_eq_true _ _ ▸ (List.mem_filter.1 at_).2).1

theorem unpermitted_permitNoted {a : Fin 20} (class_ : s.nat (Key.actClass a) = w.val + 1) : Unpermitted w a (s.permitNoted w) where
  class_ := (class_permitNoted s w a).trans class_
  absent := (bitOf_of _ (State.get_put_other _ _ _ _ (losses_ne_levels w).symm)).trans (bitOf_putBit_same _ _ _ _)

theorem losses_permitNoted : (s.permitNoted w).nat (permitLosses w) = satSucc 32 (s.nat (permitLosses w)) :=
  (State.nat_putN_same _ _ _).trans (congrArg _ (nat_putN_of_ne _ _ _ _ (losses_ne_levels w)))

end

/-- Settles O40: the class is forced off channel by channel (`foldl_permitForce`), and while its permit is absent no change of a partner's claim starts it
again (`ForcedOff.claimChanged`); nothing else is at work (`works_permitServed`). -/
theorem permitsForceOff : Obligations.PermitsForceOff := by
  unfold Obligations.PermitsForceOff
  intro s w runs bit
  refine ⟨fun present => answers_permitLost runs present ?_, answers_served rfl runs ?_⟩
  · have works : Works (s.underPermit w) (s.permitNoted w) ((s.permitServed w).permitLogged w (s.permitForced w)) :=
      (works_permitServed s w).trans (noWork_permitLogged _ w _).works
    have counted : ∀ j, j = 8 ∨ j = 9 → 0x2940 * 256 + j = permitLosses w →
        ((s.permitServed w).permitLogged w (s.permitForced w)).serveOutputs.nat (0x2940 * 256 + j) = satSucc 32 (s.nat (0x2940 * 256 + j)) :=
      fun j hj own => (nat_of (get_serveOutputs _)).trans ((works.nat _ _ fun x _ => not_shown x).trans (by rw [own]; exact losses_permitNoted s w))
    refine ⟨?_, fun a class_ => ?_, fun a clear => ?_, ?_, ?_⟩
    · have levels : ((s.permitServed w).permitLogged w (s.permitForced w)).serveOutputs.get Key.inputsInputLevels = _ :=
        (get_serveOutputs _).trans works.inputLevels
      rw [bitOf_of _ levels]
      exact (bitOf_of _ (State.get_put_other _ _ _ _ (losses_ne_levels w).symm)).trans (bitOf_putBit_same _ _ _ _)
    · have off : ForcedOff w a ((s.permitServed w).permitLogged w (s.permitForced w)) :=
        (foldl_claimChanged _ _ (foldl_permitForce _ _ (.inl ⟨List.mem_finRange a, unpermitted_permitNoted s w class_⟩))).works
          (noWork_permitLogged _ w _) id
      exact ⟨(congrArg ActUnit.phase (actUnit_of (serveOutputs_acts _) a)).trans off.idle, (nat_of (get_serveOutputs _)).trans off.command⟩
    · exact (actUnit_of (serveOutputs_acts _) a).trans (works.units a fun ⟨b, same, class_⟩ => clear b same class_)
    · rintro rfl
      exact counted 8 (.inl rfl) rfl
    · rintro rfl
      exact counted 9 (.inr rfl) rfl
  · refine ⟨(bitOf_of _ (get_serveOutputs _)).trans (bitOf_putBit_same _ _ _ _), serveOutputs_acts _, fun a => ?_⟩
    exact (nat_of (get_serveOutputs _)).trans (nat_putN_of_ne _ _ _ _ key_ne)

end Sys2Proof.Machine
end

section
/-! SUPPORT. Faults of switches and channels, and their reset (R369, R380, R396): `Obligations.DriverFaults`. -/

namespace Sys2Proof.Machine

open Sys2Proof

/-! ### A switch in FAULT (R380, R396) -/

theorem switchOf_evenOf (h : Fin 10) : switchOf (evenOf h) = h := by revert h; decide
theorem switchOf_oddOf (h : Fin 10) : switchOf (oddOf h) = h := by revert h; decide
theorem evenOf_or_oddOf (a : Fin 20) : a = evenOf (switchOf a) ∨ a = oddOf (switchOf a) := by revert a; decide

/-- What a fault gives a switch's record: the cause, where it is the first, and the count (R396, R401). -/
def State.hsNoted (s : State) (h : Fin 10) (cause : Nat) : State :=
  (if s.hsFaulty h then s else s.putN (Key.hsFaultCause h) cause).bump 32 (Key.hsFaults h)

section
variable (s : State) (h : Fin 10) (cause : Nat)

/-- A fault of a switch opens the switch's own channels and leaves the others alone. -/
theorem works_hsFault : Works (switchOf · = h) (s.hsNoted h cause) (s.hsFault h cause) := by
  have blocked : Works (switchOf · = h) s (((s.openSwitch h).propBlock (evenOf h)).propBlock (oddOf h)) :=
    ((((Works.refl s).actOff _ (switchOf_evenOf h)).actOff _ (switchOf_oddOf h)).propBlock _ (switchOf_evenOf h)).propBlock _ (switchOf_oddOf h)
  have faulty : (((s.openSwitch h).propBlock (evenOf h)).propBlock (oddOf h)).hsFaulty h = s.hsFaulty h :=
    congrArg (· != 0) (blocked.nat _ _ fun b _ => not_shown b)
  unfold State.hsFault State.hsNoted
  dsimp only
  rw [faulty]
  split
  · exact (blocked.bumpBoth 32 fun b _ => not_shown b).raiseSource _
  · exact ((blocked.putBoth _ _).bumpBoth 32 fun b _ => not_shown b).raiseSource _

theorem phase_propBlock (a b : Fin 20) : ((s.propBlock a).actUnit b).phase = (s.actUnit b).phase := by
  unfold State.propBlock
  rw [actUnit_setAct]
  split
  · rfl
  · rfl

theorem idle_hsFault {a : Fin 20} (own : switchOf a = h) : ((s.hsFault h cause).actUnit a).phase = .idle := by
  have acts : (s.hsFault h cause).acts = (((s.openSwitch h).propBlock (evenOf h)).propBlock (oddOf h)).acts := by
    unfold State.hsFault
    dsimp only
    split
    · exact raiseSource_acts _ _
    · exact raiseSource_acts _ _
  rw [actUnit_of acts, phase_propBlock, phase_propBlock]
  subst own
  rcases evenOf_or_oddOf a with even | odd
  · exact idle_actOff _ _ a (.inr (idle_actOff _ _ a (.inl even)))
  · exact idle_actOff _ _ a (.inl odd)

/-- A switch in FAULT with this cause: both channels open, the fault counted. -/
structure Trips (t : State) : Prop where
  cause : t.nat (Key.hsFaultCause h) = cause
  idle  : ∀ a, switchOf a = h → (t.actUnit a).phase = .idle
  count : t.nat (Key.hsFaults h) = satSucc 32 (s.nat (Key.hsFaults h))

end

theorem nat_hsNoted (s : State) (h : Fin 10) (cause : Nat) {k : Nat} (first : k ≠ Key.hsFaultCause h) (count : k ≠ Key.hsFaults h) :
    (s.hsNoted h cause).nat k = s.nat k := by
  refine (nat_putN_of_ne _ _ _ _ count).trans ?_
  split
  · rfl
  · exact nat_putN_of_ne _ _ _ _ first

section
variable {s m t : State} {h : Fin 10} {cause : Nat}

theorem Trips.still (g : Trips s h cause m) (none_ : NoWork m t) : Trips s h cause t :=
  ⟨(NoWork.nat none_ _ _).trans g.cause, fun a own => (congrArg ActUnit.phase (none_.actUnit a)).trans (g.idle a own), (NoWork.nat none_ _ _).trans g.count⟩

theorem hsFault_trips (cause : Nat) (first : s.hsFaulty h = false) : Trips s h cause (s.hsFault h cause) := by
  have works := works_hsFault s h cause
  have noted : s.hsNoted h cause = (s.putN (Key.hsFaultCause h) cause).bump 32 (Key.hsFaults h) := by
    unfold State.hsNoted
    rw [first]
    rfl
  rw [noted] at works
  refine ⟨(works.nat _ _ fun b _ => not_shown b).trans ?_, fun a own => idle_hsFault s h cause own, (works.nat _ _ fun b _ => not_shown b).trans ?_⟩
  · exact (nat_putN_of_ne _ _ _ _ key_ne).trans (State.nat_putN_same _ _ _)
  · exact (State.nat_putN_same _ _ _).trans (congrArg _ (nat_putN_of_ne _ _ _ _ key_ne))
theorem hsTrip_trips (cause : Nat) (first : s.hsFaulty h = false) : Trips s h cause (s.hsTrip h cause) :=
  (hsFault_trips cause first).still ((Works.refl _).log _ _ _ _ _)
theorem noWork_setHsPresent (s : State) (h : Fin 10) (b : Bool) : NoWork s (s.setHsPresent h b) := ⟨fun _ _ => rfl, fun _ _ _ _ => rfl⟩

end

/-! ### A channel in FAULT (R369, R396) -/

/-- A channel in FAULT with this cause, and open. -/
structure FaultsWith (a : Fin 20) (cause : Nat) (t : State) : Prop where
  cause : t.nat (Key.actFaultCause a) = cause
  idle  : (t.actUnit a).phase = .idle

section
variable {s : State} {a : Fin 20}

theorem actFault_faults (cause : Nat) (first : s.actFaulty a = false) : FaultsWith a cause (s.actFault a cause) :=
  ⟨cause_actFault cause first, congrArg ActUnit.phase (actUnit_actFault_same s a cause)⟩

/-- Logged, and the partner served. -/
theorem FaultsWith.told {cause : Nat} (h : FaultsWith a cause s) (code source w4 w5 w6 : Nat) :
    FaultsWith a cause ((s.log code source w4 w5 w6).claimChanged a) := by
  have logged : NoWork s (s.log code source w4 w5 w6) := (Works.refl s).log _ _ _ _ _
  refine ⟨((nat_claimChanged _ a).trans (NoWork.nat logged _ _)).trans h.cause, ?_⟩
  rw [actUnit_claimChanged, logged.actUnit]
  exact h.idle

/-- A fault of the channel's switch leaves the channel its cause. -/
theorem FaultsWith.hsFault {cause : Nat} (h : FaultsWith a cause s) (reason : Nat) : FaultsWith a cause (s.hsFault (switchOf a) reason) :=
  ⟨(((works_hsFault s _ reason).nat _ _ fun b _ => not_shown b).trans (nat_hsNoted s _ reason key_ne key_ne)).trans h.cause, idle_hsFault s _ reason rfl⟩

/-- The marks that the cause is present touch neither record nor phase. -/
def State.marksPresent (s : State) (a : Fin 20) : State := (s.setAct a fun u => { u with present := true }).setHsPresent (switchOf a) true

theorem phase_marksPresent (s : State) (a b : Fin 20) : ((s.marksPresent a).actUnit b).phase = (s.actUnit b).phase := by
  show ((s.setAct a fun u => { u with present := true }).actUnit b).phase = _
  rw [actUnit_setAct]
  split
  · rfl
  · rfl

/-- LS_STUCK leaves channel and switch in FAULT, both with its cause. -/
theorem lsStuck_faults (channel : s.actFaulty a = false) (switch : s.hsFaulty (switchOf a) = false) :
    (((s.actFault a 5).hsFault (switchOf a) 5).log 0x0606 a a 2).nat (Key.actFaultCause a) = 5
      ∧ Trips (s.actFault a 5) (switchOf a) 5 (((s.actFault a 5).hsFault (switchOf a) 5).log 0x0606 a a 2) := by
  have logged : NoWork ((s.actFault a 5).hsFault (switchOf a) 5) (((s.actFault a 5).hsFault (switchOf a) 5).log 0x0606 a a 2) :=
    (Works.refl _).log _ _ _ _ _
  have stands : (s.actFault a 5).nat (Key.hsFaultCause (switchOf a)) = s.nat (Key.hsFaultCause (switchOf a)) :=
    ((works_actFault s a 5).nat _ _ fun b _ => not_shown b).trans (nat_causeNoted s a 5 key_ne)
  exact ⟨(NoWork.nat logged _ _).trans ((actFault_faults 5 channel).hsFault 5).cause,
    (hsFault_trips 5 ((congrArg (· != 0) stands).trans switch)).still logged⟩

end

/-! ### Fault reset (R396) -/

theorem actuatorFaultReset_clears {s : State} {p : Path} {a : Fin 20} (accepts : Accepts s p (Key.actFaultReset a) 1) :
    Answers (.actuatorFaultReset p a) s fun t => Only { s.acknowledged p with acts := t.acts } t [Key.actFaultCause a]
      ∧ t.nat (Key.actFaultCause a) = 0 ∧ ∀ b, (t.actUnit b).phase = (s.actUnit b).phase := by
  refine answers_commanded rfl accepts ⟨(Only.refl _ _).putN _ _ (List.mem_singleton_self _), State.nat_putN_same _ _ _, fun b => ?_⟩
  exact (phase_propBlock _ a b).trans (congrArg ActUnit.phase (actUnit_of (State.acknowledged_acts s p) b))
theorem switchFaultReset_clears {s : State} {p : Path} {h : Fin 10} (accepts : Accepts s p (Key.hsFaultReset h) 1) :
    Answers (.switchFaultReset p h) s fun t => Only { s.acknowledged p with acts := t.acts } t [Key.hsFaultCause h]
      ∧ t.nat (Key.hsFaultCause h) = 0 ∧ ∀ b, (t.actUnit b).phase = (s.actUnit b).phase := by
  refine answers_commanded rfl accepts ⟨(Only.refl _ _).putN _ _ (List.mem_singleton_self _), State.nat_putN_same _ _ _, fun b => ?_⟩
  exact ((phase_propBlock _ _ b).trans (phase_propBlock _ _ b)).trans (congrArg ActUnit.phase (actUnit_of (State.acknowledged_acts s p) b))

/-! ### The rows of R396 -/

section
variable {s : State} (runs : s.clocksRun = true)
include runs

theorem switchRows_trip {h : Fin 10} (sound : s.hsFaulty h = false) :
    (s.switchOn h = true → Answers (.hsOvercurrent h) s (Trips s h 1) ∧ Answers (.commonShort h) s (Trips s h 2))
      ∧ (s.switchOn h = false → Answers (.stuckOn h) s (Trips s h 3)) ∧ Answers (.hsOvertemp h) s (Trips s h 4) := by
  refine ⟨fun on => ⟨answers_served rfl runs ?_, answers_served rfl runs ?_⟩, fun off => answers_served rfl runs ?_, answers_served rfl runs ?_⟩
  · rw [if_pos on]
    exact hsTrip_trips 1 sound
  · rw [if_pos on]
    exact hsTrip_trips 2 sound
  · rw [if_neg (by rw [off]; decide)]
    exact (hsTrip_trips 3 sound).still (noWork_setHsPresent _ h true)
  · exact (hsTrip_trips 4 sound).still (noWork_setHsPresent _ h true)

section
variable {a : Fin 20} (sound : s.actFaulty (s.governing a) = false)
include sound

theorem lsOvercurrent_faults (active : (s.actUnit (s.governing a)).phase.active = true) :
    Answers (.lsOvercurrent a) s (FaultsWith (s.governing a) 4) := by
  refine answers_served rfl runs ?_
  dsimp only
  rw [if_pos active]
  exact (actFault_faults 4 sound).told 0x0606 _ _ 1 0
theorem lsStuck_answers (inactive : (s.actUnit (s.governing a)).phase.active = false) (switch : s.hsFaulty (switchOf (s.governing a)) = false) :
    Answers (.lsStuck a) s fun t => t.nat (Key.actFaultCause (s.governing a)) = 5 ∧ t.nat (Key.hsFaultCause (switchOf (s.governing a))) = 5
      ∧ ∀ b, switchOf b = switchOf (s.governing a) → (t.actUnit b).phase = .idle := by
  refine answers_served rfl runs ?_
  dsimp only
  rw [if_neg (by rw [inactive]; decide)]
  obtain ⟨cause, trips⟩ := lsStuck_faults sound switch
  exact ⟨cause, trips.cause, fun b own => (phase_marksPresent _ _ b).trans (trips.idle b own)⟩
theorem openLoad_faults (hold : (s.actUnit (s.governing a)).phase = .hold) (claims : 100 * unitsPerMa ≤ s.claim (s.governing a)) :
    Answers (.openLoad a) s (FaultsWith (s.governing a) 6) := by
  refine answers_served rfl runs ?_
  dsimp only
  rw [if_pos ⟨.inr (.inl hold), claims⟩]
  exact (actFault_faults 6 sound).told 0x0606 _ _ 3 0

end

end

/-- Settles O41: a switch trips by `hsFault_trips`, a channel by `actFault_faults`, whose causes are noted where they are the first (`State.hsNoted`,
`State.causeNoted`); a reset gives the cause 0 and blocks the setpoint, which starts nothing. -/
theorem driverFaults : Obligations.DriverFaults := by
  unfold Obligations.DriverFaults
  intro s p runs
  refine ⟨?_, ?_, fun a accepts => actuatorFaultReset_clears accepts, fun h accepts => switchFaultReset_clears accepts⟩
  · intro h sound tripped
    have trips : ∀ cause t, Trips s h cause t → tripped cause t := fun cause t g =>
      ⟨g.cause, g.idle _ (switchOf_evenOf h), g.idle _ (switchOf_oddOf h), g.count⟩
    obtain ⟨on, off, hot⟩ := switchRows_trip runs sound
    exact ⟨fun is => ⟨(on is).1.mono (trips 1), (on is).2.mono (trips 2)⟩, fun is => (off is).mono (trips 3), hot.mono (trips 4)⟩
  · intro a g sound
    refine ⟨fun active => (lsOvercurrent_faults runs sound active).mono fun t faults => ⟨faults.cause, faults.idle⟩,
      fun inactive switch => (lsStuck_answers runs sound inactive switch).mono fun t ⟨channel, cause, idle⟩ =>
        ⟨channel, cause, idle _ (switchOf_evenOf _), idle _ (switchOf_oddOf _)⟩,
      fun hold claims => (openLoad_faults runs sound hold claims).mono fun t faults => ⟨faults.cause, faults.idle⟩⟩

end Sys2Proof.Machine
end

section
/-! SUPPORT. Pulse inputs, operation by operation (R422-R424): `Obligations.PulseInputs`. -/

namespace Sys2Proof.Machine

open Sys2Proof

/-! ### Truth values and free values (log 34) -/

theorem flag_of {s t : State} {k : Nat} (h : t.get k = s.get k) : t.flag k = s.flag k := congrArg (· != 0) h
theorem flag_putB_same (s : State) (k : Nat) (b : Bool) : (s.putB k b).flag k = b := by
  unfold State.flag
  rw [State.get_putB, if_pos rfl]
  cases b <;> rfl

/-- Rounding a quotient draws at most free values. -/
theorem sat15Of_draws (s : State) (n : Int) (d : Nat) : ∃ f, (s.sat15Of n d).2 = { s with free := f } := by
  unfold State.sat15Of State.freeRound
  dsimp only
  split
  · exact ⟨s.free, rfl⟩
  · exact ⟨_, rfl⟩

/-! ### Pulse inputs, operation by operation (R422, R423) -/

section
variable (s : State) (q : Fin 8)

theorem pulseCount_eq (n : Nat) : ∃ f x, s.pulseCount q n = (({ s with free := f } : State).putN (Key.pulseCount q) n).put (Key.pulseCountQ15 q) x := by
  obtain ⟨f, drawn⟩ := sat15Of_draws s (32768 * Int.ofNat n) (s.nat (Key.pulseCountFullScale q))
  unfold State.pulseCount
  dsimp only
  rw [drawn]
  exact ⟨f, _, rfl⟩
theorem pulseFrequency_eq (n d : Nat) : ∃ f x, s.pulseFrequency q n d
    = (({ s with free := f } : State).putW (Key.pulseFrequency q) (fofRatio (Int.ofNat n) d)).put (Key.pulseFrequencyQ15 q) x := by
  unfold State.pulseFrequency
  extract_lets fs r
  obtain ⟨f, drawn⟩ : ∃ f, r.2 = { s with free := f } := sat15Of_draws s _ _
  rw [drawn]
  exact ⟨f, _, rfl⟩
theorem pulses_setPulse_same (f : PulseUnit → PulseUnit) : (s.setPulse q f).outputs.pulses[q] = f s.outputs.pulses[q] := by
  simp [State.setPulse]

variable {s q}

theorem pulseEdge_frequency (period : Option Nat) (mode : s.nat (Key.pulseMode q) = 1) :
    s.pulseEdge q period = s.setPulse q fun u => { u with gate := u.gate + 1 } := by
  unfold State.pulseEdge
  rw [mode]
  rfl
theorem pulseEdge_count (period : Option Nat) (mode : s.nat (Key.pulseMode q) = 3) :
    s.pulseEdge q period = if (s.nat (Key.pulseCount q) + 1) % 2 ^ 32 = 0 then (s.pulseCount q ((s.nat (Key.pulseCount q) + 1) % 2 ^ 32)).raiseSource (182 + q)
      else s.pulseCount q ((s.nat (Key.pulseCount q) + 1) % 2 ^ 32) := by
  unfold State.pulseEdge
  rw [mode]
  rfl

/-- An edge: the level follows, and one that counts has its effect. -/
theorem answers_pulseEdge {high : Bool} {period : Option Nat} {P : State → Prop} (runs : s.clocksRun = true) (changes : s.flag (Key.pulseLevel q) ≠ high)
    (h : P (if edgeCounts (s.nat (Key.pulseEdge q)) high then (s.putB (Key.pulseLevel q) high).pulseEdge q period else s.putB (Key.pulseLevel q) high)) :
    Answers (.pulseEdge q high period) s P := by
  refine answers_served rfl runs ?_
  rw [if_neg changes]
  exact h

theorem mode_putLevel (high : Bool) : (s.putB (Key.pulseLevel q) high).nat (Key.pulseMode q) = s.nat (Key.pulseMode q) := nat_putN_of_ne _ _ _ _ key_ne

end

/-- The level has followed an edge, and the count has become `n`. -/
structure CountsEdge (s : State) (q : Fin 8) (high : Bool) (n : Nat) (t : State) : Prop where
  moves : Moves { s with free := t.free } t [Key.pulseLevel q, Key.pulseCount q, Key.pulseCountQ15 q]
  level : t.flag (Key.pulseLevel q) = high
  count : t.nat (Key.pulseCount q) = n

theorem CountsEdge.raiseSource {s m : State} {q : Fin 8} {high : Bool} {n : Nat} (h : CountsEdge s q high n m) (src : Nat) :
    CountsEdge s q high n (m.raiseSource src) where
  moves := by
    rw [raiseSource_free]
    exact h.moves.raiseSource src
  level := (flag_of (get_raiseSource _ _ _ front_not_event)).trans h.level
  count := (nat_raiseSource _ _ _ front_not_event).trans h.count

theorem countsEdge_pulseCount (s : State) (q : Fin 8) (high : Bool) (n : Nat) : CountsEdge s q high n ((s.putB (Key.pulseLevel q) high).pulseCount q n) := by
  obtain ⟨f, x, counted⟩ := pulseCount_eq (s.putB (Key.pulseLevel q) high) q n
  rw [counted]
  refine ⟨Only.moves ?_, ?_, ?_⟩
  · exact (((Only.refl { s with free := f } _).putB (Key.pulseLevel q) high (by simp)).putN (Key.pulseCount q) n (by simp)).put _ x (by simp)
  · exact (flag_of ((State.get_put_other _ _ _ _ key_ne).trans (State.get_put_other _ _ _ _ key_ne))).trans (flag_putB_same s _ _)
  · exact (nat_of (State.get_put_other _ _ _ _ key_ne)).trans (State.nat_putN_same _ _ _)

/-! ### The rows of R422 and R423 -/

section
variable {s : State} {q : Fin 8} (runs : s.clocksRun = true)
include runs

theorem pulseEdge_countsEdge {high : Bool} {period : Option Nat} (changes : s.flag (Key.pulseLevel q) ≠ high)
    (counts : edgeCounts (s.nat (Key.pulseEdge q)) high = true) (mode : s.nat (Key.pulseMode q) = 3) :
    Answers (.pulseEdge q high period) s (CountsEdge s q high ((s.nat (Key.pulseCount q) + 1) % 2 ^ 32)) := by
  refine answers_pulseEdge runs changes ?_
  have before : (s.putB (Key.pulseLevel q) high).nat (Key.pulseCount q) = s.nat (Key.pulseCount q) := nat_putN_of_ne _ _ _ _ key_ne
  rw [if_pos counts, pulseEdge_count period ((mode_putLevel high).trans mode), before]
  have counted := countsEdge_pulseCount s q high ((s.nat (Key.pulseCount q) + 1) % 2 ^ 32)
  split
  · exact counted.raiseSource _
  · exact counted

theorem frequencyGateEnd_measures (mode : s.nat (Key.pulseMode q) = 1) : Answers (.frequencyGateEnd q) s fun t =>
    t.word (Key.pulseFrequency q) = fofRatio (Int.ofNat (1000 * (s.outputs.pulses[q]).gate)) (s.nat (Key.pulseGateTime q))
      ∧ (t.outputs.pulses[q]).gate = 0 ∧ (t.outputs.pulses[q]).ageTick = some s.clock.tick := by
  refine answers_served rfl runs ?_
  rw [if_pos mode]
  obtain ⟨f, x, measured⟩ := pulseFrequency_eq s q (1000 * (s.outputs.pulses[q]).gate) (s.nat (Key.pulseGateTime q))
  rw [measured]
  refine ⟨word_of_get ((State.get_put_other _ _ _ _ key_ne).trans (State.get_put_same _ _ _)), ?_, ?_⟩
  · unfold State.pulseFresh
    rw [pulses_setPulse_same, pulses_setPulse_same]
  · unfold State.pulseFresh
    rw [pulses_setPulse_same]
    rfl

theorem pulseZeroTime_zeroes (mode : s.nat (Key.pulseMode q) ≠ 0) : Answers (.pulseZeroTime q) s fun t =>
    Moves s t [Key.pulseFrequency q, Key.pulseFrequencyQ15 q] ∧ t.get (Key.pulseFrequency q) = 0 ∧ t.get (Key.pulseFrequencyQ15 q) = 0 := by
  refine answers_served rfl runs ?_
  rw [if_neg mode]
  have zeroed : ∀ j, (0x2930 + q.val) * 256 + j ∈ [Key.pulseFrequency q, Key.pulseFrequencyQ15 q] → j < 256 →
      ((s.zero [Key.pulseFrequency q, Key.pulseFrequencyQ15 q]).raiseSource (182 + q)).get ((0x2930 + q.val) * 256 + j) = 0 := fun j mem hj =>
    (get_raiseSource _ _ _ front_not_event).trans ((State.get_zero _ _ _).trans (if_pos mem))
  exact ⟨((Moves.refl s _).zero _ fun _ mem => mem).raiseSource _, zeroed 0x20 (by simp) (by decide), zeroed 0x23 (by simp) (by decide)⟩

end

/-- Settles O44: an edge that counts by `countsEdge_pulseCount`, the other rows each by what its one operation leaves (`pulseFrequency_eq`,
`pulseCount_eq`). -/
theorem pulseInputs : Obligations.PulseInputs := by
  unfold Obligations.PulseInputs
  intro s q runs
  refine ⟨fun high period changes => ⟨fun idle => ?_, fun counts mode => ?_, fun counts mode => ?_⟩, fun mode => frequencyGateEnd_measures runs mode,
    fun mode => pulseZeroTime_zeroes runs mode, fun p accepts => ?_⟩
  · refine answers_pulseEdge runs changes ?_
    rw [if_neg (by rw [idle]; decide)]
    exact ⟨(Only.refl s _).putB _ _ (List.mem_singleton_self _), flag_putB_same s _ _⟩
  · exact (pulseEdge_countsEdge runs changes counts mode).mono fun t edge => ⟨edge.moves, edge.level, edge.count⟩
  · refine answers_pulseEdge runs changes ?_
    rw [if_pos counts, pulseEdge_frequency period ((mode_putLevel high).trans mode), pulses_setPulse_same]
    rfl
  · refine answers_commanded rfl accepts ?_
    obtain ⟨f, x, cleared⟩ := pulseCount_eq (s.acknowledged p) q 0
    unfold State.countReset
    rw [cleared]
    exact ⟨(nat_of (State.get_put_other _ _ _ _ key_ne)).trans (State.nat_putN_same _ _ _),
      ((Only.refl { s.acknowledged p with free := f } _).putN (Key.pulseCount q) 0 (by simp)).put _ x (by simp)⟩

end Sys2Proof.Machine
end

section
/-! SUPPORT. What a change of a drive's state tells others (`Tells`): blanking sources that come and go, slots that they take and give, raised sources,
logged events (R186-R190, R407). One rule per operation. -/

namespace Sys2Proof.Machine

open Sys2Proof

/-! ### The frame -/

/-- A value that neither an event moves nor a slot: none of the channels and converter cores. -/
def Untold (k : Nat) : Prop := k ∉ eventKeys ∧ (k < 0x2400 * 256 ∨ 0x2500 * 256 ≤ k)

theorem untold_at {i j : Nat} (hi : 0x2500 ≤ i ∧ i < 0x2A00 := by omega) (hj : j < 256 := by omega) : Untold (i * 256 + j) :=
  ⟨front_not_event, .inr (by omega)⟩
theorem untold_process : Untold Key.procProcessState := ⟨by decide, .inl (by decide)⟩
theorem untold_thermalStatus : Untold Key.thermalStatus := ⟨by decide, .inr (by decide)⟩

/-- From `s` to `t` others were told, and the values of `own` given: the dictionary server and the other untold values stand. -/
structure Tells (own : List Nat) (s t : State) : Prop where
  dict   : t.dict = s.dict
  values : ∀ k, Untold k → k ∉ own → t.get k = s.get k

section
variable {own : List Nat} {s m t : State}

theorem Tells.refl (s : State) : Tells own s s := ⟨rfl, fun _ _ _ => rfl⟩
theorem Tells.trans (h : Tells own s m) (g : Tells own m t) : Tells own s t :=
  ⟨g.dict.trans h.dict, fun k hk free => (g.values k hk free).trans (h.values k hk free)⟩
theorem Tells.more {more : List Nat} (h : Tells own s t) (sub : own ⊆ more) : Tells more s t :=
  ⟨h.dict, fun k hk free => h.values k hk fun mem => free (sub mem)⟩
theorem Tells.ite {a b : State} {p : Prop} [Decidable p] (h : Tells own s a) (g : Tells own s b) : Tells own s (if p then a else b) := by
  split
  · exact h
  · exact g
theorem Tells.foldl {α : Type} (f : State → α → State) (l : List α) (h : Tells own s m) (hf : ∀ m x, Tells own s m → Tells own s (f m x)) :
    Tells own s (l.foldl f m) := by
  induction l generalizing m with
  | nil => exact h
  | cons x l ih => exact ih (hf _ _ h)

/-- A value of the outputs' and the loops' objects. -/
theorem Tells.get (h : Tells own s t) (i j : Nat) (free : i * 256 + j ∉ own) (hi : 0x2500 ≤ i ∧ i < 0x2A00 := by omega) (hj : j < 256 := by omega) :
    t.get (i * 256 + j) = s.get (i * 256 + j) := h.values _ untold_at free

/-! ### Values and parts -/

theorem Tells.put (h : Tells own s m) (k : Nat) (v : Int) (moves : Untold k → k ∈ own) : Tells own s (m.put k v) :=
  ⟨h.dict, fun j hj free => (State.get_put_other _ _ _ _ (by rintro rfl; exact free (moves hj))).trans (h.values j hj free)⟩
theorem Tells.putN (h : Tells own s m) (k v : Nat) (moves : k ∈ own) : Tells own s (m.putN k v) := h.put k _ fun _ => moves
theorem Tells.putBit (h : Tells own s m) (k n : Nat) (b : Bool) (moves : k ∈ own) : Tells own s (m.putBit k n b) := h.put k _ fun _ => moves
theorem Tells.bump (h : Tells own s m) (w k : Nat) (moves : k ∈ own) : Tells own s (State.bump w m k) := h.put k _ fun _ => moves
/-- A value of the channels or the converter cores. -/
theorem Tells.putFront (h : Tells own s m) (i j : Nat) (v : Nat) (hi : 0x2400 ≤ i ∧ i < 0x2500 ∧ j < 256 := by omega) :
    Tells own s (m.putN (i * 256 + j) v) := h.put _ _ fun told => absurd told.2 (by omega)
theorem Tells.setChannel (h : Tells own s m) (n : Fin 64) (f : Channel → Channel) : Tells own s (m.setChannel n f) := ⟨h.dict, h.values⟩
theorem Tells.setConverter (h : Tells own s m) (v : Fin 8) (f : Converter → Converter) : Tells own s (m.setConverter v f) := ⟨h.dict, h.values⟩

theorem Tells.moves (h : Tells own s m) (g : Moves m t []) : Tells own s t :=
  ⟨(congrArg State.dict g.beside : t.besideEvents.dict = m.besideEvents.dict).trans h.dict, fun k hk free => (g.get k hk.1).trans (h.values k hk free)⟩
theorem Tells.raiseSource (h : Tells own s m) (src : Nat) : Tells own s (m.raiseSource src) := h.moves ((Moves.refl _ _).raiseSource _)
theorem Tells.log (h : Tells own s m) (code source w4 w5 w6 : Nat) : Tells own s (m.log code source w4 w5 w6) := h.moves ((Moves.refl _ _).log _ _ _ _ _)

/-! ### Blanking (R186-R190) -/

theorem Tells.schedules (h : Tells own s m) (g : Schedules m t) : Tells own s t where
  dict := by
    rw [g.rest]
    exact h.dict
  values k hk free := by
    have value := g.values (k / 256) (k % 256) (by omega) (by have := hk.2; omega)
    rw [show k / 256 * 256 + k % 256 = k by omega] at value
    exact value.trans (h.values k hk free)
theorem Tells.abortedRetake (h : Tells own s m) (n : Fin 64) : Tells own s (m.abortedRetake n) :=
  .ite h (.ite (h.setChannel _ _) (((h.setChannel _ _).putFront _ _ _).putFront _ _ _))
theorem Tells.starve (h : Tells own s m) (n : Fin 64) : Tells own s (m.starve n) := .ite (h.setChannel _ _) ((h.setChannel _ _).log _ _ _ _ _)
theorem Tells.abortSlot (h : Tells own s m) (v : Fin 8) (src u : Nat) : Tells own s (m.abortSlot v src u) := by
  unfold State.abortSlot
  split
  · exact h
  · extract_lets n starved ended counted retaken
    have hc : Tells own s counted := ((h.setConverter v _).setChannel n _).putFront _ _ _
    clear_value counted
    have hr : Tells own s retaken := .ite (hc.abortedRetake n) hc
    exact .ite (.ite (hr.starve n) hr) h
theorem Tells.unstartSlot (h : Tells own s m) (v : Fin 8) (src u : Nat) : Tells own s (m.unstartSlot v src u) := by
  unfold State.unstartSlot
  split
  · exact .ite ((h.setConverter _ _).setChannel _ _) h
  · exact h
theorem Tells.inForce (h : Tells own s m) (src : Nat) : Tells own s (m.inForce src) := ⟨h.dict, h.values⟩
theorem Tells.outOfForce (h : Tells own s m) (src : Nat) : Tells own s (m.outOfForce src) := ⟨h.dict, h.values⟩
theorem Tells.blankRelease (h : Tells own s m) (src : Nat) : Tells own s (m.blankRelease src) := by
  rw [blankRelease_eq]
  exact (h.outOfForce src).schedules (schedules_serveCores _)
theorem Tells.blankAssert (h : Tells own s m) (src u : Nat) : Tells own s (m.blankAssert src u) := by
  cases on : m.front.inEffect.testBit src with
  | true =>
    rw [blankAssert_on u on]
    exact h
  | false =>
    rw [blankAssert_off u on]
    have unstarted : Tells own s (m.unstarted src u) := .foldl _ _ h fun _ v g => g.unstartSlot v src u
    have marked : Tells own s (((m.unstarted src u).inForce src).marked src) := .foldl _ _ (unstarted.inForce src) fun _ n g => .ite (g.setChannel n _) g
    have aborted : Tells own s ((((m.unstarted src u).inForce src).marked src).aborted src u) := .foldl _ _ marked fun _ v g => g.abortSlot v src _
    exact aborted.schedules (schedules_serveCores _)
theorem Tells.blankAgain (h : Tells own s m) (src : Nat) : Tells own s (m.blankAgain src) := (h.blankRelease src).blankAssert src _

end

/-! ### A drive's state changes (R407, R408, R411) -/

/-- What a change of a drive's state gives of its own: state, status, start attempt. -/
def stateKeys (d : Fin 16) : List Nat := [Key.driveState d, Key.driveStatus d, Key.driveStartAttempt d]

theorem not_stateKey (d : Fin 16) {i j : Nat} (other : i ≠ 0x2900 + d.val ∨ j ≠ 0x20 ∧ j ≠ 0x21 ∧ j ≠ 0x28 := by omega) (hj : j < 256 := by omega) :
    i * 256 + j ∉ stateKeys d := by
  simp only [stateKeys, List.mem_cons, List.not_mem_nil, or_false, not_or]
  exact ⟨key_ne, key_ne, key_ne⟩

section
variable (s : State) (d : Fin 16)

theorem tells_driveEnter (st : Nat) : Tells (stateKeys d) s (s.driveEnter d st) := by
  have state : Key.driveState d ∈ stateKeys d := by simp [stateKeys]
  have status : Key.driveStatus d ∈ stateKeys d := by simp [stateKeys]
  have attempt : Key.driveStartAttempt d ∈ stateKeys d := by simp [stateKeys]
  unfold State.driveEnter
  extract_lets released counted cleared
  have hr : Tells (stateKeys d) s released := .ite ((Tells.refl s).blankRelease _) (.refl s)
  clear_value released
  have hc : Tells (stateKeys d) s counted := .ite (hr.putN _ _ attempt) hr
  clear_value counted
  have hb : Tells (stateKeys d) s cleared := .ite (((hc.putBit _ _ _ status).putBit _ _ _ status).putBit _ _ _ status) hc
  exact .ite (.refl s) ((hb.putN _ _ state).raiseSource _)

/-- The sensor supply's bit is none of the reports that a change of state clears. -/
theorem supplyBit_driveEnter (st : Nat) : (s.driveEnter d st).bitOf (Key.driveStatus d) 8 = s.bitOf (Key.driveStatus d) 8 := by
  unfold State.driveEnter
  extract_lets released counted cleared
  have hr : Tells [] s released := .ite ((Tells.refl s).blankRelease _) (.refl s)
  have status : released.bitOf (Key.driveStatus d) 8 = s.bitOf (Key.driveStatus d) 8 := bitOf_of _ (hr.get _ _ List.not_mem_nil)
  clear_value released
  have hc : counted.bitOf (Key.driveStatus d) 8 = s.bitOf (Key.driveStatus d) 8 := by
    show State.bitOf (if _ then _ else _) _ _ = _
    split
    · exact (bitOf_of _ (State.get_put_other _ _ _ _ key_ne)).trans status
    · exact status
  clear_value counted
  have hb : cleared.bitOf (Key.driveStatus d) 8 = s.bitOf (Key.driveStatus d) 8 := by
    show State.bitOf (if _ then _ else _) _ _ = _
    split
    · rw [bitOf_putBit_bit _ _ _ _ _ (by decide), bitOf_putBit_bit _ _ _ _ _ (by decide), bitOf_putBit_bit _ _ _ _ _ (by decide), hc]
    · exact hc
  split
  · rfl
  · exact (bitOf_of _ ((get_raiseSource _ _ _ front_not_event).trans (State.get_put_other _ _ _ _ key_ne))).trans hb

theorem driveStart_starts (n : Nat) : Tells (stateKeys d) s (s.driveStart d n) ∧ (s.driveStart d n).nat (Key.driveState d) = driveStarting
    ∧ (s.driveStart d n).nat (Key.driveStartAttempt d) = n := by
  have again : Tells [] ((s.driveEnter d driveStarting).putN (Key.driveStartAttempt d) n) (s.driveStart d n) := (Tells.refl _).blankAgain _
  refine ⟨((tells_driveEnter s d driveStarting).putN (Key.driveStartAttempt d) n (by simp [stateKeys])).blankAgain _, ?_, ?_⟩
  · exact (nat_of (again.get _ _ List.not_mem_nil)).trans ((nat_putN_of_ne _ _ _ _ key_ne).trans (driveState_driveEnter s d _))
  · exact (nat_of (again.get _ _ List.not_mem_nil)).trans (State.nat_putN_same _ _ _)

end

end Sys2Proof.Machine
end

section
/-! SUPPORT. Drive fault reset, sensor supply, current-output loop fault and setpoint inputs (R408, R412, R421, R425):
`Obligations.OutputAndInputFaults`. -/

namespace Sys2Proof.Machine

open Sys2Proof

section
variable {s : State}

/-! ### Drive fault reset (R408, R412) -/

theorem driveFaultReset_resets (s : State) (d : Fin 16) : (s.driveFaultReset d).bitOf (Key.driveStatus d) 8 = false
    ∧ (s.driveFaultReset d).nat (Key.driveState d) = if s.nat (Key.driveState d) = driveBlocked then driveIdle else s.nat (Key.driveState d) := by
  unfold State.driveFaultReset
  extract_lets on
  have supply : on.bitOf (Key.driveStatus d) 8 = false := bitOf_putBit_same _ _ _ _
  have state : on.nat (Key.driveState d) = s.nat (Key.driveState d) := nat_putN_of_ne _ _ _ _ key_ne
  split
  · exact ⟨(bitOf_of _ (State.get_put_other _ _ _ _ key_ne)).trans ((supplyBit_driveEnter on d driveIdle).trans supply),
      (nat_of (State.get_put_other _ _ _ _ key_ne)).trans (driveState_driveEnter on d driveIdle)⟩
  · exact ⟨supply, state⟩

/-! ### The sensor supply (R412) -/

theorem sensorSupplyOvercurrent_trips {d : Fin 16} {mA : Nat} (runs : s.clocksRun = true) (excess : 150 < mA)
    (untripped : s.bitOf (Key.driveStatus d) 8 = false) (powered : s.p2Lost = false) : Answers (.sensorSupplyOvercurrent d mA) s fun t =>
      Moves s t [Key.driveStatus d, Key.driveSensorSupplyCurrent d] ∧ t.bitOf (Key.driveStatus d) 8 = true
        ∧ t.nat (Key.driveSensorSupplyCurrent d) = 0 ∧ (s.logOpen → t.lastLogged 0x0706 d d 0 0) := by
  have on : s.sensorSupplyOn d = true := by
    unfold State.sensorSupplyOn
    rw [runs, untripped, powered]
    rfl
  refine answers_served rfl runs ?_
  rw [if_pos ⟨excess, on⟩]
  refine ⟨(((Moves.refl s _).putBit _ _ _ (by simp)).putN _ _ (by simp)).log _ _ _ _ _, ?_, ?_, fun writable => lastLogged_log _ _ _ _ _ _ ?_⟩
  · exact (bitOf_of _ ((get_log _ _ _ _ _ _ _ front_not_event).trans (State.get_put_other _ _ _ _ key_ne))).trans (bitOf_putBit_same _ _ _ _)
  · exact (nat_of (get_log _ _ _ _ _ _ _ front_not_event)).trans (State.nat_putN_same _ _ _)
  · exact logOpen_of writable rfl ((State.get_put_other _ _ _ _ key_ne).trans (State.get_put_other _ _ _ _ key_ne))

/-! ### The current output's loop (R421) -/

theorem currentOutputLoopFault_reports {k : Fin 8} {mA : Word} (runs : s.clocksRun = true)
    (far : (s.putW (Key.coutReadback k) mA).outputNear k = false) (driven : flt (s.word (Key.coutTarget k)) mA35 = false)
    (closed : s.bitOf (Key.coutStatus k) 1 = false) (near : s.bitOf (Key.coutStatus k) 2 = false) : Answers (.currentOutputLoopFault k mA) s fun t =>
      Moves s t [Key.coutReadback k, Key.coutStatus k, Key.coutLoopFaults k]
        ∧ t.bitOf (Key.coutStatus k) (if flt mA mA1 = true then 1 else 2) = true
        ∧ t.nat (Key.coutLoopFaults k) = satSucc 32 (s.nat (Key.coutLoopFaults k)) := by
  have target : (s.putW (Key.coutReadback k) mA).word (Key.coutTarget k) = s.word (Key.coutTarget k) := word_of (State.get_put_other _ _ _ _ key_ne)
  refine answers_served rfl runs ?_
  dsimp only
  rw [far, target, driven, closed, near, if_neg (by decide)]
  refine ⟨(((((Moves.refl s _).putW _ _ (by simp)).putBit _ _ _ (by simp)).bump _ _ (by simp)).log _ _ _ _ _).raiseSource _, ?_, ?_⟩
  · refine (bitOf_of _ ((get_raiseSource _ _ _ front_not_event).trans (get_log _ _ _ _ _ _ _ front_not_event))).trans ?_
    exact (bitOf_of _ (State.get_put_other _ _ _ _ key_ne)).trans (bitOf_putBit_same _ _ _ _)
  · refine (nat_of ((get_raiseSource _ _ _ front_not_event).trans (get_log _ _ _ _ _ _ _ front_not_event))).trans ?_
    exact (State.nat_putN_same _ _ _).trans (congrArg _ (nat_of ((State.get_put_other _ _ _ _ key_ne).trans (State.get_put_other _ _ _ _ key_ne))))

/-! ### Setpoint inputs (R425) -/

theorem setpPublish_eq (s : State) (i : Nat) (raw : Word) :
    ∃ f x v, s.setpPublish i raw = (({ s with free := f } : State).put (Key.setpValueQ15 i) x).putW (Key.setpValue i) v := by
  unfold State.setpPublish
  extract_lets mode e x q lo frac
  obtain ⟨f, drawn⟩ : ∃ f, q.2 = { s with free := f } := by
    show ∃ f, (if mode = 2 then _ else _ : Int × State).2 = _
    split
    · exact sat15Of_draws s _ _
    · exact sat15Of_draws s _ _
  rw [drawn]
  exact ⟨f, _, _, rfl⟩

theorem setpointInputFault_reports {i : Fin 2} (runs : s.clocksRun = true) (mode : s.nat (Key.setpMode i) = 2)
    (outside : setpOutside (s.word (Key.setpRawValue i)) = true) (sound : s.flag (Key.setpFault i) = false) : Answers (.setpointInputFault i) s fun t =>
      Moves s t [Key.setpFault i] ∧ t.flag (Key.setpFault i) = true ∧ (s.logOpen → t.lastLogged 0x0707 i i 0 0) := by
  refine answers_served rfl runs ?_
  rw [if_pos ⟨mode, outside, sound⟩]
  refine ⟨((Moves.refl s _).putB _ _ (by simp)).log _ _ _ _ _, ?_, fun writable => lastLogged_log _ _ _ _ _ _ ?_⟩
  · exact (flag_of (get_log _ _ _ _ _ _ _ front_not_event)).trans (flag_putB_same _ _ _)
  · exact logOpen_of writable rfl (State.get_put_other _ _ _ _ key_ne)

theorem word_putRaw (s : State) (i : Nat) (raw : Word) : (s.putW (Key.setpRawValue i) raw).word (Key.setpRawValue i) = raw :=
  word_of_get (State.get_put_same _ _ _)

theorem setpointInputUpdate_outside {i : Fin 2} {raw : Word} (runs : s.clocksRun = true) (mode : s.nat (Key.setpMode i) = 2)
    (outside : setpOutside raw = true) : Answers (.setpointInputUpdate i raw) s fun t =>
      Only s t [Key.setpRawValue i] ∧ t.word (Key.setpRawValue i) = raw := by
  refine answers_served rfl runs ?_
  dsimp only
  rw [if_neg (by rw [mode]; decide), if_pos ⟨mode, outside⟩]
  exact ⟨(Only.refl s _).putW _ _ (by simp), word_putRaw s i raw⟩

theorem setpointInputUpdate_inside {i : Fin 2} {raw : Word} (runs : s.clocksRun = true) (on : s.nat (Key.setpMode i) ≠ 0)
    (inside : s.nat (Key.setpMode i) = 2 → setpOutside raw = false) : Answers (.setpointInputUpdate i raw) s fun t =>
      Only { s with free := t.free } t [Key.setpRawValue i, Key.setpFault i, Key.setpValueQ15 i, Key.setpValue i]
        ∧ t.word (Key.setpRawValue i) = raw ∧ t.flag (Key.setpFault i) = false := by
  refine answers_served rfl runs ?_
  dsimp only
  rw [if_neg on, if_neg fun h => by rw [inside h.1] at h; exact absurd h.2 (by decide)]
  obtain ⟨f, x, v, published⟩ := setpPublish_eq ((s.putW (Key.setpRawValue i) raw).putB (Key.setpFault i) false) i raw
  rw [published]
  refine ⟨?_, ?_, ?_⟩
  · exact ((((Only.refl { s with free := f } _).putW (Key.setpRawValue i) raw (by simp)).putB (Key.setpFault i) false (by simp)).put
      (Key.setpValueQ15 i) x (by simp)).putW _ v (by simp)
  · exact (word_of ((State.get_put_other _ _ _ _ key_ne).trans ((State.get_put_other _ _ _ _ key_ne).trans (State.get_put_other _ _ _ _ key_ne)))).trans
      (word_putRaw s i raw)
  · exact (flag_of ((State.get_put_other _ _ _ _ key_ne).trans (State.get_put_other _ _ _ _ key_ne))).trans (flag_putB_same _ _ _)

end

/-- Settles O43: the fault reset by `driveFaultReset_resets`, since a change of a drive's state leaves the bit of its sensor supply alone
(`supplyBit_driveEnter`); the other rows one by one. -/
theorem outputAndInputFaults : Obligations.OutputAndInputFaults := by
  unfold Obligations.OutputAndInputFaults
  intro s p runs
  refine ⟨fun d accepts => answers_commanded rfl accepts ?_, fun d mA excess untripped powered => sensorSupplyOvercurrent_trips runs excess untripped powered,
    fun k mA far driven closed near => currentOutputLoopFault_reports runs far driven closed near,
    fun i mode outside sound => setpointInputFault_reports runs mode outside sound,
    fun i raw on => ⟨setpointInputUpdate_outside runs, setpointInputUpdate_inside runs on⟩⟩
  obtain ⟨supply, state⟩ := driveFaultReset_resets (s.acknowledged p) d
  rw [State.nat_acknowledged s p _ (driveState_not_event d)] at state
  exact ⟨supply, fun blocked => state.trans (if_pos blocked), fun other => state.trans (if_neg other)⟩

end Sys2Proof.Machine
end

section
/-! SUPPORT. A drive's cycle while the manual command drives it (R406-R411, R413), and `Obligations.DriveSupervision`. -/

namespace Sys2Proof.Machine

open Sys2Proof

/-! ### The manual command (R406) -/

/-- The rows of R406 above the manual command do not apply, the drive has a tach, and the manual command is not 0. -/
structure Manual (d : Fin 16) (s : State) : Prop where
  tach    : s.nat (Key.drivePulsesPerRevolution d) ≠ 0
  on      : s.nat (Key.driveMode d) ≠ 0
  enabled : s.outputsReset = false
  free    : s.policiesActive = false
  sound   : s.process ≠ psFault
  source  : s.nat (Key.driveCommandSource d) ≠ 1
  alone   : s.loopsNaming 1 d = []
  command : 0 < s.get (Key.driveManualCommand d)

section
variable {d : Fin 16} {s t : State}

/-- Nothing that is told to others, and none of the drive's own values from subindex 0x20 on, takes the manual command away. -/
theorem Manual.tells {own : List Nat} (h : Manual d s) (g : Tells own s t) (shown : ∀ k ∈ own, k / 256 = 0x2900 + d.val ∧ 0x20 ≤ k % 256) :
    Manual d t := by
  have free : ∀ {i j : Nat}, i ≠ 0x2900 + d.val ∨ j < 0x20 → j < 256 → i * 256 + j ∉ own := fun off hj mem => by
    have := shown _ mem
    omega
  have process : t.get Key.procProcessState = s.get Key.procProcessState := g.values _ untold_process (free (.inr (by decide)) (by decide))
  have thermal : t.get Key.thermalStatus = s.get Key.thermalStatus := g.values _ untold_thermalStatus (free (.inr (by decide)) (by decide))
  have setting : ∀ j < 0x20, t.get ((0x2900 + d.val) * 256 + j) = s.get ((0x2900 + d.val) * 256 + j) := fun j hj =>
    g.get _ j (free (.inr hj) (by omega))
  have loop : ∀ (l : Fin 64) (j : Nat), j < 256 → t.get ((0x2600 + l.val) * 256 + j) = s.get ((0x2600 + l.val) * 256 + j) := fun l j hj =>
    g.get _ j (free (.inl (by omega)) hj)
  have loops : t.loopsNaming 1 d = s.loopsNaming 1 d := by
    unfold State.loopsNaming
    refine List.filter_congr fun l _ => ?_
    rw [flag_of (loop l 1 (by decide)), nat_of (loop l 0x20 (by decide)), nat_of (loop l 0x21 (by decide))]
  have reset : t.outputsReset = s.outputsReset := by
    unfold State.outputsReset State.process State.coldHold
    rw [nat_of process, bitOf_of _ thermal]
  refine ⟨?_, ?_, reset.trans h.enabled, ?_, ?_, ?_, loops.trans h.alone, ?_⟩
  · rw [nat_of (setting 0x0B (by decide))]; exact h.tach
  · rw [nat_of (setting 1 (by decide))]; exact h.on
  · exact (congrArg Dict.policies g.dict).trans h.free
  · rw [show t.process = s.process from nat_of process]; exact h.sound
  · rw [nat_of (setting 3 (by decide))]; exact h.source
  · rw [setting 6 (by decide)]; exact h.command

/-- In BLOCKED and RETRY_WAIT 0 is applied (R406). -/
theorem Manual.waits (h : Manual d s) (waiting : s.nat (Key.driveState d) = driveBlocked ∨ s.nat (Key.driveState d) = driveRetryWait) :
    s.driveCommand d false = (0, .no) := by
  unfold State.driveCommand
  dsimp only
  rw [if_neg (by simp [h.on, h.enabled]), if_pos (by simpa using waiting)]

/-- The row of R406 in force: the manual command, in OPEN_LOOP the last good duty (R410). -/
theorem Manual.driven (h : Manual d s) (base : Bool) (moving : s.nat (Key.driveState d) ≠ driveStall)
    (row : base = true ∨ s.nat (Key.driveState d) ≠ driveBlocked ∧ s.nat (Key.driveState d) ≠ driveRetryWait) : s.driveCommand d base
      = (if s.nat (Key.driveState d) = driveOpenLoop then s.get (Key.driveLastGoodDuty d) else s.get (Key.driveManualCommand d), .no) := by
  have later : ¬(!base && (s.nat (Key.driveState d) == driveBlocked || s.nat (Key.driveState d) == driveRetryWait)) = true := by
    rcases row with state | ⟨notBlocked, notWaiting⟩
    · simp [state]
    · simp [notBlocked, notWaiting]
  unfold State.driveCommand
  dsimp only
  rw [if_neg (by simp [h.on, h.enabled]), if_neg later, if_neg (by simp [h.free, moving]), if_neg h.sound]
  split
  · rfl
  · rw [if_neg h.source, h.alone]
    rfl

end

/-! ### A cycle that changes no state (R406-R408) -/

/-- The states that stand under a command that is not 0. -/
def driveStands : List Nat := [driveStarting, driveRetryWait, driveRunning, driveOpenLoop, driveBlocked]

theorem driveStands_started : ∀ st ∈ driveStands, st ≠ driveOff ∧ st ≠ driveIdle ∧ st ≠ driveStall := by decide

/-- A drive whose state stands under the manual command: started or waiting for its start, in OPEN_LOOP with a last good duty. -/
structure Supervised (d : Fin 16) (s : State) : Prop extends Manual d s where
  state    : s.nat (Key.driveState d) ∈ driveStands
  lastGood : s.nat (Key.driveState d) = driveOpenLoop → 0 < s.get (Key.driveLastGoodDuty d)

section
variable {d : Fin 16} {s : State}

theorem Supervised.outputs (h : Supervised d s) (o : Outputs) : Supervised d { s with outputs := o } where
  tach := h.tach
  on := h.on
  enabled := h.enabled
  free := h.free
  sound := h.sound
  source := h.source
  alone := h.alone
  command := h.command
  state := h.state
  lastGood := h.lastGood

theorem Supervised.started (h : Supervised d s) : s.nat (Key.driveState d) ≠ driveOff ∧ s.nat (Key.driveState d) ≠ driveIdle
    ∧ s.nat (Key.driveState d) ≠ driveStall := driveStands_started _ h.state

theorem Supervised.tableless (h : Supervised d s) : (s.driveCommand d false).2 = .no := by
  by_cases waits : s.nat (Key.driveState d) = driveBlocked ∨ s.nat (Key.driveState d) = driveRetryWait
  · rw [h.waits waits]
  · rw [h.driven false h.started.2.2 (.inr (not_or.1 waits))]

theorem Supervised.goes (h : Supervised d s) : 0 < (s.driveCommand d true).1 := by
  rw [h.driven true h.started.2.2 (.inl rfl)]
  dsimp only
  split
  · exact h.lastGood (by assumption)
  · exact h.command

theorem tableUse_tableless (no : (s.driveCommand d false).2 = .no) : s.tableUse d = s.setDrive d fun u => { u with inTable := false } := by
  unfold State.tableUse
  dsimp only
  rw [no]
  rfl

theorem Supervised.driveAdvance (h : Supervised d s) : s.driveAdvance d = s := by
  obtain ⟨notOff, notIdle, -⟩ := h.started
  unfold State.driveAdvance
  dsimp only
  rw [if_neg h.on, if_neg notOff, if_neg notIdle]
  split
  · rfl
  · rw [if_neg (by simpa using h.goes), if_neg (by simp [h.tach])]

/-- The cycle moves units alone. -/
theorem Supervised.settled (h : Supervised d s) : ∃ o, s.driveSettled d = { s with outputs := o } := by
  have used : ∀ o, ∃ o', ({ s with outputs := o } : State).tableUse d = { s with outputs := o' } := fun o =>
    ⟨_, tableUse_tableless (h.outputs o).tableless⟩
  obtain ⟨o₁, first⟩ := used (s.driveHold d).outputs
  obtain ⟨o₂, second⟩ := used o₁
  obtain ⟨o₃, third⟩ := used o₂
  refine ⟨o₃, ?_⟩
  unfold State.driveSettled
  rw [show s.driveHold d = { s with outputs := (s.driveHold d).outputs } from rfl, first, (h.outputs _).driveAdvance, second,
    (h.outputs _).driveAdvance, third]

theorem Supervised.get_serveDrive (h : Supervised d s) (k : Nat) (other : k ≠ Key.driveCommandApplied d) : (s.serveDrive d).get k = s.get k := by
  obtain ⟨o, settled⟩ := h.settled
  rw [Machine.get_serveDrive, if_neg other, settled]
  rfl

/-- A drive that waits applies 0. -/
theorem Supervised.applies_zero (h : Supervised d s) (waits : s.nat (Key.driveState d) = driveBlocked ∨ s.nat (Key.driveState d) = driveRetryWait) :
    (s.serveDrive d).get (Key.driveCommandApplied d) = 0 := by
  obtain ⟨o, settled⟩ := h.settled
  have notStarting : ({ s with outputs := o } : State).nat (Key.driveState d) ≠ driveStarting := fun starting => by
    have state : s.nat (Key.driveState d) = driveStarting := starting
    rw [state] at waits
    revert waits
    decide
  rw [Machine.get_serveDrive, if_pos rfl, settled]
  unfold State.driveApplies
  rw [if_neg notStarting, (h.outputs o).waits waits]
  rfl

end

/-! ### The rows of R408, R410 and R411 -/

/-- What supervision gives of a drive's own. -/
def superviseKeys (d : Fin 16) : List Nat := Key.driveBLOCKEDEntries d :: Key.driveTachLosses d :: stateKeys d

theorem superviseKeys_shown (d : Fin 16) : ∀ k ∈ superviseKeys d, k / 256 = 0x2900 + d.val ∧ 0x20 ≤ k % 256 := by revert d; decide

theorem stateKeys_supervised (d : Fin 16) : stateKeys d ⊆ superviseKeys d := fun _ mem => List.mem_cons_of_mem _ (List.mem_cons_of_mem _ mem)
theorem lastGood_not_supervised (d : Fin 16) : Key.driveLastGoodDuty d ∉ superviseKeys d := by revert d; decide

theorem tells_enter (s : State) (d : Fin 16) (st : Nat) : Tells (superviseKeys d) s (s.driveEnter d st) :=
  (tells_driveEnter s d st).more (stateKeys_supervised d)

/-- A last start attempt that timed out, as noted (R408). -/
def State.blockedNoted (s : State) (d : Fin 16) : State := ((s.driveEnter d driveBlocked).bump 32 (Key.driveBLOCKEDEntries d)).log 0x0701 d d

/-- A tach that is silent while RUNNING is asserted, as noted (R410, R411). -/
def State.openLoopNoted (s : State) (d : Fin 16) : State :=
  (((s.driveEnter d driveOpenLoop).bump 32 (Key.driveTachLosses d)).putBit (Key.driveStatus d) 6 true).log 0x0702 d d 1

section
variable (s : State) (d : Fin 16)

theorem blockedNoted_notes : Tells (superviseKeys d) s (s.blockedNoted d) ∧ (s.blockedNoted d).nat (Key.driveState d) = driveBlocked := by
  refine ⟨((tells_enter s d driveBlocked).bump _ _ (by simp [superviseKeys])).log _ _ _ _ _, ?_⟩
  exact (nat_of ((get_log _ _ _ _ _ _ _ front_not_event).trans (State.get_put_other _ _ _ _ key_ne))).trans (driveState_driveEnter s d driveBlocked)

theorem openLoopNoted_notes : Tells (superviseKeys d) s (s.openLoopNoted d) ∧ (s.openLoopNoted d).nat (Key.driveState d) = driveOpenLoop
    ∧ (s.openLoopNoted d).nat (Key.driveTachLosses d) = satSucc 32 (s.nat (Key.driveTachLosses d)) := by
  refine ⟨(((tells_enter s d driveOpenLoop).bump _ _ (by simp [superviseKeys])).putBit _ _ _ (by simp [superviseKeys, stateKeys])).log _ _ _ _ _,
    ?_, ?_⟩
  · refine (nat_of (get_log _ _ _ _ _ _ _ front_not_event)).trans ?_
    exact (nat_of ((State.get_put_other _ _ _ _ key_ne).trans (State.get_put_other _ _ _ _ key_ne))).trans (driveState_driveEnter s d driveOpenLoop)
  · refine (nat_of ((get_log _ _ _ _ _ _ _ front_not_event).trans (State.get_put_other _ _ _ _ key_ne))).trans ((State.nat_putN_same _ _ _).trans ?_)
    exact congrArg _ (nat_of ((tells_driveEnter s d driveOpenLoop).get _ _ (not_stateKey d)))

end

section
variable {d : Fin 16} {s m : State} (manual : Manual d s)
include manual

/-- A state that supervision has entered stands while the drive is served. -/
theorem Manual.supervised {st : Nat} (g : Tells (superviseKeys d) s m) (entered : m.nat (Key.driveState d) = st)
    (stands : st ∈ driveStands)
    (lastGood : st ≠ driveOpenLoop ∨ 0 < s.get (Key.driveLastGoodDuty d)) : Supervised d m where
  toManual := manual.tells g (superviseKeys_shown d)
  state := by rwa [entered]
  lastGood is := by
    rw [g.get _ _ (lastGood_not_supervised d)]
    exact lastGood.resolve_left (not_not_intro (entered.symm.trans is))

theorem Manual.enters (st : Nat) (stands : st ∈ driveStands)
    (lastGood : st ≠ driveOpenLoop ∨ 0 < s.get (Key.driveLastGoodDuty d)) : Supervised d (s.driveEnter d st) :=
  manual.supervised (tells_enter s d st) (driveState_driveEnter s d st) stands lastGood

variable (runs : s.clocksRun = true)
include runs

theorem startTimeout_waits (starting : s.nat (Key.driveState d) = driveStarting) (powered : s.p2Lost = false) : Answers (.startTimeout d) s fun t =>
    t.nat (Key.driveState d) = (if s.nat (Key.driveStartAttempt d) ≤ s.nat (Key.driveStartRetries d) then driveRetryWait else driveBlocked)
      ∧ t.get (Key.driveCommandApplied d) = 0 := by
  refine answers_served rfl runs ?_
  dsimp only
  rw [if_neg manual.tach, if_pos ⟨starting, powered⟩]
  split
  · have state := driveState_driveEnter s d driveRetryWait
    have waits := manual.enters driveRetryWait (by decide) (.inl (by decide))
    exact ⟨(nat_of (waits.get_serveDrive _ key_ne)).trans state, waits.applies_zero (.inr state)⟩
  · obtain ⟨told, state⟩ := blockedNoted_notes s d
    have waits := manual.supervised told state (by decide) (.inl (by decide))
    exact ⟨(nat_of (waits.get_serveDrive _ key_ne)).trans state, waits.applies_zero (.inl state)⟩

theorem startTimeout_suspended (lost : s.p2Lost = true) : Answers (.startTimeout d) s fun t => t = s := by
  refine answers_served rfl runs ?_
  rw [if_neg manual.tach, if_neg (by simp [lost])]

theorem retryBackoffEnd_starts (waiting : s.nat (Key.driveState d) = driveRetryWait) (powered : s.p2Lost = false) :
    Answers (.retryBackoffEnd d) s fun t => t.nat (Key.driveState d) = driveStarting
      ∧ t.nat (Key.driveStartAttempt d) = s.nat (Key.driveStartAttempt d) + 1 := by
  refine answers_served rfl runs ?_
  rw [if_pos ⟨waiting, powered⟩]
  obtain ⟨told, state, attempt⟩ := driveStart_starts s d (s.nat (Key.driveStartAttempt d) + 1)
  have starts := manual.supervised (told.more (stateKeys_supervised d)) state (by decide) (.inl (by decide))
  exact ⟨(nat_of (starts.get_serveDrive _ key_ne)).trans state, (nat_of (starts.get_serveDrive _ key_ne)).trans attempt⟩

theorem tachPulse_runs (awaited : s.nat (Key.driveState d) = driveStarting ∨ s.nat (Key.driveState d) = driveOpenLoop ∨ s.nat (Key.driveState d) = driveStall) :
    Answers (.tachPulse d none) s fun t => t.nat (Key.driveState d) = driveRunning := by
  refine answers_served rfl runs ?_
  dsimp only
  rw [if_neg (not_or.2 ⟨manual.on, manual.tach⟩), if_pos awaited]
  exact (nat_of ((manual.enters driveRunning (by decide) (.inl (by decide))).get_serveDrive _ key_ne)).trans (driveState_driveEnter s d driveRunning)

/-- RUNNING is asserted while the tach is silent: OPEN_LOOP on the last good duty (R410). -/
theorem tachLoss_opensLoop (running : s.nat (Key.driveState d) = driveRunning) (commanded : 0 < s.get (Key.driveCommandApplied d))
    (powered : s.p2Lost = false) (input : s.nat (Key.driveRUNNINGInput d) ≠ 0xFF) (asserted : s.runningFb d = true)
    (lastGood : 0 < s.get (Key.driveLastGoodDuty d)) : Answers (.tachLoss d) s fun t =>
      t.nat (Key.driveState d) = driveOpenLoop ∧ t.nat (Key.driveTachLosses d) = satSucc 32 (s.nat (Key.driveTachLosses d)) := by
  have none_ : (s.nat (Key.driveRUNNINGInput d) == 0xFF) = false := beq_eq_false_iff_ne.2 input
  refine answers_served rfl runs ?_
  rw [if_pos ⟨running, manual.tach, commanded, powered⟩, none_, asserted]
  obtain ⟨told, state, losses⟩ := openLoopNoted_notes s d
  have opens := manual.supervised told state (by decide) (.inr lastGood)
  exact ⟨(nat_of (opens.get_serveDrive _ key_ne)).trans state, (nat_of (opens.get_serveDrive _ key_ne)).trans losses⟩

end

/-- Settles O42: each row enters a state in which the manual command still drives the drive (`Manual.supervised`), and a cycle in such a state changes no
value but the command applied (`Supervised.get_serveDrive`). The rows on P2 loss and on lost feedback are the ones the statement gives: a start timeout
while P2 is lost, and a silent tach with RUNNING asserted. -/
theorem driveSupervision : Obligations.DriveSupervision := by
  unfold Obligations.DriveSupervision
  intro s d runs tach on enabled free sound source alone command
  have manual : Manual d s := ⟨tach, on, enabled, free, sound, source, alone, command⟩
  exact ⟨startTimeout_waits manual runs, fun _ lost => startTimeout_suspended manual runs lost, retryBackoffEnd_starts manual runs,
    tachPulse_runs manual runs, tachLoss_opensLoop manual runs⟩

end Sys2Proof.Machine
end

section
/-! SUPPORT. Queue and memories over all commands (R28, R439, R440; logs 2, 5): behind `Obligations.MemoriesStayCanonical`,
`Obligations.ResetMemoriesCanonical` and `Obligations.EveryCommandAnswers`. -/

namespace Sys2Proof.Machine

open Sys2Proof

/-! ### Every command answers a next state (log 2) -/

/-- What a dictionary frame does when it is not this node's is to be forwarded, which answers too. -/
theorem answers_ite (p : Prop) [Decidable p] (a b : State) : ∃ t, (if p then .next a else .next b : Host.Outcome State Fault Refusal) = .next t := by
  split
  · exact ⟨_, rfl⟩
  · exact ⟨_, rfl⟩

theorem exec_answers (c : Instr) (s : State) : ∃ t, exec c s = .next t := by
  cases c with
  | dictReqReceived => exact answers_ite _ _ _
  | dictRspReceived => exact answers_ite _ _ _
  | domSegReceived => exact answers_ite _ _ _
  | _ => exact ⟨_, rfl⟩

/-! ### What each command leaves of queue and memories -/

/-- A command leaves the queue and the memories as they are; or it is one of `mayStore`, leaves the queue, and keeps the memories' canonical form. -/
inductive LeavesMemories (c : Instr) (s t : State) : Prop where
  | unmoved (h : t.still = s.still)
  | kept (stores : mayStore c = true) (h : Kept s.still t.still)

/-- Command by command, from the laws of their meanings. -/
theorem leavesMemories_exec (c : Instr) (s t : State) (e : exec c s = .next t) : LeavesMemories c s t := by
  cases c with
  | pllLockLoss => exact .kept rfl (keeps_execPllLockLoss _ e)
  | p1BrownOut => exact .kept rfl (keeps_execP1BrownOut _ e)
  | p1BrownOutAsleep => exact .kept rfl (keeps_execP1BrownOutAsleep _ _ e)
  | p1LowSet => exact .unmoved (unmoved_execP1LowSet _ e)
  | p1LowClear => exact .unmoved (unmoved_execP1LowClear _ e)
  | p2Loss => exact .unmoved (unmoved_execP2Loss _ e)
  | p2Restored => exact .unmoved (unmoved_execP2Restored _ e)
  | cellCheck => exact .unmoved (unmoved_execCellCheck _ _ e)
  | crystalStopped => exact .unmoved (unmoved_execCrystalStopped _ e)
  | operatingTimeSave => exact .unmoved (unmoved_execOperatingTimeSave _ e)
  | powerStateEvaluation => exact .unmoved (unmoved_execPowerStateEvaluation _ e)
  | sleepEntryCommit => exact .kept rfl (keeps_execSleepEntryCommit _ e)
  | rtcAlarm => exact .unmoved (unmoved_execRtcAlarm _ _ e)
  | wakeInput => exact .unmoved (unmoved_execWakeInput _ _ e)
  | canWake => exact .unmoved (unmoved_execCanWake _ _ _ _ e)
  | wakeFromBanked => exact .unmoved (unmoved_execWakeFromBanked _ e)
  | contactTimeReached => exact .unmoved (unmoved_execContactTimeReached _ _ e)
  | contactWindowEnd => exact .unmoved (unmoved_execContactWindowEnd _ e)
  | usbVbusChange => exact .unmoved (unmoved_execUsbVbusChange _ _ e)
  | sleepRefusalHoldEnd => exact .unmoved (unmoved_execSleepRefusalHoldEnd _ e)
  | powerStatisticsClear => exact .unmoved (unmoved_execPowerStatisticsClear _ _ e)
  | supplyCountersClear => exact .unmoved (unmoved_execSupplyCountersClear _ _ e)
  | coldStart => exact .kept rfl (keeps_execColdStart _ _ e)
  | warmBoot => exact .kept rfl (keeps_execWarmBoot _ _ e)
  | confirm => exact .kept rfl (keeps_execConfirm _ _ e)
  | confirmationDeadline => exact .kept rfl (keeps_execConfirmationDeadline _ e)
  | watchdogReset => exact .kept rfl (keeps_execWatchdogReset _ e)
  | hotStartRecheck => exact .kept rfl (keeps_execHotStartRecheck _ _ e)
  | kindlingExit => exact .kept rfl (keeps_execKindlingExit _ _ e)
  | kindlingTrial => exact .kept rfl (keeps_execKindlingTrial _ _ e)
  | automaticTrial => exact .kept rfl (keeps_execAutomaticTrial _ e)
  | arm => exact .kept rfl (keeps_execArm _ _ e)
  | start => exact .kept rfl (keeps_execStart _ _ e)
  | halt => exact .kept rfl (keeps_execHalt _ _ e)
  | stop => exact .kept rfl (keeps_execStop _ _ e)
  | resetFault => exact .kept rfl (keeps_execResetFault _ _ e)
  | nmtStartRemoteNode => exact .unmoved (unmoved_execNmtStartRemoteNode _ _ e)
  | nmtStopRemoteNode => exact .unmoved (unmoved_execNmtStopRemoteNode _ _ e)
  | nmtEnterPreOperational => exact .unmoved (unmoved_execNmtEnterPreOperational _ _ e)
  | nmtResetNode => exact .kept rfl (keeps_execNmtResetNode _ _ e)
  | nmtResetCommunication => exact .unmoved (unmoved_execNmtResetCommunication _ _ e)
  | dictWrite => exact .unmoved (unmoved_execDictWrite _ _ _ _ _ e)
  | servicePortRequest => exact .unmoved (unmoved_execServicePortRequest _ _ _ _ e)
  | levelRequest => exact .unmoved (unmoved_execLevelRequest _ _ _ e)
  | passcodeLockEnd => exact .unmoved (unmoved_execPasscodeLockEnd _ _ e)
  | levelIdleTimeout => exact .unmoved (unmoved_execLevelIdleTimeout _ _ e)
  | vendorChallenge => exact .unmoved (unmoved_execVendorChallenge _ _ e)
  | vendorResponse => exact .unmoved (unmoved_execVendorResponse _ _ _ e)
  | servicePasscodeWrite => exact .kept rfl (keeps_execServicePasscodeWrite _ _ _ e)
  | storeParameters => exact .unmoved (unmoved_execStoreParameters _ _ _ _ e)
  | storeDone => exact .kept rfl (keeps_execStoreDone _ e)
  | restoreDefaults => exact .unmoved (unmoved_execRestoreDefaults _ _ _ _ e)
  | restoreDone => exact .kept rfl (keeps_execRestoreDone _ e)
  | checkValueRecompute => exact .unmoved (unmoved_execCheckValueRecompute _ e)
  | heartbeat => exact .unmoved (unmoved_execHeartbeat _ _ _ e)
  | hostPathsWrite => exact .unmoved (unmoved_execHostPathsWrite _ _ _ e)
  | hostWatchdogExpiry => exact .unmoved (unmoved_execHostWatchdogExpiry _ e)
  | hostAcknowledge => exact .unmoved (unmoved_execHostAcknowledge _ _ e)
  | overlayEntryListWrite => exact .unmoved (unmoved_execOverlayEntryListWrite _ _ _ _ e)
  | modeSwitchRequest => exact .unmoved (unmoved_execModeSwitchRequest _ _ _ e)
  | modeSwitchSwap => exact .kept rfl (keeps_execModeSwitchSwap _ e)
  | scanDue => exact .unmoved (unmoved_execScanDue _ _ _ e)
  | leadCheckEnd => exact .unmoved (unmoved_execLeadCheckEnd _ _ _ e)
  | conversionStart => exact .unmoved (unmoved_execConversionStart _ _ e)
  | conversionEnd => exact .unmoved (unmoved_execConversionEnd _ _ _ _ e)
  | resultPublish => exact .unmoved (unmoved_execResultPublish _ _ e)
  | txsupReady _ t => exact .unmoved (unmoved_execTxsupReady _ t _ e)
  | frontEndReady t => exact .unmoved (unmoved_execFrontEndReady t _ e)
  | convertNow => exact .unmoved (unmoved_execConvertNow _ _ _ _ e)
  | referenceCheck => exact .unmoved (unmoved_execReferenceCheck _ _ _ _ e)
  | referenceCheckEnd _ _ t => exact .unmoved (unmoved_execReferenceCheckEnd _ _ t _ e)
  | blankInputChange => exact .unmoved (unmoved_execBlankInputChange _ _ _ _ e)
  | blankMaxDuration => exact .unmoved (unmoved_execBlankMaxDuration _ _ _ e)
  | coreCountersClear => exact .unmoved (unmoved_execCoreCountersClear _ _ _ e)
  | channelStatisticsClear => exact .unmoved (unmoved_execChannelStatisticsClear _ _ _ e)
  | bellowsTick => exact .kept rfl (keeps_execBellowsTick _ _ e)
  | eccWordRewrite => exact .unmoved (unmoved_execEccWordRewrite _ _ e)
  | loopFaultReset => exact .unmoved (unmoved_execLoopFaultReset _ _ _ e)
  | holdRequestSet => exact .unmoved (unmoved_execHoldRequestSet _ _ _ e)
  | holdRequestClear => exact .unmoved (unmoved_execHoldRequestClear _ _ _ e)
  | loopModeManual => exact .unmoved (unmoved_execLoopModeManual _ _ _ e)
  | loopModeAuto => exact .unmoved (unmoved_execLoopModeAuto _ _ _ e)
  | loopModeCascade => exact .unmoved (unmoved_execLoopModeCascade _ _ _ e)
  | loopModePredictive => exact .unmoved (unmoved_execLoopModePredictive _ _ _ e)
  | traceArm => exact .unmoved (unmoved_execTraceArm _ _ e)
  | traceTrigger => exact .unmoved (unmoved_execTraceTrigger _ _ e)
  | traceStop => exact .unmoved (unmoved_execTraceStop _ _ e)
  | loopStatisticsClear => exact .unmoved (unmoved_execLoopStatisticsClear _ _ _ e)
  | bellowsCountersClear => exact .unmoved (unmoved_execBellowsCountersClear _ _ e)
  | tickCountRead => exact .unmoved (unmoved_execTickCountRead _ _ e)
  | learnerClearMemory => exact .unmoved (unmoved_execLearnerClearMemory _ _ _ e)
  | kelsisStepStart => exact .unmoved (unmoved_execKelsisStepStart _ _ e)
  | kelsisStepEnd => exact .unmoved (unmoved_execKelsisStepEnd _ _ e)
  | stepDeadline => exact .unmoved (unmoved_execStepDeadline _ _ e)
  | columnReinitialise => exact .unmoved (unmoved_execColumnReinitialise _ _ _ e)
  | tableBuildStart => exact .unmoved (unmoved_execTableBuildStart _ _ e)
  | tableBuildDone => exact .unmoved (unmoved_execTableBuildDone _ e)
  | tableRebuild => exact .unmoved (unmoved_execTableRebuild _ _ e)
  | loadFromFile => exact .unmoved (unmoved_execLoadFromFile _ _ _ _ e)
  | labValueSubmit => exact .unmoved (unmoved_execLabValueSubmit _ _ _ _ e)
  | mapSnapshot => exact .unmoved (unmoved_execMapSnapshot _ _ e)
  | mapCellRead => exact .unmoved (unmoved_execMapCellRead _ _ e)
  | sheddingEvaluation => exact .unmoved (unmoved_execSheddingEvaluation _ e)
  | predictionUpdateStart => exact .unmoved (unmoved_execPredictionUpdateStart _ _ e)
  | predictionUpdateDone => exact .unmoved (unmoved_execPredictionUpdateDone _ _ e)
  | enterFeedback => exact .unmoved (unmoved_execEnterFeedback _ _ _ e)
  | returnToPredictive => exact .unmoved (unmoved_execReturn _ _ _ e)
  | kelsisCountersClear => exact .unmoved (unmoved_execKelsisCountersClear _ _ e)
  | columnStatisticsClear => exact .unmoved (unmoved_execColumnStatisticsClear _ _ _ e)
  | predictiveCountersClear => exact .unmoved (unmoved_execPredictiveCountersClear _ _ e)
  | actuatorCommandOff => exact .unmoved (unmoved_execActuatorCommandOff _ _ _ e)
  | actuatorCommandOn => exact .unmoved (unmoved_execActuatorCommandOn _ _ _ e)
  | actuatorCommandPulse => exact .unmoved (unmoved_execActuatorCommandPulse _ _ _ e)
  | activationStart => exact .unmoved (unmoved_execActivationStart _ _ e)
  | peakReached => exact .unmoved (unmoved_execPeakReached _ _ _ _ e)
  | peakTimeMaximum => exact .unmoved (unmoved_execPeakTimeMaximum _ _ e)
  | dwellEnd => exact .unmoved (unmoved_execDwellEnd _ _ e)
  | deferralTimeout => exact .unmoved (unmoved_execDeferralTimeout _ _ e)
  | pulseEnd => exact .unmoved (unmoved_execPulseEnd _ _ e)
  | maximumOnTime => exact .unmoved (unmoved_execMaximumOnTime _ _ e)
  | decayComplete => exact .unmoved (unmoved_execDecayComplete _ _ _ e)
  | movementWindowEnd => exact .unmoved (unmoved_execMovementWindowEnd _ _ e)
  | proportionalSetpointApply => exact .unmoved (unmoved_execProportionalSetpointApply _ _ e)
  | dutyUpdate => exact .unmoved (unmoved_execDutyUpdate _ e)
  | p2CurrentLimitEvaluation => exact .unmoved (unmoved_execP2CurrentLimitEvaluation _ _ e)
  | permitLost => exact .unmoved (unmoved_execPermitLost _ _ e)
  | permitRestored => exact .unmoved (unmoved_execPermitRestored _ _ e)
  | hsOvercurrent => exact .unmoved (unmoved_execHsOvercurrent _ _ e)
  | commonShort => exact .unmoved (unmoved_execCommonShort _ _ e)
  | stuckOn => exact .unmoved (unmoved_execStuckOn _ _ e)
  | hsOvertemp => exact .unmoved (unmoved_execHsOvertemp _ _ e)
  | lsOvercurrent => exact .unmoved (unmoved_execLsOvercurrent _ _ e)
  | lsStuck => exact .unmoved (unmoved_execLsStuck _ _ e)
  | openLoad => exact .unmoved (unmoved_execOpenLoad _ _ e)
  | actuatorFaultReset => exact .unmoved (unmoved_execActuatorFaultReset _ _ _ e)
  | switchFaultReset => exact .unmoved (unmoved_execSwitchFaultReset _ _ _ e)
  | actuatorStatisticsClear => exact .unmoved (unmoved_execActuatorStatisticsClear _ _ _ e)
  | switchStatisticsClear => exact .unmoved (unmoved_execSwitchStatisticsClear _ _ _ e)
  | startTimeout => exact .unmoved (unmoved_execStartTimeout _ _ e)
  | retryBackoffEnd => exact .unmoved (unmoved_execRetryBackoffEnd _ _ e)
  | tachPulse => exact .unmoved (unmoved_execTachPulse _ _ _ e)
  | tachLoss => exact .unmoved (unmoved_execTachLoss _ _ e)
  | driveFaultReset => exact .unmoved (unmoved_execDriveFaultReset _ _ _ e)
  | sensorSupplyOvercurrent => exact .unmoved (unmoved_execSensorSupplyOvercurrent _ _ _ e)
  | driveStatisticsClear => exact .unmoved (unmoved_execDriveStatisticsClear _ _ _ e)
  | currentOutputLoopFault => exact .unmoved (unmoved_execCurrentOutputLoopFault _ _ _ e)
  | currentOutputStatisticsClear => exact .unmoved (unmoved_execCurrentOutputStatisticsClear _ _ _ e)
  | pulseEdge => exact .unmoved (unmoved_execPulseEdge _ _ _ _ e)
  | frequencyGateEnd => exact .unmoved (unmoved_execFrequencyGateEnd _ _ e)
  | pulseZeroTime => exact .unmoved (unmoved_execPulseZeroTime _ _ e)
  | countReset => exact .unmoved (unmoved_execCountReset _ _ _ e)
  | setpointInputFault => exact .unmoved (unmoved_execSetpointInputFault _ _ e)
  | add => exact .kept rfl (keeps_execAdd _ _ _ _ _ e)
  | sub => exact .kept rfl (keeps_execSub _ _ _ _ _ e)
  | and => exact .kept rfl (keeps_execAnd _ _ _ _ _ e)
  | or => exact .kept rfl (keeps_execOr _ _ _ _ _ e)
  | xor => exact .kept rfl (keeps_execXor _ _ _ _ _ e)
  | shl => exact .kept rfl (keeps_execShl _ _ _ _ _ e)
  | shr => exact .kept rfl (keeps_execShr _ _ _ _ _ e)
  | sar => exact .kept rfl (keeps_execSar _ _ _ _ _ e)
  | slt => exact .kept rfl (keeps_execSlt _ _ _ _ _ e)
  | sltu => exact .kept rfl (keeps_execSltu _ _ _ _ _ e)
  | mul => exact .kept rfl (keeps_execMul _ _ _ _ _ e)
  | mulhs => exact .kept rfl (keeps_execMulhs _ _ _ _ _ e)
  | mulhu => exact .kept rfl (keeps_execMulhu _ _ _ _ _ e)
  | div => exact .kept rfl (keeps_execDiv _ _ _ _ _ e)
  | divu => exact .kept rfl (keeps_execDivu _ _ _ _ _ e)
  | rem => exact .kept rfl (keeps_execRem _ _ _ _ _ e)
  | remu => exact .kept rfl (keeps_execRemu _ _ _ _ _ e)
  | min => exact .kept rfl (keeps_execMin _ _ _ _ _ e)
  | max => exact .kept rfl (keeps_execMax _ _ _ _ _ e)
  | qmul => exact .kept rfl (keeps_execQmul _ _ _ _ _ e)
  | qadd => exact .kept rfl (keeps_execQadd _ _ _ _ _ e)
  | qsub => exact .kept rfl (keeps_execQsub _ _ _ _ _ e)
  | addi => exact .kept rfl (keeps_execAddi _ _ _ _ _ e)
  | andi => exact .kept rfl (keeps_execAndi _ _ _ _ _ e)
  | ori => exact .kept rfl (keeps_execOri _ _ _ _ _ e)
  | xori => exact .kept rfl (keeps_execXori _ _ _ _ _ e)
  | shli => exact .kept rfl (keeps_execShli _ _ _ _ _ e)
  | shri => exact .kept rfl (keeps_execShri _ _ _ _ _ e)
  | sari => exact .kept rfl (keeps_execSari _ _ _ _ _ e)
  | slti => exact .kept rfl (keeps_execSlti _ _ _ _ _ e)
  | sltiu => exact .kept rfl (keeps_execSltiu _ _ _ _ _ e)
  | lui => exact .kept rfl (keeps_execLui _ _ _ _ _ e)
  | ldw => exact .kept rfl (keeps_execLdw _ _ _ _ _ _ e)
  | ldh => exact .kept rfl (keeps_execLdh _ _ _ _ _ _ e)
  | ldhu => exact .kept rfl (keeps_execLdhu _ _ _ _ _ _ e)
  | ldb => exact .kept rfl (keeps_execLdb _ _ _ _ _ _ e)
  | ldbu => exact .kept rfl (keeps_execLdbu _ _ _ _ _ _ e)
  | stw => exact .kept rfl (keeps_execStw _ _ _ _ _ e)
  | sth => exact .kept rfl (keeps_execSth _ _ _ _ _ e)
  | stb => exact .kept rfl (keeps_execStb _ _ _ _ _ e)
  | xchg => exact .kept rfl (keeps_execXchg _ _ _ _ _ _ e)
  | beq => exact .kept rfl (keeps_execBeq _ _ _ _ _ e)
  | bne => exact .kept rfl (keeps_execBne _ _ _ _ _ e)
  | blt => exact .kept rfl (keeps_execBlt _ _ _ _ _ e)
  | bge => exact .kept rfl (keeps_execBge _ _ _ _ _ e)
  | bltu => exact .kept rfl (keeps_execBltu _ _ _ _ _ e)
  | bgeu => exact .kept rfl (keeps_execBgeu _ _ _ _ _ e)
  | jl => exact .kept rfl (keeps_execJl _ _ _ _ e)
  | jlr => exact .kept rfl (keeps_execJlr _ _ _ _ _ e)
  | srd => exact .kept rfl (keeps_execSrd _ _ _ _ e)
  | swr => exact .kept rfl (keeps_execSwr _ _ _ _ e)
  | wait => exact .kept rfl (keeps_execWait _ _ _ _ _ e)
  | waitEnd => exact .unmoved (unmoved_execWaitEnd _ _ _ e)
  | waitTimeout => exact .unmoved (unmoved_execWaitTimeout _ _ e)
  | signal => exact .kept rfl (keeps_execSignal _ _ _ e)
  | brk => exact .kept rfl (keeps_execBrk _ _ _ e)
  | eret => exact .kept rfl (keeps_execEret _ _ e)
  | fence => exact .kept rfl (keeps_execFence _ _ e)
  | interruptEntry => exact .unmoved (unmoved_execInterruptEntry _ _ e)
  | svcExit => exact .kept rfl (keeps_execSvcExit _ _ e)
  | svcEventReturn => exact .kept rfl (keeps_execSvcEventReturn _ _ e)
  | svcLog => exact .kept rfl (keeps_execSvcLog _ _ e)
  | svcDomRead => exact .kept rfl (keeps_execSvcDomRead _ _ e)
  | svcDomWrite => exact .kept rfl (keeps_execSvcDomWrite _ _ e)
  | svcSetLevels => exact .kept rfl (keeps_execSvcSetLevels _ _ e)
  | svcUnlisted => exact .kept rfl (keeps_execSvcUnlisted _ _ _ e)
  | programStart => exact .kept rfl (keeps_execProgramStart _ _ _ _ e)
  | programStop => exact .unmoved (unmoved_execProgramStop _ _ _ e)
  | programRestart => exact .kept rfl (keeps_execProgramRestart _ _ _ _ e)
  | programImageWrite => exact .unmoved (unmoved_execProgramImageWrite _ _ _ _ e)
  | eraseSlot => exact .unmoved (unmoved_execEraseSlot _ _ _ e)
  | firmwareImageWrite => exact .unmoved (unmoved_execFirmwareImageWrite _ _ _ _ e)
  | configurationImageWrite => exact .kept rfl (keeps_execConfigurationImageWrite _ _ _ e)
  | coreStatisticsClear => exact .unmoved (unmoved_execCoreStatisticsClear _ _ _ e)
  | debugUnlock => exact .unmoved (unmoved_execDebugUnlock _ e)
  | routeChange => exact .unmoved (unmoved_execRouteChange _ _ _ _ e)
  | srcPendClear => exact .unmoved (unmoved_execSrcPendClear _ _ _ _ e)
  | timerRun => exact .unmoved (unmoved_execTimerRun _ _ _ _ e)
  | timerStop => exact .unmoved (unmoved_execTimerStop _ _ _ e)
  | timerExpiry => exact .unmoved (unmoved_execTimerExpiry _ _ _ e)
  | eventRouterCountersClear => exact .unmoved (unmoved_execEventRouterCountersClear _ _ e)
  | counterOverflow => exact .unmoved (unmoved_execCounterOverflow _ _ _ e)
  | pmovfClear => exact .unmoved (unmoved_execPmovfClear _ _ _ e)
  | cycleLoRead => exact .unmoved (unmoved_execCycleLoRead _ _ e)
  | sampleIntervalEnd => exact .unmoved (unmoved_execSampleIntervalEnd _ _ e)
  | sampleRecordReady => exact .unmoved (unmoved_execSampleRecordReady _ _ e)
  | sampleRecordLock => exact .unmoved (unmoved_execSampleRecordLock _ _ e)
  | sampleRecordRelease => exact .unmoved (unmoved_execSampleRecordRelease _ _ e)
  | performanceCountersClear => exact .unmoved (unmoved_execPerformanceCountersClear _ _ _ e)
  | canControllerRestart => exact .unmoved (unmoved_execCanControllerRestart _ _ e)
  | busIntegrated => exact .unmoved (unmoved_execBusIntegrated _ _ e)
  | transmitPortWrite => exact .unmoved (unmoved_execTransmitPortWrite _ _ _ _ e)
  | transmitCancel => exact .unmoved (unmoved_execTransmitCancel _ _ _ _ _ _ e)
  | notBeforeReached => exact .unmoved (unmoved_execNotBeforeReached _ _ e)
  | frameTransmitted => exact .unmoved (unmoved_execFrameTransmitted _ _ _ _ e)
  | arbitrationLost => exact .unmoved (unmoved_execArbitrationLost _ _ e)
  | frameError => exact .unmoved (unmoved_execFrameError _ _ _ _ e)
  | busOffRecovered => exact .unmoved (unmoved_execBusOffRecovered _ _ e)
  | busOffRecover => exact .unmoved (unmoved_execBusOffRecover _ _ _ e)
  | completionRead => exact .unmoved (unmoved_execCompletionRead _ _ _ e)
  | frameReceived => exact .unmoved (unmoved_execFrameReceived _ _ _ _ e)
  | fifoRead => exact .unmoved (unmoved_execFifoRead _ _ _ e)
  | objectStatusClear => exact .unmoved (unmoved_execObjectStatusClear _ _ _ _ _ e)
  | timeReferenceDue => exact .unmoved (unmoved_execTimeReferenceDue _ e)
  | canStatisticsClear => exact .unmoved (unmoved_execCanStatisticsClear _ _ _ e)
  | sdoInitiateDownload => exact .unmoved (unmoved_execSdoInitiateDownload _ _ e)
  | sdoDownloadSegment => exact .unmoved (unmoved_execSdoDownloadSegment _ _ e)
  | sdoInitiateUpload => exact .unmoved (unmoved_execSdoInitiateUpload _ _ e)
  | sdoUploadSegment => exact .unmoved (unmoved_execSdoUploadSegment _ _ e)
  | sdoBlockDownload => exact .unmoved (unmoved_execSdoBlockDownload _ _ e)
  | sdoBlockUpload => exact .unmoved (unmoved_execSdoBlockUpload _ _ e)
  | sdoAbort => exact .unmoved (unmoved_execSdoAbort _ _ e)
  | rpdoReceived => exact .unmoved (unmoved_execRpdoReceived _ _ _ e)
  | tpdoTransmit => exact .unmoved (unmoved_execTpdoTransmit _ _ _ e)
  | syncReceived => exact .unmoved (unmoved_execSyncReceived _ _ e)
  | heartbeatProduce => exact .unmoved (unmoved_execHeartbeatProduce _ e)
  | heartbeatConsumerTimeout => exact .unmoved (unmoved_execHeartbeatConsumerTimeout _ _ e)
  | helloSend => exact .unmoved (unmoved_execHelloSend _ e)
  | helloReceived => exact .unmoved (unmoved_execHelloReceived _ _ _ e)
  | adjacencyTimeout => exact .unmoved (unmoved_execAdjacencyTimeout _ _ e)
  | phyLinkLoss => exact .unmoved (unmoved_execPhyLinkLoss _ _ e)
  | linkStateReceived => exact .unmoved (unmoved_execLinkStateReceived _ _ _ e)
  | linkStateRefresh => exact .unmoved (unmoved_execLinkStateRefresh _ e)
  | election => exact .unmoved (unmoved_execElection _ _ e)
  | headAnnounce => exact .unmoved (unmoved_execHeadAnnounce _ e)
  | headReceived => exact .unmoved (unmoved_execHeadReceived _ _ _ e)
  | seatReceived => exact .unmoved (unmoved_execSeatReceived _ _ _ _ e)
  | seatAcknowledgeReceived => exact .unmoved (unmoved_execSeatAcknowledgeReceived _ _ _ _ e)
  | statusSend => exact .unmoved (unmoved_execStatusSend _ e)
  | statusReceived => exact .unmoved (unmoved_execStatusReceived _ _ _ e)
  | memberAbsent => exact .unmoved (unmoved_execMemberAbsent _ _ _ e)
  | bankingReceived => exact .unmoved (unmoved_execBankingReceived _ _ _ e)
  | bankingAnswerReceived => exact .unmoved (unmoved_execBankingAnswerReceived _ _ _ _ e)
  | bankingAnswerTimeout => exact .unmoved (unmoved_execBankingAnswerTimeout _ e)
  | awakeReceived => exact .unmoved (unmoved_execAwakeReceived _ _ e)
  | wakeTimeOverdue => exact .unmoved (unmoved_execWakeTimeOverdue _ _ _ e)
  | sitePlanWrite => exact .unmoved (unmoved_execSitePlanWrite _ _ _ e)
  | planReceived => exact .unmoved (unmoved_execPlanReceived _ _ _ _ e)
  | dictReqReceived => exact .unmoved (unmoved_execDictReqReceived _ _ _ e)
  | dictRspReceived => exact .unmoved (unmoved_execDictRspReceived _ _ _ e)
  | domSegReceived => exact .unmoved (unmoved_execDomSegReceived _ _ _ e)
  | boundaryReceived => exact .unmoved (unmoved_execBoundaryReceived _ _ _ e)
  | logFrameReceived => exact .unmoved (unmoved_execLogFrameReceived _ _ _ e)
  | mapReceived => exact .unmoved (unmoved_execMapReceived _ _ _ e)
  | frameForward => exact .unmoved (unmoved_execFrameForward _ _ _ e)
  | fanOutWrite => exact .unmoved (unmoved_execFanOutWrite _ _ _ _ e)
  | fanOutAnswerTimeout => exact .unmoved (unmoved_execFanOutAnswerTimeout _ _ _ e)
  | gptpSyncReceived => exact .unmoved (unmoved_execGptpSyncReceived _ _ _ _ e)
  | peerDelayMeasure => exact .unmoved (unmoved_execPeerDelayMeasure _ _ e)
  | syncMissed => exact .unmoved (unmoved_execSyncMissed _ e)
  | holdoverTimeout => exact .unmoved (unmoved_execHoldoverTimeout _ e)
  | siteKeyWrite => exact .unmoved (unmoved_execSiteKeyWrite _ _ _ e)
  | flueTimeRead => exact .unmoved (unmoved_execFlueTimeRead _ _ e)
  | flueNodeStatisticsClear => exact .unmoved (unmoved_execFlueNodeStatisticsClear _ _ e)
  | portStatisticsClear => exact .unmoved (unmoved_execPortStatisticsClear _ _ _ e)
  | timeStatisticsClear => exact .unmoved (unmoved_execTimeStatisticsClear _ _ e)
  | cowlCompute => exact .unmoved (unmoved_execCowlCompute _ _ _ e)
  | cowlContextTimeout => exact .unmoved (unmoved_execCowlContextTimeout _ _ _ e)
  | cowlUnitStart => exact .unmoved (unmoved_execCowlUnitStart _ _ e)
  | cowlUnitData => exact .unmoved (unmoved_execCowlUnitData _ _ _ e)
  | ashRecordWrite => exact .kept rfl (keeps_execAshRecordWrite _ _ e)
  | ashClear => exact .unmoved (unmoved_execAshClear _ _ _ e)
  | ashClearDone => exact .kept rfl (keeps_execAshClearDone _ _ e)
  | ashRecordLatch => exact .unmoved (unmoved_execAshRecordLatch _ _ e)
  | ashCursorAdvance => exact .unmoved (unmoved_execAshCursorAdvance _ _ e)
  | thermalSchedule => exact .unmoved (unmoved_execThermalSchedule _ e)
  | thermalRead => exact .unmoved (unmoved_execThermalRead _ _ _ e)
  | thermalConversionEnd => exact .kept rfl (keeps_execThermalConversionEnd _ _ e)
  | bankEnable => exact .unmoved (unmoved_execBankEnable _ _ _ e)
  | thermalRestart => exact .kept rfl (keeps_execThermalRestart _ _ e)
  | thermalStatisticsClear => exact .unmoved (unmoved_execThermalStatisticsClear _ _ e)
  | phyLinkUp => exact .unmoved (unmoved_execPhyLinkUp _ _ e)
  | gptpSyncSend => exact .unmoved (unmoved_execGptpSyncSend _ e)
  | peerDelayFrameReceived => exact .unmoved (unmoved_execPeerDelayFrameReceived _ _ _ e)
  | setpointInputUpdate => exact .unmoved (unmoved_execSetpointInputUpdate _ _ _ e)
  | emcyInhibitEnd => exact .unmoved (unmoved_execEmcyInhibitEnd _ e)

section
variable {c : Instr} {s t : State}

theorem LeavesMemories.keeps (h : LeavesMemories c s t) : Kept s.still t.still := by
  cases h with
  | unmoved same => exact .of (.refl _) same
  | kept _ h => exact h

theorem LeavesMemories.pending (h : LeavesMemories c s t) : t.pending = s.pending := h.keeps.1

theorem LeavesMemories.sameMemory (h : LeavesMemories c s t) (silent : mayStore c = false) : s.SameMemory t := by
  cases h with
  | unmoved same => exact sameMemory_of_still same
  | kept stores _ => rw [silent] at stores; cases stores

end

/-- Settles O2: every command answers (`exec_answers`), and its meaning's own law says what it leaves (`leavesMemories_exec`). -/
theorem everyCommandAnswers : Obligations.EveryCommandAnswers := by
  unfold Obligations.EveryCommandAnswers
  intro c s
  obtain ⟨t, runs⟩ := exec_answers c s
  have leaves := leavesMemories_exec c s t runs
  exact ⟨t, runs, leaves.pending, leaves.sameMemory⟩

/-! ### The canonical form (log 5) -/

theorem memoriesWf_iff (s : State) : s.MemoriesWf ↔ Still.ok s.still := by
  unfold State.MemoriesWf Still.ok ramsOk State.still
  simp only [Fin.getElem_fin, Vector.getElem_map]
  rfl

/-- Settles O4. -/
theorem resetMemoriesCanonical : Obligations.ResetMemoriesCanonical := by
  unfold Obligations.ResetMemoriesCanonical State.MemoriesWf
  decide

/-- Settles O3: an idle step changes nothing, and what a command keeps does not depend on the queue it leaves behind. -/
theorem memoriesStayCanonical : Obligations.MemoriesStayCanonical := by
  unfold Obligations.MemoriesStayCanonical
  intro s t canonical steps
  unfold step at steps
  split at steps
  · cases steps
    exact canonical
  · next c rest _ =>
    have keeps := (leavesMemories_exec c { s with pending := rest } t steps).keeps
    exact (memoriesWf_iff t).2 (keeps.2 ((memoriesWf_iff s).1 canonical))

end Sys2Proof.Machine
end

section
/-! SUPPORT. Arithmetic of the core instructions (R446, R447): one rule per shape of instruction, behind `Obligations.RegisterArithmetic`, `Obligations.MultiplyAndDivide` and `Obligations.ImmediateArithmetic`. -/

namespace Sys2Proof.Machine

open Sys2Proof

/-! ### The operations as R447 words them -/

theorem aluSar_eq (x y : Word) : aluSar x y = BitVec.ofInt 32 (x.toInt / 2 ^ (y.toNat % 32)) := by
  unfold aluSar
  rw [← BitVec.ofInt_toInt (x := x.sshiftRight _), BitVec.toInt_sshiftRight, Int.shiftRight_eq_div_pow]
  norm_cast
theorem wordOf_decide (p : Prop) [Decidable p] : wordOf (decide p) = if p then 1 else 0 := by
  unfold wordOf
  by_cases h : p <;> simp [h]
theorem slt_eq (x y : Word) : x.slt y = decide (x.toInt < y.toInt) := rfl
theorem ult_eq (x y : Word) : x.ult y = decide (x.toNat < y.toNat) := rfl
theorem aluSlt_eq (x y : Word) : aluSlt x y = if x.toInt < y.toInt then 1 else 0 := wordOf_decide _
theorem aluSltu_eq (x y : Word) : aluSltu x y = if x.toNat < y.toNat then 1 else 0 := wordOf_decide _
theorem aluMin_eq (x y : Word) : aluMin x y = if x.toInt < y.toInt then x else y := by
  unfold aluMin
  rw [slt_eq]
  simp only [decide_eq_true_eq]
theorem aluMax_eq (x y : Word) : aluMax x y = if x.toInt < y.toInt then y else x := by
  unfold aluMax
  rw [slt_eq]
  simp only [decide_eq_true_eq]

theorem aluDiv_eq (x y : Word) : aluDiv x y = if y = 0 then 0xFFFFFFFF else if x = 0x80000000 ∧ y = 0xFFFFFFFF then 0x80000000
    else BitVec.ofInt 32 (x.toInt.tdiv y.toInt) := by
  unfold aluDiv
  refine if_congr Iff.rfl rfl ?_
  split
  · next overflow =>
    obtain ⟨rfl, rfl⟩ := overflow
    decide
  · rfl
theorem aluRem_eq (x y : Word) : aluRem x y = if y = 0 then x else if x = 0x80000000 ∧ y = 0xFFFFFFFF then 0
    else BitVec.ofInt 32 (x.toInt.tmod y.toInt) := by
  unfold aluRem
  refine if_congr Iff.rfl rfl ?_
  split
  · next overflow =>
    obtain ⟨rfl, rfl⟩ := overflow
    decide
  · rfl

theorem zext18_toNat (imm : BitVec 18) : (zext18 imm).toNat = imm.toNat := by
  unfold zext18
  rw [BitVec.toNat_setWidth]
  have := imm.isLt
  omega

/-! ### An instruction that computes a register -/

section
variable {s : State} {c : Fin 4} (ready : CoreReady s c)
include ready

/-- A register computed of others takes its value, however the core's accounting stands. -/
theorem answers_compute {i : Instr} {w : Word} {u : List (Fin 16)} {d : Fin 16} {n : Nat} {f : Core → Word} {v : Word}
    (runs : exec i s = .next (s.compute c w u d n f)) (value : ∀ k : Core, (∀ r, k.reg r = (s.cores[c]).reg r) → f k = v) :
    Answers i s (Writes s c d v) := by
  have own : f s.cores[c] = v := value _ fun _ => rfl
  refine ⟨_, runs, ?_⟩
  rw [← own]
  exact compute_ready s c w u d n f ready fun k same => (value k (reg_of_arch same)).trans own.symm

theorem answers_aluT (fn n : Nat) (d a b : Fin 16) (f : Word → Word → Word) {i : Instr} {v : Word}
    (runs : exec i s = .next (s.aluT c fn n d a b f)) (value : f ((s.cores[c]).reg a) ((s.cores[c]).reg b) = v) :
    Answers i s (Writes s c d v) :=
  answers_compute ready runs fun k same => by rw [same, same, value]

theorem answers_aluK (op : Nat) (d a : Fin 16) (imm : BitVec 18) (f : Word → Word) {i : Instr} {v : Word}
    (runs : exec i s = .next (s.aluK c op d a imm f)) (value : f ((s.cores[c]).reg a) = v) : Answers i s (Writes s c d v) :=
  answers_compute ready runs fun k same => by rw [same, value]

/-- A shift by an immediate below 32 (R447). -/
theorem answers_shiftK (op : Nat) (d a : Fin 16) (imm : BitVec 18) (f : Word → Word → Word) {i : Instr} {v : Word} (short : imm.toNat < 32)
    (runs : exec i s = .next (s.shiftK c op d a imm f)) (value : f ((s.cores[c]).reg a) (zext18 imm) = v) : Answers i s (Writes s c d v) := by
  unfold State.shiftK at runs
  dsimp only at runs
  rw [if_pos short] at runs
  exact answers_compute ready runs fun k same => by rw [same, value]

theorem answers_lui (d : Fin 16) (imm : BitVec 18) : Answers (.lui c d 0 imm) s (Writes s c d (imm.zeroExtend 32 <<< 14)) :=
  answers_compute (f := fun _ => zext18 imm <<< 14) ready rfl fun _ _ => rfl

end

/-- Settles O8: each operation is one `compute`, its value as R447 words it. -/
theorem registerArithmetic : Obligations.RegisterArithmetic := by
  unfold Obligations.RegisterArithmetic
  intro s c d a b ready x y
  refine ⟨?_, ?_, ?_, ?_, ?_, ?_, ?_, ?_, ?_, ?_, ?_, ?_⟩
  · exact answers_aluT ready 0 1 d a b _ rfl rfl
  · exact answers_aluT ready 1 1 d a b _ rfl rfl
  · exact answers_aluT ready 2 1 d a b _ rfl rfl
  · exact answers_aluT ready 3 1 d a b _ rfl rfl
  · exact answers_aluT ready 4 1 d a b _ rfl rfl
  · exact answers_aluT ready 5 1 d a b _ rfl rfl
  · exact answers_aluT ready 6 1 d a b _ rfl rfl
  · exact answers_aluT ready 7 1 d a b _ rfl (aluSar_eq x y)
  · exact answers_aluT ready 8 1 d a b _ rfl (aluSlt_eq x y)
  · exact answers_aluT ready 9 1 d a b _ rfl (aluSltu_eq x y)
  · exact answers_aluT ready 17 1 d a b _ rfl (aluMin_eq x y)
  · exact answers_aluT ready 18 1 d a b _ rfl (aluMax_eq x y)

/-- Settles O9: each operation is one `compute`; the quotient that overflows is the dividend again, its remainder 0. -/
theorem multiplyAndDivide : Obligations.MultiplyAndDivide := by
  unfold Obligations.MultiplyAndDivide
  intro s c d a b ready x y
  refine ⟨?_, ?_, ?_, ?_, ?_, ?_, ?_, ?_, ?_, ?_⟩
  · exact answers_aluT ready 10 2 d a b _ rfl rfl
  · exact answers_aluT ready 11 2 d a b _ rfl rfl
  · exact answers_aluT ready 12 2 d a b _ rfl rfl
  · exact answers_aluT ready 13 18 d a b _ rfl (aluDiv_eq x y)
  · exact answers_aluT ready 14 18 d a b _ rfl rfl
  · exact answers_aluT ready 15 18 d a b _ rfl (aluRem_eq x y)
  · exact answers_aluT ready 16 18 d a b _ rfl rfl
  · exact answers_aluT ready 19 2 d a b _ rfl rfl
  · exact answers_aluT ready 20 1 d a b _ rfl rfl
  · exact answers_aluT ready 21 1 d a b _ rfl rfl

/-- Settles O10: as O8, on an immediate extended as the rule says; a shift takes it where it is below 32. -/
theorem immediateArithmetic : Obligations.ImmediateArithmetic := by
  unfold Obligations.ImmediateArithmetic
  intro s c d a imm ready x sx zx
  refine ⟨?_, ?_, ?_, ?_, ?_, ?_, answers_lui ready d imm, fun short => ?_⟩
  · exact answers_aluK ready 1 d a imm _ rfl rfl
  · exact answers_aluK ready 2 d a imm _ rfl rfl
  · exact answers_aluK ready 3 d a imm _ rfl rfl
  · exact answers_aluK ready 4 d a imm _ rfl rfl
  · exact answers_aluK ready 8 d a imm _ rfl (aluSlt_eq x sx)
  · exact answers_aluK ready 9 d a imm _ rfl (aluSltu_eq x sx)
  · have count : (zext18 imm).toNat % 32 = imm.toNat := by rw [zext18_toNat, Nat.mod_eq_of_lt short]
    refine ⟨?_, ?_, ?_⟩
    · exact answers_shiftK ready 5 d a imm _ short rfl (congrArg (x <<< ·) count)
    · exact answers_shiftK ready 6 d a imm _ short rfl (congrArg (x >>> ·) count)
    · exact answers_shiftK ready 7 d a imm _ short rfl ((aluSar_eq x _).trans (by rw [count]))

end Sys2Proof.Machine
end

section
/-! SUPPORT. How a core instruction completes (R447, R451): the state behind it, for branches and links, behind `Obligations.Branches` and `Obligations.JumpsAndLinks`. -/

namespace Sys2Proof.Machine

open Sys2Proof

/-! ### How an instruction completes (R451, R477) -/

/-- Core `c` is `k` before the PC moves, the next PC is `next`, and what is written behind the counts is `p` of the core. -/
def Ran.Completes (r : Ran) (s : State) (c : Fin 4) (k : Core) (next : Word) (p : Core → Core) : Prop :=
  ∃ e, r = .done e ∧ e.early = id ∧ e.next = next ∧ (∀ t, e.post t = t.setCore c p) ∧ CoreBecomes s c k e.s

/-- A change of a core that does not depend on its accounting. -/
def KeepsArch (p : Core → Core) : Prop := ∀ k q : Core, k.arch = q.arch → (p k).arch = (p q).arch

theorem KeepsArch.of (g : Core → Core) (h : ∀ k, (g k).arch = (g k.arch).arch) : KeepsArch g := fun k q same => by rw [h k, h q, same]
theorem keepsArch_id : KeepsArch id := fun _ _ same => same

theorem setCore_id (s : State) (c : Fin 4) : s.setCore c id = s := by
  unfold State.setCore
  rw [id, Fin.getElem_fin, Vector.set_getElem_self]

theorem CoreBecomes.post {s t : State} {c : Fin 4} {k : Core} {p : Core → Core} (h : CoreBecomes s c k t) (hp : KeepsArch p) :
    CoreBecomes s c (p k) (t.setCore c p) := by
  refine ⟨?_, fun e other => ?_, h.beside, h.values, h.power⟩
  · rw [State.cores_setCore_same]
    exact hp _ _ h.core
  · rw [State.cores_setCore, if_neg (Ne.symm other)]
    exact h.others e other

theorem CoreBecomes.trans {s m t : State} {c : Fin 4} {k q : Core} (h : CoreBecomes s c k m) (g : CoreBecomes m c q t) : CoreBecomes s c q t :=
  ⟨g.core, fun e other => (g.others e other).trans (h.others e other), g.beside.trans h.beside, fun x hx => (g.values x hx).trans (h.values x hx),
    h.power.trans g.power h.clock⟩

theorem Accounts.becomes {s t : State} (h : Accounts s t) (c : Fin 4) : CoreBecomes s c s.cores[c] t :=
  ⟨h.cores c, fun e _ => h.cores e, h.beside, h.values, h.power⟩

/-- A core's change on a state that differs by accounting. -/
theorem Accounts.becomes_setCore {s m : State} (h : Accounts s m) (c : Fin 4) {p : Core → Core} (hp : KeepsArch p) :
    CoreBecomes s c (p s.cores[c]) (m.setCore c p) := (h.becomes c).post hp

section
variable {s : State} {c : Fin 4} (ready : CoreReady s c)
include ready

section
variable {i : Instr} {w : Word} {u : List (Fin 16)} {x : Fin 16} {f : State → Word → Ran} (runs : exec i s = .next (s.insn c w u x f))
include runs

/-- A ready core's instruction runs on a state that differs by accounting; where it completes, the PC moves and `post` follows. -/
theorem insn_done : ∃ m, Accounts s m ∧ ∀ e, f m (s.cores[c]).pc = .done e → e.early = id →
    ∃ n, CoreBecomes e.s c { e.s.cores[c] with pc := e.next } n ∧ exec i s = .next (e.post n) := by
  obtain ⟨m, fetch, b1, b2, b3, acc, ready_⟩ := insn_ready s c w u x f ready
  refine ⟨m, acc, fun e done early => ?_⟩
  obtain ⟨n, retired, ends⟩ := retire_post e c fetch b1 b2 b3 early
  rw [runs, ready_, done]
  exact ⟨n, retired, congrArg Host.Outcome.next ends⟩

/-- An instruction that completes leaves its core as its effect says, at the next PC. -/
theorem insn_ran : ∃ m, Accounts s m ∧ ∀ k next p, KeepsArch p → (f m (s.cores[c]).pc).Completes s c k next p →
    Answers i s (CoreBecomes s c (p { k with pc := next })) := by
  obtain ⟨m, acc, completes⟩ := insn_done ready runs
  refine ⟨m, acc, fun k next p own effect => ?_⟩
  obtain ⟨e, done, early, rfl, post, core⟩ := effect
  obtain ⟨n, retired, ends⟩ := completes e done early
  rw [post] at ends
  exact ⟨_, ends, (core.trans (retired.arch (arch_pc core.core e.next))).post own⟩

/-- An instruction that only goes on, at `next`. -/
theorem insn_jumps (next : Word) (completes : ∀ m, Accounts s m → (f m (s.cores[c]).pc).Completes s c s.cores[c] next id) :
    Answers i s (Jumps s c next) := by
  obtain ⟨m, acc, becomes⟩ := insn_ran ready runs
  exact becomes _ next id keepsArch_id (completes m acc)

/-- An instruction that writes `v` to a register and goes on at `next`. -/
theorem insn_writes (d : Fin 16) (v next : Word)
    (completes : ∀ m, Accounts s m → (f m (s.cores[c]).pc).Completes s c ((s.cores[c]).setReg d v) next id) :
    Answers i s (CoreBecomes s c ((s.cores[c]).wrote d v next)) := by
  obtain ⟨m, acc, becomes⟩ := insn_ran ready runs
  obtain ⟨t, ends, left⟩ := becomes _ next id keepsArch_id (completes m acc)
  exact ⟨t, ends, left.arch (arch_wrote _ _ _ _)⟩

end

end

theorem keepsArch_setReg (d : Fin 16) (v : Word) : KeepsArch fun k => k.setReg d v := fun _ _ same => arch_setReg same d v

/-- An effect that leaves the core as it is. -/
theorem completes_done {s m : State} {c : Fin 4} (acc : Accounts s m) (next : Word) (cost : Cost) (leaves : Bool) :
    Ran.Completes (.done { s := m, next := next, cost := cost, leaves := leaves }) s c s.cores[c] next id :=
  ⟨_, rfl, rfl, rfl, fun t => (setCore_id t c).symm, acc.becomes c⟩

/-- An effect that writes a register. -/
theorem completes_setReg {s m : State} {c : Fin 4} (acc : Accounts s m) (d : Fin 16) (v next : Word) (cost : Cost) (leaves : Bool) (loaded : Option (Fin 16)) :
    Ran.Completes (.done { s := m.setCore c fun k => k.setReg d v, next := next, cost := cost, leaves := leaves, loaded := loaded }) s c
      ((s.cores[c]).setReg d v) next id :=
  ⟨_, rfl, rfl, rfl, fun t => (setCore_id t c).symm, acc.becomes_setCore c (keepsArch_setReg d v)⟩

/-! ### Branches and jumps (R446, R447) -/

/-- A distance in words, counted from the instruction itself. -/
theorem target_eq {n : Nat} (pc : Word) (imm : BitVec n) : pc + (imm.signExtend 32 <<< 2) = BitVec.ofInt 32 (pc.toInt + 4 * imm.toInt) := by
  rw [BitVec.ofInt_add, BitVec.ofInt_toInt, BitVec.ofInt_mul, BitVec.shiftLeft_eq_mul_twoPow, mul_comm]
  rfl

section
variable {s : State} {c : Fin 4} (ready : CoreReady s c)
include ready

theorem answers_branch (op : Nat) (a b : Fin 16) (imm : BitVec 18) (f : Word → Word → Bool) {i : Instr} (p : Prop) [Decidable p]
    (runs : exec i s = .next (s.branch c op a b imm f)) (taken : f ((s.cores[c]).reg a) ((s.cores[c]).reg b) = decide p) :
    Answers i s (Jumps s c (if p then BitVec.ofInt 32 ((s.cores[c]).pc.toInt + 4 * imm.toInt) else (s.cores[c]).pc + 4)) := by
  refine insn_jumps ready runs _ fun m acc => ?_
  dsimp only
  rw [acc.reg, acc.reg, taken]
  by_cases h : p
  · rw [if_pos (decide_eq_true h), if_pos h, ← target_eq]
    exact completes_done acc _ _ _
  · rw [if_neg (by simp [h]), if_neg h]
    exact completes_done acc _ _ _

theorem answers_jl (d : Fin 16) (imm : BitVec 22) : Answers (.jl c d imm) s
    (CoreBecomes s c ((s.cores[c]).wrote d ((s.cores[c]).pc + 4) (BitVec.ofInt 32 ((s.cores[c]).pc.toInt + 4 * imm.toInt)))) :=
  insn_writes ready rfl d _ _ fun m acc => by
    rw [← target_eq]
    exact completes_setReg acc d _ _ _ _ _

theorem answers_jlr (d a : Fin 16) (imm : BitVec 18) (aligned : ((s.cores[c]).reg a + imm.signExtend 32).toNat % 4 = 0) :
    Answers (.jlr c d a imm) s (CoreBecomes s c ((s.cores[c]).wrote d ((s.cores[c]).pc + 4) ((s.cores[c]).reg a + imm.signExtend 32))) :=
  insn_writes ready rfl d _ _ fun m acc => by
    dsimp only
    rw [acc.reg, sext18, if_neg (not_not.2 aligned)]
    exact completes_setReg acc d _ _ _ _ _

end

/-- Settles O14: a branch goes on at its target or at the next word, and changes no register. -/
theorem branches : Obligations.Branches := by
  unfold Obligations.Branches
  intro s c a b imm ready x y pc target
  refine ⟨?_, ?_, ?_, ?_, ?_, ?_⟩
  · exact answers_branch ready 0x20 a b imm _ (x = y) rfl (beq_eq_decide x y)
  · exact answers_branch ready 0x21 a b imm _ (x ≠ y) rfl (by rw [bne, beq_eq_decide, decide_not])
  · exact answers_branch ready 0x22 a b imm _ (x.toInt < y.toInt) rfl rfl
  · exact answers_branch ready 0x23 a b imm _ (y.toInt ≤ x.toInt) rfl (by rw [slt_eq, ← decide_not]; exact decide_eq_decide.2 not_lt)
  · exact answers_branch ready 0x24 a b imm _ (x.toNat < y.toNat) rfl rfl
  · exact answers_branch ready 0x25 a b imm _ (y.toNat ≤ x.toNat) rfl (by rw [ult_eq, ← decide_not]; exact decide_eq_decide.2 not_lt)

/-- Settles O15: the target is read from the core as it stood before the link was written. -/
theorem jumpsAndLinks : Obligations.JumpsAndLinks := by
  unfold Obligations.JumpsAndLinks
  intro s c d a ready k
  exact ⟨answers_jl ready d, answers_jlr ready d a⟩

end Sys2Proof.Machine
end

section
/-! SUPPORT. System registers, SIGNAL, ERET, FENCE and BRK (R43, R444, R447 to R451), behind `Obligations.SystemRegisters` and `Obligations.SignalFenceReturn`. -/

namespace Sys2Proof.Machine

open Sys2Proof

/-! ### System registers (R444, R448, R450) -/

theorem readSys_regionBase (m : State) (c : Fin 4) (n : Fin 8) : m.readSys c (0x100 + 2 * n.val) = ((m.cores[c]).regionBase[n], m) := by
  have entry : (0x100 + 2 * n.val - 0x100) / 2 = n.val := by omega
  unfold State.readSys
  dsimp only
  iterate 7 refine (if_neg (by omega)).trans ?_
  refine (if_pos (by omega)).trans ?_
  rw [if_pos (by omega)]
  exact congrArg (fun i : Fin 8 => ((m.cores[c]).regionBase[i], m)) ((congrArg (Fin.ofNat 8) entry).trans (Fin.ofNat_val_eq_self n))
theorem readSys_regionAttr (m : State) (c : Fin 4) (n : Fin 8) : m.readSys c (0x101 + 2 * n.val) = ((m.cores[c]).regionAttr[n], m) := by
  have entry : (0x101 + 2 * n.val - 0x100) / 2 = n.val := by omega
  unfold State.readSys
  dsimp only
  iterate 7 refine (if_neg (by omega)).trans ?_
  refine (if_pos (by omega)).trans ?_
  rw [if_neg (by omega)]
  exact congrArg (fun i : Fin 8 => ((m.cores[c]).regionAttr[i], m)) ((congrArg (Fin.ofNat 8) entry).trans (Fin.ofNat_val_eq_self n))

theorem writeSys_regionBase (t : State) (c : Fin 4) (n : Fin 8) (v : Word) : t.writeSys c (0x100 + 2 * n.val) v
    = t.setCore c fun k => { k with regionBase := k.regionBase.set n (v &&& 0xFFFFFC00) } := by
  have entry : (0x100 + 2 * n.val - 0x100) / 2 = n.val := by omega
  unfold State.writeSys
  iterate 6 rw [if_neg (by omega)]
  rw [if_pos (by omega)]
  simp only [if_pos (show (0x100 + 2 * n.val) % 2 = 0 by omega), entry, Fin.ofNat_val_eq_self]
theorem writeSys_regionAttr (t : State) (c : Fin 4) (n : Fin 8) (v : Word) : t.writeSys c (0x101 + 2 * n.val) v
    = t.setCore c fun k => { k with regionAttr := k.regionAttr.set n (v &&& 0xFFFFFC0F) } := by
  have entry : (0x101 + 2 * n.val - 0x100) / 2 = n.val := by omega
  unfold State.writeSys
  iterate 6 rw [if_neg (by omega)]
  rw [if_pos (by omega)]
  simp only [if_neg (show ¬(0x101 + 2 * n.val) % 2 = 0 by omega), entry, Fin.ofNat_val_eq_self]

section
variable {s : State} {c : Fin 4} (ready : CoreReady s c)
include ready

/-- SRD of a register that reads without an effect (R448). -/
theorem answers_srd (r : Fin 16) (n : BitVec 18) (q : Core → Word) (may : (s.cores[c]).privileged = true ∨ n = 0) (small : n.toNat < 4096)
    (own : ∀ k : Core, q k.arch = q k) (reads : ∀ m : State, m.readSys c n.toNat = (q m.cores[c], m)) :
    Answers (.srd c r n) s (Writes s c r (q s.cores[c])) :=
  insn_writes ready rfl r _ _ fun m acc => by
    have allowed : ¬((m.cores[c]).privileged = false ∧ (m.cores[c]).userReads n.toNat = false) := by
      rw [acc.privileged]
      rintro ⟨user, refused⟩
      rcases may with privileged | rfl
      · rw [privileged] at user; cases user
      · cases refused
    have value : q m.cores[c] = q s.cores[c] := by rw [← own, acc.cores, own]
    dsimp only
    rw [if_neg (Nat.not_le.2 small), if_neg allowed, reads, value]
    exact completes_setReg acc r _ _ _ _ _

/-- SWR in privileged mode, of a register that no count of its cycle touches (R448, R477). -/
theorem answers_swr (r : Fin 16) (n : BitVec 18) (p : Core → Core) (privileged : (s.cores[c]).privileged = true) (small : n.toNat < 4096)
    (plain : n.toNat ≠ 0x220) (own : KeepsArch p) (writes : ∀ t : State, t.writeSys c n.toNat ((s.cores[c]).reg r) = t.setCore c p) :
    Answers (.swr c r n) s (CoreBecomes s c (p { s.cores[c] with pc := (s.cores[c]).pc + 4 })) := by
  obtain ⟨m, acc, becomes⟩ := insn_ran ready (i := .swr c r n) rfl
  refine becomes _ _ p own ?_
  dsimp only
  rw [acc.privileged, if_neg (by rw [privileged]; decide), if_neg (Nat.not_le.2 small), if_neg plain, acc.reg]
  exact ⟨_, rfl, rfl, rfl, writes, acc.becomes c⟩

end

/-- Settles O16: SRD by what `readSys` gives, SWR by the change that `writeSys` makes of the core. -/
theorem systemRegisters : Obligations.SystemRegisters := by
  unfold Obligations.SystemRegisters
  intro s c r ready k v moved
  refine ⟨answers_srd ready r 0 (fun _ => BitVec.ofNat 32 c.val) (.inr rfl) (by decide) (fun _ => rfl) fun _ => rfl,
    fun privileged => ⟨?_, ?_, ?_, ?_, ?_, ?_, ?_, ?_, ?_, ?_, ?_, ?_, fun n => ?_⟩⟩
  · exact answers_srd ready r 1 Core.status (.inl privileged) (by decide) (fun _ => rfl) fun _ => rfl
  · exact answers_srd ready r 2 Core.epc (.inl privileged) (by decide) (fun _ => rfl) fun _ => rfl
  · exact answers_srd ready r 3 Core.ecause (.inl privileged) (by decide) (fun _ => rfl) fun _ => rfl
  · exact answers_srd ready r 4 Core.eval (.inl privileged) (by decide) (fun _ => rfl) fun _ => rfl
  · exact answers_srd ready r 0x10 Core.vbase (.inl privileged) (by decide) (fun _ => rfl) fun _ => rfl
  · exact answers_srd ready r 0x20 Core.prioMask (.inl privileged) (by decide) (fun _ => rfl) fun _ => rfl
  · exact answers_swr ready r 1 (fun k => { k with status := v &&& 0xF }) privileged (by decide) (by decide) (.of _ fun _ => rfl) fun _ => rfl
  · exact answers_swr ready r 2 (fun k => { k with epc := v }) privileged (by decide) (by decide) (.of _ fun _ => rfl) fun _ => rfl
  · exact answers_swr ready r 3 (fun k => { k with ecause := v }) privileged (by decide) (by decide) (.of _ fun _ => rfl) fun _ => rfl
  · exact answers_swr ready r 4 (fun k => { k with eval := v }) privileged (by decide) (by decide) (.of _ fun _ => rfl) fun _ => rfl
  · exact answers_swr ready r 0x10 (fun k => { k with vbase := v &&& 0xFFFFFF00 }) privileged (by decide) (by decide) (.of _ fun _ => rfl) fun _ => rfl
  · exact answers_swr ready r 0x20 (fun k => { k with prioMask := v }) privileged (by decide) (by decide) (.of _ fun _ => rfl) fun _ => rfl
  · have base : (BitVec.ofNat 18 (0x100 + 2 * n.val)).toNat = 0x100 + 2 * n.val := by rw [BitVec.toNat_ofNat]; omega
    have attr : (BitVec.ofNat 18 (0x101 + 2 * n.val)).toNat = 0x101 + 2 * n.val := by rw [BitVec.toNat_ofNat]; omega
    refine ⟨?_, ?_, ?_, ?_⟩
    · exact answers_srd ready r _ (fun k => k.regionBase[n]) (.inl privileged) (by omega) (fun _ => rfl) fun m => by rw [base, readSys_regionBase]
    · exact answers_srd ready r _ (fun k => k.regionAttr[n]) (.inl privileged) (by omega) (fun _ => rfl) fun m => by rw [attr, readSys_regionAttr]
    · exact answers_swr ready r _ (fun k => { k with regionBase := k.regionBase.set n (v &&& 0xFFFFFC00) }) privileged (by omega) (by omega)
        (.of _ fun _ => rfl) fun t => by rw [base, writeSys_regionBase]
    · exact answers_swr ready r _ (fun k => { k with regionAttr := k.regionAttr.set n (v &&& 0xFFFFFC0F) }) privileged (by omega) (by omega)
        (.of _ fun _ => rfl) fun t => by rw [attr, writeSys_regionAttr]

/-! ### Return, fence and break (R43, R447, R451) -/

theorem Accounts.debugOpen {s t : State} (h : Accounts s t) : t.startup = s.startup :=
  (congrArg State.startup h.beside : t.besideCores.startup = s.besideCores.startup)

section
variable {s : State} {c : Fin 4} (ready : CoreReady s c)
include ready

theorem answers_eret (privileged : (s.cores[c]).privileged = true) : Answers (.eret c) s (CoreBecomes s c (s.cores[c]).trapReturn) := by
  obtain ⟨m, acc, becomes⟩ := insn_ran ready (i := .eret c) rfl
  refine becomes s.cores[c] (s.cores[c]).pc Core.trapReturn (.of _ fun _ => rfl) ?_
  rw [acc.privileged, if_neg (by rw [privileged]; decide)]
  exact ⟨_, rfl, rfl, rfl, fun _ => rfl, acc.becomes c⟩

theorem answers_fence : Answers (.fence c) s (Jumps s c ((s.cores[c]).pc + 4)) :=
  insn_jumps ready rfl _ fun m acc => completes_done (acc.trans (Accounts.free m _)) _ _ _

/-- BRK on an unlocked debug port halts the core where it stands. -/
theorem answers_brk (imm : BitVec 18) (unlocked : s.startup.debugOpen = true) :
    Answers (.brk c imm) s (CoreBecomes s c { s.cores[c] with debugHalt := true }) := by
  obtain ⟨m, acc, becomes⟩ := insn_ran ready (i := .brk c imm) rfl
  refine becomes s.cores[c] (s.cores[c]).pc (fun k => { k with debugHalt := true }) (.of _ fun _ => rfl) ?_
  rw [acc.debugOpen, if_pos unlocked]
  exact ⟨_, rfl, rfl, rfl, fun _ => rfl, acc.becomes c⟩

end

/-! ### A pending source stays pending (R470, R471) -/

theorem vector_getD_set {α : Type} {n i : Nat} (v : Vector α n) (x d : α) (h : i < n) (j : Nat) : (v.set i x h).getD j d = if j = i then x else v.getD j d := by
  have optional (v : Vector α n) : v.getD j d = v[j]?.getD d := by simp [Vector.getD]
  rw [optional, optional, Vector.getElem?_set]
  split
  · next same => rw [if_pos same.symm]; rfl
  · next other => rw [if_neg (Ne.symm other)]

/-- What was pending of source `src` at core `e` is pending still. -/
def StaysPending (e : Fin 4) (src : Nat) (s t : State) : Prop := (s.cores[e]).pendingSource src = true → (t.cores[e]).pendingSource src = true

section
variable {e : Fin 4} {src : Nat}

theorem StaysPending.trans {s m t : State} (h : StaysPending e src s m) (g : StaysPending e src m t) : StaysPending e src s t := fun x => g (h x)
theorem StaysPending.foldl {α : Type} (f : State → α → State) (l : List α) (s : State) (h : ∀ s x, StaysPending e src s (f s x)) :
    StaysPending e src s (l.foldl f s) := by
  induction l generalizing s with
  | nil => exact id
  | cons x t ih => exact (h s x).trans (ih _)

theorem StaysPending.of_cores {s t : State} (h : t.cores = s.cores) : StaysPending e src s t := by
  unfold StaysPending
  rw [h]
  exact id
theorem staysPending_setCore (s : State) (c : Fin 4) (f : Core → Core) (h : ∀ k : Core, k.pendingSource src = true → (f k).pendingSource src = true) :
    StaysPending e src s (s.setCore c f) := by
  intro pending
  rw [State.cores_setCore]
  split
  · exact h _ pending
  · exact pending

theorem pendingSource_congr {k q : Core} (h : q.srcPend = k.srcPend) : q.pendingSource src = k.pendingSource src := by
  unfold Core.pendingSource
  rw [h]
/-- A change of a core that leaves its pending sources. -/
theorem staysPending_account (s : State) (c : Fin 4) (f : Core → Core) (h : ∀ k : Core, (f k).srcPend = k.srcPend) : StaysPending e src s (s.setCore c f) :=
  staysPending_setCore s c f fun k pending => (pendingSource_congr (h k)).trans pending

/-- Setting a source's bit sets that bit and changes no other. -/
theorem pendingSource_set (k : Core) (j : Nat) (small : j < 256) :
    (k.setPendingSource j true).pendingSource src = (decide (src = j) || k.pendingSource src) := by
  have inside : j / 32 < 8 := by omega
  unfold Core.setPendingSource Core.pendingSource
  rw [dif_pos inside]
  dsimp only
  rw [if_pos rfl, vector_getD_set]
  by_cases same : src / 32 = j / 32
  · have bit : src % 32 = j % 32 ↔ src = j := by omega
    have word : k.srcPend.getD (j / 32) 0 = k.srcPend[j / 32] := by simp [Vector.getD, inside]
    rw [if_pos same, same, word, BitVec.getLsbD_or, BitVec.getLsbD_ofNat, Nat.testBit_two_pow, Bool.or_comm,
      decide_eq_true (Nat.mod_lt src (by decide)), Bool.true_and, decide_eq_decide.2 (eq_comm.trans bit)]
  · have other : src ≠ j := by rintro rfl; exact same rfl
    rw [decide_eq_false other, Bool.false_or, if_neg same]
theorem pendingSource_deliver (k : Core) (j : Nat) (small : j < 256) :
    (k.deliver j).pendingSource src = (decide (src = j) || k.pendingSource src) := by
  unfold Core.deliver
  split
  · next already =>
    by_cases same : src = j
    · subst same
      rw [decide_eq_true rfl]
      exact already
    · rw [decide_eq_false same]
      rfl
  · exact pendingSource_set k j small

theorem staysPending_deliverTo (s : State) (c : Fin 4) (j : Nat) (small : j < 256) : StaysPending e src s (s.deliverTo c j) := by
  have delivered := staysPending_setCore (e := e) (src := src) s c (fun k => k.deliver j) fun k pending => by
    rw [pendingSource_deliver k j small, pending, Bool.or_true]
  unfold State.deliverTo
  dsimp only
  split
  · exact delivered
  · exact delivered
theorem cores_triggers (s : State) (j r : Nat) : (s.triggers j r).cores = s.cores := by
  unfold State.triggers
  dsimp only
  split
  · split <;> rfl
  · split <;> rfl
theorem staysPending_triggers (s : State) (j r : Nat) : StaysPending e src s (s.triggers j r) := .of_cores (cores_triggers s j r)
theorem staysPending_deliverSource (s : State) (j : Nat) (small : j < 256) : StaysPending e src s (s.deliverSource j) := by
  unfold State.deliverSource
  dsimp only
  refine StaysPending.trans ?_ (staysPending_triggers _ _ _)
  split
  · exact staysPending_deliverTo s 1 j small
  · split
    · exact staysPending_deliverTo s 2 j small
    · split
      · exact staysPending_deliverTo s 3 j small
      · exact id
theorem staysPending_returnToBlaze (s : State) (bits : Nat) : StaysPending e src s (s.returnToBlaze bits) := by
  unfold State.returnToBlaze
  dsimp only
  refine StaysPending.trans ?_ (staysPending_deliverSource _ 240 (by decide))
  exact .of_cores rfl
theorem staysPending_eventWake (s : State) : StaysPending e src s s.eventWake := by
  unfold State.eventWake
  split
  · exact id
  · split
    · split
      · exact staysPending_returnToBlaze s 16
      · split
        · exact .of_cores rfl
        · exact id
    · unfold State.abandonEntry
      split
      · refine StaysPending.trans ?_ (staysPending_deliverSource _ 241 (by decide))
        refine StaysPending.trans ?_ (staysPending_returnToBlaze _ _)
        exact .of_cores rfl
      · exact id
    · exact id
theorem staysPending_raiseLocal (s : State) (c : Fin 4) (j : Nat) (small : j < 4) : StaysPending e src s (s.raiseLocal c j) := by
  have raised : StaysPending e src s (if (s.cores[c]).localCtrl.getLsbD (8 * j + 7) then (s.deliverTo c (248 + j)).eventWake else s) := by
    split
    · exact (staysPending_deliverTo s c _ (by omega)).trans (staysPending_eventWake _)
    · exact id
  unfold State.raiseLocal
  dsimp only
  split
  · exact raised.trans (staysPending_triggers _ _ _)
  · exact raised
theorem staysPending_countEventBut (s : State) (w : Option (Fin 8)) (c : Fin 4) (ev n : Nat) : StaysPending e src s (s.countEventBut w c ev n) := by
  unfold State.countEventBut
  refine StaysPending.foldl _ _ _ fun s j => ?_
  split
  · have counted : StaysPending e src s (s.setCore c fun _ => ((s.cores[c]).passCount j n).1) := by
      intro pending
      rw [State.cores_setCore]
      split
      · next same =>
        subst same
        exact pending
      · exact pending
    dsimp only
    split
    · exact counted.trans (staysPending_raiseLocal _ _ 2 (by decide))
    · exact counted
  · exact id
theorem staysPending_countEvents (s : State) (c : Fin 4) (l : List (Nat × Nat)) : StaysPending e src s (s.countEvents c l) :=
  .foldl _ _ _ fun s x => staysPending_countEventBut s none c x.1 x.2

/-- The cycles of an instruction that goes on in sequence clear no pending source. -/
theorem staysPending_retire (x : Effect) (c : Fin 4) (fetch : Cost) (u w i : Bool) (early : x.early = id) (post : x.post = id) (inSequence : x.leaves = false) :
    StaysPending e src x.s (x.retire c fetch u w i) := by
  unfold Effect.retire Effect.fetchStall State.passCyclesAs State.lastCycle
  simp only [early, post, inSequence, Bool.false_eq_true, if_false, id]
  refine StaysPending.trans ?_ (staysPending_account _ c _ fun _ => rfl)
  refine StaysPending.trans ?_ (StaysPending.foldl _ _ _ fun s y => staysPending_countEventBut s _ c y.1 y.2)
  refine StaysPending.trans ?_ (staysPending_account _ c _ fun _ => rfl)
  refine StaysPending.trans ?_ (staysPending_countEvents _ c _)
  refine StaysPending.trans ?_ (staysPending_countEvents _ c _)
  exact staysPending_account _ c _ fun _ => rfl

end

/-- A source routed to a Stoker core is pending there once it is raised (R468, R470). -/
theorem pendingSource_raiseSource (s : State) (src : Nat) (e : Fin 4) (stoker : e ≠ 0) (small : src < 256) (routed : field (s.route src) 10 8 = e.val) :
    ((s.raiseSource src).cores[e]).pendingSource src = true := by
  have arrives : ((s.deliverTo e src).cores[e]).pendingSource src = true := by
    unfold State.deliverTo
    dsimp only
    rw [if_neg stoker]
    show ((s.setCore e fun k => k.deliver src).cores[e]).pendingSource src = true
    rw [State.cores_setCore_same]
    rw [pendingSource_deliver _ src small, decide_eq_true rfl, Bool.true_or]
  have delivered : ((s.deliverSource src).cores[e]).pendingSource src = true := by
    unfold State.deliverSource
    dsimp only
    rw [cores_triggers, routed]
    fin_cases e
    · exact absurd rfl stoker
    · exact arrives
    · exact arrives
    · exact arrives
  unfold State.raiseSource
  dsimp only
  split
  · exact staysPending_eventWake _ delivered
  · exact delivered

theorem routePair_not_event {i : Nat} (small : i < 128) : Key.routerRoutePair i ∉ eventKeys := by
  have all : ∀ i : Fin 128, Key.routerRoutePair i.val ∉ eventKeys := by decide
  exact all ⟨i, small⟩
theorem Accounts.route {s t : State} (h : Accounts s t) (src : Nat) (small : src < 256) : t.route src = s.route src := by
  have key := routePair_not_event (show src / 2 < 128 by omega)
  unfold State.route State.nat
  rw [h.values _ key]

section
variable {s : State} {c : Fin 4} (ready : CoreReady s c)
include ready

theorem answers_signal (imm : BitVec 18) (small : imm.toNat < 4) : Answers (.signal c imm) s fun t => Jumps s c ((s.cores[c]).pc + 4) t
    ∧ ∀ e : Fin 4, e ≠ 0 → field (s.route (252 + imm.toNat)) 10 8 = e.val → (t.cores[e]).pendingSource (252 + imm.toNat) = true := by
  obtain ⟨t, runs, jumps⟩ := insn_jumps ready (i := .signal c imm) rfl ((s.cores[c]).pc + 4) fun m acc => by
    rw [if_neg (Nat.not_le.2 small)]
    exact completes_done (acc.trans (Accounts.raiseSource m _)) _ _ _
  refine ⟨t, runs, jumps, fun e stoker routed => ?_⟩
  obtain ⟨m, fetch, b1, b2, b3, acc, retires⟩ := insn_ready s c (wordK 0x33 0 0 imm) [] 0 _ ready
  cases runs
  rw [retires, if_neg (Nat.not_le.2 small)]
  exact staysPending_retire _ c fetch b1 b2 b3 rfl rfl rfl (pendingSource_raiseSource m _ e stoker (by omega) (by rw [acc.route _ (by omega)]; exact routed))

end

/-- Settles O17: each by what its effect leaves behind accounting; the source that SIGNAL raises stays pending through the cycles that follow. -/
theorem signalFenceReturn : Obligations.SignalFenceReturn := by
  unfold Obligations.SignalFenceReturn
  intro s c ready k
  exact ⟨answers_signal ready, answers_eret ready, answers_fence ready, answers_brk ready⟩

end Sys2Proof.Machine
end

section
/-! SUPPORT. Loads of a core (R439, R443, R447), behind `Obligations.LoadsFromMemory` and `Obligations.LoadsFromOtherRegions`. -/

namespace Sys2Proof.Machine

open Sys2Proof

/-! ### Little-endian values (R447) -/

theorem append_toNat {n m : Nat} (x : BitVec n) (y : BitVec m) : (x ++ y).toNat = x.toNat * 2 ^ m + y.toNat := by
  rw [BitVec.toNat_append, ← Nat.shiftLeft_add_eq_or_of_lt y.isLt, Nat.shiftLeft_eq]

theorem leNat_byte (x : Byte) : leNat [x] = x.toNat := rfl
theorem leNat_half (x y : Byte) : leNat [x, y] = (y ++ x).toNat := by
  rw [append_toNat]
  simp only [leNat]
  omega
theorem leNat_word (x y z w : Byte) : leNat [x, y, z, w] = ((w ++ z) ++ (y ++ x)).toNat := by
  simp only [append_toNat, leNat]
  omega

/-- The low `n` bits of a number sign-extended. -/
theorem sextOf_eq {n : Nat} (x : BitVec n) (some_ : 0 < n) (fits : n ≤ 32) : sextOf n (BitVec.ofNat 32 x.toNat) = x.signExtend 32 := by
  have low : (BitVec.ofNat 32 x.toNat).toNat = x.toNat := by
    rw [BitVec.toNat_ofNat]
    exact Nat.mod_eq_of_lt (lt_of_lt_of_le x.isLt (Nat.pow_le_pow_right (by decide) fits))
  have double : 2 ^ n = 2 * 2 ^ (n - 1) := by rw [← Nat.pow_succ', Nat.succ_eq_add_one, Nat.sub_add_cancel some_]
  have signed : signedOf n x.toNat = x.toInt := by
    unfold signedOf
    rw [Nat.mod_eq_of_lt x.isLt, BitVec.toInt_eq_toNat_cond]
    exact if_congr (by omega) rfl rfl
  unfold sextOf
  rw [low, signed]
  rfl

/-! ### What a load reads (R439) -/

/-- A load of an addressed memory is its bytes, and changes nothing. -/
theorem memLoad_eq {c : Fin 4} {a : Nat} {m : Space} (s : State) (w : Nat) (h : memoryAt c a = some m) :
    s.memLoad c a w = (BitVec.ofNat 32 (leNat ((List.range w).map fun i => s.byteAt m (a + i))), s) := by
  unfold State.memLoad
  rcases memoryAt_cases h with ⟨region, rfl⟩ | ⟨region, rfl⟩ | ⟨region, rfl⟩
  all_goals
    rw [region]
    rfl

theorem memLoad_byte_eq {c : Fin 4} {a : Nat} {m : Space} (s : State) (h : memoryAt c a = some m) :
    (s.memLoad c a 1).1 = BitVec.ofNat 32 (s.byteAt m a).toNat := by
  rw [memLoad_eq s 1 h]
  exact congrArg (BitVec.ofNat 32) (leNat_byte _)
theorem memLoad_half_eq {c : Fin 4} {a : Nat} {m : Space} (s : State) (h : memoryAt c a = some m) :
    (s.memLoad c a 2).1 = BitVec.ofNat 32 (s.halfAt m a).toNat := by
  rw [memLoad_eq s 2 h]
  exact congrArg (BitVec.ofNat 32) (leNat_half _ _)
theorem memLoad_word_eq {c : Fin 4} {a : Nat} {m : Space} (s : State) (h : memoryAt c a = some m) : (s.memLoad c a 4).1 = s.wordAt m a := by
  rw [memLoad_eq s 4 h]
  exact (congrArg (BitVec.ofNat 32) (leNat_word _ _ _ _)).trans (BitVec.ofNat_toNat 32 _)

theorem Accounts.byteAt {s t : State} (h : Accounts s t) (m : Space) (a : Nat) : t.byteAt m a = s.byteAt m a := (sameMemory_of_still h.still).1 m a
theorem Accounts.halfAt {s t : State} (h : Accounts s t) (m : Space) (a : Nat) : t.halfAt m a = s.halfAt m a := by
  unfold State.halfAt
  rw [h.byteAt, h.byteAt]
theorem Accounts.wordAt {s t : State} (h : Accounts s t) (m : Space) (a : Nat) : t.wordAt m a = s.wordAt m a := by
  unfold State.wordAt
  rw [h.halfAt, h.halfAt]

theorem not_window_of_memoryAt {c : Fin 4} {a : Nat} {m : Space} (h : memoryAt c a = some m) : regionOf a ≠ some .window := by
  intro window
  unfold memoryAt at h
  rw [window] at h
  cases h
theorem sram_of_memoryAt {c : Fin 4} {a : Nat} {m : Space} (h : memoryAt c a = some m) (inside : inSram a = true) : m = .sram := by
  unfold memoryAt at h
  rw [eq_of_beq inside] at h
  exact (Option.some.inj h).symm
theorem Accounts.addrOf {s t : State} (h : Accounts s t) (c : Fin 4) (a : Fin 16) (imm : BitVec 18) : t.addrOf c a imm = s.addrOf c a imm := by
  unfold State.addrOf
  rw [h.reg]

/-- What the manual does not list reads as a free value; nothing else is drawn or changed by a load (log 72). -/
theorem accounts_cowlLoad (s : State) (u : Fin 4) (r : Nat) : Accounts s (s.cowlLoad u r).2 := by
  unfold State.cowlLoad
  split
  case h_6 => exact .free s _
  all_goals exact .refl s
theorem accounts_controlWord (s : State) (c : Fin 4) (off : Nat) : Accounts s (s.controlWord c off).2 := by
  unfold State.controlWord
  extract_lets k t core
  split
  · split
    case h_4 => exact .free s _
    all_goals exact .refl s
  iterate 4
    split
    · exact .refl s
  split
  · exact accounts_cowlLoad s _ _
  split
  · exact .refl s
  split
  · exact .refl s
  · exact .free s _
theorem accounts_memLoad (s : State) (c : Fin 4) (a w : Nat) : Accounts s (s.memLoad c a w).2 := by
  unfold State.memLoad
  split
  case h_8 => exact accounts_controlWord s c _
  all_goals exact .refl s

/-! ### Loads (R439, R443, R447) -/

section
variable {s : State} {c : Fin 4} (ready : CoreReady s c)
include ready

/-- A load that passes its checks, outside the dictionary window: w[d] takes what the memory gives, extended. -/
theorem answers_loaded {i : Instr} {op w : Nat} {d a : Fin 16} {imm : BitVec 18} {ecc : Fin 3} {ext : Word → Word}
    (runs : exec i s = .next (s.load c op w d a imm ecc ext)) (passes : s.loadTrap c (s.addrOf c a imm) w = none)
    (plain : regionOf (s.addrOf c a imm) ≠ some .window) (sound : inSram (s.addrOf c a imm) = true → ecc ≠ 2) :
    ∃ n, Accounts s n ∧ Answers i s (Writes s c d (ext (n.memLoad c (s.addrOf c a imm) w).1)) := by
  obtain ⟨m, acc, becomes⟩ := insn_ran ready runs
  have cost := acc.trans (Accounts.loadCost m (s.addrOf c a imm))
  obtain ⟨t, ends, left⟩ := becomes _ ((s.cores[c]).pc + 4) id keepsArch_id (by
    dsimp only
    rw [acc.addrOf, acc.loadTrap, passes]
    dsimp only
    rw [if_neg fun h => sound h.1 h.2, if_neg plain]
    exact completes_setReg (cost.trans (accounts_memLoad _ c _ w)) d _ _ _ _ _)
  exact ⟨_, cost, t, ends, left.arch (arch_wrote _ _ _ _)⟩

/-- A load from TCM or shared SRAM gives what stands there. -/
theorem answers_load {i : Instr} {op w : Nat} {d a : Fin 16} {imm : BitVec 18} {ecc : Fin 3} {ext : Word → Word} {m : Space} {v : Word}
    (runs : exec i s = .next (s.load c op w d a imm ecc ext)) (stands : memoryAt c (s.addrOf c a imm) = some m)
    (sound : m = .sram → ecc ≠ 2) (passes : s.loadTrap c (s.addrOf c a imm) w = none)
    (value : ∀ n, Accounts s n → ext (n.memLoad c (s.addrOf c a imm) w).1 = v) : Answers i s (Writes s c d v) := by
  obtain ⟨n, acc, writes⟩ := answers_loaded ready runs passes (not_window_of_memoryAt stands) fun inside => sound (sram_of_memoryAt stands inside)
  rw [value n acc] at writes
  exact writes

/-- A load from another region gives some value. -/
theorem answers_load_other {i : Instr} {op w : Nat} {d a : Fin 16} {imm : BitVec 18} {ecc : Fin 3} {ext : Word → Word}
    (runs : exec i s = .next (s.load c op w d a imm ecc ext)) (elsewhere : memoryAt c (s.addrOf c a imm) = none)
    (plain : regionOf (s.addrOf c a imm) ≠ some .window)
    (passes : s.loadTrap c (s.addrOf c a imm) w = none) : Answers i s fun t => ∃ v, Writes s c d v t := by
  have notSram : inSram (s.addrOf c a imm) = true → ecc ≠ 2 := fun inside => by
    unfold memoryAt at elsewhere
    rw [eq_of_beq inside] at elsewhere
    cases elsewhere
  obtain ⟨n, acc, t, ends, left⟩ := answers_loaded ready runs passes plain notSram
  exact ⟨t, ends, _, left⟩

end

section
variable {s n : State} {c : Fin 4} {a : Nat} {m : Space} (acc : Accounts s n) (stands : memoryAt c a = some m)
include acc stands

theorem loaded_word : (n.memLoad c a 4).1 = s.wordAt m a := (memLoad_word_eq n stands).trans (acc.wordAt m a)
theorem loaded_half_signed : sextOf 16 (n.memLoad c a 2).1 = (s.halfAt m a).signExtend 32 := by
  rw [memLoad_half_eq n stands, sextOf_eq _ (by decide) (by decide), acc.halfAt]
theorem loaded_half : (n.memLoad c a 2).1 = (s.halfAt m a).zeroExtend 32 := by
  rw [memLoad_half_eq n stands, acc.halfAt]
  exact BitVec.ofNat_toNat 32 _
theorem loaded_byte_signed : sextOf 8 (n.memLoad c a 1).1 = (s.byteAt m a).signExtend 32 := by
  rw [memLoad_byte_eq n stands, sextOf_eq _ (by decide) (by decide), acc.byteAt]
theorem loaded_byte : (n.memLoad c a 1).1 = (s.byteAt m a).zeroExtend 32 := by
  rw [memLoad_byte_eq n stands, acc.byteAt]
  exact BitVec.ofNat_toNat 32 _

end

/-- Settles O11: a load that passes its checks writes what the memory gives (`answers_loaded`), which is the bytes that stand there. -/
theorem loadsFromMemory : Obligations.LoadsFromMemory := by
  unfold Obligations.LoadsFromMemory
  intro s c d a imm ecc m ready addr stands sound
  refine ⟨fun passes => ?_, fun passes => ⟨?_, ?_⟩, fun passes => ⟨?_, ?_⟩⟩
  · exact answers_load ready rfl stands sound passes fun n acc => loaded_word acc stands
  · exact answers_load ready rfl stands sound passes fun n acc => loaded_half_signed acc stands
  · exact answers_load ready rfl stands sound passes fun n acc => loaded_half acc stands
  · exact answers_load ready rfl stands sound passes fun n acc => loaded_byte_signed acc stands
  · exact answers_load ready rfl stands sound passes fun n acc => loaded_byte acc stands

/-- Settles O12: outside the dictionary window a load draws at most a free value (`accounts_memLoad`). -/
theorem loadsFromOtherRegions : Obligations.LoadsFromOtherRegions := by
  unfold Obligations.LoadsFromOtherRegions
  intro s c d a imm ecc ready addr elsewhere plain
  exact ⟨fun passes => answers_load_other ready rfl elsewhere plain passes,
    fun passes => ⟨answers_load_other ready rfl elsewhere plain passes, answers_load_other ready rfl elsewhere plain passes⟩,
    fun passes => ⟨answers_load_other ready rfl elsewhere plain passes, answers_load_other ready rfl elsewhere plain passes⟩⟩

end Sys2Proof.Machine
end

section
/-! SUPPORT. Stores and XCHG (R439, R443, R447): what a store leaves of the addressed memories, behind `Obligations.StoresToMemory`. -/

namespace Sys2Proof.Machine

open Sys2Proof

/-! ### Bytes of a memory -/

/-- Bytes stored one after the other stand there; the others are as before. -/
theorem readKey_storeBytes (l : List Host.Cell) (a x : Nat) (bs : List Byte) : readKey (fun _ => (0 : Byte)) (storeBytes l a bs) x
    = if a ≤ x ∧ x < a + bs.length then bs.getD (x - a) 0 else readKey (fun _ => (0 : Byte)) l x := by
  induction bs generalizing l a with
  | nil =>
    rw [if_neg (by simp)]
    rfl
  | cons b bs ih =>
    unfold storeBytes
    rw [ih, List.length_cons]
    by_cases here : x = a
    · subst here
      rw [if_neg (by omega), readKey_writeKey_same, if_pos (by omega), Nat.sub_self]
      rfl
    · rw [readKey_writeKey_other _ _ _ _ _ here]
      by_cases behind : a + 1 ≤ x ∧ x < a + 1 + bs.length
      · rw [if_pos behind, if_pos (by omega), show x - a = x - (a + 1) + 1 by omega]
        rfl
      · rw [if_neg behind, if_neg (by omega)]

theorem leBytes_length (n x : Nat) : (leBytes n x).length = n := by
  induction n generalizing x with
  | zero => rfl
  | succ n ih => exact congrArg Nat.succ (ih _)

theorem leBytes_word (v : Word) : leBytes 4 v.toNat = [v.extractLsb' 0 8, v.extractLsb' 8 8, v.extractLsb' 16 8, v.extractLsb' 24 8] := by
  have byte (n : Nat) : BitVec.ofNat 8 (v.toNat / 2 ^ n) = v.extractLsb' n 8 := by
    rw [BitVec.extractLsb', Nat.shiftRight_eq_div_pow]
  simp only [leBytes, ← byte, Nat.div_div_eq_div_mul]
  norm_num

theorem byteAt_setItcm (s : State) (c : Fin 4) (g : List Host.Cell → List Host.Cell) (n : Space) (x : Nat) :
    (s.setCore c fun k => { k with itcm := g k.itcm }).byteAt n x
      = if n = .itcm c then readKey (fun _ => (0 : Byte)) (g (s.cores[c]).itcm) x else s.byteAt n x := by
  cases n with
  | itcm e =>
    simp only [State.byteAt, State.cores_setCore, Space.itcm.injEq, eq_comm (a := e)]
    split
    · next same => subst same; rfl
    · rfl
  | dtcm e =>
    simp only [State.byteAt, State.cores_setCore, reduceCtorEq, if_false]
    split <;> rfl
  | retention e =>
    simp only [State.byteAt, State.cores_setCore, reduceCtorEq, if_false]
    split <;> rfl
  | sram => rfl
theorem byteAt_setDtcm (s : State) (c : Fin 4) (g : List Host.Cell → List Host.Cell) (n : Space) (x : Nat) :
    (s.setCore c fun k => { k with dtcm := g k.dtcm }).byteAt n x
      = if n = .dtcm c then readKey (fun _ => (0 : Byte)) (g (s.cores[c]).dtcm) x else s.byteAt n x := by
  cases n with
  | dtcm e =>
    simp only [State.byteAt, State.cores_setCore, Space.dtcm.injEq, eq_comm (a := e)]
    split
    · next same => subst same; rfl
    · rfl
  | itcm e =>
    simp only [State.byteAt, State.cores_setCore, reduceCtorEq, if_false]
    split <;> rfl
  | retention e =>
    simp only [State.byteAt, State.cores_setCore, reduceCtorEq, if_false]
    split <;> rfl
  | sram => rfl

/-! ### What a store leaves -/

section
variable {c : Fin 4} {a : Nat} {m : Space} (stands : memoryAt c a = some m)
include stands

/-- A store changes the bytes it covers, in the memory that its address falls in. -/
theorem byteAt_store (s : State) (w : Nat) (v : Word) (n : Space) (x : Nat) :
    (s.memStore c a w v).byteAt n x = if n = m ∧ a ≤ x ∧ x < a + w then (leBytes w v.toNat).getD (x - a) 0 else s.byteAt n x := by
  have inside (l : List Host.Cell) := readKey_storeBytes l a x (leBytes w v.toNat)
  rw [leBytes_length] at inside
  unfold State.memStore
  rcases memoryAt_cases stands with ⟨region, rfl⟩ | ⟨region, rfl⟩ | ⟨region, rfl⟩
  · rw [region]
    dsimp only
    rw [byteAt_setItcm s c fun l => storeBytes l a (leBytes w v.toNat), inside]
    by_cases own : n = .itcm c
    · subst own
      simp only [true_and, if_true]
      rfl
    · simp only [own, false_and, if_false]
  · rw [region]
    dsimp only
    rw [byteAt_setDtcm s c fun l => storeBytes l a (leBytes w v.toNat), inside]
    by_cases own : n = .dtcm c
    · subst own
      simp only [true_and, if_true]
      rfl
    · simp only [own, false_and, if_false]
  · rw [region]
    by_cases own : n = .sram
    · subst own
      simp only [true_and]
      exact inside s.sram
    · simp only [own, false_and, if_false]
      cases n with
      | sram => exact absurd rfl own
      | _ => rfl

/-- The store itself, before what the instruction accounts. -/
theorem stored_memStore (s : State) (w : Nat) (v : Word) : Stored s c s.cores[c] m a (leBytes w v.toNat) (s.memStore c a w v) := by
  have bare (f : Core → Core) (h : ∀ k, (f k).bare = k.bare) (e : Fin 4) : ((s.setCore c f).cores[e]).bare = (s.cores[e]).bare := by
    rw [State.cores_setCore]
    split
    · exact h _
    · rfl
  have rest : (∀ e : Fin 4, ((s.memStore c a w v).cores[e]).bare = (s.cores[e]).bare) ∧ (s.memStore c a w v).fram = s.fram
      ∧ (s.memStore c a w v).bare = s.bare ∧ (s.memStore c a w v).obj = s.obj ∧ (s.memStore c a w v).power = s.power := by
    unfold State.memStore
    rcases memoryAt_cases stands with ⟨region, -⟩ | ⟨region, -⟩ | ⟨region, -⟩
    · rw [region]
      exact ⟨bare _ fun _ => rfl, rfl, rfl, rfl, rfl⟩
    · rw [region]
      exact ⟨bare _ fun _ => rfl, rfl, rfl, rfl, rfl⟩
    · rw [region]
      exact ⟨fun _ => rfl, rfl, rfl, rfl, rfl⟩
  obtain ⟨cores, fram, beside, obj, power⟩ := rest
  constructor
  case bytes =>
    rintro ⟨i, hi⟩
    have short : i < w := by rwa [leBytes_length] at hi
    rw [byteAt_store stands, if_pos ⟨rfl, by simp, by simpa using short⟩]
    simp [hi]
  case kept =>
    intro n b outside
    rw [byteAt_store stands, if_neg]
    rintro ⟨same, low, high⟩
    rw [leBytes_length] at outside
    rcases outside same with h | h <;> omega
  case fram => exact fram
  case core => exact cores c
  case others => exact fun e _ => cores e
  case beside => exact beside
  case values =>
    intro k _
    unfold State.get
    rw [obj]
  case power => exact .inl power

end

/-! ### Accounting around it -/

theorem bare_of_arch {k q : Core} (h : k.arch = q.arch) : k.bare = q.bare := by
  unfold Core.bare
  rw [h]
theorem bare_of_besideCores {s t : State} (h : t.besideCores = s.besideCores) : t.bare = s.bare := by
  unfold State.bare
  rw [h]

section
variable {s n u t : State} {c : Fin 4} {k : Core} {m : Space} {a : Nat} {bs : List Byte}

theorem Stored.after (acc : Accounts s n) (h : Stored n c k m a bs t) : Stored s c k m a bs t where
  bytes  := h.bytes
  kept   := fun x b outside => (h.kept x b outside).trans (acc.byteAt x b)
  fram   := h.fram.trans (sameMemory_of_still acc.still).2
  core   := h.core
  others := fun e other => (h.others e other).trans (bare_of_arch (acc.cores e))
  beside := h.beside.trans (bare_of_besideCores acc.beside)
  values := fun x hx => (h.values x hx).trans (acc.values x hx)
  power  := acc.power.trans h.power acc.clock

theorem CoreBecomes.still {q : Core} (h : CoreBecomes u c q t) (rams : q.rams = (u.cores[c]).rams) : t.still = u.still := by
  have all (e : Fin 4) : (t.cores[e]).rams = (u.cores[e]).rams := by
    by_cases own : e = c
    · subst own
      exact (rams_of_arch h.core).trans rams
    · exact rams_of_arch (h.others e own)
  have cores : t.cores.map Core.rams = u.cores.map Core.rams := by
    apply Vector.ext
    intro i hi
    rw [Vector.getElem_map, Vector.getElem_map]
    exact all ⟨i, hi⟩
  have sram : t.sram = u.sram := (congrArg State.sram h.beside : t.besideCores.sram = u.besideCores.sram)
  have fram : t.fram = u.fram := (congrArg State.fram h.beside : t.besideCores.fram = u.besideCores.fram)
  have queue : t.pending = u.pending := (congrArg State.pending h.beside : t.besideCores.pending = u.besideCores.pending)
  unfold State.still
  rw [sram, fram, queue, cores]

/-- What the core does behind its store, its memories left alone. -/
theorem Stored.then {q : Core} (h : Stored s c k m a bs u) (g : CoreBecomes u c q t) (rams : q.rams = (u.cores[c]).rams) : Stored s c q m a bs t := by
  have memory := sameMemory_of_still (g.still rams)
  have clock : u.clock = s.clock := (congrArg State.clock h.beside : u.bare.clock = s.bare.clock)
  exact {
    bytes  := fun i => (memory.1 m _).trans (h.bytes i)
    kept   := fun x b outside => (memory.1 x b).trans (h.kept x b outside)
    fram   := memory.2.trans h.fram
    core   := bare_of_arch g.core
    others := fun e other => (bare_of_arch (g.others e other)).trans (h.others e other)
    beside := (bare_of_besideCores g.beside).trans h.beside
    values := fun x hx => (g.values x hx).trans (h.values x hx)
    power  := h.power.trans g.power clock }

theorem Stored.becomes {q : Core} (h : Stored s c k m a bs t) (same : k.bare = q.bare) : Stored s c q m a bs t := { h with core := h.core.trans same }

end

/-! ### Stores and XCHG -/

theorem bare_setReg {k q : Core} (h : k.bare = q.bare) (d : Fin 16) (v : Word) : (k.setReg d v).bare = (q.setReg d v).bare := by
  have commutes (k : Core) : (k.setReg d v).bare = k.bare.setReg d v := by
    unfold Core.setReg
    split <;> rfl
  rw [commutes, commutes, h]
theorem bare_pc {k q : Core} (h : k.bare = q.bare) (pc : Word) : ({ k with pc := pc } : Core).bare = ({ q with pc := pc } : Core).bare :=
  (congrArg (fun k : Core => { k with pc := pc }) h :)

theorem storeTrap_passes {s : State} {c : Fin 4} {a w : Nat} (h : s.storeTrap c a w = none) : a % w = 0 ∧ (s.cores[c]).mayAccess a 1 = true := by
  unfold State.storeTrap at h
  dsimp only at h
  split at h
  · cases h
  · next aligned =>
    split at h
    · cases h
    · next may => exact ⟨not_not.1 aligned, Bool.of_not_eq_false may⟩
theorem loadTrap_passes {s : State} {c : Fin 4} {a w : Nat} (h : s.loadTrap c a w = none) : (s.cores[c]).mayAccess a 0 = true := by
  unfold State.loadTrap at h
  dsimp only at h
  split at h
  · cases h
  · split at h
    · cases h
    · next may => exact Bool.of_not_eq_false may

section
variable {s : State} {c : Fin 4} (ready : CoreReady s c) {d a : Fin 16} {imm : BitVec 18} {m : Space} (stands : memoryAt c (s.addrOf c a imm) = some m)
include ready stands

theorem answers_store {i : Instr} {op w : Nat} (runs : exec i s = .next (s.store c op w d a imm))
    (passes : s.storeTrap c (s.addrOf c a imm) w = none) :
    Answers i s (Stored s c { s.cores[c] with pc := (s.cores[c]).pc + 4 } m (s.addrOf c a imm) (leBytes w ((s.cores[c]).reg d).toNat)) := by
  obtain ⟨n, acc, completes⟩ := insn_done ready runs
  have notControl : regionOf (s.addrOf c a imm) ≠ some .control := by
    rcases memoryAt_cases stands with ⟨region, -⟩ | ⟨region, -⟩ | ⟨region, -⟩ <;> simp only [region, ne_eq, Option.some.injEq, reduceCtorEq, not_false_eq_true]
  have cost := acc.trans (Accounts.storeCost n c (s.addrOf c a imm))
  have stored := stored_memStore stands (n.storeCost c (s.addrOf c a imm)).2 w ((s.cores[c]).reg d)
  obtain ⟨t, retired, ends⟩ := completes
    { s := (n.storeCost c (s.addrOf c a imm)).2.memStore c (s.addrOf c a imm) w ((s.cores[c]).reg d), next := (s.cores[c]).pc + 4,
      cost := { (n.storeCost c (s.addrOf c a imm)).1 with events := (n.storeCost c (s.addrOf c a imm)).1.events ++ [(0x0B, 1)] } }
    (by
      dsimp only
      rw [acc.addrOf, acc.storeTrap, passes, acc.reg]
      dsimp only
      rw [if_neg (not_window_of_memoryAt stands), if_neg fun h => notControl h.1])
    rfl
  refine ⟨t, ends, ((stored.then retired rfl).after cost).becomes (bare_pc ?_ _)⟩
  exact stored.core.trans (bare_of_arch (cost.cores c))

/-- XCHG stores w[d], and w[d] takes the word that stood there. -/
theorem answers_xchg {ecc : Fin 3} (notItcm : m ≠ .itcm c) (sound : m = .sram → ecc ≠ 2) (loads : s.loadTrap c (s.addrOf c a imm) 4 = none)
    (passes : s.storeTrap c (s.addrOf c a imm) 4 = none) :
    Answers (.xchg c d a imm ecc) s (Stored s c ((s.cores[c]).wrote d (s.wordAt m (s.addrOf c a imm)) ((s.cores[c]).pc + 4)) m
      (s.addrOf c a imm) (leBytes 4 ((s.cores[c]).reg d).toNat)) := by
  obtain ⟨n, acc, completes⟩ := insn_done ready (i := .xchg c d a imm ecc) rfl
  have region : ¬(regionOf (s.addrOf c a imm) ≠ some .dtcm ∧ regionOf (s.addrOf c a imm) ≠ some .sram) := by
    rcases memoryAt_cases stands with ⟨-, itcm⟩ | ⟨region, -⟩ | ⟨region, -⟩
    · exact absurd itcm notItcm
    · exact fun h => h.1 region
    · exact fun h => h.2 region
  have stored := stored_memStore stands n 4 ((s.cores[c]).reg d)
  have swapped := stored.then ((Accounts.refl _).becomes_setCore c (keepsArch_setReg d (s.wordAt m (s.addrOf c a imm)))) (rams_setReg _ _ _)
  obtain ⟨t, retired, ends⟩ := completes
    { s := (n.memStore c (s.addrOf c a imm) 4 ((s.cores[c]).reg d)).setCore c fun k => k.setReg d (s.wordAt m (s.addrOf c a imm)),
      next := (s.cores[c]).pc + 4,
      cost := ⟨6, [(0x14, 1)] ++ (if inSram (s.addrOf c a imm) then [(0x13, 1)] else [])
        ++ (if inSram (s.addrOf c a imm) ∧ ecc = 1 then [(0x09, 1)] else []), 4, 6⟩ }
    (by
      have nothing : (n.memLoad c (s.addrOf c a imm) 4).2 = n := congrArg Prod.snd (memLoad_eq n 4 stands)
      dsimp only
      rw [acc.addrOf, if_neg (not_not.2 (storeTrap_passes passes).1), if_neg region, acc.mayAccess, if_neg (by rw [loadTrap_passes loads]; decide),
        acc.mayAccess, if_neg (by rw [(storeTrap_passes passes).2]; decide), if_neg fun h => sound (sram_of_memoryAt stands h.1) h.2, nothing,
        loaded_word acc stands, acc.reg])
    rfl
  refine ⟨t, ends, ((swapped.then retired rfl).after acc).becomes ?_⟩
  refine Eq.trans (bare_pc ?_ _) (bare_of_arch (arch_wrote s.cores[c] d _ _))
  exact swapped.core.trans (bare_setReg (stored.core.trans (bare_of_arch (acc.cores c))) d _)

end

/-- Settles O13: the store by `stored_memStore`, with accounting before and after it; its bytes are the low ones of w[d] (`leBytes_word`). -/
theorem storesToMemory : Obligations.StoresToMemory := by
  unfold Obligations.StoresToMemory
  intro s c d a imm ecc m ready addr v next bytes stands
  have four : leBytes 4 v.toNat = bytes := leBytes_word v
  have two : leBytes 2 v.toNat = bytes.take 2 := by rw [← four]; rfl
  have one : leBytes 1 v.toNat = bytes.take 1 := by rw [← four]; rfl
  refine ⟨fun passes => ?_, fun passes => ?_, fun passes => ?_, fun notItcm sound loads passes => ?_⟩
  · rw [← four]; exact answers_store ready stands rfl passes
  · rw [← two]; exact answers_store ready stands rfl passes
  · rw [← one]; exact answers_store ready stands rfl passes
  · rw [← four]; exact answers_xchg ready stands notItcm sound loads passes

end Sys2Proof.Machine
end

section
/-! SUPPORT. Supervisor calls of the monitor (R454, R455, R586): what EXIT, EVENT_RETURN, LOG, SET_LEVELS and an unlisted number leave, behind
`Obligations.SupervisorCalls`. -/

namespace Sys2Proof.Machine

open Sys2Proof

/-! ### What the monitor finds (R454) -/

theorem localCtrl_of_arch {k q : Core} (h : k.arch = q.arch) : k.localCtrl = q.localCtrl :=
  (congrArg Core.localCtrl h : k.arch.localCtrl = q.arch.localCtrl)

/-- Sampling a stack is accounting for its core. -/
theorem arch_sampleStack (s : State) (c : Fin 4) : ((s.sampleStack c).cores[c]).arch = (s.cores[c]).arch := by
  unfold State.sampleStack
  dsimp only
  split
  · rfl
  · split
    · rfl
    · exact (Accounts.setCore s c (fun k => { k with stackSeen := true }) rfl).cores c

/-- Sampling a stack moves the core's low-water mark alone. -/
theorem get_sampleStack (s : State) (c : Fin 4) (k : Nat) (other : k ≠ Key.coreStackLowWater c.val) : (s.sampleStack c).get k = s.get k := by
  unfold State.sampleStack
  dsimp only
  split
  · rfl
  · split
    · rfl
    · exact State.get_put_other _ _ _ _ other

theorem route_sampleStack (s : State) (c : Fin 4) (src : Nat) (small : src < 256) : (s.sampleStack c).route src = s.route src := by
  have other : Key.routerRoutePair (src / 2) ≠ Key.coreStackLowWater c.val := by
    unfold Key.routerRoutePair Key.coreStackLowWater
    omega
  unfold State.route
  rw [nat_of (get_sampleStack s c _ other)]

/-- Routing and the enables of the local sources give the levels that a core may grant. -/
theorem routedLevels_of {s t : State} {c : Fin 4} (routes : ∀ src < 256, t.route src = s.route src)
    (locals : (t.cores[c]).localCtrl = (s.cores[c]).localCtrl) : t.routedLevels c = s.routedLevels c := by
  unfold State.routedLevels State.sourceLevel
  refine List.foldl_ext _ _ _ fun w src listed => ?_
  rw [routes src (List.mem_range.1 listed), locals]

/-- The way in leaves routing and enables. -/
theorem routedLevels_svcEnter (s : State) (c : Fin 4) (num : Nat) : (s.svcEnter c num).routedLevels c = s.routedLevels c := by
  have counts : Accounts (s.svcTaken c num) (s.svcEnter c num) :=
    (Accounts.passCycles (s.svcTaken c num) c _).trans (Accounts.countEvent _ c 0x02 trapCycles)
  have taken : ((s.svcTaken c num).cores[c]).localCtrl = ((s.sampleStack c).cores[c]).localCtrl := by
    unfold State.svcTaken
    rw [State.cores_setCore_same]
    rfl
  have routes (src : Nat) (small : src < 256) : (s.svcEnter c num).route src = s.route src :=
    (counts.route src small).trans (route_sampleStack s c src small)
  exact routedLevels_of routes ((localCtrl_of_arch (counts.cores c)).trans (taken.trans (localCtrl_of_arch (arch_sampleStack s c))))

section
variable {s : State} {c : Fin 4} (ready : CoreReady s c) (user : (s.cores[c]).privileged = false)
include ready user

/-- A call that no operand makes trap: the monitor's work on the module as entered, and accounting around it. -/
theorem answers_svc {i : Instr} {num : Nat} {serve : State → Core → State} {P : State → Prop} (runs : exec i s = .next (s.svc c num noTrap serve))
    (served : ∀ m n k t, Accounts s m → n = m.svcEnter c num → Entered s c n → k.arch = (s.cores[c]).arch → Accounts (serve n k) t → P t) :
    Answers i s P := by
  refine ⟨_, runs, ?_⟩
  unfold State.svc
  obtain ⟨m, fetch, b1, b2, b3, ha, done⟩ := insn_ready s c (wordK 0x34 0 0 (BitVec.ofNat 18 num)) [1, 2, 3] 0 _ ready
  rw [done]
  dsimp only [noTrap]
  rw [if_neg (by rw [ha.privileged c, user]; decide)]
  exact served m _ _ _ ha rfl ((entered_svcEnter m c num).after ha) (ha.cores c) (accounts_svcEffect c _ fetch b1 b2 b3)

/-! ### EXIT and EVENT_RETURN -/

theorem answers_svcExit : Answers (.svcExit c) s fun t =>
    t.nat (Key.coreProgramState c.val) = 3 ∧ (t.cores[c]).held = true ∧ (t.cores[c]).running = none :=
  answers_svc ready user rfl fun _ n _ t _ _ _ _ left => by
    have core := left.cores c
    rw [holdProgram_core] at core
    refine ⟨?_, congrArg Core.held core, congrArg Core.running core⟩
    rw [nat_of (left.values _ (programState_not_event c))]
    exact State.nat_putN_same _ _ _

theorem answers_svcEventReturn (f : HandlerFrame) (handler : (s.cores[c]).frame = some f) : Answers (.svcEventReturn c) s fun t =>
    (t.cores[c]).regs = f.regs ∧ (t.cores[c]).pc = f.pc ∧ (t.cores[c]).frame = none ∧ (t.cores[c]).ie = f.ie ∧ (t.cores[c]).privileged = false :=
  answers_svc ready user rfl fun _ n k t _ _ _ own left => by
    have frame : k.frame = some f := (congrArg Core.frame own : k.arch.frame = (s.cores[c]).arch.frame).trans handler
    have core := left.cores c
    rw [frame] at core
    dsimp only at core
    rw [State.cores_setCore_same] at core
    have ie : (statusOf false false f.ie f.ie).getLsbD 0 = f.ie := by cases f.ie <;> rfl
    have mode : (statusOf false false f.ie f.ie).getLsbD 2 = false := by cases f.ie <;> rfl
    refine ⟨congrArg Core.regs core, congrArg Core.pc core, congrArg Core.frame core, ?_, ?_⟩
    · exact (congrArg (fun k : Core => k.status.getLsbD 0) core).trans ie
    · exact (congrArg (fun k : Core => k.status.getLsbD 2) core).trans mode

/-! ### LOG and SET_LEVELS -/

omit ready user in
/-- An event queued on an open log is its youngest. -/
theorem lastLogged_queueAsh (opened : s.logOpen) (e : AshEvent) : (s.queueAsh e).lastLogged e.code e.source e.w4 e.w5 e.w6 := by
  obtain ⟨works, notFull, room⟩ := opened
  unfold State.queueAsh State.lastLogged
  dsimp only
  rw [if_neg (by simp [works]), if_neg (by simp [notFull])]
  cases last : s.ash.queue.getLast? with
  | none => exact ⟨_, rfl, rfl, rfl, rfl, rfl, rfl⟩
  | some q =>
    dsimp only
    split
    · next same =>
      unfold AshEvent.same at same
      simp only [Bool.and_eq_true, beq_iff_eq] at same
      obtain ⟨⟨⟨⟨⟨code, source⟩, w4⟩, w5⟩, w6⟩, -⟩ := same
      exact ⟨_, mapLast_concat _ _ _ last, code, source, w4, w5, w6⟩
    · exact ⟨_, List.getLast?_concat, rfl, rfl, rfl, rfl, rfl⟩

theorem answers_svcLog_reserved (reserved : 0xF0 ≤ ((s.cores[c]).reg 1).toNat % 256) : Answers (.svcLog c) s fun t =>
    Returned s c 2 t ∧ t.ash = s.ash :=
  answers_svc ready user rfl fun _ n k t _ _ entered own left => by
    have serves : n.svcLog c k = n.svcResult c 2 := by
      unfold State.svcLog
      exact if_pos (by rw [reg_of_arch own]; exact reserved)
    rw [serves] at left
    exact ⟨returned_svcResult 2 entered (.refl c n) left, left.reads.ash.trans entered.reads.ash⟩

theorem answers_svcLog (free : ((s.cores[c]).reg 1).toNat % 256 < 0xF0) (opened : s.logOpen) : Answers (.svcLog c) s fun t =>
    Returned s c 0 t ∧ t.lastLogged (0x0E10 + ((s.cores[c]).reg 1).toNat % 256) c.val ((s.cores[c]).reg 2).toNat ((s.cores[c]).reg 3).toNat 0 :=
  answers_svc ready user rfl fun _ n k t _ _ entered own left => by
    have stays : n.logOpen := logOpen_of opened entered.reads.ash (entered.reads.values _ unmoved_at)
    have room : n.ash.queue.length < ashQueueMax := stays.2.2
    have notFull (merges : Bool) : b2n (decide (ashQueueMax ≤ n.ash.queue.length) && !merges) = 0 := by
      rw [decide_eq_false (by omega), Bool.false_and]
      rfl
    unfold State.svcLog at left
    simp only [reg_of_arch own] at left
    rw [if_neg (by omega), notFull] at left
    have kept (e : AshEvent) : KeepsProgram c n (n.queueAsh e) := ((Moves.refl n []).queueAsh e).keepsProgram c
    exact ⟨returned_svcResult 0 entered (kept _) left, lastLogged_of left.reads.ash (lastLogged_queueAsh stays _)⟩

theorem answers_svcSetLevels : Answers (.svcSetLevels c) s fun t =>
    (∃ v, Returned s c v t) ∧ (t.cores[c]).prioMask = (s.cores[c]).reg 1 &&& s.routedLevels c :=
  answers_svc ready user rfl fun m n k t acc enters entered own left => by
    have levels : n.routedLevels c = s.routedLevels c := by
      rw [enters, routedLevels_svcEnter]
      exact routedLevels_of acc.route (localCtrl_of_arch (acc.cores c))
    have drawn : n.freeWord.2.routedLevels c = s.routedLevels c := levels
    dsimp only at left
    refine ⟨⟨_, returned_svcResult _ entered (keepsProgram_setCore c c n.freeWord.2
      (fun q => { q with prioMask := k.reg 1 &&& n.freeWord.2.routedLevels c }) fun _ => rfl) left⟩, ?_⟩
    have core := congrArg Core.prioMask (left.cores c)
    unfold State.svcResult State.svcLeave at core
    rw [State.cores_setCore_same, State.cores_setCore_same, State.cores_setCore_same, reg_of_arch own, drawn] at core
    exact core

theorem answers_svcUnlisted (n : BitVec 12) (unlisted : 5 < n.toNat) : Answers (.svcUnlisted c n) s (Returned s c 0xFFFFFFFF) :=
  answers_svc ready user (congrArg Host.Outcome.next (if_neg (by omega))) fun _ m _ _ _ _ entered _ left =>
    returned_svcResult _ entered (.refl c m) left

end

/-- Settles O21: each call by what the monitor's work leaves of the module as entered. -/
theorem supervisorCalls : Obligations.SupervisorCalls := by
  unfold Obligations.SupervisorCalls
  intro s c ready user k
  refine ⟨answers_svcExit ready user, answers_svcEventReturn ready user, fun reserved => ?_, fun free opened => ?_, ?_, fun n unlisted => ?_⟩
  · exact (answers_svcLog_reserved ready user reserved).mono fun t ⟨back, ash⟩ => ⟨back.regs, back.pc, ash⟩
  · exact (answers_svcLog ready user free opened).mono fun t ⟨back, logged⟩ => ⟨back.regs, back.pc, logged⟩
  · exact (answers_svcSetLevels ready user).mono fun t ⟨⟨_, back⟩, mask⟩ => ⟨mask, back.pc, back.reg_other⟩
  · exact (answers_svcUnlisted ready user n unlisted).mono fun t back => ⟨back.regs, back.pc, back.user.trans user⟩

end Sys2Proof.Machine
end

section
/-! SUPPORT. A trap of a user-mode program with trap action STOP (R453, R456): it is recorded and the program held, whatever instruction raised it;
behind `Obligations.UserTraps`. -/

namespace Sys2Proof.Machine

open Sys2Proof

/-! ### The record of a trap (R456, R464) -/

/-- The values that the record of a trap writes. -/
abbrev trapKeys (c : Fin 4) : List Nat := [Key.coreLastECAUSE c.val, Key.coreLastEPC c.val, Key.coreLastEVAL c.val, Key.coreTraps c.val]

theorem trapKeys_not_event (c : Fin 4) : ∀ k ∈ trapKeys c, k ∉ eventKeys := by revert c; decide
theorem programState_not_trapKey (c : Fin 4) : ∀ k ∈ trapKeys c, k ≠ Key.coreProgramState c.val := by revert c; decide
theorem trapAction_not_event (c : Fin 4) : Key.coreTrapAction c.val ∉ eventKeys := by revert c; decide

/-- What the record of a trap leaves of each value. -/
theorem get_recordTrap (s : State) (c : Fin 4) (k : Nat) (event : k ∉ eventKeys) : (s.recordTrap c).get k =
    if k = Key.coreTraps c.val then Int.ofNat (satSucc 32 (s.nat (Key.coreTraps c.val)))
    else if k = Key.coreLastEVAL c.val then Int.ofNat (s.cores[c]).eval.toNat
    else if k = Key.coreLastEPC c.val then Int.ofNat (s.cores[c]).epc.toNat
    else if k = Key.coreLastECAUSE c.val then Int.ofNat (s.cores[c]).ecause.toNat
    else s.get k := by
  have count : State.nat (((s.putW (Key.coreLastECAUSE c.val) (s.cores[c]).ecause).putW (Key.coreLastEPC c.val) (s.cores[c]).epc).putW
      (Key.coreLastEVAL c.val) (s.cores[c]).eval) (Key.coreTraps c.val) = s.nat (Key.coreTraps c.val) := by
    unfold State.nat
    rw [State.get_putW, State.get_putW, State.get_putW, if_neg key_ne, if_neg key_ne, if_neg key_ne]
  unfold State.recordTrap
  dsimp only
  rw [get_log _ _ _ _ _ _ _ event, State.get_bump, count, State.get_putW, State.get_putW, State.get_putW]

section
variable (s : State) (c : Fin 4)

theorem lastECAUSE_recordTrap : (s.recordTrap c).nat (Key.coreLastECAUSE c.val) = (s.cores[c]).ecause.toNat := by
  unfold State.nat
  rw [get_recordTrap _ _ _ (trapKeys_not_event c _ (by simp)), if_neg key_ne, if_neg key_ne, if_neg key_ne, if_pos rfl]
  rfl
theorem lastEPC_recordTrap : (s.recordTrap c).nat (Key.coreLastEPC c.val) = (s.cores[c]).epc.toNat := by
  unfold State.nat
  rw [get_recordTrap _ _ _ (trapKeys_not_event c _ (by simp)), if_neg key_ne, if_neg key_ne, if_pos rfl]
  rfl
theorem lastEVAL_recordTrap : (s.recordTrap c).nat (Key.coreLastEVAL c.val) = (s.cores[c]).eval.toNat := by
  unfold State.nat
  rw [get_recordTrap _ _ _ (trapKeys_not_event c _ (by simp)), if_neg key_ne, if_pos rfl]
  rfl
theorem traps_recordTrap : (s.recordTrap c).nat (Key.coreTraps c.val) = satSucc 32 (s.nat (Key.coreTraps c.val)) := by
  unfold State.nat
  rw [get_recordTrap _ _ _ (trapKeys_not_event c _ (by simp)), if_pos rfl]
  rfl
theorem trapAction_recordTrap : (s.recordTrap c).get (Key.coreTrapAction c.val) = s.get (Key.coreTrapAction c.val) := by
  rw [get_recordTrap _ _ _ (trapAction_not_event c), if_neg key_ne, if_neg key_ne, if_neg key_ne, if_neg key_ne]

end

/-- With trap action STOP the program is held as TRAPPED. -/
theorem trapAction_stop (s : State) (c : Fin 4) (stop : s.nat (Key.coreTrapAction c.val) = 0) : s.trapAction c = s.holdProgram c 4 := by
  unfold State.trapAction
  exact if_neg (by omega)

/-! ### Entry, record and action (R451, R456) -/

section
variable {s : State} {c : Fin 4} {t : Trap} (stoker : c ≠ 0) (user : (s.cores[c]).privileged = false)
include stoker user

/-- A trap in user mode: the stack sampled, the core's entry between accounting, and what the monitor does. -/
theorem raiseTrap_user (noGuard : t.code ≠ 9) (d : Fin 16) :
    ∃ m n, Accounts (s.sampleStack c) m ∧ Accounts (m.setCore c fun k => k.trapTaken (s.cores[c]).pc t) n
      ∧ s.raiseTrap c t d = (n.recordTrap c).trapAction c := by
  refine ⟨(((s.sampleStack c).passCycles c trapCycles).countEvent c 0x02 trapCycles).flushTagged c, _,
    ((Accounts.passCycles _ _ _).trans (Accounts.countEvent _ _ _ _)).trans (Accounts.flushTagged _ _), Accounts.countEvents _ c t.events, ?_⟩
  unfold State.raiseTrap
  dsimp only
  rw [if_neg stoker, if_neg (by rw [user]; decide), if_neg fun h => noGuard h.1]
  rfl

/-- Such a trap, with trap action STOP, is recorded and its program held. -/
theorem trapped_raiseTrap (stop : s.nat (Key.coreTrapAction c.val) = 0) (noGuard : t.code ≠ 9) (small : t.code < 2 ^ 32) (d : Fin 16) :
    Trapped s c t.code t.val (s.raiseTrap c t d) := by
  obtain ⟨m, n, before, after, raises⟩ := raiseTrap_user stoker user noGuard d
  have unmoved (k : Nat) (event : k ∉ eventKeys) (stack : k ≠ Key.coreStackLowWater c.val) : n.get k = s.get k :=
    (after.values k event).trans ((before.values k event).trans (get_sampleStack s c k stack))
  have action : (n.recordTrap c).nat (Key.coreTrapAction c.val) = 0 :=
    (nat_of ((trapAction_recordTrap n c).trans (unmoved _ (trapAction_not_event c) key_ne))).trans stop
  rw [raises, trapAction_stop _ _ action]
  have taken : (n.cores[c]).arch = ((m.cores[c]).trapTaken (s.cores[c]).pc t).arch :=
    (after.cores c).trans (congrArg Core.arch (State.cores_setCore_same _ _ _))
  have recorded (k : Nat) (listed : k ∈ trapKeys c) : ((n.recordTrap c).holdProgram c 4).nat k = (n.recordTrap c).nat k :=
    nat_putN_of_ne _ _ _ _ (programState_not_trapKey c k listed)
  have regs : (n.cores[c]).regs = (s.cores[c]).regs :=
    (congrArg Core.regs taken).trans ((before.regs c).trans (congrArg (fun v => v.1) (keepsProgram_sampleStack s c)))
  constructor
  case state => exact State.nat_putN_same _ _ _
  case ecause =>
    have code : (n.cores[c]).ecause = BitVec.ofNat 32 t.code := congrArg Core.ecause taken
    rw [recorded _ (by simp), lastECAUSE_recordTrap, code, BitVec.toNat_ofNat, Nat.mod_eq_of_lt small]
  case epc =>
    have epc : (n.cores[c]).epc = (s.cores[c]).pc := congrArg Core.epc taken
    rw [recorded _ (by simp), lastEPC_recordTrap, epc]
  case eval =>
    have val : (n.cores[c]).eval = t.val := congrArg Core.eval taken
    rw [recorded _ (by simp), lastEVAL_recordTrap, val]
  case count =>
    have before : n.nat (Key.coreTraps c.val) = s.nat (Key.coreTraps c.val) := nat_of (unmoved _ (trapKeys_not_event c _ (by simp)) key_ne)
    rw [recorded _ (by simp), traps_recordTrap, before]
  case held => rw [holdProgram_core]
  case regs =>
    rw [holdProgram_core]
    exact (congrArg Core.regs (arch_log _ c _ _ _ _ _)).trans regs
  case memory =>
    have entered : n.still = s.still := by
      rw [after.still, still_setCore, show ((m.cores[c]).trapTaken (s.cores[c]).pc t).rams = (m.cores[c]).rams from rfl, rams_set_self]
      exact before.still.trans (still_sampleStack s c)
    exact sameMemory_of_still ((still_holdProgram _ _ _).trans ((still_recordTrap n c).trans entered))

end

/-- What a trap leaves of a state that accounting has reached, it leaves of the state before. -/
theorem Trapped.after {s m t : State} {c : Fin 4} {code : Nat} {val : Word} (acc : Accounts s m) (h : Trapped m c code val t) :
    Trapped s c code val t where
  state := h.state
  ecause := h.ecause
  epc := h.epc.trans (congrArg BitVec.toNat (acc.pc c))
  eval := h.eval
  count := h.count.trans (congrArg (satSucc 32) (nat_of (acc.values _ (trapKeys_not_event c _ (by simp)))))
  held := h.held
  regs := h.regs.trans (acc.regs c)
  memory := by
    obtain ⟨bytes, fram⟩ := h.memory
    obtain ⟨bytes', fram'⟩ := sameMemory_of_still acc.still
    exact ⟨fun x y => (bytes x y).trans (bytes' x y), fram.trans fram'⟩

/-! ### The instructions that trap (R447, R453) -/

section
variable {s : State} {c : Fin 4} (stoker : c ≠ 0) (ready : CoreReady s c) (user : (s.cores[c]).privileged = false)
  (stop : s.nat (Key.coreTrapAction c.val) = 0)
include stoker ready user stop

/-- An instruction that raises an exception, as it runs. -/
theorem insn_trapped {w : Word} {uses : List (Fin 16)} {d : Fin 16} {f : State → Word → Ran} {code : Nat} {val : Word} (listed : code ≠ 9 ∧ code < 16)
    (raises : ∀ m, Accounts s m → f m (s.cores[c]).pc = .trap m ⟨code, val⟩) : Trapped s c code val (s.insn c w uses d f) := by
  obtain ⟨m, fetch, loadUse, _, _, acc, run⟩ := insn_ready s c w uses d f ready
  rw [run, raises m acc]
  have stalls := acc.trans (Accounts.stallTagged m c (stallWord fetch loadUse ⟨1, [], 0, 0⟩))
  have action := (nat_of (stalls.values _ (trapAction_not_event c))).trans stop
  have small : code < 2 ^ 32 := by omega
  exact (trapped_raiseTrap (t := ⟨code, val⟩) stoker ((stalls.privileged c).trans user) action listed.1 small d).after stalls

theorem answers_trapped {i : Instr} {w : Word} {uses : List (Fin 16)} {d : Fin 16} {f : State → Word → Ran} {code : Nat} {val : Word}
    (runs : exec i s = .next (s.insn c w uses d f)) (listed : code ≠ 9 ∧ code < 16)
    (raises : ∀ m, Accounts s m → f m (s.cores[c]).pc = .trap m ⟨code, val⟩) : Answers i s (Trapped s c code val) :=
  ⟨_, runs, insn_trapped stoker ready user stop listed raises⟩

/-- A load that its checks refuse. -/
theorem answers_load_trapped {i : Instr} {op w : Nat} {d a : Fin 16} {imm : BitVec 18} {ecc : Fin 3} {ext : Word → Word} {code : Nat} {val : Word}
    (runs : exec i s = .next (s.load c op w d a imm ecc ext)) (listed : code ≠ 9 ∧ code < 16)
    (traps : s.loadTrap c (s.addrOf c a imm) w = some ⟨code, val⟩) : Answers i s (Trapped s c code val) :=
  answers_trapped stoker ready user stop runs listed fun m acc => by
    dsimp only
    rw [acc.addrOf, acc.loadTrap, traps]

/-- A store that its checks refuse. -/
theorem answers_store_trapped {i : Instr} {op w : Nat} {d a : Fin 16} {imm : BitVec 18} {code : Nat} {val : Word}
    (runs : exec i s = .next (s.store c op w d a imm)) (listed : code ≠ 9 ∧ code < 16)
    (traps : s.storeTrap c (s.addrOf c a imm) w = some ⟨code, val⟩) : Answers i s (Trapped s c code val) :=
  answers_trapped stoker ready user stop runs listed fun m acc => by
    dsimp only
    rw [acc.addrOf, acc.storeTrap, traps]

theorem answers_shiftK_trapped {i : Instr} {op : Nat} {d a : Fin 16} {imm : BitVec 18} {f : Word → Word → Word}
    (runs : exec i s = .next (s.shiftK c op d a imm f)) (wide : 32 ≤ imm.toNat) : Answers i s (Trapped s c 1 (wordK op d a imm)) := by
  refine answers_trapped stoker ready user stop (runs.trans (congrArg Host.Outcome.next (if_neg (by omega)))) (by decide) fun m _ => rfl

theorem answers_xchg_misaligned {d a : Fin 16} {imm : BitVec 18} {ecc : Fin 3} (off : (s.addrOf c a imm) % 4 ≠ 0) :
    Answers (.xchg c d a imm ecc) s (Trapped s c 6 ((s.cores[c]).reg a + imm.signExtend 32)) :=
  answers_trapped stoker ready user stop rfl (by decide) fun m acc => by
    dsimp only
    rw [acc.addrOf, if_pos off, trapStoreAlign, State.addrOf, sext18, BitVec.ofNat_toNat, BitVec.setWidth_eq]

theorem answers_jlr_misaligned {d a : Fin 16} {imm : BitVec 18} (off : ((s.cores[c]).reg a + imm.signExtend 32).toNat % 4 ≠ 0) :
    Answers (.jlr c d a imm) s (Trapped s c 3 ((s.cores[c]).reg a + imm.signExtend 32)) :=
  answers_trapped stoker ready user stop rfl (by decide) fun m acc => by
    dsimp only
    rw [acc.reg]
    exact if_pos off

theorem answers_lui_illegal {d a : Fin 16} {imm : BitVec 18} (reserved : a ≠ 0) : Answers (.lui c d a imm) s (Trapped s c 1 (wordK 0x0A d a imm)) :=
  answers_trapped stoker ready user stop (congrArg Host.Outcome.next (if_neg reserved)) (by decide) fun m _ => rfl

theorem answers_signal_illegal {imm : BitVec 18} (reserved : 4 ≤ imm.toNat) : Answers (.signal c imm) s (Trapped s c 1 (wordK 0x33 0 0 imm)) :=
  answers_trapped stoker ready user stop rfl (by decide) fun m _ => if_pos reserved

theorem answers_swr_user {a : Fin 16} {imm : BitVec 18} : Answers (.swr c a imm) s (Trapped s c 2 (wordK 0x31 0 a imm)) :=
  answers_trapped stoker ready user stop rfl (by decide) fun m acc => if_pos ((acc.privileged c).trans user)

theorem answers_eret_user : Answers (.eret c) s (Trapped s c 2 (wordK 0x36 0 0 0)) :=
  answers_trapped stoker ready user stop rfl (by decide) fun m acc => if_pos ((acc.privileged c).trans user)

theorem answers_brk_locked {imm : BitVec 18} (locked : s.startup.debugOpen = false) : Answers (.brk c imm) s (Trapped s c 11 (imm.zeroExtend 32)) :=
  answers_trapped stoker ready user stop rfl (by decide) fun m acc => by
    rw [acc.debugOpen]
    exact if_neg (by rw [locked]; decide)

theorem runWord_illegal {ecc : Fin 3} {w : Word} (unlisted : instrOf c ecc w = none) : ∃ t, runWord c ecc w s = .next t ∧ Trapped s c 1 w t := by
  unfold runWord
  rw [unlisted]
  exact ⟨_, rfl, insn_trapped stoker ready user stop (by decide) fun m _ => rfl⟩

end

/-! ### The checks of an access (R443, R447) -/

section
variable {s : State} {c : Fin 4} {x : Word} {w : Nat}

theorem loadTrap_misaligned (off : x.toNat % w ≠ 0) : s.loadTrap c x.toNat w = some ⟨5, x⟩ := by
  unfold State.loadTrap
  rw [if_pos off, trapLoadAlign, BitVec.ofNat_toNat, BitVec.setWidth_eq]
theorem storeTrap_misaligned (off : x.toNat % w ≠ 0) : s.storeTrap c x.toNat w = some ⟨6, x⟩ := by
  unfold State.storeTrap
  rw [if_pos off, trapStoreAlign, BitVec.ofNat_toNat, BitVec.setWidth_eq]
theorem loadTrap_forbidden (user : (s.cores[c]).privileged = false) (denied : (s.cores[c]).permits x.toNat 0 = false) :
    s.loadTrap c x.toNat 1 = some ⟨7, x⟩ := by
  unfold State.loadTrap Core.mayAccess
  rw [if_neg (by omega), if_pos (by rw [user, denied]; rfl), trapLoadFault, BitVec.ofNat_toNat, BitVec.setWidth_eq]
theorem storeTrap_forbidden (user : (s.cores[c]).privileged = false) (denied : (s.cores[c]).permits x.toNat 1 = false) :
    s.storeTrap c x.toNat 1 = some ⟨8, x⟩ := by
  unfold State.storeTrap Core.mayAccess
  rw [if_neg (by omega), if_pos (by rw [user, denied]; rfl), trapStoreFault, BitVec.ofNat_toNat, BitVec.setWidth_eq]

end

/-- Settles O19: each instruction raises its exception (`answers_trapped`), and any exception of a user program with trap action STOP is recorded and
holds the program (`trapped_raiseTrap`). -/
theorem userTraps : Obligations.UserTraps := by
  unfold Obligations.UserTraps
  intro s c d a imm ecc stoker ready user stop sum
  refine ⟨fun off => ⟨?_, ?_, ?_, ?_⟩, fun off => ⟨?_, ?_, ?_⟩, fun denied => ⟨?_, ?_⟩, fun denied => ?_, fun wide => ⟨?_, ?_, ?_⟩, ?_, ?_, ?_, ?_, ?_, ?_⟩
  · exact answers_load_trapped stoker ready user stop rfl (by decide) (loadTrap_misaligned off)
  · exact answers_store_trapped stoker ready user stop rfl (by decide) (storeTrap_misaligned off)
  · exact answers_xchg_misaligned stoker ready user stop off
  · exact answers_jlr_misaligned stoker ready user stop off
  · exact answers_load_trapped stoker ready user stop rfl (by decide) (loadTrap_misaligned off)
  · exact answers_load_trapped stoker ready user stop rfl (by decide) (loadTrap_misaligned off)
  · exact answers_store_trapped stoker ready user stop rfl (by decide) (storeTrap_misaligned off)
  · exact answers_load_trapped stoker ready user stop rfl (by decide) (loadTrap_forbidden user denied)
  · exact answers_load_trapped stoker ready user stop rfl (by decide) (loadTrap_forbidden user denied)
  · exact answers_store_trapped stoker ready user stop rfl (by decide) (storeTrap_forbidden user denied)
  · exact answers_shiftK_trapped stoker ready user stop rfl wide
  · exact answers_shiftK_trapped stoker ready user stop rfl wide
  · exact answers_shiftK_trapped stoker ready user stop rfl wide
  · exact answers_lui_illegal stoker ready user stop
  · exact answers_signal_illegal stoker ready user stop
  · exact answers_swr_user stoker ready user stop
  · exact answers_eret_user stoker ready user stop
  · exact answers_brk_locked stoker ready user stop
  · exact fun w unlisted => runWord_illegal stoker ready user stop unlisted

end Sys2Proof.Machine
end

section
/-! SUPPORT. WAIT, its ends, and the entry of an interrupt in privileged mode (R449, R451, R462, R470), behind `Obligations.WaitsAndInterrupts`. -/

namespace Sys2Proof.Machine

open Sys2Proof

/-! ### What a fetch leaves of a core's pending sources (R470) -/

/-- What the pending word and the cycle of a core are read from. -/
def State.waitView (s : State) (c : Fin 4) : List (Nat × Int) × Vector Word 8 × Word × Nat :=
  (s.obj, (s.cores[c]).srcPend, (s.cores[c]).localCtrl, (s.cores[c]).cycle)

theorem pendingWord_of {s t : State} {c : Fin 4} (h : t.waitView c = s.waitView c) : t.pendingWord c = s.pendingWord c := by
  have obj : t.obj = s.obj := congrArg (fun v => v.1) h
  have sources : (t.cores[c]).srcPend = (s.cores[c]).srcPend := congrArg (fun v => v.2.1) h
  have enables : (t.cores[c]).localCtrl = (s.cores[c]).localCtrl := congrArg (fun v => v.2.2.1) h
  unfold State.pendingWord State.sourceLevel State.route State.nat State.get Core.pendingSource
  rw [obj, sources, enables]

theorem waitView_tagFetch (s : State) (c : Fin 4) (w : Word) : (s.tagFetch c w).waitView c = s.waitView c := by
  unfold State.tagFetch
  split
  · dsimp only
    split
    · rfl
    · unfold State.waitView
      rw [State.cores_setCore_same]
      rfl
  · rfl

/-- The cost of a fetch draws at most free values. -/
theorem waitView_fetchCost (s : State) (a : Nat) (c : Fin 4) : (s.fetchCost a).2.waitView c = s.waitView c := by
  have flash : s.xipCost.2.waitView c = s.waitView c := by
    unfold State.xipCost
    dsimp only
    split
    · rfl
    · rfl
  have load : (s.loadCost a).2.waitView c = s.waitView c := by
    unfold State.loadCost
    split
    case h_2 => exact flash
    all_goals rfl
  unfold State.fetchCost
  split
  · rfl
  · rfl
  · exact load

/-- A ready core's instruction finds its pending sources and its cycle as they stand. -/
theorem insn_fetched {s : State} {c : Fin 4} (ready : CoreReady s c) (w : Word) (u : List (Fin 16)) (d : Fin 16) (f : State → Word → Ran) :
    ∃ m fetch b1 b2 b3, Accounts s m ∧ m.waitView c = s.waitView c ∧ ∀ e, f m (s.cores[c]).pc = .done e →
      s.insn c w u d f = e.retire c fetch b1 b2 b3 := by
  obtain ⟨runs, fetches⟩ := ready
  have tagged := Accounts.tagFetch s c w
  refine ⟨((s.tagFetch c w).fetchCost (s.cores[c]).pc.toNat).2, ((s.tagFetch c w).fetchCost (s.cores[c]).pc.toNat).1,
    (s.cores[c]).loadDest.any (fun d => u.contains d), !(s.cores[c]).privileged, !(s.cores[c]).ie, tagged.trans (Accounts.fetchCost _ _),
    (waitView_fetchCost _ _ c).trans (waitView_tagFetch s c w), fun e done => ?_⟩
  unfold State.insn
  rw [if_pos runs]
  dsimp only
  rw [tagged.fetchTrap, fetches]
  dsimp only
  rw [done]

/-! ### WAIT and its ends (R449, R462) -/

/-- A WAIT has ended: `v` is in w[d], the core goes on at the next word. -/
structure WaitEnded (s : State) (c : Fin 4) (d : Fin 16) (v : Word) (t : State) : Prop where
  regs    : (t.cores[c]).regs = ((s.cores[c]).wrote d v (s.cores[c]).pc).regs
  pc      : (t.cores[c]).pc = (s.cores[c]).pc + 4
  waiting : (t.cores[c]).waiting = none
  memory  : t.still = s.still

/-- The core that a WAIT's end leaves. -/
def Core.waitOver (k : Core) (d : Fin 16) (v : Word) : Core := { k.wrote d v (k.pc + 4) with waiting := none }

theorem keepsArch_waitOver (d : Fin 16) (v : Word) : KeepsArch fun k => k.waitOver d v := .of _ fun _ => rfl
theorem arch_waitOver (k : Core) (d : Fin 16) (v : Word) :
    ({ ({ k with waiting := none } : Core).setReg d v with pc := k.pc + 4 } : Core).arch = (k.waitOver d v).arch := by
  unfold Core.waitOver Core.setReg Core.wrote
  split
  · rfl
  · rfl

theorem waitEnded_of {s t : State} {c : Fin 4} {d : Fin 16} {v : Word} (core : (t.cores[c]).arch = ((s.cores[c]).waitOver d v).arch)
    (memory : t.still = s.still) : WaitEnded s c d v t where
  regs := (congrArg Core.regs core).trans rfl
  pc := (congrArg Core.pc core).trans rfl
  waiting := (congrArg Core.waiting core).trans rfl
  memory := memory

theorem waitOver_idle {k : Core} (idle : k.waiting = none) (d : Fin 16) (v : Word) : k.waitOver d v = k.wrote d v (k.pc + 4) := by
  unfold Core.waitOver Core.wrote
  rw [← idle]

theorem still_setCore_of_rams {s : State} {c : Fin 4} (f : Core → Core) (rams : (f s.cores[c]).rams = (s.cores[c]).rams) :
    (s.setCore c f).still = s.still := by
  rw [still_setCore, rams, rams_set_self]
  rfl

/-- The end of a WAIT, on a state that accounting has reached. -/
theorem waitEnded_endWait {s m : State} (acc : Accounts s m) (c : Fin 4) (w : Waiting) (v : Word) (n : Nat) :
    WaitEnded s c w.dest v (m.endWait c w v n) := by
  unfold State.endWait
  dsimp only
  generalize passed : m.passCyclesAs c _ _ _ true = u
  have counts : Accounts s u := by
    rw [← passed]
    exact acc.trans (Accounts.passCyclesAs _ _ _ _ _ _)
  obtain ⟨t, becomes, retires⟩ := retire_post
    { s := u.setCore c (fun k => ({ k with waiting := none } : Core).setReg w.dest v), next := (m.cores[c]).pc + 4, cost := ⟨0, [], 7, 0⟩ }
    c ⟨0, [], 7, 0⟩ false false false rfl
  have core : (t.cores[c]).arch = ((u.cores[c]).waitOver w.dest v).arch := by
    have next : (m.cores[c]).pc = (u.cores[c]).pc := (acc.pc c).trans (counts.pc c).symm
    have ended := becomes.core
    dsimp only at ended
    rw [State.cores_setCore_same, next] at ended
    exact ended.trans (arch_waitOver _ _ _)
  have memory : t.still = u.still := by
    rw [becomes.still rfl]
    exact still_setCore_of_rams _ (rams_setReg _ _ _)
  rw [retires]
  exact waitEnded_of (core.trans (keepsArch_waitOver _ _ _ _ (counts.cores c))) (memory.trans counts.still)

section
variable {s : State} {c : Fin 4}

/-- WAIT with a masked bit pending ends at once. -/
theorem answers_wait_ends (ready : CoreReady s c) (d a : Fin 16) (imm : BitVec 18) (pending : s.pendingWord c &&& (s.cores[c]).reg a ≠ 0) :
    Answers (.wait c d a imm) s (WaitEnded s c d (s.pendingWord c &&& (s.cores[c]).reg a)) := by
  obtain ⟨m, fetch, b1, b2, b3, acc, view, ends⟩ := insn_fetched ready (wordK 0x32 d a imm) [a] d _
  have idle : (s.cores[c]).waiting = none := by
    obtain ⟨runs, -⟩ := ready
    unfold State.canRun at runs
    simp only [Bool.and_eq_true, Option.isNone_iff_eq_none] at runs
    exact runs.1.1.2
  obtain ⟨t, becomes, retires⟩ := retire_post
    { s := (m.sampleStack c).setCore c (fun k => k.setReg d (s.pendingWord c &&& (s.cores[c]).reg a)), next := (s.cores[c]).pc + 4 } c fetch b1 b2 b3 rfl
  refine ⟨t, congrArg Host.Outcome.next ((ends _ ?_).trans retires), waitEnded_of ?_ ?_⟩
  · dsimp only
    rw [pendingWord_of view, acc.reg, if_pos pending]
  · have same : ((m.sampleStack c).cores[c]).arch = (s.cores[c]).arch := (arch_sampleStack m c).trans (acc.cores c)
    have core := becomes.core
    dsimp only at core
    rw [State.cores_setCore_same] at core
    rw [core, arch_pc (arch_setReg same _ _), arch_wrote, waitOver_idle idle]
  · rw [becomes.still rfl]
    exact (still_setCore_of_rams _ (rams_setReg _ _ _)).trans ((still_sampleStack m c).trans acc.still)

/-- Without one the core stands at its WAIT. -/
theorem answers_wait_waits (ready : CoreReady s c) (d a : Fin 16) (imm : BitVec 18) (quiet : s.pendingWord c &&& (s.cores[c]).reg a = 0) :
    Answers (.wait c d a imm) s fun t => (t.cores[c]).regs = (s.cores[c]).regs ∧ (t.cores[c]).pc = (s.cores[c]).pc
      ∧ (t.cores[c]).waiting = some ⟨d, (s.cores[c]).reg a, imm.toNat, (s.cores[c]).cycle⟩ ∧ t.still = s.still := by
  obtain ⟨m, fetch, b1, b2, b3, acc, view, ends⟩ := insn_fetched ready (wordK 0x32 d a imm) [a] d _
  obtain ⟨u, becomes, retires⟩ := retire_post
    { s := m.sampleStack c, next := (s.cores[c]).pc, retires := false,
      post := fun t => t.setCore c fun q => { q with waiting := some ⟨d, (s.cores[c]).reg a, imm.toNat, (s.cores[c]).cycle⟩ } } c fetch b1 b2 b3 rfl
  have cycle : (m.cores[c]).cycle = (s.cores[c]).cycle := congrArg (fun v => v.2.2.2) view
  refine ⟨_, congrArg Host.Outcome.next ((ends _ ?_).trans retires), ?_⟩
  · dsimp only
    rw [pendingWord_of view, acc.reg, cycle, if_neg (not_not.2 quiet)]
  · have same : ((m.sampleStack c).cores[c]).arch = (s.cores[c]).arch := (arch_sampleStack m c).trans (acc.cores c)
    have core : (u.cores[c]).arch = (s.cores[c]).arch := becomes.core.trans (arch_pc same _)
    refine ⟨?_, ?_, ?_, ?_⟩
    · rw [State.cores_setCore_same]
      exact (congrArg Core.regs core).trans rfl
    · rw [State.cores_setCore_same]
      exact (congrArg Core.pc core).trans rfl
    · rw [State.cores_setCore_same]
    · exact (still_setCore_of_rams _ rfl).trans ((becomes.still rfl).trans ((still_sampleStack m c).trans acc.still))

variable {w : Waiting} (runs : s.clocksRun = true) (waits : (s.cores[c]).waiting = some w)
include runs waits

theorem answers_waitEnd (n : Nat) (pending : s.pendingWord c &&& w.mask ≠ 0) :
    Answers (.waitEnd c n) s (WaitEnded s c w.dest (s.pendingWord c &&& w.mask)) := by
  have ends : exec (.waitEnd c n) s = .next (s.eventWake.endWait c w (s.pendingWord c &&& w.mask) n) := by
    refine congrArg Host.Outcome.next ?_
    rw [waits]
    exact if_pos ⟨runs, pending⟩
  exact ⟨_, ends, waitEnded_endWait (Accounts.eventWake s) c w _ n⟩

theorem answers_waitTimeout (limited : w.timeout ≠ 0) :
    Answers (.waitTimeout c) s (WaitEnded s c w.dest (s.pendingWord c &&& w.mask)) := by
  have ends : exec (.waitTimeout c) s = .next (s.eventWake.endWait c w (s.pendingWord c &&& w.mask) w.timeout) := by
    refine congrArg Host.Outcome.next ?_
    rw [waits]
    exact if_pos ⟨runs, limited⟩
  exact ⟨_, ends, waitEnded_endWait (Accounts.eventWake s) c w _ w.timeout⟩

end

/-! ### Interrupts (R451, R455) -/

/-- No program's stack is sampled in privileged mode (R464). -/
theorem sampleStack_privileged {s : State} {c : Fin 4} (privileged : (s.cores[c]).privileged = true) : s.sampleStack c = s := by
  unfold State.sampleStack
  dsimp only
  split
  · rfl
  · exact if_pos (.inr privileged)

/-- A core as an interrupt of level `p` enters it; what EVAL then holds is free (R451). -/
def Core.interrupted (k : Core) (p : Nat) (eval : Word) : Core :=
  { (k.enterTrap k.pc (BitVec.ofNat 32 (0x80000000 + p)) eval (0x80 + 4 * p)) with waiting := none, loadDest := none }

theorem keepsArch_interrupted (p : Nat) (eval : Word) : KeepsArch fun k => k.interrupted p eval := .of _ fun _ => rfl

section
variable {s : State} {c : Fin 4} {p : Fin 32} (set : (s.pendingWord c &&& (s.cores[c]).prioMask).getLsbD p.val = true)
  (highest : ∀ q : Fin 32, p < q → (s.pendingWord c &&& (s.cores[c]).prioMask).getLsbD q.val = false)
include set highest

/-- The level taken is the highest that is pending and enabled. -/
theorem takenLevel_highest : s.takenLevel c = some p.val := by
  have first : (List.range 32).find? (fun i => (s.pendingWord c &&& (s.cores[c]).prioMask).getLsbD (31 - i)) = some (31 - p.val) := by
    rw [List.find?_range_eq_some]
    have here : 31 - (31 - p.val) = p.val := by omega
    refine ⟨by rw [here]; exact set, List.mem_range.2 (by omega), fun j below => ?_⟩
    have above := highest ⟨31 - j, by omega⟩ (Fin.lt_def.2 (by simp only; omega))
    simp only at above
    rw [above]
    rfl
  unfold State.takenLevel
  dsimp only
  rw [List.find?_map]
  exact (congrArg (Option.map fun i => 31 - i) first).trans (congrArg some (by omega : 31 - (31 - p.val) = p.val))

/-- The entry of an interrupt on a core in privileged mode: EPC, ECAUSE, STATUS and the vector of its level. -/
theorem answers_interruptEntry (runs : s.clocksRun = true) (free : (s.cores[c]).held = false) (noHalt : (s.cores[c]).debugHalt = false)
    (program : c ≠ 0 → (s.cores[c]).running.isSome = true) (enabled : (s.cores[c]).ie = true) (privileged : (s.cores[c]).privileged = true) :
    Answers (.interruptEntry c) s fun t => ∃ eval, (t.cores[c]).arch = ((s.cores[c]).interrupted p.val eval).arch ∧ t.still = s.still := by
  have may : (s.clocksRun && !(s.cores[c]).held && !(s.cores[c]).debugHalt && (c == 0 || (s.cores[c]).running.isSome) && (s.cores[c]).ie) = true := by
    have present : (c == 0 || (s.cores[c]).running.isSome) = true := by
      by_cases hearth : c = 0
      · rw [beq_iff_eq.2 hearth, Bool.true_or]
      · rw [program hearth, Bool.or_true]
    rw [runs, free, noHalt, present, enabled]
    rfl
  have enters : exec (.interruptEntry c) s = .next (State.countEvent ((((s.freeWord.2.passCycles c trapCycles).countEvent c 0x02
      trapCycles).flushTagged c).setCore c fun k => k.interrupted p.val s.freeWord.1) c 0x07 1) := by
    refine congrArg Host.Outcome.next ?_
    dsimp only
    rw [takenLevel_highest set highest, sampleStack_privileged privileged]
    dsimp only
    rw [may, if_neg (by decide), if_pos (.inl privileged)]
    rfl
  have before : Accounts s (((s.freeWord.2.passCycles c trapCycles).countEvent c 0x02 trapCycles).flushTagged c) :=
    (Accounts.free s _).trans (((Accounts.passCycles _ _ _).trans (Accounts.countEvent _ _ _ _)).trans (Accounts.flushTagged _ _))
  refine ⟨_, enters, s.freeWord.1, ?_, ?_⟩
  · exact ((Accounts.countEvent _ c 0x07 1).becomes c).core.trans (before.becomes_setCore c (keepsArch_interrupted _ _)).core
  · exact (still_countEvent _ _ _ _).trans ((still_setCore_of_rams _ rfl).trans before.still)

end

/-- Settles O18: WAIT and its ends leave `WaitEnded` or a core that waits; the entry of the highest level (`takenLevel_highest`) leaves
`Core.interrupted`. -/
theorem waitsAndInterrupts : Obligations.WaitsAndInterrupts := by
  unfold Obligations.WaitsAndInterrupts
  intro s c d a imm k
  have ended : ∀ {d v t}, WaitEnded s c d v t → (t.cores[c]).regs = (k.wrote d v k.pc).regs ∧ (t.cores[c]).pc = k.pc + 4
      ∧ (t.cores[c]).waiting = none ∧ s.SameMemory t := fun h => ⟨h.regs, h.pc, h.waiting, sameMemory_of_still h.memory⟩
  refine ⟨fun ready => ⟨fun pending => ?_, fun quiet => ?_⟩, fun w n runs waits => ⟨fun pending => ?_, fun quiet limited => ?_⟩,
    fun p runs free noHalt program enabled privileged set highest => ?_⟩
  · exact (answers_wait_ends ready d a imm pending).mono fun t h => ended h
  · exact (answers_wait_waits ready d a imm quiet).mono fun t ⟨regs, pc, waiting, memory⟩ => ⟨regs, pc, waiting, sameMemory_of_still memory⟩
  · exact (answers_waitEnd runs waits n pending).mono fun t h => ended h
  · have timeout := answers_waitTimeout runs waits limited
    rw [quiet] at timeout
    exact timeout.mono fun t h => ended h
  · refine (answers_interruptEntry set highest runs free noHalt program enabled privileged).mono fun t ⟨eval, core, memory⟩ => ?_
    have status : (k.interrupted p.val eval).status = statusOf true true true false := by
      show statusOf k.privileged true k.ie false = _
      rw [privileged, enabled]
    exact ⟨(congrArg Core.epc core).trans rfl, (congrArg Core.ecause core).trans rfl, (congrArg Core.status core).trans status,
      (congrArg Core.pc core).trans rfl, (congrArg Core.waiting core).trans rfl, (congrArg Core.regs core).trans rfl, sameMemory_of_still memory⟩

end Sys2Proof.Machine
end
